-- ==== Sys2Proof/Word.lean ====
section
/-! DEFINITION. The word types of the NL8430: bytes and the two register widths that a host reads whole. -/

namespace Sys2Proof

/-- One byte of a frame, a payload, a record or a register window (R8). -/
abbrev Byte := BitVec 8

/-- A 16-bit field: a status code, a sequence number, an opcode (R219). -/
abbrev Half := BitVec 16

/-- A 32-bit field: a line counter, the RTC, an address (R289, R389). -/
abbrev Word := BitVec 32

/-- Hub time: a 48-bit count of microseconds (R72). -/
abbrev Time := BitVec 48

end Sys2Proof
end

