-- ==== Sys2Proof/Syntax.lean ====
section
/-! DEFINITION. The commands of the NL8430: one constructor for each row of spec/opcode_table.json, with the operands
the spec's text gives the operation or event. The table itself gives no operand bits. -/

namespace Sys2Proof

/-- The link, connection or port that a mailbox frame or raw stream arrives on (R183, R199, R207, R242). -/
inductive Link where
  | debug
  | i2c
  | uart
  | usb
  | conn (id : Nat)
deriving DecidableEq, Repr

/-- Where an open message is: that of a link, or one that a context keeps after its session has closed (R213, R232, R236). -/
inductive MsgPlace where
  | link (link : Link)
  | context (ctx : Fin 12)
deriving DecidableEq, Repr

/-- One sequence-accepted request of a host: what is left of a frame after admission steps 1 to 7 (R219, R228). -/
structure Req where
  link : Link
  ctx : Fin 12
  seq : Half
  more : Bool
  payload : List Byte
deriving DecidableEq, Repr

/-- An IP address. Octet i in transmission order lies in bits 8i + 7 to 8i, as NET_IPV4_ADDR gives it (the network parameters,
R205, R323). -/
inductive IpAddr where
  | v4 (a : Word)
  | v6 (a : BitVec 128)
deriving DecidableEq, Repr

/-- An address of the part that comes to be bound, changes or is lost (R206, R213): its IPv4 address, its global IPv6 address, or
its IPv6 link-local one. -/
inductive AddrEvent where
  | ipv4 (a : Option Word)
  | ipv6 (a : Option (BitVec 128))
  | ipv6Local (a : Option (BitVec 128))
deriving DecidableEq, Repr

/-- The code that each of the 27 channels would read in a tick: with the LEDs dark, and with its slot's LED lit (R465, R471). -/
structure Sampled where
  dark : List (BitVec 12)
  lit : List (BitVec 12)
deriving DecidableEq, Repr

/-- How a sensor bus transaction ended (R474, R476). A frame comes with the time in us from the transaction's turn on an I2C bus
to the START of its read phase (R475). -/
inductive BusEnd where
  | frame (bytes : List Byte) (readAfter : Nat)
  | nack
  | arbLost
deriving DecidableEq, Repr

/-- What the FADC sees of one drop, in codes: the 16 samples before time 0, and the window's samples behind the three that
come before it (chapter 15, "One nozzle test"). -/
structure Shadow where
  before : List (BitVec 8)
  win : List (BitVec 8)
deriving DecidableEq, Repr

/-- A set-up of the drop gate: the baseline at each LED current that was searched, and the empty windows (R439). -/
structure GateSeen where
  base : List (BitVec 8)
  empty : List Shadow
deriving DecidableEq, Repr

/-- One drop-gate test of a scan: the nozzle, and its drops (R440). -/
structure NozTest where
  die : Fin 4
  col : Fin 4
  idx : Fin 528
  drops : List Shadow
deriving DecidableEq, Repr

/-- How a mechanism operation ended, seen from outside the core (R310, R447). -/
inductive MechEnd where
  | ok
  | motor (m : Fin 3)
  | home (m : Fin 3)
  | paper
  | aborted
  | rail
deriving DecidableEq, Repr

/-- One repeat of HEAD_ENERGY: the sums of the 16 codes of channel 24 before and after the energy run, and before and after
the reference run; and as it started, channel 24's code and whether the ceiling detector was tripped (R506). -/
structure HeadRun where
  v1 : Nat
  v2 : Nat
  ref1 : Nat
  ref2 : Nat
  start : BitVec 12
  trip : Bool
deriving DecidableEq, Repr

/-- What HEAD_ENERGY measured: the gate's set-up, the probes of each sample nozzle column by column, the die's temperature
code at step 3, the repeats, and the verify tests of column A's sample nozzles (R506, R508). -/
structure HeadMeas where
  gate : GateSeen
  probes : List (List (List Shadow))
  tempCode : Nat
  runs : List HeadRun
  verify : List (List Shadow)
deriving DecidableEq, Repr

/-- What the measurement of a calibration gave (R498): each repeat run and the verify run, as the mean at each of its points.
For a converter and the FADC a mean code in 1/65,536 code at each of the two points, for AO_RC the count of AO cycles in the
window, for the LEDs the current at each of the four points in nA. `tCal` is the calibration temperature (R511), `fail` a
mechanism's failure, and `head` what HEAD_ENERGY measured. -/
structure CalMeas where
  runs : List (List Int)
  verify : List Int
  tCal : Int
  fail : Option MechEnd
  head : HeadMeas
deriving DecidableEq, Repr

/-- A read of DATA_OUT: the length n that the host names with PEC on, and the bytes that it clocks out, the PEC and what is past it
among them (R186). With PEC off no length is named. -/
structure DataRead where
  n : Byte
  count : Nat
deriving DecidableEq, Repr

/-- A USB control request: bmRequestType, bRequest, wValue, wIndex and wLength (R200). -/
structure Setup where
  reqType : Byte
  request : Byte
  value : Half
  index : Half
  length : Half
deriving DecidableEq, Repr

/-- New levels on an encoder's inputs: the FIRE cycles for which they have stood, and the cycle at which they are decoded
(R387). -/
structure EncSeen where
  held : Nat
  cycle : Nat
deriving DecidableEq, Repr

/-- The commands of the part. Each is one whole step of the table. -/
inductive Instr where
  -- supplies, resets and clocks
  | vaoGoodRise (asel : BitVec 2)
  | vaoGoodClear
  | vioLow
  | vioGood
  | nrstLow (ns : Nat)
  | watchdogExpiry
  | clockFail
  | clkfailRetry (good : Bool)
  | rstoutMinExpiry
  | mainDomainRelease (testmode : Bool)
  | ceholeReady (pdCls : BitVec 3)
  | trstNLow
  | aoTrim (cycles : Nat)
  | xo32Qualified
  | xo32Lost
  | xo32QualifyTimeout
  | rtcSecond
  -- power states
  | dozeIdleExpiry
  | napIdleExpiry
  | pstateEntryBegin
  | hibIdleExpiry
  | napLimitExpiry
  | wkDebounce (pin : Fin 6) (level : Bool)
  | phyEnergyDetect
  | usbResume
  | warmReady (pdCls : BitVec 3)
  | pwrVioWaitExpiry
  | reedRefuse (addr : Byte)
  | hostPortHandover
  | hostPortTakeback
  -- the host register window
  | dataIn (bytes : List Byte) (pec : Option Byte)
  | doorbell (value : Byte) (pec : Option Byte)
  | dbDone
  | dataOut (read : DataRead)
  | irqStatusClear (value : Byte) (pec : Option Byte)
  | inFlush (pec : Option Byte)
  | outRewind (pec : Option Byte)
  | outSkip (pec : Option Byte)
  | notifLostRead
  | registerWrite (ptr : Byte) (bytes : List Byte) (pec : Option Byte)
  -- UART and USB
  | uartLinkFrame (body : List Byte) (closed stopBitsOk : Bool)
  | uartFrameGapExpiry
  | uartCtsChange (high : Bool)
  | usbBulkOut (bytes : List Byte)
  | usbInterruptReport
  | getPortStatus
  | softReset
  | usbClassRequestStall (request : Byte)
  | usbBusReset
  | usbVbusFall
  | usbVbusRise
  | usbSuspend
  | rawJobRecord (link : Link) (bytes : List Byte)
  -- network
  | ethLinkChange (up hundred full : Bool)
  | tcpConnect (raw : Bool) (id : Nat) (source dest : IpAddr)
  | tcpClose (id : Nat)
  | sessionProveTimeout (id : Nat)
  | netSessionIdleExpiry (ctx : Fin 12)
  | linkLossGraceExpiry
  | addressChange (e : AddrEvent)
  | dhcpLinkLocalFallback (addr : Word)
  | icmpEcho
  | udpDatagram
  | lldpduReceived (ttl : Nat) (pse : Nat)
  | lldpTx
  | lldpTtlExpiry
  -- the mailbox
  | mailboxFrame (link : Link) (bytes : List Byte)
  | mbxFragTimeout (place : MsgPlace)
  | responseDelivered (link : Link)
  -- system family
  | sysIdent (r : Req)
  | sysReset (r : Req)
  | sysResetApply
  | sysCounters (r : Req)
  | sysTime (r : Req)
  | sysRtcSet (r : Req)
  | sysEcho (r : Req)
  -- parameter family
  | paramRead (r : Req)
  | paramWrite (r : Req)
  | paramCommit (r : Req)
  | paramRevert (r : Req)
  | paramDefaults (r : Req)
  | paramInfo (r : Req)
  | profileApply (r : Req)
  -- job family
  | jobSubmit (r : Req)
  | jobSubmitRaster (r : Req)
  | jobStatus (r : Req)
  | jobCancel (r : Req)
  | jobHold (r : Req)
  | jobRelease (r : Req)
  | jobList (r : Req)
  | jobPriority (r : Req)
  -- hub family
  | hubValues (r : Req)
  | hubRecords (r : Req)
  | hubSlotSet (r : Req)
  | hubDescSet (r : Req)
  | hubDetectorSet (r : Req)
  | hubConfigRead (r : Req)
  | hubSubscribe (r : Req)
  | hubStatus (r : Req)
  | hubStickyClear (r : Req)
  | hubRecordsAck (r : Req)
  -- power family
  | pwrStateSet (r : Req)
  | pwrStateQuery (r : Req)
  | pwrOn (r : Req)
  | pwrOff (r : Req)
  | seqStatus (r : Req)
  | pwrRtcAlarm (r : Req)
  | dischHold (r : Req)
  -- calibration family
  | calStart (r : Req)
  | calStatus (r : Req)
  | calAbort (r : Req)
  -- nozzle and maintenance family
  | nozScan (r : Req)
  | nozMapRead (r : Req)
  | nozMark (r : Req)
  | serviceRun (r : Req)
  | fireCountRead (r : Req)
  | feed (r : Req)
  | mechStatus (r : Req)
  -- log family
  | logInfo (r : Req)
  | logRead (r : Req)
  | faultRead (r : Req)
  | snapshotRead (r : Req)
  | logClear (r : Req)
  -- one-time memory family
  | otpRead (r : Req)
  | otpProgram (r : Req)
  | otpKeyProgram (r : Req)
  | otpSeal (r : Req)
  | otpLock (r : Req)
  | otpShadow (r : Req)
  | otpStatus (r : Req)
  | lifecycleAdvance (r : Req)
  | returnChallenge (r : Req)
  | returnNonceExpiry
  -- storage family
  | storeInfo (r : Req)
  | profileStore (r : Req)
  | profileErase (r : Req)
  | profileInfo (r : Req)
  | objectStore (r : Req)
  | objectErase (r : Req)
  | objectList (r : Req)
  | nvmWear (r : Req)
  | patchStore (r : Req)
  -- network and rights families
  | sessionOpen (r : Req)
  | sessionProve (r : Req)
  | sessionClose (r : Req)
  | netStatus (r : Req)
  | netSessionEnd (r : Req)
  | rightsSet (r : Req)
  | rightsGet (r : Req)
  -- the debug port
  | extest
  | samplePreload
  | idcode
  | highz
  | auth
  | svc (frame : List Byte)
  | coreDbg
  | bypass (code : BitVec 5)
  | reqService
  | reqCore
  | respond (hmac : List Byte)
  | close
  | authVerifyDone
  | authBackoffExpiry
  | dbgIdleClose
  -- the rail sequencer
  | seqOnDelayExpiry (ch : Fin 8)
  | pgGood (ch : Fin 8)
  | pgTimeout (ch : Fin 8)
  | railFault (ch : Fin 8) (pgLevels : BitVec 8)
  | hisTrip (row : Fin 2) (both : Bool)
  | seqOffDelayExpiry
  | wffTimeout
  | minOffExpiry
  | retryCountReset
  | vinfailTrip
  | vinfailRelease
  | vinfailRise
  | holdupWriteDone (complete : Bool)
  | droneRise
  | droneReassert
  | droneTimeout
  | droneAbort
  | faultRecordWritten
  -- energy and the scheduler
  | dischTimeout
  | dischRelease
  | chgGateSlot
  | accountingWindowEnd
  | ticketResume
  | feedRestart
  | renderWaitExpiry
  | bulkAgeExpiry (job : Nat)
  -- position and motion
  | encoderEdge (enc : Fin 2) (a b : Bool) (t : EncSeen)
  | lateLimitExpiry
  | indexEdge (enc : Fin 2) (level : Bool) (t : EncSeen)
  | lineBoundary (t steps : Nat)
  | fireCountUpdate
  | encStillExpiry
  | resyncFeedDone
  | cutPositionReached
  | cutHomeSeen (level : Bool)
  | cutHomeTimeout
  | homingDone (m : Fin 2) (level : Bool)
  | sledHomeTimeout
  | motorFault (m : Fin 3)
  | motorFltRelease (m : Fin 3)
  | motorEnIdleExpiry (m : Fin 3)
  -- the sensor hub
  | hubTick (codes : Sampled) (held : Bool)
  | hubBusComplete (spi : Bool) (result : BusEnd)
  | hubI2cTimeout
  | hubI2cBackoffExpiry
  -- nozzle health and service
  | nozScanDone (gates : List GateSeen) (tests : List NozTest) (result : MechEnd)
  | serviceRunDone (result : MechEnd)
  | feedDone (fed : Nat) (result : MechEnd)
  | serviceWaitTimeout (gates : List GateSeen) (tests : List NozTest)
  | nozMapWrite
  -- calibration
  | calDone (m : CalMeas)
  | calOtpStore
  | calWaitTimeout
  -- the renderer
  | renderStart
  | renderResume
  | renderDone
  -- the event log
  | logFlush
  | logFlushIntervalExpiry
  | logCtrlWrite
  -- the analog supply and the remaining ports
  | vddaLow
  | vddaReturn
  | coreDebugReset
  | usbStandardRequest (setup : Setup)
deriving DecidableEq, Repr

end Sys2Proof
end

