-- ==== Sys2Proof/Decode.lean ====
section
/-! DEFINITION. The command that a word of spec/opcode_table.json spells. No row of the table gives bits, so no word
spells a command. -/

namespace Sys2Proof

/-- The table gives none of its 227 rows any bits, so a word of `nbits` bits spells no command. -/
def decodeTableWord (_nbits _w : Nat) : Option Instr := none

end Sys2Proof
end

