-- ==== Sys2Proof/Machine/Bits.lean ====
section
/-! DEFINITION. Byte order, fields of byte strings, and the small list operations that the registers, records and
payloads of the part are built from. -/

namespace Sys2Proof.Machine

/-- The `n` bytes of a number, least significant first (R8). -/
def leBytes : Nat → Nat → List Byte
  | 0, _ => []
  | n + 1, v => BitVec.ofNat 8 v :: leBytes n (v / 256)

/-- The number that bytes spell, least significant first (R8). -/
def ofLe : List Byte → Nat
  | [] => 0
  | b :: bs => b.toNat + 256 * ofLe bs

/-- The `n` bytes of a number, most significant first, as the octet strings of the cited standards are written. -/
def beBytes (n v : Nat) : List Byte := (leBytes n v).reverse

/-- The number that bytes spell, most significant first. -/
def ofBe (bs : List Byte) : Nat := bs.foldl (fun acc b => acc * 256 + b.toNat) 0

/-- Byte `i` of a byte string, 0 beyond its end. -/
def byteAt (bs : List Byte) (i : Nat) : Byte := bs.getD i 0

/-- `len` bytes from offset `off`. -/
def slice (bs : List Byte) (off len : Nat) : List Byte := (bs.drop off).take len

/-- The little-endian field of `len` bytes at offset `off`. -/
def fieldAt (bs : List Byte) (off len : Nat) : Nat := ofLe (slice bs off len)

/-- A number read as a two's-complement field of `bits` bits. -/
def signedOf (bits v : Nat) : Int :=
  let u := v % 2 ^ bits
  if 2 ^ (bits - 1) ≤ u then (u : Int) - ((2 ^ bits : Nat) : Int) else (u : Int)

/-- The two's-complement pattern of an integer in `bits` bits. -/
def patternOf (bits : Nat) (v : Int) : Nat := (v % ((2 ^ bits : Nat) : Int)).toNat

/-- The little-endian signed field of `len` bytes at offset `off`. -/
def signedAt (bs : List Byte) (off len : Nat) : Int := signedOf (8 * len) (fieldAt bs off len)

/-- The integer square root of a number below 2^32. -/
def isqrt (n : Nat) : Nat := (List.range 16).foldl (fun r i => if (r + 2 ^ (15 - i)) ^ 2 ≤ n then r + 2 ^ (15 - i) else r) 0

/-- Bytes as zero. -/
def zeros (n : Nat) : List Byte := List.replicate n 0

/-- Bytes padded with zeros to `n`, cut there when longer. -/
def padTo (n : Nat) (bs : List Byte) : List Byte := bs.take n ++ zeros (n - bs.length)

def b8 (n : Nat) : Byte := BitVec.ofNat 8 n
def b16 (n : Nat) : List Byte := leBytes 2 n
def b32 (n : Nat) : List Byte := leBytes 4 n
def b48 (n : Nat) : List Byte := leBytes 6 n
def b64 (n : Nat) : List Byte := leBytes 8 n

/-- One bit of a flag byte. -/
def flagBit (b : Bool) (n : Nat) : Nat := if b then 2 ^ n else 0

/-- A mask from its listed bits. -/
def maskOf (bits : List Bool) : Nat :=
  match bits with
  | [] => 0
  | b :: bs => (if b then 1 else 0) + 2 * maskOf bs

/-- The positions below `n` whose bit is set. -/
def bitsOf (n v : Nat) : List Nat := (List.range n).filter (fun i => v.testBit i)

/-- How many of the low `n` bits are set. -/
def popCount : Nat → Nat → Nat
  | 0, _ => 0
  | n + 1, v => v % 2 + popCount n (v / 2)

/-- An element by index in an ascending association list. -/
def find? {α : Type} (m : List (Nat × α)) (k : Nat) : Option α := (m.find? (fun p => p.1 == k)).map (·.2)

/-- Set a key of an ascending association list, keeping the keys ascending and without repeats. -/
def assocSet {α : Type} : List (Nat × α) → Nat → α → List (Nat × α)
  | [], k, v => [(k, v)]
  | (k', v') :: m, k, v =>
    if k < k' then (k, v) :: (k', v') :: m
    else if k = k' then (k, v) :: m
    else (k', v') :: assocSet m k v

/-- Remove a key of an association list. -/
def assocDel {α : Type} (m : List (Nat × α)) (k : Nat) : List (Nat × α) := m.filter (fun p => p.1 != k)

/-- Change element `i` of a list, where there is one. -/
def modAt {α : Type} (l : List α) (i : Nat) (f : α → α) : List α := l.modify i f

/-- A count that stops at its largest value. -/
def satAdd (cap a b : Nat) : Nat := min cap (a + b)

/-- A 16-bit counter that saturates at 65,535 (R237). -/
def satInc16 (c : Half) : Half := if c = 0xFFFF then c else c + 1

/-- A 32-bit counter that saturates. -/
def satAdd32 (c : Word) (n : Nat) : Word := BitVec.ofNat 32 (min 0xFFFFFFFF (c.toNat + n))

/-- An ASCII text as bytes. -/
def ascii (t : String) : List Byte := t.toList.map (fun c => BitVec.ofNat 8 c.toNat)

/-- A wrapping value lies ahead of another: their difference modulo 2^width is below 2^(width - 1) (R530). -/
def isAhead {n : Nat} (a b : BitVec n) : Bool := b != a && decide ((b - a).toNat < 2 ^ (n - 1))

/-- The smallest whole number not below a ratio of naturals. -/
def ceilDiv (a b : Nat) : Nat := (a + b - 1) / b

end Sys2Proof.Machine
end

