-- ==== Sys2Proof/Machine/Crc.lean ====
section
/-! DEFINITION. The four check algorithms of R516, with their parameters, and how a result lies in its field (R517). -/

namespace Sys2Proof.Machine

/-- One bit of a non-reflected check register of `width` bits: shift out the top bit and divide (R516). -/
def crcStepMsb (width poly reg : Nat) : Nat :=
  if reg.testBit (width - 1) then (reg * 2 % 2 ^ width).xor poly else reg * 2 % 2 ^ width

/-- One byte of a non-reflected check. -/
def crcByteMsb (width poly reg : Nat) (b : Byte) : Nat :=
  Nat.repeat (crcStepMsb width poly) 8 (reg.xor (b.toNat * 2 ^ (width - 8)))

/-- One bit of a reflected check register, whose polynomial is given bit-reversed (R516). -/
def crcStepLsb (rpoly reg : Nat) : Nat :=
  if reg.testBit 0 then (reg / 2).xor rpoly else reg / 2

/-- One byte of a reflected check. -/
def crcByteLsb (rpoly reg : Nat) (b : Byte) : Nat :=
  Nat.repeat (crcStepLsb rpoly) 8 (reg.xor b.toNat)

/-- CRC-8, the SMBus packet error code (R516). -/
def crc8 (bs : List Byte) : Byte := BitVec.ofNat 8 (bs.foldl (crcByteMsb 8 0x07) 0)

/-- CRC-16/CCITT with the initial value 0xFFFF (R516). -/
def crc16 (bs : List Byte) : Half := BitVec.ofNat 16 (bs.foldl (crcByteMsb 16 0x1021) 0xFFFF)

/-- CRC-32: polynomial 0x04C1_1DB7 reflected (R516). -/
def crc32 (bs : List Byte) : Word :=
  BitVec.ofNat 32 ((bs.foldl (crcByteLsb 0xEDB88320) 0xFFFFFFFF).xor 0xFFFFFFFF)

/-- CRC-32C: polynomial 0x1EDC_6F41 reflected (R516). -/
def crc32c (bs : List Byte) : Word :=
  BitVec.ofNat 32 ((bs.foldl (crcByteLsb 0x82F63B78) 0xFFFFFFFF).xor 0xFFFFFFFF)

/-- Bytes closed by their CRC-16/CCITT, little-endian (R517). -/
def withCrc16 (bs : List Byte) : List Byte := bs ++ b16 (crc16 bs).toNat

/-- Bytes closed by their CRC-32C, little-endian (R517). -/
def withCrc32c (bs : List Byte) : List Byte := bs ++ b32 (crc32c bs).toNat

end Sys2Proof.Machine
end

