-- ==== Sys2Proof/Machine/State.lean ====
section
/-! DEFINITION. The state of the NL8430: every register, queue, memory, mode and pin the spec gives the part, as plain
data, and the queue of waiting commands. Each structure names the rules of spec/ that give its fields. -/

namespace Sys2Proof.Machine

/-- Why the machine stops with a fault: nothing does. Every condition that the spec calls a fault is an event with an
effect on the state, and the part goes on. -/
inductive Fault
deriving DecidableEq, Repr

/-- Why a command has no meaning here. -/
inductive Refusal where
  /-- Raised by an arm of `exec` whose command has no meaning yet. Safe: nothing is claimed of it. -/
  | notModelled (mnemonic : String)
  /-- Raised at the release of the main domain with TESTMODE high in lifecycle BLANK: "a production test mode that this
  manual does not describe" (R45). Safe: the machine stops where the spec gives no effect. -/
  | productionTestMode
deriving DecidableEq, Repr

/-! ### Resets, clocks, power states -/

/-- The five power states (R91). -/
inductive PState where
  | run | doze | nap | hibernate | off
deriving DecidableEq, Repr

/-- The main domain: held in reset or unpowered, released with Cehole starting, READY, asleep in NAP with its retained
pool, or coming back from NAP until warm-ready (R79, R91, R100). -/
inductive MainState where
  | held | booting | ready | asleep | waking
deriving DecidableEq, Repr

/-- XO32 as Clove sees it (R71). -/
inductive Xo32 where
  | absent | adopted | lost | notFitted
deriving DecidableEq, Repr

/-- The memory of one filter stage: past inputs newest first, or the accumulator of an IIR. -/
structure StageMem where
  past : List Int
  count : Nat
deriving DecidableEq, Repr

/-- One user slot's running state (R480, R482). -/
structure SlotRun where
  mem : List StageMem
  deferred : Bool
  lost : Nat                 -- losses since the last HUB_SAMPLE_LOSS
  lossAt : Option Time
deriving DecidableEq, Repr

/-- A detector's running state (R484, R485, R487). -/
structure DetRun where
  active : Bool
  setRun : Nat
  clrRun : Nat
  setAt : Option Time        -- the tick of the last setting edge, in hub time
  aEdge : Option Time        -- that of DET_A's latest setting edge, for COINCIDENCE
  bEdge : Option Time
  bothClear : Bool           -- a COINCIDENCE that has set with both of its detectors clear (R484)
  due : Option Bool          -- an edge of a WK_LEVEL detector whose record and actions wait for their place (R484)
  dueAt : Time               -- the tick of that decision
  late : Bool                -- work has been deferred to the next tick (R480):
  lateCode : Int             -- the output to be evaluated, or 1 or 0 for the edge of a WK_LEVEL detector,
  lateAt : Time              -- and the time of its conversion or decision
  noteAt : Option Time       -- last NOTIFY or LOG
  held : Option (List Byte)  -- latest edge record while the core does not run
  heldNote : Bool
  heldLog : Option Time      -- the time of the held LOG event, of which one is kept (R271)
deriving DecidableEq, Repr

/-- Clocks, hub time and the RTC (R70 to R72, R89, R289). -/
structure Clk where
  hubTime : Time
  rtc : Word
  rtcSet : Bool
  rtcAlarm : Word
  xo32 : Xo32
  rtcOnXo32 : Bool
  rtcMove : Bool           -- the RTC moves to XO32 at the next RTC second
  trimOnXo32 : Bool
  trimMove : Bool          -- the trim moves at the next trim period
  xo32LostLogged : Bool    -- once per power cycle
  trimCode : Int           -- AO-RC coarse trim code, in steps of 0.2 %
  still : Nat              -- trim periods for which it has not changed (R498)
  aoHz : Nat               -- stored AO-RC frequency, Hz
  trimmed : Bool           -- the AO band is the trimmed one (R71)
  deglitch : Nat           -- PG deglitch terminal count (R89)
  inc : Nat                -- hub time's increment per AO cycle, in 2^-32 us (R72)
  acc : Nat                -- its fractional accumulator, in 2^-32 us
  secUs : Nat              -- microseconds of hub time since the last RTC second
  free : Nat               -- the model's own counter of free values drawn
deriving DecidableEq, Repr

/-- An entry to NAP or HIBERNATE that has been requested (R95, R304). -/
structure Entry where
  hib : Bool
  discard : Bool
  napLimit : Nat
  req : Option (Fin 12 × Half)   -- the context and the sequence number of the command that asked for it
  begun : Bool             -- the response has been read or 100 ms have passed (R304)
deriving DecidableEq, Repr

/-- Power states and the wake registers (R91 to R116). -/
structure Pwr where
  st : PState
  dozeDue : Bool             -- DOZE waits for the cap (R459)
  entry : Option Entry
  wakeCause : Half
  wakeTime : Time
  wakeSeen : Bool          -- a wake has been recorded since commit (R101)
  reedCap : Byte
  reedRefused : Byte
  entryState : Byte
  napJobs : Bool           -- job flag Cehole wrote at NAP commit (R98)
  napDiscard : Bool        -- the NAP command carried DISCARD (R98)
  napLimit : Nat           -- NAP_LIMIT in seconds, 0 none
  wkLevel : BitVec 6       -- debounced raw levels of WK0 to WK5 (R102)
  lastCause : Half         -- WAKE_CAUSE of the last wake, as window 0x30 gives it
  moving : Bool            -- on the way from NAP to HIBERNATE, before the commit point (R98)
  railsFull : Bool         -- the entry ran a full shutdown, which the wake undoes (R96, R134)
  collect : Option Bool    -- WAKE_CAUSE collects, by the mask of HIBERNATE or of NAP (R101)
  moveDue : Bool           -- an expiry of R98 waits for NAP's own partial shutdown, then for the hub, to end
deriving DecidableEq, Repr

/-- Reed's state machine (R108). -/
inductive ReedSt where
  | idle | addr | refuse | ignore | ack
deriving DecidableEq, Repr

/-- Reed and the ownership of the host I2C port (R106 to R110). -/
structure Reed where
  st : ReedSt
  boot : Bool              -- mode input: BOOT, else LISTEN
  startFlag : Bool
  bitCount : Nat
  shift : Byte
  owns : Bool              -- Reed serves the port
  handover : Bool          -- hand-over to Reed pending (R107)
  takeback : Bool          -- take-back by Cehole pending (R107)
deriving DecidableEq, Repr

/-! ### Host links and the mailbox -/

/-- Which resource a frame waiting to be sent occupies (R234). -/
inductive SlotUse where
  | request | refusal | notification
  | overflow               -- the answer to an accepted request that found every request slot full
deriving DecidableEq, Repr

/-- A frame the part has queued for a host: response, refusal or notification (R224, R233, R238). -/
structure OutFrame where
  use : SlotUse
  opcode : Half
  seq : Half
  status : Half
  payload : List Byte
  more : Bool              -- a response fragment that is not the last (R233)
  endsSession : Bool       -- the session or connection ends once this is sent (R323)
  whose : Option Nat       -- or that of the network context named here
deriving DecidableEq, Repr

/-- One entry of the response cache (R226, R227). -/
structure CacheEntry where
  seq : Half
  opcode : Half
  status : Half
  payload : Option (List Byte)   -- none: longer than 64 bytes or fragmented
  complete : Bool                -- sent or collected
deriving DecidableEq, Repr

/-- The open message of a context (R229 to R231). -/
structure OpenMsg where
  opcode : Half
  bytes : List Byte        -- reassembled payload, or an object's or a patch's bytes
  count : Nat              -- message bytes received
  job : Nat                -- the raster job a streamed message fills, 0 for none
  cancelled : Bool         -- its job was cancelled (R295)
  header : List Byte       -- the first fragment's header of a streamed message
  mask : Half              -- the effective mask it was admitted under (R246)
  lc : Nat                 -- and the lifecycle
deriving DecidableEq, Repr

/-- A keyed session's material: both nonces and the key (R210, R211). -/
structure Session where
  nonceH : List Byte
  nonceP : List Byte
  key : List Byte
  rekeyed : Bool           -- it replaced another session in force, so that its first answer is tagged too
deriving DecidableEq, Repr

/-- The error counters of a context (R237, R288), each 16 bits and LINK_ERR 32 bits. -/
structure Counters where
  hdr : Half
  len : Half
  fcrc : Half
  format : Half
  context : Half
  tag : Half
  dup : Half
  aliveGap : Half
  replay : Half
  discarded : Half
  notifLost : Half
  link : Word
deriving DecidableEq, Repr

/-- The mailbox state of one context (R234, R236). -/
structure Ctx where
  e : Option Half          -- expected sequence
  lastAlive : Option Byte  -- ALIVE of the last frame that passed step 6
  alive : Byte             -- the part's own ALIVE
  cache : List CacheEntry  -- newest first, at most 8
  out : List OutFrame      -- oldest first
  msg : Option OpenMsg
  notifSeq : Half
  cnt : Counters
  keyed : Option Session
  opening : Option Session -- SESSION_OPEN done, SESSION_PROVE awaited
  tagFails : Nat           -- consecutive step-6 failures (R221)
  refusedAt : Option Time  -- time of the last answered refusal (R222)
  subs : Word              -- HUB_SUBSCRIBE mask (R302)
deriving DecidableEq, Repr

/-- The host I2C port's own registers (R184 to R193). -/
structure HostPort where
  pecOn : Bool             -- PEC as enabled at the last READY, kept in Clove (R110)
  irq : Byte               -- IRQ_STATUS bits 7:1 as latched
  irqEnable : Byte
  dbStatus : Half
  inBuf : List Byte
  outPos : Nat
  lastRead : List Byte     -- the bytes the last read returned
  imgDb : Half             -- DB_STATUS of the image (R193)
deriving DecidableEq, Repr

/-- The UART (R194 to R198). -/
structure Uart where
  ctsHigh : Bool
  rx : List Byte           -- the receive buffer: bytes of a link frame whose end has not come, at most 8,192
  rxBad : Bool             -- bytes of that frame were lost, or a stop bit was missing (R196, R197)
  driven : Bool            -- UART_TX and UART_RTS driven, else high-Z (R41)
  sent : List Byte         -- the link frame sent last (R195)
deriving DecidableEq, Repr

/-- The USB device (R199 to R204). -/
structure Usb where
  vbus : Bool
  attached : Bool
  address : BitVec 7
  configured : Bool
  suspended : Bool
  halted : List Byte       -- halted endpoints
  raw : List Byte          -- unparsed bytes of the raw ticket stream
  skip : Nat               -- bytes of a failed record still to skip (R337)
  hunt : Bool              -- searching for the next record (R337)
  report : List Byte       -- the last attention report
  lost : Nat               -- context 3 notifications lost since the last report
  control : Option (List Byte)  -- the last control answer; none for a stall
deriving DecidableEq, Repr

/-- One TCP connection (R207 to R214). -/
structure Conn where
  id : Nat
  source : IpAddr
  dest : IpAddr            -- the address of the part that it uses (R213)
  raw : Bool
  ctx : Option (Fin 12)    -- claimed context, or the raw connection's
  box : Ctx                -- mailbox state before a session is open
  buf : List Byte          -- unparsed raw bytes
  skip : Nat
  hunt : Bool
deriving DecidableEq, Repr

/-- One address in back-off (R210). -/
structure Backoff where
  source : IpAddr
  fails : Nat
  holdUntil : Time
deriving DecidableEq, Repr

/-- What an LLDPDU carries besides its System Name "NL8430" and its TTL (R215). -/
structure Lldpdu where
  mac : List Byte          -- Chassis ID and Port ID
  ttl : Nat                -- s
  bt : Bool                -- the IEEE 802.3bt form of Power via MDI, else the 802.3at form
  requested : Nat          -- PD requested power, 0.1 W
  allocated : Nat          -- PD allocated power as echoed (R216), 0.1 W
deriving DecidableEq, Repr

/-- The network (R205 to R216). -/
structure Net where
  phyOn : Bool             -- the PHY domain's gate is on: powered and out of reset (R17, R74)
  up : Bool                -- the link, and the level of ETH_LINK (R205)
  hundred : Bool
  full : Bool
  ip4 : Option Word
  byDhcp : Bool
  linkLocal : Bool
  ip6 : Option (BitVec 128)       -- the global IPv6 address
  ip6Local : Option (BitVec 128)  -- the link-local one (R206)
  conns : List Conn
  backoffs : List Backoff  -- newest first, at most 16
  lldpAlloc : Nat          -- last PSE allocation in 0.1 W, or 0
  lldpOn : Bool            -- a neighbour is present
  lldpBurst : Nat          -- LLDPDUs still to send at 1 s intervals
  lldpEcho : Nat           -- the PD allocated value that the part echoes (R216)
  lldpSent : Nat
  lldpLast : Option Lldpdu -- the LLDPDU sent last
  echoSec : Word           -- RTC second of the counts below
  echoes : Nat             -- ICMP echoes answered in that second
  unreach : Nat            -- port-unreachable messages sent in that second
  rxOctets : BitVec 64     -- the network octet counters (R530; log entry 156)
  txOctets : BitVec 64
deriving DecidableEq, Repr

/-! ### Parameters, NVM and the log -/

/-- Parameter values by ID, ascending and without repeats; an absent ID has no value of its own. -/
abbrev ParamMap := List (Nat × List Byte)

/-- What a valid parameter image holds (R257). -/
structure Image where
  commitSeq : Word
  profId : Word
  profVer : Word
  entries : ParamMap
deriving DecidableEq, Repr

/-- The values of the parameters (R252 to R256). -/
structure Params where
  committed : ParamMap
  working : ParamMap
  pending : ParamMap
  atStart : ParamMap       -- committed values at the last main-domain start, for RESTART
  atTicket : ParamMap      -- committed values at the last ticket boundary (R418, R429)
  atBand : ParamMap        -- working values latched at the last band boundary
  atOff : ParamMap         -- committed sequencing values in force in always-on SRAM (R118, R119)
  atScan : Option ParamMap -- committed values that the scan in progress started with (R461)
  atCal : Option ParamMap  -- and those of the calibration in progress (chapter 17's Parameters)
  image : Nat              -- the image area in force: 0 A, 1 B
deriving DecidableEq, Repr

/-- A stored profile (R259, R320). -/
structure Profile where
  bytes : List Byte
  keySlot : Option Nat     -- none: stored unsigned
deriving DecidableEq, Repr

/-- A compact fault slot (R150, R154, R273). -/
structure FaultSlot where
  bytes : List Byte
  reported : Bool
deriving DecidableEq, Repr

/-- What a LOG_CTRL page says (R272). -/
structure LogCtrl where
  bootCount : Word
  loss : Word
  lowest : Word
  checked : Word
  newestRec : Option Half
deriving DecidableEq, Repr

/-- A stored font or logo (R319, R320, R352). -/
structure StoreObj where
  logo : Bool
  id : Nat
  signed : Bool
  page : Nat
  crc : Word
  bytes : List Byte
  stale : Bool             -- replaced, kept until the rendering job finishes
deriving DecidableEq, Repr

/-- An event record before it is placed in the ring (R267). -/
structure Event where
  code : Half
  time : Time
  ctx : Byte
  pstate : Byte
  job : Word
  data : List Byte
  boot : Word     -- the start in progress; 0 until the next start takes the event in
deriving DecidableEq, Repr

/-- A ring slot's content: the record's sequence and its 32 bytes. -/
structure RingRec where
  seq : Word
  bytes : List Byte
deriving DecidableEq, Repr

/-- What a copy of the nozzle map in NVM says (R460). -/
structure MapCopy where
  mapSeq : Word
  rtc : Word
  led : Byte
  tia : Byte
  noise : Byte
  rot : Byte
  states : List (Nat × Nat)
  eyes : List (Nat × Nat)
deriving DecidableEq, Repr

/-- One die's entry of HEAD_CAL (R514). -/
structure HeadEntry where
  main256 : Nat
  eCal : Nat
  tOn : Nat
  tCal : Int
  turnedOn : Nat
  quality : Word
  boot : Word
  v1 : Nat
  pre : Nat
  dead : Nat
deriving DecidableEq, Repr

/-- What a copy of HEAD_CAL in NVM says (R514). -/
structure HeadCopy where
  calSeq : Word
  entries : List (Option HeadEntry)
deriving DecidableEq, Repr

/-- The non-volatile memory (R262 to R266, R318 to R321). -/
structure Nvm where
  images : List (List Byte)        -- PARAM_A and PARAM_B as they lie; empty: erased
  profiles : List (Option Profile) -- slots 0 to 7
  maps : List (List Byte)          -- the two copies of the nozzle map as they lie; empty: erased
  heads : List (List Byte)         -- the two copies of HEAD_CAL as they lie; empty: erased
  fires : List (Nat × List Byte)   -- FIRE_CNT pages as they lie, by number; unlisted: erased
  faults : List (Option FaultSlot) -- slots 0 to 7, none erased
  snaps : List (Nat × List Byte)   -- snapshot ring: slot 0 to 63 and record, oldest first, at most 63
  ctrl : List (List Byte)          -- the 8 LOG_CTRL pages as they lie; empty: erased
  ctrlNext : Nat
  ring : List RingRec              -- oldest first, at most 16,384
  store : List StoreObj
  patchA : Option (List Byte)
  patchB : Option (List Byte)
  patchActive : Nat                -- 0 none, 1 A, 2 B
  patchDue : Bool                  -- the inactive area holds a patch for the next start (R321)
  patchLevel : Byte
  wear : List (Nat × Nat)          -- page number to cycles
  bad : List Nat                   -- pages that fail verification (a defect of the array)
  retired : List (Nat × Nat)       -- page to spare
  sparesUsed : Nat
  exhaustLogged : Bool
deriving DecidableEq, Repr

/-- The event log outside NVM (R268 to R273, R541). -/
structure Log where
  staging : List Event       -- at most 32, in always-on SRAM
  next : Word                -- next SEQ to be written
  lowest : Word              -- lowest visible sequence
  checked : Word
  loss : Word                -- persistent loss total
  lossSeen : Word            -- total at the previous LOG_LOSS
  lossDue : Bool             -- losses not yet counted in NVM
  tokens : Nat               -- rate limit: accrued allowance in us, of which a record takes 50,000 (R271)
  tokenAt : Time
  cloveLost : Nat            -- dropped by Clove while the core did not run
  bootCount : Word
  newestRec : Option Half    -- newest fault record reported
  ctrlAt : Option Time       -- time of the last LOG_CTRL write
deriving DecidableEq, Repr

/-! ### Jobs and rendering -/

/-- Job states (R294). -/
inductive JobSt where
  | queued | rendering | ready | printing | cutting | done | interrupted | failed | cancelled | held
deriving DecidableEq, Repr

/-- One band of a job in the raster store (R328, R329, R331). -/
structure Band where
  black : List Nat           -- one number per line, bit p for position p
  red : List Nat
  lines : Nat
  dots : List Nat            -- dots per die 0 to 3
  maxDots : List Nat         -- largest number of dots of one line per die
  overrides : List (Nat × Nat)   -- (die, row position): fired wholly by that die (R454)
  blocks : Nat
deriving DecidableEq, Repr

/-- The stream decoder of a raster object (R332 to R335). -/
structure Decoder where
  total : Nat                -- declared length
  got : Nat                  -- bytes consumed
  buf : List Byte            -- bytes not yet decoded
  rows : BitVec 2
  linesTotal : Nat
  band : Nat                 -- band being decoded
  cut : Byte
  headerDone : Bool
  bandOpen : Bool
  left : Nat                 -- coded lines still to come in this band
  prevBlack : Nat
  prevRed : Nat
  curBlack : List Nat        -- newest first
  curRed : List Nat
deriving DecidableEq, Repr

/-- A job (R293 to R299, R355 to R358). -/
structure Job where
  id : Nat
  ctx : Fin 12
  raw : Bool                 -- received on a raw ticket stream
  raster : Bool
  st : JobSt
  prio : Nat                 -- 0 RUSH, 1 NORMAL, 2 BULK
  hold : Half
  hostRef : Word
  reprint : Nat
  holdFlag : Bool
  lines : Nat
  fired : Nat
  desc : List Byte
  params : List Nat          -- TICKET parameters latched on leaving QUEUED (R252)
  bands : List (Option Band) -- none once freed
  cut : Nat
  dec : Option Decoder
  wait : Bool                -- a description job waits for blocks (R329)
  planned : Nat              -- blocks the layout needs
  rendAt : Time              -- when the rendering last went on
  rendLeft : Nat             -- the bound on what was left to render then, in us (R356)
  banner : Bool
  reprintDue : Bool          -- INTERRUPTED, reprint queued
  cancelling : Bool          -- PRINTING and cancelled (R298)
  aged : Bool                -- BULK that counts as NORMAL (R383)
  detail : Word
deriving DecidableEq, Repr

/-- What is kept of a finished job (R297). -/
structure Finished where
  id : Nat
  ctx : Fin 12
  raster : Bool
  st : JobSt
  prio : Nat
  hostRef : Word
  lines : Nat
  fired : Nat
deriving DecidableEq, Repr

/-- The jobs (R294 to R297, R532). -/
structure Jobs where
  live : List Job            -- in job-ID order
  finished : List Finished   -- newest first, at most 64
  nextId : Nat
  interrupted : List Nat     -- reprints in the order of interruption
  first : Option Nat         -- the job of a higher class that a waiting job gave way to, to be rendered next (R355)
deriving DecidableEq, Repr

/-! ### Scheduler, Fife, motion, nozzles -/

/-- A command that waits for a ticket boundary or runs (R283). -/
structure Action where
  opcode : Half
  ctx : Option (Fin 12)      -- none: started by the part itself
  seq : Half
  payload : List Byte
  started : Bool
deriving DecidableEq, Repr

/-- What a band fires under on one die, from the point where its first line enters the die's column-delay buffers: the
map's states of the die and the mask settings (R451, R455). `key` is 4 x band + die. -/
structure BandMap where
  key : Nat
  states : List (Nat × Nat)
  solo : Bool
  fill : Bool
  mode : Nat
  share : Nat
  tile : List Byte
deriving DecidableEq, Repr

/-- The ticket being printed (R375, R381, R385). -/
structure Ticket where
  job : Nat
  clockLine : Nat            -- clock lines fired
  feedFrom : Nat             -- the clock line before which the feed last started from standstill (R402, R405)
  admitted : List Nat        -- speed step of each admitted band, band 0 first
  energy : List Rat          -- energy of each admitted band in J, fixed at its decision (R374)
  step : Nat                 -- speed step in force
  paused : Bool
  hot : Bool                 -- stopped by the hard die limit, until it resumes (R433)
  stopAt : Option Nat        -- the feed stops before this clock line and starts again under R405
  restart : Bool             -- the next line carries RESTART
  lastScale : List Nat       -- compensation scale of each die in force (R426)
  warm : List Bool           -- warming active on each die (R428)
  maps : List BandMap        -- bands being fired
deriving DecidableEq, Repr

/-- Saffron, its counters and DISCH (R359 to R385). -/
structure Saf where
  alloc : Nat                -- allocation in force, 0.1 W
  allocSrc : Byte
  classAlloc : Option Nat    -- class-pin value read at READY; none for code 7
  pdCls : BitVec 3
  allocKept : Bool           -- the allocation in always-on SRAM stands (R116, R142)
  disch : Bool
  reasons : Half             -- reasons that assert DISCH now, one bit per reason code
  hold : Bool                -- DISCH_HOLD
  needLow : Bool             -- release waits for E_res below 1 J (R366)
  dischLate : Bool           -- t_DISCH has passed in this assertion
  charger : Bool             -- Saffron enables the charger
  gate : Bool                -- CHG_GATE open
  tripCode : Nat
  tripped : Bool
  overCount : Nat            -- consecutive readings above 1.02 E_MAX (R362)
  winEnergy : Rat            -- input energy of the window, uJ
  winBudget : Nat            -- budget accrued up to budgetAt, 0.1 uJ
  budgetAt : Time
  winStart : Time
  winOpen : Bool
  winLen : Nat               -- SAF_WINDOW of the window in progress, ms
  slotEnergy : Rat           -- input energy of the current 1 ms slot, uJ
  ticket : Option Ticket
  actions : List Action      -- admission order
  rr : List Nat              -- context whose ticket printed last, per class; 12 none
  awaiting : Option Nat      -- RENDERING job waited for (R384)
  spent : List Nat           -- render waits that ran out
  deferOff : Bool            -- PWR_OFF with DEFER waits (R305)
  dischHit : Bool             -- DISCH rose since the running command of R283 started (R447)
  railHit : Bool             -- a required rail has been lost under a running NOZ_SCAN, SERVICE_RUN or FEED (R310)
  energyRuns : Nat           -- repeats of the running HEAD_ENERGY begun, and whether one is under way (R506)
  inRun : Bool
  postStep : Byte            -- values posted to Clove (R152)
  postLine : Word
  postJob : Word
deriving DecidableEq, Repr

/-- A Fife line record (R397). -/
structure LineRec where
  line : Word
  tFire : Word
  enc : Word
  flags : Byte
  step : Byte
  err : Byte
  extrap : Byte
deriving DecidableEq, Repr

/-- A line that waits for the one before it to end (R399): what it will fire, and what its record will say. -/
structure LateLine where
  n : Nat                    -- its clock line
  start : Nat                -- the FIRE cycle at which it starts
  pos : Int                  -- its boundary from the reference count, and the step of the count commanded there (R392)
  dir : Int
  restart : Bool
  step : Nat
  fired : List Nat
deriving DecidableEq, Repr

/-- The Fife (R419 to R437). -/
structure Fife where
  lineCnt : Word
  hisGate : Bool             -- fire lines gated by HIS (R432)
  fault : Bool               -- fault level on SEQ_FIRE (R126)
  deltas : List (Nat × Byte) -- deltas per nozzle index
  live : List (Nat × Nat)    -- live 48-bit counts per nozzle index
  lastRec : Option LineRec   -- the line record written last
  waiting : Option LateLine  -- the line that waits to start (R399)
  started : Option Nat       -- FIRE cycle at which the ticket's latest line starts (R399)
  printEnd : Nat             -- FIRE cycle at which its print cycle ends
  lineEnd : Nat              -- and at which the line ends, its warming cycle included (R430)
  linesSinceUpdate : Nat
  storeDue : Bool            -- a ticket was halted: its lagging fire counters are still to be stored (R265)
  overTemp : List Bool       -- DIE_OVERTEMP logged per die
deriving DecidableEq, Repr

/-- One encoder input and its estimator (R387 to R395). -/
structure Enc where
  a : Bool
  b : Bool
  i : Bool                   -- the index input
  fwd : Bool                 -- the last legal transition was forward
  count : Word
  raw : Word                 -- legal edges, the rejected ones too (R406)
  lastT : Option Rat         -- time, in FIRE cycles, of the last accepted or synthetic edge since the feed started
  edges : Nat                -- edges accepted since the feed started
  intervals : List (Rat × Nat)  -- accepted intervals and the rate commanded at their end, newest first, at most 16
  synthRun : Nat             -- consecutive synthetic edges
  extrapLines : Nat          -- lines fired on extrapolation since the last real edge
  synthSince : Bool          -- for line record flags
  rejectSince : Bool
  confirm : Option (Nat × Nat)  -- bound in 1/256 count and lines, for the next line record
  lastIndex : Option Word
  lastRawT : Option Rat      -- time of the last legal forward edge, for the yank monitor
  fastRun : Nat              -- consecutive fast forward edges (R406)
  furthest : Word
  stopPos : Word
deriving DecidableEq, Repr

/-- What the feed motor is doing. -/
inductive FeedUse where
  | idle | ticket | toBlade | stub | resync | command
  | advance                  -- between the swaths of carriage mode (R416)
  | halt                     -- nothing's any more: it decelerates to rest (R396, R402, R415)
deriving DecidableEq, Repr

/-- Position, feed, cutter, sled and the motors (R387 to R417). -/
structure Motion where
  enc : List Enc             -- ENC0 and ENC1
  feed : FeedUse
  rate : Nat                 -- commanded line rate, lines/s
  slow : Option (Time × Nat) -- a feed that decelerates to rest: since when, and from what rate (R402, R415)
  b0 : Word                  -- position at which the feed started for the ticket, one line before B0 (R398)
  feedSteps : Nat            -- M0's steps since the feed started for the ticket, where they clock the lines (R400)
  auxFrom : Word             -- ENC0's count where the feed that is no ticket's began
  auxRamp : Word             -- and where its last ramp began, from the rate `auxV0` (R402)
  auxV0 : Nat
  auxLines : Nat             -- the lines it runs
  auxGone : Nat              -- and has run, in 1/10,000 line, where no encoder counts them (R400, R402)
  passEnc : Word             -- ENC0's count as the carriage pass began (R406)
  cutting : Option (Nat × Bool)  -- cut kind, and whether it is a stub cut
  stroke : Nat               -- M1's steps forward in the cut that runs (R411)
  cutIn : Bool               -- levels of CUT_HOME and SLED_HOME (R413)
  sledIn : Bool
  sledPos : Option Nat       -- steps from home; none when not homed
  sledPath : List Nat        -- where the sled's routine takes it next (R444, R457, R506)
  homingCut : Bool
  homingSled : Bool
  capped : Bool
  capTime : Time
  en : BitVec 3
  disabled : BitVec 3        -- disabled under R414
  flt : BitVec 3             -- levels of M0_FLT to M2_FLT: a driver fault asserted (R88, R414)
  posFault : Bool
  synthInResync : Bool
  waitStill : Bool           -- waits for ENC0 to be still (R408)
  stubs : List (Nat × Nat × Bool)  -- cut kind, feed, and whether a resync feed follows
  resyncDue : Bool           -- a resync feed is to run (R408)
  synthCount : Word
  rejectCount : Word
  maxErr : Half
  sinceScan : Nat            -- lines since the last scan began
  sinceSpit : Nat
  uncapSpit : Bool           -- a spit is due before the next ticket
  pass : Nat
  swath : Nat
deriving DecidableEq, Repr

/-- A scan that runs (R443 to R446, R458). -/
structure ScanRun where
  dies : List Nat
  part : Bool                -- partial
  auto : Bool
  yield : Bool               -- a job has become READY: an automatic scan ends after its current test (R446)
  wait : Option Time         -- since when its tests wait for cooling (R458)
  ran : Bool                 -- its tests could start: every selected die has been cool since it began
deriving DecidableEq, Repr

/-- A service routine that runs (R457, R458). -/
structure SvcRun where
  routine : Nat
  dies : List Nat
  left : Nat                 -- lines not yet admitted of those before its next move of the sled
  after : Nat                -- and lines that it fires after the wipe
  firing : Nat               -- lines of the group that fires, until a time
  due : Time
  wait : Option Time         -- since when it waits for cooling or refill
deriving DecidableEq, Repr

/-- Nozzle health (R438 to R460). -/
structure Noz where
  states : List (Nat × Nat)  -- nozzle index to 4-bit state; unlisted UNTESTED
  eyes : List (Nat × Nat)    -- last eye width; unlisted never tested
  rot : List Nat             -- r_d per die
  mapSeq : Word
  dirty : Bool
  marked : List Nat          -- nozzles NOZ_MARK touched while a scan runs
  scan : Option ScanRun
  autoHold : Bool            -- automatic scans suspended (R446)
  service : Option SvcRun
  gateFadc : List Nat        -- the FADC's and the drop gate LED's selections that the scan uses (R438)
  gateLed : List Nat
  lastLed : Byte
  lastTia : Byte             -- NOZ_TIA_GAIN of that setup
  lastNoise : Byte
  writtenAt : Option Time
  changedRtc : Word          -- RTC of the last change of the map
deriving DecidableEq, Repr

/-! ### The sensor hub -/

/-- The latest reading of a channel (R468). -/
structure Reading where
  code : BitVec 12
  time : Time
  valid : Bool
deriving DecidableEq, Repr

/-- One issued bus transaction (R476). -/
structure BusTx where
  slot : Nat
  desc : List Byte           -- the descriptor as it stood at the issue (R493)
  started : Bool
  time : Time
  retries : Nat
  overrun : Bool             -- its issue was deferred
deriving DecidableEq, Repr

/-- A bus transaction that has ended and awaits its place in a tick (R478): the bytes received. -/
structure BusDone where
  tx : BusTx
  bytes : List Byte
  late : Bool                -- its completion has been deferred
deriving DecidableEq, Repr

/-- The sensor hub (R462 to R494). -/
structure Hub where
  running : Bool
  slots : List (List Byte)     -- 64 entries of 28 bytes; system slots as R469 gives them
  descs : List (List Byte)     -- 16 of 32 bytes
  dets : List (List Byte)      -- 32 of 16 bytes
  slotRun : List SlotRun
  detRun : List DetRun
  sticky : Word
  latest : List Reading        -- 27 channels
  fifo : List (List Byte)      -- oldest first, at most 2,730
  fifoLost : Nat               -- since the last HUB_RECORDS_ACK
  fifoOver : Nat               -- of these, records overwritten
  ackAlive : Option Byte       -- ALIVE of the record before the read pointer; none until one since the main domain's start (R524)
  alive : Byte                 -- ALIVE of the next record
  overrun : Word
  lost : Word
  borrowed : Nat               -- 0 none, 1 ADC-A, 2 ADC-B
  lastHigh : BitVec 16         -- bits 47:32 of the last record's time, for the epoch
  busI2c : List BusTx
  busSpi : List BusTx
  i2cHeld : Bool               -- another controller holds the sensor I2C bus, as the hub last saw it (R476)
  done : List BusDone
  irqBy : Word                 -- the detectors for which the hub drives HST_IRQ (R485, R493)
  leds : List Nat              -- the current, in 0.25 mA, at which each LED was last driven (R471)
  stopping : Bool              -- the schedule stops once the transaction in progress has completed (R462)
  wff : Option Nat             -- channel a wait-for-fall check needs
  defer : List (Nat × List Byte)  -- committed entries that wait for a DISCH detector (R489)
  restartAux : Half
  restartDue : Bool            -- a restart record is written at the first tick
  reserve : Bool               -- user slots configured since the first READY (R463)
deriving DecidableEq, Repr

/-! ### Calibration -/

/-- The active selection of one calibration (R503, R505). -/
structure CalSel where
  source : Byte
  slot : Byte
  sel : List Nat
  quality : Word
  time : Time
deriving DecidableEq, Repr

/-- Calibration (R495 to R515). The 13 entries are ADC_A, ADC_B, AO_RC, FADC, DG_LED, LED0 to LED3, and dies 0 to 3. -/
structure Cal where
  active : List CalSel
  trial : Option (List Nat)
  prev : Option (Nat × CalSel)     -- the selection that a pending store has replaced (R507)
  store : Option (Nat × List Nat × Int × Word × Nat)  -- target index, selection, T_CAL, quality, REFIN_UV awaiting R507
  head : List (Option HeadEntry)   -- HEAD_CAL as loaded
  due : List (Nat × CalSel)        -- the results that wait for their switch points, by target (R503)
  wait : Option Time               -- since when it waits for cooling, refill or the store's conditions (R504)
  aoHeld : Bool                    -- the running AO_RC has found the coarse trim code unchanged for 8 trim periods (R498)
  aoSince : Time                   -- when it last did, or began to wait for it
deriving DecidableEq, Repr

/-! ### The rail sequencer -/

/-- Sequencer phases (R151). -/
inductive Phase where
  | off | up | running | down | faultOff | minOff
deriving DecidableEq, Repr

/-- A channel's settings (the channel attributes of chapter 5). -/
structure ChCfg where
  upState : Nat              -- 0 to 14; 15 not enabled before READY
  deps : BitVec 8
  onDelay : Nat              -- 0.1 ms
  pgTimeout : Nat            -- ms
  offSlot : Nat
  offDelay : Nat             -- 0.1 ms
  wff : Word
  wffTimeout : Nat           -- ms
deriving DecidableEq, Repr

/-- The sequencer's settings in always-on SRAM (R118, R119). -/
structure SeqCfg where
  ch : List ChCfg            -- 8
  pgUsed : BitVec 8
  fireReq : BitVec 8
  saffron : BitVec 8
  headRail : Nat
  autoOn : Bool
  drone : Bool
  holdup : Bool
  snapshot : Bool
  retries : Nat
deriving DecidableEq, Repr

/-- A channel's running state (R121, R122, R125, R128). -/
structure ChRun where
  en : Bool
  released : Bool            -- released to Saffron
  delayed : Bool             -- its on-delay has run out in this state
  pgSeen : Bool              -- PG seen good since the enable
  monitored : Bool
  pgFlag : Bool              -- power-good timeout flag
  wffFlag : Bool
  hisDrop : Bool
  pg : Bool                  -- level of the PG input
  edge : Word                -- low 32 bits of hub time of the last PG edge
deriving DecidableEq, Repr

/-- A record kept in always-on SRAM until it reaches NVM (R153). -/
structure PendingRec where
  compact : List Byte
  snap : Option (List Byte)
  atReady : Bool             -- written only after the next READY (R140)
deriving DecidableEq, Repr

/-- The rail sequencer (R117 to R154). -/
structure Seq where
  cfg : SeqCfg
  next : Option ParamMap     -- committed settings that wait for OFF or a partial sequence (R119)
  ph : Phase
  state : Nat                -- 0 to 15
  drone : Nat                -- the DRONE state, which partial sequences leave alone (R135)
  ch : List ChRun            -- 8
  mask : BitVec 8            -- channels of the running sequence: 0xFF full, else partial
  slot : Nat                 -- shutdown slot in progress
  slotWff : Bool             -- the slot's wait-for-fall check runs
  again : Bool               -- the passed slots are walked once more (R135)
  partialRun : Bool          -- the sequence in progress is partial
  offList : BitVec 8         -- channels a partial shutdown took down
  shadow : ParamMap          -- the settings that shadows of words 77 and 78 have put in force (R170)
  due : BitVec 8             -- channels of a partial shutdown that waits for RUNNING (R96)
  held : BitVec 8            -- channels whose enable the ceiling detector holds released (R26)
  onLatched : Bool           -- R137
  retriesDone : Nat
  retryCancel : Bool         -- automatic retries cancelled (R131)
  retryDue : Bool            -- an automatic retry waits for SEQ_MIN_OFF
  minOffRun : Bool           -- SEQ_MIN_OFF is running
  vinLow : Bool              -- VINFAIL is below its thresholds
  frozen : Bool              -- between a VINFAIL trip and its release (R139)
  droneLow : Bool            -- the part drives DRONE low
  droneLine : Bool           -- the line has been seen high since the part released it
  droneAbortDue : Bool       -- abort on reaching state 15 (R149)
  pend : List PendingRec     -- at most 8 compact and 2 snapshots, oldest first
  lost : Byte                -- records lost (R153)
  recSeq : Half
  writing : Option (PendingRec × Nat)  -- record being written through SEQ_NVM and its fault slot
  holdup : Option PendingRec           -- record being written from hold-up
  waiters : List (Half × Fin 12 × Half)  -- PWR_ON and PWR_OFF commands awaiting COMMAND_DONE
deriving DecidableEq, Repr

/-- What HUB_CFG last wrote, as it was before: a schedule entry with its running state and the bus queues, a descriptor, or a
detector with its own (R82, R85). -/
inductive HubEntry where
  | slot (n : Nat) (entry : List Byte) (run : SlotRun) (i2c spi : List BusTx) (done : List BusDone)
  | desc (n : Nat) (entry : List Byte)
  | det (n : Nat) (entry : List Byte) (run : DetRun) (irqBy : Word)
deriving DecidableEq, Repr

/-- The last request on an RA crossing into Clove: the hub time of its handshake and the opcode that it serves (R82, R85). -/
structure RaReq where
  time : Time
  opcode : Half
deriving DecidableEq, Repr

/-- What a request on SEQ_REQ may change in Clove (R82, R85). -/
structure SeqSide where
  seq : Seq
  charger : Bool
  gate : Bool
  hold : Bool
  reasons : Half
  disch : Bool
  dischLate : Bool
  needLow : Bool
  fullPend : Bool
  fault : Bool               -- the RAIL_FAULT level that the Fife samples
deriving DecidableEq, Repr

/-- Supplies, resets and the crossings' abort flags (R51, R52, R73 to R85). -/
structure Rst where
  vaoGood : Bool
  vioGood : Bool
  vddaGood : Bool
  main : MainState
  otpClean : Bool          -- start-up OTP reads complete and clean (R79)
  otpHold : Bool           -- integrity hold (R165)
  testHold : Bool          -- TESTMODE hold (R45)
  clockHold : Bool         -- clock failure not yet cleared (R73)
  rstoutHigh : Bool        -- RSTOUT_N level (R78)
  rstoutMin : Bool         -- SYS_RSTOUT_MIN is running (R78)
  cause : Byte             -- reset cause code (R80, R290)
  causeOpen : Bool         -- a reset is in progress, so causes coincide (R80)
  hibWake : Bool           -- the coming start follows HIBERNATE (R290)
  wdtRun : Bool            -- the watchdog counts (R81)
  xo25Run : Bool
  hostAddr : BitVec 7      -- latched at VAO good (R44)
  abHubCfg : Option Half   -- abort flags of the RA crossings, each with the opcode of its request (R82, R85)
  abSeqReq : Option Half
  abSeqNvm : Option Half   -- with the identity of the record whose write was aborted
  abOtpRd : Option Half
  raHub : Option (RaReq × HubEntry)  -- the last request on HUB_CFG, SEQ_REQ and OTP_RD
  raSeq : Option (RaReq × SeqSide × SeqSide)  -- with Clove's side before it and after
  raOtp : Option RaReq
  hubEvt : Bool            -- a HUB_EVT event waits for the core: however many, one event (R84)
  wkEvt : Bool             -- the same of WK_EVT
  fresh : Bool             -- the H crossings re-offer their values (R86)
  resetPend : Option Bool  -- SYS_RESET waiting for its response: some full (R287)
  fullPend : Bool          -- a full-scope reset waits for its shutdown to end (R287)
  firstReadyDone : Bool    -- Cehole has reached READY since VAO good (R118, R463)
deriving DecidableEq, Repr

/-! ### One-time memory and debug -/

/-- The condition a word reads in (R155). -/
inductive Cond where
  | blank | valid | bad
deriving DecidableEq, Repr

/-- One OTP word: its condition, its data as stored, whether a read corrects one bit, and whether programming it fails
verification (a defect of the array). -/
structure OtpWord where
  cond : Cond
  data : BitVec 64
  corrects : Bool
  defective : Bool
deriving DecidableEq, Repr

/-- The OTP array and what Clove derives from it (R155 to R178). -/
structure Otp where
  words : List OtpWord               -- 256
  shadows : List (Nat × BitVec 64)   -- ascending by word, at most 16
  corrected : Word
  corrLogged : List Nat
  alarms : Byte                      -- one bit per region code (R167)
  nonceEntry : Option (BitVec 128)   -- RETURN_CHALLENGE nonce for RETURN entry
  nonceCore : Option (BitVec 128)    -- and for core unlock
deriving DecidableEq, Repr

/-- The TAP's instruction register (the debug port's instruction table). -/
inductive TapIr where
  | extest | sample | idcode | highz | auth | svc | coreDbg | bypass
deriving DecidableEq, Repr

/-- The debug levels that an unlock opens (R179, R180). -/
inductive DbgLevel where
  | none | service | core
deriving DecidableEq, Repr

/-- The debug port (R179 to R182). -/
structure Dbg where
  ir : TapIr
  level : DbgLevel
  status : Byte
  nonce : BitVec 128
  asked : DbgLevel           -- the level a nonce was issued for
  answer : Option (List Byte)  -- the response under verification
  fails : Nat                -- consecutive failures, in always-on SRAM
  backoff : Bool
  used : Bool                -- a level of an O cell is in use, until one of R180's ends
deriving DecidableEq, Repr

/-! ### Check-value units -/

/-- The algorithm of a check-value unit's main register (R516). -/
inductive CvuAlg where
  | crc8 | crc16 | crc32 | crc32c
deriving DecidableEq, Repr

/-- A unit's state, as it is saved (R527). -/
structure CvuState where
  alg : CvuAlg
  main : Word              -- before final reflection and XOROUT
  header : Half            -- the header lane's register
  count : Nat              -- bytes taken in
  start : Nat
  len : Nat
  hdrLen : Nat
  frame : Bool             -- LEN is taken from bytes 10 and 11 (R521)
  compare : Bool
deriving DecidableEq, Repr

/-- The units' own states, each as its last stream left it, none before a unit's first (R518); and the saved states: one of CVU0 and
one of CVU1 per context, CVU2's of the NVM read and the write stream (R528). -/
structure Cvu where
  units : List (Option CvuState)  -- CVU0 to CVU3
  rx : List (Option CvuState)  -- 12
  tx : List (Option CvuState)  -- 12
  rd : Option CvuState
  wr : Option CvuState
deriving DecidableEq, Repr

/-- The state of the part and the queue of waiting commands. -/
@[ext]
structure State where
  rst : Rst
  clk : Clk
  pwr : Pwr
  reed : Reed
  port : HostPort
  uart : Uart
  usb : Usb
  net : Net
  ctxs : List Ctx            -- 12
  params : Params
  nvm : Nvm
  log : Log
  jobs : Jobs
  saf : Saf
  fife : Fife
  motion : Motion
  noz : Noz
  hub : Hub
  cal : Cal
  seq : Seq
  otp : Otp
  dbg : Dbg
  cvu : Cvu
  pending : List Instr
deriving DecidableEq, Repr

/-! ### Reset values -/

/-- A cleared set of error counters. -/
def Counters.zero : Counters := ⟨0, 0, 0, 0, 0, 0, 0, 0, 0, 0, 0, 0⟩

/-- A fresh mailbox context: E unset, ALIVE at 0x00, empty queues (R224, R225, R236). -/
def Ctx.fresh : Ctx :=
  { e := none, lastAlive := none, alive := 0, cache := [], out := [], msg := none, notifSeq := 0,
    cnt := Counters.zero, keyed := none, opening := none, tagFails := 0, refusedAt := none, subs := 0 }

/-- An encoder at rest. Its input levels and counts have no reset value in the spec. -/
def Enc.rest : Enc :=
  { a := false, b := false, i := false, fwd := true, count := 0, raw := 0, lastT := none, edges := 0, intervals := [], synthRun := 0, extrapLines := 0,
    synthSince := false, rejectSince := false, confirm := none, lastIndex := none, lastRawT := none, fastRun := 0,
    furthest := 0, stopPos := 0 }

/-- A channel's defaults (the per-channel default table of chapter 5). -/
def ChCfg.defaults : List ChCfg :=
  [⟨0, 0x00, 0, 10, 7, 0, 0, 1000⟩, ⟨1, 0x01, 0, 10, 6, 10, 0, 1000⟩, ⟨2, 0x02, 0, 50, 2, 0, 0, 1000⟩,
   ⟨3, 0x04, 0, 10, 0, 0, 0, 1000⟩, ⟨3, 0x06, 0, 20, 1, 0, 0, 1000⟩, ⟨2, 0x01, 0, 10, 3, 0, 0, 1000⟩,
   ⟨4, 0x01, 0, 100, 4, 0, 0, 1000⟩, ⟨4, 0x01, 0, 10, 5, 0, 0, 1000⟩]

/-- The sequencer's default settings (chapter 5's parameter tables). -/
def SeqCfg.default : SeqCfg :=
  { ch := ChCfg.defaults, pgUsed := 0x77, fireReq := 0x12, saffron := 0x08, headRail := 4, autoOn := true,
    drone := false, holdup := false, snapshot := false, retries := 0 }

/-- A released channel. -/
def ChRun.off : ChRun :=
  { en := false, released := false, delayed := false, pgSeen := false, monitored := false, pgFlag := false,
    wffFlag := false, hisDrop := false, pg := false, edge := 0 }

/-- A blank OTP word without defects. -/
def OtpWord.blank : OtpWord := ⟨.blank, 0, false, false⟩

/-- An idle slot, an idle detector, and a channel without a reading. -/
def SlotRun.rest : SlotRun := ⟨[], false, 0, none⟩
def DetRun.rest : DetRun := ⟨false, 0, 0, none, none, none, false, none, 0, false, 0, 0, none, none, false, none⟩
def Reading.none : Reading := ⟨0, 0, false⟩

/-- The ROM default selections (R505, R511): the nominal codes. -/
def CalSel.rom (sel : List Nat) : CalSel := ⟨0, 0xFF, sel, 0, 0⟩
def Cal.romActive : List CalSel :=
  [CalSel.rom [64, 32], CalSel.rom [64, 32], CalSel.rom [32], CalSel.rom [32, 32], CalSel.rom [64],
   CalSel.rom [64], CalSel.rom [64], CalSel.rom [64], CalSel.rom [64],
   CalSel.rom [], CalSel.rom [], CalSel.rom [], CalSel.rom []]

/-- Everything that a reset covering the main domain returns to its start (R20, R31, R236). -/
def Params.empty : Params := ⟨[], [], [], [], [], [], [], none, none, 0⟩

/-- The system slots' fixed assignments as analog schedule entries (R469): channel, converter, period, phase. -/
def Hub.sysEntry (channel conv period phase : Nat) : List Byte :=
  [1, BitVec.ofNat 8 channel, BitVec.ofNat 8 period, BitVec.ofNat 8 (period / 256), BitVec.ofNat 8 phase, 0,
   BitVec.ofNat 8 conv] ++ List.replicate 21 0

def Hub.sysSlots : List (List Byte) :=
  [Hub.sysEntry 24 1 1 0, Hub.sysEntry 25 2 1 0, Hub.sysEntry 26 2 1 0, Hub.sysEntry 16 1 5 1, Hub.sysEntry 17 1 5 2,
   Hub.sysEntry 18 1 5 3, Hub.sysEntry 19 1 5 4, Hub.sysEntry 20 2 100 10, Hub.sysEntry 21 2 100 20,
   Hub.sysEntry 22 1 100 30]

/-- The hub before its first tick. -/
def Hub.rest : Hub :=
  { running := false
    slots := Hub.sysSlots ++ List.replicate 54 (List.replicate 28 0)
    descs := List.replicate 16 (List.replicate 32 0)
    dets := List.replicate 32 (List.replicate 16 0)
    slotRun := List.replicate 64 SlotRun.rest
    detRun := List.replicate 32 DetRun.rest
    sticky := 0
    latest := List.replicate 27 Reading.none
    fifo := [], fifoLost := 0, fifoOver := 0, ackAlive := none, alive := 0, overrun := 0, lost := 0
    borrowed := 0, lastHigh := 0, busI2c := [], busSpi := [], i2cHeld := true, done := [], irqBy := 0, leds := [0, 0, 0, 0], stopping := false, wff := none
    defer := [], restartAux := 0, restartDue := false, reserve := false }

/-- The sequencer at Clove's reset: OFF, every enable released, DRONE driven low (R41, R146). REC_SEQ starts at 0 (DESIGN
CHOICE, log entry 185). -/
def Seq.rest : Seq :=
  { cfg := SeqCfg.default, next := none, ph := .off, state := 0, ch := List.replicate 8 ChRun.off
    drone := 0, mask := 0xFF, slot := 0, slotWff := false, again := false, partialRun := false, offList := 0
    shadow := [], due := 0, held := 0, onLatched := false, retriesDone := 0, retryCancel := false, retryDue := false, minOffRun := false
    vinLow := false, frozen := false, droneLow := true, droneLine := false, droneAbortDue := false
    pend := [], lost := 0, recSeq := 0, writing := none, holdup := none, waiters := [] }

/-- Motion at a main-domain reset: step and enable outputs low (R19, R41). -/
def Motion.rest : Motion :=
  { enc := [Enc.rest, Enc.rest], feed := .idle, rate := 0, slow := none, b0 := 0, feedSteps := 0, auxFrom := 0, auxRamp := 0
    auxV0 := 0, auxLines := 0, auxGone := 0, passEnc := 0, cutting := none, stroke := 0
    cutIn := false, sledIn := false, sledPos := none, sledPath := [], homingCut := false, homingSled := false, capped := false
    capTime := 0, en := 0, disabled := 0, flt := 0, posFault := false, synthInResync := false, waitStill := false, stubs := [], resyncDue := false
    synthCount := 0, rejectCount := 0, maxErr := 0, sinceScan := 0, sinceSpit := 0, uncapSpit := false, pass := 0
    swath := 0 }

/-- The Fife at a main-domain reset (R389, R420, R437). -/
def Fife.rest : Fife :=
  { lineCnt := 0, hisGate := false, fault := false, deltas := [], live := [], lastRec := none, waiting := none
    started := none, printEnd := 0, lineEnd := 0, linesSinceUpdate := 0, storeDue := false, overTemp := [false, false, false, false] }

/-- Saffron and its Clove counters at VAO good: DISCH asserted, charger released (R41). -/
def Saf.rest : Saf :=
  { alloc := 0, allocSrc := 0, classAlloc := none, pdCls := 0, allocKept := false, disch := true, reasons := 0
    hold := false, needLow := false, dischLate := false, charger := false, gate := false, tripCode := 0
    tripped := false, overCount := 0, winEnergy := 0, winBudget := 0, budgetAt := 0, winStart := 0, winOpen := false, winLen := 1000
    slotEnergy := 0, ticket := none, actions := [], rr := [12, 12, 12], awaiting := none, spent := []
    deferOff := false, dischHit := false, railHit := false, energyRuns := 0, inRun := false, postStep := 0, postLine := 0, postJob := 0 }

/-- Nozzle health before a map is loaded: every nozzle UNTESTED (R460). -/
def Noz.rest : Noz :=
  { states := [], eyes := [], rot := [0, 0, 0, 0], mapSeq := 0, dirty := false, marked := [], scan := none
    autoHold := false, service := none, gateFadc := [], gateLed := [], lastLed := 0, lastTia := 0, lastNoise := 0, writtenAt := none, changedRtc := 0 }

/-- The non-volatile memory as first initialised: no valid image, no record, every page erased. -/
def Nvm.blank : Nvm :=
  { images := List.replicate 2 []
    profiles := List.replicate 8 none
    maps := List.replicate 2 []
    heads := List.replicate 2 []
    fires := [], faults := List.replicate 8 none, snaps := []
    ctrl := List.replicate 8 [], ctrlNext := 0, ring := [], store := []
    patchA := none, patchB := none, patchActive := 0, patchDue := false, patchLevel := 0, wear := [], bad := [], retired := []
    sparesUsed := 0, exhaustLogged := false }

/-- No stream has a saved state. -/
def Cvu.rest : Cvu := ⟨List.replicate 4 none, List.replicate 12 none, List.replicate 12 none, none, none⟩

/-- The machine at reset: VAO absent or just cleared, so that every block is in the reset of the first row of R74's
table. Balls are at the reset states of R41: enables released, DISCH high, DRONE driven low, RSTOUT_N low. -/
def State.reset : State :=
  { rst :=
      { vaoGood := false, vioGood := false, vddaGood := false, main := .held, otpClean := false, otpHold := false
        testHold := false, clockHold := false, rstoutHigh := false, rstoutMin := false, cause := 0x01
        causeOpen := true, hibWake := false, wdtRun := false, xo25Run := false, hostAddr := 0x4C, abHubCfg := none
        abSeqReq := none, abSeqNvm := none, abOtpRd := none, raHub := none, raSeq := none, raOtp := none, hubEvt := false, wkEvt := false, fresh := false, resetPend := none
        fullPend := false, firstReadyDone := false }
    clk :=
      { hubTime := 0, rtc := 0, rtcSet := false, rtcAlarm := 0, xo32 := .absent, rtcOnXo32 := false, rtcMove := false
        trimOnXo32 := false, trimMove := false, xo32LostLogged := false, trimCode := 0, still := 0, aoHz := 8000000
        trimmed := false, deglitch := 7, inc := 2 ^ 29, acc := 0, secUs := 0, free := 0 }
    pwr :=
      { st := .off, dozeDue := false, entry := none, wakeCause := 0, wakeTime := 0, wakeSeen := false, reedCap := 0, reedRefused := 0
        entryState := 0, napJobs := false, napDiscard := false, napLimit := 0, wkLevel := 0, lastCause := 0
        moving := false, railsFull := false, collect := none, moveDue := false }
    reed :=
      { st := .idle, boot := false, startFlag := false, bitCount := 0, shift := 0, owns := false, handover := false
        takeback := false }
    port :=
      { pecOn := false, irq := 0, irqEnable := 0, dbStatus := 0, inBuf := [], outPos := 0, lastRead := []
        imgDb := 0x0102 }
    uart := ⟨false, [], false, false, []⟩
    usb :=
      { vbus := false, attached := false, address := 0, configured := false, suspended := false, halted := []
        raw := [], skip := 0, hunt := false, report := [], lost := 0, control := none }
    net :=
      { phyOn := false, up := false, hundred := false, full := false, ip4 := none, byDhcp := false, linkLocal := false, ip6 := none, ip6Local := none
        conns := [], backoffs := [], lldpAlloc := 0, lldpOn := false, lldpBurst := 0, lldpEcho := 0, lldpSent := 0, lldpLast := none
        echoSec := 0, echoes := 0, unreach := 0, rxOctets := 0, txOctets := 0 }
    ctxs := List.replicate 12 Ctx.fresh
    params := Params.empty
    nvm := Nvm.blank
    log :=
      { staging := [], next := 0, lowest := 0, checked := 0, loss := 0, lossSeen := 0, lossDue := false
        tokens := 12800000, tokenAt := 0, cloveLost := 0, bootCount := 0, newestRec := none, ctrlAt := none }
    jobs := ⟨[], [], 1, [], none⟩
    saf := Saf.rest
    fife := Fife.rest
    motion := Motion.rest
    noz := Noz.rest
    hub := Hub.rest
    cal := ⟨Cal.romActive, none, none, none, List.replicate 4 none, [], none, false, 0⟩
    seq := Seq.rest
    otp := ⟨List.replicate 256 OtpWord.blank, [], 0, [], 0, none, none⟩
    dbg := ⟨.idcode, .none, 0, 0, .none, none, 0, false, false⟩
    cvu := Cvu.rest
    pending := [] }

end Sys2Proof.Machine
end

