-- ==== Sys2Proof/Machine/Cvu.lean ====
section
/-! DEFINITION. The check-value units' state and its saving (R516, R521, R522, R527 to R529). What a unit computes over a whole
stream is the check of Crc.lean: a stream that is saved and restored yields the same. -/

namespace Sys2Proof.Machine

/-- The main register before its first byte, and after one more. -/
def CvuAlg.init : CvuAlg → Word
  | .crc8 => 0
  | .crc16 => 0xFFFF
  | .crc32 => 0xFFFFFFFF
  | .crc32c => 0xFFFFFFFF

def CvuAlg.feed (a : CvuAlg) (reg : Word) (b : Byte) : Word :=
  BitVec.ofNat 32 (match a with
    | .crc8 => crcByteMsb 8 0x07 reg.toNat b
    | .crc16 => crcByteMsb 16 0x1021 reg.toNat b
    | .crc32 => crcByteLsb 0xEDB88320 reg.toNat b
    | .crc32c => crcByteLsb 0x82F63B78 reg.toNat b)

/-- A byte of the stream: the header lane covers bytes 0 to HDR_LEN - 1, the main register START to START + LEN - 1, with LEN
from bytes 10 and 11 in frame mode (R521). -/
def CvuState.feed (u : CvuState) (b : Byte) : CvuState :=
  let u := if !u.frame then u
    else if u.count = 10 then { u with len := 16 + b.toNat }
    else if u.count = 11 then { u with len := u.len + 256 * b.toNat } else u
  { u with
    main := if u.start ≤ u.count ∧ u.count < u.start + u.len then u.alg.feed u.main b else u.main
    header := if u.count < u.hdrLen then BitVec.ofNat 16 (crcByteMsb 16 0x1021 u.header.toNat b) else u.header
    count := u.count + 1 }

/-- The result in the main register: reflected and inverted where the algorithm says so (R516). Both reflected algorithms hold
their register bit-reversed here, so that only XOROUT is left. -/
def CvuState.result (u : CvuState) : Nat :=
  match u.alg with
  | .crc8 => u.main.toNat
  | .crc16 => u.main.toNat
  | .crc32 => (~~~ u.main).toNat
  | .crc32c => (~~~ u.main).toNat

/-- With compare set, the result is held against the stored check that follows the covered bytes (R521). -/
def CvuState.agrees (u : CvuState) (stored : Nat) : Bool := !u.compare || decide (u.result = stored)

/-- The fresh states of the snoop points: a mailbox frame, an NVM image with its header check and body, and what has one check over
its first `len` bytes, which an explicit service has as well (R522, R523, R257). -/
def CvuState.onFrame (compare : Bool) : CvuState := ⟨.crc32c, CvuAlg.init .crc32c, 0xFFFF, 0, 0, 16, 14, true, compare⟩
def CvuState.onImage (len : Nat) (compare : Bool) : CvuState :=
  ⟨.crc32c, CvuAlg.init .crc32c, 0xFFFF, 0, 32, len, 30, false, compare⟩
def CvuState.onBody (alg : CvuAlg) (len : Nat) (compare : Bool) : CvuState := ⟨alg, alg.init, 0xFFFF, 0, 0, len, 0, false, compare⟩

/-- The bytes of a stream before its last boundary of `unit` bytes. -/
def lastSwitch (unit : Nat) (bs : List Byte) : Nat := unit * ((bs.length - 1) / unit)

/-- The state saved at the last boundary of `unit` bytes within a stream; none where the stream has none. A switch is made at
every boundary (DESIGN CHOICE, log entry 137). -/
def savedAt (unit : Nat) (u : CvuState) (bs : List Byte) : Option CvuState :=
  if bs.length ≤ unit then none else some ((bs.take (lastSwitch unit bs)).foldl CvuState.feed u)

/-- A stream followed in full: the saved state is restored and fed the rest (R527). -/
def follow (unit : Nat) (u : CvuState) (bs : List Byte) : CvuState :=
  match savedAt unit u bs with
  | none => bs.foldl CvuState.feed u
  | some v => (bs.drop (lastSwitch unit bs)).foldl CvuState.feed v

def modCvu (s : State) (f : Cvu → Cvu) : State := { s with cvu := f s.cvu }

/-- A frame received or sent in bursts of 64 bytes. A context keeps a saved state; a connection that has none keeps none
(R528). -/
def noteRx (s : State) (c : Option Nat) (bs : List Byte) : State :=
  let u := CvuState.onFrame true
  modCvu s (fun x => { x with units := x.units.set 0 (some (follow 64 u bs)), rx := match c with
    | some c => x.rx.set c (savedAt 64 u bs)
    | none => x.rx })
def noteTx (s : State) (c : Option Nat) (bs : List Byte) : State :=
  let u := CvuState.onFrame false
  modCvu s (fun x => { x with units := x.units.set 1 (some (follow 64 u bs)), tx := match c with
    | some c => x.tx.set c (savedAt 64 u bs)
    | none => x.tx })

/-- A stream read from NVM, where CVU2 compares the format's checks, or written to it, where it inserts them, in units of 32 bytes
(R522, R528). -/
def noteRead (s : State) (u : CvuState) (bs : List Byte) : State :=
  modCvu s (fun x => { x with units := x.units.set 2 (some (follow 32 u bs)), rd := savedAt 32 u bs })
def noteWrite (s : State) (u : CvuState) (bs : List Byte) : State :=
  let u := { u with compare := false }
  modCvu s (fun x => { x with units := x.units.set 2 (some (follow 32 u bs)), wr := savedAt 32 u bs })

/-- The formats of NVM: `len` bytes of body behind a header of 32, in a parameter image, a copy of the nozzle map or one of
HEAD_CAL; a page closed by its CRC-32C, of LOG_CTRL or FIRE_CNT; a snapshot, whose page has a header with its own check; a record of 32 bytes, of the event log or a fault
slot; and bytes whose CRC-32C stands elsewhere, a stored object's in the directory (R151, R152, R257, R265, R270, R354, R460,
R514). -/
def imageStream (len : Nat) : CvuState := CvuState.onImage len true
def pageStream : CvuState := CvuState.onBody .crc32c 252 true
def snapStream : CvuState := { pageStream with hdrLen := 30 }
def recordStream : CvuState := CvuState.onBody .crc16 30 true
def objectStream (b : List Byte) : CvuState := CvuState.onBody .crc32c b.length true

/-- Several reads of one format, in order. -/
def readAll (s : State) (u : CvuState) (l : List (List Byte)) : State := l.foldl (fun s b => noteRead s u b) s

/-- An explicit service of CVU3 over some bytes (R523). -/
def explicit (s : State) (alg : CvuAlg) (bs : List Byte) : State :=
  modCvu s (fun x => { x with units := x.units.set 3 (some (bs.foldl CvuState.feed (CvuState.onBody alg bs.length false))) })

/-- CVU3 after a hub record on HUB_RD, and whether the record's CRC-8 holds (R522). -/
def hubRecordUnit (r : List Byte) : CvuState := r.foldl CvuState.feed (CvuState.onBody .crc8 11 true)
def hubRecordOk (r : List Byte) : Bool := (hubRecordUnit r).agrees (byteAt r 11).toNat

/-- Records read through HUB_RD. A record that fails is returned as stored; R524's check of ALIVE stands beside (R525). -/
def noteHubRead (s : State) (rs : List (List Byte)) : State :=
  modCvu s (fun x => { x with units := match rs.getLast? with
    | some r => x.units.set 3 (some (hubRecordUnit r))
    | none => x.units })

/-- A record for a HUB_EVENT: one that fails its check is not used, and its bytes are 0 (R525). -/
def checkedRecord (r : List Byte) : List Byte := if hubRecordOk r then r else zeros 12

end Sys2Proof.Machine
end

