-- ==== Sys2Proof/Machine/HubCfg.lean ====
section
/-! DEFINITION. The hub's three kinds of configuration entry and the checks on them (R469, R470, R472, R482, R483).
Each check answers the offset within the entry of its lowest failing field, or none. -/

namespace Sys2Proof.Machine

/-- The offset of the first condition of a list, in ascending offset, that does not hold. -/
def firstFail : List (Nat × Bool) → Option Nat
  | [] => none
  | (off, ok) :: cs => if ok then firstFail cs else some off

/-- Whether one filter stage keeps to the filter-stage table (R482); the offset is that of the failing field. -/
def stageChecks (off code arg0 arg1 : Nat) : List (Nat × Bool) :=
  let a0 (ok : Bool) : Nat × Bool := (off + 1, ok)
  let a1 (ok : Bool) : Nat × Bool := (off + 2, ok)
  match code with
  | 1 => [a0 (decide (arg0 ≤ 15))]
  | 2 => [a0 (arg0 == 0)]
  | 3 => [a0 (arg0 == 3 || arg0 == 5), a1 (arg1 == 0)]
  | 4 => [a0 (decide (1 ≤ arg0 ∧ arg0 ≤ 4)), a1 (arg1 == 0)]
  | 5 => [a0 (decide (1 ≤ arg0 ∧ arg0 ≤ 8)), a1 (arg1 == 0)]
  | 6 => [a0 (arg0 == 0), a1 (decide (2 ≤ arg1 ∧ arg1 ≤ 256))]
  | 7 => [a0 (arg0 == 0), a1 (arg1 == 0)]
  | _ => [(off, false)]

/-- The stages of a chain from its bytes; code 0 ends the chain (R470). -/
def chainOf : List Byte → List (Nat × Nat × Nat)
  | c :: a :: l :: h :: rest => if c = 0 then [] else (c.toNat, a.toNat, ofLe [l, h]) :: chainOf rest
  | _ => []

def chainChecks (off : Nat) : List (Nat × Nat × Nat) → List (Nat × Bool)
  | [] => []
  | (c, a, v) :: cs => stageChecks off c a v ++ chainChecks (off + 4) cs

/-! The fields of a schedule entry (R470). -/
def slotKind (e : List Byte) : Nat := fieldAt e 0 1
def slotSource (e : List Byte) : Nat := fieldAt e 1 1
def slotPeriod (e : List Byte) : Nat := fieldAt e 2 2
def slotPhase (e : List Byte) : Nat := fieldAt e 4 2
def slotOption (e : List Byte) (i : Nat) : Bool := (fieldAt e 6 1).testBit i
def slotConv (e : List Byte) : Nat := fieldAt e 6 1 % 4
def slotLed (e : List Byte) : Nat := fieldAt e 6 1 / 8 % 4
def slotSettle (e : List Byte) : Nat := fieldAt e 8 1
def slotChain (e : List Byte) : List (Nat × Nat × Nat) := chainOf (slice e 12 16)

/-- The checks of a schedule entry that concern the entry alone (R470). An entry with KIND 0 is off: only KIND and the
reserved bytes are judged (DEDUCED, log entry 21). -/
def slotCheck (e : List Byte) : Option Nat :=
  let k := slotKind e
  let led := slotOption e 2
  firstFail <|
    if k = 0 then [(9, slice e 9 3 == zeros 3)] else
    [(0, decide (k ≤ 2)), (1, decide (slotSource e ≤ if k = 2 then 15 else 26)), (2, decide (1 ≤ slotPeriod e)),
     (4, decide (slotPhase e < slotPeriod e)),
     (6, decide (slotConv e ≤ 2) && !(k == 2 && (led || slotOption e 5)) && !(slotOption e 5 && !led)),
     (7, !led || decide (1 ≤ fieldAt e 7 1 ∧ fieldAt e 7 1 ≤ 80)), (8, !led || decide (slotSettle e ≤ 80)),
     (9, slice e 9 3 == zeros 3)] ++ chainChecks 12 (slotChain e)

/-- The checks of one descriptor field: its format bits, its place within RLEN and its reserved bytes (R472). -/
def descFieldChecks (d : List Byte) (off : Nat) : List (Nat × Bool) :=
  let fmt := fieldAt d (off + 1) 1
  [(off, decide (fieldAt d off 1 + (if fmt.testBit 0 then 2 else 1) ≤ fieldAt d 5 1)), (off + 1, !fmt.testBit 3),
   (off + 2, slice d (off + 2) 2 == zeros 2)]

def descUnused (d : List Byte) : Bool := d.all (· == 0)

/-- The checks of a bus descriptor that is not all zero (R472). -/
def descCheck (d : List Byte) : Option Nat :=
  if descUnused d then none else
  let spi := fieldAt d 0 1 = 1
  firstFail <|
    [(0, decide (fieldAt d 0 1 ≤ 1)),
     (1, if spi then decide (fieldAt d 1 1 % 4 ≤ 2 ∧ fieldAt d 1 1 < 16) else decide (fieldAt d 1 1 < 128)),
     (2, if spi then decide (fieldAt d 2 1 ≤ 63) else decide (fieldAt d 2 1 ≤ 2)),
     (3, decide (fieldAt d 3 1 < if spi then 2 else 4)), (4, decide (fieldAt d 4 1 ≤ 8)),
     (5, decide (1 ≤ fieldAt d 5 1 ∧ fieldAt d 5 1 ≤ 16)), (6, slice d 6 2 == zeros 2)]
    ++ descFieldChecks d 16 ++ descFieldChecks d 20 ++ [(24, slice d 24 8 == zeros 8)]

/-! The fields of a detector entry (R483). -/
def detKind (e : List Byte) : Nat := fieldAt e 0 1
def detSource (e : List Byte) : Nat := fieldAt e 1 1
def detRole (e : List Byte) : Nat := fieldAt e 2 1
def detAction (e : List Byte) (i : Nat) : Bool := (fieldAt e 3 1).testBit i
def detA (e : List Byte) : Nat := fieldAt e 10 1
def detB (e : List Byte) : Nat := fieldAt e 11 1

/-- The checks of the entry of detector `n` that concern the entry alone (R483). -/
def detCheck (n : Nat) (e : List Byte) : Option Nat :=
  let k := detKind e
  let a := signedAt e 4 2
  let b := signedAt e 6 2
  let common := [(2, decide (detRole e ≤ 4))]
  let kindAndZero (cs : List (Nat × Bool)) := firstFail <|
    [(0, decide (k ≤ 5))] ++ cs.filter (fun c => decide (c.1 < 3)) ++ [(3, decide (fieldAt e 3 1 < 64))]
      ++ cs.filter (fun c => decide (3 ≤ c.1)) ++ [(14, slice e 14 2 == zeros 2)]
  match k with
  | 0 => kindAndZero []
  | 4 => kindAndZero ([(1, decide (detSource e ≤ 5))] ++ common)
  | 5 => kindAndZero ([(1, detSource e == 0)] ++ common ++
      [(10, decide (detA e ≤ 31 ∧ detA e ≠ n)), (11, decide (detB e ≤ 31 ∧ detB e ≠ detA e ∧ detB e ≠ n)),
       (12, decide (1 ≤ fieldAt e 12 2))])
  | _ => kindAndZero ([(1, decide (detSource e ≤ 63))] ++ common ++
      [(6, if k = 1 then decide (b ≤ a) else decide (a ≤ b)), (8, decide (1 ≤ fieldAt e 8 1)),
       (9, decide (1 ≤ fieldAt e 9 1))])

/-- A slot of this number may be off; a system slot never is (R469). -/
def slotIsOff (slots : Nat → List Byte) (n : Nat) : Bool := decide (10 ≤ n) && slotKind (slots n) == 0

/-- A bus slot that names an unused descriptor (R470, R472). -/
def slotNamesUnused (descs : Nat → List Byte) (e : List Byte) : Bool :=
  slotKind e == 2 && descUnused (descs (slotSource e))

/-- A detector whose source slot is off (R483). -/
def detSourceOff (slots : Nat → List Byte) (e : List Byte) : Bool :=
  (detKind e == 1 || detKind e == 2 || detKind e == 3) && slotIsOff slots (detSource e)

end Sys2Proof.Machine
end

