-- ==== Sys2Proof/Config.lean ====
section
/-! DEFINITION. The values the spec leaves free: opaque constants with no body, so that a statement about one holds for
every value. Each is named in a log entry. -/

namespace Sys2Proof.Config

/-- A random nonce of 128 bits (R176, R181, R209): the n-th value the random source yields. Log entry 5. -/
opaque freeNonce : Nat → BitVec 128

/-- A one-bit choice the spec leaves open: the n-th such choice of the run. Log entry 6. -/
opaque freeBit : Nat → Bool

/-- The die-unique keystream word of an OTP SECRET word, which the part never exposes (the SECRET layout). Log entry 7. -/
opaque secretKeystream : Nat → BitVec 64

/-- The bitmap of a ROM font glyph, one number per line with bit 0 leftmost; the spec gives no bitmaps (R353).
Log entry 8. -/
opaque romGlyph : Nat → List Nat

/-- The place, size and stroke of the hollow box that is the ROM font's DEFAULT glyph, of which the spec gives no dots
(R353). Log entry 8. -/
opaque romBox : Nat → Nat

/-- Which of several equally short Code 128 encodings of a text is drawn (R348). Log entry 9. -/
opaque codeChoice : List Byte → Nat

/-- Which of several QR masks of equal penalty is chosen for a text (R348). Log entry 9. -/
opaque maskChoice : List Byte → Nat

/-- Whether the scale of a temperature, halfway between two units, is rounded up (R426). Log entry 47. -/
opaque tieUp : Rat → Bool

/-- The level that a motor's _DIR keeps after a step, which the spec does not give (R401). Log entry 144. -/
opaque motorDir : Nat → Bool

/-- The temperature in °C that a code of a channel shows which is no temperature sensor of the part (R379). Log entry 157. -/
opaque ambient : Nat → Nat → Rat

/-- The AO-RC coarse start code that word 108 holds, in steps of 0.2 %; its layout is not given (R168, R505). Log entry 168. -/
opaque aoStart : BitVec 64 → Int

/-- What an 8-bit fire delta holds after a count that it has no room for (R437). Log entry 158. -/
opaque deltaOver : Nat → BitVec 8

/-- A patch: the patch level it carries; its format is not given (R321). Log entry 11. -/
opaque patchLevel : List Byte → Byte

/-- A patch: whether its signature verifies against a key digest; its format is not given (R321). Log entry 11. -/
opaque patchVerifies : List Byte → BitVec 128 → Bool

end Sys2Proof.Config
end

