-- ==== Sys2Proof/Machine/Sha.lean ====
section
/-! DEFINITION. SHA-256, HMAC-SHA-256 and ECDSA over P-256, which R158, R181, R210, R211 and R258 name without giving
them. PRESUMED from FIPS 180-4, FIPS 198-1 and FIPS 186-4 (log entry 20). -/

namespace Sys2Proof.Machine

/-- The first 32 bits of the fractional parts of the cube roots of the first 64 primes. -/
def shaK : List Nat :=
  [0x428A2F98, 0x71374491, 0xB5C0FBCF, 0xE9B5DBA5, 0x3956C25B, 0x59F111F1,
   0x923F82A4, 0xAB1C5ED5, 0xD807AA98, 0x12835B01, 0x243185BE, 0x550C7DC3,
   0x72BE5D74, 0x80DEB1FE, 0x9BDC06A7, 0xC19BF174, 0xE49B69C1, 0xEFBE4786,
   0x0FC19DC6, 0x240CA1CC, 0x2DE92C6F, 0x4A7484AA, 0x5CB0A9DC, 0x76F988DA,
   0x983E5152, 0xA831C66D, 0xB00327C8, 0xBF597FC7, 0xC6E00BF3, 0xD5A79147,
   0x06CA6351, 0x14292967, 0x27B70A85, 0x2E1B2138, 0x4D2C6DFC, 0x53380D13,
   0x650A7354, 0x766A0ABB, 0x81C2C92E, 0x92722C85, 0xA2BFE8A1, 0xA81A664B,
   0xC24B8B70, 0xC76C51A3, 0xD192E819, 0xD6990624, 0xF40E3585, 0x106AA070,
   0x19A4C116, 0x1E376C08, 0x2748774C, 0x34B0BCB5, 0x391C0CB3, 0x4ED8AA4A,
   0x5B9CCA4F, 0x682E6FF3, 0x748F82EE, 0x78A5636F, 0x84C87814, 0x8CC70208,
   0x90BEFFFA, 0xA4506CEB, 0xBEF9A3F7, 0xC67178F2]

/-- The initial hash value. -/
def shaInit : List Nat := [0x6A09E667, 0xBB67AE85, 0x3C6EF372, 0xA54FF53A, 0x510E527F, 0x9B05688C, 0x1F83D9AB, 0x5BE0CD19]

def mod32 (x : Nat) : Nat := x % 4294967296
def not32 (x : Nat) : Nat := 4294967295 - x
def rotr32 (n x : Nat) : Nat := mod32 ((x >>> n) ||| (x <<< (32 - n)))

/-- The message schedule, newest word first. -/
def shaSchedule (block : List Nat) : List Nat :=
  Nat.repeat (fun (w : List Nat) =>
    let w2 := w.getD 1 0
    let w15 := w.getD 14 0
    let s1 := rotr32 17 w2 ^^^ rotr32 19 w2 ^^^ (w2 >>> 10)
    let s0 := rotr32 7 w15 ^^^ rotr32 18 w15 ^^^ (w15 >>> 3)
    mod32 (s1 + w.getD 6 0 + s0 + w.getD 15 0) :: w) 48 block.reverse

/-- One round over the eight working variables. -/
def shaRound (v : List Nat) (kw : Nat × Nat) : List Nat :=
  match v with
  | [a, b, c, d, e, f, g, h] =>
    let s1 := rotr32 6 e ^^^ rotr32 11 e ^^^ rotr32 25 e
    let ch := (e &&& f) ^^^ (not32 e &&& g)
    let t1 := h + s1 + ch + kw.1 + kw.2
    let s0 := rotr32 2 a ^^^ rotr32 13 a ^^^ rotr32 22 a
    let maj := (a &&& b) ^^^ (a &&& c) ^^^ (b &&& c)
    [mod32 (t1 + s0 + maj), a, b, c, mod32 (d + t1), e, f, g]
  | _ => v

/-- One 64-byte block. -/
def shaBlock (h : List Nat) (block : List Byte) : List Nat :=
  let words := (List.range 16).map (fun i => ofBe (slice block (4 * i) 4))
  let out := (shaK.zip (shaSchedule words).reverse).foldl shaRound h
  List.zipWith (fun x y => mod32 (x + y)) h out

/-- A message padded to whole blocks. -/
def shaPad (m : List Byte) : List Byte :=
  m ++ [0x80] ++ zeros ((119 - m.length % 64) % 64) ++ beBytes 8 (8 * m.length)

/-- The blocks of a padded message, `n` of them. -/
def shaBlocks : Nat → List Byte → List Nat → List Nat
  | 0, _, h => h
  | n + 1, m, h => shaBlocks n (m.drop 64) (shaBlock h (m.take 64))

/-- The SHA-256 digest, 32 octets. -/
def sha256 (m : List Byte) : List Byte :=
  let p := shaPad m
  (shaBlocks (p.length / 64) p shaInit).flatMap (beBytes 4)

/-- HMAC-SHA-256, 32 octets. -/
def hmac (key msg : List Byte) : List Byte :=
  let k := padTo 64 (if key.length > 64 then sha256 key else key)
  sha256 (k.map (· ^^^ 0x5C) ++ sha256 (k.map (· ^^^ 0x36) ++ msg))

/-! ### P-256 -/

def p256P : Nat := 0xFFFFFFFF00000001000000000000000000000000FFFFFFFFFFFFFFFFFFFFFFFF
def p256N : Nat := 0xFFFFFFFF00000000FFFFFFFFFFFFFFFFBCE6FAADA7179E84F3B9CAC2FC632551
def p256B : Nat := 0x5AC635D8AA3A93E7B3EBBD55769886BC651D06B0CC53B0F63BCE3C3E27D2604B
def p256Gx : Nat := 0x6B17D1F2E12C4247F8BCE6E563A440F277037D812DEB33A0F4A13945D898C296
def p256Gy : Nat := 0x4FE342E2FE1A7F9B8EE7EB4A7C0F9E162BCE33576B315ECECBB6406837BF51F5

/-- `b` to the power of the number whose low `n` bits are those of `e`, modulo `m`. -/
def powMod (m : Nat) : Nat → Nat → Nat → Nat
  | 0, _, _ => 1
  | n + 1, b, e => (if e % 2 = 1 then b else 1) * powMod m n (b * b % m) (e / 2) % m

/-- The inverse modulo a prime of 256 bits. -/
def invMod (m a : Nat) : Nat := powMod m 256 (a % m) (m - 2)

/-- The sum of two points in projective form (X : Y : Z) with Z 0 for the neutral point. -/
def ecAdd (p q : Nat × Nat × Nat) : Nat × Nat × Nat :=
  let m := p256P
  let sub (a b : Nat) : Nat := (a + m - b % m) % m
  match p, q with
  | (x1, y1, z1), (x2, y2, z2) =>
    if z1 = 0 then (x2, y2, z2) else if z2 = 0 then (x1, y1, z1) else
    let u1 := y2 * z1 % m
    let u2 := y1 * z2 % m
    let v1 := x2 * z1 % m
    let v2 := x1 * z2 % m
    if v1 = v2 then
      if u1 = u2 then
        if y1 = 0 then (0, 1, 0) else
        let w := sub (3 * x1 * x1) (3 * z1 * z1)
        let s := y1 * z1 % m
        let b := x1 * y1 * s % m
        let h := sub (w * w) (8 * b)
        (2 * h * s % m, sub (w * (sub (4 * b) h)) (8 * y1 * y1 * s * s), 8 * s * s * s % m)
      else (0, 1, 0)
    else
      let u := sub u1 u2
      let v := sub v1 v2
      let w := z1 * z2 % m
      let v3 := v * v * v % m
      let a := sub (sub (u * u * w) v3) (2 * v * v * v2)
      (v * a % m, sub (u * (sub (v * v * v2) a)) (v3 * u2), v3 * w % m)

/-- The multiple of a point by the number whose low `n` bits are those of `k`. -/
def ecMul : Nat → Nat → Nat × Nat × Nat → Nat × Nat × Nat
  | 0, _, _ => (0, 1, 0)
  | n + 1, k, p =>
    let r := ecMul n (k / 2) (ecAdd p p)
    if k % 2 = 1 then ecAdd p r else r

/-- ECDSA over P-256 of a SHA-256 digest: key X followed by Y, signature r followed by s (R258). -/
def ecdsaVerifies (key sig digest : List Byte) : Bool :=
  let x := ofBe (slice key 0 32)
  let y := ofBe (slice key 32 32)
  let r := ofBe (slice sig 0 32)
  let s := ofBe (slice sig 32 32)
  let onCurve := decide (x < p256P ∧ y < p256P ∧ y * y % p256P = (x * x * x + (p256P - 3) * x + p256B) % p256P)
  if onCurve = false ∨ r = 0 ∨ p256N ≤ r ∨ s = 0 ∨ p256N ≤ s then false else
  let w := invMod p256N s
  let q := ecAdd (ecMul 256 (ofBe digest * w % p256N) (p256Gx, p256Gy, 1)) (ecMul 256 (r * w % p256N) (x, y, 1))
  if q.2.2 = 0 then false else decide (q.1 * invMod p256P q.2.2 % p256P % p256N = r)

end Sys2Proof.Machine
end

