-- ==== Sys2Proof/Machine/OtpWords.lean ====
section
/-! DEFINITION. Reading the one-time memory: conditions, checks and digests of words, the fields the part interprets,
and what it derives from them (R155 to R178). -/

namespace Sys2Proof.Machine

/-- The region code of a word (R313): 0 LIFECYCLE, 1 LOCKS, 2 KEYDIG, 3 SECRET, 4 CONFIG, 5 CALIB factory, 6 CALIB slot
area, 7 VENDOR. -/
def otpRegion (i : Nat) : Nat :=
  if i < 8 then 0 else if i < 12 then 1 else if i < 28 then 2 else if i < 76 then 3 else if i < 108 then 4
  else if i < 125 then 5 else if i < 236 then 6 else 7

/-- The words that carry a per-word check (the region table). -/
def otpHasCheck (i : Nat) : Bool := otpRegion i == 0 || otpRegion i == 1 || otpRegion i == 6

/-- The per-word check: CRC-16/CCITT over bits 47:0 as 6 bytes and the word's index. -/
def otpCheck (data i : Nat) : Nat := (crc16 (leBytes 6 data ++ [b8 i])).toNat

/-- A word's data with its per-word check in bits 63:48. -/
def otpWithCheck (data i : Nat) : BitVec 64 := BitVec.ofNat 64 (data % 2 ^ 48 + otpCheck data i * 2 ^ 48)

def otpRaw (o : Otp) (i : Nat) : OtpWord := o.words.getD i OtpWord.blank

/-- The condition in which a word of the array reads (R155). -/
def otpCond (o : Otp) (i : Nat) : Cond :=
  let w := otpRaw o i
  match w.cond with
  | .valid => if otpHasCheck i && w.data.toNat / 2 ^ 48 != otpCheck w.data.toNat i then .bad else .valid
  | c => c

/-- The data of a VALID word, without shadows. -/
def otpValid (o : Otp) (i : Nat) : Option (BitVec 64) :=
  match otpCond o i with
  | .valid => some (otpRaw o i).data
  | _ => none

/-- The locks in force: the OR of the VALID lock sets (the lock-set table). -/
def otpLocks (o : Otp) : BitVec 48 :=
  [8, 9, 10, 11].foldl (fun acc i => match otpValid o i with
    | some d => acc ||| BitVec.ofNat 48 d.toNat
    | none => acc) 0

def otpLock (o : Otp) (b : Nat) : Bool := (otpLocks o).toNat.testBit b

/-! Lock bits by name. -/
def rlConfig (o : Otp) : Bool := otpLock o 0
def rlCalib (o : Otp) : Bool := otpLock o 1
def wlCalibSlot (o : Otp) : Bool := otpLock o 2
def noScan (o : Otp) : Bool := otpLock o 3
def noService (o : Otp) : Bool := otpLock o 4
def noCore (o : Otp) : Bool := otpLock o 5
def noReturn (o : Otp) : Bool := otpLock o 6
def noShadow (o : Otp) : Bool := otpLock o 7
def lockFinal (o : Otp) : Bool := otpLock o 8

/-- The digest word of a region that has one (the region table). -/
def digestWord : Nat → Option Nat
  | 2 => some 27
  | 3 => some 75
  | 4 => some 107
  | 5 => some 124
  | 7 => some 255
  | _ => none

/-- The words a region's digest covers. -/
def digestCover : Nat → List Nat
  | 2 => (List.range 15).map (· + 12)
  | 3 => (List.range 47).map (· + 28)
  | 4 => (List.range 31).map (· + 76)
  | 5 => (List.range 16).map (· + 108)
  | 7 => (List.range 19).map (· + 236)
  | _ => []

/-- What a region's digest covers: its other words as stored. -/
def digestBytes (o : Otp) (r : Nat) : List Byte :=
  (digestCover r).flatMap (fun i => leBytes 8 (if (otpRaw o i).cond = .blank then 0 else (otpRaw o i).data.toNat))

/-- A region's digest: CRC-32C in bits 31:0 and CRC-32 in bits 63:32. -/
def digestOf (o : Otp) (r : Nat) : BitVec 64 :=
  let bytes := digestBytes o r
  BitVec.ofNat 64 ((crc32c bytes).toNat + (crc32 bytes).toNat * 2 ^ 32)

/-- Writing the digest word seals the region (R159). -/
def sealed (o : Otp) (r : Nat) : Bool :=
  match digestWord r with
  | some d => decide (otpCond o d ≠ .blank)
  | none => false

/-- A sealed region whose digest word is BAD or does not match. -/
def digestBad (o : Otp) (r : Nat) : Bool :=
  match digestWord r with
  | some d => match otpCond o d with
    | .blank => false
    | .bad => true
    | .valid => decide ((otpRaw o d).data ≠ digestOf o r)
  | none => false

/-- A word for which a trial shadow may exist: a BLANK word of the unsealed CONFIG region or of the slot area (R169). -/
def shadowable (o : Otp) (i : Nat) : Bool :=
  decide (otpCond o i = .blank) && ((otpRegion i == 4 && !sealed o 4) || otpRegion i == 6)

/-- The shadow a read of the word returns, if one is in force (R169, R170). -/
def shadowOf (o : Otp) (i : Nat) : Option (BitVec 64) :=
  if noShadow o || !shadowable o i then none else find? o.shadows i

/-- The data a read of the word returns: its shadow, or a VALID word's data. -/
def otpData (o : Otp) (i : Nat) : Option (BitVec 64) :=
  match shadowOf o i with
  | some d => some d
  | none => otpValid o i

/-- A field of a CONFIG word, 0 where the word gives no data. -/
def otpField (o : Otp) (i lo len : Nat) : Nat :=
  match otpData o i with
  | some d => d.toNat / 2 ^ lo % 2 ^ len
  | none => 0

/-! ### Lifecycle (R165, R166, R178) -/

def entryPresent (o : Otp) (k : Nat) : Bool :=
  decide (otpCond o k = .valid) || decide (otpCond o (k + 4) = .valid)

/-- The lifecycle state: 0 BLANK, 1 PROVISION, 2 FIELD, 3 RETURN, 4 SCRAP (R166). -/
def lifecycle (o : Otp) : Nat :=
  if entryPresent o 3 then 4 else if entryPresent o 2 then 3 else if entryPresent o 1 then 2
  else if entryPresent o 0 then 1 else 0

/-- The state code of a lifecycle state; BLANK is 0x00 (R286). -/
def lifecycleCode : Nat → Byte
  | 1 => 0x5A
  | 2 => 0xA5
  | 3 => 0x3C
  | 4 => 0xC3
  | _ => 0x00

def lcCode (o : Otp) : Byte := lifecycleCode (lifecycle o)

/-- The words of LIFECYCLE entries with one copy BAD and the other VALID or BLANK: an alarm (R166). -/
def lifecycleAlarmWords (o : Otp) : List Nat :=
  (List.range 8).filter (fun i =>
    decide (otpCond o i = .bad) && decide (otpCond o ((i + 4) % 8) ≠ .bad))

/-- The integrity failures of LIFECYCLE, LOCKS and KEYDIG (R165). Copies differ in bits 47:0; their checks cover the word's
index. -/
def integrityFails (o : Otp) : Bool :=
  (List.range 4).any (fun k =>
    (decide (otpCond o k = .bad) && decide (otpCond o (k + 4) = .bad)) ||
    (decide (otpCond o k = .valid) && decide (otpCond o (k + 4) = .valid) &&
      decide ((otpRaw o k).data.setWidth 48 ≠ (otpRaw o (k + 4)).data.setWidth 48))) ||
  (entryPresent o 1 && !entryPresent o 0) || (entryPresent o 2 && !entryPresent o 1) ||
  [8, 9, 10, 11].any (fun i => decide (otpCond o i = .bad)) ||
  [9, 10, 11].any (fun i => decide (otpCond o i = .valid) && decide (otpCond o (i - 1) = .blank)) ||
  digestBad o 2

/-- An alarm of a region stands (R167); bit r is the region code. -/
def alarmed (o : Otp) (r : Nat) : Bool := o.alarms.toNat.testBit r

/-! ### Keys (R160, R161, R164, R167, R177) -/

/-- A KEYDIG slot that may be used: programmed and not revoked (R164). The digest's bytes lie in the slot's two words in
ascending order, each word's first byte in its bits 7:0 (DESIGN CHOICE, log entry 135). -/
def keydig (o : Otp) (k : Nat) : Option (List Byte) :=
  match otpValid o (12 + 2 * k), otpValid o (13 + 2 * k) with
  | some a, some b => if otpLock o (16 + k) then none else some (leBytes 8 a.toNat ++ leBytes 8 b.toNat)
  | _, _ => none

/-- Whether a carried public key matches a usable slot of the list. -/
def keyMatches (o : Otp) (slots : List Nat) (key : List Byte) : Option Nat :=
  slots.find? (fun k => keydig o k == some ((sha256 key).take 16))

/-- The first word of a SECRET key by its index byte: a context number, 0xF0 SERVICE or 0xF1 CORE (R161). -/
def secretWord (index : Nat) : Option Nat :=
  if 4 ≤ index ∧ index ≤ 11 then some (28 + 2 * (index - 4))
  else if 1 ≤ index ∧ index ≤ 3 then some (44 + 2 * (index - 1))
  else if index = 0xF0 then some 50 else if index = 0xF1 then some 52 else none

/-- A word of SECRET without its scrambling. -/
def descramble (i : Nat) (d : BitVec 64) : BitVec 64 := d ^^^ Config.secretKeystream i

/-- The 16 bytes of a SECRET key, where both words are programmed, SECRET is under no alarm and the lifecycle uses SECRET
keys (R167, R177). -/
def secretKey (o : Otp) (index : Nat) : Option (List Byte) :=
  if alarmed o 3 || decide (3 ≤ lifecycle o) then none else
  match secretWord index with
  | none => none
  | some w => match otpValid o w, otpValid o (w + 1) with
    | some a, some b => some (leBytes 8 (descramble w a).toNat ++ leBytes 8 (descramble (w + 1) b).toNat)
    | _, _ => none

/-- The die ID, 16 bytes; zero under a VENDOR alarm (R167). -/
def dieId (o : Otp) : List Byte :=
  if alarmed o 7 then zeros 16 else
  let word (i : Nat) : List Byte := match otpValid o i with
    | some d => leBytes 8 d.toNat
    | none => zeros 8
  word 236 ++ word 237

/-! ### The debug matrix (R179) -/

/-- A cell of the debug matrix: open, open after authenticated unlock, or closed (R179). -/
inductive Cell where
  | o | a | x
deriving DecidableEq, Repr

/-- The index byte of a level's unlock key (R161). -/
def levelKey (o : Otp) (l : DbgLevel) : Option (List Byte) := secretKey o (if l = .core then 0xF1 else 0xF0)

/-- An A cell reads X where its key is BLANK or under an alarm; in RETURN the key of CORE is KEYDIG slot 4. A VENDOR alarm
refuses every unlock (R167, R179, R317). -/
def needKey (o : Otp) (l : DbgLevel) : Cell :=
  if alarmed o 3 || alarmed o 7 then .x
  else if lifecycle o = 3 then (if (keydig o 4).isSome then .a else .x)
  else if (levelKey o l).isSome then .a else .x

/-- SCAN in FIELD opens with the SERVICE unlock, whose level it has no key of its own beside; where NO_SERVICE bars that, it
cannot be opened (DEDUCED, log entry 44). -/
def scanCell (o : Otp) : Cell :=
  match lifecycle o with
  | 2 => if noScan o then .x else needKey o .service
  | 4 => .x
  | _ => .o

def serviceCell (o : Otp) : Cell :=
  match lifecycle o with
  | 2 => if noService o then .x else needKey o .service
  | 4 => .x
  | _ => .o

def coreCell (o : Otp) : Cell :=
  match lifecycle o with
  | 0 => .o
  | 1 => if noCore o then .x else needKey o .core
  | 3 => needKey o .core
  | _ => .x

/-! ### Calibration slots (R167, R510) -/

/-- The slots of a calibration element, lowest first: 0 ADC_A, 1 ADC_B, 2 AO_RC, 3 FADC, 4 DG_LED, 5 to 8 LED0 to LED3. -/
def calSlots (t : Nat) : List (List Nat) :=
  if t = 0 then (List.range 8).map (fun k => [125 + 2 * k, 126 + 2 * k])
  else if t = 1 then (List.range 8).map (fun k => [141 + 2 * k, 142 + 2 * k])
  else if t < 5 then (List.range 8).map (fun k => [157 + 8 * (t - 2) + k])
  else if t < 9 then (List.range 4).map (fun k => [181 + 4 * (t - 5) + k])
  else []

/-- A VALID slot of the element stands in the array. -/
def validSlot (o : Otp) (t : Nat) : Bool := (calSlots t).any (fun ws => ws.all (fun i => (otpValid o i).isSome))

/-! ### Energy, hard limits and the boot table (R118, R168, R540) -/

/-- E_MAX in mJ as the ceiling detector takes it: 0 where word 76 gives none, or a CONFIG alarm stands (R167, R168). -/
def eMax (o : Otp) : Nat :=
  let e := otpField o 76 0 16
  let c := otpField o 76 16 20
  if alarmed o 4 || decide (e = 0 ∨ 15000 < e ∨ c = 0 ∨ 1000000 < c) then 0 else e

/-- C_RES in uF. -/
def cRes (o : Otp) : Nat := otpField o 76 16 20

def tDieHard (o : Otp) : Nat := if otpField o 79 0 8 = 0 then 95 else otpField o 79 0 8
def maxLineRate (o : Otp) : Nat := 1000 * (if otpField o 79 8 8 = 0 then 24 else otpField o 79 8 8)
def maxAlloc (o : Otp) : Nat := if otpField o 79 16 16 = 0 then 510 else otpField o 79 16 16
def maxTDisch (o : Otp) : Nat := if otpField o 79 32 16 = 0 then 500 else otpField o 79 32 16

/-- The channel that counts as the charger until READY: the one word 76 names, EN3 otherwise (R118). -/
def bootCharger (o : Otp) : Nat := if otpField o 76 43 1 = 1 then otpField o 76 40 3 else 3

/-- The boot table counts as unprogrammed when word 77 or 78 is BAD or word 77 gives no data (R118, R168). -/
def bootTableUnprogrammed (o : Otp) : Bool :=
  decide (otpCond o 77 = .bad) || decide (otpCond o 78 = .bad) || (otpData o 77).isNone

/-- The boot sequence settings (R118): OTP CONFIG where programmed, else the defaults; the Saffron-owned mask holds the
charger channel alone. -/
def bootCfg (o : Otp) : SeqCfg :=
  let d := SeqCfg.default
  let chans : List ChCfg :=
    if bootTableUnprogrammed o then d.ch else
    d.ch.mapIdx (fun n c =>
      { c with upState := otpField o 77 (8 * n) 4, offSlot := otpField o 77 (8 * n + 4) 3,
               deps := BitVec.ofNat 8 (otpField o 78 (8 * n) 8) })
  let pg : BitVec 8 :=
    if bootTableUnprogrammed o then d.pgUsed else
    BitVec.ofNat 8 (maskOf ((List.range 8).map (fun n => otpField o 77 (8 * n + 7) 1 == 1)))
  { d with ch := chans, pgUsed := pg, saffron := BitVec.ofNat 8 (2 ^ bootCharger o),
           autoOn := otpField o 76 36 1 == 0, drone := otpField o 76 37 1 == 1, holdup := otpField o 76 38 1 == 1,
           snapshot := otpField o 76 39 1 == 1 }

/-- The checks of R120 on up states, dependency masks and shutdown slots; each answers the parameters that take part. A
channel that names itself is the first rule's alone, and no cycle for it. -/
def seqRuleFails (up : Nat → Nat) (deps : Nat → Nat) (off : Nat → Nat) : List (List Nat) :=
  let ids := List.range 8
  let same (n m : Nat) : Bool := n != m && (deps n).testBit m && up n == up m
  let reach := Nat.repeat (fun (r : List (Nat × Nat)) =>
    (ids.flatMap (fun n => ids.map (fun m => (n, m)))).filter (fun p =>
      r.contains p || ids.any (fun k => r.contains (p.1, k) && same k p.2))) 8
    ((ids.flatMap (fun n => ids.map (fun m => (n, m)))).filter (fun p => same p.1 p.2))
  ids.flatMap (fun n =>
    (if (deps n).testBit n then [[0x518 + n]] else []) ++
    (ids.filter (fun m => m != n && (deps n).testBit m && decide (up n < up m))).map
      (fun m => [0x510 + n, 0x510 + m, 0x518 + n]) ++
    (if reach.contains (n, n) then [[0x510 + n, 0x518 + n]] else []) ++
    (ids.filter (fun m => decide (n < m) && off n == off m)).map (fun m => [0x530 + n, 0x530 + m]))

end Sys2Proof.Machine
end

