-- ==== Sys2Proof/Machine/Params.lean ====
section
/-! DEFINITION. The parameters: every descriptor of the chapters' tables (R250), the value in use by effective point
(R252), the checks of a write (R251) and the cross-parameter checks of a commit (R255). -/

namespace Sys2Proof.Machine

/-! Rights classes by bit number (R241). -/
def rPrint : Nat := 0
def rHubRead : Nat := 1
def rHubConfig : Nat := 2
def rParam : Nat := 3
def rPower : Nat := 4
def rCalib : Nat := 5
def rMaint : Nat := 6
def rStorage : Nat := 7
def rSecurity : Nat := 8
def rAdmin : Nat := 9
/-- The RIGHT code of a read-only parameter (R292). -/
def rReadOnly : Nat := 0xFE

/-! Effective points by code (R252). -/
def eImmediate : Nat := 0
def eLine : Nat := 1
def eBand : Nat := 2
def eTicket : Nat := 3
def eCommit : Nat := 4
def eRestart : Nat := 5

/-- A parameter's descriptor (R250). For numeric types `lo`, `hi` and `dflt` are values; for types 0x10 and 0x11
`bytes` is the default, `len` the length, and for text the maximum length. -/
structure Desc where
  id : Nat
  ty : Nat
  len : Nat
  lo : Int
  hi : Int
  dflt : Int
  right : Nat
  eff : Nat
  list : List Int
  bytes : List Byte
deriving DecidableEq, Repr

/-- The length in bytes of a numeric type code (the type-code table). -/
def typeLen (ty : Nat) : Nat :=
  if ty = 1 ∨ ty = 4 then 1 else if ty = 2 ∨ ty = 5 then 2 else 4

/-- A numeric parameter. -/
def num (id ty : Nat) (lo dflt hi : Int) (right eff : Nat) : Desc :=
  ⟨id, ty, typeLen ty, lo, hi, dflt, right, eff, [], []⟩

def u8 (id : Nat) (lo dflt hi : Int) (right eff : Nat) : Desc := num id 1 lo dflt hi right eff
def u16 (id : Nat) (lo dflt hi : Int) (right eff : Nat) : Desc := num id 2 lo dflt hi right eff
def u32 (id : Nat) (lo dflt hi : Int) (right eff : Nat) : Desc := num id 3 lo dflt hi right eff
def s16 (id : Nat) (lo dflt hi : Int) (right eff : Nat) : Desc := num id 5 lo dflt hi right eff

/-- A byte-string parameter. -/
def raw (id : Nat) (dflt : List Byte) (right eff : Nat) : Desc :=
  ⟨id, 0x10, dflt.length, 0, dflt.length, dflt.length, right, eff, [], dflt⟩

/-- A parameter that accepts only listed values. -/
def Desc.only (d : Desc) (l : List Int) : Desc := { d with list := l }

/-- The same parameter for each of `n` channels, dies or contexts, at ascending IDs. -/
def perItem (n : Nat) (d : Nat → Desc) : List Desc := (List.range n).map (fun k => { d k with id := (d 0).id + k })

def pSystem : List Desc :=
  [u16 0x0110 50 250 2000 rParam eRestart, u16 0x0111 1 1 100 rParam eRestart, u16 0x0112 10 100 1000 rParam eRestart,
   u8 0x0130 1 30 240 rSecurity eImmediate, u32 0x0131 0 0 0xFFFFFFFF rReadOnly eImmediate,
   u16 0x0140 0 24 913 rParam eTicket, u16 0x0141 0 24 913 rParam eTicket, u16 0x0142 1 0xFFFF 0xFFFF rParam eTicket,
   u16 0x0143 0 118 2000 rParam eTicket, u8 0x0144 0 2 2 rParam eTicket]

def bauds : List Int :=
  [9600, 19200, 38400, 57600, 115200, 230400, 460800, 921600, 1000000, 1500000, 2000000, 3000000]

def pLinks : List Desc :=
  [u8 0x0201 0 0 1 rParam eRestart, u8 0x0202 0 0xFD 0xFF rParam eRestart,
   (u32 0x0210 9600 115200 3000000 rParam eRestart).only bauds, u8 0x0211 0 1 1 rParam eRestart,
   u16 0x0212 1 100 10000 rParam eCommit, u8 0x0220 0 1 1 rParam eRestart, u16 0x0221 1 0x3F72 0xFFFF rParam eRestart,
   u16 0x0222 1 0x8430 0xFFFF rParam eRestart,
   ⟨0x0223, 0x11, 32, 0, 32, 21, rParam, eRestart, [], ascii "Nimlyn NL8430 printer"⟩,
   u16 0x0230 100 5000 60000 rParam eCommit]

/-- The default masks of the contexts (the table of chapter 8). -/
def rightsDefault (c : Nat) : Nat :=
  if c = 0 then 0x03FF else if c = 1 then 0x00FF else if c = 3 then 0x00C3 else 0x0003

def pRights : List Desc := perItem 12 (fun c => u16 0x0300 0 (rightsDefault c) 0x03FF rAdmin eImmediate)

def pPower : List Desc :=
  [u16 0x0401 100 2000 60000 rParam eImmediate, u16 0x0402 0 600 65535 rParam eImmediate,
   u32 0x0403 0 0 86400 rPower eImmediate, u16 0x0404 0 0x0FFF 0x0FFF rPower eCommit,
   u16 0x0405 0 0x08FF 0x08FF rPower eCommit, u8 0x0406 1 1 100 rParam eCommit, u8 0x0407 0 0 0x3F rParam eCommit,
   u8 0x0408 0 0x1C 0xFF rPower eCommit, u8 0x0409 0 0xFF 0xFF rPower eCommit, u16 0x040A 100 1000 10000 rPower eCommit]

/-- A value of a channel's default settings. -/
def chDflt (f : ChCfg → Nat) (n : Nat) : Int := ((ChCfg.defaults.map f).getD n 0 : Nat)

def pSeq : List Desc :=
  [u8 0x0501 0 0x77 0xFF rPower eCommit, u8 0x0502 0 0x12 0xFF rPower eCommit, u8 0x0503 0 0x08 0xFF rPower eCommit,
   u8 0x0504 0 4 7 rPower eCommit, u8 0x0505 0 1 1 rPower eCommit, u8 0x0506 0 0 1 rPower eCommit,
   u8 0x0507 0 0 1 rPower eCommit, u8 0x0508 0 0 1 rPower eCommit, u8 0x0509 0 0 5 rPower eCommit,
   u8 0x050A 1 4 64 rPower eCommit, u16 0x050B 1 20 10000 rPower eCommit, u16 0x050C 1 100 1000 rPower eCommit]
  ++ perItem 8 (fun n => u8 0x0510 0 (chDflt (·.upState) n) 14 rPower eCommit)
  ++ perItem 8 (fun n => u8 0x0518 0 (chDflt (·.deps.toNat) n) 0xFF rPower eCommit)
  ++ perItem 8 (fun n => u16 0x0520 0 (chDflt (·.onDelay) n) 10000 rPower eCommit)
  ++ perItem 8 (fun n => u16 0x0528 1 (chDflt (·.pgTimeout) n) 1000 rPower eCommit)
  ++ perItem 8 (fun n => u8 0x0530 0 (chDflt (·.offSlot) n) 7 rPower eCommit)
  ++ perItem 8 (fun n => u16 0x0538 0 (chDflt (·.offDelay) n) 10000 rPower eCommit)
  ++ perItem 8 (fun _ => u32 0x0540 0 0 0xFFFFFFFF rPower eCommit)
  ++ perItem 8 (fun _ => u16 0x0548 1 1000 10000 rPower eCommit)

def pEnergy : List Desc :=
  [u8 0x0601 0 1 1 rPower eCommit, u16 0x0602 10 240 510 rPower eCommit, u16 0x0603 100 1000 10000 rPower eCommit,
   u16 0x0604 10 100 500 rPower eCommit, u8 0x0605 50 90 100 rPower eCommit, u16 0x0606 0 60 500 rPower eCommit,
   u16 0x0607 50 240 480 rPower eCommit, u8 0x0608 0 25 100 rPower eBand, u8 0x0609 2 25 40 rPower eCommit,
   u16 0x060A 100 2000 20000 rPower eCommit, u16 0x060B 10 500 500 rPower eCommit, u16 0x060C 50 480 480 rPower eCommit,
   u8 0x0610 40 85 95 rPower eBand, u16 0x0611 10 150 2000 rPower eCommit, u16 0x0612 100 2000 60000 rPower eCommit,
   u8 0x0613 0 20 26 rPower eCommit, u16 0x0620 0 60 3600 rParam eImmediate, u16 0x0621 0 20 1000 rParam eImmediate]

def pMotion : List Desc :=
  [u8 0x0701 0 0 1 rParam eRestart, u8 0x0702 0 1 1 rParam eRestart, u8 0x0703 0 0 3 rParam eCommit,
   u8 0x0704 2 8 32 rParam eCommit, u32 0x0705 65536 262144 13107200 rParam eCommit, u8 0x0706 1 4 16 rParam eCommit,
   u16 0x0707 125 175 300 rParam eCommit, u32 0x0708 0 0 1000000 rParam eCommit, u16 0x0710 1000 11812 24000 rParam eCommit,
   u16 0x0711 10 600 2000 rParam eCommit, u32 0x0712 16384 131072 524288 rParam eCommit,
   u16 0x0713 200 1000 5000 rParam eCommit, u16 0x0714 0 20 1000 rParam eCommit, u16 0x0720 0 118 2000 rParam eCommit,
   u16 0x0721 1 800 10000 rParam eCommit, u16 0x0722 1 720 10000 rParam eCommit,
   u32 0x0723 100 30000 100000 rParam eCommit, u16 0x0724 10 200 5000 rParam eCommit,
   u32 0x0730 100 5000 100000 rMaint eCommit, u16 0x0731 10 2000 10000 rMaint eCommit,
   u16 0x0732 0 400 65535 rMaint eCommit, u16 0x0733 0 0 65535 rMaint eCommit, u16 0x0734 0 1200 65535 rMaint eCommit,
   u16 0x0735 0 2000 65535 rMaint eCommit, u8 0x0736 0 0 3 rParam eCommit, u8 0x0740 1 1 3 rParam eTicket,
   u16 0x0741 64 236 4096 rParam eCommit, u8 0x0750 1 1 4 rParam eCommit, u8 0x0751 0 1 1 rParam eCommit,
   u32 0x0752 0 0 4000000 rParam eCommit, u32 0x0753 1 7560 4000000 rParam eCommit, s16 0x0754 (-1024) 0 1024 rParam eCommit,
   u16 0x0755 64 256 1024 rParam eCommit, u32 0x0760 0 0 0xFFFFFFFF rReadOnly eImmediate,
   u32 0x0761 0 0 0xFFFFFFFF rReadOnly eImmediate, u16 0x0762 0 0 0xFFFF rReadOnly eImmediate]

def pHead : List Desc :=
  [(u8 0x0801 3 0x0F 0x0F rParam eRestart).only [3, 15], u8 0x0802 5 5 40 rParam eCommit,
   (u8 0x0803 1 16 16 rParam eCommit).only [1, 2, 4, 8, 16], u16 0x0804 0 184 4092 rParam eCommit,
   u16 0x0805 40 80 1020 rParam eCommit, u16 0x0806 40 200 4092 rParam eCommit, u16 0x0807 10 100 10000 rParam eCommit,
   u8 0x0808 0 1 1 rParam eCommit, u16 0x0809 834 945 1056 rParam eCommit, u8 0x080A 0 0 15 rParam eCommit,
   u16 0x080B 0 1500 2500 rParam eCommit, s16 0x080C (-10000) (-2000) 10000 rParam eCommit,
   u8 0x080D 2 200 255 rPower eCommit, u8 0x080E 2 200 255 rPower eCommit, u8 0x080F 0 20 60 rParam eCommit,
   u16 0x0810 0 200 1020 rParam eCommit, u16 0x0811 0 50 1000 rParam eCommit, u16 0x0812 0 50 1000 rParam eCommit,
   raw 0x0813 ([10, 20, 30, 40, 50, 60, 70, 80].map b8) rParam eCommit,
   raw 0x0814 ([282, 271, 264, 256, 248, 241, 233, 225].flatMap b16) rParam eCommit,
   (u8 0x0820 4 8 12 rParam eRestart).only [4, 8, 12]]
  ++ perItem 4 (fun _ => u16 0x0830 0 200 1020 rParam eCommit) ++ perItem 4 (fun _ => u16 0x0834 0 400 4092 rParam eCommit)
  ++ perItem 4 (fun _ => u16 0x0838 40 1200 4092 rParam eCommit)
  ++ perItem 4 (fun _ => u16 0x083C 1 200 2000 rParam eCommit) ++ perItem 4 (fun _ => u16 0x0840 0 0 1023 rParam eCommit)
  ++ perItem 4 (fun _ => u32 0x0844 0 0 0x3F3F3F3F rParam eCommit)

/-- The default tile: 0x5555 on even words and 0xAAAA on odd ones. -/
def tileDefault : List Byte := (List.range 16).flatMap (fun w => b16 (if w % 2 = 0 then 0x5555 else 0xAAAA))

def pNozzle : List Desc :=
  [u16 0x0901 0 2000 65535 rMaint eCommit, u16 0x0902 0 2160 65535 rMaint eCommit, u8 0x0903 0 1 2 rMaint eCommit,
   u8 0x0904 2 8 32 rMaint eCommit, u16 0x0905 1000 5000 10000 rMaint eCommit, u16 0x0906 10 60 500 rMaint eCommit,
   u16 0x0907 2 30 100 rMaint eCommit, u8 0x0908 4 12 128 rMaint eCommit, u8 0x0909 1 30 255 rMaint eCommit,
   u8 0x090A 0 10 254 rMaint eCommit, u8 0x090B 0 1 1 rMaint eBand, u8 0x090C 0 1 1 rMaint eBand,
   u8 0x090D 0 0 1 rParam eBand, u16 0x090E 0 128 256 rParam eBand, raw 0x090F tileDefault rParam eBand,
   u32 0x0910 0 500000 10000000 rMaint eCommit, u32 0x0911 0 200000 10000000 rMaint eCommit,
   u16 0x0912 1 50 1000 rMaint eCommit, u16 0x0913 1 2000 10000 rMaint eCommit, u16 0x0914 1 600 10000 rMaint eCommit,
   u16 0x0915 0 3600 65535 rMaint eCommit]

def pHub : List Desc :=
  [u8 0x0A01 0 1 1 rHubConfig eImmediate, u16 0x0A02 50 100 400 rHubConfig eCommit, u8 0x0A03 0 3 15 rHubConfig eCommit,
   u16 0x0A04 1 25 100 rHubConfig eCommit]
  ++ perItem 54 (fun _ => raw 0x0A0A (zeros 28) rHubConfig eCommit)
  ++ perItem 16 (fun _ => raw 0x0A40 (zeros 32) rHubConfig eCommit)
  ++ perItem 32 (fun _ => raw 0x0B00 (zeros 16) rHubConfig eCommit)

def pCal : List Desc :=
  [u8 0x0C01 2 3 5 rCalib eCommit, u8 0x0C02 16 64 255 rCalib eCommit, u16 0x0C03 20 100 500 rCalib eCommit,
   u16 0x0C04 256 307 512 rCalib eCommit, u16 0x0C05 64 256 1024 rCalib eCommit, u8 0x0C06 2 3 5 rCalib eCommit,
   u8 0x0C07 5 30 100 rCalib eCommit]

def pNet : List Desc :=
  [u8 0x0D01 0 1 1 rParam eRestart, u16 0x0D02 1024 7430 65535 rSecurity eRestart,
   u16 0x0D03 1024 7431 65535 rSecurity eRestart, u8 0x0D04 0 1 1 rSecurity eRestart, u8 0x0D05 0 0 1 rParam eRestart,
   u32 0x0D06 0 0 0xFFFFFFFF rParam eRestart, u8 0x0D07 1 24 30 rParam eRestart, u32 0x0D08 0 0 0xFFFFFFFF rParam eRestart,
   u8 0x0D09 0 1 1 rParam eRestart, raw 0x0D0A (zeros 6) rSecurity eRestart, u8 0x0D0B 0 1 1 rParam eRestart,
   u16 0x0D0C 10 300 3600 rParam eCommit, u8 0x0D0D 0 1 1 rPower eRestart, u16 0x0D0E 10 255 510 rPower eCommit]

def pLog : List Desc :=
  [u8 0x0E01 0 1 4 rMaint eImmediate, u16 0x0E02 250 1000 1000 rMaint eCommit, u8 0x0E10 0 0 1 rSecurity eCommit]

/-- Every parameter of this release, by block (R250). -/
def paramBlock : Nat → List Desc
  | 0x01 => pSystem
  | 0x02 => pLinks
  | 0x03 => pRights
  | 0x04 => pPower
  | 0x05 => pSeq
  | 0x06 => pEnergy
  | 0x07 => pMotion
  | 0x08 => pHead
  | 0x09 => pNozzle
  | 0x0A => pHub
  | 0x0B => pHub
  | 0x0C => pCal
  | 0x0D => pNet
  | 0x0E => pLog
  | _ => []

def descOf (id : Nat) : Option Desc := (paramBlock (id / 256)).find? (fun d => d.id == id)

def Desc.signed (d : Desc) : Bool := d.ty == 4 || d.ty == 5 || d.ty == 6
def Desc.numeric (d : Desc) : Bool := decide (d.ty < 0x10)

/-- The bytes of a parameter's default. -/
def Desc.dfltBytes (d : Desc) : List Byte :=
  if d.numeric then leBytes d.len (patternOf (8 * d.len) d.dflt) else d.bytes

/-- A numeric value from its bytes. -/
def Desc.val (d : Desc) (bs : List Byte) : Int := if d.signed then signedOf (8 * d.len) (ofLe bs) else (ofLe bs : Nat)

def dfltOf (id : Nat) : List Byte :=
  match descOf id with
  | some d => d.dfltBytes
  | none => []

/-- A value from a map, or the default. -/
def mapVal (m : ParamMap) (id : Nat) : List Byte := (find? m id).getD (dfltOf id)

/-- The committed value. -/
def committedVal (p : Params) (id : Nat) : List Byte := mapVal p.committed id

/-- The value in force, by effective point (R252): IMMEDIATE to TICKET parameters read their working value, where the
later point is applied where the value is used; a sequencing parameter reads the copy in always-on SRAM (R119), a
motion or head setting the value of the last ticket boundary (R418, R429), a setting of the nozzle or calibration chapter,
while a scan or a calibration runs, the value that it started with (R461, chapter 17's Parameters), a RESTART parameter the
value of the last main-domain start. -/
def inForce (p : Params) (id : Nat) : List Byte :=
  match descOf id with
  | none => []
  | some d =>
    if d.eff ≤ eTicket then (find? p.working id).getD (committedVal p id)
    else if d.eff = eRestart then mapVal p.atStart id
    else if id / 256 = 5 then mapVal p.atOff id
    else if id / 256 = 7 ∨ id / 256 = 8 then mapVal p.atTicket id
    else if id / 256 = 9 then mapVal (p.atScan.getD p.committed) id
    else if id / 256 = 12 then mapVal (p.atCal.getD p.committed) id
    else committedVal p id

/-- The number in force. -/
def pv (p : Params) (id : Nat) : Nat := ofLe (inForce p id)

/-- The signed number in force. -/
def pvS (p : Params) (id : Nat) : Int := signedAt (inForce p id) 0 2

/-- A BAND parameter as latched at the last band boundary. -/
def pvBand (p : Params) (id : Nat) : Nat := ofLe ((find? p.atBand id).getD (committedVal p id))
def bandBytes (p : Params) (id : Nat) : List Byte := (find? p.atBand id).getD (committedVal p id)

/-- The BAND parameters, latched at each band boundary (R252). -/
def bandIds : List Nat := [0x0608, 0x0610, 0x090B, 0x090C, 0x090D, 0x090E, 0x090F]
def latchBand (p : Params) : Params := { p with atBand := bandIds.map (fun id => (id, inForce p id)) }

/-! ### The checks of a write (R251) -/

/-- TYPE and LEN against the descriptor. -/
def Desc.lenOk (d : Desc) (ty len : Nat) : Bool :=
  ty == d.ty && (if d.ty = 0x11 then decide (len ≤ d.len) else len == d.len)

/-- The value against the range and the accepted values of its owner. -/
def Desc.valOk (d : Desc) (bs : List Byte) : Bool :=
  if d.numeric then
    let v := d.val bs
    decide (d.lo ≤ v ∧ v ≤ d.hi) && (d.list.isEmpty || d.list.contains v) &&
    (match d.id with
     | 0x0405 => (ofLe bs) &&& 0x08FF == ofLe bs
     | 0x080C => v != 0
     | 0x0810 => v == 0 || decide (40 ≤ v)
     | _ => true) &&
    (!(decide (0x0844 ≤ d.id ∧ d.id ≤ 0x0847)) || bs.all (fun b => decide (b.toNat ≤ 63)))
  else if d.ty = 0x11 then bs.all (fun b => decide (b.toNat < 128))
  else if d.id = 0x0813 then bs.all (fun b => decide (-40 ≤ b.toInt ∧ b.toInt ≤ 125))
  else if d.id = 0x0814 then (List.range 8).all (fun i => decide (192 ≤ fieldAt bs (2 * i) 2 ∧ fieldAt bs (2 * i) 2 ≤ 320))
  else if d.id / 256 = 0x0A then (if d.id < 0x0A40 then slotCheck bs else descCheck bs).isNone
  else if d.id / 256 = 0x0B then (detCheck (d.id - 0x0B00) bs).isNone
  else true

/-! ### The cross-parameter checks of a commit (R255) -/

/-- The numbers a commit would put in force, and what the checks of R429 take from outside the parameters. -/
structure CommitView where
  bytes : Nat → List Byte
  maxRate : Nat              -- maximum line rate in lines/s (R540)
  mainCal : List (Option Nat)   -- MAIN_256 of each die's valid HEAD_CAL entry, ns
  changed : List Nat         -- IDs the commit changes

def CommitView.n (v : CommitView) (id : Nat) : Nat := ofLe (v.bytes id)
def CommitView.slot (v : CommitView) (n : Nat) : List Byte := v.bytes (0x0A00 + n)
def CommitView.desc (v : CommitView) (n : Nat) : List Byte := v.bytes (0x0A40 + n)

def CommitView.f100 (v : CommitView) : Nat := min (v.n 0x0710) v.maxRate

/-- The effective main pulse for a scale: the larger of 40 ns and main x s / 256, rounded up to 4 ns (R426). -/
def effMain (main s : Nat) : Nat := max 40 (4 * ceilDiv (main * s) (256 * 4))

def maxList (l : List Nat) : Nat := l.foldl max 0

/-- The largest main pulse in force over the dies (R429). -/
def CommitView.mainMax (v : CommitView) : Nat :=
  maxList ((List.range 4).map (fun d => match v.mainCal.getD d none with
    | some m => m
    | none => v.n (0x0838 + d)))

def CommitView.dieMax (v : CommitView) (base : Nat) : Nat := maxList ((List.range 4).map (fun d => v.n (base + d)))

/-- The largest scale of HEAD_COMP_S. -/
def CommitView.scaleMax (v : CommitView) : Nat := maxList ((List.range 8).map (fun i => fieldAt (v.bytes 0x0814) (2 * i) 2))

def CommitView.tFire (v : CommitView) : Nat :=
  v.n 0x0803 * (v.dieMax 0x0830 + v.dieMax 0x0834 + effMain v.mainMax v.scaleMax + v.n 0x0804)
def CommitView.tShift (v : CommitView) : Nat := 265 * v.n 0x0802 * 4
def CommitView.tWarm (v : CommitView) : Nat := v.n 0x0803 * (v.n 0x0810 + v.n 0x0804)
def CommitView.warmPossible (v : CommitView) : Bool := v.n 0x080F != 0 && v.n 0x0810 != 0

/-- The shortest line, in ns (R429). -/
def CommitView.tLineMin (v : CommitView) : Nat :=
  v.n 0x0805 + v.n 0x0806 + max v.tFire v.tShift +
  (if v.warmPossible then v.n 0x0805 + v.n 0x0806 + max v.tWarm v.tShift else 0)

/-- The parameters of each failing rule of chapters 5, 7, 12 to 16 (R120, R418, R429, R461, R470, R472, R483). The
ramp of R418 takes the line pitch as 25.4 mm / 600. -/
def commitFails (v : CommitView) : List (List Nat) :=
  let rule (bad : Bool) (ids : List Nat) : List (List Nat) := if bad then [ids] else []
  let anyIn (block : Nat) : Bool := v.changed.any (fun id => id / 256 == block)
  let f := v.f100
  let heads := [0x0802, 0x0803, 0x0804, 0x0805, 0x0806]
  seqRuleFails (fun n => v.n (0x510 + n)) (fun n => v.n (0x518 + n)) (fun n => v.n (0x530 + n))
  ++ (List.range 8).flatMap (fun n =>
      rule ((v.n (0x540 + n)).testBit 31 && decide (26 < v.n (0x540 + n) / 2 ^ 16 % 32)) [0x540 + n])
  ++ rule (v.n 0x0D02 == v.n 0x0D03) [0x0D02, 0x0D03]
  ++ rule (decide (v.n 0x060C ≤ v.n 0x0607)) [0x0607, 0x060C]
  ++ (if anyIn 7 then
       rule (decide (100000 * 65536 < f * v.n 0x0712)) [0x0710, 0x0712]
       ++ rule (decide (5000000 * 65536 < f * v.n 0x0705)) [0x0705, 0x0710]
       ++ rule (decide (64 * 2 * v.n 0x0711 * 600000 * 10000 < 8775 * f * f * 254)) [0x0710, 0x0711]
       ++ rule (decide (v.n 0x0753 ≤ v.n 0x0752)) [0x0752, 0x0753]
       ++ rule (v.n 0x0755 % 64 != 0) [0x0755]
     else [])
  ++ rule (decide (35000 < v.tFire)) ([0x0803, 0x0804, 0x0814] ++ (List.range 12).map (· + 0x0830))
  ++ rule (decide (1000000000 < f * v.tLineMin)) (0x0710 :: heads)
  ++ ([0x0804, 0x0805, 0x0806, 0x0810] ++ (List.range 12).map (· + 0x0830)).flatMap (fun id =>
       rule (v.n id % 4 != 0) [id])
  ++ rule ((List.range 7).any (fun i => decide ((byteAt (v.bytes 0x0813) (i + 1)).toInt ≤ (byteAt (v.bytes 0x0813) i).toInt)))
       [0x0813]
  ++ rule ((List.range 8).any (fun i => decide (fieldAt (v.bytes 0x0814) (2 * i) 2 < 192 ∨ 320 < fieldAt (v.bytes 0x0814) (2 * i) 2)))
       [0x0814]
  ++ rule (v.n 0x0701 == 1 && decide (1890 < v.n 0x0750 * v.n 0x0755)) [0x0701, 0x0750, 0x0755]
  ++ (if anyIn 9 then
       rule (decide (v.n 0x0909 ≤ v.n 0x090A)) [0x0909, 0x090A]
       ++ rule (decide (1000000 < (v.n 0x0906 + v.n 0x0907 + 10) * v.n 0x0905)) [0x0905, 0x0906, 0x0907]
       ++ rule (decide (1000000000 < v.n 0x0905 * v.tLineMin)) (0x0905 :: heads)
     else [])
  ++ (List.range 54).flatMap (fun k => rule (slotNamesUnused v.desc (v.slot (k + 10)))
       [0x0A0A + k, 0x0A40 + slotSource (v.slot (k + 10))])
  ++ (List.range 32).flatMap (fun k => rule (detSourceOff v.slot (v.bytes (0x0B00 + k)))
       [0x0A00 + detSource (v.bytes (0x0B00 + k)), 0x0B00 + k])

/-- The lowest parameter ID among all that take part in a failing rule (R255). -/
def commitCheck (v : CommitView) : Option Nat :=
  match (commitFails v).flatten with
  | [] => none
  | i :: is => some (is.foldl min i)

end Sys2Proof.Machine
end

