-- ==== Sys2Proof/Machine/Flags.lean ====
section
/-! DEFINITION. The flag and status bytes the spec computes from the rest of the state, and the readings and conditions
that many rules judge: nothing here changes the state. -/

namespace Sys2Proof.Machine

/-- Hub time now. -/
def now (s : State) : Time := s.clk.hubTime

/-- Microseconds since an earlier hub time. -/
def since (s : State) (t : Time) : Nat := (s.clk.hubTime - t).toNat

/-- A hub time has come: of times that wrap, by their difference (R530). -/
def reached (s : State) (t : Time) : Bool := decide ((s.clk.hubTime - t).toNat < 2 ^ 47)

/-- Hub time's increment per AO cycle at a stored AO-RC frequency, in 2^-32 us (R72). -/
def timeInc (hz : Nat) : Nat := 1000000 * 2 ^ 32 / hz

/-- Hub time counts on by `us` microseconds: as many AO cycles pass as the accumulator needs, and what they leave beyond
stays in it (R72). -/
def passTime (c : Clk) (us : Nat) : Clk :=
  let need := us * 2 ^ 32 - c.acc
  let cycles := (need + c.inc - 1) / c.inc
  { c with hubTime := c.hubTime + BitVec.ofNat 48 us, acc := c.acc + cycles * c.inc - us * 2 ^ 32, secUs := c.secUs + us }

/-- The control core runs: it has reached READY, or warm-ready, and the main domain is powered (R79, R100). -/
def coreRuns (s : State) : Bool := decide (s.rst.main = .ready)

/-- The power state's code in records and events (R151); OFF, in which nothing is recorded, takes the next code. -/
def pstateCode : PState → Byte
  | .run => 0
  | .doze => 1
  | .nap => 2
  | .hibernate => 3
  | .off => 4

/-! ### The sequencer's bytes (R151, R152) -/

def phaseCode : Phase → Nat
  | .off => 0
  | .up => 1
  | .running => 2
  | .down => 3
  | .faultOff => 4
  | .minOff => 5

/-- SEQ_STATE: state in bits 3:0, phase in bits 6:4, DRONE mode in bit 7. -/
def seqStateByte (q : Seq) : Byte := b8 (q.state % 16 + 16 * phaseCode q.ph + flagBit q.cfg.drone 7)

def chRun (q : Seq) (n : Nat) : ChRun := q.ch.getD n ChRun.off
def chCfg (q : Seq) (n : Nat) : ChCfg := q.cfg.ch.getD n ⟨0, 0, 0, 1, 0, 0, 0, 1⟩

def enByte (q : Seq) : Byte := b8 (maskOf (q.ch.map (·.en)))
def pgByte (q : Seq) : Byte := b8 (maskOf (q.ch.map (·.pg)))
def flagged (c : ChRun) : Bool := c.pgFlag || c.wffFlag
def flaggedByte (q : Seq) : Byte := b8 (maskOf (q.ch.map flagged))

/-- A channel whose PG input the sequencer uses (SEQ_PG_USED). -/
def pgUsed (q : Seq) (n : Nat) : Bool := q.cfg.pgUsed.toNat.testBit n

/-- PG good: the level of a used input; a channel without PG counts as good once it is enabled and its on-delay has run
out (R121). -/
def pgGoodNow (q : Seq) (n : Nat) : Bool := if pgUsed q n then (chRun q n).pg else (chRun q n).en

/-- CH_STATUS of a channel (R152). -/
def chStatus (q : Seq) (n : Nat) : Byte :=
  let c := chRun q n
  b8 (maskOf [c.en, c.pg, c.pgFlag, c.wffFlag, c.hisDrop, q.cfg.saffron.toNat.testBit n, pgUsed q n,
    q.cfg.fireReq.toNat.testBit n])

/-- The rails of R123: every channel in SEQ_FIRE_REQUIRED is enabled, not flagged and good; the lowest that is not is the
one that FAULT detail RAIL names (DEDUCED, log entry 119). -/
def railBad (q : Seq) (n : Nat) : Bool := !(chRun q n).en || flagged (chRun q n) || !pgGoodNow q n
def firstBadRail (q : Seq) : Option Nat :=
  (List.range 8).find? (fun n => q.cfg.fireReq.toNat.testBit n && railBad q n)
def fireRailsGood (q : Seq) : Bool := (firstBadRail q).isNone

/-! ### Host window and link bytes -/

/-- A fault record is pending or unreported (STATUS bit 5, R188). -/
def seqRecord (s : State) : Bool :=
  !s.seq.pend.isEmpty || s.seq.writing.isSome ||
  s.nvm.faults.any (fun f => match f with
    | some r => !r.reported
    | none => false)

/-- STATUS at window offset 0x06 (R188). -/
def statusByte (s : State) : Byte :=
  b8 (maskOf [coreRuns s && !s.reed.owns, false, s.rst.otpHold, s.port.pecOn, s.reed.owns, seqRecord s])

def ctxOf (s : State) (c : Nat) : Ctx := s.ctxs.getD c Ctx.fresh

/-- IRQ_STATUS: OUT_READY is the level of OUT_COUNT; the other bits are latched (R188). -/
def irqStatus (s : State) : Byte :=
  (s.port.irq &&& 0xFE) ||| (if (ctxOf s 1).out.isEmpty then 0 else 1)

/-- The main-domain port engine serves the port: the core runs, or the hand-over to Reed still waits for a STOP (R107). -/
def portRuns (s : State) : Bool := coreRuns s || s.reed.handover

/-- The part drives HST_IRQ low: the hub until the next READY or warm-ready, or the port (R189, R485). -/
def hstIrqLow (s : State) : Bool :=
  decide (s.hub.irqBy ≠ 0) || (!s.reed.owns && portRuns s && decide (irqStatus s &&& s.port.irqEnable ≠ 0))

/-- FW_VER: major 2, minor 1 and the patch level of the running Cehole (R188). -/
def fwVer (s : State) : List Byte := [0x02, 0x01, s.nvm.patchLevel]

/-- PART_ID and SIL_REV (R188). -/
def partId : List Byte := [0x30, 0x84, 0x42]

/-! ### Readings (R25, R468) -/

def reading (s : State) (ch : Nat) : Reading := s.hub.latest.getD ch Reading.none

/-- The period in ticks of a slot that converts the channel, shortest over the schedule; none where no slot does. -/
def shortestPeriod (h : Hub) (nap : Bool) (ch : Nat) : Option Nat :=
  let ps := (h.slots.mapIdx (fun i e => (i, e))).filterMap (fun p =>
    if slotKind p.2 == 1 && slotSource p.2 == ch then
      some (if p.1 < 3 && nap then 10 else if p.1 < 7 && nap && 3 ≤ p.1 then 100
            else if p.1 < 10 && nap then 1000 else slotPeriod p.2)
    else none)
  match ps with
  | [] => none
  | p :: r => some (r.foldl min p)

/-- A channel's reading is stale: none since the hub started, or older than its limit (R468). -/
def stale (s : State) (ch : Nat) : Bool :=
  let r := reading s ch
  let limit := if (16 ≤ ch && ch ≤ 19) || (24 ≤ ch && ch ≤ 26) then some 2000 else
    (shortestPeriod s.hub (decide (s.pwr.st = .nap)) ch).map (fun p => 1000 + 200 * p)
  match limit with
  | some l => !r.valid || decide (l < since s r.time)
  | none => true

/-- A channel as records carry it: the code, with bit 15 marking a stale reading (R151). -/
def recordCode (s : State) (ch : Nat) : Nat := (reading s ch).code.toNat + flagBit (stale s ch) 15

/-! ### Energy (R359, R360): code to volts at 50 V over 4,096 codes (log entry 22) -/

/-- V_RES of a code, in V. -/
def vRes (code : Nat) : Rat := (code * 50 : Nat) / (4096 : Rat)

/-- E_res of a code, in J. -/
def eResOf (o : Otp) (code : Nat) : Rat := (cRes o : Rat) / 1000000 * vRes code * vRes code / 2

/-- The latest reading of channel 24 shows E_res below 1 J (R364); a stale one does not. -/
def below1J (s : State) : Bool := !stale s 24 && decide (eResOf s.otp (reading s 24).code.toNat < 1)

/-! ### Rights (R242, R178) -/

/-- RIGHTS_CTXn in force. -/
def maskInForce (s : State) (c : Nat) : Half := BitVec.ofNat 16 (pv s.params (0x0300 + c))

/-- SERVICE is open: unlocked, or by an O cell of the matrix; an open CORE includes it (R179, R180; DEDUCED, log entry
49). -/
def serviceOpen (s : State) : Bool := decide (s.dbg.level ≠ .none) || serviceCell s.otp == .o
def coreOpen (s : State) : Bool := decide (s.dbg.level = .core) || coreCell s.otp == .o
def scanOpen (s : State) : Bool := scanCell s.otp == .o || (scanCell s.otp == .a && decide (s.dbg.level ≠ .none))

/-- The mask before the lifecycle ceiling: context 0 holds rights only while SERVICE or CORE is open (R242). -/
def openMask (s : State) (c : Nat) : Half := if c = 0 ∧ !serviceOpen s then 0 else maskInForce s c

/-- The lifecycle ceiling (R178): SCRAP leaves no right; RETURN leaves SECURITY for some operations only, which those
operations judge. -/
def ceiling (s : State) : Half := if lifecycle s.otp = 4 then 0 else 0xFFFF

def effMask (s : State) (c : Nat) : Half := openMask s c &&& ceiling s

def hasBit (m : Half) (r : Nat) : Bool := m.toNat.testBit r
def holds (s : State) (c r : Nat) : Bool := hasBit (effMask s c) r

/-! ### Sessions and attachment (R213, R239) -/

/-- A network session is open on the context. -/
def netSession (s : State) (c : Nat) : Bool :=
  s.net.conns.any (fun k => !k.raw && decide (k.ctx.map (·.val) = some c)) && (ctxOf s c).keyed.isSome

/-- A context with an attached link or an open session takes notifications; others drop them (R239). -/
def attached (s : State) (c : Nat) : Bool :=
  if c = 0 then serviceOpen s else if c ≤ 2 then true
  else if c = 3 then s.usb.attached else netSession s c

/-! ### Paper and mechanics (R203, R415, R488) -/

/-- Some active detector has the role (R488): 1 PAPER_OUT, 2 PAPER_LOW, 3 COVER_OPEN, 4 YANK. -/
def roleActive (s : State) (role : Nat) : Bool :=
  (s.hub.dets.zip s.hub.detRun).any (fun p => detKind p.1 != 0 && detRole p.1 == role && p.2.active)

def paperOut (s : State) : Bool := roleActive s 1
def coverOpen (s : State) : Bool := roleActive s 3

/-- Some active detector's actions include DISCH (R366). -/
def detDisch (s : State) : Bool :=
  (s.hub.dets.zip s.hub.detRun).any (fun p => detKind p.1 != 0 && detAction p.1 3 && p.2.active)

def jobOf (s : State) (id : Nat) : Option Job := s.jobs.live.find? (fun j => j.id == id)
def jobStIs (s : State) (id : Nat) (st : JobSt) : Bool :=
  match jobOf s id with
  | some j => decide (j.st = st)
  | none => false

/-- Some job is in one of the states. -/
def anyJob (s : State) (sts : List JobSt) : Bool := s.jobs.live.any (fun j => sts.contains j.st)

/-- A job is PRINTING or CUTTING. -/
def ticketActive (s : State) : Bool := anyJob s [.printing, .cutting]

end Sys2Proof.Machine
end

