-- ==== Sys2Proof/Machine/Ops.lean ====
section
/-! DEFINITION. The shared operations that the meanings call: context state, the event log's staging, notifications,
COMMAND_DONE, job states and interruptions, DISCH, the charger and the allocation. -/

namespace Sys2Proof.Machine

/-! ### Contexts -/

def modCtx (s : State) (c : Nat) (f : Ctx → Ctx) : State := { s with ctxs := modAt s.ctxs c f }

/-- Latch bits of IRQ_STATUS (R188). -/
def setIrq (s : State) (bit : Nat) : State :=
  { s with port := { s.port with irq := s.port.irq ||| BitVec.ofNat 8 (2 ^ bit) } }

/-- A free value is drawn: the counter moves on, so that each draw is a new value. -/
def drawBit (s : State) : Bool × State :=
  (Config.freeBit s.clk.free, { s with clk := { s.clk with free := s.clk.free + 1 } })

def drawNonce (s : State) : BitVec 128 × State :=
  (Config.freeNonce s.clk.free, { s with clk := { s.clk with free := s.clk.free + 1 } })

/-- A free choice among the numbers below n. -/
def drawBelow (s : State) (n : Nat) : Nat × State :=
  let (v, s) := drawNonce s
  (v.toNat % max n 1, s)

/-- In HIBERNATE, where hub time moves with the RTC second, the part of the second that has passed when something else happens:
a free value (R72; log entry 12). -/
def passPart (s : State) : State :=
  if s.pwr.st ≠ .hibernate then s else
  let (us, s) := drawBelow s (1000000 - s.clk.secUs)
  { s with clk := passTime s.clk us }

/-! ### Requests on the RA crossings into Clove (R82, R85) -/

/-- Clove's side of SEQ_REQ. -/
def seqSide (s : State) : SeqSide :=
  { seq := { s.seq with waiters := [] }, charger := s.saf.charger, gate := s.saf.gate, hold := s.saf.hold
    reasons := s.saf.reasons, disch := s.saf.disch, dischLate := s.saf.dischLate, needLow := s.saf.needLow
    fullPend := s.rst.fullPend, fault := s.fife.fault }

/-- Clove's side of SEQ_REQ as it was. -/
def putSeqSide (s : State) (x : SeqSide) : State :=
  { s with
    seq := x.seq, rst := { s.rst with fullPend := s.rst.fullPend && x.fullPend }, fife := { s.fife with fault := x.fault }
    saf := { s.saf with charger := x.charger, gate := x.gate, hold := x.hold, reasons := x.reasons, disch := x.disch,
                        dischLate := x.dischLate, needLow := x.needLow } }

/-- A request on SEQ_REQ, for the command of that opcode, 0 for the part's own: what it does, and the sides before and after, for a
reset that catches it in its handshake. -/
def seqReq (s : State) (op : Nat) (f : State → State) : State :=
  let s' := f s
  { s' with rst := { s'.rst with raSeq := some (⟨now s, BitVec.ofNat 16 op⟩, seqSide s, seqSide s') } }

/-- A request on OTP_RD. -/
def noteOtpRd (s : State) (op : Nat) : State :=
  { s with rst := { s.rst with raOtp := some ⟨now s, BitVec.ofNat 16 op⟩ } }

/-- A request on HUB_CFG, with the entry that it writes over. -/
def noteHubCfg (s : State) (op : Nat) (e : HubEntry) : State :=
  { s with rst := { s.rst with raHub := some (⟨now s, BitVec.ofNat 16 op⟩, e) } }

/-- A bus starts the transaction at the head of its queue when none is under way and no other controller holds the bus; one that
backs off waits (R476). -/
def startHead (held : Bool) (t : Time) : List BusTx → List BusTx
  | [] => []
  | x :: xs => if held || x.started || x.retries != 0 then x :: xs else { x with started := true, time := t } :: xs

/-- What a slot has queued on a bus, not yet started, is removed (R493). -/
def cutBus (held : Bool) (t : Time) (n : Nat) (q : List BusTx) : List BusTx :=
  startHead held t (q.filter (fun x => x.slot != n || x.started))

/-! ### The event log's staging (R268 to R271) -/

/-- The severity of an event code (R268): 0 INFO to 4 FAULT. -/
def severity (code : Nat) : Nat :=
  if code ∈ [0x0102, 0x0401, 0x0402, 0x0601, 0x0C01, 0x0D01, 0x0D02, 0x0E02] then 0
  else if code ∈ [0x0101, 0x0110, 0x0112, 0x0114, 0x0203, 0x0301, 0x0602, 0x0901, 0x0A01, 0x0B01, 0x0E04] then 1
  else if code ∈ [0x0103, 0x0403, 0x0504, 0x0702, 0x0703, 0x0802, 0x0C03] then 3
  else if code ∈ [0x0111, 0x0501, 0x0801, 0x0E03, 0x0E07] then 4
  else 2

/-- Events that are logged whatever LOG_MIN_SEVERITY holds (R269). -/
def alwaysLogged (code : Nat) : Bool := code == 0x0101 || code == 0x0102 || code == 0x0501 || severity code == 4

/-- The allowance accrued by now: 20 records per second, at most 256 (R271). -/
def allowance (s : State) : Nat := min 12800000 (s.log.tokens + since s s.log.tokenAt)

/-- A dropped record is counted, by Clove while the core does not run (R271). -/
def countLost (s : State) (n : Nat) : State :=
  if coreRuns s then { s with log := { s.log with loss := satAdd32 s.log.loss n, lossDue := true } }
  else { s with log := { s.log with cloveLost := s.log.cloveLost + n } }

/-- Place an event in the 32-entry staging buffer, under the severity filter, the rate limit and the staging depth
(R269, R271). Its BOOT is the start in progress, or the coming one (R541; DEDUCED, log entry 117). -/
def logAt (s : State) (code : Nat) (data : List Byte) (ctx : Byte) (job : Nat) (t : Time) : State :=
  if !alwaysLogged code && decide (severity code < pv s.params 0x0E01) then s else
  let a := allowance s
  let s := { s with log := { s.log with tokens := a, tokenAt := now s } }
  if severity code ≠ 4 ∧ a < 50000 then countLost s 1 else
  if 32 ≤ s.log.staging.length then countLost s 1 else
  let e : Event :=
    { code := BitVec.ofNat 16 code, time := t, ctx, pstate := pstateCode s.pwr.st, job := BitVec.ofNat 32 job
      data := padTo 8 data
      boot := if s.rst.main = .held ∨ s.rst.main = .booting then 0 else s.log.bootCount }
  { s with log := { s.log with
      staging := s.log.staging ++ [e]
      tokens := if severity code = 4 then a else a - 50000 } }

/-- An event with a context and a job. -/
def logFor (s : State) (code : Nat) (data : List Byte) (ctx : Byte) (job : Nat) : State := logAt s code data ctx job (now s)

/-- An event of the part itself. -/
def logEvent (s : State) (code : Nat) (data : List Byte) : State := logFor s code data 0xFF 0

/-! ### Notifications (R238, R239) -/

/-- Drop the oldest notification, past a head that the host has begun to collect (R238). -/
def dropNotif : List OutFrame → List OutFrame
  | [] => []
  | f :: fs => if f.use = .notification then fs else f :: dropNotif fs

/-- Count one lost notification of a context, with its mirrors (R202, R239). -/
def countNotifLost (s : State) (c : Nat) : State :=
  let s := modCtx s c (fun x => { x with cnt := { x.cnt with notifLost := satInc16 x.cnt.notifLost } })
  if c = 1 then setIrq s 5
  else if c = 3 then { s with usb := { s.usb with lost := min 65535 (s.usb.lost + 1) } } else s

def isNotif (f : OutFrame) : Bool := decide (f.use = .notification)

/-- Queue a notification for a context, or drop and count it where nothing is attached. The queue holds 32: the oldest
that the host has not begun to collect makes room (R234, R238); a head that it has begun and rewound is not begun (DESIGN CHOICE,
log entry 190). -/
def notify (s : State) (c : Nat) (opcode : Nat) (status : Nat) (payload : List Byte) : State :=
  if !attached s c then countNotifLost s c else
  let x := ctxOf s c
  let begun := c == 1 && s.port.outPos != 0
  let full := decide (32 ≤ (x.out.filter isNotif).length)
  let out := if !full then x.out else if begun then x.out.take 1 ++ dropNotif (x.out.drop 1) else dropNotif x.out
  let f : OutFrame :=
    { use := .notification, opcode := BitVec.ofNat 16 opcode, seq := x.notifSeq, status := BitVec.ofNat 16 status
      payload, more := false, endsSession := false, whose := none }
  let s := modCtx s c (fun x => { x with out := out ++ [f], notifSeq := x.notifSeq + 1 })
  if full then countNotifLost s c else s

/-- A notification to each context that satisfies a test, in context order. -/
def notifyWhere (s : State) (p : Nat → Bool) (opcode : Nat) (payload : List Byte) : State :=
  ((List.range 12).filter p).foldl (fun s c => notify s c opcode 0 payload) s

/-- A notification to every context holding a right (R239). -/
def notifyRight (s : State) (r opcode : Nat) (payload : List Byte) : State :=
  notifyWhere s (fun c => holds s c r) opcode payload

/-- COMMAND_DONE to the requesting context (R284). -/
def commandDone (s : State) (c : Nat) (opcode seq : Half) (status : Nat) (result : List Byte) : State :=
  notify s c 0x8008 status (b16 opcode.toNat ++ b16 seq.toNat ++ result)

/-- FAULT's payload: DETAIL and INDEX (R279). -/
def faultDetail (detail index : Nat) : List Byte := b16 detail ++ b16 index

/-! Status codes (R249). -/
def stOk : Nat := 0x0000
def stAccepted : Nat := 0x0001
def stBusy : Nat := 0x0101
def stNotReady : Nat := 0x0102
def stBadCheck : Nat := 0x0201
def stBadLength : Nat := 0x0202
def stBadOpcode : Nat := 0x0203
def stReplay : Nat := 0x0204
def stNoRight : Nat := 0x0301
def stLocked : Nat := 0x0302
def stLifecycle : Nat := 0x0303
def stRange : Nat := 0x0401
def stNoSpace : Nat := 0x0402
def stHeldEnergy : Nat := 0x0501
def stHeldPaper : Nat := 0x0502
def stCalDisagree : Nat := 0x0601
def stFault : Nat := 0x0701

/-! ### Jobs (R294 to R298, R327) -/

def jobCode : JobSt → Nat
  | .queued => 1
  | .rendering => 2
  | .ready => 3
  | .printing => 4
  | .cutting => 5
  | .done => 6
  | .interrupted => 7
  | .failed => 8
  | .cancelled => 9
  | .held => 10

def modJob (s : State) (id : Nat) (f : Job → Job) : State :=
  { s with jobs := { s.jobs with live := s.jobs.live.map (fun j => if j.id = id then f j else j) } }

/-- JOB_STATE to the submitting context (R327). -/
def notifyJob (s : State) (j : Job) (prev : Nat) (detail : Nat) : State :=
  notify s j.ctx.val 0x8002 0
    (b32 j.id ++ [b8 (jobCode j.st), b8 prev] ++ b16 j.hold.toNat ++ b32 j.hostRef.toNat ++ b32 j.fired ++ b32 detail)

/-- Replaced objects are kept only while a job is RENDERING (R319). -/
def dropStale (s : State) : State :=
  if s.jobs.live.any (fun j => decide (j.st = .rendering)) then s
  else { s with nvm := { s.nvm with store := s.nvm.store.filter (fun o => !o.stale) } }

/-- A job has become READY: an automatic scan yields to it (R446). -/
def yieldScan (s : State) : State :=
  { s with noz := { s.noz with scan := s.noz.scan.map (fun v => { v with yield := v.yield || v.auto }) } }

/-- Move a job to a state, with what holds it there, and tell its context (R249, R327). -/
def setJobHeld (s : State) (id : Nat) (st : JobSt) (detail : Nat) (hold : Half) : State :=
  match jobOf s id with
  | none => s
  | some j =>
    let j' := { j with st := st, hold := hold, detail := BitVec.ofNat 32 detail }
    let s := if st = .ready then yieldScan s else s
    notifyJob (dropStale (modJob s id (fun _ => j'))) j' (jobCode j.st) detail

/-- Move a job that nothing holds. -/
def setJobState (s : State) (id : Nat) (st : JobSt) (detail : Nat) : State := setJobHeld s id st detail 0

/-- Free a job's raster (R23, R298). -/
def freeRaster (j : Job) : Job := { j with bands := [], dec := none, wait := false, planned := 0 }

/-- A finished job leaves the live jobs and joins the 64 whose status is kept (R297). -/
def retireJob (s : State) (id : Nat) : State :=
  match jobOf s id with
  | none => s
  | some j =>
    let f : Finished := ⟨j.id, j.ctx, j.raster, j.st, j.prio, j.hostRef, j.lines, j.fired⟩
    { s with jobs := { s.jobs with
        live := s.jobs.live.filter (fun k => k.id != id)
        finished := (f :: s.jobs.finished).take 64
        interrupted := s.jobs.interrupted.filter (· != id) } }

/-- Finish a job in a state. -/
def finishJob (s : State) (id : Nat) (st : JobSt) (detail : Nat) : State :=
  retireJob (setJobState s id st detail) id

/-- The reprint action of an INTERRUPTED job: 1 reprint, 2 hold, 3 discard (R409); a raster job's is always 3 (R357),
and so is that of a job already cancelled (DEDUCED, log entry 24). -/
def reprintAction (j : Job) : Nat :=
  if j.raster || j.cancelling then 3 else if j.reprint = 0 then j.params.getD 5 1 else j.reprint

/-- A PRINTING job is interrupted, or a job whose cut failed (`full`, reprint action 0 since its ticket printed in
full): it becomes INTERRUPTED with the cause, and its reprint action follows (R298, R357, R409, R411). Held after a position
fault or a motor fault, it waits for a FAULT (R203, R294; DEDUCED, log entry 136). -/
def interruptJob (s : State) (id cause : Nat) (full : Bool) : State :=
  match jobOf s id with
  | none => s
  | some j =>
    let act := if full then 0 else reprintAction j
    let s := modJob s id freeRaster
    let s := setJobState s id .interrupted (cause + 256 * act)
    if act = 0 then retireJob s id
    else if j.cancelling then finishJob s id .cancelled 0
    else if j.raster then finishJob s id .failed 0xFFFF000A
    else if act = 3 then retireJob s id
    else if act = 2 then
      modJob (setJobHeld s id .held 0 (if cause = 3 ∨ cause = 5 then BitVec.ofNat 16 stFault else 0)) id (fun j => { j with
        reprintDue := true, holdFlag := false })
    else
      let s := modJob s id (fun j => { j with reprintDue := true, banner := true })
      { s with jobs := { s.jobs with interrupted := s.jobs.interrupted ++ [id] } }

/-! ### The home inputs and the sled (R412, R413) -/

/-- A level of a home input reads active: high, or low where the input's bit of MOT_HOME_POLARITY is set (R413). -/
def homeActive (s : State) (bit : Nat) (level : Bool) : Bool := level != (pv s.params 0x0736).testBit bit

def cutHome (s : State) : Bool := homeActive s 0 s.motion.cutIn
def sledHome (s : State) : Bool := homeActive s 1 s.motion.sledIn

/-- _EN of some motors rises, but not that of a motor disabled by a fault (R401, R414). -/
def raiseEn (s : State) (m : BitVec 3) : State :=
  { s with motion := { s.motion with en := s.motion.en ||| (m &&& ~~~ s.motion.disabled) } }

/-- CUT_HOME as it stands once the cutter is at home, or has left it. -/
def setCutHome (s : State) (active : Bool) : State :=
  { s with motion := { s.motion with cutIn := homeActive s 0 active } }

/-- The sled moves to a position, in steps from home, with M2 enabled (R401, R412); SLED_HOME shows whether that is home
(R413). -/
def sledTo (s : State) (p : Nat) : State :=
  let s := if s.motion.sledPos = some p then s else raiseEn s 4
  { s with motion := { s.motion with sledPos := some p, sledIn := homeActive s 1 (p == 0) } }

/-! ### The feed's stop (R402, R407, R415) -/

/-- Carriage mode (R416). -/
def carriage (s : State) : Bool := pv s.params 0x0701 == 1

/-- The feed stops at once, without a ramp. -/
def stopFeed (s : State) (use : FeedUse) : State :=
  { s with motion := { s.motion with feed := use, rate := 0, slow := none } }

/-- The feed decelerates at MOT_FEED_ACCEL from here to rest, and is then what `use` says; one that stands is so at once (R396,
R402, R415; DESIGN CHOICE, log entry 159). -/
def slowDown (s : State) (use : FeedUse) : State :=
  if s.motion.rate = 0 then stopFeed s (if use = .halt then .idle else use)
  else { s with motion := { s.motion with feed := use, slow := some (s.motion.slow.getD (now s, s.motion.rate)) } }

/-! ### The ticket in progress -/

/-- The cut kind with which a stub is cleared: the ticket's own, or a full cut when that kind is none (R408). -/
def stubCut (cut : Nat) : Nat := if cut = 0 then 1 else cut

/-- Halt the ticket being printed: the Fife stops and the job is interrupted with the cause. The feed decelerates; after a
yank, a fault of its motor, and in a pass of the carriage, it stops at once (R396, R407, R414, R415, R417). The stub is
cleared before the next ticket, after ENC0 has been still where the cause is a yank or a position fault, with a resync feed
after a position fault (R27, R407, R408, R431). -/
def haltTicket (s : State) (cause : Nat) : State :=
  match s.saf.ticket with
  | none => s
  | some t =>
    match jobOf s t.job with
    | none => s
    | some j =>
      if j.st ≠ .printing then s else
      let s := interruptJob s t.job cause false
      let s := if cause == 2 || cause == 5 || (carriage s && s.motion.feed == .ticket) then stopFeed s .idle else slowDown s .halt
      { s with
        saf := { s.saf with ticket := none }
        fife := { s.fife with started := none, waiting := none, storeDue := true }
        motion := { s.motion with
          waitStill := s.motion.waitStill || cause == 2 || cause == 3
          stubs := s.motion.stubs ++ [(stubCut j.cut, pv s.params 0x0720, cause == 3)] } }

/-! ### The ceiling trip code (R361) -/

/-- The converter that serves channel 24: ADC-A, or ADC-B while ADC-A is lent (R467). -/
def ch24Conv (s : State) : Nat := if s.hub.borrowed = 1 then 1 else 0

/-- Some VALID calibration is active on a converter (R361, R505). -/
def convCalibrated (s : State) (conv : Nat) : Bool :=
  match s.cal.active[conv]? with
  | some c => c.source != 0
  | none => false

/-- floor of the square root of a ratio of naturals, at a scale of 2^32. -/
def sqrtScaled (n d : Nat) : Nat := Nat.sqrt (n * 2 ^ 64 / d)

/-- The trip code: floor(V_CEIL / 20 x (1 - g) / 610.4 uV) - o with V_CEIL the lower of sqrt(2 E_MAX / C_RES) and
48.0 V; 0 for an E_MAX of 0 (R168, R361). -/
def ceilingCode (s : State) : Nat :=
  if eMax s.otp = 0 then 0 else
  let v := min (sqrtScaled (2 * eMax s.otp * 1000) (cRes s.otp)) (48 * 2 ^ 32)
  let cal := convCalibrated s (ch24Conv s)
  let keep := if cal then 9995 else 9950
  v * keep * 1000000 * 10 / (20 * 10000 * 6104 * 2 ^ 32) - (if cal then 1 else 4)

/-- Clove derives the trip code again (R361). -/
def deriveTrip (s : State) : State := { s with saf := { s.saf with tripCode := ceilingCode s } }

/-! ### Fires outside a ticket (R437, R457) -/

/-- Add `k` fires to the live count of each nozzle. -/
def addFires (s : State) (nozzles : List Nat) (k : Nat) : State :=
  if k = 0 then s else
  { s with fife := { s.fife with
    live := nozzles.foldl (fun m i => assocSet m i (((find? m i).getD 0 + k) % 2 ^ 48)) s.fife.live } }

/-- Every nozzle of a set of dies. -/
def nozzlesOf (dies : List Nat) : List Nat := dies.flatMap (fun d => (List.range 2112).map (· + 2112 * d))

/-- A nozzle's index in the order die, column, nozzle (R437). -/
def nozIndex (die col m : Nat) : Nat := (die * 4 + col) * 528 + m

/-- A nozzle's 4-bit state; an unlisted one is UNTESTED (R448). -/
def stateIn (m : List (Nat × Nat)) (i : Nat) : Nat := (find? m i).getD 2

/-- A nozzle fires in the states GOOD, WEAK and UNTESTED (R448). -/
def usable (st : Nat) : Bool := decide (st % 8 ≤ 2)

/-- The sample nozzles of a die: index 8 + 16 j of each column, where GOOD or WEAK. -/
def sampleNozzles (s : State) (d : Nat) : List Nat :=
  ((List.range 4).flatMap (fun c => (List.range 32).map (fun j => nozIndex d c (8 + 16 * j)))).filter (fun i =>
    decide (stateIn s.noz.states i % 8 ≤ 1))

/-- The nozzles of a die that fire in an energy run. -/
def usableOn (s : State) (d : Nat) : List Nat := (nozzlesOf [d]).filter (fun i => usable (stateIn s.noz.states i))

/-- A free number up to a bound: how much was done when it stopped (log entries 62, 150). -/
def drawUpTo (s : State) (n : Nat) : Nat × State :=
  let (v, s) := drawNonce s
  (v.toNat % (n + 1), s)

/-! ### Actions of R283 -/

/-- A running command of R283 ends: COMMAND_DONE to its context, and it leaves the list (R284). -/
def endAction (s : State) (opcode : Nat) (status : Nat) (result : List Byte) : State :=
  match s.saf.actions.find? (fun a => a.started && a.opcode.toNat == opcode) with
  | none => s
  | some a =>
    let s := { s with saf := { s.saf with actions := s.saf.actions.filter (fun b => b ≠ a) } }
    match a.ctx with
    | some c => commandDone s c.val a.opcode a.seq status result
    | none => s

def running (s : State) (opcode : Nat) : Option Action :=
  s.saf.actions.find? (fun a => a.started && a.opcode.toNat == opcode)

/-- Discard the trial selection, put back the selection that a pending store had replaced, return a borrowed converter and
release the LEDs: every early end of a calibration (R504, R507). The ceiling detector's converter may change with it. -/
def dropTrial (s : State) : State :=
  let active := match s.cal.prev with
    | some (i, c) => s.cal.active.set i c
    | none => s.cal.active
  let due := match s.cal.prev with
    | some (i, _) => assocDel s.cal.due i
    | none => s.cal.due
  deriveTrip { s with cal := { s.cal with active := active, trial := none, store := none, prev := none, due := due, wait := none }
                      hub := { s.hub with borrowed := 0 }, params := { s.params with atCal := none } }

/-- A selection becomes active in one step (R503). -/
def activate (s : State) (t : Nat) (c : CalSel) : State := { s with cal := { s.cal with active := s.cal.active.set t c } }

/-- A switch point: the selections that wait for it become active (R503). -/
def switchDue (s : State) (here : Nat → Bool) : State :=
  (s.cal.due.filter (fun p => here p.1)).foldl (fun s p => activate s p.1 { p.2 with time := now s })
    { s with cal := { s.cal with due := s.cal.due.filter (fun p => !here p.1) } }

/-- COMMAND_DONE's fields of a calibration: CAL, TARGET, SLOT, reserved, QUALITY (R308). -/
def calResult (a : Action) (slot : Byte) (quality : Word) : List Byte :=
  [byteAt a.payload 0, byteAt a.payload 1, slot, 0] ++ b32 quality.toNat

/-- What a HEAD_ENERGY that is cut short has fired: tests of its sample nozzles, of which a search takes at most 14 probes and column A
one test more, and lines of the energy runs that have begun (R437, R506). How many, no command tells: free values (log entry 150).
The sled goes back to where it came from. -/
def cutHeadFires (s : State) (a : Action) : State :=
  if byteAt a.payload 0 ≠ 7 then s else
  let d := (byteAt a.payload 1).toNat
  let s := { s with motion := { s.motion with sledPath := [] } }
  let s := (sampleNozzles s d).foldl (fun s i =>
    let (k, s) := drawUpTo s ((if i % 2112 < 528 then 15 else 14) * pv s.params 0x0904)
    addFires s [i] k) s
  let (k, s) := drawUpTo s (pv s.params 0x0C05 * s.saf.energyRuns)
  addFires s (usableOn s d) k

/-- A calibration that has measured nothing ends with FAULT and a detail. -/
def refuseCal (s : State) (a : Action) (detail index : Nat) : State :=
  endAction (dropTrial s) 0x0601 stFault (calResult a 0xFF 0 ++ faultDetail detail index)

/-- A running calibration ends early with FAULT and a detail; what it has fired is counted (R437, R504). -/
def endCal (s : State) (detail index : Nat) : State :=
  match running s 0x0601 with
  | none => s
  | some a => refuseCal (cutHeadFires s a) a detail index

/-- The running calibration is HEAD_ENERGY (R307, R506). -/
def headEnergyRuns (s : State) : Bool :=
  match running s 0x0601 with
  | some a => byteAt a.payload 0 == 7
  | none => false

/-- The running calibration is AO_RC. -/
def aoRcRuns (s : State) : Bool :=
  match running s 0x0601 with
  | some a => byteAt a.payload 0 == 3
  | none => false

/-- AO_RC looks at the coarse trim code, which has to have stood for 8 trim periods before it counts (R498). -/
def aoWait (s : State) : State :=
  if aoRcRuns s ∧ 8 ≤ s.clk.still then { s with cal := { s.cal with aoHeld := true, aoSince := now s } } else s

/-! ### Service firing halted (R27, R457) -/

/-- Lines of a routine's group that have fired, at 200 us each (R457). -/
def groupFired (s : State) (v : SvcRun) : Nat :=
  if reached s v.due then v.firing else v.firing - ceilDiv (v.due - now s).toNat 200

/-- DISCH or the loss of a rail halts service firing and scan tests: what the group in progress has fired is counted, and nothing
more fires (R27, R431, R437, R447). -/
def haltService (s : State) : State :=
  let s := { s with noz := { s.noz with scan := s.noz.scan.map (fun v : ScanRun => { v with wait := none }) } }
  match s.noz.service with
  | none => s
  | some v =>
    let s := addFires s (nozzlesOf v.dies) (groupFired s v)
    { s with noz := { s.noz with service := some { v with firing := 0, wait := none } } }

/-- A cut fails (R411): the cutter must be homed; a finished ticket is INTERRUPTED with cause 0x05 and reprint action 0, its
paper to be cleared as that of every INTERRUPTED ticket (R408); a stub stays pending. -/
def cutFails (s : State) : State :=
  match s.motion.cutting with
  | none => s
  | some (_, stub) =>
    let s := setCutHome { s with motion := { s.motion with
      cutting := none, stroke := 0, homingCut := true, feed := .idle, rate := 0, slow := none } } false
    if stub then s else
    match s.saf.ticket with
    | none => s
    | some t =>
      let cut := match jobOf s t.job with
        | some j => j.cut
        | none => 0
      let s := interruptJob s t.job 5 true
      { s with
        saf := { s.saf with ticket := none }
        fife := { s.fife with storeDue := true }
        motion := { s.motion with stubs := s.motion.stubs ++ [(stubCut cut, pv s.params 0x0720, false)] } }

/-! ### DISCH (R27, R364 to R366) and the charger (R367) -/

/-- Release the channels in SEQ_SAFFRON_OWNED: they stay off until Saffron enables them again (R19, R26, R367). -/
def releaseCharger (s : State) : State :=
  { s with
    saf := { s.saf with charger := false, gate := false }
    seq := { s.seq with ch := s.seq.ch.mapIdx (fun n c =>
      if s.seq.cfg.saffron.toNat.testBit n then { c with en := false, pgSeen := false, monitored := false } else c) } }

/-- Switch a channel that Saffron owns and the sequencer has released to it (R123). -/
def switchOwned (q : Seq) (n : Nat) (on : Bool) (c : ChRun) : ChRun :=
  if !q.cfg.saffron.toNat.testBit n || !c.released then c
  else if !on then { c with en := false, pgSeen := false, monitored := false }
  else if c.en then c
  else { c with en := true, pgSeen := pgUsed q n && c.pg, monitored := pgUsed q n && c.pg }

/-- Saffron enables what the sequencer has released to it (R123); the charger channel itself opens in the slots of CHG_GATE
(R372). -/
def enableCharger (s : State) : State :=
  { s with
    saf := { s.saf with charger := true }
    seq := { s.seq with ch := s.seq.ch.mapIdx (fun n c =>
      if n = bootCharger s.otp then c else switchOwned s.seq n true c) } }

/-- CHG_GATE opens or shuts the charger enable for a slot (R372). -/
def gateCharger (s : State) (on : Bool) : State :=
  { s with
    saf := { s.saf with gate := on }
    seq := { s.seq with ch := modAt s.seq.ch (bootCharger s.otp) (switchOwned s.seq (bootCharger s.otp) on) } }

/-- A reason asserts DISCH: logged unless its own earlier assertion stands; on the rising edge the charger is released, the
Fife halts and the ticket is INTERRUPTED with cause 0x01, a cut that M1 stops in fails (R411), M0 decelerates (R415), and a
head-energy calibration ends (R27, R365, R504). -/
def assertDisch (s : State) (reason : Nat) : State :=
  let stands := s.saf.reasons.toNat.testBit reason
  let s := if stands then s else logEvent s 0x0602 [b8 reason]
  let wasLow := !s.saf.disch
  let s := { s with saf := { s.saf with
    reasons := s.saf.reasons ||| BitVec.ofNat 16 (2 ^ reason)
    disch := true
    dischLate := if wasLow then false else s.saf.dischLate
    needLow := s.saf.needLow || reason == 7 || reason == 9 } }
  let s := releaseCharger s
  if !wasLow then s else
  let s := cutFails (haltService (haltTicket { s with saf := { s.saf with dischHit := true } } 1))
  let s := slowDown s s.motion.feed
  if headEnergyRuns s then
    { endCal s 0x0008 0 with motion := { s.motion with homingSled := true, sledPos := none, sledPath := [] } }
  else s

/-- A reason no longer asserts DISCH; DISCH itself stays until Saffron releases it (R366). -/
def dropReason (s : State) (reason : Nat) : State :=
  { s with saf := { s.saf with reasons := s.saf.reasons &&& ~~~ (BitVec.ofNat 16 (2 ^ reason)) } }

/-! ### Allocation (R368 to R370) -/

/-- The class-pin allocation in 0.1 W; code 7 gives none (R368). -/
def classAllocation (code : BitVec 3) : Option Nat :=
  match code.toNat with
  | 0 => some 130
  | 1 => some 38
  | 2 => some 64
  | 3 => some 130
  | 4 => some 255
  | 5 => some 400
  | 6 => some 510
  | _ => none

/-- The allocation and its source by R216 and R369: the parameter; LLDP while an allocation is present, limited to the
part's request; or the class pins. Word 79 limits each. -/
def allocationNow (s : State) : Nat × Byte :=
  let lim := maxAlloc s.otp
  if pv s.params 0x0601 = 0 then (min lim (pv s.params 0x0602), 0)
  else if s.net.lldpOn && s.net.lldpAlloc != 0 then (min (min lim (pv s.params 0x0D0E)) s.net.lldpAlloc, 2)
  else match s.saf.classAlloc with
    | some a => (min lim a, 1)
    | none => (min lim (pv s.params 0x0602), 0)

/-- Close the budget accrued so far at the allocation in force (R371): 0.1 W over the time since the last change. -/
def accrueBudget (s : State) : State :=
  if !s.saf.winOpen then s else
  { s with saf := { s.saf with winBudget := s.saf.winBudget + s.saf.alloc * since s s.saf.budgetAt, budgetAt := now s } }

/-- Put the allocation of R369 in force; a change of value or source is logged and notified (R370). The first allocation
since VAO good, before which none is in force, changes nothing (DEDUCED, log entry 115). -/
def updateAllocation (s : State) : State :=
  let (a, src) := allocationNow s
  if a = s.saf.alloc ∧ src = s.saf.allocSrc then s else
  let first := decide (s.saf.alloc = 0)
  let s := accrueBudget s
  let s := { s with saf := { s.saf with alloc := a, allocSrc := src } }
  if first then s else
  let s := logEvent s 0x0601 (b16 a ++ [src])
  notifyRight s rPower 0x8007 (b16 a ++ [src, 0])

/-! ### LLDP (R205, R215) -/

/-- The network side runs: Cehole is READY, and the PHY's gate is on. -/
def netRuns (s : State) : Bool := coreRuns s && s.net.phyOn

/-- The MAC address: NET_MAC, or 0x02 and the low 40 bits of the die ID (R205). -/
def macAddress (s : State) : List Byte :=
  let m := inForce s.params 0x0D0A
  if m = zeros 6 then 0x02 :: (dieId s.otp).take 5 else m

/-- LLDP runs on the link (R215). -/
def lldpRuns (s : State) : Bool := netRuns s && s.net.up && pv s.params 0x0D0D == 1

/-- The LLDPDU as it would go out now (R215, R216). -/
def lldpdu (s : State) : Lldpdu :=
  { mac := macAddress s, ttl := 120, bt := decide (5 ≤ s.saf.pdCls.toNat)
    requested := min (pv s.params 0x0D0E) (maxAlloc s.otp), allocated := s.net.lldpEcho }

/-- One LLDPDU falls due within 1 s of a change in the values that the last one carried (R215). -/
def armLldp (s : State) : State :=
  if lldpRuns s ∧ s.net.lldpLast.isSome ∧ s.net.lldpLast ≠ some (lldpdu s) then
    { s with net := { s.net with lldpBurst := max 1 s.net.lldpBurst } } else s

end Sys2Proof.Machine
end

