-- ==== Sys2Proof/Machine/NvmOps.lean ====
section
/-! DEFINITION. The non-volatile memory's operations: pages, verification and spares (R262 to R264), the areas' sizes and
wear (R266, R320), and the fire counters' pages (R265). -/

namespace Sys2Proof.Machine

/-- First page and page count of an area code (R262, R318): 0 PATCH, 1 PARAM, 2 PROFILE, 3 NOZZLE_MAP, 4 HEAD_CAL,
5 FIRE_CNT, 6 SNAPSHOT, 7 FAULT_SLOTS, 8 LOG_CTRL, 9 EVENT_LOG, 10 STORE, 11 SPARE. -/
def areaPages : Nat → Nat × Nat
  | 0 => (0x000, 1024)
  | 1 => (0x400, 128)
  | 2 => (0x480, 512)
  | 3 => (0x680, 256)
  | 4 => (0x780, 128)
  | 5 => (0x800, 256)
  | 6 => (0x900, 64)
  | 7 => (0x940, 1)
  | 8 => (0x941, 8)
  | 9 => (0xA00, 2048)
  | 10 => (0x1200, 11520)
  | 11 => (0x3F00, 256)
  | _ => (0, 0)

def bumpWear (n : Nvm) (page : Nat) : Nvm :=
  { n with wear := assocSet n.wear page ((find? n.wear page).getD 0 + 1) }

/-- Write a page. A page that fails verification is remapped to a spare, where the data is written again, and the part
logs NVM_PAGE_RETIRED; with no spare left the write fails, and NVM_SPARE_EXHAUSTED is logged once per power cycle
(R264). The answer is whether the data stands. -/
def writePage : Nat → State → Nat → Bool × State
  | 0, s, _ => (false, s)
  | k + 1, s, page =>
    let phys := (find? s.nvm.retired page).getD page
    let s := { s with nvm := bumpWear s.nvm phys }
    if !s.nvm.bad.contains phys then (true, s)
    else if s.nvm.sparesUsed < 256 then
      let spare := s.nvm.sparesUsed
      let s := { s with nvm := { s.nvm with
        retired := assocSet s.nvm.retired page (0x3F00 + spare), sparesUsed := spare + 1 } }
      writePage k (logEvent s 0x0E06 (b16 page ++ b16 spare)) page
    else if s.nvm.exhaustLogged then (false, s)
    else (false, { logEvent s 0x0E07 [] with nvm := { s.nvm with exhaustLogged := true } })

/-- Write pages in order; the answer is the first page that cannot be written. -/
def writePages (s : State) : List Nat → Option Nat × State
  | [] => (none, s)
  | p :: ps =>
    match writePage 257 s p with
    | (true, s') => writePages s' ps
    | (false, s') => (some p, s')

/-- The pages that `bytes` bytes from offset `off` of an area occupy. -/
def pagesOf (area off bytes : Nat) : List Nat :=
  let (base, _) := areaPages area
  (List.range ((off + bytes + 255) / 256 - off / 256)).map (· + base + off / 256)

/-! ### Fire counters (R265, R437) -/

/-- The live count with the Fife's deltas added, which Cehole does every 64 clock lines (R437). -/
def foldDeltas (f : Fife) : Fife :=
  { f with live := f.deltas.foldl (fun m (p : Nat × Byte) => assocSet m p.1 (((find? m p.1).getD 0 + p.2.toNat) % 2 ^ 48)) f.live, deltas := []
           linesSinceUpdate := 0 }

def liveCount (s : State) (i : Nat) : Nat := (find? s.fife.live i).getD 0

/-- A FIRE_CNT page holds what its check says. -/
def firePageOk (b : List Byte) : Bool := b.length == 256 && slice b 252 4 == b32 (crc32c (b.take 252)).toNat

/-- The FIRE_CNT pages whose check fails. -/
def badFirePages (n : Nvm) : List Nat := (n.fires.filter (fun p => !firePageOk p.2)).map (·.1)

/-- The stored count of a nozzle: 0 on an erased page and on one whose check fails. -/
def storedCount (n : Nvm) (i : Nat) : Nat :=
  match find? n.fires (i / 42) with
  | some b => if firePageOk b then fieldAt b (6 * (i % 42)) 6 else 0
  | none => 0

/-- The FIRE_CNT pages to rewrite: every page with a changed counter, or only those that lag by 2^20 or whose check
failed (R265). -/
def firePages (s : State) (all : Bool) : List Nat :=
  let lagging := s.fife.live.filter (fun (p : Nat × Nat) =>
    let old := storedCount s.nvm p.1
    if all then p.2 != old else decide (2 ^ 20 ≤ (p.2 + 2 ^ 48 - old) % 2 ^ 48))
  (lagging.map (fun (p : Nat × Nat) => p.1 / 42) ++ badFirePages s.nvm).eraseDups

/-- A page of the live counts, closed by its check (R265). -/
def firePageBytes (s : State) (page : Nat) : List Byte :=
  withCrc32c ((List.range 42).flatMap (fun i => b48 (liveCount s (42 * page + i))))

/-- Rewrite one of those pages with the live counts; where it cannot be written what it held stands (R264). -/
def storeFirePage (s : State) (page : Nat) : State :=
  match writePage 257 (noteWrite s pageStream (firePageBytes s page)) (0x800 + page) with
  | (false, s') => s'
  | (true, s') => { s' with nvm := { s'.nvm with fires := assocSet s'.nvm.fires page (firePageBytes s' page) } }

def storeFires (s : State) (all : Bool) : State := (firePages s all).foldl storeFirePage s

/-! ### Two alternating copies (R460, R514) -/

/-- The copy to write, by the sequences of the valid ones: an invalid copy, else that whose sequence lies behind (R530). -/
def olderCopy : List (Option Word) → Nat
  | [some a, some b] => if isAhead b a then 1 else 0
  | [some _, none] => 1
  | _ => 0

/-- The valid copy whose sequence lies ahead (R530). -/
def newerCopy {α : Type} (seq : α → Word) (copies : List (Option α)) : Option α :=
  copies.foldl (fun b c => match b, c with
    | some x, some y => some (if isAhead (seq x) (seq y) then y else x)
    | some x, none => some x
    | none, c => c) none

/-- What an area holds after a write of pages from `first` that stopped at a page: the pages before it are new. -/
def writtenUpTo (old new : List Byte) (first : Nat) : Option Nat → List Byte
  | none => new
  | some p => new.take (256 * (p - first)) ++ old.drop (256 * (p - first))

/-- The header of a copy: its magic and format, dies, sequence, the fields of bytes 12 to 19, and its check. -/
def copyHeader (magic : String) (dies : Nat) (seq : Word) (fields : List Byte) : List Byte :=
  withCrc16 (ascii magic ++ [1, b8 dies, 0, 0] ++ b32 seq.toNat ++ padTo 18 fields)

/-- A copy is valid: magic, format, the header's check and the body's over `n` bytes. -/
def copyOk (magic : String) (b : List Byte) (n : Nat) : Bool :=
  decide (36 + n ≤ b.length) && b.take 5 == ascii magic ++ [1] && slice b 30 2 == b16 (crc16 (b.take 30)).toNat &&
  slice b (32 + n) 4 == b32 (crc32c (slice b 32 n)).toNat

/-! ### The nozzle map's copies (R460) -/

/-- The nozzle index of a die position: columns A and B hold the primaries, C and D the twins. -/
def posNoz (die q : Nat) (twin : Bool) : Nat := nozIndex die (q % 2 + if twin then 2 else 0) (q / 2)

/-- A position's byte: its primary's state below its twin's (R310). -/
def posByte (m : List (Nat × Nat)) (die q : Nat) : Byte := b8 (stateIn m (posNoz die q false) + 16 * stateIn m (posNoz die q true))

/-- A copy as it lies (R460). The map holds every die. -/
def mapBytes (c : MapCopy) : List Byte :=
  copyHeader "NLNM" 15 c.mapSeq (b32 c.rtc.toNat ++ [c.led, c.tia, c.noise, c.rot]) ++
  withCrc32c ((List.range 4224).map (fun k => posByte c.states (k / 1056) (k % 1056)) ++
    (List.range 8448).map (fun i => b8 ((find? c.eyes i).getD 0xFF)))

/-- The state that a copy's body gives a nozzle. -/
def stateAt (body : List Byte) (i : Nat) : Nat :=
  let col := i / 528 % 4
  (byteAt body (1056 * (i / 2112) + 2 * (i % 528) + col % 2)).toNat / (if col < 2 then 1 else 16) % 16

/-- What a copy says, where it is valid; a die that it does not hold is untested (R460). -/
def parseMap (b : List Byte) : Option MapCopy :=
  if !copyOk "NLNM" b 12672 then none else
  let body := slice b 32 12672
  let held := (List.range 8448).filter (fun i => (byteAt b 5).toNat.testBit (i / 2112))
  some
    { mapSeq := BitVec.ofNat 32 (fieldAt b 8 4), rtc := BitVec.ofNat 32 (fieldAt b 12 4), led := byteAt b 16
      tia := byteAt b 17, noise := byteAt b 18, rot := byteAt b 19
      states := (held.filter (fun i => stateAt body i != 2)).map (fun i => (i, stateAt body i))
      eyes := (held.filter (fun i => byteAt body (4224 + i) != 0xFF)).map (fun i => (i, (byteAt body (4224 + i)).toNat)) }

def olderMap (n : Nvm) : Nat := olderCopy (n.maps.map (fun b => (parseMap b).map (·.mapSeq)))

/-- The map as the next write stores it. -/
def mapNow (s : State) : MapCopy :=
  { mapSeq := s.noz.mapSeq + 1, rtc := s.noz.changedRtc, led := s.noz.lastLed, tia := s.noz.lastTia, noise := s.noz.lastNoise
    rot := b8 ((List.range 4).foldl (fun a d => a + s.noz.rot.getD d 0 * 4 ^ d) 0)
    states := s.noz.states, eyes := s.noz.eyes }

/-- Write the map into the older copy, 50 pages (R460). -/
def writeMap (s : State) : State :=
  let i := olderMap s.nvm
  let new := mapBytes (mapNow s)
  let (bad, s) := writePages (noteWrite s (imageStream 12672) new) (pagesOf 3 (i * 32768) 12708)
  { s with
    nvm := { s.nvm with maps := s.nvm.maps.set i (writtenUpTo (s.nvm.maps.getD i []) new (0x680 + i * 128) bad) }
    noz := { s.noz with mapSeq := s.noz.mapSeq + 1, dirty := false, writtenAt := some (now s) } }

/-! ### HEAD_CAL's copies (R514) -/

/-- A die's entry as it lies; a die without one leaves its bytes 0. -/
def headEntryBytes : Option HeadEntry → List Byte
  | none => zeros 32
  | some e => withCrc16 (b16 e.main256 ++ b16 e.eCal ++ b16 e.tOn ++ [b8 (patternOf 8 e.tCal), b8 e.turnedOn] ++
      b32 e.quality.toNat ++ b32 e.boot.toNat ++ b16 e.v1 ++ b16 e.pre ++ b16 e.dead ++ zeros 8)

def headCopyBytes (c : HeadCopy) : List Byte :=
  copyHeader "NLHC" (maskOf (c.entries.map (·.isSome))) c.calSeq [] ++ withCrc32c (c.entries.flatMap headEntryBytes)

/-- An entry counts where its DIES bit is set and its check matches (R514). -/
def parseHeadEntry (b : List Byte) (d : Nat) : Option HeadEntry :=
  let e := slice b (32 + 32 * d) 32
  if !(byteAt b 5).toNat.testBit d || slice e 30 2 != b16 (crc16 (e.take 30)).toNat then none else
  some
    { main256 := fieldAt e 0 2, eCal := fieldAt e 2 2, tOn := fieldAt e 4 2, tCal := (byteAt e 6).toInt
      turnedOn := fieldAt e 7 1, quality := BitVec.ofNat 32 (fieldAt e 8 4), boot := BitVec.ofNat 32 (fieldAt e 12 4)
      v1 := fieldAt e 16 2, pre := fieldAt e 18 2, dead := fieldAt e 20 2 }

def parseHead (b : List Byte) : Option HeadCopy :=
  if !copyOk "NLHC" b 128 then none else some ⟨BitVec.ofNat 32 (fieldAt b 8 4), (List.range 4).map (parseHeadEntry b)⟩

def olderHead (n : Nvm) : Nat := olderCopy (n.heads.map (fun b => (parseHead b).map (·.calSeq)))

def newestHeadSeq (n : Nvm) : Word := ((newerCopy (·.calSeq) (n.heads.map parseHead)).map (·.calSeq)).getD 0

/-- What the part stores before an entry to NAP or HIBERNATE, a power-off command or a full shutdown: the fire counters
that have changed (R265). -/
def storeCounters (s : State) : State := storeFires { s with fife := foldDeltas s.fife } true

end Sys2Proof.Machine
end

