-- ==== Sys2Proof/Machine/Records.lean ====
section
/-! DEFINITION. The sequencer's fault records: their layouts (R151, R152), the pending store (R153), the fault slots and
the snapshot ring (R150, R273, R274), and how Cehole reports them (R154). -/

namespace Sys2Proof.Machine

/-- FLAGS of a record (R151). -/
structure RecFlags where
  holdup : Bool
  snapshot : Bool
  disch : Bool
  abort : Bool
deriving DecidableEq, Repr

def RecFlags.byte (f : RecFlags) : Byte := b8 (maskOf [f.holdup, f.snapshot, f.disch, f.abort])

/-- What a record takes from the moment of the decision: its cause, the channel that fell first, SEQ_STATE, and the PG
and EN levels. -/
structure RecAt where
  cause : Byte
  firstCh : Byte
  seqState : Byte
  pg : Byte
  en : Byte
deriving DecidableEq, Repr

/-- The decision as it finds the sequencer. -/
def recAt (s : State) (cause firstCh : Byte) (pg : Byte) : RecAt :=
  ⟨cause, firstCh, seqStateByte s.seq, pg, enByte s.seq⟩

/-- Bytes 0 to 31 of a compact record, or of a snapshot record with KIND 0xA2 (R151). Energies in mJ are rounded down, E_RES of a
snapshot too (DESIGN CHOICE, log entry 202). -/
def recordHead (s : State) (kind : Byte) (a : RecAt) (f : RecFlags) : List Byte :=
  withCrc16 ([kind, a.cause, a.firstCh, a.seqState] ++ b48 (now s).toNat ++
    [a.pg, a.en, flaggedByte s.seq, pstateCode s.pwr.st] ++
    b16 (recordCode s 24) ++ b16 (recordCode s 25) ++ b16 (recordCode s 26) ++ b16 (recordCode s 21) ++
    b32 (s.saf.winEnergy / 1000).floor.toNat ++ b16 s.seq.recSeq.toNat ++ [f.byte, s.seq.lost])

/-- DRONE as a snapshot carries it: state, line level, part driving low (R152). -/
def droneField (q : Seq) : Nat := q.drone % 16 + flagBit (q.droneLine && !q.droneLow) 4 + flagBit q.droneLow 5

/-- A snapshot record, 256 bytes (R152). -/
def snapshotRecord (s : State) (a : RecAt) (f : RecFlags) : List Byte :=
  withCrc32c (recordHead s 0xA2 a f ++
    (List.range 27).flatMap (fun ch => b16 (recordCode s ch)) ++
    (List.range 8).map (chStatus s.seq) ++
    (List.range 8).flatMap (fun n => b32 (chRun s.seq n).edge.toNat) ++
    b16 (droneField s.seq) ++ b16 s.saf.alloc ++ [s.saf.allocSrc, b8 s.saf.pdCls.toNat] ++
    b32 (s.saf.winStart.toNat % 2 ^ 32) ++
    b32 (1000 * eResOf s.otp (reading s 24).code.toNat).floor.toNat ++
    b32 s.saf.postLine.toNat ++ b32 s.saf.postJob.toNat ++ [s.saf.postStep, s.rst.cause] ++
    b16 s.pwr.wakeCause.toNat ++ zeros 100)

def bumpRecSeq (s : State) : State := { s with seq := { s.seq with recSeq := s.seq.recSeq + 1 } }

/-- Capture a compact record, and its snapshot with the next REC_SEQ where one follows (R129, R274). -/
def capture (s : State) (a : RecAt) (f : RecFlags) : PendingRec × State :=
  let c := recordHead s 0xA1 a f
  let s := bumpRecSeq s
  if f.snapshot then
    (⟨c, some (snapshotRecord s a { f with snapshot := false }), false⟩, bumpRecSeq s)
  else (⟨c, none, false⟩, s)

def bumpLost (s : State) : State :=
  { s with seq := { s.seq with lost := if s.seq.lost = 0xFF then 0xFF else s.seq.lost + 1 } }

/-! The pending store holds 8 compact records and 2 snapshots, oldest first (R153). An entry may have lost one of its two
records; a compact record that is gone is empty. -/

def compactCount (l : List PendingRec) : Nat := (l.filter (fun p => !p.compact.isEmpty)).length
def snapCount (l : List PendingRec) : Nat := (l.filter (fun p => p.snap.isSome)).length

/-- How many records a pending store holds. -/
def pendingCount (l : List PendingRec) : Nat := compactCount l + snapCount l

/-- The first entry that passes a test is changed. -/
def modFirst (p : PendingRec → Bool) (f : PendingRec → PendingRec) : List PendingRec → List PendingRec
  | [] => []
  | r :: rs => if p r then f r :: rs else r :: modFirst p f rs

/-- Drop the newest record of one kind; an entry with neither record left goes. -/
def dropNewest (p : PendingRec → Bool) (f : PendingRec → PendingRec) (l : List PendingRec) : List PendingRec :=
  ((modFirst p f l.reverse).reverse).filter (fun r => !r.compact.isEmpty || r.snap.isSome)

/-- Make the compact records fit `n` places and the snapshots `m`: the newest goes, and each loss is counted. -/
def fitPending (s : State) (pend : List PendingRec) (n m : Nat) : List PendingRec × State :=
  let (pend, s) := if n < compactCount pend then
      (dropNewest (fun r => !r.compact.isEmpty) (fun r => { r with compact := [] }) pend, bumpLost s)
    else (pend, s)
  if m < snapCount pend then (dropNewest (fun r => r.snap.isSome) (fun r => { r with snap := none }) pend, bumpLost s)
  else (pend, s)

/-- Put a record in the pending store. A full store keeps the oldest and replaces the newest, and the loss is counted
(R153). -/
def storePending (s : State) (r : PendingRec) : State :=
  let (pend, s) := fitPending s s.seq.pend (if r.compact.isEmpty then 8 else 7) (if r.snap.isSome then 1 else 2)
  { s with seq := { s.seq with pend := pend ++ [r] } }

/-- A record whose write was broken off goes back to the front of the pending store, as its oldest record; what no longer
fits is the newest, and is lost (R153). -/
def returnPending (s : State) (r : PendingRec) : State :=
  let (pend, s) := fitPending s (r :: s.seq.pend) 8 2
  { s with seq := { s.seq with pend := pend } }

/-! ### Fault slots and the snapshot ring -/

/-- A 32-byte record whose CRC-16 does not hold. -/
def recordBad (b : List Byte) : Bool := slice b 30 2 != b16 (crc16 (b.take 30)).toNat

/-- The records in the fault slots. -/
def slotRecords (n : Nvm) : List (List Byte) := n.faults.filterMap (fun f => f.map (·.bytes))

/-- A snapshot record whose two checks hold: its header's, and that of the whole (R152). -/
def snapOk (b : List Byte) : Bool :=
  b.length == 256 && !recordBad b && slice b 252 4 == b32 (crc32c (b.take 252)).toNat

/-- The valid snapshots of the ring, oldest first. -/
def validSnaps (n : Nvm) : List (Nat × List Byte) := n.snaps.filter (fun p => snapOk p.2)

def erasedSlots (n : Nvm) : List Nat := (List.range 8).filter (fun i => (n.faults.getD i none).isNone)

/-- The slot SEQ_NVM may write: an erased slot other than the last erased one (R150, R273). -/
def freeSlot (n : Nvm) : Option Nat :=
  match erasedSlots n with
  | i :: _ :: _ => some i
  | _ => none

def setSlot (s : State) (i : Nat) (f : Option FaultSlot) : State :=
  { s with nvm := { s.nvm with faults := s.nvm.faults.set i f } }

/-- Write a fault slot, erased before: one cycle of the FAULT_SLOTS page. A record whose page cannot be written is lost (R263, R264,
R266). -/
def writeSlot (s : State) (i : Nat) (f : FaultSlot) : State :=
  match writePage 257 s 0x940 with
  | (true, s) => setSlot s i (some f)
  | (false, s) => bumpLost s

/-- Erase a fault slot: the cycle is counted with the write that follows, one for each record (R266). -/
def eraseSlot (s : State) (i : Nat) : State := setSlot s i none

/-- A snapshot joins the ring of 64 slots, of which one stays erased (R274); where its page cannot be written it is lost. -/
def addSnap (s : State) (b : List Byte) : State :=
  let slot := match s.nvm.snaps.getLast? with
    | some p => (p.1 + 1) % 64
    | none => 0
  let (ok, s) := writePage 257 s (0x900 + slot)
  if !ok then bumpLost s else
  { s with nvm := { s.nvm with snaps := (s.nvm.snaps ++ [(slot, b)]).drop ((s.nvm.snaps.length + 1) - 63) } }

/-- While the main domain runs, the oldest pending record goes to NVM through SEQ_NVM as soon as a slot is free (R153), a snapshot
alone needing none and standing at place 8; a VINFAIL record of PULLDOWN mode waits for the next READY, and holds back no other
(R140). -/
def startSeqWrite (s : State) : State :=
  if !coreRuns s || s.seq.writing.isSome || s.seq.holdup.isSome then s else
  match s.seq.pend.find? (fun r => !r.atReady) with
  | none => s
  | some r =>
    match (if r.compact.isEmpty then some 8 else freeSlot s.nvm) with
    | some i => { s with seq := { s.seq with pend := s.seq.pend.erase r, writing := some (r, i) } }
    | none => s

/-- A new record goes to the pending store, behind older ones, and from there to NVM (R153, R273). -/
def putRecord (s : State) (r : PendingRec) : State := startSeqWrite (storePending s r)

/-- The part drives a DRONE abort with the event: in state 15 of DRONE mode (R148, R151). -/
def abortDriven (q : Seq) : Bool := q.cfg.drone && q.drone == 15

/-- Capture a record at a decision and put it away. -/
def record (s : State) (a : RecAt) (snapshot abort : Bool) : State :=
  let (r, s) := capture s a ⟨false, snapshot, s.saf.disch, abort⟩
  putRecord s r

/-- What a write broken off leaves: at least byte 0 and not all, from byte 0 upward, the rest erased (R150); how much is a free
value. -/
def tornBytes (s : State) (b : List Byte) (len : Nat) : List Byte × State :=
  let (k, s) := drawBelow s (len - 1)
  (b.take (k + 1) ++ List.replicate (len - 1 - k) 0xFF, s)

/-- A write of a record broken off: its slot holds the bytes written so far (R141, R154). -/
def tornSlot (s : State) (i : Nat) (r : PendingRec) : State :=
  match r.compact, r.snap with
  | [], some b => let (b, s) := tornBytes s b 256; addSnap s b
  | [], none => s
  | c, _ => let (b, s) := tornBytes s c 32; writeSlot s i ⟨b, false⟩

/-- The compact record of an entry is written to a slot, where the entry still has it. -/
def writeCompact (s : State) (i : Nat) (r : PendingRec) : State :=
  if r.compact.isEmpty then s else writeSlot s i ⟨r.compact, false⟩

/-- The newer of the REC_SEQ reported so far and one more (R154, R272, R530). -/
def newerSeq (old : Option Half) (seq : Half) : Half :=
  match old with
  | some o => if isAhead o seq then seq else o
  | none => seq

/-- Report a slot once (R154): a slot whose check fails is logged as TORN_RECORD and erased; a valid record is logged as
FAULT_RECORD, notified to every context holding POWER and marked reported. -/
def reportSlot (s : State) (i : Nat) : State :=
  match s.nvm.faults.getD i none with
  | none => s
  | some f =>
    if f.reported then s else
    if recordBad f.bytes then
      eraseSlot (logEvent s 0x0504 ([byteAt f.bytes 0, byteAt f.bytes 1] ++ slice f.bytes 4 4)) i
    else
      let seq := BitVec.ofNat 16 (fieldAt f.bytes 26 2)
      let snapSlot : Byte := if (byteAt f.bytes 28).toNat.testBit 1 then
          (match (validSnaps s.nvm).find? (fun p => slice p.2 26 2 == b16 (seq + 1).toNat) with
           | some p => b8 p.1
           | none => 0xFF)
        else 0xFF
      let s := logEvent s 0x0501 ([byteAt f.bytes 1, byteAt f.bytes 2] ++ slice f.bytes 26 2 ++ [b8 i, snapSlot])
      let s := notifyRight s rPower 0x8003 f.bytes
      let s := setIrq s 6
      let s := { s with log := { s.log with newestRec := some (newerSeq s.log.newestRec seq) } }
      setSlot s i (some { f with reported := true })

/-- REC_SEQ of the record in a fault slot. -/
def slotSeq (n : Nvm) (i : Nat) : Half :=
  match n.faults.getD i none with
  | some f => BitVec.ofNat 16 (fieldAt f.bytes 26 2)
  | none => 0

/-- Of some slots the oldest by REC_SEQ: the one whose sequence every other is at or after (R530). -/
def oldestOf (n : Nvm) : List Nat → Option Nat
  | [] => none
  | i :: is => some (is.foldl (fun a b => if isAhead (slotSeq n b) (slotSeq n a) then b else a) i)

/-- The oldest reported slot by REC_SEQ. -/
def oldestReported (n : Nvm) : Option Nat :=
  oldestOf n ((List.range 8).filter (fun i => match n.faults.getD i none with
    | some f => f.reported
    | none => false))

/-- Slots in the order of REC_SEQ, oldest first (R530). -/
def bySeq (n : Nvm) : Nat → List Nat → List Nat
  | 0, _ => []
  | k + 1, is => match oldestOf n is with
    | some i => i :: bySeq n k (is.filter (· != i))
    | none => []

/-- Erase the oldest reported slots until at least 2 slots are erased (R273). -/
def eraseReported : Nat → State → State
  | 0, s => s
  | k + 1, s =>
    if 2 ≤ (erasedSlots s.nvm).length then s else
    match oldestReported s.nvm with
    | none => s
    | some i => eraseReported k (eraseSlot s i)

end Sys2Proof.Machine
end

