-- ==== Sys2Proof/Machine/SeqOps.lean ====
section
/-! DEFINITION. The rail sequencer's operations: enabling and releasing channels, stepping through the states of an
up-sequence, walking the slots of a shutdown, on and off requests, and cutting everything (R117 to R149). -/

namespace Sys2Proof.Machine

def modSeq (s : State) (f : Seq → Seq) : State := { s with seq := f s.seq }
def modCh (q : Seq) (n : Nat) (f : ChRun → ChRun) : Seq := { q with ch := modAt q.ch n f }

def saffronCh (q : Seq) (n : Nat) : Bool := q.cfg.saffron.toNat.testBit n
def inMask (q : Seq) (n : Nat) : Bool := q.mask.toNat.testBit n

/-- A channel is satisfied (the four cases of the up-sequence, R121, R123). A channel outside a partial sequence's mask
counts as satisfied. -/
def satisfied (q : Seq) (n : Nat) : Bool :=
  let c := chRun q n
  c.pgSeen || (!pgUsed q n && (c.en || c.released)) || (saffronCh q n && c.released) || c.pgFlag || !inMask q n

/-- A released channel: enable low, no longer released to Saffron, not monitored (R125, R133). The PG input of a rail
whose enable has fallen reads not good (DESIGN CHOICE, log entry 37). -/
def ChRun.release (c : ChRun) : ChRun :=
  { c with en := false, released := false, pgSeen := false, monitored := false, delayed := false, pg := false }

/-- Release one channel's enable; where Saffron owns it, its request for the charger falls with it (R123). -/
def releaseCh (s : State) (n : Nat) : State :=
  let s := if saffronCh s.seq n then { s with saf := { s.saf with charger := false, gate := false } } else s
  modSeq s (fun q => modCh q n ChRun.release)

/-! ### Sequencer settings from parameters (R118, R119) -/

/-- The settings that a set of committed sequencing values gives. -/
def seqCfgOf (m : ParamMap) : SeqCfg :=
  let v (id : Nat) : Nat := ofLe (mapVal m id)
  { ch := (List.range 8).map (fun n =>
      ⟨v (0x510 + n), BitVec.ofNat 8 (v (0x518 + n)), v (0x520 + n), v (0x528 + n), v (0x530 + n), v (0x538 + n),
       BitVec.ofNat 32 (v (0x540 + n)), v (0x548 + n)⟩)
    pgUsed := BitVec.ofNat 8 (v 0x501), fireReq := BitVec.ofNat 8 (v 0x502), saffron := BitVec.ofNat 8 (v 0x503)
    headRail := v 0x504, autoOn := v 0x505 == 1, drone := v 0x506 == 1, holdup := v 0x507 == 1
    snapshot := v 0x508 == 1, retries := v 0x509 }

/-- A channel under a new mask of those that Saffron owns: one that the mask does not name is no longer released to it. -/
def dropOwner (owned held : BitVec 8) (n : Nat) (r : ChRun) : ChRun :=
  { r with released := r.released && (owned ||| held).toNat.testBit n }

/-- Values laid over others. -/
def overlay (m t : ParamMap) : ParamMap := t.foldl (fun m p => assocSet m p.1 p.2) m

/-- What shadows of words 77 and 78 give for the sequence: the boot table as it reads with them (R118, R170; DEDUCED, log
entry 38); nothing where no such shadow is in force. -/
def shadowTable (o : Otp) : ParamMap :=
  if (shadowOf o 77).isNone && (shadowOf o 78).isNone then [] else
  let c := bootCfg o
  let per (base : Nat) (f : ChCfg → Nat) : ParamMap := c.ch.mapIdx (fun n x => (base + n, [b8 (f x)]))
  (0x0501, [b8 c.pgUsed.toNat]) :: per 0x0510 (·.upState) ++ per 0x0518 (·.deps.toNat) ++ per 0x0530 (·.offSlot)

/-- Put committed settings in force, under the shadows' table. A channel that they take
out of SEQ_PG_USED is monitored no longer (R117); one that was released to Saffron and that they no longer name stays low
until the next up-sequence (DESIGN CHOICE, log entry 122). With SEQ_DRONE_MODE at 0 DRONE is held low and an abort that was
owed to the others is off (R143); where DRONE mode comes on in state 15, the line is released (R144), and it counts as
low until DRONE_RISE reports it high (DESIGN CHOICE, log entry 184). -/
def applyCfg (s : State) (m : ParamMap) : State :=
  let c := seqCfgOf (overlay m s.seq.shadow)
  { modSeq s (fun q => { q with
      cfg := c, next := none, droneLow := if q.cfg.drone == c.drone then q.droneLow else !(c.drone && q.drone == 15)
      droneAbortDue := q.droneAbortDue && c.drone
      drone := if q.droneAbortDue && !c.drone && decide (q.ph ≠ .up ∧ q.ph ≠ .running) then 0 else q.drone
      ch := q.ch.mapIdx (fun n r => { dropOwner c.saffron q.held n r with
        monitored := r.monitored && c.pgUsed.toNat.testBit n }) }) with
    params := { s.params with atOff := m } }

/-- The settings that wait come into force: at an entry to OFF, or at the start of a partial sequence (R119). -/
def applyNextCfg (s : State) : State :=
  match s.seq.next with
  | none => s
  | some m => applyCfg s m

/-- At an entry to OFF the shadows of the boot table come into force, and those withdrawn or ignored since go (R170). -/
def applyAtOff (s : State) : State :=
  if shadowTable s.otp = s.seq.shadow then applyNextCfg s
  else applyCfg (modSeq s (fun q => { q with shadow := shadowTable s.otp })) (s.seq.next.getD s.params.atOff)

/-! ### Completion of commands (R305) -/

/-- The result of PWR_ON and PWR_OFF: SEQ_STATE, EN, PG and FLAGGED. -/
def seqResult (q : Seq) : List Byte := [seqStateByte q, enByte q, pgByte q, flaggedByte q]

/-- A PWR_OFF with DEFER whose shutdown has not started waits on in RUNNING (R305). -/
def waitsOn (s : State) (w : Half × Fin 12 × Half) : Bool :=
  w.1 == 0x0504 && s.saf.deferOff && decide (s.seq.ph = .running)

/-- The sequencer reaches RUNNING, OFF or FAULT_OFF: every waiting power command ends whose sequence has run, with FAULT
detail RAIL where a fault on a channel ended the sequence. -/
def endWaiters (s : State) (faultCh : Option Nat) : State :=
  let s' := modSeq s (fun q => { q with waiters := q.waiters.filter (waitsOn s) })
  (s.seq.waiters.filter (fun w => !waitsOn s w)).foldl (fun st w =>
    let (op, c, seq) := w
    match faultCh with
    | none => commandDone st c.val op seq stOk (seqResult st.seq)
    | some n => commandDone st c.val op seq stFault (seqResult st.seq ++ faultDetail 0x0007 n)) s'

/-! ### The up-sequence -/

/-- A channel of the current state whose on-delay has run out and whose dependencies are satisfied is enabled, or
released to Saffron where Saffron owns it. One that the ceiling detector holds is handed over in the same way: its enable
rises when the detector lets go (R26). -/
def enableDue (q : Seq) (n : Nat) : Bool :=
  let c := chRun q n
  inMask q n && (chCfg q n).upState == q.state && c.delayed && !c.en && !c.released &&
    (List.range 8).all (fun m => !(chCfg q n).deps.toNat.testBit m || satisfied q m)

def enableCh (q : Seq) (n : Nat) : Seq :=
  if saffronCh q n || q.held.toNat.testBit n then modCh q n (fun c => { c with released := true })
  else modCh q n (fun c => { c with en := true, pgSeen := pgUsed q n && c.pg, monitored := pgUsed q n && c.pg })

/-- Enter a state: on-delays of 0 have run out at once (DEDUCED, log entry 26). The DRONE state goes with it, but for a
partial sequence (R135). -/
def enterState (q : Seq) (st : Nat) : Seq :=
  { q with state := st, drone := if q.partialRun then q.drone else st, ch := q.ch.mapIdx (fun n c =>
      if (chCfg q n).upState = st ∧ inMask q n then { c with delayed := (chCfg q n).onDelay == 0 } else c) }

/-- Every channel assigned to the current state is satisfied. -/
def stateComplete (q : Seq) : Bool :=
  (List.range 8).all (fun n => (chCfg q n).upState != q.state || satisfied q n)

/-- Whether the sequence goes through DRONE: a partial sequence is local to the part (R135). -/
def throughDrone (q : Seq) : Bool := q.cfg.drone && !q.partialRun

/-- Reaching state 15: RUNNING. In DRONE mode the line is left released (R144). -/
def reachRunning (q : Seq) : Seq :=
  { q with ph := .running, state := 15, drone := 15, partialRun := false, mask := 0xFF,
           droneLow := q.droneLow && !throughDrone q }

/-- Advance an up-sequence as far as its conditions allow: enable what is due, and step on from complete states. With
DRONE, a complete state releases the line and waits for its rising edge (R144). Between a VINFAIL trip and its release no
enable changes (R139). -/
def settle : Nat → Seq → Seq
  | 0, q => q
  | k + 1, q =>
    if q.ph ≠ .up ∨ q.frozen then q else
    match (List.range 8).find? (enableDue q) with
    | some n => settle k (enableCh q n)
    | none =>
      if !stateComplete q then q
      else if throughDrone q then { q with droneLow := false }
      else if q.state = 14 then reachRunning q
      else settle k (enterState q (q.state + 1))

def settleFuel : Nat := 64

/-- The gate of the fire lines falls once the head rail is enabled again and its PG reads good, where that is used (R432). -/
def dropHisGate (s : State) : State :=
  let n := s.seq.cfg.headRail
  if (chRun s.seq n).en && (!pgUsed s.seq n || (chRun s.seq n).pg) then { s with fife := { s.fife with hisGate := false } }
  else s

/-- Settle, and report completion when RUNNING is reached. -/
def seqAdvance (s : State) : State :=
  let s' := dropHisGate (modSeq s (settle settleFuel))
  if s.seq.ph = .up ∧ s'.seq.ph = .running then endWaiters s' none else s'

/-- Start an up-sequence at state 0: flags are cleared, the fault level on SEQ_FIRE falls, a latched request is served
(R122, R126, R131, R137). -/
def startUp (s : State) : State :=
  let s := modSeq s (fun q =>
    { q with ph := .up, mask := 0xFF, partialRun := false, offList := 0, due := 0, onLatched := false, retryDue := false
             again := false, slotWff := false, droneLine := false
             ch := q.ch.map (fun c => { c with pgFlag := false, wffFlag := false, hisDrop := false, pgSeen := false
                                               delayed := false }) })
  let s := { s with fife := { s.fife with fault := false } }
  seqAdvance (modSeq s (fun q => enterState q 0))

/-- The part refuses every up-sequence in SCRAP (R177). -/
def upAllowed (s : State) : Bool := decide (lifecycle s.otp ≠ 4)

/-- Leave FAULT_OFF where something asks for it: SEQ_MIN_OFF has passed, VINFAIL has risen again, and an on request is
latched or an automatic retry is due (R131, R139). -/
def leaveFaultOff (s : State) : State :=
  if s.seq.ph ≠ .faultOff ∨ s.seq.minOffRun ∨ s.seq.vinLow ∨ s.seq.frozen ∨ !upAllowed s then s
  else if s.seq.onLatched then startUp s
  else if s.seq.retryDue ∧ !s.seq.retryCancel ∧ s.seq.retriesDone < s.seq.cfg.retries then
    startUp (modSeq s (fun q => { q with retriesDone := q.retriesDone + 1 }))
  else s

/-- An on request (R124, R131, R137): it starts an up-sequence from OFF, is latched while a sequence, SEQ_MIN_OFF or
FAULT_OFF stands in the way, VINFAIL has stopped the sequencer (R139) or DRONE is on its way to an abort (R149: only state 0
lets an on request through), and does nothing in UP and RUNNING. It lifts a cancellation of automatic retries. -/
def onRequest (s : State) : State :=
  if !upAllowed s then s else
  let s := modSeq s (fun q => { q with retryCancel := false })
  if s.seq.frozen then modSeq s (fun q => { q with onLatched := true }) else
  match s.seq.ph with
  | .off => if s.seq.minOffRun ∨ s.seq.droneAbortDue then modSeq s (fun q => { q with onLatched := true }) else startUp s
  | .up => s
  | .running => s
  | .faultOff => leaveFaultOff (modSeq s (fun q => { q with onLatched := true }))
  | _ => modSeq s (fun q => { q with onLatched := true })

/-- In OFF, after SEQ_MIN_OFF and with DRONE back in state 0, a latched on request starts the up-sequence (R137, R149). -/
def onFromZero (s : State) : State :=
  if s.seq.ph = .off ∧ !s.seq.minOffRun ∧ s.seq.onLatched then onRequest s else s

/-! ### Shutdown -/

/-- A channel that a shutdown must still release: enabled or released to Saffron, and in the mask. -/
def mustDrop (q : Seq) (n : Nat) : Bool :=
  inMask q n && ((chRun q n).en || (chRun q n).released)

/-- The channel of a shutdown slot. The slot of a channel that HIS dropped has no enable left to release and completes at
once, without its off-delay and its wait-for-fall check (DESIGN CHOICE, log entry 120). -/
def slotChannel (q : Seq) (k : Nat) : Option Nat :=
  (List.range 8).find? (fun n => (chCfg q n).offSlot == k && mustDrop q n)

def wffEnabled (q : Seq) (n : Nat) : Bool := (chCfg q n).wff.toNat.testBit 31
/-- The hub channel and threshold code of a wait-for-fall check. -/
def wffChannel (q : Seq) (n : Nat) : Nat := (chCfg q n).wff.toNat / 2 ^ 16 % 32
def wffCode (q : Seq) (n : Nat) : Nat := (chCfg q n).wff.toNat % 4096

/-- A partial shutdown is complete: the channels it took down are those of its mask; the sequencer returns to RUNNING
for the others (DEDUCED, log entry 27). An on request that was latched meanwhile ends with it (DESIGN CHOICE, log entry 176). -/
def partialDone (q : Seq) : Seq :=
  { q with ph := .running, state := 15, offList := q.offList ||| q.mask, mask := 0xFF, partialRun := false, slot := 0,
           onLatched := false }

/-- A full shutdown is complete: MIN_OFF for SEQ_MIN_OFF; DRONE returns to state 0 with the line held low (R134, R148),
unless the part still owes the others an abort at state 15 (R149). -/
def fullDone (q : Seq) : Seq :=
  { q with ph := .minOff, state := 0, minOffRun := true, mask := 0xFF, slot := 0, offList := 0, due := 0
           drone := if q.droneAbortDue then q.drone else 0
           droneLow := q.droneLow || !q.droneAbortDue, droneLine := q.droneLine && q.droneAbortDue }

/-- Walk the slots: a slot whose channel has an off-delay, or whose wait-for-fall check runs, holds the walk; empty slots
complete at once. After slot 7 the walk runs again where a partial shutdown became full (R132, R135). A partial shutdown
that ends in RUNNING ends what waits for RUNNING (R305). -/
def walk : Nat → State → State
  | 0, s => s
  | k + 1, s =>
    if s.seq.ph ≠ .down ∨ s.seq.frozen ∨ s.seq.slotWff then s else
    if 8 ≤ s.seq.slot then
      if s.seq.again then walk k (modSeq s (fun q => { q with slot := 0, again := false }))
      else if s.seq.partialRun then endWaiters (modSeq s partialDone) none
      else modSeq s fullDone
    else
      match slotChannel s.seq s.seq.slot with
      | none => walk k (modSeq s (fun q => { q with slot := q.slot + 1 }))
      | some n =>
        if (chCfg s.seq n).offDelay ≠ 0 then s else
        let s := releaseCh s n
        if wffEnabled s.seq n then
          { modSeq s (fun q => { q with slotWff := true }) with hub := { s.hub with wff := some (wffChannel s.seq n) } }
        else walk k s

def walkFuel : Nat := 40

/-- The wait-for-fall check of the slot in progress ends; the walk goes on. -/
def wffEnd (s : State) : State :=
  if !s.seq.slotWff then s else
  let s := { modSeq s (fun q => { q with slotWff := false }) with hub := { s.hub with wff := none } }
  walk walkFuel s

/-- The channel whose wait-for-fall check the slot in progress waits for: the last one released in the slot. -/
def wffWaiting (q : Seq) : Option Nat :=
  if q.slotWff then (List.range 8).find? (fun n =>
    (chCfg q n).offSlot == q.slot && wffEnabled q n && !mustDrop q n) else none

/-- An off request that starts or becomes a full shutdown issues a DRONE abort: at once in state 15, else on reaching
state 15, with the line released on the way (R148, R149). -/
def droneOff (q : Seq) : Seq :=
  if !q.cfg.drone then q
  else if q.drone = 15 then { q with droneLow := true, droneLine := false }
  else { q with droneLow := false, droneAbortDue := true }

/-- At a full shutdown Cehole, where it runs, rewrites the fire counters that have changed (R265). -/
def shutdownStores (s : State) : State := if coreRuns s then storeCounters s else s

/-- Start a full shutdown: DISCH with reason SHUTDOWN, then the slots (R134, R136). -/
def startFull (s : State) : State :=
  let s := shutdownStores (assertDisch s 5)
  let s := modSeq s (fun q =>
    { droneOff q with ph := .down, mask := 0xFF, partialRun := false, again := false, slot := 0, slotWff := false
                      onLatched := false, due := 0 })
  walk walkFuel s

/-- A partial shutdown in progress becomes a full one: DISCH at once, the slot in progress completes, the remaining slots
cover every channel, and the passed slots are walked once more (R135). -/
def partialToFull (s : State) : State :=
  let s := shutdownStores (assertDisch s 5)
  walk walkFuel (modSeq s (fun q => { droneOff q with mask := 0xFF, partialRun := false, again := true, onLatched := false, due := 0 }))

/-- An off request (R131, R134 to R137): a full shutdown from UP and RUNNING, a partial shutdown made full; elsewhere it
cancels a latched on request and automatic retries. -/
def offRequest (s : State) : State :=
  match s.seq.ph with
  | .up => startFull s
  | .running => startFull s
  | .down => if s.seq.partialRun then partialToFull s else modSeq s (fun q => { q with onLatched := false })
  | .off => modSeq s (fun q => { q with onLatched := false })
  | .minOff => modSeq s (fun q => { q with onLatched := false, retryCancel := true })
  | .faultOff => modSeq s (fun q => { q with onLatched := false, retryCancel := true, retryDue := false })

/-- The channels that are enabled or released to Saffron. -/
def onMask (q : Seq) : BitVec 8 := BitVec.ofNat 8 (maskOf (q.ch.map (fun c => c.en || c.released)))

/-- A partial shutdown of the rails in a mask that are on; waiting settings apply at its start (R96, R119, R135). In UP it
waits for RUNNING, since a sequence never reverses midway (R138); in OFF, MIN_OFF, FAULT_OFF and a shutdown there is nothing
for it to take down (DESIGN CHOICE, log entry 121). -/
def startPartial (s : State) (mask : BitVec 8) : State :=
  if s.seq.ph = .up then modSeq s (fun q => { q with due := q.due ||| mask }) else
  if s.seq.ph ≠ .running ∨ s.seq.frozen ∨ mask &&& onMask s.seq = 0 then s else
  let s := applyNextCfg s
  let on := onMask s.seq
  walk walkFuel (modSeq s (fun q =>
    { q with ph := .down, mask := mask &&& on, partialRun := true, again := false, slot := 0, slotWff := false }))

/-- The partial shutdown that waited for RUNNING starts (R96). -/
def partialDue (s : State) : State :=
  if s.seq.ph ≠ .running ∨ s.seq.due = 0 then s else
  startPartial (modSeq s (fun q => { q with due := 0 })) s.seq.due

/-- The rails that a partial shutdown took down come up again in their up states (R96, R135); none in FAULT_OFF. -/
def startPartialUp (s : State) : State :=
  if s.seq.ph ≠ .running ∨ s.seq.frozen ∨ s.seq.offList = 0 then s else
  let s := applyNextCfg s
  let s := modSeq s (fun q =>
    { q with ph := .up, mask := q.offList, offList := 0, partialRun := true
             ch := q.ch.map (fun c => { c with pgFlag := false, wffFlag := false, delayed := false }) })
  seqAdvance (modSeq s (fun q => enterState q 0))

/-! ### All-off -/

/-- Every enable falls at once and the sequencer enters FAULT_OFF; SEQ_MIN_OFF runs from here, a retry is due, and DRONE
is held low (R126, R131, R139, R148). -/
def allOff (s : State) : State :=
  let s := releaseCharger s
  modSeq { s with hub := { s.hub with wff := none } } (fun q =>
    { q with ph := .faultOff, state := 0, drone := 0, ch := q.ch.map ChRun.release, mask := 0xFF, slot := 0, slotWff := false
             again := false, partialRun := false, offList := 0, due := 0, minOffRun := true, retryDue := true
             droneLow := true, droneLine := false, droneAbortDue := false })

/-- The fault level on SEQ_FIRE rises: the Fife halts and the ticket is INTERRUPTED with cause 0x04 (R126, R431). -/
def raiseFault (s : State) : State :=
  haltTicket { s with fife := { s.fife with fault := true } } 4

/-- A calibration of head energy ends with FAULT detail RAIL when a required rail is lost; a maintenance action does once its
mechanism has stopped (R310, R504). -/
def railLost (s : State) (n : Nat) : State :=
  let s := if s.seq.cfg.fireReq.toNat.testBit n ∧ s.saf.actions.any (fun a => a.started && a.opcode != 0x0601) then
      haltService { s with saf := { s.saf with railHit := true } } else s
  if headEnergyRuns s ∧ (n = s.seq.cfg.headRail ∨ s.seq.cfg.fireReq.toNat.testBit n) then endCal s 0x0007 n else s

end Sys2Proof.Machine
end

