-- ==== Sys2Proof/Machine/JobOps.lean ====
section
/-! DEFINITION. Shared operations on jobs, open messages, raw streams and network connections: cancelling at once (R298),
discarding a message (R232, R296), ending a raw stream (R214, R337) and closing a connection (R208, R213). -/

namespace Sys2Proof.Machine

/-- CANCELLED at once, with the raster-store space freed (R298). -/
def cancelNow (s : State) (id : Nat) : State := finishJob (modJob s id freeRaster) id .cancelled 0

/-- FAILED, freeing its blocks (R358). -/
def failJob (s : State) (id detail : Nat) : State := finishJob (modJob s id freeRaster) id .failed detail

/-- RASTER_INCOMPLETE where the fault lies in no band (R358; DEDUCED, log entry 29). -/
def rasterIncomplete : Nat := 0xFFFF000A

/-- Discard a context's open message; a raster job still streaming becomes FAILED (R232, R296). -/
def discardMsg (s : State) (c : Nat) : State :=
  match (ctxOf s c).msg with
  | none => s
  | some m =>
    let s := modCtx s c (fun x => { x with msg := none })
    if m.opcode = 0x0302 ∧ jobStIs s m.job .rendering then failJob s m.job rasterIncomplete else s

/-- The raw job that a context's stream is filling. -/
def rawJob (s : State) (c : Nat) : Option Job :=
  s.jobs.live.find? (fun j => j.raw && j.ctx.val == c && decide (j.st = .rendering))

/-- A raw stream ends: an incomplete last job becomes CANCELLED; complete jobs print (R214, R337). -/
def endRawStream (s : State) (c : Nat) : State :=
  match rawJob s c with
  | some j => cancelNow s j.id
  | none => s

/-- A keyed session ends: K_s is erased and the context takes no more notifications (R211, R213). -/
def endKeyed (s : State) (c : Nat) : State := modCtx s c (fun x => { x with keyed := none, opening := none })

def connOf (s : State) (id : Nat) : Option Conn := s.net.conns.find? (fun k => k.id == id)

/-- The connection that holds a network context. -/
def connOn (s : State) (c : Nat) : Option Conn :=
  s.net.conns.find? (fun k => decide (k.ctx.map (·.val) = some c))

/-- A connection closes: its raw stream or its session ends and its context is free (R213, R214). -/
def closeConn (s : State) (id : Nat) : State :=
  match connOf s id with
  | none => s
  | some k =>
    let s := match k.ctx with
      | none => s
      | some c => if k.raw then endRawStream s c.val else endKeyed s c.val
    { s with net := { s.net with conns := s.net.conns.filter (fun k => k.id != id) } }

/-- Close every connection that satisfies a test. -/
def closeConns (s : State) (p : Conn → Bool) : State :=
  ((s.net.conns.filter p).map (·.id)).foldl closeConn s

/-- One job lost to a reset or to HIBERNATE: JOB_LOST with its ID and last state (R20, R98). -/
def logLost (s : State) (j : Job) : State := logFor s 0x0103 [b8 (jobCode j.st)] (b8 j.ctx.val) j.id

/-- Every unfinished job is lost and logged (R20, R33). The finished jobs' statuses go with the memory that held them. -/
def loseJobs (s : State) (keepLog : Bool) : State :=
  let s := if keepLog then s.jobs.live.foldl logLost s else s
  { s with jobs := { s.jobs with live := [], finished := [], interrupted := [], first := none } }

/-- A description job goes back to QUEUED without its raster (R32, R94). -/
def requeue (s : State) (id : Nat) : State := setJobState (modJob s id freeRaster) id .queued 0

/-- Jobs that HOLD counts: QUEUED to HELD and not finished, each an unfinished job (R234). -/
def unfinished (s : State) (c : Nat) : Nat := (s.jobs.live.filter (fun j => j.ctx.val == c)).length

/-- The job limits of R234: 16 for the context and 64 over all. -/
def jobRoom (s : State) (c : Nat) : Bool := decide (unfinished s c < 16 ∧ s.jobs.live.length < 64)

end Sys2Proof.Machine
end

