-- ==== Sys2Proof/Machine/PowerOps.lean ====
section
/-! DEFINITION. Power states and resets as shared operations: what a loss of the main domain takes with it (R19, R20, R76),
the main-domain reset (R74, R80), entry to NAP and HIBERNATE with its commit point (R93 to R98), and the wake sources
(R99 to R101). -/

namespace Sys2Proof.Machine

/-- The motors that something still to finish drives: a feed M0, a cut or a homing M1, a homing M2. -/
def busyMotors (m : Motion) : BitVec 3 :=
  (if m.feed = .idle then 0 else 1) ||| (if m.cutting.isSome || m.homingCut then 2 else 0) |||
  (if m.homingSled then 4 else 0)

/-- Enter a power state: the watchdog counts, and the motors run, only in RUN (R81, R91). -/
def enterPstate (s : State) (st : PState) : State :=
  if s.pwr.st = st then s else
  logEvent { s with
    pwr := { s.pwr with st := st }, rst := { s.rst with wdtRun := decide (st = .run) }
    motion := { s.motion with en := if st = .run then (raiseEn s (busyMotors s.motion)).motion.en else 0 } } 0x0401 [pstateCode st]

/-- Work in DOZE returns the part to RUN, and a DOZE that waits for the cap is off (R99, R113). -/
def wakeDoze (s : State) : State :=
  let s := { s with pwr := { s.pwr with dozeDue := false } }
  if s.pwr.st = .doze then enterPstate s .run else s

/-- Close an open debug level and forget a nonce in use (R180, R181). -/
def closeDebug (s : State) : State :=
  { s with dbg := { s.dbg with level := .none, status := 0, asked := .none, answer := none, nonce := 0, used := false } }

/-! ### The main domain lost -/

/-- Motion after a reset of the main domain: what it had is gone, and at the release it samples its inputs as they stand:
the encoders, the home sensors and the drivers' faults (R88). A cap stays on the head, and the time it has been there counts
(R459). -/
def motionLost (m : Motion) : Motion :=
  { Motion.rest with
    enc := m.enc.map (fun e => { Enc.rest with a := e.a, b := e.b, i := e.i }), cutIn := m.cutIn, sledIn := m.sledIn
    flt := m.flt, capped := m.capped, capTime := m.capTime, uncapSpit := m.uncapSpit }

/-- The same where hub time starts again: how long the head has been capped by now stays known (R459; log entry 205). -/
def motionRestarted (s : State) : Motion := { motionLost s.motion with capTime := s.motion.capTime - now s }

/-- What every loss of the main domain takes: jobs, each logged (R20), sessions, messages and queues (R212, R236),
working and pending values (R252), motion, Fife and Saffron's core half, calibrations (R504), AUTH nonces (R176, R180);
Clove releases the charger (R19). What Clove holds stands. -/
def mainLost (s : State) : State :=
  let s := loseJobs s true
  let s := releaseCharger s
  let s := dropTrial (closeDebug s)
  { s with
    ctxs := List.replicate 12 Ctx.fresh
    params := { s.params with working := [], pending := [], atScan := none, atCal := none }
    saf := { s.saf with
      ticket := none, actions := [], rr := [12, 12, 12], awaiting := none, spent := [], deferOff := false
      postStep := 0, postLine := 0, postJob := 0 }
    fife := { Fife.rest with fault := s.fife.fault }
    motion := motionLost s.motion
    noz := Noz.rest
    port := { s.port with
      irq := 0, irqEnable := 0, dbStatus := 0, inBuf := [], outPos := 0, lastRead := [], imgDb := 0x0102 }
    cvu := Cvu.rest
    hub := { s.hub with ackAlive := none }
    uart := { s.uart with rx := [], rxBad := false, driven := false }
    usb := { State.reset.usb with vbus := s.usb.vbus }
    net := State.reset.net
    pwr := { s.pwr with entry := none, dozeDue := false }
    otp := { s.otp with nonceEntry := none, nonceCore := none }
    dbg := { s.dbg with ir := .idcode, status := 0 }
    seq := { s.seq with waiters := [] }
    rst := { s.rst with wdtRun := false, resetPend := none } }

/-- A SEQ_NVM write under way is aborted: the slot is torn, the record goes back to the front of the pending store, and
the abort flag is set with its REC_SEQ (R82, R85, R153, R154). -/
def abortSeqNvm (s : State) : State :=
  match s.seq.writing with
  | none => s
  | some (r, i) =>
    let s := returnPending (modSeq (tornSlot s i r) (fun q => { q with writing := none })) r
    { s with rst := { s.rst with abSeqNvm := some (BitVec.ofNat 16 (fieldAt (if r.compact.isEmpty then r.snap.getD [] else r.compact) 26 2)) } }

/-- Whether a request on an RA crossing is still in its handshake when a reset comes: only one of this microsecond can be, and
then it is a free choice (R85; log entry 13). -/
def inHandshake (s : State) (q : RaReq) : Bool × State := if q.time = now s then drawBit s else (false, s)

/-- The entry that a request of HUB_CFG, not yet latched, was to replace stands again, with the transactions and completions that it
took from the bus queues where nothing has moved them since (R85). -/
def restoreHub (h : Hub) (t : Time) : HubEntry → Hub
  | .slot n e r i2c spi done => { h with
      slots := h.slots.set n e, slotRun := h.slotRun.set n r
      busI2c := if h.busI2c = cutBus h.i2cHeld t n i2c then i2c else h.busI2c
      busSpi := if h.busSpi = cutBus false t n spi then spi else h.busSpi
      done := if h.done = done.filter (fun b => b.tx.slot != n) then done else h.done }
  | .desc n e => { h with descs := h.descs.set n e }
  | .det n e r irqs => { h with dets := h.dets.set n e, detRun := h.detRun.set n r, irqBy := irqs }

/-- HUB_CFG aborts: a request that Clove had latched is carried out, one that it had not is not, and the abort flag is set
with the request's identity (R82, R85). -/
def abortHubCfg (s : State) : State :=
  match s.rst.raHub with
  | none => s
  | some (q, e) =>
    let (open', s) := inHandshake s q
    if !open' then s else
    let (latched, s) := drawBit s
    { s with rst := { s.rst with abHubCfg := some q.opcode }, hub := if latched then s.hub else restoreHub s.hub q.time e }

/-- SEQ_REQ aborts, its flag set with the request's identity: a request that Clove had latched is carried out, one that it had not
is not. One on which Clove has acted since was latched (R82, R85; log entry 13). -/
def abortSeqReq (s : State) : State :=
  match s.rst.raSeq with
  | none => s
  | some (q, old, new) =>
    let (open', s) := inHandshake s q
    if !open' then s else
    let s := { s with rst := { s.rst with abSeqReq := some q.opcode } }
    if seqSide s ≠ new then s else
    let (latched, s) := drawBit s
    if latched then s else putSeqSide s old

/-- OTP_RD aborts: a read under way in Clove completes and its data is discarded (R82, R85). -/
def abortOtpRd (s : State) : State :=
  match s.rst.raOtp with
  | none => s
  | some q =>
    let (open', s) := inHandshake s q
    if open' then { s with rst := { s.rst with abOtpRd := some q.opcode } } else s

/-- The RA crossings between the core and Clove as the main domain is reset (R82). -/
def abortCrossings (s : State) : State :=
  let s := abortSeqNvm (abortOtpRd (abortSeqReq (abortHubCfg s)))
  { s with rst := { s.rst with raHub := none, raSeq := none, raOtp := none } }

/-- The order of the reset table: where causes coincide, the first stands; while Clove holds the domain for an integrity
failure it is OTP_INTEG whatever else resets (R80). -/
def firstCause (s : State) (cause : Byte) : Byte :=
  if s.rst.causeOpen ∧ s.rst.cause.toNat < cause.toNat then s.rst.cause else cause

def joinCause (s : State) (cause : Byte) : Byte := if s.rst.otpHold then 0x09 else firstCause s cause

/-- A reset that covers the main domain but not Clove (R19, R20, R74, R76, R78): Reed serves the host port in BOOT
(R106), RSTOUT_N falls for at least SYS_RSTOUT_MIN, counted anew from each reset (DESIGN CHOICE, log entry 124). The power
state, the rails and a move to HIBERNATE stay as they are until the release (R75; DEDUCED, log entry 31). In HIBERNATE the
domain has no power and only the cause is kept. -/
def mainReset (s : State) (cause : Byte) : State :=
  let s := { s with rst := { s.rst with cause := joinCause s cause, causeOpen := true } }
  if s.pwr.st = .hibernate then s else
  let s := mainLost (abortCrossings s)
  { s with
    rst := { s.rst with main := .held, testHold := false, rstoutHigh := false, rstoutMin := true }
    reed := { s.reed with owns := true, boot := true, handover := false, takeback := false } }

/-! ### Jobs and conditions for an entry (R32, R92 to R94) -/

/-- A calibration runs, or an NVM write is in progress (R92, R495). -/
def workRuns (s : State) : Bool :=
  (running s 0x0601).isSome || s.cal.store.isSome || s.seq.writing.isSome || s.seq.holdup.isSome

/-- R92: no job but HELD and INTERRUPTED ones, no calibration that runs, no NVM write in progress. -/
def dozeAllowed (s : State) : Bool := !anyJob s [.queued, .rendering, .ready, .printing, .cutting] && !workRuns s

/-- Nothing is to be done: the idle timers run only then. -/
def idle (s : State) : Bool :=
  dozeAllowed s && !anyJob s [.interrupted] && s.saf.actions.isEmpty && s.motion.stubs.isEmpty

/-- USB lets the part into NAP: detached, without VBUS, or suspended (R93). -/
def usbAllowsNap (s : State) : Bool := !s.usb.attached || !s.usb.vbus || s.usb.suspended

/-- A raster job is unfinished (R32, R94). -/
def rasterUnfinished (s : State) : Bool := s.jobs.live.any (·.raster)

/-- Bytes of the retained pool that the description jobs take which are QUEUED or HELD, or will be before the entry: their
descriptions (R31, R94). -/
def retainedBytes (s : State) : Nat :=
  ((s.jobs.live.filter (fun j => !j.raster && j.st != .printing && j.st != .cutting)).map (fun j => j.desc.length)).foldl
    (· + ·) 0

def retainedPool : Nat := 524288

/-! ### Entry (R95 to R98) -/

/-- PSTATE to every context with a session or an attached link (R326, R327). -/
def notifyPstate (s : State) (st : Nat) (reason : Nat) : State :=
  notifyWhere s (attached s) 0x8004 ([b8 st, b8 reason, 0, 0] ++ b48 (now s).toNat ++ [0, 0])

/-- The wake registers start afresh at the commit point, and collect by the mask of the state entered (R101). -/
def freshWake (s : State) (entry : Byte) : State :=
  { s with pwr := { s.pwr with
      wakeCause := 0, wakeTime := 0, wakeSeen := false, reedCap := 0, reedRefused := 0, entryState := entry
      collect := some (entry == 3), moveDue := false } }

/-- Reed is to take the host port at the first STOP, in LISTEN; a take-back that waits is off (R106, R107). -/
def toReed (r : Reed) : Reed := { r with handover := !r.owns, takeback := false, boot := false }

/-- The main domain has no power: XO25 stops, and RSTOUT_N falls, for SYS_RSTOUT_MIN at least (R70, R78). -/
def unpowered (r : Rst) : Rst :=
  { r with main := .held, rstoutHigh := false, rstoutMin := true, xo25Run := false, hibWake := false }

/-- The sled may move: it is homed, its motor enabled and DISCH released (R412, R414, R415). -/
def sledReady (s : State) : Bool := s.motion.sledPos.isSome && !s.motion.disabled.toNat.testBit 2 && !s.saf.disch

/-- The head is capped, or the sled can cap it now, for it may move and is idle (R415, R459). -/
def capReady (s : State) : Bool :=
  s.motion.capped || (sledReady s && s.noz.scan.isNone && s.noz.service.isNone && !headEnergyRuns s)

/-- The head is capped before every DOZE (R91, R401, R459). -/
def capForEntry (s : State) : State :=
  if s.motion.capped then s
  else sledTo { s with motion := { s.motion with capped := true, capTime := now s } } (pv s.params 0x0733)

/-- DOZE begins with the head capped; until it can be, the entry waits (R459). -/
def enterDoze (s : State) : State :=
  if capReady s then enterPstate (capForEntry { s with pwr := { s.pwr with dozeDue := false } }) .doze
  else { s with pwr := { s.pwr with dozeDue := true } }

/-- The response of the command that asked for the entry, by its sequence number. -/
def isEntryReply (seq : Half) (f : OutFrame) : Bool := !isNotif f && f.opcode == 0x0501 && f.seq == seq

/-- The unread response of the PWR_STATE_SET that asked for an entry is dropped when the entry begins; every other frame stays (R236,
R304). Its cache entry stays incomplete, so that a resend of that request gets no answer (DEDUCED, log entry 194). -/
def dropReply (s : State) (e : Entry) : State :=
  match e.req with
  | none => s
  | some (c, seq) =>
    let head := ((ctxOf s c.val).out.head?).any (isEntryReply seq)
    let s := modCtx s c.val (fun x => { x with out := x.out.filter (fun f => !isEntryReply seq f) })
    if c.val = 1 && head then { s with port := { s.port with outPos := 0 } } else s

/-- NAP commit (R95, R96, R106, R114, R116, R367): Cehole's last warm-start writes, the rails, the port; contexts 4 to 11
start empty. UART_TX and UART_RTS stay driven (DESIGN CHOICE, log entry 183), and the TAP keeps its instruction (DESIGN CHOICE, log
entry 187). -/
def napCommit (s : State) (e : Entry) : State :=
  let s := closeConns s (fun _ => true)
  let s := closeDebug s
  let s := ((s.jobs.live.filter (fun j => decide (j.st = .ready) || (j.reprintDue && decide (j.st = .interrupted)))).map
    (·.id)).foldl requeue s
  let s := { s with jobs := { s.jobs with interrupted := [] } }
  let s := storeCounters s
  let s := if s.noz.dirty then writeMap s else s
  let s := releaseCharger s
  let s := freshWake (enterPstate s .nap) 2
  let s := { s with
    rst := { s.rst with main := .asleep }
    net := { State.reset.net with backoffs := s.net.backoffs }
    uart := { s.uart with rx := [], rxBad := false }
    ctxs := s.ctxs.take 4 ++ List.replicate 8 Ctx.fresh
    saf := { s.saf with allocKept := true, ticket := none, awaiting := none }
    reed := toReed s.reed
    pwr := { s.pwr with
      entry := none, napJobs := anyJob s [.queued, .held], napDiscard := e.discard, napLimit := e.napLimit
      moving := false, railsFull := false } }
  startPartial s (BitVec.ofNat 8 (pv s.params 0x0408))

/-- The hub stops its schedule once the transactions in progress have completed; no other begins. A wait-for-fall check goes on
(R98, R462; log entry 65). -/
def stopHub (s : State) : State :=
  let i2c := s.hub.busI2c.filter (fun x => x.started || x.retries != 0)
  let spi := s.hub.busSpi.filter (·.started)
  let more := s.hub.running && (!i2c.isEmpty || !spi.isEmpty || !s.hub.done.isEmpty)
  { s with hub := { s.hub with running := more, stopping := more, busI2c := i2c, busSpi := spi } }

/-- The hub restarts from its first tick with a restart record, and clears every filter and detector state, with the DISCH
that detectors asserted (R462, R366); what is held for Cehole stands (R487).
`aux` is the record's AUX. -/
def restartHub (s : State) (aux : Half) : State :=
  dropReason { s with hub := { s.hub with
      running := true, stopping := false, restartAux := aux, restartDue := true
      busI2c := [], busSpi := [], i2cHeld := true, done := []
      slotRun := s.hub.slotRun.map (fun r => { SlotRun.rest with lost := r.lost, lossAt := r.lossAt })
      detRun := s.hub.detRun.map (fun d => { DetRun.rest with noteAt := d.noteAt, held := d.held, heldNote := d.heldNote, heldLog := d.heldLog })
      latest := s.hub.latest.map (fun r => { r with valid := false }) } } 1

/-- The rails of PWR_HIB_RAILS_OFF: a mask of 0xFF runs the full shutdown (R96, R134). -/
def hibRails (s : State) : State :=
  let m := pv s.params 0x0409
  if m = 0xFF then offRequest { s with pwr := { s.pwr with railsFull := true } }
  else startPartial s (BitVec.ofNat 8 m)

/-- HIBERNATE commit from DOZE (R33, R95, R97, R115, R116, R462): jobs are discarded, DISCH rises, the hub stops, the main
domain loses power and Reed takes the port. -/
def hibCommit (s : State) : State :=
  let s := closeConns s (fun _ => true)
  let s := storeCounters s
  let s := if s.noz.dirty then writeMap s else s
  let s := freshWake (enterPstate s .hibernate) 3
  let s := mainLost (assertDisch s 4)
  let s := stopHub s
  let s := { s with
    rst := unpowered s.rst
    saf := { s.saf with allocKept := true }
    reed := toReed s.reed
    pwr := { s.pwr with moving := false, railsFull := false } }
  hibRails s

/-- The commit point of the move from NAP to HIBERNATE: the retained pool loses power, and the jobs in it are lost (R98). -/
def moveCommit (s : State) : State :=
  let s := freshWake (enterPstate s .hibernate) 3
  let s := mainLost s
  { s with rst := unpowered s.rst, pwr := { s.pwr with moving := false }, reed := { s.reed with boot := false } }

/-- Clove starts the move from NAP to HIBERNATE once the hub has stopped (R98, steps 2 and 3). -/
def startMove (s : State) : State :=
  let s := assertDisch s 4
  hibRails { s with pwr := { s.pwr with moveDue := false } }

/-- What holds an entry that has begun: a PRINTING or CUTTING job, and what keeps the part out of DOZE; for NAP a RENDERING
job, an unfinished raster job, or more descriptions than the retained pool takes, admitted since the request was judged (R32,
R92, R94; DESIGN CHOICE, log entry 125). -/
def entryHeld (s : State) (e : Entry) : Bool :=
  ticketActive s || workRuns s || s.saf.actions.any (·.started) || !capReady s ||
  (!e.hib && (anyJob s [.rendering] || rasterUnfinished s || decide (retainedPool < retainedBytes s)))

/-- A DOZE that waits for the cap is entered, and an entry runs to its commit point once the response has been read or dropped
and nothing holds it (R95, R304). -/
def tryEnter (s : State) : State :=
  let s := if s.pwr.dozeDue && dozeAllowed s && capReady s && decide (s.pwr.st = .run) then enterDoze s else s
  match s.pwr.entry with
  | none => s
  | some e =>
    if !e.begun || entryHeld s e then s else
    let s := dropReply s e
    let s := notifyPstate s (if e.hib then 3 else 2) (if e.req.isSome then 0 else 1)
    let s := enterDoze s
    if e.hib then hibCommit s else napCommit s e

/-! ### Wake (R95, R99 to R101) -/

def wakeMask (s : State) (hib : Bool) : Nat := pv s.params (if hib then 0x0405 else 0x0404)

/-- The rails that an entry switched off come up: by a full up-sequence where a full shutdown took them; none in FAULT_OFF
(R96). -/
def railsUp (s : State) : State :=
  if s.pwr.railsFull ∧ s.seq.ph ≠ .faultOff then onRequest { s with pwr := { s.pwr with railsFull := false } }
  else startPartialUp { s with pwr := { s.pwr with railsFull := false } }

/-- A wake from NAP: Reed goes to BOOT and the rails come up; warm-ready follows (R96, R100, R110). -/
def startNapWake (s : State) : State :=
  if s.rst.main ≠ .asleep then s else
  railsUp { s with rst := { s.rst with main := .waking }, reed := { s.reed with boot := true } }

/-- A wake from HIBERNATE: Clove is awake, the hub restarts, Reed goes to BOOT and the rails come up; the main domain
starts cold, with XO25 as soon as VIO is good (R70, R96, R100, R110, R462). -/
def startHibWake (s : State) : State :=
  let s := restartHub (enterPstate (passPart s) .run) 1
  railsUp { s with
    rst := { s.rst with hibWake := true, wdtRun := false, xo25Run := s.rst.vioGood }
    reed := { s.reed with boot := true } }

/-! ### Clove's own start (R51, R75, R79, R118, R165, R168) -/

/-- The 32 words that Clove reads at its start: LIFECYCLE, LOCKS, KEYDIG, words 76 to 78 and 108. -/
def startUpWords : List Nat := List.range 28 ++ [76, 77, 78, 108]

/-- Each single-bit correction is counted, and logged the first time in a power cycle for its word (R157). What the part reads back
while it programs counts none (DESIGN CHOICE, log entry 179). -/
def noteReads (s : State) (words : List Nat) : State :=
  words.foldl (fun s i =>
    let w := otpRaw s.otp i
    if !w.corrects || decide (w.cond = .blank) then s else
    let s := { s with otp := { s.otp with corrected := satAdd32 s.otp.corrected 1 } }
    if s.otp.corrLogged.contains i then s else
    logEvent { s with otp := { s.otp with corrLogged := s.otp.corrLogged ++ [i] } } 0x0110 [b8 i]) s

/-- The deglitch count: the largest for which it and 4 AO cycles fit in t_DG + 0.5 us at the lowest frequency of the
AO band (R71, R89). -/
def deglitchFor (s : State) (trimmed : Bool) : Nat :=
  (250 * pv s.params 0x050A + 500) * (if trimmed then 7920000 else 7760000) / 1000000000 - 4

/-- AO-RC starts with word 108's coarse code, or at mid-code where the word is not VALID (R168, R505). -/
def startCode (o : Otp) : Int :=
  match otpValid o 108 with
  | some d => Config.aoStart d
  | none => 0

/-- Clove comes out of its reset: the start-up words are read and judged, the boot table is loaded, the ceiling detector
is armed, the hub restarts, Reed serves the host port, and the rails come up where SEQ_AUTO_ON asks for it. -/
def cloveStart (s : State) (aux : Half) : State :=
  let hold := integrityFails s.otp
  let trimmed := s.clk.trimmed || decide (otpCond s.otp 108 = .valid)
  let s := { s with
    rst := { s.rst with
      otpHold := hold, otpClean := !hold, cause := if hold then 0x09 else s.rst.cause, main := .held
      rstoutHigh := false, rstoutMin := true, causeOpen := true, xo25Run := s.rst.vioGood }
    clk := { s.clk with trimmed := trimmed, deglitch := deglitchFor s trimmed }
    reed := { s.reed with owns := true, boot := true }
    pwr := { s.pwr with st := .run }
    seq := { s.seq with cfg := bootCfg s.otp, droneLow := true } }
  let s := restartHub (deriveTrip (noteReads s startUpWords)) aux
  if s.seq.cfg.autoOn ∧ !hold then onRequest s else s

/-- A full-scope reset after its shutdown: everything but the latched address, the job-ID counter, DISCH_HOLD and what
lasts for a power cycle starts again; SEQ_MIN_OFF still runs (R75, R115, R124, R306). AO-RC's trim and what Clove knows of
XO32 count from VAO good, and stand, and so does a clock failure until CLKFAIL_RETRY finds the clocks good (R71 to R73); the RTC, which
starts at 0, counts as not set (DEDUCED, log entry 89). A cause of an earlier row that still holds the main domain stands (R80). The rails start again where SEQ_AUTO_ON has them (DESIGN CHOICE, log entry 174), also out of FAULT_OFF with
VINFAIL low (DESIGN CHOICE, log entry 175). -/
def fullReset (s : State) : State :=
  let s := mainLost s
  let r := State.reset
  cloveStart
    { r with
      rst := { r.rst with
        vaoGood := s.rst.vaoGood, vioGood := s.rst.vioGood, vddaGood := s.rst.vddaGood, hostAddr := s.rst.hostAddr
        clockHold := s.rst.clockHold
        cause := firstCause s 0x07 }
      clk := { s.clk with hubTime := 0, rtc := 0, rtcSet := false, rtcAlarm := 0, acc := 0, secUs := 0 }
      pwr := { r.pwr with wkLevel := s.pwr.wkLevel }
      usb := { r.usb with vbus := s.usb.vbus }
      uart := { r.uart with ctsHigh := s.uart.ctsHigh }
      jobs := { r.jobs with nextId := s.jobs.nextId }
      saf := { r.saf with hold := s.saf.hold, reasons := if s.saf.hold then 0x0040 else 0 }
      seq := { r.seq with minOffRun := s.seq.minOffRun, vinLow := s.seq.vinLow }
      motion := motionRestarted s
      otp := { s.otp with shadows := [], nonceEntry := none, nonceCore := none }
      nvm := s.nvm
      pending := s.pending } 2

/-- The move from NAP reaches its commit point once its shutdown has ended (R98). -/
def commitMove (s : State) : State := if s.seq.ph = .down ∨ s.seq.due ≠ 0 then s else moveCommit s

/-- The move from NAP goes on: its second step waits for the hub, which first completes its bus transaction (R98, R462). -/
def moveOn (s : State) : State :=
  if !s.pwr.moveDue then commitMove s else if s.hub.stopping then s else commitMove (startMove s)

/-- What waits for a sequence to end goes on: a partial shutdown, a full-scope reset, the move from NAP and its commit, and a
latched wake, which from HIBERNATE waits for the hub too (R75, R95, R96, R98, R462). -/
def powerDue (s : State) : State :=
  let s := partialDue s
  if s.seq.ph = .down ∨ s.seq.due ≠ 0 then s else
  if s.rst.fullPend then fullReset s else
  if s.pwr.moving then moveOn s
  else if !s.pwr.wakeSeen then
    (if s.pwr.moveDue && decide (s.pwr.st = .nap) && decide (s.rst.main = .asleep) then
      moveOn (stopHub { s with pwr := { s.pwr with moving := true } }) else s)
  else if s.pwr.st = .nap then startNapWake s
  else if s.pwr.st = .hibernate ∧ !s.hub.stopping then startHibWake s
  else s

/-- A source is recorded; WAKE_TIME is the time of the first (R101). -/
def recordWake (s : State) (bit : Nat) : State :=
  let s := passPart s
  { s with pwr := { s.pwr with
      wakeCause := s.pwr.wakeCause ||| BitVec.ofNat 16 (2 ^ bit)
      wakeTime := if s.pwr.wakeSeen then s.pwr.wakeTime else now s
      wakeSeen := true } }

/-- A wake before commit cancels the entry: the part is back in DOZE, or stays in RUN where a job is being worked on
(R95). -/
def cancelEntry (s : State) : State :=
  let s := { s with pwr := { s.pwr with entry := none } }
  if dozeAllowed s then enterDoze s else s

/-- A wake source fires (R95, R98 to R101, R131): in FAULT_OFF a source set in PWR_WAKE_MASK_HIB, other than the
sequencer's, is an on request in any power state. -/
def wakeSource (s : State) (bit : Nat) : State :=
  let s := if s.seq.ph = .faultOff ∧ bit ≠ 11 ∧ (wakeMask s true).testBit bit then onRequest s else s
  match s.pwr.collect with
  | some hib =>
    if !(wakeMask s hib).testBit bit then s else
    let s := recordWake s bit
    let s := if s.pwr.moving then
        { s with pwr := { s.pwr with moving := false, moveDue := false }
                 hub := { s.hub with running := true, stopping := false } } else s
    powerDue s
  | none =>
    match s.pwr.entry with
    | some e => if (wakeMask s e.hib).testBit bit ∧ !ticketActive s then cancelEntry s else s
    | none => s

/-- A wake source that is work of the core as well: it cancels an entry, and takes the part from DOZE to RUN (R95, R99). -/
def wakeWork (s : State) (bit : Nat) : State :=
  let s := wakeSource s bit
  if coreRuns s then wakeDoze s else s

/-- Reed hears an address byte in LISTEN. On a match it refuses: REED_CAP, REED_REFUSED and the wake request; any other
address is ignored (R38, R108, R109). -/
def reedHears (s : State) (addr : Byte) : State :=
  if !s.reed.owns ∨ s.reed.boot then s else
  let s := { s with reed := { s.reed with st := .idle, startFlag := false, bitCount := 8, shift := addr } }
  if addr.toNat / 2 ≠ s.rst.hostAddr.toNat then s else
  let s := { s with pwr := { s.pwr with
    reedCap := if s.pwr.reedRefused = 0 then addr else s.pwr.reedCap
    reedRefused := if s.pwr.reedRefused = 0xFF then 0xFF else s.pwr.reedRefused + 1 } }
  wakeSource s 6

/-- Cehole reads the wake registers at warm-ready or READY and clears WAKE_CAUSE (R101). -/
def readWake (s : State) : State :=
  let s := if s.pwr.wakeSeen then logEvent s 0x0402 (b16 s.pwr.wakeCause.toNat ++ [s.pwr.entryState]) else s
  { s with pwr := { s.pwr with
      lastCause := if s.pwr.wakeSeen then s.pwr.wakeCause else s.pwr.lastCause, wakeCause := 0, wakeSeen := false
      collect := none } }

/-- The PHY's own gate, at READY and warm-ready: on where NET_ENABLE is 1; off, the PHY alone is in reset, with no link (R17,
R70, R74; DEDUCED, log entry 145). -/
def phyGate (s : State) : State :=
  { s with net := { s.net with phyOn := pv s.params 0x0D01 == 1, up := false, hundred := false, full := false } }

/-- The attach pull-up: only at READY, with USB_VBUS high and USB_ENABLE at 1 (R67, R104, R199). -/
def usbAttach (s : State) : State :=
  if s.usb.vbus && pv s.params 0x0220 == 1 then { s with usb := { s.usb with attached := true } } else s

/-! ### Allocation at READY and warm-ready (R116, R142, R368, R369) -/

/-- The class pins are read; an allocation kept in always-on SRAM stands until a source gives a new one. -/
def readClassPins (s : State) (pins : BitVec 3) : State :=
  let s := { s with saf := { s.saf with pdCls := pins, classAlloc := classAllocation pins } }
  if s.saf.allocKept then { s with saf := { s.saf with allocKept := false } } else updateAllocation s

end Sys2Proof.Machine
end

