-- ==== Sys2Proof/Machine/Operands.lean ====
section
/-! DEFINITION. The forms in which commands take their operands: replies, the judging of a payload's length and fields
(R277 to R279), the rights each opcode needs (R243, R281), and the wire forms of frames, stuffing and PEC. -/

namespace Sys2Proof.Machine

/-- A command's answer: its status and payload, and whether the session or connection ends once it is sent. -/
structure Reply where
  status : Nat
  payload : List Byte
  ends : Bool              -- a session ends once the response has gone out (R323): the requester's own
  whose : Option Nat       -- or that of the network context named here
deriving DecidableEq, Repr

def Reply.ok (p : List Byte) : Reply := ⟨stOk, p, false, none⟩
def Reply.accepted (p : List Byte) : Reply := ⟨stAccepted, p, false, none⟩
/-- OK, after which a session ends: the requester's own, or that of a context named (R323). -/
def Reply.ending (whose : Option Nat) : Reply := ⟨stOk, [], true, whose⟩
/-- A refusal with an empty payload (R279). -/
def Reply.no (status : Nat) : Reply := ⟨status, [], false, none⟩
/-- RANGE with the offset or parameter ID of what failed (R279). -/
def Reply.range (field : Nat) : Reply := ⟨stRange, b16 field, false, none⟩
/-- FAULT with its detail (R279). -/
def Reply.fault (detail index : Nat) : Reply := ⟨stFault, faultDetail detail index, false, none⟩

/-- A command's own checks and execution, admission step 12. -/
abbrev Handler := Req → State → Reply × State

/-- Length first, then the failing field with the lowest offset, then what the command does (R278, R279). The checks are
in ascending offset; each holds where the field is acceptable. -/
def judge (s : State) (lenOk : Bool) (checks : List (Nat × Bool)) (run : State → Reply × State) : Reply × State :=
  if !lenOk then (Reply.no stBadLength, s)
  else match firstFail checks with
    | some off => (Reply.range off, s)
    | none => run s

/-- A payload of exactly `n` bytes. -/
def exactly (p : List Byte) (n : Nat) : Bool := p.length == n

/-- A reserved field of `len` bytes at `off` is zero (R277). -/
def reservedAt (p : List Byte) (off len : Nat) : Nat × Bool := (off, slice p off len == zeros len)

/-! ### Rights and opcodes (R243, R281, the command tables) -/

/-- The right an opcode needs: the inner none for an opcode that needs none, the outer none for an unknown one. For
PARAM_WRITE the rights are the entries' own (R251), and RETURN_CHALLENGE needs none. -/
def opRight (op : Nat) : Option (Option Nat) :=
  if op ∈ [0x0101, 0x0103, 0x0104, 0x0106, 0x0201, 0x0202, 0x0206, 0x0502, 0x0505, 0x0602, 0x0705, 0x0707, 0x0801,
    0x0907, 0x0909, 0x0A01, 0x0A04, 0x0A07, 0x0A08, 0x0B01, 0x0B02, 0x0B03, 0x0B04, 0x0C02] then some none
  else if op ∈ [0x0301, 0x0302, 0x0303, 0x0304, 0x0305, 0x0306, 0x0307, 0x0308] then some (some rPrint)
  else if op ∈ [0x0401, 0x0402, 0x0406, 0x0407, 0x0408, 0x040A] then some (some rHubRead)
  else if op ∈ [0x0403, 0x0404, 0x0405, 0x0409] then some (some rHubConfig)
  else if op ∈ [0x0203, 0x0204, 0x0207] then some (some rParam)
  else if op ∈ [0x0102, 0x0105, 0x0501, 0x0503, 0x0504, 0x0506, 0x0507, 0x0803, 0x0804] then some (some rPower)
  else if op ∈ [0x0601, 0x0603] then some (some rCalib)
  else if op ∈ [0x0701, 0x0702, 0x0703, 0x0704, 0x0706, 0x0802] then some (some rMaint)
  else if op ∈ [0x0A02, 0x0A03, 0x0A05, 0x0A06] then some (some rStorage)
  else if op ∈ [0x0205, 0x0805, 0x0901, 0x0902, 0x0903, 0x0904, 0x0905, 0x0906, 0x0908, 0x0A09] then some (some rSecurity)
  else if op ∈ [0x0B05, 0x0C01] then some (some rAdmin)
  else none

/-- The opcodes that consume each fragment as it arrives (R231). -/
def streamed (op : Nat) : Bool := op == 0x0302 || op == 0x0A05 || op == 0x0A09

/-! ### Lifecycle and OTP locks (R172, R243) -/

/-- Words that OTP_PROGRAM may write: KEYDIG slots 1 to 3, 5 and 6, words 76 to 83, the allotted slot area. -/
def mayProgram (i : Nat) : Bool :=
  (decide (14 ≤ i ∧ i < 20)) || decide (22 ≤ i ∧ i < 26) || decide (76 ≤ i ∧ i < 84) || decide (125 ≤ i ∧ i < 197)

/-- A word of the request is locked: not BLANK, in a sealed region, or in FIELD a slot word under WL_CALIB_SLOT (R172). -/
def writeLocked (o : Otp) (i : Nat) : Bool :=
  decide (otpCond o i ≠ .blank) || sealed o (otpRegion i) || (otpRegion i == 6 && wlCalibSlot o && lifecycle o == 2)

/-- The word of the next lock set: none once LOCK_FINAL is in force or all four are used (R162). -/
def nextLockSet (o : Otp) : Option Nat :=
  if lockFinal o then none else [8, 9, 10, 11].find? (fun i => decide (otpCond o i = .blank))

/-- The entry of a state code. -/
def entryOf (code : Byte) : Option Nat :=
  if code = 0x5A then some 0 else if code = 0xA5 then some 1 else if code = 0x3C then some 2
  else if code = 0xC3 then some 3 else none

/-- The listed origins of a transition (R175). -/
def transitionFrom (entry : Nat) (lc : Nat) : Bool :=
  if entry = 0 then lc == 0 else if entry = 1 then lc == 1 else if entry = 2 then lc == 2 else lc != 4

/-- The words that OTP_PROGRAM's payload names. -/
def namedWords (p : List Byte) : List Nat := (List.range (fieldAt p 1 1)).map (· + fieldAt p 0 1)

/-- The lifecycle states in which an opcode is allowed at all, whatever it is given (R170, R172). -/
def lifecyclesOf (op : Nat) : List Nat :=
  if op = 0x0902 then [0, 1, 2, 3]
  else if op = 0x0903 ∨ op = 0x0904 ∨ op = 0x0906 then [0, 1]
  else if op = 0x0905 then [0, 1, 2]
  else [0, 1, 2, 3, 4]

/-- An OTP lock that forbids an opcode whatever it is given: no lock set is left, NO_SHADOW, no usable patch key (R162, R164,
R170, R321). -/
def lockForbids (o : Otp) (op : Nat) : Bool :=
  if op = 0x0905 then (nextLockSet o).isNone
  else if op = 0x0906 then noShadow o
  else if op = 0x0A09 then (keydig o 0).isNone
  else false

/-- What RETURN leaves of SECURITY: the transition to SCRAP, slot programming and reads (R178). -/
def returnAllows (op : Nat) (p : List Byte) : Bool :=
  op == 0x0901 || (op == 0x0908 && byteAt p 0 == 0xC3) || (op == 0x0902 && (namedWords p).all (fun i => otpRegion i == 6))

/-- The lifecycle forbids the operation that the payload names (R172, R175, R176, R178). Words that OTP_PROGRAM never writes
are a matter of RANGE (R315). -/
def lifecycleBars (lc op : Nat) (p : List Byte) : Bool :=
  (lc == 3 && opRight op == some (some rSecurity) && !returnAllows op p) ||
  (if op = 0x0902 then (namedWords p).all mayProgram && lc == 2 && !(namedWords p).all (fun i => otpRegion i == 6)
   else if op = 0x0908 then (match entryOf (byteAt p 0) with
     | some k => !transitionFrom k lc
     | none => false)
   else if op = 0x0909 then byteAt p 0 == 1 && lc != 2 || (byteAt p 0 == 2 || byteAt p 0 == 3) && lc != 3
   else false)

/-- An OTP lock, a seal or a word that is not BLANK forbids the operation that the payload names (R155, R159, R162, R170, R243,
R316). The read locks stop OTP_READ only where it comes upon the word (R163), and a COUNT out of range is
RANGE (R278). -/
def lockBars (o : Otp) (op : Nat) (p : List Byte) : Bool :=
  if op = 0x0601 then decide (1 ≤ fieldAt p 0 1 ∧ fieldAt p 0 1 ≤ 6) && (byteAt p 2).toNat.testBit 0 && wlCalibSlot o && lifecycle o == 2
  else if op = 0x0902 then decide (1 ≤ fieldAt p 1 1 ∧ fieldAt p 1 1 ≤ 8) && (namedWords p).all mayProgram && (namedWords p).any (writeLocked o)
  else if op = 0x0903 then
    match secretWord (fieldAt p 0 1) with
    | some w => writeLocked o w || writeLocked o (w + 1)
    | none => false
  else if op = 0x0904 then (fieldAt p 0 1 == 2 || fieldAt p 0 1 == 3 || fieldAt p 0 1 == 4) && sealed o (fieldAt p 0 1)
  else if op = 0x0906 then !shadowable o (fieldAt p 0 1)
  else if op = 0x0908 then byteAt p 0 == 0x3C && noReturn o ||
    ((entryOf (byteAt p 0)).map (fun k => decide (otpCond o k ≠ .blank ∧ otpCond o (k + 4) ≠ .blank))).getD false
  else false

/-- Why the operation that a payload names is forbidden, if it is: the lifecycle of its admission, then the locks as they stand
(R163, R243, R246). -/
def forbidden (o : Otp) (lc op : Nat) (p : List Byte) : Option Nat :=
  if lifecycleBars lc op p then some stLifecycle else if lockForbids o op || lockBars o op p then some stLocked else none

/-- As `judge`, for an opcode whose operands the lifecycle or a lock may forbid: that is looked at once the length is right,
since no content is judged before it (R243, R278; DEDUCED, log entry 129). `lc` is the lifecycle at the request's admission. -/
def judgeLocked (s : State) (lc op : Nat) (p : List Byte) (lenOk : Bool) (checks : List (Nat × Bool))
    (run : State → Reply × State) : Reply × State :=
  if !lenOk then (Reply.no stBadLength, s)
  else match forbidden s.otp lc op p with
    | some st => (Reply.no st, s)
    | none => judge s true checks run

/-- The commands on a job: PRINT for the context's own, RIGHTS_ADMIN for another's (R243, R297). Which of the two it is `onJob` judges,
where the job is known; step 10 asks for either. -/
def onJobs (op : Nat) : Bool := op == 0x0303 || op == 0x0304 || op == 0x0305 || op == 0x0306 || op == 0x0308

/-- Admission step 10: the right in force, then the lifecycle and the OTP locks as far as the opcode alone decides (R177, R178,
R243; DEDUCED, log entry 129). On a connection without a session only SYS_IDENT, SESSION_OPEN and SESSION_PROVE are accepted
(R209). -/
def rightCheck (s : State) (mask : Half) (unopened : Bool) (op : Nat) (right : Option Nat) : Option Nat :=
  if lifecycle s.otp = 4 then (if op = 0x0101 ∨ op = 0x0907 then none else some stLifecycle)
  else if unopened then (if op = 0x0101 ∨ op = 0x0B01 ∨ op = 0x0B02 then none else some stNoRight)
  else
    let held := match right with
      | none => none
      | some r =>
        if !hasBit mask r && !(onJobs op && hasBit mask rAdmin) then some stNoRight
        else if r = rSecurity ∧ lifecycle s.otp = 3 ∧ op ∉ [0x0901, 0x0902, 0x0908] then some stLifecycle
        else none
    match held with
    | some st => some st
    | none =>
      if !(lifecyclesOf op).contains (lifecycle s.otp) then some stLifecycle
      else if lockForbids s.otp op then some stLocked else none

/-! ### Wire forms -/

/-- A frame from its fields: header with HCRC, payload, FCRC, and the tag where the context is keyed (R219, R211). -/
def frameBytes (context alive flags : Nat) (op seq status : Nat) (payload : List Byte) (key : Option (List Byte)) : List Byte :=
  let flags := flags + (if key.isSome then 8 else 0)
  let head := withCrc16 ([0x4E, 0x4C, 0x02, b8 context, b8 alive, b8 flags] ++ b16 op ++ b16 seq ++ b16 payload.length ++ b16 status)
  let body := withCrc32c (head ++ payload)
  match key with
  | some k => body ++ (hmac k body).take 8
  | none => body

/-- The fields of a received frame's header. -/
structure Header where
  version : Nat
  context : Nat
  alive : Byte
  flags : Nat
  opcode : Nat
  seq : Half
  length : Nat
deriving DecidableEq, Repr

def headerOf (bs : List Byte) : Header :=
  { version := fieldAt bs 2 1, context := fieldAt bs 3 1, alive := byteAt bs 4, flags := fieldAt bs 5 1
    opcode := fieldAt bs 6 2, seq := BitVec.ofNat 16 (fieldAt bs 8 2), length := fieldAt bs 10 2 }

/-- Step 1: SYNC and HCRC. -/
def headerOk (bs : List Byte) : Bool :=
  decide (16 ≤ bs.length) && byteAt bs 0 == 0x4E && byteAt bs 1 == 0x4C && slice bs 14 2 == b16 (crc16 (bs.take 14)).toNat

/-- The byte count that LENGTH and TAG give. -/
def Header.total (h : Header) : Nat := 20 + h.length + (if h.flags.testBit 3 then 8 else 0)

/-- Unstuff the body between two flags; 0x7D before a flag aborts (R195, R196). -/
def unstuff : List Byte → Option (List Byte)
  | [] => some []
  | [b] => if b = 0x7D then none else some [b]
  | b :: c :: rest =>
    if b = 0x7D then
      if c = 0x7E then none else (unstuff rest).map ((c ^^^ 0x20) :: ·)
    else (unstuff (c :: rest)).map (b :: ·)

/-- Byte stuffing (R195). -/
def stuff (bs : List Byte) : List Byte := bs.flatMap (fun b => if b = 0x7E ∨ b = 0x7D then [0x7D, b ^^^ 0x20] else [b])

/-- A mailbox frame as a link frame: a flag, the stuffed frame and link check, a flag (R195). -/
def linkFrame (f : List Byte) : List Byte := 0x7E :: stuff (f ++ b16 (crc16 f).toNat) ++ [0x7E]

/-- The PEC of a write: CRC-8 over the address byte, the pointer and the data (R186). -/
def pecOf (s : State) (ptr : Byte) (data : List Byte) : Byte :=
  crc8 (b8 (2 * s.rst.hostAddr.toNat) :: ptr :: data)

end Sys2Proof.Machine
end

