-- ==== Sys2Proof/Machine/MailboxOps.lean ====
section
/-! DEFINITION. The mailbox as shared operations: the box a link's frames belong to, queuing and delivering the part's
frames (R224, R233, R234), serving a sequence-accepted request through admission steps 8 to 12 (R228 to R231), and taking
a frame through steps 1 to 7 (R219 to R227). -/

namespace Sys2Proof.Machine

/-- Where mailbox state is kept: a context's, or that of a connection before its session is open (R209, R236). -/
inductive Box where
  | ctx (c : Nat)
  | conn (id : Nat)
deriving DecidableEq, Repr

/-- A connection's session is open on its context. -/
def connOpen (s : State) (k : Conn) : Bool :=
  match k.ctx with
  | some c => !k.raw && (ctxOf s c.val).keyed.isSome
  | none => false

def boxOf (s : State) : Link → Box
  | .debug => .ctx 0
  | .i2c => .ctx 1
  | .uart => .ctx 2
  | .usb => .ctx 3
  | .conn id => match connOf s id with
    | some k => match k.ctx with
      | some c => if connOpen s k then .ctx c.val else .conn id
      | none => .conn id
    | none => .conn id

def getBox (s : State) : Box → Ctx
  | .ctx c => ctxOf s c
  | .conn id => match connOf s id with
    | some k => k.box
    | none => Ctx.fresh

def modBox (s : State) (b : Box) (f : Ctx → Ctx) : State :=
  match b with
  | .ctx c => modCtx s c f
  | .conn id => { s with net := { s.net with
      conns := s.net.conns.map (fun k => if k.id = id then { k with box := f k.box } else k) } }

/-- A connection without a session. -/
def isUnopened : Box → Bool
  | .ctx _ => false
  | .conn _ => true

def modCnt (s : State) (b : Box) (f : Counters → Counters) : State := modBox s b (fun x => { x with cnt := f x.cnt })

def countLink (s : State) (c : Nat) : State := modCnt s (.ctx c) (fun n => { n with link := satAdd32 n.link 1 })

/-! ### The part's frames -/

/-- Payload pieces of at most 4,096 bytes; a short payload is one piece (R233). -/
def pieces : Nat → List Byte → List (List Byte)
  | 0, p => [p]
  | k + 1, p => if p.length ≤ 4096 then [p] else p.take 4096 :: pieces k (p.drop 4096)

/-- Queue a response, in fragments where its payload exceeds 4,096 bytes. -/
def queueResponse (s : State) (b : Box) (use : SlotUse) (op : Nat) (seq : Half) (r : Reply) : State :=
  let ps := pieces (r.payload.length / 4096 + 1) r.payload
  let n := ps.length
  let fs := ps.mapIdx (fun i p => ({ use, opcode := BitVec.ofNat 16 op, seq, status := BitVec.ofNat 16 r.status, payload := p
                                     more := decide (i + 1 < n), endsSession := r.ends && decide (i + 1 = n), whose := r.whose } : OutFrame))
  modBox s b (fun x => { x with out := x.out ++ fs })

/-- Request slots in use: responses whose last fragment has not left (R234). -/
def slotsUsed (x : Ctx) : Nat := (x.out.filter (fun f => decide (f.use = .request) && !f.more)).length
def refusalUsed (x : Ctx) : Bool := x.out.any (fun f => decide (f.use = .refusal ∨ f.use = .overflow))

/-- Answer through the refusal slot; where it is in use the answer is dropped and counted in DISCARDED (R234). -/
def refuseVia (s : State) (b : Box) (use : SlotUse) (op : Nat) (seq : Half) (r : Reply) : State :=
  if refusalUsed (getBox s b) then modCnt s b (fun n => { n with discarded := satInc16 n.discarded })
  else queueResponse s b use op seq r

/-- Remember a response among the 8 most recent; a longer or fragmented one is not kept (R227). One that the refusal slot has
no room for is complete at once (DEDUCED, log entry 132). -/
def cacheResponse (s : State) (b : Box) (op : Nat) (seq : Half) (full : Bool) (r : Reply) : State :=
  let e : CacheEntry :=
    { seq, opcode := BitVec.ofNat 16 op, status := BitVec.ofNat 16 r.status
      payload := if r.payload.length ≤ 64 then some r.payload else none
      complete := full && refusalUsed (getBox s b) }
  modBox s b (fun x => { x with cache := (e :: x.cache).take 8 })

/-- The key under which a frame goes out: that of the session in force. The answer that opens a session on a context that was
not keyed goes without, but a resend of it does not (R211, R220). -/
def keyFor (x : Ctx) (f : OutFrame) : Option (List Byte) :=
  match x.keyed with
  | none => none
  | some k => if f.use = .request ∧ f.opcode = 0x0B02 ∧ f.status = 0 ∧ !k.rekeyed then none else some k.key

/-- The bytes of the head frame as they go out now, with the part's own ALIVE (R219, R224). -/
def wireBytes (c : Nat) (x : Ctx) (f : OutFrame) : List Byte :=
  frameBytes c x.alive.toNat ((if f.use = .notification then 2 else 1) + (if f.more then 4 else 0)) f.opcode.toNat
    f.seq.toNat f.status.toNat f.payload (keyFor x f)

def headBytes (s : State) (c : Nat) : List Byte :=
  match (ctxOf s c).out with
  | f :: _ => wireBytes c (ctxOf s c) f
  | [] => []

/-- The bytes of the head frame of a box; a connection without a session carries the context it has claimed, or 0 (R209). -/
def boxBytes (s : State) (b : Box) : List Byte :=
  match b with
  | .ctx c => headBytes s c
  | .conn id =>
    let c := match (connOf s id).bind (·.ctx) with
      | some c => c.val
      | none => 0
    match (getBox s b).out with
    | f :: _ => wireBytes c (getBox s b) f
    | [] => []

/-- Octets that a TCP connection carries in and out (R530; log entry 156). -/
def countIn (s : State) (l : Link) (n : Nat) : State :=
  match l with
  | .conn _ => { s with net := { s.net with rxOctets := s.net.rxOctets + BitVec.ofNat 64 n } }
  | _ => s
def countOut (s : State) (l : Link) (n : Nat) : State :=
  match l with
  | .conn _ => { s with net := { s.net with txOctets := s.net.txOctets + BitVec.ofNat 64 n } }
  | _ => s

/-- The reset that a SYS_RESET response was waiting for (R74, R75, R287): full scope runs the full shutdown first. -/
def applyReset (s : State) : State :=
  match s.rst.resetPend with
  | none => s
  | some false => mainReset { s with rst := { s.rst with resetPend := none } } 0x06
  | some true =>
    powerDue (seqReq { s with rst := { s.rst with resetPend := none } } 0x0102
      (fun s => offRequest { s with rst := { s.rst with fullPend := true } }))

/-- The session or the raw stream that holds a network context ends (R213, R214, R323). -/
def endSessionOn (s : State) (c : Nat) : State :=
  match connOn s c with
  | some k => if k.raw || connOpen s k then closeConn s k.id else s
  | none => s

/-- What follows once a frame has gone out in full: its slot is free, its cache entry is complete (R226), a session that
waited for it ends (R210, R323), and so does the part's run before a reset (R287). `cid` is the connection, if any. -/
def afterDelivery (s : State) (b : Box) (f : OutFrame) : State :=
  let s := noteTx s (match b with
    | .ctx c => some c
    | .conn _ => none) (boxBytes s b)
  let s := modBox s b (fun x => { x with
    out := x.out.drop 1, alive := x.alive + 1
    cache := if f.use = .notification ∨ f.use = .refusal ∨ f.more then x.cache
      else x.cache.map (fun e => if e.seq = f.seq then { e with complete := true } else e) })
  let s := if !f.endsSession then s else match f.whose, b with
    | some c, _ => endSessionOn s c
    | none, .conn id => closeConn s id
    | none, .ctx c => match connOn s c with
      | some k => closeConn s k.id
      | none => endKeyed s c
  if f.use = .request ∧ f.opcode = 0x0102 ∧ f.status = 0 then applyReset s else s

/-- The head frame of a box has gone out in full. -/
def deliverHead (s : State) (b : Box) : State :=
  match (getBox s b).out with
  | [] => s
  | f :: _ => afterDelivery s b f

/-! ### Serving a request: steps 8 to 12 -/

/-- One operation of a kind at a time (R282): what already runs or waits of the same kind. -/
def kindBusy (s : State) (op : Nat) : Bool :=
  let act (ops : List Nat) : Bool := s.saf.actions.any (fun a => ops.contains a.opcode.toNat)
  if op = 0x0601 then act [0x0601] || s.cal.store.isSome
  else if op = 0x0701 ∨ op = 0x0704 ∨ op = 0x0706 then act [0x0701, 0x0704, 0x0706]
  else if op = 0x0A05 ∨ op = 0x0A09 then
    s.ctxs.any (fun x => match x.msg with
      | some m => m.opcode = 0x0A05 || m.opcode = 0x0A09
      | none => false)
  else false

/-- Set or close the open message of a request's box. -/
def setMsg (s : State) (r : Req) (m : Option OpenMsg) : State := modBox s (boxOf s r.link) (fun x => { x with msg := m })

/-- Every box: the contexts' and those of the connections (R209, R236). -/
def allBoxes (s : State) : List Ctx := s.ctxs ++ s.net.conns.map (·.box)

/-- Bytes held by all reassembling messages; a streamed opcode consumes its fragments (R231). -/
def poolUsed (s : State) : Nat :=
  ((allBoxes s).map (fun x => match x.msg with
    | some m => if streamed m.opcode.toNat then 0 else m.bytes.length
    | none => 0)).foldl (· + ·) 0

def reassemblyPool : Nat := 262144
def messageLimit : Nat := 65536

/-- The OK answer to a fragment that is not the last: the message bytes received so far (R230). -/
def fragOk (count : Nat) : Reply := Reply.ok (b32 count)

/-- The effective mask of a frame (R242). -/
def frameMask (s : State) (b : Box) : Half :=
  match b with
  | .ctx c => effMask s c
  | .conn _ => 0

/-- The open message that a request of an opcode continues (R229). -/
def continued (s : State) (r : Req) (op : Nat) : Option OpenMsg :=
  (getBox s (boxOf s r.link)).msg.filter (fun m => m.opcode.toNat == op)

/-- A command of an opcode ends the message that it continues; an open message of another opcode stays open (R229). -/
def endMsg (s : State) (r : Req) (op : Nat) : State := if (continued s r op).isSome then setMsg s r none else s

/-- Discard a box's open message (R232). -/
def discardIn (s : State) : Box → State
  | .ctx c => discardMsg s c
  | .conn id => modBox s (.conn id) (fun x => { x with msg := none })

/-- The mask that a request's rights are judged by: that of its admission, which for a fragmented message was the
admission of its first fragment (R245, R246). -/
def admMask (s : State) (r : Req) (op : Nat) : Half :=
  ((continued s r op).map (·.mask)).getD (frameMask s (boxOf s r.link))

/-- The lifecycle of its admission. -/
def admLifecycle (s : State) (r : Req) (op : Nat) : Nat := ((continued s r op).map (·.lc)).getD (lifecycle s.otp)

/-- The right is in the mask; in RETURN, SECURITY is left for some opcodes only, which step 10 lets pass (R178, R243). -/
def maskHolds (lc : Nat) (m : Half) (right : Nat) : Bool := hasBit m right && !(right == rSecurity && lc == 3)

/-- A message opened by a request, under the rights of its admission (R246). -/
def openMsg (s : State) (r : Req) (op : Nat) (bytes : List Byte) : OpenMsg :=
  { opcode := BitVec.ofNat 16 op, bytes, count := bytes.length, job := 0, cancelled := false, header := []
    mask := frameMask s (boxOf s r.link), lc := lifecycle s.otp }

/-- Put an answer away: cached as the answer to an accepted request, and queued; where every request slot is full it takes
the refusal slot (R228, R234). So does a refusal at steps 8 to 10, of which R234 does not speak (DESIGN CHOICE, log entry 196). -/
def answer (s : State) (b : Box) (op : Nat) (seq : Half) (full : Bool) (r : Reply) : State :=
  let s := cacheResponse s b op seq full r
  if full then refuseVia s b .overflow op seq r else queueResponse s b .request op seq r

/-- A fragment that continues the open message: reassembly space only, then the command at the last one (R229 to R231). -/
def continueMsg (h : Handler) (op : Nat) (r : Req) (b : Box) (m : OpenMsg) (s : State) : Reply × State :=
  if streamed op then h r s
  else if messageLimit < m.bytes.length + r.payload.length then
    (Reply.no stBadLength, modBox s b (fun x => { x with msg := none }))
  else if reassemblyPool < poolUsed s + r.payload.length then (Reply.no stBusy, s)
  else
    let bytes := m.bytes ++ r.payload
    if r.more then
      (fragOk bytes.length, modBox s b (fun x => { x with msg := some { m with bytes := bytes, count := bytes.length } }))
    else
      let (rep, s) := h { r with payload := bytes } s
      (rep, modBox s b (fun x => { x with msg := none }))

/-- A first fragment, or an unfragmented request, past steps 8 to 10. -/
def beginMsg (h : Handler) (op : Nat) (r : Req) (b : Box) (s : State) : Reply × State :=
  if r.more ∧ (getBox s b).msg.isSome then (Reply.no stBusy, s)
  else if kindBusy s op then (Reply.no stBusy, s)
  else if (op = 0x0301 ∨ op = 0x0302) ∧ !jobRoom s r.ctx.val then (Reply.no stNoSpace, s)
  else if streamed op ∨ !r.more then h r s
  else if messageLimit < r.payload.length then (Reply.no stBadLength, s)
  else if reassemblyPool < poolUsed s + r.payload.length then (Reply.no stBusy, s)
  else (fragOk r.payload.length, modBox s b (fun x => { x with msg := some (openMsg s r op r.payload) }))

/-- A sequence-accepted request through steps 8 to 12 (R225, R228 to R231): E moves on whatever the outcome. A fragment that
continues a message passes step 11 by; its answer, where every request slot is full, takes the refusal slot (DESIGN CHOICE,
log entry 131). An opcode that does not exist is BAD_OPCODE on an unopened connection too (DEDUCED, log entry 189). -/
def serve (op : Nat) (h : Handler) (r : Req) (s : State) : State :=
  if s.rst.main ≠ .ready ∧ s.rst.main ≠ .booting ∧ s.rst.main ≠ .waking then s else
  let b := boxOf s r.link
  let s := wakeDoze (modBox s b (fun x => { x with e := some (r.seq + 1) }))
  let full := decide (8 ≤ slotsUsed (getBox s b))
  if !coreRuns s then answer s b op r.seq full (Reply.no stNotReady) else
  match continued s r op with
  | some m =>
    let (rep, s) := continueMsg h op r b m s
    answer s (boxOf s r.link) op r.seq full rep
  | none =>
    match opRight op with
    | none => answer s b op r.seq full (Reply.no stBadOpcode)
    | some right =>
      match rightCheck s (frameMask s b) (isUnopened b) op right with
      | some st => answer s b op r.seq full (Reply.no st)
      | none =>
        if full then answer s b op r.seq true (Reply.no stBusy) else
        let (rep, s) := beginMsg h op r b s
        answer s (boxOf s r.link) op r.seq false rep

/-! ### Taking a frame: steps 1 to 7 -/

/-- The context that the link's frames must name (step 5); none for a connection that has claimed none. -/
def linkContext (s : State) (l : Link) : Option Nat :=
  match l with
  | .conn id => match connOf s id with
    | some k => k.ctx.map (·.val)
    | none => none
  | .debug => some 0
  | .i2c => some 1
  | .uart => some 2
  | .usb => some 3

/-- A frame that fails one of steps 2 to 6 is answered, at most once per context in each millisecond; one that finds the
refusal slot in use is not (R222, R234). -/
def refuseFrame (s : State) (b : Box) (h : Header) (status : Nat) : State :=
  let soon := match (getBox s b).refusedAt with
    | some t => decide (since s t < 1000)
    | none => false
  if soon then s else
  let s := if refusalUsed (getBox s b) then s else modBox s b (fun x => { x with refusedAt := some (now s) })
  refuseVia s b .refusal h.opcode h.seq (Reply.no status)

/-- The tag of step 6 is right: set and correct exactly when the context is keyed. A context about to be keyed accepts
SESSION_OPEN and SESSION_PROVE alone without one (R167, R177, R211, R221; DEDUCED, log entry 133). -/
def tagOk (s : State) (b : Box) (h : Header) (bs : List Byte) : Bool :=
  match (getBox s b).keyed with
  | none => !h.flags.testBit 3 &&
      (isUnopened b || (getBox s b).opening.isNone || h.opcode == 0x0B01 || h.opcode == 0x0B02)
  | some k => h.flags.testBit 3 && !alarmed s.otp 3 && lifecycle s.otp != 3 &&
      slice bs (20 + h.length) 8 == (hmac k.key (bs.take (20 + h.length))).take 8

/-- A step-6 failure; the third in a row ends the session (R221). -/
def tagFailure (s : State) (b : Box) (h : Header) : State :=
  let s := modCnt s b (fun n => { n with tag := satInc16 n.tag })
  let s := modBox s b (fun x => { x with tagFails := x.tagFails + 1 })
  let ended := (getBox s b).keyed.isSome && decide (3 ≤ (getBox s b).tagFails)
  let s := refuseFrame s b h stBadCheck
  if !ended then s else
  match b with
  | .conn id => closeConn s id
  | .ctx c =>
    let s := modCtx (logFor s 0x0202 [] (b8 c) 0) c (fun x => { x with tagFails := 0 })
    match connOn s c with
    | some k => closeConn s k.id
    | none => endKeyed s c

/-- REPLAY, whose payload holds E (R226). -/
def replay (s : State) (b : Box) (h : Header) : State :=
  let e := match (getBox s b).e with
    | some v => v
    | none => 0
  let s := modCnt s b (fun n => { n with replay := satInc16 n.replay })
  refuseVia s b .refusal h.opcode h.seq ⟨stReplay, b16 e.toNat, false, none⟩

def countDup (s : State) (b : Box) : State := modCnt s b (fun n => { n with dup := satInc16 n.dup })

/-- Step 7: the alive and sequence rules (R223, R225, R226). A request that is accepted goes on to `go`. -/
def sequenceRules (s : State) (b : Box) (h : Header) (go : State → State) : State :=
  let x := getBox s b
  if x.lastAlive = some h.alive then countDup s b else
  let gap := match x.lastAlive with
    | some a => decide (h.alive ≠ a + 1)
    | none => false
  let s := modBox s b (fun x => { x with lastAlive := some h.alive })
  let s := if gap then modCnt s b (fun n => { n with aliveGap := satInc16 n.aliveGap }) else s
  if x.e = none ∨ x.e = some h.seq then go s else
  match x.cache.find? (fun e => e.seq == h.seq) with
  | some e =>
    if !e.complete then countDup s b
    else match e.payload with
      | some p => refuseVia s b .refusal e.opcode.toNat e.seq ⟨e.status.toNat, p, false, none⟩
      | none => replay s b h
  | none => replay s b h

/-- A complete frame on a link, through steps 1 to 7, then to the command that `run` finds for its opcode (the admission
table of chapter 8; R208). -/
def takeFrame (run : Nat → Req → State → State) (l : Link) (bs : List Byte) (s : State) : State :=
  let s := wakeDoze s
  let b := boxOf s l
  let s := noteRx s (linkContext s l) bs
  if !headerOk bs then
    let s := modCnt s b (fun n => { n with hdr := satInc16 n.hdr })
    match l with
    | .conn id =>
      let s := match linkContext s l with
        | some c => countLink s c
        | none => s
      closeConn s id
    | _ => s
  else
  let h := headerOf bs
  if 4096 < h.length ∨ bs.length ≠ h.total then
    refuseFrame (modCnt s b (fun n => { n with len := satInc16 n.len })) b h stBadLength
  else if slice bs (16 + h.length) 4 ≠ b32 (crc32c (bs.take (16 + h.length))).toNat then
    refuseFrame (modCnt s b (fun n => { n with fcrc := satInc16 n.fcrc })) b h stBadCheck
  else if h.version ≠ 2 ∨ h.flags &&& 0xF3 ≠ 0 then
    refuseFrame (modCnt s b (fun n => { n with format := satInc16 n.format })) b h stBadOpcode
  else
  let wrongCtx := match linkContext s l with
    | some c => decide (h.context ≠ c)
    | none => decide (12 ≤ h.context) && h.opcode != 0x0B01
  if wrongCtx then refuseFrame (modCnt s b (fun n => { n with context := satInc16 n.context })) b h stNoRight
  else if !tagOk s b h bs then tagFailure s b h
  else
  let s := modBox s b (fun x => { x with tagFails := 0 })
  sequenceRules s b h (fun s =>
    if hc : h.context < 12 then
      run h.opcode { link := l, ctx := ⟨h.context, hc⟩, seq := h.seq, more := h.flags.testBit 2, payload := slice bs 16 h.length } s
    else
      let (v, s) := drawNonce s
      answer (modBox s b (fun x => { x with e := some (h.seq + 1) })) b h.opcode h.seq (decide (8 ≤ slotsUsed (getBox s b)))
        (Reply.range v.toNat))

end Sys2Proof.Machine
end

