-- ==== Sys2Proof/Machine/HubOps.lean ====
section
/-! DEFINITION. Writing the hub's configuration in Clove through HUB_CFG (R463, R489, R493): one operation for a command,
a commit and the first READY. -/

namespace Sys2Proof.Machine

def setHub (s : State) (f : Hub → Hub) : State := { s with hub := f s.hub }

def hubSlot (h : Hub) (n : Nat) : List Byte := h.slots.getD n (zeros 28)
def hubDesc (h : Hub) (n : Nat) : List Byte := h.descs.getD n (zeros 32)
def hubDet (h : Hub) (n : Nat) : List Byte := h.dets.getD n (zeros 16)
def detRunOf (h : Hub) (n : Nat) : DetRun := h.detRun.getD n DetRun.rest

/-- The DISCH reason HUB_DETECTOR stands exactly while some active detector has the action (R365, R366). -/
def refreshDetDisch (s : State) : State := if detDisch s then s else dropReason s 1

/-- Writing a slot, for the command of opcode `op`, clears its filter state and its deferred sample and removes its queued bus
transaction (R493). -/
def putSlot (s : State) (op n : Nat) (e : List Byte) : State :=
  let old : HubEntry := .slot n (hubSlot s.hub n) (s.hub.slotRun.getD n SlotRun.rest) s.hub.busI2c s.hub.busSpi s.hub.done
  setHub (noteHubCfg s op old) (fun h => { h with
    slots := h.slots.set n e
    slotRun := modAt h.slotRun n (fun r => { SlotRun.rest with lost := r.lost, lossAt := r.lossAt })
    busI2c := cutBus h.i2cHeld (now s) n h.busI2c, busSpi := cutBus false (now s) n h.busSpi
    done := h.done.filter (fun b => b.tx.slot != n) })

def putDesc (s : State) (op n : Nat) (e : List Byte) : State :=
  setHub (noteHubCfg s op (.desc n (hubDesc s.hub n))) (fun h => { h with descs := h.descs.set n e })

/-- A written detector starts clear; one that is turned off gives up the DISCH or HST_IRQ it drove (R484, R493). -/
def putDet (s : State) (op n : Nat) (e : List Byte) : State :=
  refreshDetDisch (setHub (noteHubCfg s op (.det n (hubDet s.hub n) (detRunOf s.hub n) s.hub.irqBy)) (fun h => { h with
    dets := h.dets.set n e, detRun := h.detRun.set n DetRun.rest
    irqBy := if detKind e = 0 then h.irqBy &&& ~~~ (BitVec.ofNat 32 (2 ^ n)) else h.irqBy }))

/-- The detector is active and its actions include DISCH (R489). -/
def detHeld (h : Hub) (n : Nat) : Bool := (detRunOf h n).active && detKind (hubDet h n) != 0 && detAction (hubDet h n) 3

/-- The two detectors of a COINCIDENCE, or none. -/
def coincidenceOf (e : List Byte) : List Nat := if detKind e = 5 then [detA e, detB e] else []

/-- The detectors of kind 1 to 3 whose source is slot `n`. -/
def detsOn (h : Hub) (n : Nat) : List Nat :=
  (List.range 32).filter (fun d => let e := hubDet h d; decide (1 ≤ detKind e ∧ detKind e ≤ 3) && detSource e == n)

/-- A list of detectors with every COINCIDENCE that names one of them, directly or through another. -/
def withCoincidences (h : Hub) : Nat → List Nat → List Nat
  | 0, l => l
  | k + 1, l =>
    let more := (List.range 32).filter (fun c => !l.contains c && (coincidenceOf (hubDet h c)).any l.contains)
    if more.isEmpty then l else withCoincidences h k (l ++ more)

/-- The detectors that a slot feeds (R478, R479, R489). -/
def fedBy (h : Hub) (n : Nat) : List Nat := withCoincidences h 32 (detsOn h n)

/-- The slot feeds an active detector with a DISCH action (R489). -/
def slotHeld (h : Hub) (n : Nat) : Bool := (fedBy h n).any (detHeld h)

/-- A parameter of the hub's configuration is put into Clove, or waits until its detector has cleared (R463, R489).
Parameters 0x0A0A to 0x0A3F are slots 10 to 63, 0x0A40 to 0x0A4F descriptors, 0x0B00 to 0x0B1F detectors. -/
def putHubParam (s : State) (id : Nat) (v : List Byte) : State :=
  let wait (s : State) : State := setHub s (fun h => { h with defer := assocSet h.defer id v })
  let clear (s : State) : State := setHub s (fun h => { h with defer := assocDel h.defer id })
  if 0x0A0A ≤ id ∧ id ≤ 0x0A3F then
    if slotHeld s.hub (id - 0x0A00) then wait s else clear (putSlot s 0 (id - 0x0A00) v)
  else if 0x0A40 ≤ id ∧ id ≤ 0x0A4F then putDesc s 0 (id - 0x0A40) v
  else if 0x0B00 ≤ id ∧ id ≤ 0x0B1F then
    if detHeld s.hub (id - 0x0B00) then wait s else clear (putDet s 0 (id - 0x0B00) v)
  else s

/-- Entries that waited for a detector to clear are written once it has (R489). -/
def writeDeferred (s : State) : State := s.hub.defer.foldl (fun s p => putHubParam s p.1 p.2) s

/-- A HUB_EVENT notification to each context that has subscribed to the detector and holds HUB_READ (R302, R485). -/
def notifyDet (s : State) (d : Nat) (actions : Byte) (rec : List Byte) : State :=
  notifyWhere s (fun c => (ctxOf s c).subs.toNat.testBit d && holds s c rHubRead) 0x8006 ([b8 d, actions, 0, 0] ++ rec)

/-- Every hub parameter. -/
def hubParamIds : List Nat :=
  (List.range 54).map (· + 0x0A0A) ++ (List.range 16).map (· + 0x0A40) ++ (List.range 32).map (· + 0x0B00)

/-- The entry of a hub parameter as Clove holds it. -/
def hubEntry (h : Hub) (id : Nat) : List Byte :=
  if id / 256 = 0x0B then hubDet h (id - 0x0B00)
  else if id < 0x0A40 then hubSlot h (id - 0x0A00) else hubDesc h (id - 0x0A40)

end Sys2Proof.Machine
end

