-- ==== Sys2Proof/Machine/ParamOps.lean ====
section
/-! DEFINITION. Parameters as shared operations: the value a read returns (R253), the entry format, the judging of an
entry (R251), the rights masks' own rules (R244), and committing a set of values (R255, R256). -/

namespace Sys2Proof.Machine

/-- The value in force as a read returns it: counters from where they are kept, hub entries as Clove holds them (R493;
DEDUCED, log entry 34), others as R252 has them. -/
def liveValue (s : State) (d : Desc) : List Byte :=
  if d.id = 0x0131 then b32 s.otp.corrected.toNat
  else if d.id = 0x0760 then b32 s.motion.synthCount.toNat
  else if d.id = 0x0761 then b32 s.motion.rejectCount.toNat
  else if d.id = 0x0762 then b16 s.motion.maxErr.toNat
  else if hubParamIds.contains d.id then hubEntry s.hub d.id
  else inForce s.params d.id

/-- A pending value: written, for an effective point at COMMIT or RESTART, and not committed. -/
def pendingValue (p : Params) (id : Nat) : Option (List Byte) := find? p.pending id

/-! ### Entries -/

/-- One entry: ID, TYPE and value. -/
structure Entry3 where
  id : Nat
  ty : Nat
  val : List Byte
deriving DecidableEq, Repr

def entryBytes (id ty : Nat) (v : List Byte) : List Byte := b16 id ++ [b8 ty, b8 v.length] ++ v

/-- `n` entries, packed, and nothing after them. -/
def parseEntries : Nat → List Byte → Option (List Entry3)
  | 0, bs => if bs.isEmpty then some [] else none
  | n + 1, a :: b :: t :: l :: bs =>
    if bs.length < l.toNat then none
    else (parseEntries n (bs.drop l.toNat)).map ({ id := ofLe [a, b], ty := t.toNat, val := bs.take l.toNat } :: ·)
  | _ + 1, _ => none

/-- A new mask for context 0 without RIGHTS_ADMIN (R244). -/
def strips0 (id : Nat) (v : List Byte) : Bool := id == 0x0300 && !(ofLe v).testBit rAdmin

/-- A rights mask that names a right the writer does not hold (R244). -/
def grantsBeyond (m : Half) (id : Nat) (v : List Byte) : Bool :=
  decide (0x0300 ≤ id ∧ id ≤ 0x030B) && (BitVec.ofNat 16 (ofLe v) &&& ~~~ m) != 0

/-- TYPE and LEN, then the range of the value (R251). -/
def entryCheck (e : Entry3) : Option Nat :=
  match descOf e.id with
  | none => some stRange
  | some d =>
    if !d.lenOk e.ty e.val.length then some stBadLength
    else if !d.valOk e.val then some stRange
    else none

/-- What a write checks of an entry (R244, R251). -/
def entryStatus (e : Entry3) : Option Nat :=
  match entryCheck e with
  | some st => some st
  | none => if strips0 e.id e.val then some stRange else none

/-- The right of an entry, for a writer with a mask, in the lifecycle of its admission (R244, R246, R251). -/
def entryRight (lc : Nat) (m : Half) (e : Entry3) : Option Nat :=
  match descOf e.id with
  | none => some stNoRight
  | some d =>
    if d.right = rReadOnly ∨ !maskHolds lc m d.right ∨ grantsBeyond m e.id e.val then some stNoRight else none

/-- The first entry that fails a check, with its status (R251). -/
def firstBadEntry (f : Entry3 → Option Nat) : List Entry3 → Option (Nat × Nat)
  | [] => none
  | e :: es => match f e with
    | some st => some (st, e.id)
    | none => firstBadEntry f es

/-! ### Changes and their effects -/

/-- RIGHTS_CHANGED for each mask in force that a change has altered. -/
def noteMasks (before : State) (purge : Bool) (s : State) : State :=
  (List.range 12).foldl (fun st c =>
    if maskInForce before c = maskInForce s c then st
    else logEvent st 0x0301 (b8 c :: b16 (maskInForce before c).toNat ++ b16 (maskInForce s c).toNat ++ [if purge then 1 else 0])) s

/-- A write sets the working value, or the pending value for COMMIT and RESTART (R252). -/
def setParam (p : Params) (id : Nat) (v : List Byte) : Params :=
  match descOf id with
  | none => p
  | some d => if d.eff ≤ eTicket then { p with working := assocSet p.working id v } else { p with pending := assocSet p.pending id v }

/-- Every value that a commit takes: committed, working and pending (R255). -/
def wholeSet (p : Params) : ParamMap :=
  (p.working ++ p.pending).foldl (fun m e => assocSet m e.1 e.2) p.committed

/-- The image holds only the values that differ from their defaults. -/
def normalise (m : ParamMap) : ParamMap := m.filter (fun e => e.2 != dfltOf e.1)

/-- The IDs whose value differs between two sets. -/
def changedIds (old new : ParamMap) : List Nat :=
  ((old ++ new).map (·.1)).eraseDups.filter (fun id => mapVal old id != mapVal new id)

/-- The view that the cross-parameter checks judge. -/
def viewOf (s : State) (m : ParamMap) : CommitView :=
  { bytes := mapVal m, maxRate := maxLineRate s.otp
    mainCal := s.cal.head.map (fun h => h.map (·.main256))
    changed := changedIds s.params.committed m }

/-- What a completed commit puts in force at once or later (R119, R215, R369, R418, R429, R463,
R489). -/
def onCommit (s : State) (changed : List Nat) : State :=
  let m := s.params.committed
  let s := if changed.any (fun id => id / 256 == 5) then modSeq s (fun q => { q with next := some m }) else s
  let s := if ticketActive s then s else { s with params := { s.params with atTicket := m } }
  let s := (changed.filter hubParamIds.contains).foldl (fun s id => putHubParam s id (mapVal m id)) s
  armLldp (if changed.any (fun id => id == 0x0601 || id == 0x0602 || id == 0x0D0E) then updateAllocation s else s)

/-- An image as it lies in its area (R257). -/
def imageBytes (i : Image) : List Byte :=
  let body := i.entries.flatMap (fun e => entryBytes e.1 ((descOf e.1).elim 0 (·.ty)) e.2)
  withCrc16 (ascii "NLPI" ++ [1, 0] ++ b16 i.entries.length ++ b16 body.length ++ zeros 2 ++ b32 i.commitSeq.toNat ++
    b32 i.profId.toNat ++ b32 i.profVer.toNat ++ b32 (crc32c body).toNat ++ zeros 2) ++ body

/-- What an area holds, where its image is valid: both checks, lengths and counts that agree, and entries that are known, of
their descriptor's type and range, each ID once (R257). -/
def parseImage (b : List Byte) : Option Image :=
  let n := fieldAt b 8 2
  let body := slice b 32 n
  if b.length < 32 + n ∨ 16352 < n ∨ b.take 5 ≠ ascii "NLPI" ++ [1] ∨ slice b 30 2 ≠ b16 (crc16 (b.take 30)).toNat ∨
      slice b 24 4 ≠ b32 (crc32c body).toNat then none else
  match parseEntries (fieldAt b 6 2) body with
  | none => none
  | some es =>
    if (firstBadEntry entryCheck es).isSome ∨ (es.map (·.id)).eraseDups.length ≠ es.length then none else
    let word (off : Nat) : Word := BitVec.ofNat 32 (fieldAt b off 4)
    some ⟨word 12, word 16, word 20, es.foldl (fun m e => assocSet m e.id e.val) []⟩

/-- The image that a commit follows: COMMIT_SEQ, PROF_ID and PROF_VER are 0 where none is in force. -/
def imageInForce (s : State) : Image := (parseImage (s.nvm.images.getD s.params.image [])).getD ⟨0, 0, 0, []⟩

/-- Write a set of values into the older image area and put it in force; the answer is the page that could not be
written, after which nothing has changed (R255, R256, R263). -/
def commitValues (s : State) (m : ParamMap) (profId profVer : Word) (data : List Byte → List Byte) : Reply × State :=
  let m := normalise m
  let old := imageInForce s
  let area := 1 - s.params.image
  let sq := old.commitSeq + 1
  let b := imageBytes ⟨sq, profId, profVer, m⟩
  let (bad, s1) := writePages (noteWrite s (imageStream (b.length - 32)) b) (pagesOf 1 (area * 16384) b.length)
  match bad with
  | some p => (Reply.fault 0x0002 p, s1)
  | none =>
    let changed := changedIds s1.params.committed m
    let s2 := { s1 with
      nvm := { s1.nvm with images := s1.nvm.images.set area b }
      params := { s1.params with committed := m, working := [], pending := [], image := area } }
    let s3 := noteMasks s false (onCommit s2 changed)
    (Reply.ok (data (b32 sq.toNat)), logEvent s3 0x0E02 (b32 sq.toNat ++ b16 m.length))

end Sys2Proof.Machine
end

