-- ==== Sys2Proof/Machine/HeadOps.lean ====
section
/-! DEFINITION. The head: die positions and nozzles (R421, R422), the nozzle map and its assignments (R448 to R454), the
stitch and the masks (R435, R455), temperatures and compensation (R426, R428) and which nozzles a line fires (R434). -/

namespace Sys2Proof.Machine

/-! ### Positions, nozzles and the map -/

/-- The assignments of R450. -/
inductive Assign where
  | shared | primary | twin | dead
deriving DecidableEq, Repr

/-- A position's assignment from its two nozzles' states, with NOZ_WEAK_SOLO (R450). -/
def assignOf (solo : Bool) (p t : Nat) : Assign :=
  match usable p, usable t with
  | true, true =>
    if solo && p % 8 == 1 && t % 8 == 0 then .twin
    else if solo && p % 8 == 0 && t % 8 == 1 then .primary else .shared
  | true, false => .primary
  | false, true => .twin
  | false, false => .dead

def posAssign (solo : Bool) (m : List (Nat × Nat)) (die q : Nat) : Assign :=
  assignOf solo (stateIn m (posNoz die q false)) (stateIn m (posNoz die q true))

def posDead (m : List (Nat × Nat)) (die q : Nat) : Bool := posAssign false m die q == .dead

/-- NOZZLE_CHANGE for one nozzle (R452). -/
def notifyNozzle (s : State) (i st : Nat) : State :=
  let die := i / 2112
  let col := i / 528 % 4
  notifyRight s rMaint 0x8009 ([b8 die, b8 col] ++ b16 (2 * (i % 528) + col % 2) ++ [b8 st, 0, 0, 0])

/-- The events of one position whose assignment has changed (R452): the failed column is that of the nozzle that no
longer fires. -/
def logPosition (s : State) (die q : Nat) (old new : Assign) : State :=
  match old, new with
  | .shared, .primary => logEvent s 0x0901 (b8 die :: b16 q ++ [b8 (q % 2 + 2)])
  | .shared, .twin => logEvent s 0x0901 (b8 die :: b16 q ++ [b8 (q % 2)])
  | .dead, .dead => s
  | _, .dead => logEvent s 0x0902 (b8 die :: b16 q)
  | _, _ => s

def soloNow (s : State) : Bool := pvBand s.params 0x090B == 1

/-- The positions that a list of nozzles belongs to, as (die, position). -/
def positionsOf (l : List Nat) : List (Nat × Nat) :=
  (l.map (fun i => (i / 2112, 2 * (i % 528) + i / 528 % 4 % 2))).eraseDups

/-- The BAND parameters take effect at a band's boundary (R252). An assignment that leaves SHARED because NOZ_WEAK_SOLO changes
is logged (R450, R452). -/
def latchBandNow (s : State) : State :=
  let old := soloNow s
  let s := { s with params := latchBand s.params }
  if soloNow s = old then s else
  let m := s.noz.states
  (positionsOf (m.map (·.1))).foldl (fun s p =>
    logPosition s p.1 p.2 (posAssign old m p.1 p.2) (posAssign (soloNow s) m p.1 p.2)) s

/-- Change the map in one step: notifications for each nozzle that changes, events for positions, and the map is due to be
written (R444, R449, R452, R460). -/
def applyMap (s : State) (changes : List (Nat × Nat)) : State :=
  let real := changes.filter (fun c => stateIn s.noz.states c.1 != c.2)
  if real.isEmpty then s else
  let old := s.noz.states
  let new := real.foldl (fun m c => assocSet m c.1 c.2) old
  let s := { s with noz := { s.noz with states := new, dirty := true, changedRtc := s.clk.rtc } }
  let s := real.foldl (fun s c => notifyNozzle s c.1 c.2) s
  let solo := soloNow s
  (positionsOf (real.map (·.1))).foldl (fun s p =>
    logPosition s p.1 p.2 (posAssign solo old p.1 p.2) (posAssign solo new p.1 p.2)) s

/-- HEAD_ACTIVE_DIES (R419). -/
def activeDies (s : State) : List Nat := bitsOf 4 (pv s.params 0x0801)
def twoRows (s : State) : Bool := pv s.params 0x0801 == 15

/-! ### Where a row position fires (R421, R435, R454) -/

/-- Die position of a row position, or none where the die does not cover it (R421). -/
def diePos (s : State) (die p : Nat) : Option Nat :=
  let base := if die % 2 = 0 then 0 else 834
  if p < base ∨ base + 1056 ≤ p then none
  else if (pv s.params 0x080A).testBit die then some (1055 - (p - base)) else some (p - base)

/-- The 8-bit dither value of R435. -/
def ditherT (l p : Nat) : Nat :=
  let y := l % 16
  let x := y ^^^ (p % 16)
  let bit (v b : Nat) : Nat := if v.testBit b then 1 else 0
  let v := [3, 2, 1, 0].foldl (fun v b => v * 4 + bit y b * 2 + bit x b) 0
  (List.range 8).foldl (fun r i => 2 * r + bit v i) 0

/-- In the overlap, the right-hand die fires a position (R435). -/
def stitchRight (s : State) (l p : Nat) : Bool :=
  if pv s.params 0x0808 = 0 then decide (pv s.params 0x0809 ≤ p)
  else decide (ditherT l p < (p - 833) * 256 / 223)

/-- The overrides of a row's band from the map as it stands: overlap positions that are DEAD on one die only (R454). -/
def overridesNow (s : State) (row : Nat) : List (Nat × Nat) :=
  if s.noz.states.isEmpty then [] else
  ((List.range 222).map (· + 834)).filterMap (fun p =>
    let deadOn (die : Nat) : Bool := match diePos s die p with
      | some q => posDead s.noz.states die q
      | none => false
    match deadOn (2 * row), deadOn (2 * row + 1) with
    | true, false => some (2 * row + 1, p)
    | false, true => some (2 * row, p)
    | _, _ => none)

/-- The row positions that the right-hand die of a row fires on a raster line, as a bit mask (R435, R454). -/
def rightMask (s : State) (row l : Nat) (overrides : List (Nat × Nat)) : Nat :=
  let overlap := ((List.range 222).map (· + 834)).foldl (fun m p =>
    let right := match overrides.find? (fun o => o.2 == p && o.1 / 2 == row) with
      | some o => o.1 % 2 == 1
      | none => stitchRight s l p
    if right then m + 2 ^ p else m) 0
  overlap + (2 ^ 1890 - 2 ^ 1056)

def rowBits : Nat := 1890
def rowMask : Nat := 2 ^ 1890 - 1

/-- A row's dots on a raster line that a die fires, as row positions. -/
def dieShare (s : State) (die l bits : Nat) (overrides : List (Nat × Nat)) : Nat :=
  let right := bits &&& rightMask s (die / 2) l overrides
  if die % 2 = 1 then right else bits ^^^ right

/-! ### Temperature and compensation (R426, R428) -/

/-- The temperature in °C that a code of a die's sensor shows; the converter's step is 2.5 V / 4,096 (R426). -/
def tsTemp (s : State) (code : Nat) : Rat :=
  let uv : Rat := (code * 2500000 : Nat) / (4096 : Rat)
  25 + (uv - ((pv s.params 0x080B * 1000 : Nat) : Rat)) / ((pvS s.params 0x080C : Int) : Rat)

/-- A die's temperature from its fresh reading; none while it is stale. -/
def dieTemp (s : State) (die : Nat) : Option Rat :=
  if stale s (16 + die) then none else some (tsTemp s (reading s (16 + die)).code.toNat)

def compT (s : State) (i : Nat) : Rat := ((byteAt (inForce s.params 0x0813) i).toInt : Rat)
def compS (s : State) (i : Nat) : Rat := ((fieldAt (inForce s.params 0x0814) (2 * i) 2 : Nat) : Rat)

/-- The scale of a temperature, in 1/256: linear between the points, rounded to the nearest unit, held beyond the ends
(R426); a value halfway between two units rounds to either (log entry 47). -/
def scaleAt (s : State) (t : Rat) : Nat :=
  if t ≤ compT s 0 then (compS s 0).floor.toNat
  else match (List.range 7).find? (fun i => decide (t ≤ compT s (i + 1))) with
    | none => (compS s 7).floor.toNat
    | some i =>
      let x := compS s i + (compS s (i + 1) - compS s i) * (t - compT s i) / (compT s (i + 1) - compT s i)
      let f := x.floor.toNat
      if x - x.floor < 1 / 2 ∨ (x - x.floor = 1 / 2 ∧ Config.tieUp x = false) then f else f + 1

/-- At a band boundary a die's scale follows its latest fresh reading; a stale one leaves the scale (R426). -/
def scalesNow (s : State) (old : List Nat) : List Nat :=
  (List.range 4).map (fun d => match dieTemp s d with
    | some t => scaleAt s t
    | none => old.getD d 256)

/-- Warming is active on a die for a band; a stale reading leaves the decision before (R426, R428; DEDUCED, log
entry 149). -/
def warmNow (s : State) (old : List Bool) : List Bool :=
  (List.range 4).map (fun d => match dieTemp s d with
    | some t => pv s.params 0x080F != 0 && pv s.params 0x0810 != 0 && decide (t < ((pv s.params 0x080F : Nat) : Rat))
    | none => old.getD d false)

/-! ### What fires (R434, R436, R450 to R456) -/

/-- The column offset and the die offset (R434). -/
def dieOffset (s : State) (d : Nat) : Nat := pv s.params (0x0840 + d)
def colOffset (s : State) (d c : Nat) : Nat := fieldAt (inForce s.params (0x0844 + d)) c 1

/-- The largest offset over the active dies and columns: clock lines beyond the raster's own. -/
def maxOffset (s : State) : Nat :=
  (activeDies s).foldl (fun m d => (List.range 4).foldl (fun m c => max m (dieOffset s d + colOffset s d c)) m) 0

/-- The smallest offset: a raster line first fires on the column that has it. -/
def minOffset (s : State) : Nat :=
  let l := (activeDies s).flatMap (fun d => (List.range 4).map (fun c => dieOffset s d + colOffset s d c))
  l.foldl min (l.headD 0)

/-- The map and masks that a band of a die fires under, as they stand at its switch point (R451, R455). -/
def bandMap (s : State) (key : Nat) : BandMap :=
  let die := key % 4
  { key, states := s.noz.states.filter (fun p => p.1 / 2112 == die), solo := pv s.params 0x090B == 1
    fill := pv s.params 0x090C == 1, mode := pv s.params 0x090D, share := pv s.params 0x090E
    tile := inForce s.params 0x090F }

/-- HPn_EN of each port: high only in RUN, on an active die, while every rail that firing needs is good (R420). -/
def headEnable (s : State) : BitVec 4 :=
  if coreRuns s ∧ s.pwr.st = .run ∧ fireRailsGood s.seq then BitVec.ofNat 4 (pv s.params 0x0801) else 0

/-- Row positions of one die and raster line as die positions, with the dots of DEAD positions moved or dropped (R453). -/
def filledDots (s : State) (bm : BandMap) (die l share : Nat) (fill : Bool) : List Nat :=
  let qs := (List.range 1056).filterMap (fun q =>
    let base := if die % 2 = 0 then 0 else 834
    let p := if (pv s.params 0x080A).testBit die then base + 1055 - q else base + q
    if share.testBit p then some q else none)
  let dead (q : Nat) : Bool := posDead bm.states die q
  let moved (q : Nat) : Nat :=
    if q = 0 then 1 else if q = 1055 then 1054 else if l % 2 = 0 then q - 1 else q + 1
  let kept := qs.filter (fun q => !dead q)
  if !fill then kept else
  let targets := ((qs.filter dead).map moved).filter (fun q => !dead q && !kept.contains q)
  kept ++ targets.eraseDups

/-- The mask bit of a SHARED position: set, the primary fires (R455). `t` is the dither value of the line and position. -/
def maskBit (bm : BandMap) (l q : Nat) : Bool :=
  if bm.mode = 0 then decide (ditherT l q < bm.share)
  else (fieldAt bm.tile (2 * (l % 16)) 2).testBit (q % 16)

/-- Whether column `c` fires a dot at die position `q`. -/
def columnFires (bm : BandMap) (die c l q : Nat) : Bool :=
  q % 2 == c % 2 &&
  (match posAssign bm.solo bm.states die q with
   | .shared => (maskBit bm l q) == decide (c < 2)
   | .primary => decide (c < 2)
   | .twin => decide (2 ≤ c)
   | .dead => false)

/-- A row's dots on a raster line of a job, and the band's overrides. -/
def rowDots (j : Job) (row l : Nat) : Nat × List (Nat × Nat) :=
  match j.bands.getD (l / 64) none with
  | some b => ((if row = 0 then b.black else b.red).getD (l % 64) 0, b.overrides)
  | none => (0, [])

/-- The nozzles that one die fires at a clock line of a ticket, in web mode (R434). -/
def firedAt (s : State) (t : Ticket) (j : Job) (n die : Nat) : List Nat :=
  (List.range 4).flatMap (fun c =>
    let off := dieOffset s die + colOffset s die c
    if n < off ∨ j.lines ≤ n - off then [] else
    let l := n - off
    let bm := match t.maps.find? (fun m => m.key == 4 * (l / 64) + die) with
      | some m => m
      | none => bandMap s (4 * (l / 64) + die)
    let (bits, ov) := rowDots j (die / 2) l
    let qs := filledDots s bm die l (dieShare s die l bits ov) bm.fill
    (qs.filter (columnFires bm die c l)).map (fun q => nozIndex die c (q / 2)))

/-- One fire more in an 8-bit delta; beyond 255 what it holds is a free value (R437; DESIGN CHOICE, log entry 158). -/
def deltaUp (d : Byte) (i : Nat) : Byte := if d = 0xFF then Config.deltaOver i else d + 1

/-- The Fife's 8-bit deltas count each fire (R437). -/
def countFires (f : Fife) (fired : List Nat) : Fife :=
  { f with deltas := fired.foldl (fun m i => assocSet m i (deltaUp ((find? m i).getD 0) i)) f.deltas }

end Sys2Proof.Machine
end

