-- ==== Sys2Proof/Machine/SchedOps.lean ====
section
/-! DEFINITION. The Saffron scheduler: usable energy and refill (R360, R376), the admission of bands (R374 to R382), the
holds of paper and energy (R380, R415), the commands of R283, and the choice of the next ticket (R383 to R385). -/

namespace Sys2Proof.Machine

/-! ### Rates (R402, R403, R375, R378) -/

/-- f100 in lines/s. -/
def f100 (s : State) : Nat := min (pv s.params 0x0710) (maxLineRate s.otp)
def rateOf (s : State) (step : Nat) : Nat := f100 s * step / 100

/-- What the square of the line rate, in (lines/s)^2, gains or loses over `n` lines at MOT_FEED_ACCEL, with a line pitch of
25.4 mm / 600 (R402). -/
def rateGain (s : State) (n : Nat) : Nat := 2 * pv s.params 0x0711 * 600000 * n / 254

/-- D_stop of a step: ceil (v^2 / 2a) + 2 lines, with a line pitch of 25.4 mm / 600. -/
def dStop (s : State) (step : Nat) : Nat :=
  ceilDiv ((f100 s * step) ^ 2 * 254) (10000 * 2 * pv s.params 0x0711 * 600000) + 2

def admissionLead (s : State) (step : Nat) : Nat := ceilDiv (dStop s step) 64 + 1

/-- The allowed steps, highest first; a CALIB factory alarm leaves 35 % alone until each converter has a VALID slot
(R167). -/
def allowedSteps (s : State) : List Nat :=
  if alarmed s.otp 5 && !(validSlot s.otp 0 && validSlot s.otp 1) then [35]
  else [100, 75, 50, 35].filter (fun p => decide (f100 s * p ≤ 100 * maxLineRate s.otp))

def raiseStep (p : Nat) : Nat := if p = 35 then 50 else if p = 50 then 75 else 100

/-! ### Energy (R360, R367, R374, R376, R427) -/

/-- The usable energy of a squared voltage, in J. -/
def usableOf (s : State) (v2 : Rat) : Rat :=
  let vmin : Rat := (pv s.params 0x0607 : Nat) / (10 : Rat)
  max 0 ((cRes s.otp : Rat) / 1000000 * (v2 - vmin * vmin) / 2)

def eUsable (s : State) : Rat := let v := vRes (reading s 24).code.toNat; usableOf s (v * v)

/-- E_full: E_u at the lower of V_CEIL and SAF_VRES_CHG. -/
def eFull (s : State) : Rat :=
  let chg : Rat := (pv s.params 0x060C : Nat) / (10 : Rat)
  let ceil2 : Rat := if cRes s.otp = 0 then 0 else 2 * (eMax s.otp : Rat) * 1000 / (cRes s.otp : Rat)
  usableOf s (min (min ceil2 2304) (chg * chg))

/-- Channels whose staleness stops admission (R25). -/
def freshAll (s : State) : Bool := [16, 17, 18, 19, 24, 25, 26].all (fun c => !stale s c)

/-- The charger may be enabled (R367). -/
def chargerAllowed (s : State) : Bool :=
  !s.saf.disch && saffronCh s.seq (bootCharger s.otp) && (chRun s.seq (bootCharger s.otp)).released && !s.saf.tripped &&
  [24, 25, 26].all (fun c => !stale s c) && !alarmed s.otp 4 &&
  (decide (s.pwr.st = .run) || decide (s.pwr.st = .doze))

/-- The reservoir counts as full (R382). -/
def reservoirFull (s : State) : Bool :=
  s.saf.tripped || (!stale s 24 && decide (((pv s.params 0x060C * 98 : Nat) : Rat) / 1000 ≤ vRes (reading s 24).code.toNat))

/-- A repeat of a HEAD_ENERGY, its energy and its reference run, for which the charger is released, is under way. There are
CAL_HEAD_REPEATS, and each starts with the reservoir full (R506). No command shows its start or its end: at each look, a free value
(log entry 167). -/
def energyRun (s : State) : Bool × State :=
  if !headEnergyRuns s then (false, s) else
  let (b, u) := drawBit s
  if s.saf.inRun then (!b, { u with saf := { s.saf with inRun := !b } })
  else if b && reservoirFull s && decide (s.saf.energyRuns < pv s.params 0x0C06) then
    (true, { u with saf := { s.saf with inRun := true, energyRuns := s.saf.energyRuns + 1 } })
  else (false, u)

/-- The charger follows its conditions (R367, R506); between a VINFAIL trip and its release no enable changes (R139). -/
def updateCharger (s : State) : State :=
  if s.seq.frozen then s else
  let (run, s) := energyRun s
  if chargerAllowed s && !run && coreRuns s then (if s.saf.charger then s else dropHisGate (seqReq s 0 enableCharger))
  else if s.saf.charger then (if coreRuns s then seqReq s 0 releaseCharger else releaseCharger s) else s

/-- The refill in W (R376). -/
def refill (s : State) : Rat :=
  if !chargerAllowed s then 0 else
  max 0 (min ((pv s.params 0x0604 : Nat) / (10 : Rat))
    ((pv s.params 0x0605 : Nat) / (100 : Rat) * (((s.saf.alloc : Nat) : Rat) - ((pv s.params 0x0606 : Nat) : Rat)) / 10))

/-- The drop energy of a die in uJ, E_CAL or the parameter, scaled at the die's reading (R427). -/
def eDrop (s : State) (d : Nat) : Rat :=
  let e : Nat := match s.cal.head.getD d none with
    | some h => h.eCal
    | none => pv s.params (0x083C + d)
  let sc : Nat := match dieTemp s d with
    | some t => scaleAt s t
    | none => 256
  (e * sc : Nat) / (25600 : Rat)

def lineEnergy (s : State) (d : Nat) : Rat :=
  ((pv s.params 0x0811 : Nat) : Rat) + (if (warmNow s []).getD d false then (2112 * pv s.params 0x0812 : Nat) / (1000 : Rat) else 0)

/-- One die's share of a band's energy, in J (R374). -/
def dieEnergy (s : State) (b : Band) (d : Nat) : Rat :=
  (((b.dots.getD d 0 : Nat) : Rat) * eDrop s d + ((b.lines : Nat) : Rat) * lineEnergy s d) / 1000000

def bandEnergy (s : State) (b : Band) : Rat := ((activeDies s).map (dieEnergy s b)).foldl (· + ·) 0

/-- time (n, s): at least this long the band lasts (R376, R377). -/
def bandTime (s : State) (b : Band) (step : Nat) : Rat := ((b.lines * 100 : Nat) : Rat) / ((max 1 (f100 s * step) : Nat) : Rat)

/-! ### The thermal model (R379) -/

def cutoffT (s : State) : Rat := ((min (pvBand s.params 0x0610) (tDieHard s.otp) : Nat) : Rat)

/-- The reading of SAF_TAMB_CH in °C: a die's sensor by R426, the junction sensor by the channel table; what another channel's
code means in °C the spec does not say, and is a free value (log entry 157). -/
def ambientT (s : State) : Rat :=
  let ch := pv s.params 0x0613
  let code := (reading s ch).code.toNat
  if ch = 20 then 25 + (((code : Int) - 1556 : Int) : Rat) * 100 / 512
  else if 16 ≤ ch ∧ ch ≤ 19 then tsTemp s code
  else Config.ambient ch code

/-- 1 + x/k (1 + x/(k+1) (1 + ...)), over `n` terms. -/
def expTail (x : Rat) : Nat → Nat → Rat
  | 0, _ => 1
  | n + 1, k => 1 + x / (k : Rat) * expTail x n (k + 1)

/-- exp (-x) for x at or above 0: one over 40 terms of the series of exp x (DESIGN CHOICE, log entry 10). -/
def expNeg (x : Rat) : Rat := 1 / expTail x 40 1

/-- t_end of R379 for a die at `td` that takes `p` W for `t` seconds. -/
def endTemp (s : State) (td p t : Rat) : Rat :=
  let x := expNeg (t * 1000 / ((pv s.params 0x0612 : Nat) : Rat))
  let rth : Rat := (pv s.params 0x0611 : Nat) / (100 : Rat)
  ambientT s + (td - ambientT s) * x + rth * p * (1 - x)

def thermalOk (s : State) (b : Band) (step : Nat) : Bool :=
  (activeDies s).all (fun d => match dieTemp s d with
    | some td => let t := bandTime s b step
                 decide (endTemp s td (dieEnergy s b d / t) t ≤ cutoffT s)
    | none => false)

/-- Every die of a list reads below the cutoff (R379, R458). -/
def belowCutoff (s : State) (dies : List Nat) : Bool :=
  dies.all (fun d => match dieTemp s d with
    | some t => decide (t < cutoffT s)
    | none => false)

/-- Every active die reads at least 5 °C below the cutoff (R381). -/
def diesCooled (s : State) : Bool :=
  (activeDies s).all (fun d => match dieTemp s d with
    | some t => decide (t + 5 ≤ cutoffT s)
    | none => false)

/-- Every active die reads below its cutoff less 5 °C (R382). -/
def diesBelow (s : State) : Bool :=
  (activeDies s).all (fun d => match dieTemp s d with
    | some t => decide (t < cutoffT s - 5)
    | none => false)

/-! ### Holds (R380, R415) -/

/-- Homing, a stub or a resync feed is pending. -/
def clearingPending (s : State) : Bool :=
  !s.motion.stubs.isEmpty || s.motion.homingCut || s.motion.homingSled || s.motion.waitStill ||
  s.motion.feed == .stub || s.motion.feed == .resync || s.motion.resyncDue || s.motion.cutting.isSome

/-- The sled does not bar a ticket: it is at MOT_SLED_PARK, or homed with the head capped, for a ticket's start uncaps it first
(R412, R415); a carriage has no sled to park. -/
def sledParked (s : State) : Bool :=
  carriage s || s.motion.sledPos == some (pv s.params 0x0732) || (s.motion.capped && s.motion.sledPos.isSome)

/-- The paper is held (R415). -/
def paperHold (s : State) : Bool :=
  paperOut s || coverOpen s || s.motion.posFault || clearingPending s || s.motion.disabled != 0 || !cutHome s ||
  !sledParked s

def actionRuns (s : State) : Bool := s.saf.actions.any (·.started)

/-- The conditions of R380 that a job shows as HELD_ENERGY. -/
def energyHold (s : State) : Bool :=
  !freshAll s || s.saf.disch || !fireRailsGood s.seq || alarmed s.otp 4 || actionRuns s

/-- The conditions of R380, and the cutoff of R379. -/
def admitNothing (s : State) : Bool := energyHold s || paperHold s || !belowCutoff s (activeDies s)

/-- What a held job shows (R384); where both kinds hold, HELD_ENERGY (R306; DEDUCED, log entry 116). -/
def holdCode (s : State) : Half :=
  BitVec.ofNat 16 (if paperHold s && !s.saf.hold && fireRailsGood s.seq then stHeldPaper else stHeldEnergy)

/-- The HOLD field of a job (R294, R299): a PRINTING ticket that is paused shows what holds it now (R381, R415). -/
def shownHold (s : State) (j : Job) : Half :=
  match s.saf.ticket with
  | some t => if t.job = j.id ∧ t.paused ∧ j.st = .printing then holdCode s else j.hold
  | none => j.hold

/-! ### Admission (R374 to R376, R382) -/

def bandOf (j : Job) (n : Nat) : Option Band := j.bands.getD n none

/-- The lines of a swath in carriage mode (R416). -/
def swathLines (s : State) : Nat := pv s.params 0x0755

/-- The band that clock line `n` belongs to on the column of least offset, where a band begins (R375, R434). -/
def bandAt (s : State) (n : Nat) : Nat := (n - minOffset s) / 64

/-- The band of the clock line to come; in carriage mode the first of the swath. -/
def nextBand (s : State) (t : Ticket) : Nat := if carriage s then s.motion.swath * swathLines s / 64 else bandAt s t.clockLine

/-- Bands of the ticket that the Fife has started before the clock line to come (R375). -/
def begunBands (s : State) (t : Ticket) : Nat :=
  if carriage s then nextBand s t else (t.clockLine - minOffset s + 63) / 64

/-- Every column has fired band `b` before clock line `n`, in carriage mode before the swath that runs (R23, R434). -/
def bandFired (s : State) (b n : Nat) : Bool :=
  if carriage s then decide (64 * (b + 1) ≤ s.motion.swath * swathLines s) else decide (64 * (b + 1) + maxOffset s ≤ n)

/-- The energy projected to the start of band `n`: the usable energy now, less the admitted bands not yet fired in full
(DEDUCED, log entry 140), each with the energy fixed at its decision and its refill, limited to E_full (R374, R376). -/
def projected (s : State) (j : Job) (t : Ticket) (n : Nat) : Rat :=
  (List.range n).foldl (fun e k =>
    if bandFired s k t.clockLine then e else
    match bandOf j k with
    | some b => min (e - t.energy.getD k 0 + refill s * bandTime s b (t.admitted.getD k 35)) (eFull s)
    | none => e) (eUsable s)

def fits (s : State) (e : Rat) (b : Band) (step : Nat) : Bool :=
  decide (0 ≤ e - bandEnergy s b + refill s * bandTime s b step) && thermalOk s b step

/-- The step at which a band is admitted, from `top` down; or none (R376, R382). -/
def admitStep (s : State) (j : Job) (t : Ticket) (n top : Nat) : Option Nat :=
  if admitNothing s then none else
  match bandOf j n with
  | none => none
  | some b =>
    let steps := (allowedSteps s).filter (fun p => decide (p ≤ top))
    match steps.find? (fits s (projected s j t n) b) with
    | some p => some p
    | none =>
      if !((allowedSteps s).any (fits s (eFull s) b)) && reservoirFull s && diesBelow s then some 35 else none

def totalBands (j : Job) : Nat := (j.lines + 63) / 64

/-- The bands that must have been decided once `begun` bands have started: in web mode those and the lead, in carriage mode
every band of the swath (R375, R417). -/
def decideTarget (s : State) (j : Job) (t : Ticket) (begun : Nat) : Nat :=
  if carriage s then min (totalBands j) ((s.motion.swath + 1) * swathLines s / 64)
  else min (totalBands j) (begun + admissionLead s t.step)

/-- Band `n`, the next to decide, is admitted at a step with its energy as it now stands (R374). -/
def admitBand (s : State) (j : Job) (t : Ticket) (p : Nat) : Ticket :=
  { t with
    admitted := t.admitted ++ [p], paused := false
    energy := t.energy ++ [((bandOf j t.admitted.length).map (bandEnergy s)).getD 0] }

/-- Decide bands in order up to a count; the first that fits no step pauses the ticket. -/
def decideBands (s : State) (j : Job) : Nat → Nat → Nat → Ticket → Ticket
  | 0, _, _, t => t
  | k + 1, target, top, t =>
    if target ≤ t.admitted.length then t else
    match admitStep s j t t.admitted.length top with
    | none => { t with paused := true }
    | some p => decideBands s j k target (raiseStep p) (admitBand s j t p)

def stepTop (t : Ticket) : Nat :=
  match t.admitted.getLast? with
  | some p => raiseStep p
  | none => 100

/-- Decide what `begun` started bands call for. A paused ticket goes on under R381 alone, and a cancelled one admits no
more (R298). -/
def decideOn (s : State) (j : Job) (t : Ticket) (begun : Nat) : Ticket :=
  if j.cancelling ∨ t.paused then t else decideBands s j 300 (decideTarget s j t begun) (stepTop t) t

/-! ### The feed -/

def encOf (s : State) (n : Nat) : Enc := s.motion.enc.getD n Enc.rest

/-- The line rate commanded at the boundary of clock line `n`: the rate of its band's step, which ramps up from the slower
band before it or from standstill, and down to the slower band after it or to the stop, all at MOT_FEED_ACCEL (R377, R402,
R404; one value for each boundary: DESIGN CHOICE, log entry 141). A carriage keeps its step's rate through a pass (R417). -/
def lineRate (s : State) (t : Ticket) (n : Nat) : Nat :=
  if carriage s then rateOf s (t.admitted.getD (nextBand s t) t.step) else
  let m := bandAt s n
  let k := (n - minOffset s) % 64
  let own := rateOf s (t.admitted.getD m t.step)
  let ramp (p d : Nat) : Nat := isqrt (min (own ^ 2) (rateOf s p ^ 2 + rateGain s d))
  let up := match m with
    | 0 => own
    | m' + 1 => ramp (t.admitted.getD m' t.step) k
  let down := match t.admitted[m + 1]? with
    | some p => ramp p (64 - k)
    | none => own
  let stop := match t.stopAt with
    | some x => ramp 0 (x - n)
    | none => own
  min (min up down) (min (ramp 0 (n + 1 - t.feedFrom)) stop)

/-- The motor that a feed runs: M0, and for a pass of the carriage M2 (R401, R416). -/
def feedMotor (s : State) (use : FeedUse) : BitVec 3 := if carriage s && use == .ticket then 4 else 1

/-- The feed starts: its motor is enabled, and each estimator begins afresh (R391, R401). -/
def feedStart (s : State) (use : FeedUse) (rate : Nat) : State :=
  let s := raiseEn s (feedMotor s use)
  { s with motion := { s.motion with
    feed := use, rate := rate, slow := none
    enc := s.motion.enc.map (fun e => { e with
      lastT := none, edges := 0, intervals := [], synthRun := 0, extrapLines := 0, lastRawT := none, fastRun := 0 }) } }

/-- The furthest position starts again where the paper is, as a ticket starts (R406). -/
def fromHere (s : State) : State :=
  { s with motion := { s.motion with enc := s.motion.enc.map (fun e => { e with furthest := e.raw, stopPos := e.raw }) } }

/-! ### Feeds that are no ticket's (R402, R408, R411, R416) -/

/-- Where such a feed is: ENC0's count, or with POS_ENC0_ENABLE at 0 the lines it has run (R400). -/
def auxPlace (s : State) : Word :=
  if pv s.params 0x0702 = 0 then BitVec.ofNat 32 (s.motion.auxGone / 10000) else (encOf s 0).count

/-- Lines of paper since a place. -/
def linesSince (s : State) (c : Word) : Nat :=
  let n := (auxPlace s - c).toInt.toNat
  if pv s.params 0x0702 = 0 then n else n * 65536 / max 1 (pv s.params 0x0705)

/-- The rate that such a feed works up to: the ticket's own step to the blade and between swaths, else 35 % (R408, R411;
DEDUCED, log entry 160). -/
def auxStep (s : State) (use : FeedUse) : Nat :=
  match use, s.saf.ticket with
  | .toBlade, some t => t.step
  | .advance, some t => t.step
  | _, _ => 35

/-- The rate commanded now: the feed's own, on the ramp up from where it began and down to where it ends (R402; log entry
160). -/
def auxRate (s : State) (use : FeedUse) : Nat :=
  let own := rateOf s (auxStep s use)
  let up := isqrt (s.motion.auxV0 ^ 2 + rateGain s (linesSince s s.motion.auxRamp + 1))
  let down := isqrt (rateGain s (max 1 (s.motion.auxLines - linesSince s s.motion.auxFrom)))
  min own (min up down)

/-- The count of a feed's lines begins here, at a rate (R402). -/
def auxFromHere (s : State) (rate lines : Nat) : State :=
  let c := auxPlace s
  { s with motion := { s.motion with auxFrom := c, auxRamp := c, auxV0 := rate, auxLines := lines } }

/-- A feed of some lines begins from standstill (R402). -/
def auxStart (s : State) (use : FeedUse) (lines : Nat) : State :=
  let s := auxFromHere { s with motion := { s.motion with auxGone := 0 } } 0 lines
  feedStart s use (auxRate s use)

/-- Such a feed follows its ramp as the paper moves, unless it decelerates to rest (R402); the feed between swaths ends after
its lines (R416), and R406 counts from where it stops. -/
def auxFollow (s : State) : State :=
  let m := s.motion
  if m.rate = 0 ∨ m.slow.isSome ∨ m.feed = .idle ∨ m.feed = .ticket then s
  else if m.feed = .advance ∧ m.auxLines ≤ linesSince s m.auxFrom then fromHere (stopFeed s .advance)
  else { s with motion := { m with rate := auxRate s m.feed } }

/-- A feed that DISCH stopped, or has begun to, goes on with its release; a FEED has ended (R310, R415). -/
def resumeFeed (s : State) : State :=
  let m := s.motion
  if (m.rate ≠ 0 ∧ m.slow.isNone) ∨ (m.feed ≠ .toBlade ∧ m.feed ≠ .stub ∧ m.feed ≠ .resync) then s else
  let s := { s with motion := { m with auxRamp := auxPlace s, auxV0 := m.rate, slow := none } }
  if m.rate = 0 then feedStart s m.feed (auxRate s m.feed)
  else raiseEn { s with motion := { s.motion with rate := auxRate s m.feed } } 1

/-! ### Commands of R283 -/

/-- All positions of the dies, as (die, position). -/
def positionsOn (dies : List Nat) : List (Nat × Nat) := dies.flatMap (fun d => (List.range 1056).map (fun q => (d, q)))

/-- The DEAD positions of the dies (R445). -/
def deadOn (m : List (Nat × Nat)) (dies : Nat) : Nat := ((positionsOn (bitsOf 4 dies)).filter (fun p => posDead m p.1 p.2)).length

/-- The COMMAND_DONE result of an action that ends before it has begun (R310, R445). -/
def emptyResult (s : State) (a : Action) : List Byte :=
  if a.opcode = 0x0701 then [byteAt a.payload 0, 0, 0, 0, 0, 0] ++ b16 (deadOn s.noz.states (byteAt a.payload 0).toNat)
  else if a.opcode = 0x0704 then [byteAt a.payload 0, byteAt a.payload 1, 0, 0]
  else if a.opcode = 0x0706 then [0, 0, 0, 0]
  else [byteAt a.payload 0, byteAt a.payload 1, 0xFF, 0, 0, 0, 0, 0]

/-- End a running action with FAULT: its result, then DETAIL and INDEX. -/
def failAction (s : State) (a : Action) (detail index : Nat) : State :=
  endAction s a.opcode.toNat stFault (emptyResult s a ++ faultDetail detail index)

/-- Take the cap off: the sled returns to park, and a spit is due where the head was capped for NOZ_UNCAP_SPIT or longer
(R412, R459). -/
def uncap (s : State) : State :=
  if !s.motion.capped then s else
  let long := pv s.params 0x0915 != 0 && decide (pv s.params 0x0915 * 1000000 ≤ since s s.motion.capTime)
  sledTo { s with motion := { s.motion with capped := false, uncapSpit := s.motion.uncapSpit || long } } (pv s.params 0x0732)

/-- The sled sets out, with M2 enabled, on a path of positions (R401, R412). -/
def sledGoes (s : State) (path : List Nat) : State :=
  raiseEn { s with motion := { s.motion with sledPath := path } } 4

/-- The selection entry of a calibration and target (R307): 0 ADC_A, 1 ADC_B, 2 AO_RC, 3 FADC, 4 DG_LED, 5 to 8 LED0 to
LED3, 9 to 12 the dies. -/
def calIndex (code target : Nat) : Nat := if code = 7 then 9 + target else if code = 6 then 5 + target else code - 1

/-- A calibration starts: its element uses its trial selection, which begins with the nominal codes that R500 counts from
(DEDUCED, log entry 166), and it borrows the converter it measures or measures with (R29, R498, R499). AO_RC waits for a coarse trim
code that stands. HEAD_ENERGY sends the sled to the row's gate position (R506). -/
def startCal (s : State) (a : Action) : State :=
  let code := (byteAt a.payload 0).toNat
  let sel := (Cal.romActive[calIndex code (byteAt a.payload 1).toNat]?).map (·.sel)
  let s := aoWait { s with
    cal := { s.cal with trial := sel, aoHeld := false, aoSince := now s }
    params := { s.params with atCal := some s.params.committed }
    saf := { s.saf with energyRuns := 0, inRun := false } }
  if code = 7 then
    match firstBadRail s.seq with
    | some n => refuseCal s a 0x0007 n
    | none =>
      if s.saf.disch then refuseCal s a 0x0008 0
      else if s.motion.disabled.toNat.testBit 2 then refuseCal s a 0x0003 2
      else if s.motion.sledPos.isNone then refuseCal s a 0x0004 2
      else sledGoes (uncap s) [pv s.params (0x0901 + (byteAt a.payload 1).toNat / 2), pv s.params 0x0732]
  else if code = 3 ∨ code = 4 then s
  else deriveTrip { s with hub := { s.hub with borrowed := if code = 1 then 1 else 2 } }

/-- The FEED command refuses to run under the holds of R415 (R310): paper or cover first, then a driver, then the home
sensor; while DISCH is asserted no cut starts. A position fault does not bar it (R408). -/
def feedFault (s : State) : Option (Nat × Nat) :=
  if paperOut s || coverOpen s || s.saf.disch then some (0x0009, maskOf [paperOut s, coverOpen s])
  else if s.motion.disabled.toNat.testBit 0 then some (0x0003, 0)
  else if s.motion.disabled.toNat.testBit 1 then some (0x0003, 1)
  else if !cutHome s then some (0x0004, 1)
  else (firstBadRail s.seq).map (fun n => (0x0007, n))

/-- A scan's path: the rows that hold the dies, and back (R444). -/
def scanPath (s : State) (dies : List Nat) : List Nat :=
  ([0, 1].filter (fun r => dies.any (fun d => d / 2 == r))).map (fun r => pv s.params (0x0901 + r)) ++ [pv s.params 0x0732]

/-- A service routine's path (R457). -/
def servicePath (s : State) (routine : Nat) : List Nat :=
  let park := pv s.params 0x0732
  let spit := pv s.params 0x0735
  let wipe := [pv s.params 0x0734, pv s.params 0x0734 + pv s.params 0x0914, pv s.params 0x0734, spit, park]
  if routine = 1 then [spit, park]
  else if routine = 2 then wipe
  else if routine = 3 then [pv s.params 0x0733]
  else if routine = 4 then [park]
  else spit :: wipe

/-- The lines that a routine fires, and those that it fires after a wipe (R457). -/
def serviceLines (s : State) (routine : Nat) : Nat × Nat :=
  if routine = 1 ∨ routine = 2 then (pv s.params 0x0912, 0)
  else if routine = 5 then (pv s.params 0x0913, pv s.params 0x0912) else (0, 0)

/-- A scan starts: it holds the committed values, waits for its dies to cool and sends the sled its way (R444, R458). -/
def beginScan (s : State) (a : Action) : State :=
  let dies := bitsOf 4 (byteAt a.payload 0).toNat
  let sel (k : Nat) : List Nat := ((s.cal.active[k]?).map (·.sel)).getD []
  let cool := belowCutoff s dies
  sledGoes { uncap s with
    params := { s.params with atScan := some s.params.committed }
    noz := { s.noz with
      scan := some { dies, part := byteAt a.payload 1 == 1, auto := a.ctx.isNone, yield := false
                     wait := if cool then none else some (now s), ran := cool }
      marked := [], gateFadc := sel 3, gateLed := sel 4 }
    motion := { (uncap s).motion with sinceScan := if a.ctx.isSome then 0 else s.motion.sinceScan } }
    (scanPath s dies)

/-- A service routine starts: it holds the lines it fires and sends the sled its way (R457). -/
def beginService (s : State) (a : Action) : State :=
  let routine := (byteAt a.payload 0).toNat
  let moves := decide (routine = 3 ∨ routine = 4)
  let s := if routine = 3 then s else uncap s
  let (left, after) := serviceLines s routine
  let v : SvcRun :=
    { routine, dies := bitsOf 4 (byteAt a.payload 1).toNat, left, after, firing := 0, due := 0, wait := none }
  sledGoes { s with
    noz := { s.noz with service := some v }
    motion := { s.motion with sinceSpit := if moves then s.motion.sinceSpit else 0 } }
    (servicePath s routine)

/-- Start a waiting command of R283. -/
def startAction (s : State) (a : Action) : State :=
  let a' := { a with started := true }
  let s := { s with saf := { s.saf with dischHit := false, railHit := false, actions := s.saf.actions.map (fun b => if b = a then a' else b) } }
  if a.opcode = 0x0601 then startCal s a'
  else if a.opcode = 0x0706 then
    match feedFault s with
    | some (d, i) => failAction s a' d i
    | none => auxStart { s with motion := { s.motion with synthInResync := false } } .command (fieldAt a.payload 0 2)
  else
    match firstBadRail s.seq with
    | some n => failAction s a' 0x0007 n
    | none =>
      if s.saf.disch then failAction s a' 0x0008 0
      else if s.motion.disabled.toNat.testBit 2 then failAction s a' 0x0003 2
      else if s.motion.sledPos.isNone then failAction s a' 0x0004 2
      else if a.opcode = 0x0701 then beginScan s a
      else beginService s a

/-- A command of the part's own, started at once. -/
def autoAction (s : State) (opcode : Half) (payload : List Byte) : State :=
  let a : Action := { opcode, ctx := none, seq := 0, payload, started := false }
  startAction { s with saf := { s.saf with actions := s.saf.actions ++ [a] } } a

def activeMask (s : State) : Byte := b8 (pv s.params 0x0801)
def autoSpit (s : State) : State := autoAction s 0x0704 [1, activeMask s, 0, 0]

/-! ### The groups of service firing (R458) -/

/-- A group of lines in which every nozzle of the dies fires, as Saffron judges it. -/
def serviceBand (dies : List Nat) (lines : Nat) : Band :=
  { lines, dots := (List.range 4).map (fun d => if dies.contains d then 2112 * lines else 0)
    black := [], red := [], maxDots := [], overrides := [], blocks := 0 }

/-- A group may fire: its dies are cool, and its energy fits at the 35 % step with nothing stale (R25, R376, R458). -/
def groupFits (s : State) (dies : List Nat) (lines : Nat) : Bool :=
  freshAll s && belowCutoff s dies && fits s (eUsable s) (serviceBand dies lines) 35

/-- Nothing more of a running scan or routine fires: DISCH has risen since it started, or a rail has been lost (R27, R447). -/
def firingHalted (s : State) : Bool := s.saf.disch || s.saf.dischHit || s.saf.railHit || !fireRailsGood s.seq

/-- A routine goes on: the group that has fired is counted, and the next is admitted, or waits; a group does not span the wipe
(R437, R457, R458). Before and after its last group the sled moves (R401). -/
def serviceGroup (s : State) (v : SvcRun) : State :=
  if v.firing ≠ 0 ∧ !reached s v.due then s else
  let s := addFires s (nozzlesOf v.dies) v.firing
  let s := if v.left = 0 then raiseEn s 4 else s
  let v := if v.left = 0 then { v with left := v.after, after := 0 } else v
  let n := min 64 v.left
  let v := if v.left = 0 then { v with firing := 0, wait := none }
    else if groupFits s v.dies n then
      { v with left := v.left - n, firing := n, due := now s + BitVec.ofNat 48 (200 * n), wait := none }
    else { v with firing := 0, wait := some (v.wait.getD (now s)) }
  { s with noz := { s.noz with service := some v } }

/-- Service firing and scan tests as time passes: a scan's tests wait while a selected die is too hot (R458). -/
def serviceTick (s : State) : State :=
  if firingHalted s then haltService s else
  match s.noz.service, s.noz.scan with
  | some v, _ => serviceGroup s v
  | none, some v =>
    let cool := belowCutoff s v.dies
    let s := if cool && v.wait.isSome then raiseEn s 4 else s
    { s with noz := { s.noz with scan := some { v with
        wait := if cool then none else some (v.wait.getD (now s)), ran := v.ran || cool } } }
  | none, none => s

/-! ### The order of tickets (R383, R384) -/

def effClass (j : Job) : Nat := if j.prio = 2 ∧ j.aged then 1 else j.prio

/-- The contexts from the one after the last served. -/
def rrOrder (last : Nat) : List Nat := (List.range 12).map (fun i => (last + 1 + i) % 12)

/-- The contexts of a class in the order in which it serves them; 12 where it has served none yet. -/
def classOrder (s : State) (c : Nat) : List Nat := rrOrder (let l := s.saf.rr.getD c 12; if l = 12 then 11 else l)

def reprints (s : State) : List Job := s.jobs.interrupted.filterMap (jobOf s)
def notReprints (s : State) : List Job := s.jobs.live.filter (fun j => !s.jobs.interrupted.contains j.id)

/-- Jobs in the order of R383: reprints in the order of interruption, then the classes, each round-robin by context and
by job ID within one. -/
def orderedJobs (s : State) : List Job :=
  reprints s ++ (List.range 3).flatMap (fun c =>
    (classOrder s c).flatMap (fun x => (notReprints s).filter (fun j => effClass j == c && j.ctx.val == x)))

/-- The order in which tickets would print if each were READY at its turn: reprints first, and within a class one job of
each context in turn (R355, R383). A context has at most 64 jobs (R234). -/
def renderOrder (s : State) : List Job :=
  let waits (j : Job) : Bool := [JobSt.queued, .rendering, .ready].contains j.st
  reprints s ++ (List.range 3).flatMap (fun c => (List.range 64).flatMap (fun i =>
    (classOrder s c).filterMap (fun x =>
      ((notReprints s).filter (fun j => waits j && effClass j == c && j.ctx.val == x))[i]?)))

/-- The bound of R356 on the rendering that remains, in us: the coded lines of a raster not yet decoded, or what was left
of a description less the time since then, which does not count while it waits for blocks. A raster whose header has not come is
not bounded (log entry 148). -/
def renderBound (s : State) (j : Job) : Option Nat :=
  match j.dec with
  | some d =>
    let rows := if d.rows = 3 then 2 else 1
    if d.headerDone then
      some (25 * (rows * (d.linesTotal - 64 * d.band) - (if d.bandOpen then rows * (min 64 (d.linesTotal - 64 * d.band)) - d.left else 0)))
    else none
  | none => some (if j.wait then j.rendLeft else j.rendLeft - since s j.rendAt)

/-- Saffron waits for a job that is RENDERING: what remains is bounded within SAF_RENDER_WAIT, and the wait for it has not
run out (R384). -/
def worthWait (s : State) (j : Job) : Bool :=
  j.st == .rendering && !s.saf.spent.contains j.id && (match renderBound s j with
    | some u => decide (u ≤ 1000 * pv s.params 0x0621)
    | none => false)

/-- What the boundary finds: a job to start, a RENDERING job to wait for, or nothing. -/
inductive Pick where
  | start (j : Job)
  | wait (id : Nat)
  | none
deriving DecidableEq, Repr

def pickFrom (s : State) : List Job → Pick
  | [] => .none
  | j :: js =>
    if j.st = .ready then .start j
    else if worthWait s j then .wait j.id
    else pickFrom s js

def setHold (s : State) (id : Nat) (h : Half) : State := modJob s id (fun j => { j with hold := h })

/-- The READY job that heads the order shows what holds it; the READY jobs behind it show nothing (R384). -/
def holdHead (s : State) (id : Nat) : State :=
  let h := holdCode s
  { s with jobs := { s.jobs with
      live := s.jobs.live.map (fun j => if j.st = .ready then { j with hold := if j.id = id then h else 0 } else j) } }

/-- The step, the line count and the job are posted to Clove at each band boundary (R380). -/
def postBand (s : State) (step id : Nat) : State :=
  seqReq s 0 (fun s =>
    { s with saf := { s.saf with postStep := b8 step, postLine := s.fife.lineCnt, postJob := BitVec.ofNat 32 id } })

/-- The ticket's last line has fired: the job is CUTTING, and the feed carries on to the blade, from the rate at which it
runs (R402, R411). -/
def endFiring (s : State) (j : Job) : State :=
  let s := setJobState (modJob s j.id (fun j => { j with bands := [] })) j.id .cutting 0
  let s := raiseEn { s with motion := { s.motion with feed := .toBlade, auxGone := 0 } } 1
  let s := auxFromHere s (if carriage s then 0 else s.motion.rate) (pv s.params 0x0720)
  { s with motion := { s.motion with rate := auxRate s .toBlade } }

def startedTicket (t : Ticket) (p : Nat) : Ticket := { t with step := p }

/-- The ticket starts where its first band is admitted: PRINTING, the head ports enabled, the feed started (R22, R375,
R398, R420); otherwise the job stays READY and shows what holds it (R384). A ticket of no line has no band to be admitted: it
starts where nothing of R380 holds (DESIGN CHOICE, log entry 60). -/
def startTicket (s : State) (j : Job) : State :=
  let s := latchBandNow { s with params := { s.params with atTicket := s.params.committed } }
  let s := if sledReady s then uncap s else s
  if s.motion.uncapSpit && !admitNothing s then autoSpit s else
  let t0 : Ticket :=
    { job := j.id, clockLine := 0, feedFrom := 0, admitted := [], energy := [], step := 100, paused := false, hot := false, stopAt := none, restart := true
      lastScale := scalesNow s [], warm := warmNow s [], maps := [] }
  let s := { s with motion := { s.motion with pass := 0, swath := 0 } }
  let t := decideBands s j 300 (decideTarget s j t0 0) 100 t0
  match t.admitted with
  | [] =>
    if j.lines ≠ 0 ∨ admitNothing s then holdHead s j.id else
    endFiring (setJobState { s with saf := { s.saf with ticket := some t } } j.id .printing 0) j
  | p :: _ =>
    if carriage s && decide (t.admitted.length < decideTarget s j t0 0) then holdHead s j.id else
    let s := { s with
      saf := { s.saf with
        ticket := some (startedTicket t p), awaiting := none, spent := []
        rr := s.saf.rr.set (effClass j) j.ctx.val }
      fife := { s.fife with started := none, waiting := none }
      jobs := { s.jobs with interrupted := s.jobs.interrupted.filter (· != j.id) }
      motion := { s.motion with b0 := (encOf s 0).count, feedSteps := 0, passEnc := (encOf s 0).raw } }
    let s := feedStart (fromHere s) .ticket (lineRate s (startedTicket t p) 0)
    let s := modJob s j.id (fun j => { j with reprintDue := false, fired := 0 })
    postBand (setJobHeld s j.id .printing 0 (if t.paused then holdCode s else 0)) p j.id

/-! ### What the dies hold (R298, R404, R433, R434) -/

/-- The raster lines that will fire: all of them, or those of the admitted bands once the job is cancelled (R298). -/
def ticketLines (t : Ticket) (j : Job) : Nat := if j.cancelling then min j.lines (64 * t.admitted.length) else j.lines

/-- Scan positions of a pass (R416). -/
def scanCount (s : State) : Nat := ceilDiv ((pv s.params 0x0753 - pv s.params 0x0752) * 65536) (pv s.params 0x0705)

/-- Clock lines of the ticket, or of a pass in carriage mode (R434, R436). -/
def clockLines (s : State) (t : Ticket) (j : Job) : Nat :=
  (if carriage s then scanCount s else ticketLines t j) + maxOffset s

/-- The clock lines below this number are held by every active die; none where all that remain are held (R417, R434). -/
def heldUpTo (s : State) (t : Ticket) (j : Job) : Option Nat :=
  if ticketLines t j ≤ 64 * t.admitted.length then none
  else if carriage s then (if decideTarget s j t 0 ≤ t.admitted.length then none else some 0)
  else some (64 * t.admitted.length + minOffset s)

/-- The ready margin, from the next line to fire to the last line held, exceeds a distance (R404, R405). -/
def marginOver (s : State) (t : Ticket) (j : Job) (d : Nat) : Bool :=
  match heldUpTo s t j with
  | none => true
  | some h => if carriage s then false else decide (t.clockLine + d + 1 < h)

/-- Active dies whose fresh reading is at or above T_DIE_HARD (R433). -/
def hotDies (s : State) : List Nat := (activeDies s).filter (fun d => match dieTemp s d with
  | some t => decide (((tDieHard s.otp : Nat) : Rat) ≤ t)
  | none => false)

/-- No pass is under way: the carriage stands before the first line of a swath's first pass. -/
def betweenSwaths (s : State) (t : Ticket) : Bool := s.motion.pass == 0 && t.clockLine == 0

/-- A PRINTING job is cancelled: Saffron admits no further band; where the last admitted line has already fired, firing
has ended (R298). -/
def cancelPrinting (s : State) (j : Job) : State :=
  let s := setHold (modJob s j.id (fun j => { j with cancelling := true })) j.id 0
  match s.saf.ticket, jobOf s j.id with
  | some t, some j =>
    let s := { s with saf := { s.saf with ticket := some { t with paused := false } } }
    let fired := if carriage s then betweenSwaths s t && decide (ticketLines t j ≤ s.motion.swath * swathLines s)
      else decide (clockLines s t j ≤ t.clockLine)
    if fired then endFiring s j else s
  | _, _ => s

/-- No job is QUEUED, RENDERING or READY (R446, R459). -/
def noneWaiting (s : State) : Bool := !anyJob s [.queued, .rendering, .ready]

/-- The paper may be cleared: it is there, the cover closed, the motors enabled, DISCH released, the cutter home and the sled
parked (R408, R415). -/
def stubMayRun (s : State) : Bool :=
  !s.motion.waitStill && !s.saf.disch && !paperOut s && !coverOpen s && s.motion.disabled == 0 && !s.motion.homingCut &&
  !s.motion.homingSled && cutHome s && sledParked s

/-- What of the paper's clearing is due: a stub's resync feed, or the next stub's feed to the blade (R408). -/
def clearPaper (s : State) : State :=
  if s.motion.resyncDue then
    auxStart { s with motion := { s.motion with resyncDue := false, synthInResync := false } } .resync (pv s.params 0x0741)
  else match s.motion.stubs with
    | (_, n, _) :: _ => auxStart s .stub n
    | [] => s

/-- A command of R283 waits for the homing of what it moves (R412). -/
def waitsForHome (s : State) (a : Action) : Bool :=
  if a.opcode = 0x0706 then s.motion.homingCut
  else s.motion.homingSled && (a.opcode != 0x0601 || byteAt a.payload 0 == 7)

/-- The feed motor, the cutter and the scheduler are free: nothing prints, is cut, cleared or run. -/
def atRest (s : State) : Bool :=
  coreRuns s && s.saf.ticket.isNone && !ticketActive s && !actionRuns s && s.motion.feed == .idle &&
  s.motion.cutting.isNone && s.pwr.entry.isNone

/-- An automatic scan is due (R446). -/
def autoScanDue (s : State) : Bool :=
  pv s.params 0x0910 != 0 && decide (pv s.params 0x0910 ≤ s.motion.sinceScan) && !s.noz.autoHold

/-- An automatic spit is due (R459). -/
def autoSpitDue (s : State) : Bool := pv s.params 0x0911 != 0 && decide (pv s.params 0x0911 ≤ s.motion.sinceSpit)

/-- No ticket can start now: the READY job that heads the order shows it (R384, R415, R495). -/
def showHead (s : State) : State :=
  match pickFrom s (orderedJobs s) with
  | .start j => holdHead s j.id
  | _ => s

/-- A ticket boundary (R283, R383, R408): stubs first, then the commands that wait, then the part's own service, then the
next ticket. A power-off that waits for the boundary keeps tickets from starting (R305). What starts is work, which ends
DOZE (R99). -/
def boundary (s : State) : State :=
  if !atRest s then
    (if coreRuns s && s.saf.ticket.isNone && !ticketActive s && s.pwr.entry.isNone then showHead s else s)
  else
  let s := { s with params := { s.params with atTicket := s.params.committed } }
  if s.motion.resyncDue || !s.motion.stubs.isEmpty then
    showHead (if stubMayRun s then clearPaper (wakeDoze s) else s)
  else
    match s.saf.actions.find? (fun a => !a.started) with
    | some a =>
      if waitsForHome s a then showHead s else
      let s := startAction (wakeDoze s) a
      if actionRuns s then showHead s else s
    | none =>
      if s.saf.deferOff ∨ clearingPending s then showHead s
      else if s.pwr.st = .run && noneWaiting s && autoSpitDue s then autoSpit s
      else if s.pwr.st = .run && noneWaiting s && autoScanDue s then autoAction s 0x0701 [activeMask s, 1, 0, 0]
      else match pickFrom s (orderedJobs s) with
        | .none => { s with saf := { s.saf with awaiting := none } }
        | .wait id => { s with saf := { s.saf with awaiting := some id } }
        | .start j => startTicket (wakeDoze s) j

/-- The boundary stands until something takes it: a command that fails as it starts leaves it to the next. -/
def boundaries : Nat → State → State
  | 0, s => s
  | n + 1, s => boundaries n (boundary s)

def schedule (s : State) : State := boundaries (s.saf.actions.length + 1) s

/-- What a job that becomes READY now waits for: the hold that the boundary gives it, where it heads the order and cannot
start (R249, R384). -/
def readyHold (s : State) (id : Nat) : Half :=
  match jobOf (schedule (modJob s id (fun j => { j with st := .ready, hold := 0 }))) id with
  | some j => if j.st = .ready then j.hold else 0
  | none => 0

/-- A job becomes READY: its context is told with what holds it, and a boundary that stands takes it up (R327, R384). -/
def becomeReady (s : State) (id : Nat) : State := schedule (setJobHeld s id .ready 0 (readyHold s id))

/-- The commands of R283 that a request has added start at once where a boundary stands. -/
def startWaiting (s : State) : State := if s.saf.actions.any (fun a => !a.started) then schedule s else s

/-- A deferred PWR_OFF begins its shutdown; where the rails are down already its outcome stands (R305). -/
def deferredOff (s : State) : State :=
  let s := powerDue (seqReq s 0x0504 offRequest)
  if s.seq.ph = .off ∨ s.seq.ph = .faultOff then endWaiters s none else s

/-- What a ticket boundary may free: a deferred power-off, an entry that a job held, and then the next ticket (R94, R305). -/
def afterTicket (s : State) : State :=
  if ticketActive s then s else
  let s := if s.fife.storeDue && coreRuns s then
      storeFires { s with fife := { foldDeltas s.fife with storeDue := false } } false else s
  let s := if s.saf.deferOff then deferredOff { s with saf := { s.saf with deferOff := false } } else s
  schedule (tryEnter s)

/-- A feed as 100 us pass: without ENC0 its lines count by its rate (R400), and its ramp with them; one that decelerates to rest
loses speed at MOT_FEED_ACCEL, and what it halted for goes on once it stands (R396, R402, R415; DESIGN CHOICE, log entry
159). -/
def feedTick (s : State) : State :=
  let bare := decide (pv s.params 0x0702 = 0)
  let s := if bare then { s with motion := { s.motion with auxGone := s.motion.auxGone + s.motion.rate } } else s
  match s.motion.slow with
  | some (t, v) =>
    let lost := pv s.params 0x0711 * 6 * since s t / 2540
    if lost < v then { s with motion := { s.motion with rate := v - lost } }
    else afterTicket (stopFeed s (if s.motion.feed = .halt then .idle else s.motion.feed))
  | none => if bare then auxFollow s else s

end Sys2Proof.Machine
end

