-- ==== Sys2Proof/Machine/Gate.lean ====
section
/-! DEFINITION. The drop gate: what a shadow says of a drop (chapter 15, "One nozzle test"; R440, R441), and the set-up of the gate
(R439). -/

namespace Sys2Proof.Machine

/-- One of the whole numbers next to a value; which one, the spec does not say (log entry 150). -/
def roundAny (s : State) (x : Rat) : Int × State :=
  if x = (x.floor : Rat) then (x.floor, s) else let (up, s) := drawBit s; (if up then x.floor + 1 else x.floor, s)

/-- The window's length in samples of 100 ns. -/
def winSamples (s : State) : Nat := 10 * pv s.params 0x0907

def codeSum (l : List Byte) : Int := l.foldl (fun a b => a + (b.toNat : Int)) 0

/-- 16 d of window sample `i`: the mean of 16 samples less the mean of four, which are not rounded (DEDUCED, log entry 164). -/
def dip (d : Shadow) (i : Nat) : Int := codeSum d.before - 4 * codeSum (slice d.win i 4)

/-- The window samples at which the drop shadows the beam. -/
def hits (s : State) (d : Shadow) : List Bool :=
  (List.range (winSamples s)).map (fun i => decide (((16 * pv s.params 0x0908 : Nat) : Int) ≤ dip d i))

/-- A drop has all its samples. -/
def Shadow.whole (s : State) (d : Shadow) : Bool := d.before.length == 16 && d.win.length == winSamples s + 3

/-- A test has run to its end: NOZ_SCAN_DROPS drops. -/
def testWhole (s : State) (drops : List Shadow) : Bool :=
  drops.length == pv s.params 0x0904 && drops.all (Shadow.whole s)

/-- The eye: the window samples at which every drop shadowed the beam (R440). -/
def eyeOf (s : State) (drops : List Shadow) : Nat :=
  let h := drops.map (hits s)
  ((List.range (winSamples s)).filter (fun i => h.all (fun l => l.getD i false))).length

/-- Every drop was detected. -/
def allSeen (s : State) (drops : List Shadow) : Bool := drops.all (fun d => (hits s d).any id)

/-- The verdict of a test (R441): 3 BAD, 1 WEAK, 0 GOOD. -/
def verdict (s : State) (drops : List Shadow) : Nat :=
  let eye := eyeOf s drops
  if !allSeen s drops ∨ eye < pv s.params 0x090A then 3 else if eye < pv s.params 0x0909 then 1 else 0

/-- The search of the LED current in 0.25 mA, from 2.00 to 40.00 mA, halving what remains at each step, for a baseline from 160
to 224 codes, which rises with the current (R439; DEDUCED, log entry 164). -/
def ledSearch : Nat → Nat → Nat → List Byte → Option Nat
  | 0, _, _, _ => none
  | _, _, _, [] => none
  | n + 1, lo, hi, b :: l =>
    let mid := (lo + hi) / 2
    if hi < lo then none
    else if b.toNat < 160 then ledSearch n (mid + 1) hi l
    else if 224 < b.toNat then ledSearch n lo (mid - 1) l
    else some mid

def ledFound (g : GateSeen) : Option Nat := ledSearch 8 8 160 g.base

/-- 16 times the gate noise: the largest d of the empty windows (R439). -/
def gateNoise (s : State) (g : GateSeen) : Int :=
  (g.empty.flatMap (fun d => (List.range (winSamples s)).map (dip d))).foldl max 0

/-- The set-up passes (R439): 64 empty windows, the baseline found, and the noise at most half of NOZ_DETECT_THRESH. -/
def gatePasses (s : State) (g : GateSeen) : Bool :=
  g.empty.length == 64 && g.empty.all (Shadow.whole s) && (ledFound g).isSome &&
  decide (2 * gateNoise s g ≤ ((16 * pv s.params 0x0908 : Nat) : Int))

/-- The set-up leaves its LED current, its gain and its noise (R460), the noise in whole codes. -/
def gateSetup (s : State) (g : GateSeen) : State :=
  match ledFound g with
  | none => s
  | some led =>
    let (n, s) := roundAny s ((gateNoise s g : Rat) / 16)
    { s with noz := { s.noz with lastLed := b8 led, lastTia := b8 (pv s.params 0x0903), lastNoise := b8 (min 255 n.toNat) } }

end Sys2Proof.Machine
end

