-- ==== Sys2Proof/Machine/CalMath.lean ====
section
/-! DEFINITION. What a calibration computes from its runs: selections, agreement, the acceptance of the verify run and the
quality figure (R498, R500 to R502). A calibration is named by its entry of the selection table. -/

namespace Sys2Proof.Machine

/-- The nearest integer; a value halfway between two rounds to either (the spec names no rule; log entry 47). -/
def roundFree (s : State) (x : Rat) : Int × State :=
  let f := x.floor
  if x - f = 1 / 2 then
    let (up, s) := drawBit s
    (if up then f + 1 else f, s)
  else (if 1 / 2 < x - f then f + 1 else f, s)

/-- The largest spread of a list. -/
def runSpread (l : List Rat) : Rat :=
  match l with
  | [] => 0
  | x :: xs => xs.foldl max x - xs.foldl min x

/-- The points of a run (R498). -/
def calPoints (t : Nat) : Nat := if t = 2 then 1 else if t ≤ 3 then 2 else 4

/-- A run's values: codes at two points, a count, or currents in nA. -/
def runValues (t : Nat) (r : List Int) : List Rat := r.map (fun (i : Int) => if t ≤ 1 ∨ t = 3 then (i : Rat) / 65536 else (i : Rat))

/-- The mean of the runs, point by point. -/
def meanRun (t : Nat) (runs : List (List Int)) : List Rat :=
  (List.range (calPoints t)).map (fun k =>
    (runs.map (fun r => (runValues t r).getD k 0)).foldl (· + ·) 0 / ((max 1 runs.length : Nat) : Rat))

/-- The codes that an exact element shows at the two points: a converter's pedestal of 32 LSB and REFIN at `u` uV; the FADC's
quarters of its 256 codes (R498, R500; the FADC's DEDUCED, log entry 166). -/
def idealLow (t : Nat) : Rat := if t = 3 then 64 else 32
def idealHigh (t u : Nat) : Rat := if t = 3 then 192 else (u * 4096 : Nat) / (2500000 : Rat)

/-- o - 0 and g of R500. -/
def offsetOf (t : Nat) (p : List Rat) : Rat := p.getD 0 0 - idealLow t
def gainOf (t u : Nat) (p : List Rat) : Rat := (p.getD 1 0 - offsetOf t p) / idealHigh t u

/-- AO-RC's error: the count of an 80 ms window against that of 8.000 MHz. -/
def aoError (p : List Rat) : Rat := p.getD 0 0 / 640000 - 1

/-- The LEDs' four currents, in nA (R498), and their relative errors. -/
def ledPoints (t : Nat) : List Nat := if t = 4 then [2000000, 10000000, 20000000, 40000000] else [1000000, 5000000, 10000000, 20000000]
def ledErrors (t : Nat) (p : List Rat) : List Rat := ((ledPoints t).zip p).map (fun x => x.2 / ((x.1 : Nat) : Rat) - 1)

def absRat (x : Rat) : Rat := if x < 0 then -x else x
def largest (l : List Rat) : Rat := (l.map absRat).foldl max 0

/-- The repeat runs agree (R501). -/
def runsAgree (s : State) (t u : Nat) (runs : List (List Int)) : Bool :=
  let ps := runs.map (runValues t)
  if t ≤ 1 then
    decide (runSpread (ps.map (offsetOf t)) * 256 ≤ ((pv s.params 0x0C02 : Nat) : Rat)) &&
    decide (runSpread (ps.map (gainOf t u)) * 1000000 ≤ ((pv s.params 0x0C03 : Nat) : Rat))
  else if t = 2 then decide (runSpread (ps.map aoError) * 1000000 ≤ 50)
  else if t = 3 then
    decide (runSpread (ps.map (offsetOf t)) * 2 ≤ 1) && decide (runSpread (ps.map (gainOf t u)) * 1000 ≤ 5)
  else (List.range 4).all (fun k => decide (runSpread (ps.map (fun p => (ledErrors t p).getD k 0)) * 1000 ≤ 5))

/-- The verify run meets its acceptance limit (R501). -/
def verifyOk (t u : Nat) (p : List Rat) : Bool :=
  if t ≤ 1 then decide (absRat (offsetOf t p) * 2 ≤ 1) && decide (absRat (gainOf t u p - 1) * 1000000 ≤ 250)
  else if t = 2 then decide (absRat (aoError p) * 1000000 ≤ 100)
  else if t = 3 then decide (absRat (offsetOf t p) * 2 ≤ 1) && decide (absRat (gainOf t u p - 1) * 1000 ≤ 5)
  else decide (largest (ledErrors t p) * 100 ≤ 1)

/-- GAIN_SEL and OFFSET_SEL of a converter, OFFSET_SEL and GAIN_SEL of the FADC (R500, R511); none below a field's range. -/
def twoPointSel (s : State) (t u : Nat) (p : List Rat) : Option (List Nat) × State :=
  let (a, s) := roundFree s (offsetOf t p * (if t = 3 then 4 else 8))
  let (b, s) := roundFree s ((gainOf t u p - 1) * (if t = 3 then 400 else 12800))
  let g := (if t = 3 then 32 else 64) - b
  let o := 32 - a
  (if g < 0 ∨ o < 0 then none else some (if t = 3 then [o.toNat, g.toNat] else [g.toNat, o.toNat]), s)

/-- FINE_SEL: the step that brings the frequency nearest to 8.000 MHz, which rises with the code (R500, R511; DEDUCED, log
entry 166). -/
def fineSel (s : State) (p : List Rat) : Option (List Nat) × State :=
  let (a, s) := roundFree s (aoError p * 8000)
  (if 32 - a < 0 then none else some [(32 - a).toNat], s)

/-- The largest relative error that GAIN_SEL `i - 1` would leave, the current rising by 0.1 % a step (R500, R511). -/
def ledLeft (t : Nat) (p : List Rat) (i : Nat) : Rat :=
  largest (ledErrors t (p.map (fun x => x * ((935 + i : Nat) : Rat) / 1000)))

/-- GAIN_SEL of an LED: the code of the least largest error, either of two that leave the same; none where a code beyond the
range would leave less (R500; DEDUCED, log entry 166). -/
def ledSel (s : State) (t : Nat) (p : List Rat) : Option (List Nat) × State :=
  let errs := (List.range 130).map (ledLeft t p)
  let best := errs.foldl min (errs.headD 0)
  let cands := (List.range 130).filter (fun i => errs.getD i 0 == best)
  let (k, s) := if cands.length ≤ 1 then (0, s) else drawBelow s cands.length
  let i := cands.getD k 0
  (if i = 0 ∨ i = 129 then none else some [i - 1], s)

/-- The selection computed from the mean of the runs (R500). -/
def selFrom (s : State) (t u : Nat) (p : List Rat) : Option (List Nat) × State :=
  if t ≤ 1 ∨ t = 3 then twoPointSel s t u p else if t = 2 then fineSel s p else ledSel s t p

/-- A signed figure in a field of QUALITY: a whole number next to it (log entry 150), free where the field cannot hold it. -/
def figure (s : State) (w : Nat) (x : Rat) : Nat × State :=
  let (i, s) := roundAny s x
  if -(((2 ^ (w - 1) : Nat) : Int)) ≤ i ∧ i < ((2 ^ (w - 1) : Nat) : Int) then (patternOf w i, s)
  else let (v, s) := drawNonce s; (v.toNat % 2 ^ w, s)

/-- A bit pattern of `w` bits, with its sign up to 32 bits (R502). -/
def signFill (w q : Nat) : Word := (BitVec.ofNat w q).signExtend 32

/-- QUALITY: what the verify run leaves (R502). -/
def calQuality (s : State) (t u : Nat) (p : List Rat) : Word × State :=
  if t ≤ 1 then
    let (a, s) := figure s 16 (offsetOf t p * 256)
    let (b, s) := figure s 16 ((gainOf t u p - 1) * 1000000)
    (BitVec.ofNat 32 (a + b * 2 ^ 16), s)
  else if t = 2 then
    let (a, s) := figure s 24 (aoError p * 1000000)
    (signFill 24 a, s)
  else if t = 3 then
    let (a, s) := figure s 8 (offsetOf t p * 16)
    let (b, s) := figure s 8 ((gainOf t u p - 1) * 10000)
    (BitVec.ofNat 32 (a + b * 2 ^ 8), s)
  else
    let worst := (ledErrors t p).filter (fun x => absRat x == largest (ledErrors t p))
    let (k, s) := if worst.length ≤ 1 then (0, s) else drawBelow s worst.length
    let (a, s) := figure s 16 (worst.getD k 0 * 10000)
    (BitVec.ofNat 32 a, s)

/-- Every run that the calibration makes has been made, and the verify run too (R498). -/
def runsWhole (s : State) (t : Nat) (m : CalMeas) : Bool :=
  m.runs.length == pv s.params 0x0C01 && m.runs.all (fun r => r.length == calPoints t) && m.verify.length == calPoints t

end Sys2Proof.Machine
end

