-- ==== Sys2Proof/Machine/OtpOps.lean ====
section
/-! DEFINITION. Programming the one-time memory as shared operations: the conditions of R171, one word with its
verification (R155, R156), the calibration slots (R510, R513), sealing (R159) and a change of trial shadows (R169, R170). -/

namespace Sys2Proof.Machine

/-! ### Conditions (R171) -/

/-- The junction temperature of a code of channel 20 lies in -20 °C to +85 °C, in 1/512 °C. -/
def junctionOk (s : State) : Bool :=
  let t : Int := 25 * 512 + 100 * (((reading s 20).code.toNat : Int) - 1556)
  !stale s 20 && decide (-20 * 512 ≤ t ∧ t ≤ 85 * 512)

/-- VAO, at 5.000 V full scale, is at least 3.0 V (R171); a code is a 4,096th of full scale (DESIGN CHOICE, log entry 186). -/
def vaoOk (s : State) : Bool := !stale s 21 && decide (3 * 4096 ≤ 5 * (reading s 21).code.toNat)

/-- Why a word may not be programmed now: a ticket, for which R171 names BUSY, the power state or a calibration, for which
it names no status and BUSY is taken, or the temperature and VAO, of which a stale reading counts as out of range (DESIGN
CHOICE, log entry 126). -/
def programBar (s : State) : Option Nat :=
  if s.pwr.st ≠ .run ∨ ticketActive s ∨ (running s 0x0601).isSome then some stBusy
  else if !junctionOk s || !vaoOk s then some stRange else none

/-! ### Calibration slots (R510, R513) -/

def slotBlank (o : Otp) (ws : List Nat) : Bool := ws.all (fun i => decide (otpCond o i = .blank))
def blankSlots (o : Otp) (t : Nat) : List (List Nat) := (calSlots t).filter (slotBlank o)

/-- The calibration code and LED number of an element (R307). -/
def elementCode (t : Nat) : List Byte := if t < 5 then [b8 (t + 1), 0] else [6, b8 (t - 5)]

/-- Programming a calibration's last BLANK slot is logged (R513). -/
def noteSlotsFull (before : Otp) (s : State) : State :=
  (List.range 9).foldl (fun s t =>
    if !(blankSlots before t).isEmpty && (blankSlots s.otp t).isEmpty then logEvent s 0x0C03 (elementCode t) else s) s

/-! ### One word -/

/-- The word after programming: one that fails verification is left BAD (R156), with the value asked for, which its region's digest
takes as stored (DESIGN CHOICE, log entry 193). A word of zeros, whose check bits are
zero too, reads BLANK (DEDUCED, log entry 40). -/
def programmed (w : OtpWord) (d : BitVec 64) : OtpWord :=
  if w.defective then { w with cond := .bad, data := d }
  else if d = 0 then w else { w with cond := .valid, data := d }

/-- The allocation in use follows the maximum that word 79 gives (R369, R540). -/
def followMax (before : Otp) (s : State) : State :=
  if coreRuns s ∧ maxAlloc s.otp ≠ maxAlloc before then armLldp (updateAllocation s) else s

/-- A change of what words read: the ceiling detector is armed again, and the allocation follows its limit (R168 to R170). -/
def otpChange (s : State) (o : Otp) : State := followMax s.otp (deriveTrip { s with otp := o })

/-- Program a BLANK word. The answer is whether it verified. Its shadow is gone, also where zeros leave the word BLANK
(DESIGN CHOICE, log entry 180), and the ceiling detector is armed again (R155, R156, R168, R169). -/
def programWord (s : State) (i : Nat) (d : BitVec 64) : Bool × State :=
  let w := otpRaw s.otp i
  let o := { s.otp with words := s.otp.words.set i (programmed w d), shadows := assocDel s.otp.shadows i }
  (!w.defective, noteSlotsFull s.otp (otpChange s o))

/-- Program words in ascending order up to the first failure, whose index is the answer (R315). -/
def programWords (s : State) : List (Nat × BitVec 64) → Option Nat × State
  | [] => (none, s)
  | (i, d) :: ws =>
    match programWord s i d with
    | (true, s') => programWords s' ws
    | (false, s') => (some i, s')

/-! ### Seals (R159) -/

/-- Seal a region: its digest word is programmed, and its shadows are cleared. The answer is whether the digest word
verified. Its reads of the region count no correction (DESIGN CHOICE, log entry 179). -/
def sealRegion (s : State) (r : Nat) : Bool × State :=
  match digestWord r with
  | none => (true, s)
  | some d =>
    let (ok, s) := programWord s d (digestOf s.otp r)
    (ok, otpChange s { s.otp with shadows := s.otp.shadows.filter (fun p => otpRegion p.1 != r) })


end Sys2Proof.Machine
end

