-- ==== Sys2Proof/Machine/Supply.lean ====
section
/-! DEFINITION. Commands of the supplies, the resets and the clocks (R44, R45, R51, R52, R70 to R81, R289). -/

namespace Sys2Proof.Machine

/-- An outcome whose commands always complete. -/
abbrev Out := Host.Outcome State Fault Refusal

/-- VAO becomes good (R44, R51, R79). -/
def execVaoGoodRise (asel : BitVec 2) (s : State) : Out :=
  if s.rst.vaoGood then .next s else
  .next (cloveStart { s with rst := { s.rst with
    vaoGood := true, hostAddr := 0x4C + BitVec.ofNat 7 asel.toNat, cause := 0x01 }, clk := { s.clk with
    trimCode := startCode s.otp } } 0)

/-- VAO good clears: everything but NVM, the array and the levels outside the part is reset (R51, R74, R75). A record
that NVM was being given is torn (R154). -/
def execVaoGoodClear (s : State) : Out :=
  if !s.rst.vaoGood then .next s else
  let s := match s.seq.writing with
    | some (r, i) => tornSlot s i r
    | none => s
  let s := match s.seq.holdup with
    | some r => tornSlot s ((erasedSlots s.nvm).headD 8) r
    | none => s
  let r := State.reset
  .next { r with
    rst := { r.rst with vioGood := s.rst.vioGood, vddaGood := s.rst.vddaGood }
    clk := { r.clk with free := s.clk.free }
    usb := { r.usb with vbus := s.usb.vbus }
    uart := { r.uart with ctsHigh := s.uart.ctsHigh }
    seq := { r.seq with vinLow := s.seq.vinLow }
    motion := motionRestarted s
    nvm := { s.nvm with exhaustLogged := false }
    otp := { r.otp with words := s.otp.words }
    pending := s.pending }

/-- VIO falls below its threshold in RUN, DOZE or NAP (R52, R134): the main domain is held, DISCH rises, the shutdown
table runs and a compact record is kept, with the part as the decision finds it (DEDUCED, log entry 123). Up to the commit
point of R98 the part is in NAP. In HIBERNATE the supply may go. -/
def execVioLow (s : State) : Out :=
  if !s.rst.vaoGood ∨ !s.rst.vioGood then .next { s with rst := { s.rst with vioGood := false, xo25Run := false } } else
  let low (s : State) : State := { s with rst := { s.rst with vioGood := false, xo25Run := false } }
  if s.pwr.st = .hibernate then .next (low s) else
  let s := abortCrossings s
  let (r, s) := capture s (recAt s 0x06 0xFF (pgByte s.seq)) ⟨false, false, true, abortDriven s.seq⟩
  let s := putRecord (assertDisch (mainReset (low s) 0x02) 8) r
  .next (powerDue (offRequest s))

/-- VIO rises 50 mV above the falling threshold; XO25 starts in the states in which it runs (R70, R79). -/
def execVioGood (s : State) : Out :=
  .next { s with rst := { s.rst with vioGood := true, xo25Run := decide (s.pwr.st ≠ .hibernate ∧ s.pwr.st ≠ .off) } }

/-- A low pulse on NRST: ignored below 200 ns, acted on above 1 us, and open in between (R77; log entry 6). It resets
Reed and the host port besides the main domain (R74). -/
def execNrstLow (ns : Nat) (s : State) : Out :=
  if !s.rst.vaoGood ∨ ns < 200 then .next s else
  let (acts, s) := if 1000 < ns then (true, s) else drawBit s
  if !acts then .next s else
  .next (mainReset { s with reed := { s.reed with
    st := .idle, startFlag := false, bitCount := 0, shift := 0 } } 0x03)

/-- The watchdog counts only in RUN, from the release of the main domain (R19, R81). -/
def execWatchdogExpiry (s : State) : Out := .next (if s.rst.wdtRun then mainReset s 0x04 else s)

/-- XO25 out of tolerance or SYSPLL unlocked, where they run (R70, R73). -/
def execClockFail (s : State) : Out :=
  if !s.rst.vaoGood ∨ !s.rst.vioGood ∨ (s.pwr.st ≠ .run ∧ s.pwr.st ≠ .doze) then .next s else
  .next (mainReset { s with rst := { s.rst with clockHold := true } } 0x05)

/-- SYS_CLKFAIL_RETRY: release is retried with XO25 in tolerance and SYSPLL locked (R73). -/
def execClkfailRetry (good : Bool) (s : State) : Out :=
  .next (if s.rst.clockHold && good then { s with rst := { s.rst with clockHold := false } } else s)

/-- SYS_RSTOUT_MIN has run out (R78). -/
def execRstoutMinExpiry (s : State) : Out := .next { s with rst := { s.rst with rstoutMin := false } }

/-- The conditions of R79, with those of R73, R78 and the states in which the main domain has no power. -/
def releaseReady (s : State) : Bool :=
  s.rst.vaoGood && s.rst.otpClean && !s.rst.otpHold && s.rst.vioGood && s.rst.xo25Run && !s.rst.clockHold &&
  !s.rst.rstoutMin && !s.rst.testHold && decide (s.rst.main = .held) && !s.pwr.moving &&
  decide (s.pwr.st ≠ .hibernate) && decide (s.pwr.st ≠ .off)

/-- The main and PHY resets release and Cehole starts (R79, R81, R86, R290); TESTMODE high holds the domain, and in BLANK
enters a mode the spec does not describe (R45). From NAP and DOZE, in which a reset leaves the part, it comes to RUN by the
way of the transitions table (R91; DEDUCED, log entry 31); the rails stay as they were (R75). A driver fault that stands is
sampled at the release (R88, R414). -/
def execMainDomainRelease (testmode : Bool) (s : State) : Out :=
  if !releaseReady s then .next s
  else if testmode ∧ lifecycle s.otp = 0 then .refused .productionTestMode
  else if testmode then .next { s with rst := { s.rst with testHold := true } }
  else
    let s := enterPstate (if s.pwr.st = .nap then enterPstate s .doze else s) .run
    let s := { s with
      rst := { s.rst with
        main := .booting, rstoutHigh := true, causeOpen := false, fresh := true, wdtRun := true
        cause := if s.rst.hibWake && !s.rst.causeOpen then 0x0A else s.rst.cause } }
    .next (powerDue s)

/-- TRST_N low resets the TAP and closes any open level (R74, R180). -/
def execTrstNLow (s : State) : Out := .next { closeDebug s with dbg := { (closeDebug s).dbg with ir := .idcode } }

/-- The trim of every 32 ms (R71, R72, R89): the trim code moves by at most one step, against the error, and whether it moves is a
free value (log entry 91); the band and the deglitch counts follow the reference that runs. Hub time does not step: its increment
follows the stored frequency from here on. A new FINE_SEL takes effect here (R503), and AO_RC sees whether the code stood still
(R498). -/
def execAoTrim (cycles : Nat) (s : State) : Out :=
  if !s.rst.vaoGood then .next s else
  let onX := s.clk.xo32 = .adopted && (s.clk.trimOnXo32 || s.clk.trimMove)
  let ref := onX || (s.rst.xo25Run && (decide (s.pwr.st = .run) || decide (s.pwr.st = .doze)))
  let want := if onX then 250000 else 256000
  let (moves, s) := drawBit s
  let step : Int := if !ref || !moves then 0 else if want < cycles then -1 else if cycles < want then 1 else 0
  let hz := if !ref then s.clk.aoHz else if onX then cycles * 32 else cycles * 125 / 4
  let s := switchDue s (· == 2)
  .next (aoWait { s with clk := { s.clk with
    trimOnXo32 := onX, trimMove := false, trimmed := ref, deglitch := deglitchFor s ref
    trimCode := s.clk.trimCode + step, still := if step = 0 then s.clk.still + 1 else 0
    aoHz := hz, inc := timeInc hz } })

/-- XO32 passes its 1,024-cycle test: the RTC moves at the next RTC second, the trim at the next trim period (R71). -/
def execXo32Qualified (s : State) : Out :=
  .next (if !s.rst.vaoGood || s.clk.xo32 = .notFitted || s.clk.xo32 = .adopted then s
    else { s with clk := { s.clk with xo32 := .adopted, rtcMove := true, trimMove := true } })

/-- XO32 is lost: the RTC and the trim fall back, logged once per power cycle (R71). -/
def execXo32Lost (s : State) : Out :=
  if s.clk.xo32 ≠ .adopted then .next s else
  let s := if s.clk.xo32LostLogged then s else logEvent s 0x0104 []
  .next { s with clk := { s.clk with
    xo32 := .lost, rtcOnXo32 := false, rtcMove := false, trimOnXo32 := false, trimMove := false
    xo32LostLogged := true } }

/-- An XO32 that has not qualified within 2 s of VAO good counts as not fitted (R71). -/
def execXo32QualifyTimeout (s : State) : Out :=
  .next (if s.rst.vaoGood ∧ s.clk.xo32 = .absent then { s with clk := { s.clk with xo32 := .notFitted } } else s)

/-- The alarm fires once when the count has reached its second, and then stays disabled (R289). -/
def rtcAlarmDue (s : State) : State :=
  if s.clk.rtcAlarm = 0 ∨ s.clk.rtc.toNat < s.clk.rtcAlarm.toNat then s else
  wakeWork { s with clk := { s.clk with rtcAlarm := 0 } } 7

/-- An RTC second. In HIBERNATE, where no hub tick runs, hub time advances with it, by what is left of the second (R72, R289;
log entry 12). -/
def execRtcSecond (s : State) : Out :=
  if !s.rst.vaoGood then .next s else
  let c := if s.pwr.st = .hibernate then passTime s.clk (1000000 - s.clk.secUs) else s.clk
  .next (rtcAlarmDue { s with clk := { c with
    rtc := c.rtc + 1, rtcOnXo32 := c.rtcOnXo32 || c.rtcMove, rtcMove := false, secUs := 0 } })

/-- VDDA falls below its threshold: no analog sample is taken, and a running calibration ends with FAULT detail ABORTED
(R52, R464, R504). -/
def execVddaLow (s : State) : Out := .next (endCal { s with rst := { s.rst with vddaGood := false } } 0x0008 0)

/-- VDDA is back above its threshold (R52). -/
def execVddaReturn (s : State) : Out := .next { s with rst := { s.rst with vddaGood := true } }

/-- A core debug reset, given at the open CORE level: the main domain, with cause DEBUG (R74, R179). The TAP lies in the
main domain, so that it is there in RUN and DOZE only. -/
def execCoreDebugReset (s : State) : Out :=
  .next (if s.rst.main = .held ∨ (s.pwr.st ≠ .run ∧ s.pwr.st ≠ .doze) ∨ !coreOpen s then s else mainReset s 0x08)

end Sys2Proof.Machine
end

