-- ==== Sys2Proof/Machine/CalCmd.lean ====
section
/-! DEFINITION. Calibration (R307, R308, R495 to R515): commands of the family 0x06xx, the end of a measurement, and the
OTP store that follows it. -/

namespace Sys2Proof.Machine

/-! ### Words of a slot (R511) -/

/-- A selection lies within its fields' ranges (R501, R511). -/
def selOk (t : Nat) (sel : List Nat) : Bool :=
  match t, sel with
  | 0, [g, o] | 1, [g, o] => decide (g ≤ 127 ∧ o ≤ 63)
  | 2, [f] => decide (f ≤ 63)
  | 3, [o, g] => decide (o ≤ 63 ∧ g ≤ 63)
  | _, [g] => decide (g ≤ 127)
  | _, _ => false

/-- The fields of a slot's words, in bits 47:0: the selection, the quality figure, T_CAL, and for a converter REFIN_UV and
the low half of BOOT_COUNT (R511). -/
def slotData (t : Nat) (sel : List Nat) (tCal : Int) (q : Nat) (refin boot : Nat) : List Nat :=
  let a := sel.getD 0 0
  let b := sel.getD 1 0
  let tc := patternOf 8 tCal
  if t ≤ 1 then [a + b * 2 ^ 8 + q % 2 ^ 32 * 2 ^ 16, (refin - 2000000) + tc * 2 ^ 20 + boot % 2 ^ 16 * 2 ^ 28]
  else if t = 3 then [a + b * 2 ^ 6 + tc * 2 ^ 16 + q % 2 ^ 24 * 2 ^ 24]
  else [a + tc * 2 ^ 16 + q % 2 ^ 24 * 2 ^ 24]

/-- The words of a slot with their per-word checks. -/
def slotWords (ws : List Nat) (data : List Nat) : List (Nat × BitVec 64) :=
  (ws.zip data).map (fun p => (p.1, otpWithCheck p.2 p.1))

/-- The number of a slot among those of its calibration. -/
def slotNumber (t : Nat) (ws : List Nat) : Nat := (calSlots t).findIdx (· == ws)

/-! ### Commands -/

def calCode (r : Req) : Nat := fieldAt r.payload 0 1
def calTarget (r : Req) : Nat := fieldAt r.payload 1 1
def calCodeOk (r : Req) : Bool := decide (1 ≤ calCode r ∧ calCode r ≤ 7)
def calTargetOk (r : Req) : Bool := if calCode r ≤ 5 then calTarget r == 0 else decide (calTarget r ≤ 3)

/-- CAL_START (R308, R496, R497, R506). -/
def hCalStart : Handler := fun r s =>
  let p := r.payload
  let code := calCode r
  let t := calTarget r
  let fl := fieldAt p 2 1
  let refin := fieldAt p 4 4
  let adc := decide (code ≤ 2)
  judgeLocked s (admLifecycle s r 0x0601) 0x0601 p (exactly p 8)
    [(0, calCodeOk r), (1, calTargetOk r && (code != 7 || (activeDies s).contains t)), (2, decide (fl ≤ 3) && (!adc || fl.testBit 1)),
     reservedAt p 3 1, (4, !adc || decide (2048000 ≤ refin ∧ refin ≤ 2500000))] fun s =>
    let otp := fl.testBit 0
    if otp ∧ (blankSlots s.otp (calIndex code t)).isEmpty then (Reply.no stNoSpace, s)
    else
      let a : Action := { opcode := 0x0601, ctx := some r.ctx, seq := r.seq, payload := p, started := false }
      (Reply.accepted [], { s with saf := { s.saf with actions := s.saf.actions ++ [a] } })

def execCalStart (r : Req) (s : State) : Out := .next (startWaiting (serve 0x0601 hCalStart r s))

/-- FREE_SLOTS: BLANK slots that hold no shadow (R513). -/
def freeSlots (o : Otp) (t : Nat) : Nat := ((blankSlots o t).filter (fun ws => ws.all (fun i => (shadowOf o i).isNone))).length

/-- CAL_STATUS (R308). -/
def hCalStatus : Handler := fun r s =>
  judge s (exactly r.payload 4) [(0, calCodeOk r), (1, calTargetOk r), reservedAt r.payload 2 2] fun s =>
    let t := calIndex (calCode r) (calTarget r)
    let c := s.cal.active.getD t (CalSel.rom [])
    (Reply.ok ([c.slot, b8 (freeSlots s.otp t), c.source, 0] ++ b32 c.quality.toNat ++ b48 c.time.toNat ++ zeros 2), s)

def execCalStatus (r : Req) (s : State) : Out := .next (serve 0x0602 hCalStatus r s)

/-- CAL_ABORT: the pending or running calibration ends with FAULT, ABORTED (R308). -/
def hCalAbort : Handler := fun r s => judge s (exactly r.payload 0) [] fun s =>
  match s.saf.actions.find? (fun a => a.opcode == 0x0601) with
  | none => (Reply.ok [], s)
  | some a =>
    if a.started then (Reply.ok [], endCal s 0x0008 0)
    else
      let s := { s with saf := { s.saf with actions := s.saf.actions.filter (· != a) } }
      (Reply.ok [], match a.ctx with
        | some c => commandDone s c.val a.opcode a.seq stFault (calResult a 0xFF 0 ++ faultDetail 0x0008 0)
        | none => s)

def execCalAbort (r : Req) (s : State) : Out := .next (schedule (serve 0x0603 hCalAbort r s))

/-! ### The end of the measurement (R498 to R503, R508, R514) -/

/-- The end of a calibration: the borrowed element is returned, the action ends with its result, and the boundary goes on. -/
def calEnds (s : State) (a : Action) (status : Nat) (slot : Byte) (q : Word) (more : List Byte) : State :=
  let s := deriveTrip { s with cal := { s.cal with trial := none, store := none, prev := none, wait := none },
                               hub := { s.hub with borrowed := 0 }, params := { s.params with atCal := none } }
  afterTicket (endAction s 0x0601 status (calResult a slot q ++ more))

/-- CAL_DISAGREE: nothing is applied, and the event is logged (R501). -/
def calDisagrees (s : State) (a : Action) (q : Word) : State :=
  calEnds (logEvent s 0x0C02 [byteAt a.payload 0]) a stCalDisagree 0xFF q []

/-- The detail of a mechanism's failure (R279, R504, R506). -/
def mechDetail (s : State) : MechEnd → Nat × Nat
  | .ok => (0x0005, 0)
  | .motor m => (0x0003, m.val)
  | .home m => (0x0004, m.val)
  | .paper => (0x0009, maskOf [paperOut s, coverOpen s])
  | .aborted => (0x0008, 0)
  | .rail => (0x0007, (firstBadRail s.seq).getD 0)

/-! ### Head energy (R506, R508, R514) -/

/-- The largest pulse on the 4 ns grid that, as the effective main pulse, keeps the checks of R429 (R506; DEDUCED, log
entry 150). -/
def pulseBound (s : State) : Nat :=
  let v : CommitView := { bytes := inForce s.params, maxRate := maxLineRate s.otp, mainCal := [], changed := [] }
  let line := 1000000000 / v.f100 - (v.tLineMin - max v.tFire v.tShift)
  (min 35000 line / v.n 0x0803 - (v.dieMax 0x0830 + v.dieMax 0x0834 + v.n 0x0804)) / 4 * 4

/-- The reservoir's energy, in uJ, at the mean of 16 codes of channel 24. -/
def eResMean (o : Otp) (sum : Nat) : Rat := let v : Rat := (sum * 50 : Nat) / (65536 : Rat); (cRes o : Rat) * v * v / 2

/-- e_k in uJ (R508). -/
def dropEnergy (s : State) (drops : Nat) (r : HeadRun) : Rat :=
  (eResMean s.otp r.v1 - eResMean s.otp r.v2 - (eResMean s.otp r.ref1 - eResMean s.otp r.ref2) -
    ((pv s.params 0x0C05 * pv s.params 0x0811 : Nat) : Rat)) / ((drops : Nat) : Rat)

/-- The binary search of the main pulse on the 4 ns grid from 40 ns (R506): the least step at which a probe detects every
drop with an eye of at least NOZ_EYE_BAD, once the probes have narrowed it down to one; none before, and none with more probes
than that takes. -/
def pulseSearch (s : State) : List (List Shadow) → Nat → Nat → Option Nat
  | [], lo, hi => if hi ≤ lo then some hi else none
  | d :: ds, lo, hi =>
    if hi ≤ lo then none
    else if verdict s d ≠ 3 then pulseSearch s ds lo ((lo + hi) / 2)
    else pulseSearch s ds ((lo + hi) / 2 + 1) hi

/-- The steps of the grid above its first, up to the bound. -/
def pulseSteps (s : State) : Nat := (pulseBound s - 40) / 4

/-- A sample nozzle's turn-on pulse; none where it never turned on. -/
def turnOnOf (s : State) (probes : List (List Shadow)) : Option Nat :=
  (pulseSearch s probes 0 (pulseSteps s + 1)).bind (fun k => if k ≤ pulseSteps s then some (40 + 4 * k) else none)

/-- The turn-on pulses of the sample nozzles in ascending order; a nozzle that never turned on counts as the bound. -/
def turnOns (s : State) (l : List (List (List Shadow))) : List Nat :=
  (l.map (fun p => (turnOnOf s p).getD (pulseBound s))).mergeSort

/-- The sample nozzles of column A, which the verify fires. -/
def verifyNozzles (s : State) (d : Nat) : List Nat := (sampleNozzles s d).filter (fun i => decide (i % 2112 < 528))

/-- The fires of a HEAD_ENERGY: the probes, the energy runs, and the verify (R437, R506). -/
def countHeadFires (s : State) (d : Nat) (m : HeadMeas) : State :=
  let drops := pv s.params 0x0904
  let fired (l : List Shadow) : Nat := min l.length drops
  let s := ((sampleNozzles s d).zip m.probes).foldl (fun s p => addFires s [p.1] ((p.2.map fired).foldl (· + ·) 0)) s
  let s := addFires s (usableOn s d) (pv s.params 0x0C05 * m.runs.length)
  ((verifyNozzles s d).zip m.verify).foldl (fun s p => addFires s [p.1] (fired p.2)) s

/-- The lines that a repeat which was cut short has fired: a free number (R437, R506; log entry 150). -/
def cutRunFires (s : State) (d : Nat) (m : HeadMeas) : State :=
  let (k, s) := drawUpTo s (pv s.params 0x0C05 * (s.saf.energyRuns - m.runs.length))
  addFires s (usableOn s d) k

/-- The reservoir counted as full as the repeat started: at its code of channel 24 then, or with the ceiling detector tripped (R382). -/
def fullAt (s : State) (r : HeadRun) : Bool :=
  r.trip || decide (((pv s.params 0x060C * 98 : Nat) : Rat) / 1000 ≤ vRes r.start.toNat)

/-- HEAD_ENERGY has run to its end (R498, R506): every sample nozzle's search finished, CAL_HEAD_REPEATS repeats, each from a full
reservoir, and the verify tests. -/
def headWhole (s : State) (d : Nat) (m : HeadMeas) : Bool :=
  m.probes.length == (sampleNozzles s d).length &&
  m.probes.all (fun l => l.all (testWhole s) && (pulseSearch s l 0 (pulseSteps s + 1)).isSome) &&
  m.runs.length == pv s.params 0x0C06 && m.runs.all (fullAt s) &&
  m.verify.length == (verifyNozzles s d).length && m.verify.all (testWhole s)

/-- e_k of every repeat. -/
def dropEnergies (s : State) (d : Nat) (m : HeadMeas) : List Rat :=
  m.runs.map (dropEnergy s (pv s.params 0x0C05 * (usableOn s d).length))

def dropMean (es : List Rat) : Rat := es.foldl (· + ·) 0 / ((es.length : Nat) : Rat)

/-- t_on: the value at position ceil (15 n / 16) of the sorted turn-on pulses (R506). -/
def turnOn (on : List Nat) : Nat := on.getD (ceilDiv (15 * on.length) 16 - 1) 0

/-- P before its limit, on the 4 ns grid (R506). -/
def pulseWanted (s : State) (on : List Nat) : Nat := 4 * ceilDiv (turnOn on * pv s.params 0x0C04) (256 * 4)

/-- QUALITY of a HEAD_ENERGY, `rep` being its repeat spread in 0.01 % (R502). -/
def headQuality (on : List Nat) (limited : Bool) (rep : Int) : Word :=
  BitVec.ofNat 32 (min 65535 (on.getLast?.getD 0 - on.headD 0) + min 32767 rep.toNat * 2 ^ 16 + if limited then 2 ^ 31 else 0)

/-- The entry of a die, where the repeats agree, enough nozzles turned on and every field holds its value (R501, R506,
R508). -/
def headEntry (s : State) (d : Nat) (m : HeadMeas) (q : Word) (tCal v1 : Int) : Option HeadEntry :=
  let on := turnOns s m.probes
  let turnedOn := (m.probes.filter (fun p => (turnOnOf s p).isSome)).length
  let es := dropEnergies s d m
  let sc := scaleAt s (tsTemp s m.tempCode)
  let main := 4 * ceilDiv (min (pulseWanted s on) (pulseBound s) * 256) (sc * 4)
  let e := (dropMean es * 25600 / ((sc : Nat) : Rat)).ceil
  if 64 ≤ turnedOn ∧ runSpread es * 1000 ≤ ((pv s.params 0x0C07 : Nat) : Rat) * dropMean es ∧ 0 ≤ e ∧ e ≤ 65535 ∧
      main ≤ 65535 then
    some { main256 := main, eCal := e.toNat, tOn := turnOn on, tCal := tCal, turnedOn := turnedOn, quality := q
           boot := s.log.bootCount, v1 := v1.toNat, pre := pv s.params (0x0830 + d), dead := pv s.params (0x0834 + d) }
  else none

/-- The result of a HEAD_ENERGY on a die, and its QUALITY. -/
def headResult (s : State) (d : Nat) (m : HeadMeas) : Option HeadEntry × Word × State :=
  let on := turnOns s m.probes
  let es := dropEnergies s d m
  let r := roundFree s (10000 * (runSpread es / dropMean es))
  let t := roundAny r.2 (tsTemp s m.tempCode)
  let v := roundAny t.2 (((m.runs.headD ⟨0, 0, 0, 0, 0, false⟩).v1 : Nat) / (16 : Rat))
  let q := headQuality on (decide (pulseBound s < pulseWanted s on)) r.1
  (headEntry s d m q t.1 v.1, q, v.2)

/-- A HEAD_ENERGY result is written to HEAD_CAL and comes into force (R503, R514). -/
def applyHead (s : State) (a : Action) (d : Nat) (e : HeadEntry) : State :=
  let i := olderHead s.nvm
  let c : HeadCopy := ⟨newestHeadSeq s.nvm + 1, s.cal.head.set d (some e)⟩
  match writePages (noteWrite s (imageStream 128) (headCopyBytes c)) (pagesOf 4 (i * 16384) 164) with
  | (some p, s) => calEnds s a stFault 0xFF e.quality (faultDetail 0x0002 p)
  | (none, s) =>
    let s := { s with
      nvm := { s.nvm with heads := s.nvm.heads.set i (headCopyBytes c) }
      cal := { s.cal with head := c.entries } }
    let s := activate s (9 + d) ⟨3, 0xFF, [e.main256, e.eCal, e.tOn, e.turnedOn], e.quality, now s⟩
    calEnds (logEvent s 0x0C01 [7, 0xFF]) a stOk 0xFF e.quality []

/-- Where a result without STORE_OTP goes: the words of the lowest BLANK slot as trial shadows, or nowhere (R169, R496). -/
def shadowSlot (s : State) (t : Nat) : Option (List Nat) :=
  if 1 < lifecycle s.otp ∨ noShadow s.otp then none else
  match blankSlots s.otp t with
  | [] => none
  | ws :: _ =>
    if s.otp.shadows.length + (ws.filter (fun i => (find? s.otp.shadows i).isNone)).length ≤ 16 then some ws else none

/-- A result comes into force: at its switch point, which for AO_RC is the next trim boundary and for a sense LED the next tick
(R503). -/
def putSel (s : State) (t : Nat) (c : CalSel) : State :=
  if t = 2 ∨ (5 ≤ t ∧ t ≤ 8) then { s with cal := { s.cal with due := assocSet s.cal.due t c } }
  else activate s t { c with time := now s }

/-- The slot of a result is known. -/
def markSlot (s : State) (t : Nat) (k : Byte) : State :=
  match find? s.cal.due t with
  | some c => { s with cal := { s.cal with due := assocSet s.cal.due t { c with slot := k } } }
  | none => activate s t { s.cal.active.getD t (CalSel.rom []) with slot := k }

/-- A good result of a calibration with OTP slots goes where R496 says. -/
def applyResult (s : State) (a : Action) (t : Nat) (sel : List Nat) (q : Word) (tCal : Int) : State :=
  let refin := fieldAt a.payload 4 4
  if (byteAt a.payload 2).toNat.testBit 0 then
    let old := s.cal.active.getD t (CalSel.rom [])
    let s := putSel s t ⟨2, 0xFF, sel, q, 0⟩
    deriveTrip { s with
      cal := { s.cal with trial := none, store := some (t, sel, tCal, q, refin), prev := some (t, old) }
      hub := { s.hub with borrowed := 0 } }
  else match shadowSlot s t with
    | none => calEnds s a stOk 0xFF q []
    | some ws =>
      let data := slotWords ws (slotData t sel tCal q.toNat refin s.log.bootCount.toNat)
      let s := { s with otp := { s.otp with shadows := data.foldl (fun l p => assocSet l p.1 p.2) s.otp.shadows } }
      let s := putSel s t ⟨4, b8 (slotNumber t ws), sel, q, 0⟩
      calEnds (logEvent s 0x0C01 [byteAt a.payload 0, 0xFF]) a stOk 0xFF q []

/-- Check mode: neither stored nor held as shadows (R496). -/
def checkOnly (s : State) (a : Action) (t : Nat) : Bool := !(byteAt a.payload 2).toNat.testBit 0 && (shadowSlot s t).isNone

/-- The end of a HEAD_ENERGY (R506, R508): nozzles were fired, however it ended; one that no failure ends is over once it has
run to its end. -/
def endHeadEnergy (s : State) (a : Action) (d : Nat) (m : CalMeas) : Option State :=
  let h := m.head
  let rest (s : State) : State := { s with motion := { s.motion with sledPath := [] } }
  if m.fail.isNone ∧ !gatePasses s h.gate then
    some (rest (calEnds (gateSetup s h.gate) a stFault 0xFF 0 (faultDetail 0x000A d)))
  else match m.fail with
    | some e => let (k, i) := mechDetail s e
                some (rest (calEnds (cutRunFires (countHeadFires (gateSetup s h.gate) d h) d h) a stFault 0xFF 0 (faultDetail k i)))
    | none =>
      if !headWhole s d h then none else
      let pass := h.verify.all (fun l => verdict s l != 3)
      let r := headResult (countHeadFires (gateSetup s h.gate) d h) d h
      some (rest (match r.1 with
        | some e => if pass then applyHead r.2.2 a d e else calDisagrees r.2.2 a r.2.1
        | none => calDisagrees r.2.2 a r.2.1))

/-- The end of a calibration of codes 1 to 6 that no failure ends (R498 to R503): disagreement, a check's figure, or a result. -/
def endCalRuns (s : State) (a : Action) (t : Nat) (m : CalMeas) : State :=
  let u := fieldAt a.payload 4 4
  let p := runValues t m.verify
  let agree := runsAgree s t u m.runs
  let (q, s) := calQuality s t u p
  if !agree then calDisagrees s a q
  else if checkOnly s a t then calEnds s a stOk 0xFF q []
  else
    let (sel, s) := selFrom s t u (meanRun t m.runs)
    match sel with
    | some sel => if verifyOk t u p && selOk t sel then applyResult s a t sel q m.tCal else calDisagrees s a q
    | none => calDisagrees s a q

/-- AO_RC has waited for more than 1 s for a coarse trim code that stands: it ends with CAL_DISAGREE (R498). The spec gives its
QUALITY no value, which is a free one (log entry 47). -/
def aoRestless (s : State) : Bool := decide (s.clk.still < 8) && decide (1000000 < since s s.cal.aoSince)

/-- The measurement has ended (R498 to R503, R506, R508): a mechanism's failure, disagreement, or a result. Until every run has
been made, and AO_RC's code has stood for it, it has not. -/
def execCalDone (m : CalMeas) (s : State) : Out :=
  match running s 0x0601 with
  | none => .next s
  | some a =>
    let code := (byteAt a.payload 0).toNat
    let t := calIndex code (byteAt a.payload 1).toNat
    if s.cal.store.isSome then .next s
    else if code = 7 then .next ((endHeadEnergy s a (byteAt a.payload 1).toNat m).getD s) else
    match m.fail with
    | some e => let (d, i) := mechDetail s e; .next (calEnds s a stFault 0xFF 0 (faultDetail d i))
    | none =>
      .next (if runsWhole s t m && (t != 2 || s.cal.aoHeld) then endCalRuns s a t m
        else if t = 2 ∧ aoRestless s then
          let (x, s) := drawNonce s
          calDisagrees s a (x.setWidth 32)
        else s)

/-! ### The OTP store and the waits (R504, R507) -/

/-- What has come to forbid a store of R507 since it was accepted: SCRAP, in which no slot is programmed, or WL_CALIB_SLOT in FIELD, a
lock that acts at the next access (R163, R172, R177; DEDUCED, log entry 155). -/
def storeBarred (o : Otp) : Bool := decide (lifecycle o = 4) || (wlCalibSlot o && decide (lifecycle o = 2))

/-- The store of R507 takes place once its conditions hold. A word that fails verification ends the calibration, and so does
what forbids the store, with FAULT detail ABORTED (DEDUCED, log entry 155); the selection before it is active again. -/
def execCalOtpStore (s : State) : Out :=
  match running s 0x0601, s.cal.store with
  | some a, some (t, sel, tCal, q, refin) =>
    if s.pwr.st ≠ .run ∨ !junctionOk s ∨ !vaoOk s then .next s else
    if storeBarred s.otp then .next (afterTicket (endCal s 0x0008 0)) else
    match blankSlots s.otp t with
    | [] => .next (afterTicket (endCal s 0x0005 0))
    | ws :: _ =>
      match programWords s (slotWords ws (slotData t sel tCal q.toNat refin s.log.bootCount.toNat)) with
      | (some i, s) => .next (afterTicket (endCal s 0x0001 i))
      | (none, s) =>
        let k := b8 (slotNumber t ws)
        let s := markSlot s t k
        .next (calEnds (logEvent s 0x0C01 [byteAt a.payload 0, k]) a stOk k q [])
  | _, _ => .next s

/-- A calibration waits: HEAD_ENERGY for its die to cool or the reservoir to fill, a store for the conditions of R507. -/
def calWaits (s : State) : Bool :=
  match running s 0x0601 with
  | none => false
  | some a =>
    if s.cal.store.isSome then decide (s.pwr.st ≠ .run) || !junctionOk s || !vaoOk s
    else byteAt a.payload 0 == 7 && (!belowCutoff s [(byteAt a.payload 1).toNat] ||
      (!s.saf.inRun && decide (s.saf.energyRuns < pv s.params 0x0C06) && !reservoirFull s))

/-- The time of such a wait runs from its start (R504). -/
def calTick (s : State) : State :=
  { s with cal := { s.cal with wait := if calWaits s then some (s.cal.wait.getD (now s)) else none } }

/-- A wait that has lasted longer than 30 s. -/
def waitedOut (s : State) (w : Option Time) : Bool :=
  match w with
  | some t => decide (30000000 < since s t)
  | none => false

/-- A wait for the cutoff, for refill or for the store's conditions has exceeded 30 s (R504). -/
def execCalWaitTimeout (s : State) : Out :=
  .next (if (running s 0x0601).isSome && waitedOut s s.cal.wait then afterTicket (endCal s 0x0005 0) else s)

end Sys2Proof.Machine
end

