-- ==== Sys2Proof/Machine/DbgOps.lean ====
section
/-! DEFINITION. The levels that an unlock opens (R180, R181). -/

namespace Sys2Proof.Machine

def levelCode : DbgLevel → Byte
  | .none => 0
  | .service => 1
  | .core => 2

/-- An unlock that failed: counted, logged, and AUTH goes into back-off (R181). -/
def unlockFailed (s : State) (l : DbgLevel) : State :=
  let n := s.dbg.fails + 1
  logEvent { s with dbg := { s.dbg with fails := n, backoff := true } } 0x0113 [levelCode l, b8 (min n 255)]

/-- A level opens (R179 to R181). -/
def openLevel (s : State) (l : DbgLevel) : State :=
  logEvent { s with dbg := { s.dbg with level := l, status := 3, fails := 0, backoff := false, asked := .none, answer := none } }
    0x0114 [levelCode l]

end Sys2Proof.Machine
end

