-- ==== Sys2Proof/Machine/Debug.lean ====
section
/-! DEFINITION. Commands of the debug port: TAP instructions, the AUTH data register's commands and the waits of an unlock
(R163, R179 to R182). SVC, which carries frames, stands with the other links. -/

namespace Sys2Proof.Machine

/-- The TAP is there: the main domain is powered and out of reset, in RUN or DOZE (R179). -/
def tapOn (s : State) : Bool :=
  s.rst.vaoGood && decide (s.rst.main = .booting ∨ s.rst.main = .ready) && decide (s.pwr.st = .run ∨ s.pwr.st = .doze)

/-- At the load of an instruction that needs a level, a lock closes the level that it governs (R163), and so does a lifecycle
in which the level's cell of R178 is X (DESIGN CHOICE, log entry 188). -/
def applyLocks (s : State) : State :=
  if (s.dbg.level = .service ∧ serviceCell s.otp = .x) ∨ (s.dbg.level = .core ∧ coreCell s.otp = .x) ∨
      (s.dbg.used ∧ serviceCell s.otp = .x ∧ coreCell s.otp = .x) then closeDebug s else s

def setDbg (s : State) (f : Dbg → Dbg) : State := { s with dbg := f s.dbg }

/-- Load an instruction that needs no level, and that no lock governs (R163). -/
def loadFree (s : State) (ir : TapIr) : State := if tapOn s then setDbg s (fun d => { d with ir := ir }) else s

/-- Load an instruction that needs a level: it wakes the part from DOZE, and where it is not accepted the TAP selects BYPASS
and the status reads UNAVAIL (R179, R180, R182). -/
def loadLevel (s : State) (ir : TapIr) (accepted : State → Bool) : State :=
  if !tapOn s then s else
  let s := wakeDoze (applyLocks s)
  if accepted s then setDbg s (fun d => { d with ir := ir, used := d.used || ir == .svc || ir == .coreDbg })
  else setDbg s (fun d => { d with ir := .bypass, status := 6 })

/-- The channel that SEQ_HEAD_RAIL names and every channel in SEQ_FIRE_REQUIRED are released (R182). -/
def fireRailsReleased (q : Seq) : Bool :=
  (List.range 8).all (fun n => !(n == q.cfg.headRail || q.cfg.fireReq.toNat.testBit n) || !(chRun q n).en)

def execExtest (s : State) : Out := .next (loadLevel s .extest (fun s => scanOpen s && fireRailsReleased s.seq))
def execSamplePreload (s : State) : Out := .next (loadLevel s .sample scanOpen)
def execIdcode (s : State) : Out := .next (loadFree s .idcode)
def execHighz (s : State) : Out := .next (loadLevel s .highz (fun s => scanOpen s && fireRailsReleased s.seq))
def execAuth (s : State) : Out := .next (loadFree s .auth)
def execCoreDbg (s : State) : Out := .next (loadLevel s .coreDbg coreOpen)

/-- The codes of the instructions that are not BYPASS. -/
def tapCodes : List Nat := [0x00, 0x01, 0x02, 0x05, 0x10, 0x11, 0x12]

/-- BYPASS, and every opcode that is no other instruction's. -/
def execBypass (code : BitVec 5) (s : State) : Out :=
  .next (if tapCodes.contains code.toNat then s else loadFree s .bypass)

/-! ### AUTH -/

/-- The AUTH register is selected. -/
def authOn (s : State) : Bool := tapOn s && decide (s.dbg.ir = .auth)

/-- A request for a level by its cell: BACKOFF while a back-off stands, an open level, a nonce, or UNAVAIL (R179, R181).
`key` is whether AUTH itself unlocks the cell. -/
def requestLevel (s : State) (l : DbgLevel) (cell : Cell) (key : Bool) : State :=
  if !authOn s then s
  else if s.dbg.backoff then setDbg s (fun d => { d with status := 5 })
  else match cell with
    | .o => setDbg s (fun d => { d with status := 3, asked := .none, answer := none })
    | .x => setDbg s (fun d => { d with status := 6, asked := .none, answer := none })
    | .a =>
      if !key then setDbg s (fun d => { d with status := 6, asked := .none, answer := none }) else
      let (n, s) := drawNonce s
      setDbg s (fun d => { d with status := 1, nonce := n, asked := l, answer := none })

def execReqService (s : State) : Out :=
  .next (requestLevel s .service (serviceCell s.otp) (levelKey s.otp .service).isSome)

/-- In RETURN the CORE level opens by a token alone (the text on AUTH), so that AUTH has no nonce for it. -/
def execReqCore (s : State) : Out := .next (requestLevel s .core (coreCell s.otp) (levelKey s.otp .core).isSome)

/-- RESPOND: the first 16 bytes of the HMAC go under verification. -/
def execRespond (mac : List Byte) (s : State) : Out :=
  .next (if authOn s && decide (s.dbg.status = 1 ∧ s.dbg.asked ≠ .none) then
    setDbg s (fun d => { d with status := 2, answer := some (padTo 16 mac) }) else s)

def execClose (s : State) : Out := .next (if authOn s then closeDebug s else s)

/-- The response that opens a level: keyed with its unlock key, over the nonce, the die ID, the level and the lifecycle
code. -/
def expectedResponse (s : State) (l : DbgLevel) : Option (List Byte) :=
  (levelKey s.otp l).map (fun k => (hmac k (leBytes 16 s.dbg.nonce.toNat ++ dieId s.otp ++ [levelCode l, lcCode s.otp])).take 16)

/-- Verification ends: the level opens, or the response is refused, counted and logged, and AUTH waits (R181). -/
def execAuthVerifyDone (s : State) : Out :=
  match s.dbg.answer with
  | none => .next s
  | some a =>
    let l := s.dbg.asked
    if expectedResponse s l = some a then .next (openLevel s l)
    else .next (unlockFailed (setDbg s (fun d => { d with status := 4, asked := .none, answer := none, nonce := 0 })) l)

/-- The back-off has passed. -/
def execAuthBackoffExpiry (s : State) : Out :=
  .next (setDbg s (fun d => { d with backoff := false, status := if d.status = 5 then 0 else d.status }))

/-- SYS_DBG_IDLE_CLOSE without TAP activity (R180). -/
def execDbgIdleClose (s : State) : Out := .next (if s.dbg.level = .none ∧ !s.dbg.used then s else closeDebug s)

end Sys2Proof.Machine
end

