-- ==== Sys2Proof/Machine/HubCmd.lean ====
section
/-! DEFINITION. Commands of the hub family 0x04xx (R300 to R302, R489, R493). -/

namespace Sys2Proof.Machine

/-- HUB_VALUES: the selected channels, ascending (R301). -/
def hHubValues : Handler := fun r s =>
  let m := fieldAt r.payload 0 4
  judge s (exactly r.payload 4) [(0, decide (m < 2 ^ 27))] fun s =>
    (Reply.ok (b48 (now s).toNat ++ zeros 2 ++ (bitsOf 27 m).flatMap (fun c => b16 (recordCode s c))), s)

def execHubValues (r : Req) (s : State) : Out := .next (serve 0x0401 hHubValues r s)

/-- ALIVE of a record. -/
def recAlive (b : List Byte) : Byte := byteAt b 10

/-- The records that are missing before each of a run of records, by their ALIVE (R524); before the first where the one
before it is known. -/
def aliveGaps : Option Byte → List (List Byte) → Nat
  | _, [] => 0
  | prev, b :: bs => (match prev with
      | some a => (recAlive b - a - 1).toNat
      | none => 0) + aliveGaps (some (recAlive b)) bs

/-- LOST as HUB_RECORDS reports it: the losses of the FIFO, and the records missing beyond those overwritten (R301, R524). -/
def recordsLost (h : Hub) (rs : List (List Byte)) : Nat := h.fifoLost + (aliveGaps h.ackAlive rs - h.fifoOver)

/-- HUB_RECORDS: from the read pointer, which stays (R301); each record as stored, whether its CRC-8 holds or not (R525). -/
def hHubRecords : Handler := fun r s =>
  let n := fieldAt r.payload 0 2
  judge s (exactly r.payload 2) [(0, decide (1 ≤ n ∧ n ≤ 340))] fun s =>
    let rs := s.hub.fifo.take n
    (Reply.ok (b16 rs.length ++ b16 (min 65535 (recordsLost s.hub rs)) ++ rs.flatten), noteHubRead s rs)

def execHubRecords (r : Req) (s : State) : Out := .next (serve 0x0402 hHubRecords r s)

/-- HUB_SLOT_SET: user slots only (R469, R470), not one that feeds an active detector with a DISCH action (R489). -/
def hHubSlotSet : Handler := fun r s =>
  let n := fieldAt r.payload 0 1
  let e := r.payload.drop 4
  judge s (exactly r.payload 32) [(0, decide (10 ≤ n ∧ n ≤ 63)), reservedAt r.payload 1 3] fun s =>
    let unused := slotNamesUnused (hubDesc s.hub) e
    match slotCheck e with
    | some off => (Reply.range (4 + if unused then min 1 off else off), s)
    | none =>
      if unused then (Reply.range 5, s)
      else if slotHeld s.hub n then (Reply.no stBusy, s)
      else (Reply.ok [], putSlot s 0x0403 n e)

def execHubSlotSet (r : Req) (s : State) : Out := .next (serve 0x0403 hHubSlotSet r s)

/-- An enabled bus slot names the descriptor (R472). -/
def descNamed (h : Hub) (n : Nat) : Bool := h.slots.any (fun e => slotKind e == 2 && slotSource e == n)

/-- HUB_DESC_SET (R472). -/
def hHubDescSet : Handler := fun r s =>
  let n := fieldAt r.payload 0 1
  let d := r.payload.drop 4
  judge s (exactly r.payload 36) [(0, decide (n ≤ 15)), reservedAt r.payload 1 3] fun s =>
    match descCheck d with
    | some off => (Reply.range (4 + off), s)
    | none => if descUnused d && descNamed s.hub n then (Reply.range 4, s) else (Reply.ok [], putDesc s 0x0404 n d)

def execHubDescSet (r : Req) (s : State) : Out := .next (serve 0x0404 hHubDescSet r s)

/-- HUB_DETECTOR_SET (R483, R489). -/
def hHubDetectorSet : Handler := fun r s =>
  let n := fieldAt r.payload 0 1
  let e := r.payload.drop 4
  judge s (exactly r.payload 20) [(0, decide (n ≤ 31)), reservedAt r.payload 1 3] fun s =>
    let bad := match detCheck n e with
      | some off => if off = 0 then some 0 else if detSourceOff (hubSlot s.hub) e then some 1 else some off
      | none => if detSourceOff (hubSlot s.hub) e then some 1 else none
    match bad with
    | some off => (Reply.range (4 + off), s)
    | none => if detHeld s.hub n then (Reply.no stBusy, s) else (Reply.ok [], putDet s 0x0405 n e)

def execHubDetectorSet (r : Req) (s : State) : Out := .next (serve 0x0405 hHubDetectorSet r s)

/-- HUB_CONFIG_READ: the entry as stored in Clove. -/
def hHubConfigRead : Handler := fun r s =>
  let k := fieldAt r.payload 0 1
  let i := fieldAt r.payload 1 1
  judge s (exactly r.payload 4) [(0, decide (k ≤ 2)), (1, decide (i < if k = 0 then 64 else if k = 1 then 16 else 32)),
      reservedAt r.payload 2 2] fun s =>
    (Reply.ok (if k = 0 then hubSlot s.hub i else if k = 1 then hubDesc s.hub i else hubDet s.hub i), s)

def execHubConfigRead (r : Req) (s : State) : Out := .next (serve 0x0406 hHubConfigRead r s)

/-- HUB_SUBSCRIBE (R302). -/
def hHubSubscribe : Handler := fun r s => judge s (exactly r.payload 4) [] fun s =>
  (Reply.ok [], modBox s (boxOf s r.link) (fun x => { x with subs := BitVec.ofNat 32 (ofLe r.payload) }))

def execHubSubscribe (r : Req) (s : State) : Out := .next (serve 0x0407 hHubSubscribe r s)

/-- HUB_STATUS; its read clears CFG_ABORT (R301). -/
def hHubStatus : Handler := fun r s => judge s (exactly r.payload 0) [] fun s =>
  (Reply.ok (b32 s.hub.sticky.toNat ++ b16 s.hub.fifo.length ++ [b8 (pv s.params 0x0A01), b8 s.hub.borrowed] ++
    b32 s.hub.overrun.toNat ++ b32 s.hub.lost.toNat ++ [if s.rst.abHubCfg.isSome then 1 else 0, 0, 0, 0]),
   { s with rst := { s.rst with abHubCfg := none } })

def execHubStatus (r : Req) (s : State) : Out := .next (serve 0x0408 hHubStatus r s)

/-- HUB_STICKY_CLEAR. -/
def hHubStickyClear : Handler := fun r s => judge s (exactly r.payload 4) [] fun s =>
  (Reply.ok [], setHub s (fun h => { h with sticky := h.sticky &&& ~~~ (BitVec.ofNat 32 (ofLe r.payload)) }))

def execHubStickyClear (r : Req) (s : State) : Out := .next (serve 0x0409 hHubStickyClear r s)

/-- ALIVE of the record before the pointer once it has passed `n` records: none is checked before one has been read since the
main domain's start; records overwritten since count as passed. -/
def passedAlive (h : Hub) (n : Nat) : Option Byte :=
  match (h.fifo.take n).getLast? with
  | some b => some (recAlive b)
  | none => if h.fifoOver = 0 then h.ackAlive else h.ackAlive.map (fun _ => ((h.fifo.head?).elim h.alive recAlive) - 1)

/-- HUB_RECORDS_ACK: the shared read pointer advances, limited to the records present; LOST starts again (R301). -/
def hHubRecordsAck : Handler := fun r s => judge s (exactly r.payload 2) [] fun s =>
  (Reply.ok [], setHub s (fun h => { h with
    fifo := h.fifo.drop (ofLe r.payload), fifoLost := 0, fifoOver := 0, ackAlive := passedAlive h (ofLe r.payload) }))

def execHubRecordsAck (r : Req) (s : State) : Out := .next (serve 0x040A hHubRecordsAck r s)

end Sys2Proof.Machine
end

