-- ==== Sys2Proof/Machine/RasterOps.lean ====
section
/-! DEFINITION. Raster in the store (R328 to R331), the line coding and the stream decoder of raster objects (R332 to R335)
and the feeding of a raster job (R295, R296, R337, R358). -/

namespace Sys2Proof.Machine

/-! ### Bands and blocks -/

def storeBlocks : Nat := 272

/-- The TICKET parameters, latched as a job leaves QUEUED: margins, font, trailing feed, cut and reprint policy (R252). -/
def ticketIds : List Nat := [0x0140, 0x0141, 0x0142, 0x0143, 0x0144, 0x0740]
def latchTicket (s : State) (j : Job) : Job := { j with params := ticketIds.map (pv s.params) }

/-- Position p of a row is bit p of the line's number (R328); padding bits are dropped. -/
def lineOf (bs : List Byte) : Nat := ofLe bs % 2 ^ rowBits

def popOf (v : Nat) : Nat := popCount rowBits v

/-- Blocks of a band: one for each row with a dot, and at least one (R329). -/
def rowBlocks (black red : List Nat) : Nat :=
  max 1 ((if black.any (· != 0) then 1 else 0) + (if red.any (· != 0) then 1 else 0))

/-- How many dots of raster line `l` of a row a die fires. In web mode a dot lies at a row position, which the stitch gives to
one die (R435). In carriage mode the line's dots are all fired by one row position, l - L_s (R436). -/
def dieDots (s : State) (die l bits : Nat) (ov : List (Nat × Nat)) : Nat :=
  if bits = 0 then 0
  else if carriage s then
    let q := l % max 1 (swathLines s)
    if (dieShare s die l (2 ^ q) ov).testBit q then popOf bits else 0
  else popOf (dieShare s die l bits ov)

/-- A band of the store, from its rows' lines: its dot counts by die, its overrides and its blocks (R329 to R331, R454).
Without a red row, red content stands on the black row (R330). -/
def mkBand (s : State) (first : Nat) (black red : List Nat) : Band :=
  let (black, red) := if twoRows s then (black, red)
    else ((List.range (max black.length red.length)).map (fun i => black.getD i 0 ||| red.getD i 0), [])
  let n := max black.length red.length
  let ov := overridesNow s 0 ++ (if twoRows s then overridesNow s 1 else [])
  let perLine (die : Nat) : List Nat := (List.range n).map (fun i =>
    dieDots s die (first + i) ((if die < 2 then black else red).getD i 0) ov)
  let counts := (List.range 4).map perLine
  { black, red, lines := n, dots := counts.map (·.foldl (· + ·) 0), maxDots := counts.map maxList, overrides := ov
    blocks := rowBlocks black red }

/-- Blocks of the band a stream is in the middle of, from its dots so far; without a red row everything stands on the
black row (R329, R330). -/
def openBlocks (s : State) (d : Decoder) : Nat :=
  if !d.bandOpen then 0 else if twoRows s then rowBlocks d.curBlack d.curRed else 1

/-- Blocks of a job's bands in the store; a band that has been freed takes none (R23). -/
def bandBlocks (bs : List (Option Band)) : Nat := (bs.map (fun b => match b with
  | some b => b.blocks
  | none => 0)).foldl (· + ·) 0

/-- Blocks that a job occupies: a description job takes all it needs at once and none while it waits, and each band's come
free as it has fired (R23, R329). -/
def jobBlocks (s : State) (j : Job) : Nat :=
  if j.wait && !j.raster then 0 else
  bandBlocks j.bands +
  (match j.dec with
   | some d => openBlocks s d
   | none => 0)

def blocksUsed (s : State) : Nat := (s.jobs.live.map (jobBlocks s)).foldl (· + ·) 0

/-! ### Coded lines (R334) -/

/-- What runs decode to: the bytes so far, in reverse, or an overrun of the width; a run whose bytes have not all arrived
is left. -/
def runs : Nat → List Byte → List Byte → Nat → Option (List Byte × List Byte)
  | 0, bs, acc, _ => some (bs, acc)
  | _ + 1, [], acc, _ => some ([], acc)
  | k + 1, c :: bs, acc, room =>
    let n := if c.toNat < 0x80 then c.toNat + 1 else c.toNat - 0x7E
    if room < n then none
    else if c.toNat < 0x80 then
      (if bs.length < n then some (c :: bs, acc) else runs k (bs.drop n) ((bs.take n).reverse ++ acc) (room - n))
    else match bs with
      | [] => some ([c], acc)
      | v :: rest => runs k rest (List.replicate n v ++ acc) (room - n)

/-- The outcome of reading a coded line. -/
inductive LineRead where
  | more
  | bad
  | line (bits : Nat) (rest : List Byte)
deriving DecidableEq, Repr

/-- One coded line of `width` bytes and `bits` positions above a previous line. -/
def readLine (width bits prev : Nat) : List Byte → LineRead
  | [] => .more
  | op :: bs =>
    if op = 0 then .line 0 bs
    else if op = 1 then .line prev bs
    else if op = 2 then
      (if bs.length < width then .more else .line (ofLe (bs.take width) % 2 ^ bits) (bs.drop width))
    else if op = 3 then
      (match bs with
       | l :: h :: body =>
         let len := ofLe [l, h]
         let part := body.take len
         match runs (part.length + 1) part [] width with
         | none => .bad
         | some (rest, acc) =>
           if body.length < len then .more
           else if rest.isEmpty && acc.length == width then .line (ofLe acc.reverse % 2 ^ bits) (body.drop len)
           else .bad
       | _ => .more)
    else .bad

/-! ### The decoder (R332, R333, R335) -/

def Decoder.start (total : Nat) : Decoder :=
  { total, got := 0, buf := [], rows := 0, linesTotal := 0, band := 0, cut := 0, headerDone := false, bandOpen := false
    left := 0, prevBlack := 0, prevRed := 0, curBlack := [], curRed := [] }

def Decoder.bands (d : Decoder) : Nat := (d.linesTotal + 63) / 64
/-- NLINES of the band being decoded (R333). -/
def Decoder.nlines (d : Decoder) : Nat := if d.band + 1 < d.bands then 64 else d.linesTotal - 64 * (d.bands - 1)
def Decoder.done (d : Decoder) : Bool := d.headerDone && d.band == d.bands

/-- The conditions on a header, each with the number of bytes that settles it (R332). A LINES that is too large already by its
low bytes is so with whatever follows. -/
def rasterHeaderChecks (h : List Byte) : List (Nat × Bool) :=
  (List.range 4).map (fun i => (i + 1, byteAt h i == byteAt (ascii "NLRS") i)) ++
  [(5, byteAt h 4 == 1), (6, decide (1 ≤ (byteAt h 5).toNat ∧ (byteAt h 5).toNat ≤ 3)), (7, byteAt h 6 == 0),
   (8, byteAt h 7 == 0), (10, decide (fieldAt h 8 2 ≤ 17408)), (11, decide (fieldAt h 8 3 ≤ 17408)),
   (12, decide (1 ≤ fieldAt h 8 4 ∧ fieldAt h 8 4 ≤ 17408)), (13, decide ((byteAt h 12).toNat ≤ 2) || byteAt h 12 == 0xFF),
   (14, byteAt h 13 == 0), (15, byteAt h 14 == 0), (16, byteAt h 15 == 0)]

/-- The conditions on a band record head (R333). -/
def bandHeadChecks (d : Decoder) : List (Nat × Bool) :=
  [(1, byteAt d.buf 0 == b8 d.band), (2, fieldAt d.buf 0 2 == d.band), (3, fieldAt d.buf 2 1 == d.nlines)]

/-- No condition that the bytes so far settle has failed (R358). -/
def soFarOk (buf : List Byte) (checks : List (Nat × Bool)) : Bool := checks.all (fun c => decide (buf.length < c.1) || c.2)

/-- A valid header (R332). -/
def rasterHeaderOk (h : List Byte) : Bool := decide (16 ≤ h.length) && (rasterHeaderChecks h).all (·.2)

/-- What one step of decoding gives: it needs more bytes, it fails with a code and an index, or it goes on, with the rows
of a band that it has completed. -/
inductive DecStep where
  | more
  | fail (detail : Nat)
  | go (d : Decoder) (band : Option (List Nat × List Nat))
deriving DecidableEq, Repr

def decodeFail (index : Nat) : DecStep := .fail (0x0009 + 65536 * index)

/-- Decode one header, band record head or coded line of the buffered bytes. -/
def Decoder.next (d : Decoder) : DecStep :=
  if !d.headerDone then
    if !soFarOk d.buf (rasterHeaderChecks d.buf) then decodeFail 0xFFFF
    else if d.buf.length < 16 then .more
    else .go { d with
      headerDone := true, rows := BitVec.ofNat 2 (byteAt d.buf 5).toNat, linesTotal := fieldAt d.buf 8 4
      cut := byteAt d.buf 12, buf := d.buf.drop 16 } none
  else if d.band = d.bands then (if d.buf.isEmpty then .more else .fail 0xFFFF000A)
  else if !d.bandOpen then
    if !soFarOk d.buf (bandHeadChecks d) then decodeFail d.band
    else if d.buf.length < 4 then .more
    else .go { d with
      bandOpen := true, left := (if d.rows = 3 then 2 else 1) * d.nlines, curBlack := [], curRed := []
      buf := d.buf.drop 4 } none
  else
    let black := d.rows = 1 ∨ (d.rows = 3 ∧ d.nlines < d.left)
    match readLine 237 rowBits (if black then d.prevBlack else d.prevRed) d.buf with
    | .more => .more
    | .bad => decodeFail d.band
    | .line v rest =>
      let d := if black then { d with prevBlack := v, curBlack := v :: d.curBlack, buf := rest, left := d.left - 1 }
        else { d with prevRed := v, curRed := v :: d.curRed, buf := rest, left := d.left - 1 }
      if d.left ≠ 0 then .go d none
      else
        let fill (l : List Nat) : List Nat := if l.isEmpty then List.replicate d.nlines 0 else l.reverse
        .go { d with bandOpen := false, band := d.band + 1, curBlack := [], curRed := [] } (some (fill d.curBlack, fill d.curRed))

/-- Decode as far as the bytes reach: the decoder, the completed bands (to be added to those whose `held` blocks the job has
already), and a failure; the ticket fails with TOO_LONG at the band that passes the whole store (R329, R358). -/
def Decoder.run (s : State) (held : Nat) : Nat → Decoder → List Band → Decoder × List Band × Option Nat
  | 0, d, bands => (d, bands, none)
  | k + 1, d, bands =>
    match d.next with
    | .more => (d, bands, none)
    | .fail det => (d, bands, some det)
    | .go d' done =>
      let bands := match done with
        | none => bands
        | some (b, r) => bands ++ [mkBand s (64 * d.band) b r]
      if storeBlocks < held + bandBlocks (bands.map some) + openBlocks s d' then (d', bands, some (0x0007 + 65536 * d.band))
      else Decoder.run s held k d' bands

/-- The outcome of giving bytes to a raster job. -/
inductive FeedRes where
  | busy
  | fed (s : State)
deriving DecidableEq, Repr

/-- The outcome of decoding bytes: a fault, or the decoder, the bands completed and the bytes that found no room. -/
inductive Decoded where
  | bad (detail : Nat)
  | done (d : Decoder) (bands : List Band) (left : List Byte)
deriving DecidableEq, Repr

/-- Decode bytes one by one, with `free` blocks for the job: what comes first decides, a fault at the byte where it appears or
a byte for which the store has no room, which is left with all behind it (R296, R335, R337, R358). -/
def decodeBytes (s : State) (free held : Nat) : List Byte → Decoder → List Band → Decoded
  | [], d, bands => .done d bands []
  | b :: bs, d, bands =>
    let (d', bands', bad) := Decoder.run s held (d.buf.length + 2) { d with buf := d.buf ++ [b], got := d.got + 1 } bands
    match bad with
    | some det => .bad det
    | none =>
      if free < held + bandBlocks (bands'.map some) + openBlocks s d' then .done d bands (b :: bs)
      else decodeBytes s free held bs d' bands'

/-- A raster job takes the bytes for which the store has room: the state, and the bytes that are left. It fails at the byte
where a fault appears or the ticket passes the whole store (R329, R335, R337, R358). -/
def takeRaster (s : State) (id : Nat) (bytes : List Byte) : State × List Byte :=
  match jobOf s id with
  | none => (s, [])
  | some j =>
    match j.dec with
    | none => (s, [])
    | some d =>
      match decodeBytes s (storeBlocks - (blocksUsed s - jobBlocks s j)) (bandBlocks j.bands) bytes d [] with
      | .bad det => (failJob s id det, [])
      | .done d' bands left => (modJob s id (fun j => { j with
          dec := some d', bands := j.bands ++ bands.map some, lines := d'.linesTotal
          cut := if d'.cut = 0xFF then j.params.getD 4 2 else d'.cut.toNat }), left)

/-- A fragment is taken whole, or not at all where the store has no room for it (R296). -/
def feedRaster (s : State) (id : Nat) (bytes : List Byte) : FeedRes :=
  match takeRaster s id bytes with
  | (s', []) => .fed s'
  | (_, _ :: _) => .busy

/-- A raster object has arrived in full: the job is READY, or HELD where its header says so; an object that ends before
its last band fails (R293, R295, R335). -/
def endRaster (s : State) (id : Nat) : State :=
  match jobOf s id with
  | none => s
  | some j =>
    match j.dec with
    | none => s
    | some d =>
      if !d.done || d.got != d.total then failJob s id rasterIncomplete
      else
        let s := modJob s id (fun j => { j with dec := none, wait := false })
        if j.holdFlag then setJobState s id .held 0 else setJobHeld s id .ready 0 (readyHold s id)

/-! ### New jobs -/

/-- The job header of R293: the first failing field's offset, if any. -/
def headerChecks (p : List Byte) : List (Nat × Bool) :=
  [(0, decide (fieldAt p 0 1 ≤ 2)), (1, decide (fieldAt p 1 1 ≤ 1)), (2, decide (fieldAt p 2 1 ≤ 3)), reservedAt p 3 1]

/-- A job from its header. -/
def newJob (s : State) (ctx : Fin 12) (p : List Byte) (raster raw : Bool) (st : JobSt) : Job :=
  { id := s.jobs.nextId, ctx, raw, raster, st, prio := fieldAt p 0 1, hold := 0, hostRef := BitVec.ofNat 32 (fieldAt p 4 4)
    reprint := fieldAt p 2 1, holdFlag := (byteAt p 1).toNat.testBit 0, lines := 0, fired := 0, desc := [], params := []
    bands := [], cut := 0, dec := none, wait := false, planned := 0, rendAt := 0, rendLeft := 0
    banner := false, reprintDue := false
    cancelling := false, aged := false, detail := 0 }

/-- The counter has assigned its last ID (R532). -/
def idsSpent (s : State) : Bool := decide (0xFFFFFFFF < s.jobs.nextId)

def addJob (s : State) (j : Job) : State :=
  { s with jobs := { s.jobs with live := s.jobs.live ++ [j], nextId := s.jobs.nextId + 1 } }

/-- A raster job is created RENDERING, and its context is told (R295). -/
def addRaster (s : State) (ctx : Fin 12) (p : List Byte) (raw : Bool) (total : Nat) : State :=
  let j := newJob s ctx p true raw .rendering
  let j := { latchTicket s j with dec := some (Decoder.start total) }
  notifyJob (addJob s j) j 0 0

end Sys2Proof.Machine
end

