-- ==== Sys2Proof/Machine/Stream.lean ====
section
/-! DEFINITION. Raw ticket streams on USB interface 1 and TCP port 7431 (R214, R336, R337). -/

namespace Sys2Proof.Machine

/-- What is kept of a raw stream between its bytes. -/
structure RawIn where
  ctx : Fin 12
  usb : Bool
  buf : List Byte
  skip : Nat
  hunt : Bool
deriving DecidableEq, Repr

/-- The raw stream that a link carries, where it is open. -/
def rawIn (s : State) : Link → Option RawIn
  | .usb => if s.usb.attached && s.usb.configured then some ⟨3, true, s.usb.raw, s.usb.skip, s.usb.hunt⟩ else none
  | .conn id => match connOf s id with
    | some k => match k.ctx with
      | some c => if k.raw then some ⟨c, false, k.buf, k.skip, k.hunt⟩ else none
      | none => none
    | none => none
  | _ => none

def putRaw (s : State) (l : Link) (w : RawIn) : State :=
  match l with
  | .usb => { s with usb := { s.usb with raw := w.buf, skip := w.skip, hunt := w.hunt } }
  | .conn id => { s with net := { s.net with conns := s.net.conns.map (fun k =>
      if k.id = id then { k with buf := w.buf, skip := w.skip, hunt := w.hunt } else k) } }
  | _ => s

/-- A record's head: magic and LENGTH (R336). -/
def recordHeadOk (b : List Byte) : Bool :=
  slice b 0 4 == ascii "NLRJ" && decide (16 ≤ fieldAt b 12 4 ∧ fieldAt b 12 4 ≤ 4194304)

/-- A record that no job can be made of is discarded, and the stream reads on (R234, R296, R532): one whose header names no
priority or no reprint policy (DEDUCED, log entry 99). The header's reserved bits reject requests alone (R277); here they are
ignored (R9). -/
def recordTaken (s : State) (w : RawIn) : Bool :=
  decide (fieldAt w.buf 4 1 ≤ 2 ∧ fieldAt w.buf 6 1 ≤ 3) && jobRoom s w.ctx.val && !idsSpent s

/-- One step of reading a stream: bytes to skip, the bytes of the job being streamed for which the store has room, or a record's
head; `none` where the stream waits for bytes or for blocks (R337). -/
def rawStep (s : State) (w : RawIn) : Option (State × RawIn) :=
  if w.buf.isEmpty then none
  else if w.skip ≠ 0 then some (s, { w with buf := w.buf.drop w.skip, skip := w.skip - w.buf.length })
  else match rawJob s w.ctx.val with
  | some j =>
    match j.dec with
    | none => none
    | some d =>
      let chunk := w.buf.take (d.total - d.got)
      match takeRaster s j.id chunk with
      | (s', left) =>
        let n := chunk.length - left.length
        let w' := { w with buf := w.buf.drop n }
        if n = 0 then none
        else if !jobStIs s' j.id .rendering then some (s', { w' with skip := d.total - d.got - n })
        else if d.got + n = d.total then some (endRaster s' j.id, w')
        else some (s', w')
  | none =>
    if slice w.buf 0 4 == (ascii "NLRJ").take w.buf.length && decide (w.buf.length < 16) then none
    else if recordHeadOk w.buf then
      let n := fieldAt w.buf 12 4
      let w' := { w with buf := w.buf.drop 16, hunt := false }
      if recordTaken s w then some (addRaster s w.ctx (slice w.buf 4 8) true n, w') else some (s, { w' with skip := n })
    else
      let s := if w.hunt || !w.usb then s else countLink s 3
      some (s, { w with buf := w.buf.drop 1, hunt := true })

/-- Read a stream as far as its bytes and the store allow (R337). -/
def pump (l : Link) : Nat → State → State
  | 0, s => s
  | k + 1, s =>
    match rawIn s l with
    | none => s
    | some w =>
      match rawStep s w with
      | some (s', w') => pump l k (putRaw s' l w')
      | none => s

/-- A stream's job waits for blocks: bytes of it have come that found no room (R337). -/
def rawWaits (s : State) (w : RawIn) : Bool := (rawJob s w.ctx.val).isSome && !w.buf.isEmpty

/-- The links on which a raw stream may be open. -/
def rawLinks (s : State) : List Link := Link.usb :: s.net.conns.map (fun k => Link.conn k.id)

/-- The bytes that a raw stream has waiting. -/
def rawBytes (s : State) (l : Link) : Nat :=
  match rawIn s l with
  | some w => w.buf.length
  | none => 0

/-- The links whose raw stream is filling a job. -/
def linksOf (s : State) (id : Nat) : List Link :=
  (rawLinks s).filter (fun l => match rawIn s l with
    | some w => decide ((rawJob s w.ctx.val).map (fun k => k.id) = some id)
    | none => false)

/-- The rest of a job's raster object is skipped on the stream that brings it. -/
def skipRest (s : State) (id : Nat) (l : Link) : State :=
  match rawIn s l, (jobOf s id).bind (fun j => j.dec) with
  | some w, some d => putRaw s l { w with skip := d.total - d.got }
  | _, _ => s

/-- CANCELLED at once; where a raw stream is in its record, the stream skips the rest of it and reads on (R298, R336, R337). -/
def cancelStreamed (s : State) (id : Nat) : State :=
  let ls := linksOf s id
  let s := cancelNow (ls.foldl (fun s l => skipRest s id l) s) id
  ls.foldl (fun s l => pump l (2 * rawBytes s l + 4) s) s

/-- Read a stream up to the head of its next job's record (R336, R337). -/
def pumpHead (l : Link) : Nat → State → State
  | 0, s => s
  | k + 1, s =>
    match rawIn s l with
    | none => s
    | some w =>
      if (rawJob s w.ctx.val).isSome then s
      else match rawStep s w with
        | some (s', w') => pumpHead l k (putRaw s' l w')
        | none => s

/-- Bytes of a raw ticket stream arrive. While its job waits for blocks the stream is not read: endpoint 0x03 NAKs and the
TCP window is closed, so that no byte is taken (R337). -/
def execRawJobRecord (link : Link) (bytes : List Byte) (s : State) : Out :=
  if !coreRuns s then .next s else
  match rawIn s link with
  | none => .next s
  | some w =>
    if rawWaits s w then .next s else
    let s := putRaw (countIn (wakeDoze s) link bytes.length) link { w with buf := w.buf ++ bytes }
    .next (schedule (pump link (2 * (w.buf.length + bytes.length) + 4) s))

end Sys2Proof.Machine
end

