-- ==== Sys2Proof/Machine/JobCmd.lean ====
section
/-! DEFINITION. Commands of the job family 0x03xx (R293 to R299). -/

namespace Sys2Proof.Machine

/-- A submission that finds no ID left, or at its last fragment no room for one more job, is answered NO_SPACE, and its message is
discarded (R234, R532). -/
def noIds (r : Req) (op : Nat) (s : State) : Reply × State := (Reply.no stNoSpace, endMsg s r op)

/-- A job of a higher class has become QUEUED: a description job that is RENDERING and waits for blocks gives way to it,
and it is rendered next (R355). -/
def preempt (s : State) (id : Nat) : State :=
  match jobOf s id with
  | none => s
  | some j =>
    if j.st ≠ .queued then s else
    match s.jobs.live.filter (fun w => w.st == .rendering && w.wait && !w.raster && decide (effClass j < effClass w)) with
    | [] => s
    | ws =>
      let s := (ws.map (fun w => w.id)).foldl requeue s
      { s with jobs := { s.jobs with first := some id } }

/-- JOB_SUBMIT: the job gets its ID here and is QUEUED, or HELD (R293, R295, R296). -/
def hJobSubmit : Handler := fun r s =>
  judge s (decide (8 ≤ r.payload.length)) (headerChecks r.payload) fun s =>
    if idsSpent s ∨ !jobRoom s r.ctx.val then noIds r 0x0301 s
    else
      let j := newJob s r.ctx r.payload false false (if (byteAt r.payload 1).toNat.testBit 0 then .held else .queued)
      (Reply.accepted (b32 j.id), preempt (addJob s { j with desc := r.payload.drop 8 }) j.id)

def execJobSubmit (r : Req) (s : State) : Out := .next (serve 0x0301 hJobSubmit r s)

/-- The open raster message of a context. -/
def rasterMsg (s : State) (r : Req) : Option OpenMsg :=
  match (getBox s (boxOf s r.link)).msg with
  | some m => if m.opcode = 0x0302 then some m else none
  | none => none

/-- The end of a raster message: the job's outcome, and its ID (R295, R296). -/
def endRasterMsg (s : State) (r : Req) (id : Nat) : Reply × State :=
  (Reply.accepted (b32 id), schedule (endRaster (endMsg s r 0x0302) id))

/-- The first fragment: the job is created, and the bytes after the 16-byte head are taken (R293, R295, R296). -/
def firstRaster (r : Req) (s : State) : Reply × State :=
  judge s (decide (16 ≤ r.payload.length)) (headerChecks r.payload ++ [reservedAt r.payload 12 4]) fun s =>
    let total := fieldAt r.payload 8 4
    if 4194304 < total then (Reply.no stNoSpace, s)
    else if idsSpent s then noIds r 0x0302 s
    else
      let id := s.jobs.nextId
      let bytes := r.payload.drop 16
      match feedRaster (addRaster s r.ctx r.payload false total) id bytes with
      | .busy => (Reply.no stBusy, s)
      | .fed s' =>
        if r.more then
          let m := { openMsg s r 0x0302 [] with count := r.payload.length, job := id, header := r.payload.take 16 }
          (fragOk r.payload.length, setMsg s' r (some m))
        else endRasterMsg s' r id

/-- A later fragment: taken into the store, answered RANGE where its job was cancelled or has failed, or BUSY where the
store has no room (R295, R296; a failed job's later fragments DEDUCED, log entry 35). -/
def nextRaster (r : Req) (m : OpenMsg) (s : State) : Reply × State :=
  if m.cancelled ∨ !jobStIs s m.job .rendering then (Reply.range 0, if r.more then s else setMsg s r none)
  else match feedRaster s m.job r.payload with
    | .busy => (Reply.no stBusy, s)
    | .fed s' =>
      let n := m.count + r.payload.length
      if r.more then (fragOk n, setMsg s' r (some { m with count := n })) else endRasterMsg s' r m.job

def hJobSubmitRaster : Handler := fun r s =>
  match rasterMsg s r with
  | some m => nextRaster r m s
  | none => firstRaster r s

def execJobSubmitRaster (r : Req) (s : State) : Out := .next (serve 0x0302 hJobSubmitRaster r s)

/-! ### Commands that name a job -/

/-- A job that a request names: unfinished, or among the 64 finished ones whose status is kept (R297). -/
inductive Named where
  | live (j : Job)
  | old (f : Finished)
  | unknown
deriving DecidableEq, Repr

def namedJob (s : State) (id : Nat) : Named :=
  match jobOf s id with
  | some j => .live j
  | none => match s.jobs.finished.find? (fun f => f.id == id) with
    | some f => .old f
    | none => .unknown

def Named.ctx : Named → Option (Fin 12)
  | .live j => some j.ctx
  | .old f => some f.ctx
  | .unknown => none

/-- Whether the request holds the one right that R243 names for a command on a job of context `c`: PRINT for its own,
RIGHTS_ADMIN for another's. -/
def jobRight (s : State) (r : Req) (op : Nat) (c : Fin 12) : Bool :=
  hasBit (admMask s r op) (if c = r.ctx then rPrint else rAdmin)

/-- A command that names a job: the context's own needs PRINT, another's RIGHTS_ADMIN (R243, R297). -/
def onJob (r : Req) (op : Nat) (s : State) (go : Named → State → Reply × State) : Reply × State :=
  let n := namedJob s (fieldAt r.payload 0 4)
  match n.ctx with
  | none => (Reply.range 0, s)
  | some c => if jobRight s r op c then go n s else (Reply.no stNoRight, s)

/-- JOB_STATUS (R294). -/
def hJobStatus : Handler := fun r s => judge s (exactly r.payload 4) [] fun s => onJob r 0x0303 s fun n s =>
  let out (id : Nat) (st : JobSt) (prio : Nat) (ctx : Fin 12) (raster : Bool) (hold : Half) (ref : Word) (lines fired : Nat) :=
    Reply.ok (b32 id ++ [b8 (jobCode st), b8 prio, b8 ctx.val, if raster then 1 else 0] ++ b16 hold.toNat ++ zeros 2 ++
      b32 ref.toNat ++ b32 lines ++ b32 fired)
  match n with
  | .live j => (out j.id j.st j.prio j.ctx j.raster (shownHold s j) j.hostRef j.lines j.fired, s)
  | .old f => (out f.id f.st f.prio f.ctx f.raster 0 f.hostRef f.lines f.fired, s)
  | .unknown => (Reply.range 0, s)

def execJobStatus (r : Req) (s : State) : Out := .next (serve 0x0303 hJobStatus r s)

/-- A cancelled raster job whose message is still open: the message is marked (R295). -/
def markCancelled (s : State) (id : Nat) : State :=
  { s with ctxs := s.ctxs.map (fun x => match x.msg with
      | some m => if m.opcode = 0x0302 ∧ m.job = id then { x with msg := some { m with cancelled := true } } else x
      | none => x) }

/-- Cancelling by the job's state (R298). While it is PRINTING, Saffron admits no further band. -/
def cancelJob (s : State) (j : Job) : State :=
  match j.st with
  | .printing => cancelPrinting s j
  | .cutting => s
  | _ => cancelStreamed (markCancelled s j.id) j.id

/-- JOB_CANCEL (R298): STATE is the state after execution. -/
def hJobCancel : Handler := fun r s => judge s (exactly r.payload 4) [] fun s => onJob r 0x0304 s fun n s =>
  match n with
  | .live j =>
    let s := cancelJob s j
    let st : JobSt := ((jobOf s j.id).map (·.st)).getD (((s.jobs.finished.find? (fun f => f.id == j.id)).map (·.st)).getD .cancelled)
    (Reply.ok [b8 (jobCode st), 0, 0, 0], schedule s)
  | .old f => (Reply.ok [b8 (jobCode f.st), 0, 0, 0], s)
  | .unknown => (Reply.range 0, s)

def execJobCancel (r : Req) (s : State) : Out := .next (serve 0x0304 hJobCancel r s)

/-- JOB_HOLD (R299): the rendered raster is freed. -/
def hJobHold : Handler := fun r s => judge s (exactly r.payload 4) [] fun s => onJob r 0x0305 s fun n s =>
  match n with
  | .live j =>
    if j.st = .queued ∨ (!j.raster ∧ (j.st = .rendering ∨ j.st = .ready)) then
      let s := if j.raster then s else modJob s j.id freeRaster
      (Reply.ok [], setJobState s j.id .held 0)
    else (Reply.no stBusy, s)
  | .old _ => (Reply.no stBusy, s)
  | .unknown => (Reply.range 0, s)

def execJobHold (r : Req) (s : State) : Out := .next (serve 0x0305 hJobHold r s)

/-- A HELD job returns to QUEUED; a job held by its reprint policy queues its reprint (R299). A raster job keeps its
raster, which is complete, and so goes on to READY (DEDUCED, log entry 36). -/
def releaseJob (s : State) (j : Job) : State :=
  let s := modJob s j.id (fun j => { j with holdFlag := false, banner := j.banner || j.reprintDue })
  let s := if j.reprintDue ∧ !s.jobs.interrupted.contains j.id then
      { s with jobs := { s.jobs with interrupted := s.jobs.interrupted ++ [j.id] } } else s
  let s := setJobState s j.id .queued 0
  if j.raster then becomeReady s j.id else preempt s j.id

/-- JOB_RELEASE (R299); any state but HELD is refused as JOB_HOLD refuses other states (DEDUCED, log entry 36). -/
def hJobRelease : Handler := fun r s => judge s (exactly r.payload 4) [] fun s => onJob r 0x0306 s fun n s =>
  match n with
  | .live j => if j.st = .held then (Reply.ok [], releaseJob s j) else (Reply.no stBusy, s)
  | .old _ => (Reply.no stBusy, s)
  | .unknown => (Reply.range 0, s)

def execJobRelease (r : Req) (s : State) : Out := .next (serve 0x0306 hJobRelease r s)

/-- JOB_LIST: the requesting context's unfinished jobs, at most 16 (R299). -/
def hJobList : Handler := fun r s => judge s (exactly r.payload 0) [] fun s =>
  let js := (s.jobs.live.filter (fun j => j.ctx == r.ctx)).take 16
  (Reply.ok ([b8 js.length, 0, 0, 0] ++
    js.flatMap (fun j => b32 j.id ++ [b8 (jobCode j.st), b8 j.prio] ++ b16 (shownHold s j).toNat)), s)

def execJobList (r : Req) (s : State) : Out := .next (serve 0x0307 hJobList r s)

/-- JOB_PRIORITY: QUEUED and HELD jobs only (R299). -/
def hJobPriority : Handler := fun r s =>
  judge s (exactly r.payload 8) [] fun s => onJob r 0x0308 s fun n s =>
    judge s true [(4, decide (fieldAt r.payload 4 1 ≤ 2)), reservedAt r.payload 5 3] fun s =>
      match n with
      | .live j =>
        if j.st = .queued ∨ j.st = .held then
          (Reply.ok [], modJob s j.id (fun j => { j with prio := fieldAt r.payload 4 1, aged := false }))
        else (Reply.no stBusy, s)
      | .old _ => (Reply.no stBusy, s)
      | .unknown => (Reply.range 0, s)

def execJobPriority (r : Req) (s : State) : Out := .next (serve 0x0308 hJobPriority r s)

end Sys2Proof.Machine
end

