-- ==== Sys2Proof/Machine/LogCmd.lean ====
section
/-! DEFINITION. The event log in NVM (R267 to R276, R541): writing the ring and LOG_CTRL, and commands of the log family
0x08xx. -/

namespace Sys2Proof.Machine

/-! ### The ring -/

/-- An event record (R267). -/
def eventBytes (seq : Word) (e : Event) : List Byte :=
  withCrc16 ([0x01, b8 (severity e.code.toNat)] ++ b16 e.code.toNat ++ b48 e.time.toNat ++ b32 seq.toNat ++
    [e.ctx, e.pstate] ++ b32 e.job.toNat ++ padTo 8 e.data ++ b16 (e.boot.toNat % 65536))

/-- Records into their slots, from SEQ mod 16,384 on, in place of what stood there: the oldest, or a record that was torn (R270). -/
def ringAppend (s : State) (es : List Event) : State :=
  let sq := s.log.next
  let new : List RingRec := es.mapIdx (fun i e => ⟨sq + BitVec.ofNat 32 i, eventBytes (sq + BitVec.ofNat 32 i) e⟩)
  let slot (r : RingRec) : Nat := r.seq.toNat % 16384
  let ring := s.nvm.ring.filter (fun r => !new.any (fun x => slot x == slot r)) ++ new
  let s := new.foldl (fun s r => noteWrite s recordStream r.bytes) s
  { s with
    nvm := { s.nvm with ring := ring }
    log := { s.log with next := sq + BitVec.ofNat 32 es.length } }

/-- The records of a flush, page by page: each page is written once, and where it cannot be written its records are lost
(R263, R264, R266, R270). -/
def ringPut : Nat → State → List Event → State
  | 0, s, _ => s
  | _, s, [] => s
  | k + 1, s, e :: es =>
    let at' := s.log.next.toNat % 16384
    let here := (e :: es).take (8 - at' % 8)
    match writePage 257 s (0xA00 + at' / 8) with
    | (true, s') => ringPut k (ringAppend s' here) ((e :: es).drop (8 - at' % 8))
    | (false, s') => ringPut k (countLost s' here.length) ((e :: es).drop (8 - at' % 8))

/-- The LOG_LOSS record: lost since the previous one, and the running total (R268, R272). -/
def lossEvent (s : State) : Event :=
  { code := 0x0E01, time := now s, ctx := 0xFF, pstate := pstateCode s.pwr.st, job := 0, boot := s.log.bootCount
    data := b32 (s.log.loss - s.log.lossSeen).toNat ++ b32 s.log.loss.toNat }

/-- A flush: every staged record, and a LOG_LOSS record while losses are uncounted in NVM (R270 to R272). -/
def flushLog (s : State) : State :=
  let staged := s.log.staging
  let loss := if s.log.lossDue then [lossEvent s] else []
  let s := { s with log := { s.log with
    staging := [], lossDue := false, lossSeen := if s.log.lossDue then s.log.loss else s.log.lossSeen } }
  ringPut (staged.length + 1) s (staged ++ loss)

/-- Eight records are staged (R271, "Where the log goes"). -/
def execLogFlush (s : State) : Out :=
  .next (if coreRuns s && decide (8 ≤ s.log.staging.length) then flushLog (wakeDoze s) else s)

/-- LOG_FLUSH_INTERVAL after the first unflushed record. -/
def execLogFlushIntervalExpiry (s : State) : Out :=
  .next (if coreRuns s && !s.log.staging.isEmpty then flushLog (wakeDoze s) else s)

/-- A LOG_CTRL page as it lies: the spec names its contents and the CRC-32C over them; their places are the model's (DESIGN CHOICE,
log entry 170). -/
def ctrlBytes (c : LogCtrl) : List Byte :=
  withCrc32c (padTo 252 (b32 c.bootCount.toNat ++ b32 c.loss.toNat ++ b32 c.lowest.toNat ++ b32 c.checked.toNat ++
    (match c.newestRec with
     | some r => b16 r.toNat ++ [1]
     | none => [0, 0, 0])))

/-- What a page says, where its check holds. -/
def parseCtrl (b : List Byte) : Option LogCtrl :=
  if b.length ≠ 256 ∨ slice b 252 4 ≠ b32 (crc32c (b.take 252)).toNat then none else
  let word (off : Nat) : Word := BitVec.ofNat 32 (fieldAt b off 4)
  some ⟨word 0, word 4, word 8, word 12, if byteAt b 18 = 0 then none else some (BitVec.ofNat 16 (fieldAt b 16 2))⟩

/-- Write the next of the 8 LOG_CTRL pages (R272); where it cannot be written, what it held stands (R264). -/
def writeLogCtrl (s : State) : State :=
  let i := s.nvm.ctrlNext % 8
  let b := ctrlBytes ⟨s.log.bootCount, s.log.loss, s.log.lowest, s.log.checked, s.log.newestRec⟩
  let (ok, s) := writePage 257 (noteWrite s pageStream b) (0x941 + i)
  { s with nvm := { s.nvm with ctrl := if ok then s.nvm.ctrl.set i b else s.nvm.ctrl, ctrlNext := (i + 1) % 8 }
           log := { s.log with ctrlAt := some (now s) } }

/-- LOG_CTRL is written at most once per 60 s (R272). -/
def execLogCtrlWrite (s : State) : Out :=
  .next (if !coreRuns s then s else
    match s.log.ctrlAt with
    | some t => if since s t < 60000000 then s else writeLogCtrl (wakeDoze s)
    | none => writeLogCtrl (wakeDoze s))

/-! ### Commands (R311, R312, R276) -/

/-- The lowest visible sequence: the one LOG_CLEAR set, or the oldest record still in the ring. -/
def lowestVisible (s : State) : Word :=
  match s.nvm.ring.head? with
  | some r => if (r.seq - s.log.lowest).toNat < 2 ^ 31 then r.seq else s.log.lowest
  | none => s.log.lowest

def hLogInfo : Handler := fun r s => judge s (exactly r.payload 0) [] fun s =>
  (Reply.ok (b32 s.log.next.toNat ++ b32 (lowestVisible s).toNat ++ b32 s.log.loss.toNat ++ b32 s.log.bootCount.toNat ++
    [b8 s.log.staging.length, b8 (erasedSlots s.nvm).length, b8 (validSnaps s.nvm).length, b8 (pv s.params 0x0E01)]), s)

def execLogInfo (r : Req) (s : State) : Out := .next (serve 0x0801 hLogInfo r s)

/-- LOG_READ: consecutive records; an older sequence starts at the oldest visible one, with the gap flagged (R276). -/
def hLogRead : Handler := fun r s =>
  let m := fieldAt r.payload 4 2
  judge s (exactly r.payload 8) [(4, decide (1 ≤ m ∧ m ≤ 127)), reservedAt r.payload 6 2] fun s =>
    let asked := BitVec.ofNat 32 (fieldAt r.payload 0 4)
    let low := lowestVisible s
    let gap := decide ((low - asked).toNat < 2 ^ 31 ∧ low ≠ asked)
    let first := if gap then low else asked
    let recs := (s.nvm.ring.filter (fun x => decide ((x.seq - first).toNat < 2 ^ 31))).take m
    let recs := recs.map (·.bytes)
    (Reply.ok (b32 first.toNat ++ b16 recs.length ++ b16 (maskOf [gap, recs.any recordBad]) ++ recs.flatten),
      readAll s recordStream recs)

def execLogRead (r : Req) (s : State) : Out := .next (serve 0x0802 hLogRead r s)

/-- FAULT_READ: an erased slot reads as 0xFF (R312). -/
def hFaultRead : Handler := fun r s => judge s (exactly r.payload 0) [] fun s =>
  (Reply.ok ((List.range 8).flatMap (fun i => match s.nvm.faults.getD i none with
    | some f => padTo 32 f.bytes
    | none => List.replicate 32 0xFF)), readAll s recordStream (slotRecords s.nvm))

def execFaultRead (r : Req) (s : State) : Out := .next (serve 0x0803 hFaultRead r s)

/-- SNAPSHOT_READ: by REC_SEQ, or the newest (R312). -/
def hSnapshotRead : Handler := fun r s =>
  judge s (exactly r.payload 4) [(2, decide (fieldAt r.payload 2 1 ≤ 1)), reservedAt r.payload 3 1] fun s =>
    let hit := if byteAt r.payload 2 = 1 then (validSnaps s.nvm).getLast?
      else (validSnaps s.nvm).reverse.find? (fun p => slice p.2 26 2 == slice r.payload 0 2)
    match hit with
    | some p => (Reply.ok p.2, noteRead s snapStream p.2)
    | none => (Reply.range 0, s)

def execSnapshotRead (r : Req) (s : State) : Out := .next (serve 0x0804 hSnapshotRead r s)

/-- LOG_CLEAR raises the lowest visible sequence and erases nothing (R276). -/
def hLogClear : Handler := fun r s =>
  judge s (exactly r.payload 4) [(0, r.payload == ascii "LOGC")] fun s =>
    (Reply.ok (b32 s.log.next.toNat), { s with log := { s.log with lowest := s.log.next } })

def execLogClear (r : Req) (s : State) : Out := .next (serve 0x0805 hLogClear r s)

end Sys2Proof.Machine
end

