-- ==== Sys2Proof/Machine/Window.lean ====
section
/-! DEFINITION. Commands of the host I2C port's register window (R183 to R193), and the window as a host reads it. -/

namespace Sys2Proof.Machine

def inCapacity : Nat := 4128

def setPort (s : State) (f : HostPort → HostPort) : State := { s with port := f s.port }

/-- A byte written to DATA_IN: dropped with OVERFLOW where RX_SPACE is 0 (R191). -/
def putDataIn (s : State) (v : Byte) : State :=
  if s.port.dbStatus = 0x0101 ∨ inCapacity ≤ s.port.inBuf.length then setIrq s 4
  else setPort s (fun p => { p with inBuf := p.inBuf ++ [v] })

def clearIrq (s : State) (v : Byte) : State := setPort s (fun p => { p with irq := p.irq &&& ~~~ v })
def flushIn (s : State) : State := setPort s (fun p => { p with inBuf := [] })
def rewindOut (s : State) : State := setPort s (fun p => { p with outPos := 0 })

/-- OUT_SKIP: the head frame is discarded, and counted where it was a notification (R192). It counts as sent: the part's ALIVE goes on,
and a response's cache entry is complete (DESIGN CHOICE, log entry 195). -/
def skipOut (s : State) : State :=
  match (ctxOf s 1).out with
  | [] => rewindOut s
  | f :: _ =>
    let s := rewindOut (deliverHead s (.ctx 1))
    if isNotif f then countNotifLost s 1 else s

/-- DOORBELL 0x01 submits the inbound buffer: DB_STATUS reads BUSY until the check has settled (R190). -/
def ringDoorbell (s : State) (v : Byte) : State :=
  if v = 0x01 then setPort s (fun p => { p with dbStatus := 0x0101 }) else s

/-- CTRL's three self-clearing bits. -/
def writeCtrl (s : State) (v : Byte) : State :=
  let s := if v.toNat.testBit 0 then flushIn s else s
  let s := if v.toNat.testBit 1 then rewindOut s else s
  if v.toNat.testBit 2 then skipOut s else s

/-- A byte written at an offset of the live window; read-only and reserved bytes ignore it (R184, R188). -/
def writeWindow (s : State) (off : Nat) (v : Byte) : State :=
  if off = 0x08 then clearIrq s v
  else if off = 0x09 then setPort s (fun p => { p with irqEnable := v })
  else if off = 0x0A then writeCtrl s v
  else if off = 0x0B then ringDoorbell s v
  else if off = 0x20 then putDataIn s v
  else s

/-- The pointer after a data byte: it stays at DATA_IN and DATA_OUT and wraps from 0x3F (R184). -/
def nextPtr (off : Nat) : Nat := if off = 0x20 ∨ off = 0x21 then off else (off + 1) % 64

def writeBytes (s : State) : Nat → List Byte → State
  | _, [] => s
  | off, v :: vs => writeBytes (writeWindow s off v) (nextPtr off) vs

/-- A write transaction with PEC on is held until STOP: applied with a correct PEC as its last byte, else discarded with
PEC_ERR; more than 255 data bytes set OVERFLOW (R186, R187). -/
def pecWrite (s : State) (ptr : Byte) (full : List Byte) : State :=
  let data := full.dropLast
  if 255 < data.length then setIrq s 4
  else if full.getLast? = some (pecOf s ptr data) then writeBytes s ptr.toNat data
  else countLink (setIrq s 3) 1

/-- A write transaction to the part's address: Reed refuses it in LISTEN, and discards it in BOOT, where a doorbell is
refused in the image (R110, R193); a pointer of 0x40 or above is not acknowledged (R184). -/
def i2cWrite (s : State) (ptr : Byte) (full : List Byte) : State :=
  if s.reed.owns then (if s.reed.boot then s else reedHears s (b8 (2 * s.rst.hostAddr.toNat)))
  else if !portRuns s ∨ 0x40 ≤ ptr.toNat then s
  else if s.port.pecOn then pecWrite s ptr full
  else writeBytes s ptr.toNat full

/-- The bytes of a write as they arrive: the data, then the byte given as PEC where there is one. -/
def withPec (bytes : List Byte) (pec : Option Byte) : List Byte := bytes ++ pec.toList

/-! ### Reading -/

/-- A 16-bit register's byte. -/
def byteOf (v i : Nat) : Byte := b8 (v / 256 ^ i)

def outLen (s : State) : Nat := (headBytes s 1).length

/-- A byte of the live window, without the effects of reading DATA_OUT and NOTIF_LOST (R188). Between the commit of NAP and the hand-over
to Reed it reads BOOTING and PSTATE 0x02 (DESIGN CHOICE, log entry 197). -/
def liveByte (s : State) (off : Nat) : Byte :=
  if off < 3 then partId.getD off 0
  else if off < 6 then (fwVer s).getD (off - 3) 0
  else if off = 6 then statusByte s
  else if off = 7 then pstateCode s.pwr.st
  else if off = 0x08 then irqStatus s
  else if off = 0x09 then s.port.irqEnable
  else if off = 0x0C ∨ off = 0x0D then byteOf s.port.dbStatus.toNat (off - 0x0C)
  else if off = 0x0E ∨ off = 0x0F then byteOf s.port.inBuf.length (off - 0x0E)
  else if off = 0x10 ∨ off = 0x11 then
    byteOf (if s.port.dbStatus = 0x0101 then 0 else inCapacity - s.port.inBuf.length) (off - 0x10)
  else if off = 0x12 ∨ off = 0x13 then byteOf (outLen s) (off - 0x12)
  else if off = 0x14 ∨ off = 0x15 then byteOf s.port.outPos (off - 0x14)
  else if off = 0x16 then b8 (min 255 (ctxOf s 1).out.length)
  else if off = 0x17 then b8 (min 255 (ctxOf s 1).cnt.notifLost.toNat)
  else if off = 0x30 ∨ off = 0x31 then byteOf s.pwr.lastCause.toNat (off - 0x30)
  else if off = 0x32 then s.pwr.reedRefused
  else if off = 0x33 then s.rst.cause
  else 0

/-- A byte of the image that Reed serves in BOOT; while WAKE_CAUSE collects, that of the wake under way (R101, R193). -/
def imageByte (s : State) (off : Nat) : Byte :=
  if off = 7 then s.pwr.entryState
  else if (off = 0x30 ∨ off = 0x31) ∧ s.pwr.collect.isSome then byteOf s.pwr.wakeCause.toNat (off - 0x30)
  else if off < 8 ∨ (0x30 ≤ off ∧ off < 0x34) then liveByte s off
  else if off = 0x0C ∨ off = 0x0D then byteOf s.port.imgDb.toNat (off - 0x0C)
  else 0

/-- A byte of the window as a host reads it now. -/
def windowByte (s : State) (off : Nat) : Byte := if s.reed.owns then imageByte s off else liveByte s off

/-- One read of DATA_OUT (R192). -/
def takeOut (s : State) : Byte × State :=
  match (ctxOf s 1).out with
  | [] => (0xFF, s)
  | f :: _ =>
    let bytes := wireBytes 1 (ctxOf s 1) f
    let v := byteAt bytes s.port.outPos
    if s.port.outPos + 1 < bytes.length then (v, setPort s (fun p => { p with outPos := p.outPos + 1 }))
    else (v, rewindOut (deliverHead s (.ctx 1)))

def takeOuts : Nat → State → List Byte × State
  | 0, s => ([], s)
  | n + 1, s =>
    let (v, s) := takeOut s
    let (vs, s) := takeOuts n s
    (v :: vs, s)

/-- What a read of a number of bytes returns with PEC on: n data bytes, the PEC, and 0xFF beyond it (R186). A length of 0, which R186
leaves out, has no data byte before the PEC (DESIGN CHOICE, log entry 201). -/
def pecRead (s : State) (ptr n : Byte) (data : List Byte) (count : Nat) : List Byte :=
  let a := 2 * s.rst.hostAddr.toNat
  (data ++ crc8 ([b8 a, ptr, n, b8 (a + 1)] ++ data) :: List.replicate count 0xFF).take count

/-! ### The commands -/

/-- Bytes written to DATA_IN (R184, R187, R191). -/
def execDataIn (bytes : List Byte) (pec : Option Byte) (s : State) : Out := .next (i2cWrite s 0x20 (withPec bytes pec))

/-- A value written to DOORBELL (R190). -/
def execDoorbell (value : Byte) (pec : Option Byte) (s : State) : Out := .next (i2cWrite s 0x0B (withPec [value] pec))

/-- A read while Reed serves the port: refused in LISTEN; in BOOT the image's bytes, with the PEC where it was enabled at the
last READY (R110, R186, R193). -/
def reedRead (s : State) (ptr n : Byte) (data : List Byte) (count : Nat) : State :=
  if s.reed.boot then
    setPort s (fun p => { p with lastRead := if p.pecOn then pecRead s ptr n (data.take n.toNat) count else data })
  else reedHears s (b8 (2 * s.rst.hostAddr.toNat))

/-- A read of DATA_OUT (R186, R192). In the image it reads 0x00 (R193). -/
def execDataOut (read : DataRead) (s : State) : Out :=
  if s.reed.owns then .next (reedRead s 0x21 read.n (zeros read.count) read.count)
  else if !portRuns s then .next s
  else
    let pec := s.port.pecOn
    let (data, s') := takeOuts (if pec then min read.count read.n.toNat else read.count) s
    .next (setPort s' (fun p => { p with lastRead := if pec then pecRead s 0x21 read.n data read.count else data }))

/-- Ones written to IRQ_STATUS clear its bits; OUT_READY is a level (R188, R189). -/
def execIrqStatusClear (value : Byte) (pec : Option Byte) (s : State) : Out :=
  .next (i2cWrite s 0x08 (withPec [value] pec))

/-- IN_FLUSH (R191). -/
def execInFlush (pec : Option Byte) (s : State) : Out := .next (i2cWrite s 0x0A (withPec [0x01] pec))

/-- OUT_REWIND (R192). -/
def execOutRewind (pec : Option Byte) (s : State) : Out := .next (i2cWrite s 0x0A (withPec [0x02] pec))

/-- OUT_SKIP (R192). -/
def execOutSkip (pec : Option Byte) (s : State) : Out := .next (i2cWrite s 0x0A (withPec [0x04] pec))

/-- A read of NOTIF_LOST returns the count and clears it (R188, R239). -/
def execNotifLostRead (s : State) : Out :=
  if s.reed.owns then .next (reedRead s 0x17 1 [0x00] 2)
  else if !portRuns s then .next s
  else
    let data := [liveByte s 0x17]
    let s := modCtx s 1 (fun x => { x with cnt := { x.cnt with notifLost := 0 } })
    .next (setPort s (fun p => { p with lastRead := if p.pecOn then pecRead s 0x17 1 data 2 else data }))

/-- A write from any pointer of the window (R183, R184, R187, R193). -/
def execRegisterWrite (ptr : Byte) (bytes : List Byte) (pec : Option Byte) (s : State) : Out :=
  .next (i2cWrite s ptr (withPec bytes pec))

end Sys2Proof.Machine
end

