-- ==== Sys2Proof/Machine/Usb.lean ====
section
/-! DEFINITION. Commands of the UART's line levels and of the USB device (R197, R199 to R204). -/

namespace Sys2Proof.Machine

/-- The receive buffer is taken: what it held is a frame, or is discarded. -/
def uartTaken (s : State) : State := { s with uart := { s.uart with rx := [], rxBad := false } }

/-- No byte for UART_FRAME_GAP while a frame is open: the frame is discarded and counted (R196). -/
def execUartFrameGapExpiry (s : State) : Out := .next (if coreRuns s then countLink (uartTaken s) 2 else s)

/-- UART_CTS changes level; while it is high the part starts no character (R197). -/
def execUartCtsChange (high : Bool) (s : State) : Out := .next { s with uart := { s.uart with ctsHigh := high } }

/-! ### USB -/

def setUsb (s : State) (f : Usb → Usb) : State := { s with usb := f s.usb }

/-- The device answers: attached, not suspended, with Cehole running. -/
def usbAnswers (s : State) : Bool := s.usb.attached && !s.usb.suspended && coreRuns s

/-- The attention report of endpoint 0x82 (R202). -/
def attention (s : State) : List Byte :=
  [b8 (min 255 (ctxOf s 3).out.length), statusByte s] ++ b16 s.usb.lost

/-- A poll of endpoint 0x82: the report where it has changed since the last one; the lost count is cleared (R202). -/
def execUsbInterruptReport (s : State) : Out :=
  if !usbAnswers s ∨ !s.usb.configured ∨ s.usb.report = attention s then .next s else
  .next (setUsb s (fun u => { u with report := attention s, lost := 0 }))

/-- The port status byte (R203). -/
def portStatus (s : State) : Byte :=
  let bad := s.jobs.finished.any (fun f => f.ctx.val == 3 && decide (f.st = .failed)) ||
    s.jobs.live.any (fun j => j.ctx.val == 3 && j.hold == 0x0701)
  b8 (flagBit (!bad) 3 + 16 + flagBit (paperOut s) 5)

/-- GET_PORT_STATUS (R203). -/
def execGetPortStatus (s : State) : Out :=
  .next (if usbAnswers s then setUsb s (fun u => { u with control := some [portStatus s] }) else s)

/-- SOFT_RESET: unparsed bytes go, and raw jobs that are not yet PRINTING are cancelled (R203). -/
def execSoftReset (s : State) : Out :=
  if !usbAnswers s then .next s else
  let ids := (s.jobs.live.filter (fun j => j.raw && j.ctx.val == 3 &&
    [JobSt.queued, .rendering, .ready, .held].contains j.st)).map (·.id)
  .next (setUsb (ids.foldl cancelNow s) (fun u => { u with raw := [], skip := 0, hunt := false, control := some [] }))

/-- GET_DEVICE_ID and every other class request is stalled (R203). -/
def execUsbClassRequestStall (request : Byte) (s : State) : Out :=
  .next (if usbAnswers s ∧ request ≠ 0x01 ∧ request ≠ 0x02 then setUsb s (fun u => { u with control := none }) else s)

/-- The device's link has an event: work that takes the part out of DOZE (R91, R99). -/
def usbEvent (s : State) : State := if s.usb.attached && coreRuns s then wakeDoze s else s

/-- A bus reset: the address and the configuration go, and the unparsed raw bytes; jobs and queues stay (R200, R204). -/
def execUsbBusReset (s : State) : Out :=
  .next (if s.usb.attached then
    setUsb (usbEvent s) (fun u => { u with address := 0, configured := false, suspended := false, halted := [], raw := [], skip := 0, hunt := false }) else s)

/-- USB_VBUS falls: the part detaches, and a keyed session on context 3 ends (R199, R204, R212). -/
def execUsbVbusFall (s : State) : Out :=
  .next (endKeyed (setUsb (usbEvent s) (fun u => { u with
    vbus := false, attached := false, address := 0, configured := false, suspended := false, halted := [], raw := [], skip := 0, hunt := false })) 3)

/-- USB_VBUS rises: the part attaches where it is READY, wakes from NAP and cancels an entry to it (R67, R95, R99). -/
def execUsbVbusRise (s : State) : Out :=
  let s := setUsb s (fun u => { u with vbus := true })
  let s := wakeSource s 10
  .next (if coreRuns s then usbAttach (wakeDoze s) else s)

/-- 3 ms of bus idle (R204). -/
def execUsbSuspend (s : State) : Out :=
  .next (if s.usb.attached then setUsb s (fun u => { u with suspended := true }) else s)

/-! ### Standard requests (R200) -/

def usbDevice (s : State) : List Byte :=
  [18, 1] ++ b16 0x0200 ++ [0, 0, 0, 64] ++ b16 (pv s.params 0x0221) ++ b16 (pv s.params 0x0222) ++ b16 0x0210 ++
  [1, 2, 3, 1]

def usbEndpoint (addr attr size interval : Nat) : List Byte := [7, 5, b8 addr, b8 attr] ++ b16 size ++ [b8 interval]

/-- The configuration with its two interfaces and four endpoints, 0x37 bytes. -/
def usbConfiguration : List Byte :=
  [9, 2] ++ b16 0x0037 ++ [2, 1, 0, 0xC0, 1] ++
  [9, 4, 0, 0, 3, 0xFF, 0, 0, 0] ++ usbEndpoint 0x01 2 64 0 ++ usbEndpoint 0x81 2 64 0 ++ usbEndpoint 0x82 3 8 4 ++
  [9, 4, 1, 0, 1, 0x07, 0x01, 0x01, 0] ++ usbEndpoint 0x03 2 64 0

def hexDigit (n : Nat) : Byte := b8 (if n < 10 then 48 + n else 55 + n)

/-- The die ID as 32 uppercase hexadecimal digits, most significant first (R200). -/
def dieIdText (o : Otp) : List Byte := (dieId o).reverse.flatMap (fun b => [hexDigit (b.toNat / 16), hexDigit (b.toNat % 16)])

/-- A string descriptor in UTF-16LE. -/
def usbString (text : List Byte) : List Byte := [b8 (2 + 2 * text.length), 3] ++ text.flatMap (fun c => [c, 0])

/-- A descriptor by type and index; none where the part has no such descriptor. Strings 1 to 3 are
there in language 0x0409 alone (R200). -/
def usbDescriptor (s : State) (ty idx : Nat) (lang : Half) : Option (List Byte) :=
  if ty = 1 ∧ idx = 0 then some (usbDevice s)
  else if ty = 2 ∧ idx = 0 then some usbConfiguration
  else if ty = 3 ∧ idx = 0 then some ([4, 3] ++ b16 0x0409)
  else if ty = 3 ∧ lang ≠ 0x0409 then none
  else if ty = 3 ∧ idx = 1 then some (usbString (ascii "Gwelor Microsystems"))
  else if ty = 3 ∧ idx = 2 then some (usbString (inForce s.params 0x0223))
  else if ty = 3 ∧ idx = 3 then some (usbString (dieIdText s.otp))
  else none

def epKnown (e : Byte) : Bool := [0x00, 0x80, 0x01, 0x81, 0x82, 0x03].contains e

/-- The answer to a standard request and its effect, as USB 2.0 chapter 9 gives them (PRESUMED, log entry 32); none is a
stall. -/
def usbStandard (s : State) (r : Setup) : Option (List Byte) × (Usb → Usb) :=
  let keep (u : Usb) : Usb := u
  let recipient := r.reqType.toNat % 32
  let dirIn := 128 ≤ r.reqType.toNat
  match r.request.toNat with
  | 0 => -- GET_STATUS: self-powered, no remote wakeup; an endpoint's halt
    if recipient = 0 then (some [1, 0], keep)
    else if recipient = 1 ∧ s.usb.configured ∧ r.index.toNat < 2 then (some [0, 0], keep)
    else if recipient = 2 ∧ epKnown (b8 r.index.toNat) then
      (some [if s.usb.halted.contains (b8 r.index.toNat) then 1 else 0, 0], keep)
    else (none, keep)
  | 1 => -- CLEAR_FEATURE: ENDPOINT_HALT only
    if recipient = 2 ∧ r.value = 0 ∧ epKnown (b8 r.index.toNat) then
      (some [], fun u => { u with halted := u.halted.filter (· != b8 r.index.toNat) })
    else (none, keep)
  | 3 => -- SET_FEATURE: ENDPOINT_HALT only
    if recipient = 2 ∧ r.value = 0 ∧ epKnown (b8 r.index.toNat) then
      (some [], fun u => { u with halted := b8 r.index.toNat :: u.halted.filter (· != b8 r.index.toNat) })
    else (none, keep)
  | 5 => -- SET_ADDRESS
    if recipient = 0 ∧ r.value.toNat < 128 then (some [], fun u => { u with address := BitVec.ofNat 7 r.value.toNat })
    else (none, keep)
  | 6 => -- GET_DESCRIPTOR
    if !dirIn ∨ recipient ≠ 0 then (none, keep) else
    ((usbDescriptor s (r.value.toNat / 256) (r.value.toNat % 256) r.index).map (·.take r.length.toNat), keep)
  | 8 => (some [if s.usb.configured then 1 else 0], keep) -- GET_CONFIGURATION
  | 9 => -- SET_CONFIGURATION: 0 or 1
    if r.value.toNat = 0 then (some [], fun u => { u with configured := false, halted := [] })
    else if r.value.toNat = 1 then (some [], fun u => { u with configured := true, halted := [] })
    else (none, keep)
  | 10 => -- GET_INTERFACE: only alternate setting 0
    if s.usb.configured ∧ r.index.toNat < 2 then (some [0], keep) else (none, keep)
  | 11 => -- SET_INTERFACE
    if s.usb.configured ∧ r.index.toNat < 2 ∧ r.value = 0 then (some [], keep) else (none, keep)
  | _ => (none, keep)

/-- A standard control request (R200). -/
def execUsbStandardRequest (setup : Setup) (s : State) : Out :=
  if !usbAnswers s then .next s else
  let (ans, eff) := usbStandard s setup
  .next (setUsb s (fun u => { eff u with control := ans }))

end Sys2Proof.Machine
end

