-- ==== Sys2Proof/Machine/Net.lean ====
section
/-! DEFINITION. Commands of the Ethernet link, the IP services, TCP and LLDP (R205 to R216). -/

namespace Sys2Proof.Machine

def setNet (s : State) (f : Net → Net) : State := { s with net := f s.net }

/-- The link goes up or down: logged, and link-up starts LLDP's four LLDPDUs at 1 s intervals (R205, R215). -/
def execEthLinkChange (up hundred full : Bool) (s : State) : Out :=
  if !netRuns s then .next s else
  let s := logEvent (wakeDoze s) 0x0D01 [if up then 1 else 0, if hundred then 100 else 10, if full then 1 else 0]
  .next (setNet s (fun n => { n with
    up, hundred := up && hundred, full := up && full
    lldpBurst := if up && pv s.params 0x0D0D == 1 then 4 else 0 }))

/-- The contexts 4 to 11 that a session, a claim or a raw connection holds (R207). -/
def ctxTaken (s : State) (c : Nat) : Bool := (connOn s c).isSome
def lowestFree (s : State) : Option (Fin 12) := (List.finRange 12).find? (fun c => decide (4 ≤ c.val) && !ctxTaken s c.val)

/-- The address is in back-off (R210): its end lies ahead of hub time, modulo 2^48 (R530). -/
def inBackoff (s : State) (source : IpAddr) : Bool :=
  s.net.backoffs.any (fun b => b.source == source && isAhead (now s) b.holdUntil)

/-- The part listens on the address (R207). -/
def boundAt (n : Net) : IpAddr → Bool
  | .v4 a => n.ip4 == some a
  | .v6 a => n.ip6 == some a || n.ip6Local == some a

/-- A connection on the mailbox port or the raw port: taken while a context is free and its address is not in back-off,
else refused with a reset (R177, R207, R214). -/
def execTcpConnect (raw : Bool) (id : Nat) (source dest : IpAddr) (s : State) : Out :=
  if !netRuns s ∨ !s.net.up ∨ !boundAt s.net dest ∨ (raw ∧ pv s.params 0x0D04 ≠ 1) ∨ 3 ≤ lifecycle s.otp ∨ inBackoff s source ∨
      (connOf s id).isSome then .next s
  else match lowestFree s with
    | none => .next s
    | some c =>
      let k : Conn := { id, source, dest, raw, ctx := if raw then some c else none, box := Ctx.fresh, buf := [], skip := 0, hunt := false }
      .next (setNet (wakeDoze s) (fun n => { n with conns := n.conns ++ [k] }))

/-- A connection closes, which is work in DOZE (R99, R213, R214). -/
def execTcpClose (id : Nat) (s : State) : Out :=
  .next (if (connOf s id).isSome then closeConn (wakeDoze s) id else s)

/-- SESSION_PROVE has not succeeded within 5 s: the claim lapses and the connection closes (R209). -/
def execSessionProveTimeout (id : Nat) (s : State) : Out :=
  match connOf s id with
  | some k => .next (if k.raw || connOpen s k then s else closeConn (wakeDoze s) id)
  | none => .next s

/-- NET_SESSION_IDLE without a frame (R213). -/
def execNetSessionIdleExpiry (ctx : Fin 12) (s : State) : Out :=
  .next (closeConns (wakeDoze s) (fun k => connOpen s k && decide (k.ctx = some ctx)))

/-- The link has been down for more than 5 s: network sessions end and the allocation leaves LLDP (R213, R369). -/
def execLinkLossGraceExpiry (s : State) : Out :=
  if s.net.up ∨ !coreRuns s then .next s else
  let s := wakeDoze s
  .next (updateAllocation (setNet (closeConns s (connOpen s)) (fun n => { n with lldpOn := false, lldpAlloc := 0 })))

/-- Sessions and claims that use an address that is lost or changed end (R213). -/
def endOnAddress (s : State) (a : IpAddr) : State := closeConns s (fun k => !k.raw && k.dest == a)

/-- The ADDRESS event's data: the family and the address bound, or the one lost; of an IPv6 address its low 4 bytes. -/
def addressData : IpAddr → List Byte
  | .v4 a => 4 :: b32 a.toNat
  | .v6 a => 6 :: (leBytes 16 a.toNat).drop 12

/-- The address that an event binds: with static IPv4 addressing NET_IPV4_ADDR, whatever the network offers (R206). -/
def eventAddress (s : State) : AddrEvent → Option IpAddr
  | .ipv4 a => (a.map (fun a => if pv s.params 0x0D05 = 1 then BitVec.ofNat 32 (pv s.params 0x0D06) else a)).map .v4
  | .ipv6 a => a.map .v6
  | .ipv6Local a => a.map .v6

/-- The address in the event's place so far. -/
def heldAddress (n : Net) : AddrEvent → Option IpAddr
  | .ipv4 _ => n.ip4.map .v4
  | .ipv6 _ => n.ip6.map .v6
  | .ipv6Local _ => n.ip6Local.map .v6

/-- Put an event's address in its place. -/
def bindAddress (s : State) (e : AddrEvent) : State :=
  setNet s (fun n => match e, eventAddress s e with
    | .ipv4 _, some (.v4 a) => { n with ip4 := some a, linkLocal := false, byDhcp := pv s.params 0x0D05 == 0 }
    | .ipv4 _, _ => { n with ip4 := none, linkLocal := false, byDhcp := false }
    | .ipv6 a, _ => { n with ip6 := a }
    | .ipv6Local a, _ => { n with ip6Local := a })

/-- IPv6 addresses are there with NET_IPV6 at 1 only (R206). -/
def eventServed (s : State) : AddrEvent → Bool
  | .ipv4 _ => true
  | _ => pv s.params 0x0D09 == 1

/-- An address is bound, lost or changed (R206, R213). -/
def execAddressChange (e : AddrEvent) (s : State) : Out :=
  if !netRuns s ∨ !eventServed s e then .next s else
  let s := wakeDoze s
  let old := heldAddress s.net e
  let new := eventAddress s e
  if old = new then .next s else
  let s := match old with
    | some a => endOnAddress s a
    | none => s
  let s := match new.orElse (fun _ => old) with
    | some a => logEvent s 0x0D02 (addressData a)
    | none => s
  .next (bindAddress s e)

/-- 10 s without a lease: an IPv4 link-local address (R206). -/
def execDhcpLinkLocalFallback (addr : Word) (s : State) : Out :=
  if !netRuns s ∨ !s.net.up ∨ s.net.ip4.isSome ∨ pv s.params 0x0D05 ≠ 0 then .next s else
  .next (setNet (logEvent (wakeDoze s) 0x0D02 (addressData (.v4 addr))) (fun n =>
    { n with ip4 := some addr, linkLocal := true, byDhcp := false }))

/-- The counts of answers in the second in progress. -/
def secondCounts (s : State) : Nat × Nat := if s.net.echoSec = s.clk.rtc then (s.net.echoes, s.net.unreach) else (0, 0)

/-- An echo request: answered up to 100 times per second (R206); no work that leaves DOZE (DEDUCED, log entry 95). -/
def execIcmpEcho (s : State) : Out :=
  if !netRuns s ∨ !s.net.up then .next s else
  let (e, u) := secondCounts s
  .next (setNet s (fun n => { n with echoSec := s.clk.rtc, echoes := min 100 (e + 1), unreach := u }))

/-- A UDP datagram other than DHCPv4: dropped, answered at most once per second (R206). -/
def execUdpDatagram (s : State) : Out :=
  if !netRuns s ∨ !s.net.up then .next s else
  let (e, u) := secondCounts s
  .next (setNet s (fun n => { n with echoSec := s.clk.rtc, echoes := e, unreach := min 1 (u + 1) }))

/-- The neighbour leaves: the allocation returns to the class pins (R216, R369). -/
def lldpGone (s : State) : State :=
  armLldp (updateAllocation (setNet s (fun n => { n with lldpOn := false, lldpAlloc := 0 })))

/-- A received LLDPDU: a TTL of 0 is a neighbour leaving; else the PSE's allocation goes to Saffron, and is echoed once
Saffron has applied it (R216, R369, R370). An allocated value of 0 is none, as IEEE 802.3 has it (PRESUMED, entry 33). -/
def execLldpduReceived (ttl pse : Nat) (s : State) : Out :=
  if !lldpRuns s then .next s else
  let s := wakeDoze s
  if ttl = 0 then .next (lldpGone s)
  else if pse = 0 then .next (setNet s (fun n => { n with lldpOn := true }))
  else
    let s := updateAllocation (setNet s (fun n => { n with lldpOn := true, lldpAlloc := pse }))
    .next (armLldp (setNet s (fun n => { n with lldpEcho := if s.saf.allocSrc = 2 then s.saf.alloc else n.lldpEcho })))

/-- An LLDPDU is sent (R215). -/
def execLldpTx (s : State) : Out :=
  .next (if lldpRuns s then let s := wakeDoze s
    setNet s (fun n => { n with lldpSent := n.lldpSent + 1, lldpBurst := n.lldpBurst - 1, lldpLast := some (lldpdu s) })
  else s)

/-- The neighbour's TTL runs out (R369). -/
def execLldpTtlExpiry (s : State) : Out := .next (if s.net.lldpOn then lldpGone (wakeDoze s) else s)

end Sys2Proof.Machine
end

