-- ==== Sys2Proof/Machine/NetCmd.lean ====
section
/-! DEFINITION. Commands of the network family 0x0Bxx (R209 to R213, R322, R323, "Network session opening"). -/

namespace Sys2Proof.Machine

/-- The connection that a request came on. -/
def reqConn (s : State) (r : Req) : Option Conn :=
  match r.link with
  | .conn id => connOf s id
  | _ => none

def modConn (s : State) (id : Nat) (f : Conn → Conn) : State :=
  setNet s (fun n => { n with conns := n.conns.map (fun k => if k.id = id then f k else k) })

/-- The contexts that a session may be opened on: 4 to 11 on a connection, the link's own on links 1 to 3 (R209, R212). -/
def sessionCtxOk (k : Option Conn) (c : Nat) : Bool :=
  if k.isSome then decide (4 ≤ c ∧ c ≤ 11) else decide (1 ≤ c ∧ c ≤ 3)

/-- SESSION_OPEN: the context is claimed and both nonces are kept (R209). The field that RANGE names is left open: the
context is no field of the payload. -/
def hSessionOpen : Handler := fun r s =>
  let c := r.ctx.val
  let k := reqConn s r
  judge s (exactly r.payload 16) [] fun s =>
    if !sessionCtxOk k c then
      let (v, s) := drawNonce s
      (Reply.range v.toNat, s)
    else if k.isSome && ((k.bind (·.ctx)).isSome || ctxTaken s c) then (Reply.no stBusy, s)
    else match secretKey s.otp c with
      | none => (Reply.no stNoRight, s)
      | some psk =>
        let (n, s) := drawNonce s
        let np := leBytes 16 n.toNat
        let ks := hmac psk (ascii "NLSK" ++ r.payload ++ np ++ [b8 c])
        let o : Session := ⟨r.payload, np, ks, false⟩
        let s := modBox s (boxOf s r.link) (fun x => { x with opening := some o })
        let s := match k with
          | some k => modConn s k.id (fun k => { k with ctx := some r.ctx })
          | none => s
        (Reply.ok (np ++ dieId s.otp), s)

def execSessionOpen (r : Req) (s : State) : Out := .next (serve 0x0B01 hSessionOpen r s)

/-- The back-off of the k-th failure in a row, in s (R210, R181). -/
def backoffSeconds (k : Nat) : Nat := min 64 (2 ^ (min k 7 - 1))

/-- One more failure of an address: the count, and until when it is held; the oldest of 16 makes room (R210). An
address that fails again is the newest (DESIGN CHOICE, log entry 203). -/
def addBackoff (s : State) (source : IpAddr) : State × Nat :=
  let k := (match s.net.backoffs.find? (fun b => b.source == source) with
    | some b => b.fails
    | none => 0) + 1
  let b : Backoff := ⟨source, k, now s + BitVec.ofNat 48 (1000000 * backoffSeconds k)⟩
  (setNet s (fun n => { n with backoffs := (b :: n.backoffs.filter (fun x => x.source != source)).take 16 }), backoffSeconds k)

/-- proof_h does not match: BAD_CHECK and an event; a connection closes and its address is held (R210). -/
def proveFailed (r : Req) (k : Option Conn) (s : State) : Reply × State :=
  let s := modBox s (boxOf s r.link) (fun x => { x with opening := none })
  match k with
  | none => (Reply.no stBadCheck, logFor s 0x0201 (zeros 5) (b8 r.ctx.val) 0)
  | some k =>
    let (s, secs) := addBackoff s k.source
    (⟨stBadCheck, [], true, none⟩, logFor s 0x0201 ((addressData k.source).drop 1 ++ [b8 secs]) (b8 r.ctx.val) 0)

/-- A session opens: the context starts fresh under its key, and the address's count is cleared (R210 to R212, R236). LINK_ERR,
which R237 does not count among the context's error counters, goes on (R288; DEDUCED, log entry 134). -/
def sessionOpened (r : Req) (k : Option Conn) (o : Session) (s : State) : State :=
  let c := r.ctx.val
  let s := discardMsg s c
  let s := modCtx s c (fun x => { Ctx.fresh with
    keyed := some { o with rekeyed := x.keyed.isSome }, cnt := { Counters.zero with link := x.cnt.link } })
  let s := if c = 1 then { s with port := { s.port with outPos := 0 } } else s
  match k with
  | none => s
  | some k =>
    setNet (modConn s k.id (fun k => { k with box := Ctx.fresh })) (fun n =>
      { n with backoffs := n.backoffs.filter (fun b => b.source != k.source) })

/-- SESSION_PROVE (R210, R212). -/
def hSessionProve : Handler := fun r s =>
  let c := r.ctx.val
  let k := reqConn s r
  judge s (exactly r.payload 32) [] fun s =>
    match (getBox s (boxOf s r.link)).opening, secretKey s.otp c with
    | some o, some psk =>
      if hmac psk (ascii "NLH1" ++ o.nonceH ++ o.nonceP ++ [b8 c]) = r.payload then
        (Reply.ok (hmac psk (ascii "NLP1" ++ o.nonceP ++ o.nonceH ++ [b8 c])), sessionOpened r k o s)
      else proveFailed r k s
    | _, _ => proveFailed r k s

def execSessionProve (r : Req) (s : State) : Out := .next (serve 0x0B02 hSessionProve r s)

/-- SESSION_CLOSE: the keyed session ends once the response is sent (R323). -/
def hSessionClose : Handler := fun r s =>
  judge s (exactly r.payload 0) [] fun s => (Reply.ending none, s)

def execSessionClose (r : Req) (s : State) : Out := .next (serve 0x0B03 hSessionClose r s)

/-! ### NET_STATUS (R205, R323) -/

/-- The IPv4 prefix length and gateway: the parameters' with static addressing, the link-local prefix, or those of the
lease, which no command carries and which are left open (log entry 45). -/
def ip4Route (s : State) : Nat × Nat × State :=
  if s.net.ip4.isNone then (0, 0, s)
  else if pv s.params 0x0D05 = 1 then (pv s.params 0x0D07, pv s.params 0x0D08, s)
  else if s.net.linkLocal then (16, 0, s)
  else
    let (v, s) := drawNonce s
    (v.toNat % 33, v.toNat / 64 % 2 ^ 32, s)

/-- The contexts 4 to 11 that satisfy a test, as a byte. -/
def netMask (p : Nat → Bool) : Byte := b8 (maskOf ((List.range 8).map (fun i => p (i + 4))))

/-- The link partner has agreed on IEEE 802.3az, which is left open where the part offers it (log entry 45). -/
def eeeActive (s : State) : Bool × State :=
  if s.net.up && s.net.hundred && pv s.params 0x0D0B == 1 then drawBit s else (false, s)

def hNetStatus : Handler := fun r s => judge s (exactly r.payload 0) [] fun s =>
  let (eee, s) := eeeActive s
  let (len, gw, s) := ip4Route s
  let n := s.net
  let ip := match n.ip4 with
    | some a => a.toNat
    | none => 0
  let onRaw (c : Nat) : Bool := n.conns.any (fun k => k.raw && decide (k.ctx.map (·.val) = some c))
  (Reply.ok ([b8 (maskOf [n.up, n.hundred, n.full, eee]), b8 (maskOf [n.ip4.isSome, n.byDhcp, n.linkLocal, n.ip6.isSome]),
     netMask (netSession s), netMask onRaw] ++ b32 ip ++ [b8 len, 0] ++ b16 n.lldpAlloc ++ b32 gw ++ macAddress s ++ zeros 2), s)

def execNetStatus (r : Req) (s : State) : Out := .next (serve 0x0B04 hNetStatus r s)

/-- NET_SESSION_END: the session or raw connection that is open on the context closes, once the response has gone out (R322,
R323). -/
def hNetSessionEnd : Handler := fun r s =>
  let c := fieldAt r.payload 0 1
  judge s (exactly r.payload 4) [(0, decide (4 ≤ c ∧ c ≤ 11)), reservedAt r.payload 1 3] fun s =>
    (Reply.ending (if c = r.ctx.val then none else some c), s)

def execNetSessionEnd (r : Req) (s : State) : Out := .next (serve 0x0B05 hNetSessionEnd r s)

end Sys2Proof.Machine
end

