-- ==== Sys2Proof/Machine/NozCmd.lean ====
section
/-! DEFINITION. Commands of the nozzle and maintenance family 0x07xx (R309, R310, R445, R448, R449). -/

namespace Sys2Proof.Machine

/-- A command of R283 waits for a ticket boundary. -/
def addAction (s : State) (op : Half) (r : Req) : State :=
  let a : Action := { opcode := op, ctx := some r.ctx, seq := r.seq, payload := r.payload, started := false }
  { s with saf := { s.saf with actions := s.saf.actions ++ [a] } }

/-- The dies named are active, bits 7:4 clear. -/
def diesActive (s : State) (m : Nat) : Bool := (List.range 8).all (fun d => !m.testBit d || (activeDies s).contains d)

/-- NOZ_SCAN (R283, R445). -/
def hNozScan : Handler := fun r s =>
  let m := fieldAt r.payload 0 1
  judge s (exactly r.payload 4)
    [(0, m != 0 && diesActive s m), (1, decide (fieldAt r.payload 1 1 ≤ 1)), reservedAt r.payload 2 2] fun s =>
    (Reply.accepted [], addAction s 0x0701 r)

def execNozScan (r : Req) (s : State) : Out := .next (startWaiting (serve 0x0701 hNozScan r s))

/-- NOZ_MAP_READ: the nozzle in bits 3:0 and its twin in bits 7:4 (R310, R448). -/
def hNozMapRead : Handler := fun r s =>
  let p := r.payload
  let die := fieldAt p 0 1
  let first := fieldAt p 2 2
  let n := fieldAt p 4 2
  judge s (exactly p 6)
    [(0, decide (die ≤ 3)), reservedAt p 1 1, (2, decide (first ≤ 1055)), (4, decide (1 ≤ n ∧ first + n ≤ 1056))] fun s =>
    let m := s.noz.states
    (Reply.ok (p ++ (List.range n).map (fun i =>
      b8 (stateIn m (posNoz die (first + i) false) + 16 * stateIn m (posNoz die (first + i) true)))), s)

def execNozMapRead (r : Req) (s : State) : Out := .next (serve 0x0702 hNozMapRead r s)

/-- The nozzles that NOZ_MARK names: one, or all of a column (R449). -/
def markedNozzles (die col pos : Nat) : List Nat :=
  if pos = 0xFFFF then (List.range 528).map (nozIndex die col) else [nozIndex die col (pos / 2)]

/-- NOZ_MARK: the states GOOD, UNTESTED and MARKED (R449). -/
def hNozMark : Handler := fun r s =>
  let p := r.payload
  let col := fieldAt p 1 1
  let pos := fieldAt p 2 2
  let st := fieldAt p 4 1
  judge s (exactly p 8)
    [(0, decide (fieldAt p 0 1 ≤ 3)), (1, decide (col ≤ 3) && (decide (1055 < pos) || pos % 2 == col % 2)),
     (2, pos == 0xFFFF || decide (pos ≤ 1055)), (4, st == 0 || st == 2 || st == 4), reservedAt p 5 3]
    fun s =>
    let l := markedNozzles (fieldAt p 0 1) col pos
    let s := if s.noz.scan.isSome then { s with noz := { s.noz with marked := (s.noz.marked ++ l).eraseDups } } else s
    (Reply.ok [], applyMap s (l.map (fun i => (i, st))))

def execNozMark (r : Req) (s : State) : Out := .next (serve 0x0703 hNozMark r s)

/-- SERVICE_RUN: a routine that fires names active dies (R457; DEDUCED from R445, log entry 46). -/
def hServiceRun : Handler := fun r s =>
  let k := fieldAt r.payload 0 1
  let m := fieldAt r.payload 1 1
  judge s (exactly r.payload 4)
    [(0, decide (1 ≤ k ∧ k ≤ 5)), (1, if k = 3 ∨ k = 4 then decide (m < 16) else m != 0 && diesActive s m),
     reservedAt r.payload 2 2] fun s => (Reply.accepted [], addAction s 0x0704 r)

def execServiceRun (r : Req) (s : State) : Out := .next (startWaiting (serve 0x0704 hServiceRun r s))

/-- FIRE_COUNT_READ: the live counts (R310, R437). -/
def hFireCountRead : Handler := fun r s =>
  let p := r.payload
  let first := fieldAt p 2 2
  let n := fieldAt p 4 2
  judge s (exactly p 8)
    [(0, decide (fieldAt p 0 1 ≤ 3)), (1, decide (fieldAt p 1 1 ≤ 3)), (2, decide (first ≤ 527)),
     (4, decide (1 ≤ n ∧ first + n ≤ 528)), reservedAt p 6 2] fun s =>
    (Reply.ok (p ++ (List.range n).flatMap (fun i => b48 (liveCount s (nozIndex (fieldAt p 0 1) (fieldAt p 1 1) (first + i))))), s)

def execFireCountRead (r : Req) (s : State) : Out := .next (serve 0x0705 hFireCountRead r s)

/-- FEED (R283, R310). -/
def hFeed : Handler := fun r s =>
  judge s (exactly r.payload 4) [(2, decide (fieldAt r.payload 2 1 ≤ 1)), reservedAt r.payload 3 1] fun s =>
    (Reply.accepted [], addAction s 0x0706 r)

def execFeed (r : Req) (s : State) : Out := .next (startWaiting (serve 0x0706 hFeed r s))

/-- MECH_STATUS (R309). -/
def hMechStatus : Handler := fun r s => judge s (exactly r.payload 0) [] fun s =>
  let m := s.motion
  let enc0 := match m.enc[0]? with
    | some e => e.count.toNat
    | none => 0
  (Reply.ok ([b8 (maskOf [!paperOut s, roleActive s 2, coverOpen s]), b8 (maskOf [cutHome s, sledHome s, m.capped]),
     b8 m.disabled.toNat, 0] ++ b32 enc0 ++ b32 s.fife.lineCnt.toNat), s)

def execMechStatus (r : Req) (s : State) : Out := .next (serve 0x0707 hMechStatus r s)

end Sys2Proof.Machine
end

