-- ==== Sys2Proof/Machine/OtpCmd.lean ====
section
/-! DEFINITION. Commands of the one-time memory family 0x09xx (R155 to R178, R313 to R317). -/

namespace Sys2Proof.Machine

/-- Go on only where words may be programmed now (R171). The field that RANGE names is left open: the condition lies in no
field of the request (log entry 39). -/
def whenProgrammable (s : State) (go : State → Reply × State) : Reply × State :=
  match programBar s with
  | some st =>
    if st = stRange then
      let (v, s) := drawNonce s
      (Reply.range v.toNat, s)
    else (Reply.no st, s)
  | none => go s

/-! ### OTP_READ (R160, R163, R314) -/

/-- The read locks keep a word from hosts (R160). -/
def readLocked (o : Otp) (i : Nat) : Bool :=
  (otpRegion i == 4 && rlConfig o) || ((otpRegion i == 5 || otpRegion i == 6) && rlCalib o)

/-- One word of the answer: INDEX, COND and DATA. A shadowed word reads as VALID with the shadow bit (DEDUCED, log entry
41). -/
def otpEntry (o : Otp) (i : Nat) : List Byte :=
  match shadowOf o i with
  | some d => [b8 i, 0x09] ++ b64 d.toNat
  | none => match otpCond o i with
    | .blank => [b8 i, 0x00] ++ zeros 8
    | .bad => [b8 i, 0x02] ++ zeros 8
    | .valid => [b8 i, if (otpRaw o i).corrects then 0x05 else 0x01] ++ b64 (otpRaw o i).data.toNat

def hOtpRead : Handler := fun r s =>
  let first := fieldAt r.payload 0 1
  let count := fieldAt r.payload 1 1
  judge s (exactly r.payload 4)
    [(0, decide (first + count ≤ 256)), (1, decide (1 ≤ count ∧ count ≤ 32)), reservedAt r.payload 2 2] fun s =>
    let ws := (List.range count).map (· + first)
    if ws.any (fun i => otpRegion i == 3) then (Reply.no stLocked, s) else
    let open' := ws.takeWhile (fun i => !readLocked s.otp i)
    let data := open'.flatMap (otpEntry s.otp)
    (⟨if open'.length = count then stOk else stLocked, data, false, none⟩,
      noteReads (noteOtpRd s 0x0901) (open'.filter (fun i => (shadowOf s.otp i).isNone)))

def execOtpRead (r : Req) (s : State) : Out := .next (serve 0x0901 hOtpRead r s)

/-! ### OTP_PROGRAM (R158, R172, R173, R315, R511) -/

/-- The reserved bits of a word's layout. -/
def reservedBits (i : Nat) : Nat :=
  let keep (bits : List (Nat × Nat)) : Nat := 2 ^ 64 - 1 - (bits.map (fun p => 2 ^ (p.2 + 1) - 2 ^ p.1)).foldl (· + ·) 0
  if i = 76 then keep [(0, 43)]
  else if i = 79 then keep [(0, 47)]
  else if i < 125 then 0
  else if i < 157 then (if i % 2 = 1 then keep [(0, 6), (8, 13), (16, 47)] else keep [(0, 43)])
  else if i < 165 then keep [(0, 5), (16, 47)]
  else if i < 173 then keep [(0, 11), (16, 47)]
  else keep [(0, 6), (16, 47)]

/-- The values of R173 for words 76 and 79; a zero field of word 79 stands for its default. -/
def wordValueOk (i : Nat) (d : Nat) : Bool :=
  let f (lo len : Nat) : Nat := d / 2 ^ lo % 2 ^ len
  let inR (v lo hi : Nat) : Bool := v == 0 || (decide (lo ≤ v) && decide (v ≤ hi))
  if i = 76 then decide (f 0 16 ≤ 15000)
  else if i = 79 then inR (f 0 8) 60 95 && inR (f 8 8) 1 24 && inR (f 16 16) 1 510 && inR (f 32 16) 10 500
  else true

/-- The boot table that programming the words would leave passes the checks of R120; the part that word 77 gives is the
default where that word gives none. -/
def bootTableOk (o : Otp) (ws : List (Nat × BitVec 64)) : Bool :=
  let word (i : Nat) : Option Nat := match find? ws i with
    | some d => some d.toNat
    | none => (otpValid o i).map (·.toNat)
  let d := ChCfg.defaults
  let cfg (n : Nat) : ChCfg := d.getD n ⟨0, 0, 0, 1, 0, 0, 0, 1⟩
  let a (n lo len : Nat) (f : ChCfg → Nat) : Nat := match word 77 with
    | some v => v / 2 ^ (8 * n + lo) % 2 ^ len
    | none => f (cfg n)
  let b (n : Nat) : Nat := match word 78 with
    | some v => v / 2 ^ (8 * n) % 256
    | none => if (word 77).isSome then 0 else (cfg n).deps.toNat
  (seqRuleFails (fun n => a n 0 4 (·.upState)) b (fun n => a n 4 3 (·.offSlot))).isEmpty

/-- What is stored: the part computes the per-word check. -/
def stored (i d : Nat) : BitVec 64 := if otpHasCheck i then otpWithCheck d i else BitVec.ofNat 64 d

/-- The data of a request's words with their indexes and payload offsets. -/
def progWords (p : List Byte) : List (Nat × Nat × Nat) :=
  (List.range (fieldAt p 1 1)).map (fun k => (fieldAt p 0 1 + k, 4 + 8 * k, fieldAt p (4 + 8 * k) 8))

def hOtpProgram : Handler := fun r s =>
  let p := r.payload
  let n := fieldAt p 1 1
  let ws := progWords p
  let data := ws.map (fun w => (w.1, stored w.1 w.2.2))
  let boots := ws.any (fun w => w.1 == 77 || w.1 == 78)
  judgeLocked s (admLifecycle s r 0x0902) 0x0902 r.payload (decide (p.length = 4 + 8 * n))
    ([(0, ws.all (fun w => mayProgram w.1)), (1, decide (1 ≤ n ∧ n ≤ 8)), reservedAt p 2 2] ++
     ws.map (fun w => (w.2.1, (w.2.2 &&& reservedBits w.1) == 0 && wordValueOk w.1 w.2.2 &&
       (!boots || !(w.1 == 77 || w.1 == 78) || bootTableOk s.otp data)))) fun s =>
    whenProgrammable s fun s =>
      match programWords (noteOtpRd s 0x0902) data with
      | (none, s) => (Reply.ok [b8 n, 0, 0, 0], s)
      | (some i, s) => (Reply.fault 0x0001 i, s)

def execOtpProgram (r : Req) (s : State) : Out := .next (serve 0x0902 hOtpProgram r s)

/-! ### OTP_KEY_PROGRAM, OTP_SEAL, OTP_LOCK (R159, R161, R162, R316) -/

/-- The key check value (R161). -/
def kcv (key : List Byte) (index : Nat) : List Byte := (hmac key (ascii "KCV" ++ [b8 index])).take 4

def hOtpKeyProgram : Handler := fun r s =>
  let index := fieldAt r.payload 0 1
  let key := slice r.payload 4 16
  judgeLocked s (admLifecycle s r 0x0903) 0x0903 r.payload (exactly r.payload 20) [(0, (secretWord index).isSome), reservedAt r.payload 1 3] fun s =>
    let w := (secretWord index).getD 0
    whenProgrammable s fun s =>
      let word (i off : Nat) : Nat × BitVec 64 := (i, descramble i (BitVec.ofNat 64 (fieldAt key off 8)))
      match programWords s [word w 0, word (w + 1) 8] with
      | (none, s) => (Reply.ok (kcv key index), s)
      | (some i, s) => (Reply.fault 0x0001 i, s)

def execOtpKeyProgram (r : Req) (s : State) : Out := .next (serve 0x0903 hOtpKeyProgram r s)

def hOtpSeal : Handler := fun r s =>
  let reg := fieldAt r.payload 0 1
  judgeLocked s (admLifecycle s r 0x0904) 0x0904 r.payload (exactly r.payload 4) [(0, reg == 2 || reg == 3 || reg == 4), reservedAt r.payload 1 3] fun s =>
    whenProgrammable s fun s =>
      match sealRegion s reg with
      | (true, s') => (Reply.ok (b64 (digestOf s.otp reg).toNat), s')
      | (false, s') => (Reply.fault 0x0001 ((digestWord reg).getD 0), s')

def execOtpSeal (r : Req) (s : State) : Out := .next (serve 0x0904 hOtpSeal r s)

/-- The reserved bits of a lock set: 15:9 and 47:23. -/
def lockReserved (v : Nat) : Bool := decide (v / 2 ^ 9 % 2 ^ 7 = 0) && decide (v / 2 ^ 23 = 0)

def hOtpLock : Handler := fun r s =>
  let v := fieldAt r.payload 0 6
  judgeLocked s (admLifecycle s r 0x0905) 0x0905 r.payload (exactly r.payload 8) [(0, lockReserved v), reservedAt r.payload 6 2] fun s =>
    let i := (nextLockSet s.otp).getD 8
    whenProgrammable s fun s =>
      match programWord s i (stored i v) with
      | (true, s) => (Reply.ok [b8 i, 0, 0, 0], s)
      | (false, s) => (Reply.fault 0x0001 i, s)

def execOtpLock (r : Req) (s : State) : Out := .next (serve 0x0905 hOtpLock r s)

/-! ### OTP_SHADOW and OTP_STATUS (R169, R170, R316) -/

/-- OTP_SHADOW. A 17th shadow is refused with NO_SPACE, a status that no rule gives for it (DESIGN CHOICE, log entry 127). -/
def hOtpShadow : Handler := fun r s =>
  let w := fieldAt r.payload 0 1
  let set := byteAt r.payload 1 == 1
  judgeLocked s (admLifecycle s r 0x0906) 0x0906 r.payload (exactly r.payload 12) [(1, decide (fieldAt r.payload 1 1 ≤ 1)), reservedAt r.payload 2 2] fun s =>
    if set && (find? s.otp.shadows w).isNone && decide (16 ≤ s.otp.shadows.length) then (Reply.no stNoSpace, s) else
    let sh := if set then assocSet s.otp.shadows w (BitVec.ofNat 64 (fieldAt r.payload 4 8)) else assocDel s.otp.shadows w
    (Reply.ok [b8 sh.length, 0, 0, 0], otpChange s { s.otp with shadows := sh })

def execOtpShadow (r : Req) (s : State) : Out := .next (serve 0x0906 hOtpShadow r s)

/-- A KEYDIG slot that is programmed, revoked or not. -/
def slotProgrammed (o : Otp) (k : Nat) : Bool := (otpValid o (12 + 2 * k)).isSome && (otpValid o (13 + 2 * k)).isSome

def hOtpStatus : Handler := fun r s => judge s (exactly r.payload 0) [] fun s =>
  let o := s.otp
  (Reply.ok ([lcCode o, b8 (maskOf ((List.range 8).map (sealed o))), o.alarms,
     b8 ([8, 9, 10, 11].filter (fun i => decide (otpCond o i ≠ .blank))).length] ++
    b32 ((otpLocks o).toNat % 2 ^ 23) ++
    [b8 (maskOf ((List.range 7).map (slotProgrammed o))), b8 (maskOf ((List.range 7).map (fun k => otpLock o (16 + k)))),
     b8 (o.shadows.filter (fun p => (shadowOf o p.1).isSome)).length, 0] ++ b32 o.corrected.toNat), s)

def execOtpStatus (r : Req) (s : State) : Out := .next (serve 0x0907 hOtpStatus r s)

/-! ### LIFECYCLE_ADVANCE (R175, R176, R317) -/

/-- Program one copy of an entry where it is BLANK; the answer is its index where it does not verify (R156). -/
def programCopy (s : State) (i d : Nat) : Option Nat × State :=
  if otpCond s.otp i ≠ .blank then (none, s) else
  match programWord s i (stored i d) with
  | (true, s) => (none, s)
  | (false, s) => (some i, s)

/-- Program an entry: the primary copy, then the copy; where the primary is BAD the copy becomes the only VALID word
(R175). The answer is the index of the first word whose verification failed. -/
def programEntry (s : State) (k : Nat) (code slot : Byte) : Option Nat × State :=
  let d := code.toNat + 256 * slot.toNat
  let (bad, s) := programCopy s k d
  let (bad', s) := programCopy s (k + 4) d
  (bad.orElse (fun _ => bad'), s)

/-- The regions that the transition to FIELD seals first, in order; the answer is the region whose seal failed. -/
def sealForField (s : State) : Option Nat × State :=
  [2, 3, 4].foldl (fun (p : Option Nat × State) r =>
    if p.1.isSome || sealed p.2.otp r then p else
    match sealRegion p.2 r with
    | (true, s') => (none, s')
    | (false, s') => (some r, s')) (none, s)

/-- A region with a BAD digest word (R176). -/
def badRegion (o : Otp) : Option Nat :=
  [2, 3, 4, 5, 7].find? (fun r => match digestWord r with
    | some d => decide (otpCond o d = .bad)
    | none => false)

/-- Complete a transition: the entry is programmed, and the event logged once one of its copies is VALID; a copy that fails
verification is reported with FAULT and its index though the other stands (R156, R166, R175; DEDUCED, log entry 154). -/
def advanceTo (s : State) (k : Nat) (code slot : Byte) : Reply × State :=
  let old := lcCode s.otp
  let (bad, s) := programEntry s k code slot
  let s := if entryPresent s.otp k then logEvent s 0x0112 [old, lcCode s.otp] else s
  match bad with
  | some i => (Reply.fault 0x0001 i, s)
  | none => (Reply.ok [lcCode s.otp, 0, 0, 0], s)

/-- A token: the key is that of KEYDIG slot 4, and it signs the die ID, the nonce and the text (R317). -/
def tokenOk (o : Otp) (nonce : Option (BitVec 128)) (text : List Byte) (key sig : List Byte) : Bool :=
  match nonce with
  | none => false
  | some n => (keyMatches o [4] key).isSome && ecdsaVerifies key sig (sha256 (dieId o ++ leBytes 16 n.toNat ++ text))

/-- A refusal whose status the spec leaves open: one of R249's refusals that R279 gives no payload, or FAULT with the region
(log entry 42). -/
def freeRefusal (region : Nat) (s : State) : Reply × State :=
  let (v, s) := drawNonce s
  let codes := [stBusy, stNotReady, stBadCheck, stBadLength, stBadOpcode, stNoRight, stLocked, stLifecycle, stNoSpace]
  ((codes.map Reply.no).getD (v.toNat % 10) (Reply.fault 0x0006 region), s)

/-- In RETURN no SECRET key is used: the keyed sessions that drew on one end, the requester's own once its response has gone
out (R177; DEDUCED, log entry 128). -/
def toReturn (r : Req) (a : Reply × State) : Reply × State :=
  if lifecycle a.2.otp ≠ 3 then a else
  ({ a.1 with ends := true }, (List.range 12).foldl (fun s c =>
    if c = r.ctx.val then s else match connOn s c with
      | some k => if connOpen s k then closeConn s k.id else s
      | none => endKeyed s c) a.2)

/-- RETURN entry: the nonce serves one attempt; a VENDOR alarm bars it (R167, R175, R176). NO_RETURN has been looked at in step
10. -/
def enterReturn (r : Req) (s : State) : Reply × State :=
  let p := r.payload
  if alarmed s.otp 7 then freeRefusal 7 s else
  let ok := tokenOk s.otp s.otp.nonceEntry (ascii "RETURN") (slice p 8 64) (slice p 72 64)
  let s := { s with otp := { s.otp with nonceEntry := none } }
  if ok then toReturn r (advanceTo s 2 0x3C 4) else (Reply.no stBadCheck, s)

/-- The transition to FIELD: refused while a region has a BAD digest word, and after a seal that fails (R159, R176). -/
def enterField (s : State) : Reply × State :=
  match badRegion s.otp with
  | some r => (Reply.fault 0x0006 r, s)
  | none =>
    match sealForField s with
    | (some r, s) => (Reply.fault 0x0006 r, s)
    | (none, s) => advanceTo s 1 0xA5 0xFF

def hLifecycleAdvance : Handler := fun r s =>
  let p := r.payload
  let code := byteAt p 0
  judgeLocked s (admLifecycle s r 0x0908) 0x0908 r.payload (exactly p (if code = 0x3C then 136 else 8))
    [(0, (entryOf code).isSome), reservedAt p 1 3, (4, slice p 4 4 == (dieId s.otp).take 4)] fun s =>
    let k := (entryOf code).getD 0
    whenProgrammable s fun s =>
      if k = 1 then enterField s else if k = 2 then enterReturn r s else advanceTo s k code 0xFF

def execLifecycleAdvance (r : Req) (s : State) : Out := .next (serve 0x0908 hLifecycleAdvance r s)

/-! ### RETURN_CHALLENGE (R176, R181, R317) -/

def hReturnChallenge : Handler := fun r s =>
  let p := r.payload
  let purpose := fieldAt p 0 1
  judgeLocked s (admLifecycle s r 0x0909) 0x0909 r.payload (exactly p (if purpose = 3 then 132 else 4)) [(0, decide (1 ≤ purpose ∧ purpose ≤ 3)), reservedAt p 1 3] fun s =>
    if purpose = 3 then
      if alarmed s.otp 3 || alarmed s.otp 7 then freeRefusal (if alarmed s.otp 7 then 7 else 3) s else
      let ok := tokenOk s.otp s.otp.nonceCore (ascii "RCORE") (slice p 4 64) (slice p 68 64)
      let s := { s with otp := { s.otp with nonceCore := none } }
      if ok then (Reply.ok [], openLevel s .core) else (Reply.no stBadCheck, unlockFailed s .core)
    else
      let (n, s) := drawNonce s
      (Reply.ok (leBytes 16 n.toNat ++ dieId s.otp),
        { s with otp := if purpose = 1 then { s.otp with nonceEntry := some n } else { s.otp with nonceCore := some n } })

def execReturnChallenge (r : Req) (s : State) : Out := .next (serve 0x0909 hReturnChallenge r s)

/-- A RETURN_CHALLENGE nonce expires (R176). -/
def execReturnNonceExpiry (s : State) : Out :=
  .next { s with otp := { s.otp with nonceEntry := none, nonceCore := none } }

end Sys2Proof.Machine
end

