-- ==== Sys2Proof/Machine/ParamCmd.lean ====
section
/-! DEFINITION. Commands of the parameter family 0x02xx (R250 to R261, R291, R292). -/

namespace Sys2Proof.Machine

/-- The IDs of a PARAM_READ. -/
def idsOf : List Byte → List Nat
  | a :: b :: bs => ofLe [a, b] :: idsOf bs
  | _ => []

/-- One element of PARAM_READ's answer (R253, R292). -/
def readEntry (s : State) (d : Desc) : List Byte :=
  let v := liveValue s d
  let pend := pendingValue s.params d.id
  let head := b16 d.id ++ [b8 d.ty, b8 v.length, b8 (maskOf [pend.isSome, v != committedVal s.params d.id && d.right != rReadOnly])] ++ v
  match pend with
  | some p => head ++ b8 p.length :: p
  | none => head

/-- PARAM_READ: the first unknown ID is named (R250, R279). -/
def hParamRead : Handler := fun r s =>
  let n := fieldAt r.payload 0 1
  judge s (decide (r.payload.length = 2 + 2 * n)) [(0, decide (1 ≤ n ∧ n ≤ 64)), reservedAt r.payload 1 1] fun s =>
    let ids := idsOf (r.payload.drop 2)
    match ids.find? (fun id => (descOf id).isNone) with
    | some id => (Reply.range id, s)
    | none => (Reply.ok ((ids.filterMap descOf).flatMap (readEntry s)), s)

def execParamRead (r : Req) (s : State) : Out := .next (serve 0x0201 hParamRead r s)

/-- PARAM_WRITE: all or nothing; the first failing entry decides (R251, R244, R279). -/
def hParamWrite : Handler := fun r s =>
  let n := fieldAt r.payload 0 1
  match parseEntries n (r.payload.drop 2) with
  | none => (Reply.no stBadLength, s)
  | some es =>
    judge s (decide (2 ≤ r.payload.length)) [(0, decide (1 ≤ n ∧ n ≤ 64)), reservedAt r.payload 1 1] fun s =>
      let m := admMask s r 0x0202
      match firstBadEntry (fun e => match entryStatus e with
          | some st => some st
          | none => entryRight (admLifecycle s r 0x0202) m e) es with
      | some (st, id) => (⟨st, b16 id, false, none⟩, s)
      | none => (Reply.ok [], noteMasks s false
          { s with params := es.foldl (fun p e => setParam p e.id e.val) s.params })

def execParamWrite (r : Req) (s : State) : Out := .next (serve 0x0202 hParamWrite r s)

/-- PARAM_COMMIT (R255). -/
def hParamCommit : Handler := fun r s => judge s (exactly r.payload 0) [] fun s =>
  let m := wholeSet s.params
  match commitCheck (viewOf s m) with
  | some id => (Reply.range id, s)
  | none => let i := imageInForce s; commitValues s m i.profId i.profVer id

def execParamCommit (r : Req) (s : State) : Out := .next (serve 0x0203 hParamCommit r s)

/-- PARAM_REVERT (R256). -/
def hParamRevert : Handler := fun r s => judge s (exactly r.payload 0) [] fun s =>
  (Reply.ok [], noteMasks s false { s with params := { s.params with working := [], pending := [] } })

def execParamRevert (r : Req) (s : State) : Out := .next (serve 0x0204 hParamRevert r s)

/-- PARAM_DEFAULTS: an empty image with PROF_ID and PROF_VER 0 (R256, R292). -/
def hParamDefaults : Handler := fun r s =>
  judge s (exactly r.payload 4) [(0, r.payload == ascii "DFLT")] fun s => commitValues s [] 0 0 id

def execParamDefaults (r : Req) (s : State) : Out := .next (serve 0x0205 hParamDefaults r s)

/-- PARAM_INFO (R292). -/
def hParamInfo : Handler := fun r s => judge s (exactly r.payload 2) [] fun s =>
  match descOf (ofLe r.payload) with
  | none => (Reply.range (ofLe r.payload), s)
  | some d =>
    let f (v : Int) : List Byte := b32 (patternOf 32 v)
    (Reply.ok (b16 d.id ++ [b8 d.ty, b8 d.len, b8 d.right, b8 d.eff] ++ f d.lo ++ f d.dflt ++ f d.hi ++
      [b8 d.list.length, 0, 0, 0] ++ d.list.flatMap f ++ d.bytes), s)

def execParamInfo (r : Req) (s : State) : Out := .next (serve 0x0206 hParamInfo r s)

/-! ### PROFILE_APPLY (R258 to R261) -/

def profCount (p : List Byte) : Nat := fieldAt p 6 2
def profBody (p : List Byte) : List Byte := slice p 64 (fieldAt p 8 2)
def profId (p : List Byte) : Word := BitVec.ofNat 32 (fieldAt p 12 4)
def profVer (p : List Byte) : Word := BitVec.ofNat 32 (fieldAt p 16 4)

/-- MIN_FW exceeds the running version: major, then minor, then patch level. -/
def fwTooOld (s : State) (p : List Byte) : Bool := decide (ofBe (fwVer s) < ofBe (slice p 20 3))

/-- The values that applying the profile would commit. -/
def profSet (s : State) (p : List Byte) (es : List Entry3) : ParamMap :=
  es.foldl (fun m e => assocSet m e.id e.val) (if (byteAt p 5).toNat.testBit 0 then [] else wholeSet s.params)

/-- The refusals of R260, in its order; an unsigned profile needs each parameter's right, which is judged last, and a read-only entry
of a signed one is answered NO_RIGHT (R244, R260; DESIGN CHOICE, log entry 200). -/
def profRefusal (s : State) (lc : Nat) (m : Half) (p : Profile) (es : List Entry3) : Option Reply :=
  let b := p.bytes
  let old := imageInForce s
  if p.keySlot.isNone ∧ (lifecycle s.otp = 2 ∨ lifecycle s.otp = 3) then some (Reply.no stLifecycle)
  else if fwTooOld s b then some (Reply.range 0)
  else if slice b 24 16 ≠ zeros 16 ∧ slice b 24 16 ≠ dieId s.otp then some (Reply.range 0)
  else if profId b = old.profId ∧ (profVer b).toNat < old.profVer.toNat then some (Reply.range 0)
  else match firstBadEntry (fun e => entryCheck e) es with
  | some (_, id) => some (Reply.range id)
  | none =>
    match commitCheck (viewOf s (profSet s b es)) with
    | some id => some (Reply.range id)
    | none =>
      if strips0 0x0300 (mapVal (profSet s b es) 0x0300) then some (Reply.range 0x0300)
      else match firstBadEntry (fun e =>
          if p.keySlot.isSome then (match descOf e.id with
            | some d => if d.right = rReadOnly then some stNoRight else none
            | none => none)
          else entryRight lc m e) es with
        | some (st, _) => some (Reply.no st)
        | none => none

/-- PROFILE_APPLY: one write and one commit, or a refusal, which is logged (R260). -/
def hProfileApply : Handler := fun r s =>
  judge s (exactly r.payload 4) [(0, decide (fieldAt r.payload 0 1 ≤ 7)), reservedAt r.payload 1 3] fun s =>
    match s.nvm.profiles.getD (fieldAt r.payload 0 1) none with
    | none => (Reply.range 0, s)
    | some p =>
      let es := (parseEntries (profCount p.bytes) (profBody p.bytes)).getD []
      let refused (rep : Reply) (s : State) : Reply × State :=
        (rep, logEvent s 0x0E05 (b32 (profId p.bytes).toNat ++ b16 rep.status))
      match profRefusal s (admLifecycle s r 0x0207) (admMask s r 0x0207) p es with
      | some rep => refused rep s
      | none =>
        let ids := b32 (profId p.bytes).toNat ++ b32 (profVer p.bytes).toNat
        let (rep, s) := commitValues s (profSet s p.bytes es) (profId p.bytes) (profVer p.bytes) (ids ++ ·)
        if rep.status = stOk then (rep, logEvent s 0x0E04 ids) else refused rep s

def execProfileApply (r : Req) (s : State) : Out := .next (serve 0x0207 hProfileApply r s)

end Sys2Proof.Machine
end

