-- ==== Sys2Proof/Machine/PowerCmd.lean ====
section
/-! DEFINITION. Commands of the power family 0x05xx (R303 to R306). -/

namespace Sys2Proof.Machine

/-- A raster job that keeps the part out of NAP (R94). -/
def rasterBars (s : State) : Bool :=
  s.jobs.live.any (fun j => j.raster && (j.st == .rendering || j.st == .ready || j.st == .held))

/-- Why a request for NAP or HIBERNATE is refused, if it is (R33, R93, R94, R304). One that is pending is no ground: the later
request takes its place (DESIGN CHOICE, log entry 153). -/
def entryRefusal (s : State) (hib discard : Bool) : Option Nat :=
  if hib then (if s.saf.actions.isEmpty ∧ (discard ∨ s.jobs.live.isEmpty) then none else some stBusy)
  else if rasterBars s ∨ !usbAllowsNap s then some stBusy
  else if retainedPool < retainedBytes s then some stNoSpace
  else none

/-- PWR_STATE_SET: DOZE at once, or a request whose entry follows the response (R92, R304). -/
def hPwrStateSet : Handler := fun r s =>
  let target := fieldAt r.payload 0 1
  let lim := (byteAt r.payload 1).toNat.testBit 1
  let n := fieldAt r.payload 4 4
  judge s (exactly r.payload 8)
    [(0, decide (1 ≤ target ∧ target ≤ 3)), (1, decide (fieldAt r.payload 1 1 ≤ 3) && (!lim || target == 2)),
     reservedAt r.payload 2 2, (4, if lim then decide (1 ≤ n ∧ n ≤ 86400) else n == 0)] fun s =>
    let discard := (byteAt r.payload 1).toNat.testBit 0
    if target = 1 then
      if dozeAllowed s then (Reply.ok [], enterDoze s)
      else (Reply.no stBusy, s)
    else match entryRefusal s (target == 3) discard with
      | some st => (Reply.no st, s)
      | none => (Reply.ok [], { s with pwr := { s.pwr with
          entry := some { hib := target == 3, discard, napLimit := n, req := some (r.ctx, r.seq), begun := false } } })

def execPwrStateSet (r : Req) (s : State) : Out := .next (serve 0x0501 hPwrStateSet r s)

/-- PWR_STATE_QUERY (R303). -/
def hPwrStateQuery : Handler := fun r s => judge s (exactly r.payload 0) [] fun s =>
  (Reply.ok ([pstateCode s.pwr.st, s.pwr.entryState] ++ b16 s.pwr.lastCause.toNat ++ b48 s.pwr.wakeTime.toNat ++
    [s.pwr.reedCap, s.pwr.reedRefused] ++ b16 s.saf.alloc ++ [s.saf.allocSrc, seqStateByte s.seq] ++
    b32 s.clk.rtcAlarm.toNat), s)

def execPwrStateQuery (r : Req) (s : State) : Out := .next (serve 0x0502 hPwrStateQuery r s)

/-- A power command waits for the sequencer's outcome (R305). -/
def addWaiter (s : State) (op : Half) (r : Req) : State :=
  modSeq s (fun q => { q with waiters := q.waiters ++ [(op, r.ctx, r.seq)] })

/-- The channels that MASK may name: those that HIS dropped, while RUNNING (R128, R305). -/
def reenableOk (q : Seq) (mask : Nat) : Bool :=
  decide (q.ph = .running) && (List.range 8).all (fun n => !mask.testBit n || (chRun q n).hisDrop)

/-- Re-enable dropped channels: the mark goes, and the gate of the fire lines falls once the head rail is good, at once where
its PG reads good or is not used (R128, R432). No enable changes between a VINFAIL trip and its release (R139), and one that
the ceiling detector holds waits for it (R26). -/
def reenable (s : State) (mask : Nat) : State :=
  if s.seq.frozen then s else
  let s := modSeq s (fun q => { q with ch := q.ch.mapIdx (fun n c =>
    if mask.testBit n && q.held.toNat.testBit n then { c with released := true, hisDrop := false }
    else if mask.testBit n then
      { c with en := true, hisDrop := false, pgSeen := pgUsed q n && c.pg, monitored := pgUsed q n && c.pg } else c) })
  if mask.testBit s.seq.cfg.headRail then dropHisGate s else s

/-- PWR_ON (R124, R137, R305). Where the sequencer is RUNNING already there is nothing to wait for. -/
def hPwrOn : Handler := fun r s =>
  let m := fieldAt r.payload 0 1
  judge s (exactly r.payload 1) [(0, m == 0 || reenableOk s.seq m)] fun s =>
    (Reply.accepted [], seqReq (addWaiter s 0x0503 r) 0x0503 (fun s => if m = 0 then onRequest s else reenable s m))

/-- Power commands whose outcome already stands end at once, after their ACCEPTED (R284, R305). -/
def outcomeStands (s : State) : State :=
  let on := s.seq.waiters.any (fun w => w.1 == 0x0503) && decide (s.seq.ph = .running)
  let off := s.seq.waiters.any (fun w => w.1 == 0x0504) && !s.saf.deferOff && decide (s.seq.ph = .off ∨ s.seq.ph = .faultOff)
  if (on || off) && !s.seq.frozen then endWaiters s none else s

def execPwrOn (r : Req) (s : State) : Out := .next (outcomeStands (serve 0x0503 hPwrOn r s))

/-- PWR_OFF (R265, R305): with DEFER, once no job is PRINTING or CUTTING. -/
def hPwrOff : Handler := fun r s =>
  judge s (exactly r.payload 4) [(0, decide (fieldAt r.payload 0 1 ≤ 1)), reservedAt r.payload 1 3] fun s =>
    let s := shutdownStores (addWaiter s 0x0504 r)
    if byteAt r.payload 0 = 1 ∧ ticketActive s then
      (Reply.accepted [], { s with saf := { s.saf with deferOff := true } })
    else
      (Reply.accepted [], seqReq s 0x0504 offRequest)

def execPwrOff (r : Req) (s : State) : Out := .next (outcomeStands (serve 0x0504 hPwrOff r s))

/-- SEQ_STATUS (R151, R152, R303). -/
def hSeqStatus : Handler := fun r s => judge s (exactly r.payload 0) [] fun s =>
  (Reply.ok ([seqStateByte s.seq, pgByte s.seq, enByte s.seq, flaggedByte s.seq] ++ (List.range 8).map (chStatus s.seq) ++
    b16 (droneField s.seq) ++ [b8 s.seq.retriesDone, b8 (pendingCount s.seq.pend)]), s)

def execSeqStatus (r : Req) (s : State) : Out := .next (serve 0x0505 hSeqStatus r s)

/-- PWR_RTC_ALARM: a second already reached fires at once (R289). -/
def hPwrRtcAlarm : Handler := fun r s => judge s (exactly r.payload 4) [] fun s =>
  (Reply.ok [], rtcAlarmDue { s with clk := { s.clk with rtcAlarm := BitVec.ofNat 32 (ofLe r.payload) } })

def execPwrRtcAlarm (r : Req) (s : State) : Out := .next (serve 0x0506 hPwrRtcAlarm r s)

/-- DISCH_HOLD (R306). -/
def hDischHold : Handler := fun r s =>
  judge s (exactly r.payload 4) [(0, decide (fieldAt r.payload 0 1 ≤ 1)), reservedAt r.payload 1 3] fun s =>
    let on := decide (byteAt r.payload 0 = 1)
    let set (s : State) : State := { s with saf := { s.saf with hold := on } }
    (Reply.ok [], seqReq s 0x0507 (fun s => if on then assertDisch (set s) 6 else dropReason (set s) 6))

def execDischHold (r : Req) (s : State) : Out := .next (serve 0x0507 hDischHold r s)

end Sys2Proof.Machine
end

