-- ==== Sys2Proof/Machine/RightsCmd.lean ====
section
/-! DEFINITION. Commands of the rights family 0x0Cxx (R241 to R248, R324, R325). -/

namespace Sys2Proof.Machine

/-- The jobs that a purge cancels: those of the context that are QUEUED, HELD, RENDERING or READY (R247). -/
def purged (s : State) (c : Nat) : List Nat :=
  (s.jobs.live.filter (fun j => j.ctx.val == c && [JobSt.queued, .held, .rendering, .ready].contains j.st)).map (·.id)

/-- RIGHTS_SET: the working value of RIGHTS_CTXn, and the purge where the mask loses PRINT (R244, R247, R325). -/
def hRightsSet : Handler := fun r s =>
  let p := r.payload
  let c := fieldAt p 0 1
  let mask := BitVec.ofNat 16 (fieldAt p 2 2)
  judge s (exactly p 4)
    [(0, decide (c ≤ 11)), (1, decide (fieldAt p 1 1 ≤ 1)), (2, decide (mask.toNat ≤ 0x03FF) && !(c == 0 && !hasBit mask rAdmin))]
    fun s =>
    if mask &&& ~~~ (admMask s r 0x0C01) ≠ 0 then (Reply.no stNoRight, s) else
    let old := maskInForce s c
    let purge := fieldAt p 1 1 == 1
    let s := { s with params := setParam s.params (0x0300 + c) (b16 mask.toNat) }
    let ids := if purge && hasBit old rPrint && !hasBit mask rPrint then purged s c else []
    let s := ids.foldl cancelStreamed s
    let s := if purge && hasBit old rPrint && !hasBit mask rPrint then discardMsg s c else s
    (Reply.ok (b16 old.toNat ++ [b8 (min ids.length 255), 0]),
      schedule (logFor s 0x0301 (b8 c :: b16 old.toNat ++ b16 mask.toNat ++ [if purge then 1 else 0]) (b8 r.ctx.val) 0))

def execRightsSet (r : Req) (s : State) : Out := .next (serve 0x0C01 hRightsSet r s)

/-- The mask limited by the lifecycle ceiling and the OTP locks as in RUN: context 0 has rights while a level can be
opened (R30, R242, R325). -/
def limitedMask (s : State) (c : Nat) : Half :=
  if c = 0 ∧ serviceCell s.otp = .x ∧ coreCell s.otp = .x then 0 else maskInForce s c &&& ceiling s

def hRightsGet : Handler := fun r s =>
  let c := fieldAt r.payload 0 1
  judge s (exactly r.payload 4) [(0, decide (c ≤ 11)), reservedAt r.payload 1 3] fun s =>
    (Reply.ok (b16 (maskInForce s c).toNat ++ committedVal s.params (0x0300 + c) ++ b16 (limitedMask s c).toNat ++ zeros 2), s)

def execRightsGet (r : Req) (s : State) : Out := .next (serve 0x0C02 hRightsGet r s)

end Sys2Proof.Machine
end

