-- ==== Sys2Proof/Machine/Objects.lean ====
section
/-! DEFINITION. Stored objects (R319, R350 to R352): the formats of fonts and logos, their signatures, and the pages of
STORE. -/

namespace Sys2Proof.Machine

/-- KEY and SIGNATURE stand last; everything before them is signed (R350). -/
def objBody (b : List Byte) : List Byte := b.take (b.length - 128)
def objKey (b : List Byte) : List Byte := slice b (b.length - 128) 64
def objSig (b : List Byte) : List Byte := slice b (b.length - 64) 64
def objUnsigned (b : List Byte) : Bool := b.drop (b.length - 128) == zeros 128

/-! ### Fonts (R350) -/

/-- An entry of a font's glyph table. -/
structure Glyph where
  code : Nat
  advance : Nat
  width : Nat
  offset : Nat
deriving DecidableEq, Repr

def glyphAt (b : List Byte) (i : Nat) : Glyph :=
  let e := slice b (16 + 8 * i) 8
  ⟨fieldAt e 0 2, fieldAt e 2 1, fieldAt e 3 1, fieldAt e 4 4⟩

def fontCell (b : List Byte) : Nat := fieldAt b 6 1
def fontGlyphs (b : List Byte) : Nat := fieldAt b 8 2

/-- The glyphs from index `i` on are in order and within the object; `last` is the code before, plus one. -/
def glyphsOk (b : List Byte) (n : Nat) : Nat → Nat → Nat → Bool
  | 0, _, _ => true
  | k + 1, i, last =>
    let g := glyphAt b i
    decide (last ≤ g.code) && decide (1 ≤ g.advance ∧ g.advance ≤ 128) && decide (g.width ≤ 128) &&
    (g.width == 0 || decide (16 + 8 * n ≤ g.offset ∧ g.offset + ceilDiv g.width 8 * fontCell b + 128 ≤ b.length)) &&
    glyphsOk b n k (i + 1) (g.code + 1)

def fontOk (b : List Byte) : Bool :=
  let n := fontGlyphs b
  slice b 0 5 == [0x4E, 0x4C, 0x46, 0x4E, 0x01] && decide (8 ≤ fontCell b ∧ fontCell b ≤ 128) &&
  decide (fieldAt b 7 1 < fontCell b) && decide (1 ≤ n ∧ n ≤ 4096) && decide (fieldAt b 10 2 < n) &&
  decide (16 + 8 * n + 128 ≤ b.length) && glyphsOk b n n 0 0

/-! ### Logos (R351)

What R351 leaves unused of PLANES, bits 7:2, is ignored (R9). -/

def logoWidth (b : List Byte) : Nat := fieldAt b 6 2
def logoHeight (b : List Byte) : Nat := fieldAt b 8 2

/-- `n` coded lines of a plane, newest first, and the bytes that follow. -/
def planeLines (width : Nat) : Nat → Nat → List Byte → List Nat → Option (List Nat × List Byte)
  | 0, _, bs, acc => some (acc, bs)
  | k + 1, prev, bs, acc =>
    match readLine (ceilDiv width 8) width prev bs with
    | .line v rest => planeLines width k v rest (v :: acc)
    | _ => none

/-- The planes of a logo, black and red, each empty where it is not present. -/
def logoPlanes (b : List Byte) : Option (List Nat × List Nat) :=
  let p := (byteAt b 5).toNat
  let w := logoWidth b
  let plane (on : Bool) (bs : List Byte) : Option (List Nat × List Byte) :=
    if on then planeLines w (logoHeight b) 0 bs [] else some ([], bs)
  match plane (p.testBit 0) ((objBody b).drop 16) with
  | none => none
  | some (k, rest) => match plane (p.testBit 1) rest with
    | some (r, []) => some (k.reverse, r.reverse)
    | _ => none

def logoOk (b : List Byte) : Bool :=
  slice b 0 5 == [0x4E, 0x4C, 0x4C, 0x47, 0x01] && fieldAt b 5 1 % 4 != 0 &&
  decide (1 ≤ logoWidth b ∧ logoWidth b ≤ 1890) && decide (1 ≤ logoHeight b ∧ logoHeight b ≤ 4096) && decide (144 ≤ b.length) && (logoPlanes b).isSome

def objectOk (logo : Bool) (b : List Byte) : Bool := if logo then logoOk b else fontOk b

/-- The object verifies against KEYDIG slot 3 (R352). -/
def objectVerifies (o : Otp) (b : List Byte) : Bool :=
  (keyMatches o [3] (objKey b)).isSome && ecdsaVerifies (objKey b) (objSig b) (sha256 (objBody b))

/-- Counts as signed: while REVOKE_3 is in force no stored object does (R352). -/
def countsSigned (s : State) (o : StoreObj) : Bool := o.signed && !otpLock s.otp 19

/-! ### Pages of STORE (R262, R319) -/

/-- First data page of STORE, after the directory's 16, and how many there are. -/
def storeBase : Nat := 0x1210
def storePages : Nat := 11504
def objPages (size : Nat) : Nat := ceilDiv size 256

def StoreObj.pages (o : StoreObj) : Nat := objPages o.bytes.length

/-- Pages that neither an object nor one kept for a rendering job takes. -/
def freePages (n : Nvm) : Nat := storePages - (n.store.map StoreObj.pages).foldl (· + ·) 0

/-- The run of pages is free of other objects. -/
def runFree (objs : List StoreObj) (p n : Nat) : Bool :=
  decide (p + n ≤ storeBase + storePages) && objs.all (fun o => decide (p + n ≤ o.page ∨ o.page + o.pages ≤ p))

/-- Move every object down, so that the free pages are contiguous. -/
def compactStore : Nat → List StoreObj → List StoreObj
  | _, [] => []
  | p, o :: os => { o with page := p } :: compactStore (p + o.pages) os

/-- The objects and the page where an object of `n` pages goes: any free run, which the spec leaves open and `pick` chooses
(log entry 43), or past the others once they have been moved together. -/
def placeObject (pick : Nat) (objs : List StoreObj) (n : Nat) : List StoreObj × Nat :=
  let any := storeBase + pick % storePages
  if runFree objs any n then (objs, any) else
  let starts := storeBase :: objs.map (fun o => o.page + o.pages)
  match starts.filter (fun p => runFree objs p n) with
  | p :: ps => (objs, ps.foldl min p)
  | [] => (compactStore storeBase objs, storeBase + (objs.map StoreObj.pages).foldl (· + ·) 0)

/-- The directory: objects that have not been replaced, at most 256. -/
def directory (n : Nvm) : List StoreObj := n.store.filter (fun o => !o.stale)

def sameObj (logo : Bool) (id : Nat) (o : StoreObj) : Bool := o.logo == logo && o.id == id && !o.stale

def findObj (n : Nvm) (logo : Bool) (id : Nat) : Option StoreObj := n.store.find? (sameObj logo id)

end Sys2Proof.Machine
end

