-- ==== Sys2Proof/Machine/StoreCmd.lean ====
section
/-! DEFINITION. Commands of the storage family 0x0Axx (R258, R259, R318 to R321, R350 to R352). -/

namespace Sys2Proof.Machine

/-- The pages that the fragments of an open OBJECT_STORE have taken so far (R319). -/
def streamPages (s : State) : Nat :=
  (s.ctxs.map (fun x => match x.msg with
    | some m => if m.opcode = 0x0A05 then objPages m.bytes.length else 0
    | none => 0)).foldl (· + ·) 0

/-- STORE_INFO: the objects are those of the directory, the spares those still unused (R318, R320). -/
def hStoreInfo : Handler := fun r s => judge s (exactly r.payload 0) [] fun s =>
  let n := s.nvm
  (Reply.ok (b16 (freePages n - streamPages s) ++ b16 (directory n).length ++
    [b8 (maskOf ((List.range 8).map (fun i => (n.profiles.getD i none).isSome))), b8 n.patchActive] ++
    b16 (256 - n.sparesUsed) ++ [n.patchLevel, 0, 0, 0]), s)

def execStoreInfo (r : Req) (s : State) : Out := .next (serve 0x0A01 hStoreInfo r s)

/-! ### Profiles (R258, R259) -/

/-- The lengths of a profile: the header's COUNT and BODY_LEN agree with the bytes (R258, R278). -/
def profLengthOk (p : List Byte) : Bool :=
  let n := fieldAt p 6 2
  let len := fieldAt p 8 2
  decide (197 ≤ p.length ∧ p.length ≤ 16384) && decide (len ≤ 16192) && decide (p.length = 192 + len) &&
  (decide (n = 0 ∨ 1024 < n) || (let rec walk : Nat → List Byte → Bool
    | 0, bs => bs.isEmpty
    | k + 1, _ :: _ :: _ :: l :: bs => decide (l.toNat ≤ bs.length) && walk k (bs.drop l.toNat)
    | _ + 1, _ => false
   walk n (slice p 64 len)))

/-- The header fields of a profile, as fields of the request: they stand 4 bytes further on. Its reserved bits and bytes are
ignored: R277 speaks of the request's own fields, and R258 and R259 name no refusal (R9). -/
def profFields (p : List Byte) : List (Nat × Bool) :=
  [(4, slice p 0 4 == [0x4E, 0x4C, 0x50, 0x46]), (8, byteAt p 4 == 1),
   (10, decide (1 ≤ fieldAt p 6 2 ∧ fieldAt p 6 2 ≤ 1024)), (16, fieldAt p 12 4 != 0)]

/-- The KEYDIG slot that verifies a profile: any usable one of 1, 2, 5 and 6 (R258). -/
def profKeySlot (o : Otp) (p : List Byte) : Option Nat :=
  match keyMatches o [1, 2, 5, 6] (objKey p) with
  | none => none
  | some k => if ecdsaVerifies (objKey p) (objSig p) (sha256 (objBody p)) then some k else none

/-- Write a profile into its slot. Where a page of it cannot be written the slot keeps what it held, as a patch area and a stored object
do (DESIGN CHOICE, log entry 199). -/
def putProfile (s : State) (slot : Nat) (p : List Byte) (key : Option Nat) : Reply × State :=
  match writePages (noteWrite s (objectStream p) p) (pagesOf 2 (slot * 16384) p.length) with
  | (some page, s) => (Reply.fault 0x0002 page, s)
  | (none, s) => (Reply.ok [], { s with nvm := { s.nvm with profiles := s.nvm.profiles.set slot (some ⟨p, key⟩) } })

/-- PROFILE_STORE: signed, or in BLANK and PROVISION unsigned from a context that holds SECURITY (R259). -/
def hProfileStore : Handler := fun r s =>
  let p := r.payload.drop 4
  let slot := fieldAt r.payload 0 1
  judge s (decide (4 ≤ r.payload.length) && profLengthOk p)
    ([(0, decide (slot ≤ 7)), reservedAt r.payload 1 3] ++ profFields p) fun s =>
    if objUnsigned p && decide (lifecycle s.otp ≤ 1) && maskHolds (admLifecycle s r 0x0A02) (admMask s r 0x0A02) rSecurity then putProfile s slot p none
    else match profKeySlot s.otp p with
      | some k => putProfile s slot p (some k)
      | none => (Reply.no stBadCheck, s)

def execProfileStore (r : Req) (s : State) : Out := .next (serve 0x0A02 hProfileStore r s)

/-- PROFILE_ERASE: the slot's first page is written. -/
def hProfileErase : Handler := fun r s =>
  let slot := fieldAt r.payload 0 1
  judge s (exactly r.payload 4) [(0, decide (slot ≤ 7)), reservedAt r.payload 1 3] fun s =>
    match writePages s [0x480 + 64 * slot] with
    | (some page, s) => (Reply.fault 0x0002 page, s)
    | (none, s) => (Reply.ok [], { s with nvm := { s.nvm with profiles := s.nvm.profiles.set slot none } })

def execProfileErase (r : Req) (s : State) : Out := .next (serve 0x0A03 hProfileErase r s)

/-- PROFILE_INFO: an empty slot's HEADER is zero (R320). -/
def hProfileInfo : Handler := fun r s =>
  judge s (exactly r.payload 4) [(0, decide (fieldAt r.payload 0 1 ≤ 7)), reservedAt r.payload 1 3] fun s =>
    match s.nvm.profiles.getD (fieldAt r.payload 0 1) none with
    | none => (Reply.ok ([0, 0xFF, 0, 0] ++ zeros 64), s)
    | some p => (Reply.ok ((match p.keySlot with
        | some k => [1, b8 k, 0, 0]
        | none => [2, 0xFF, 0, 0]) ++ p.bytes.take 64), s)

def execProfileInfo (r : Req) (s : State) : Out := .next (serve 0x0A04 hProfileInfo r s)

/-! ### OBJECT_STORE (R319, R350 to R352) -/

/-- The open streamed message of an opcode in a request's box. -/
def streamMsg (s : State) (r : Req) (op : Nat) : Option OpenMsg :=
  match (getBox s (boxOf s r.link)).msg with
  | some m => if m.opcode.toNat = op then some m else none
  | none => none

/-- What an object's last fragment finds wrong with it, if anything. -/
def objectRefusal (s : State) (logo : Bool) (size crc : Nat) (b : List Byte) : Option Nat :=
  if b.length ≠ size then some stBadLength
  else if (crc32c b).toNat ≠ crc then some stBadCheck
  else if !objectOk logo b then some stBadLength
  else if objUnsigned b then (if pv s.params 0x0E10 = 1 then some stBadCheck else none)
  else if objectVerifies s.otp b then none else some stBadCheck

/-- Some job is RENDERING: it finishes with the objects that stood when it began (R319, R320). -/
def rendering (s : State) : Bool := anyJob s [.rendering]

/-- Replace the object of the same type and ID, which a RENDERING job keeps until it finishes; a new object goes last. -/
def replaceObj (keep : Bool) (new : StoreObj) (objs : List StoreObj) : List StoreObj :=
  if objs.any (sameObj new.logo new.id) then
    objs.flatMap (fun o => if sameObj new.logo new.id o then (if keep then [{ o with stale := true }, new] else [new]) else [o])
  else objs ++ [new]

/-- The pages that an object may take: the free ones and those of the object that it replaces, which a RENDERING job keeps
until it finishes (R319). -/
def roomFor (s : State) (logo : Bool) (id : Nat) : Nat :=
  freePages s.nvm + (match findObj s.nvm logo id with
    | some o => if rendering s then 0 else o.pages
    | none => 0)

/-- The objects whose page differs between two placements. -/
def movedObjs (old new : List StoreObj) : List StoreObj := (old.zip new).filterMap (fun p => if p.1.page = p.2.page then none else some p.2)

/-- The directory page, 16 entries of 16 bytes, that holds the entry of an object: its own, or behind the last for a new one
(R262). -/
def dirPageOf (n : Nvm) (logo : Bool) (id : Nat) : Nat := 0x1200 + (directory n).findIdx (sameObj logo id) / 16

/-- The pages that a new object's writing touches: those of the objects that had to be moved together, its own, and each
directory page with an entry that changes (R263; DESIGN CHOICE, log entry 43). -/
def objectWrites (n : Nvm) (moved : List StoreObj) (logo : Bool) (id page pages : Nat) : List Nat :=
  moved.flatMap (fun o => (List.range o.pages).map (· + o.page)) ++ (List.range pages).map (· + page) ++
  ((moved.filter (fun o => !o.stale)).map (fun o => dirPageOf n o.logo o.id) ++ [dirPageOf n logo id]).eraseDups

/-- Write an object into STORE and its entry into the directory. -/
def putObject (s : State) (logo : Bool) (id crc : Nat) (b : List Byte) : Reply × State :=
  let keep := rendering s
  let others := if keep then s.nvm.store else s.nvm.store.filter (fun o => !sameObj logo id o)
  let (pick, s) := drawNonce s
  let (objs, page) := placeObject pick.toNat others (objPages b.length)
  match writePages (noteWrite s (objectStream b) b) (objectWrites s.nvm (movedObjs others objs) logo id page (objPages b.length)) with
  | (some p, s) => (Reply.fault 0x0002 p, s)
  | (none, s) =>
    let new : StoreObj := ⟨logo, id, !objUnsigned b, page, BitVec.ofNat 32 crc, b, false⟩
    let moved := s.nvm.store.map (fun o => match objs.find? (fun x => x.logo == o.logo && x.id == o.id && x.stale == o.stale) with
      | some x => { o with page := x.page }
      | none => o)
    (Reply.ok (b16 id ++ b16 (objPages b.length)), { s with nvm := { s.nvm with store := replaceObj keep new moved } })

/-- The last fragment. Where a job that has begun to render since the first keeps the old object, so that both no longer fit,
it is refused with NO_SPACE (DEDUCED, log entry 130). -/
def endObject (r : Req) (s : State) (head b : List Byte) : Reply × State :=
  let s := explicit (endMsg s r 0x0A05) .crc32c b
  let logo := byteAt head 0 == 2
  match objectRefusal s logo (fieldAt head 4 4) (fieldAt head 8 4) b with
  | some st => (Reply.no st, s)
  | none =>
    if roomFor s logo (fieldAt head 2 2) < objPages b.length then (Reply.no stNoSpace, s)
    else putObject s logo (fieldAt head 2 2) (fieldAt head 8 4) b

/-- Keep a streamed message open with the bytes so far; bytes past SIZE cannot matter, but they count. -/
def keepStream (r : Req) (s : State) (op : Nat) (head b : List Byte) (size count : Nat) (old : Option OpenMsg) :
    Reply × State :=
  let m : OpenMsg :=
    { openMsg s r op (b.take (size + 1)) with
      count, header := head
      mask := (old.map (·.mask)).getD (openMsg s r op []).mask, lc := (old.map (·.lc)).getD (lifecycle s.otp) }
  (fragOk count, setMsg s r (some m))

/-- The first fragment: SIZE against the free pages and those of an object being replaced. -/
def firstObject (r : Req) (s : State) : Reply × State :=
  let p := r.payload
  let id := fieldAt p 2 2
  let size := fieldAt p 4 4
  judge s (decide (16 ≤ p.length))
    [(0, fieldAt p 0 1 == 1 || fieldAt p 0 1 == 2), reservedAt p 1 1, (2, decide (1 ≤ id ∧ id ≤ 65534)), reservedAt p 12 4]
    fun s =>
    let logo := byteAt p 0 == 2
    let old := findObj s.nvm logo id
    let room := roomFor s logo id
    if room < objPages size || (old.isNone && decide (256 ≤ (directory s.nvm).length)) then (Reply.no stNoSpace, s)
    else if r.more then keepStream r s 0x0A05 (p.take 16) (p.drop 16) size p.length none
    else endObject r s (p.take 16) (p.drop 16)

def hObjectStore : Handler := fun r s =>
  match streamMsg s r 0x0A05 with
  | none => firstObject r s
  | some m =>
    if r.more then
      keepStream r s 0x0A05 m.header (m.bytes ++ r.payload) (fieldAt m.header 4 4) (m.count + r.payload.length) (some m)
    else endObject r s m.header (m.bytes ++ r.payload)

def execObjectStore (r : Req) (s : State) : Out := .next (serve 0x0A05 hObjectStore r s)

/-- The directory's pages that change as entry `i` leaves it: its own, and those behind it, whose entries move up (R263; log entry
43). -/
def dirPagesFrom (n : Nvm) (i : Nat) : List Nat :=
  (List.range (((directory n).length - 1) / 16 + 1 - i / 16)).map (· + (0x1200 + i / 16))

/-- OBJECT_ERASE: no job may be RENDERING (R320). -/
def hObjectErase : Handler := fun r s =>
  let p := r.payload
  judge s (exactly p 4) [(0, fieldAt p 0 1 == 1 || fieldAt p 0 1 == 2), reservedAt p 1 1] fun s =>
    let logo := byteAt p 0 == 2
    if rendering s then (Reply.no stBusy, s) else
    match findObj s.nvm logo (fieldAt p 2 2) with
    | none => (Reply.range 2, s)
    | some o =>
      match writePages s (dirPagesFrom s.nvm ((directory s.nvm).findIdx (· == o))) with
      | (some page, s) => (Reply.fault 0x0002 page, s)
      | (none, s) => (Reply.ok [], { s with nvm := { s.nvm with store := s.nvm.store.filter (· != o) } })

def execObjectErase (r : Req) (s : State) : Out := .next (serve 0x0A06 hObjectErase r s)

/-- OBJECT_LIST: at most 255 entries from FIRST (R318, R320). -/
def hObjectList : Handler := fun r s =>
  judge s (exactly r.payload 4) [reservedAt r.payload 2 2] fun s =>
    let os := ((directory s.nvm).drop (fieldAt r.payload 0 2)).take 255
    (Reply.ok (b16 os.length ++ zeros 2 ++ os.flatMap (fun o =>
      [if o.logo then 2 else 1, if countsSigned s o then 1 else 0] ++ b16 o.id ++ b32 o.bytes.length ++ b16 o.page ++
      zeros 2 ++ b32 o.crc.toNat)), s)

def execObjectList (r : Req) (s : State) : Out := .next (serve 0x0A07 hObjectList r s)

/-! ### NVM_WEAR and PATCH_STORE (R320, R321) -/

/-- The cycles of a page, which a retired page's spare goes on counting. -/
def pageCycles (n : Nvm) (p : Nat) : Nat := (find? n.wear ((find? n.retired p).getD p)).getD 0

def hNvmWear : Handler := fun r s =>
  judge s (exactly r.payload 4) [(0, decide (fieldAt r.payload 0 1 ≤ 10)), reservedAt r.payload 1 3] fun s =>
    let (base, n) := areaPages (fieldAt r.payload 0 1)
    let cs := (List.range n).map (fun i => pageCycles s.nvm (base + i))
    let ret := (s.nvm.retired.filter (fun p => decide (base ≤ p.1 ∧ p.1 < base + n))).length
    (Reply.ok (b32 (maxList cs) ++ b32 (cs.foldl (· + ·) 0 / n) ++ b16 ret ++ b16 (256 - s.nvm.sparesUsed)), s)

def execNvmWear (r : Req) (s : State) : Out := .next (serve 0x0A08 hNvmWear r s)

/-- The patch verifies against KEYDIG slot 0 (R321). -/
def patchOk (o : Otp) (b : List Byte) : Bool :=
  match keydig o 0 with
  | some d => Config.patchVerifies b (BitVec.ofNat 128 (ofLe d))
  | none => false

/-- The inactive patch area's first page. -/
def patchBase (n : Nvm) : Nat := if n.patchActive = 1 then 512 else 0

/-- The last fragment of a patch: it goes to the inactive area and waits for the next start of the main domain. -/
def endPatch (r : Req) (s : State) (head b : List Byte) : Reply × State :=
  let s := explicit (endMsg s r 0x0A09) .crc32c b
  if b.length ≠ fieldAt head 0 4 then (Reply.no stBadLength, s)
  else if (crc32c b).toNat ≠ fieldAt head 4 4 ∨ !patchOk s.otp b then (Reply.no stBadCheck, s)
  else match writePages (noteWrite s (objectStream b) b) ((List.range (objPages b.length)).map (· + patchBase s.nvm)) with
    | (some page, s) => (Reply.fault 0x0002 page, s)
    | (none, s) =>
      let n := if s.nvm.patchActive = 1 then { s.nvm with patchB := some b } else { s.nvm with patchA := some b }
      (Reply.ok [Config.patchLevel b, 0, 0, 0], { s with nvm := { n with patchDue := true } })

def firstPatch (r : Req) (s : State) : Reply × State :=
  let p := r.payload
  judge s (decide (16 ≤ p.length)) [(0, decide (1 ≤ fieldAt p 0 4 ∧ fieldAt p 0 4 ≤ 131072)), reservedAt p 8 8] fun s =>
    if r.more then keepStream r s 0x0A09 (p.take 16) (p.drop 16) (fieldAt p 0 4) p.length none
    else endPatch r s (p.take 16) (p.drop 16)

def hPatchStore : Handler := fun r s =>
  match streamMsg s r 0x0A09 with
  | none => firstPatch r s
  | some m =>
    if r.more then
      keepStream r s 0x0A09 m.header (m.bytes ++ r.payload) (fieldAt m.header 0 4) (m.count + r.payload.length) (some m)
    else endPatch r s m.header (m.bytes ++ r.payload)

def execPatchStore (r : Req) (s : State) : Out := .next (serve 0x0A09 hPatchStore r s)

end Sys2Proof.Machine
end

