-- ==== Sys2Proof/Machine/SysCmd.lean ====
section
/-! DEFINITION. Commands of the system family 0x01xx (R285 to R290) and the application of a system reset. -/

namespace Sys2Proof.Machine

/-- SYS_IDENT (R286). -/
def hSysIdent : Handler := fun r s => judge s (exactly r.payload 0) [] fun s =>
  (Reply.ok (partId ++ fwVer s ++ [lcCode s.otp, pstateCode s.pwr.st, s.rst.cause, statusByte s] ++
    b16 (frameMask s (boxOf s r.link)).toNat ++ b32 s.log.bootCount.toNat ++ b48 (now s).toNat ++ zeros 2 ++ dieId s.otp), s)

def execSysIdent (r : Req) (s : State) : Out := .next (serve 0x0101 hSysIdent r s)

/-- SYS_RESET: the reset of its scope follows the response (R287). -/
def hSysReset : Handler := fun r s =>
  judge s (exactly r.payload 4) [(0, decide (fieldAt r.payload 0 1 ≤ 1)), reservedAt r.payload 1 3] fun s =>
    (Reply.ok [], { s with rst := { s.rst with resetPend := some (byteAt r.payload 0 == 1) } })

def execSysReset (r : Req) (s : State) : Out := .next (serve 0x0102 hSysReset r s)

/-- 20 ms after the response to SYS_RESET was queued, the reset of its scope is applied (R74, R75, R287). -/
def execSysResetApply (s : State) : Out := .next (applyReset s)

/-- The counters as SYS_COUNTERS lists them (R288). -/
def Counters.bytes (c : Counters) : List Byte :=
  [c.hdr, c.len, c.fcrc, c.format, c.context, c.tag, c.dup, c.aliveGap, c.replay, c.discarded, c.notifLost].flatMap
    (fun h => b16 h.toNat) ++ b32 c.link.toNat

/-- SYS_COUNTERS (R288). -/
def hSysCounters : Handler := fun r s =>
  judge s (exactly r.payload 4) [(0, decide (fieldAt r.payload 0 1 ≤ 1)), reservedAt r.payload 1 3] fun s =>
    let b := boxOf s r.link
    (Reply.ok (getBox s b).cnt.bytes, if byteAt r.payload 0 = 1 then modCnt s b (fun _ => Counters.zero) else s)

def execSysCounters (r : Req) (s : State) : Out := .next (serve 0x0103 hSysCounters r s)

/-- SYS_TIME (the system family's table). -/
def hSysTime : Handler := fun r s => judge s (exactly r.payload 0) [] fun s =>
  (Reply.ok (b48 (now s).toNat ++ b32 s.clk.rtc.toNat ++ [b8 (maskOf [decide (s.clk.xo32 = .adopted), s.clk.rtcSet]), 0]), s)

def execSysTime (r : Req) (s : State) : Out := .next (serve 0x0104 hSysTime r s)

/-- SYS_RTC_SET; the alarm compares with the new count (R289). -/
def hSysRtcSet : Handler := fun r s => judge s (exactly r.payload 4) [] fun s =>
  (Reply.ok [], rtcAlarmDue { s with clk := { s.clk with rtc := BitVec.ofNat 32 (ofLe r.payload), rtcSet := true } })

def execSysRtcSet (r : Req) (s : State) : Out := .next (serve 0x0105 hSysRtcSet r s)

/-- SYS_ECHO. -/
def hSysEcho : Handler := fun r s => judge s (decide (r.payload.length ≤ 256)) [] fun s => (Reply.ok r.payload, s)

def execSysEcho (r : Req) (s : State) : Out := .next (serve 0x0106 hSysEcho r s)

end Sys2Proof.Machine
end

