-- ==== Sys2Proof/Machine/Frames.lean ====
section
/-! DEFINITION. Complete mailbox frames on their links, the doorbell, open messages left alone, and the frames that the
part has sent (R190, R195, R196, R201, R208, R219 to R236). -/

namespace Sys2Proof.Machine

/-- The command of each opcode in this release (R281). -/
def handlers : List (Nat × Handler) :=
  [(0x0101, hSysIdent), (0x0102, hSysReset), (0x0103, hSysCounters), (0x0104, hSysTime), (0x0105, hSysRtcSet),
   (0x0106, hSysEcho)] ++
  [(0x0201, hParamRead), (0x0202, hParamWrite), (0x0203, hParamCommit), (0x0204, hParamRevert),
   (0x0205, hParamDefaults), (0x0206, hParamInfo), (0x0207, hProfileApply)] ++
  [(0x0301, hJobSubmit), (0x0302, hJobSubmitRaster), (0x0303, hJobStatus), (0x0304, hJobCancel), (0x0305, hJobHold),
   (0x0306, hJobRelease), (0x0307, hJobList), (0x0308, hJobPriority)] ++
  [(0x0401, hHubValues), (0x0402, hHubRecords), (0x0403, hHubSlotSet), (0x0404, hHubDescSet),
   (0x0405, hHubDetectorSet), (0x0406, hHubConfigRead), (0x0407, hHubSubscribe), (0x0408, hHubStatus),
   (0x0409, hHubStickyClear), (0x040A, hHubRecordsAck)] ++
  [(0x0501, hPwrStateSet), (0x0502, hPwrStateQuery), (0x0503, hPwrOn), (0x0504, hPwrOff), (0x0505, hSeqStatus),
   (0x0506, hPwrRtcAlarm), (0x0507, hDischHold)] ++
  [(0x0601, hCalStart), (0x0602, hCalStatus), (0x0603, hCalAbort)] ++
  [(0x0701, hNozScan), (0x0702, hNozMapRead), (0x0703, hNozMark), (0x0704, hServiceRun), (0x0705, hFireCountRead),
   (0x0706, hFeed), (0x0707, hMechStatus)] ++
  [(0x0801, hLogInfo), (0x0802, hLogRead), (0x0803, hFaultRead), (0x0804, hSnapshotRead), (0x0805, hLogClear)] ++
  [(0x0901, hOtpRead), (0x0902, hOtpProgram), (0x0903, hOtpKeyProgram), (0x0904, hOtpSeal), (0x0905, hOtpLock),
   (0x0906, hOtpShadow), (0x0907, hOtpStatus), (0x0908, hLifecycleAdvance), (0x0909, hReturnChallenge)] ++
  [(0x0A01, hStoreInfo), (0x0A02, hProfileStore), (0x0A03, hProfileErase), (0x0A04, hProfileInfo),
   (0x0A05, hObjectStore), (0x0A06, hObjectErase), (0x0A07, hObjectList), (0x0A08, hNvmWear), (0x0A09, hPatchStore)] ++
  [(0x0B01, hSessionOpen), (0x0B02, hSessionProve), (0x0B03, hSessionClose), (0x0B04, hNetStatus),
   (0x0B05, hNetSessionEnd)] ++
  [(0x0C01, hRightsSet), (0x0C02, hRightsGet)]

/-- What follows the answer of an opcode at once: a command of R283 that need not wait starts, a power command whose outcome
already stands ends, and an aborted calibration lets the next ticket be chosen (R283, R284, R305). -/
def afterAnswer (op : Nat) (s : State) : State :=
  if op = 0x0601 ∨ op = 0x0701 ∨ op = 0x0704 ∨ op = 0x0706 then startWaiting s
  else if op = 0x0503 ∨ op = 0x0504 then outcomeStands s
  else if op = 0x0603 then schedule s
  else s

/-- What a sequence-accepted request goes on to: admission steps 8 to 12 under its opcode, and what follows its answer; an
unknown opcode ends at step 9. -/
def runOpcode (op : Nat) (r : Req) (s : State) : State :=
  afterAnswer op (serve op ((find? handlers op).getD (fun _ s => (Reply.no stBadOpcode, s))) r s)

/-- The main domain runs, so that there is a mailbox. -/
def mailboxUp (s : State) : Bool := decide (s.rst.main = .ready ∨ s.rst.main = .booting ∨ s.rst.main = .waking)

/-- USB and TCP take no frame while neither a request slot nor the refusal slot is free: the endpoint NAKs, the window is
closed (R201, R234). -/
def mailboxFull (s : State) (b : Box) : Bool := let x := getBox s b; decide (8 ≤ slotsUsed x) && refusalUsed x

/-- The link can carry a frame to the part now. -/
def linkUp (s : State) : Link → Bool
  | .debug => tapOn s && decide (s.dbg.ir = .svc) && serviceOpen s
  | .i2c => !s.reed.owns && coreRuns s
  | .uart => coreRuns s
  | .usb => usbAnswers s && s.usb.configured && !s.usb.halted.contains 0x01 && !mailboxFull s (.ctx 3)
  | .conn id => match connOf s id with
    | some k => coreRuns s && s.net.up && !k.raw && !mailboxFull s (boxOf s (.conn id))
    | none => false

/-- A complete frame on a link (R219 to R231). -/
def execMailboxFrame (link : Link) (bytes : List Byte) (s : State) : Out :=
  .next (if mailboxUp s && linkUp s link then takeFrame runOpcode link bytes (countIn s link bytes.length) else s)

/-- The doorbell settles: BAD_LENGTH where IN_LEN differs from what the frame's header gives, NOT_READY before READY, else
the frame passes to the mailbox (R190). -/
def execDbDone (s : State) : Out :=
  if s.port.dbStatus ≠ 0x0101 then .next s else
  let bs := s.port.inBuf
  let settle (code : Half) : State := setIrq (setPort s (fun p => { p with dbStatus := code, inBuf := [] }) ) 1
  .next (if !coreRuns s then settle 0x0102
    else if bs.length < 16 ∨ bs.length ≠ (headerOf bs).total then settle 0x0202
    else takeFrame runOpcode .i2c bs (settle 0))

/-- What a link frame's body carries: the mailbox frame, or none where R196 discards it. -/
def uartPayload (body : List Byte) : Option (List Byte) :=
  match unstuff body with
  | none => none
  | some bs =>
    let n := bs.length - 2
    if 4126 < bs.length ∨ bs.length < 22 ∨ slice bs n 2 ≠ b16 (crc16 (bs.take n)).toNat then none else some (bs.take n)

/-- Bytes of a link frame on the UART. They wait in the receive buffer of 8 KiB until the flag that closes the frame, and bytes
beyond it are lost (R197; DEDUCED, log entry 147). The whole frame is unstuffed, checked, and passed on, or discarded and counted
(R195, R196). Before READY or warm-ready what arrives is discarded (R104). Nothing between two flags is no frame: flags may be
repeated (R195). -/
def execUartLinkFrame (body : List Byte) (closed stopBitsOk : Bool) (s : State) : Out :=
  if !coreRuns s then .next s else
  let got := s.uart.rx ++ body
  let bad := s.uart.rxBad || !stopBitsOk || decide (8192 < got.length)
  if !closed then .next { s with uart := { s.uart with rx := got.take 8192, rxBad := bad } } else
  let s := uartTaken s
  if got = [] then .next s else
  match uartPayload got with
  | none => .next (countLink s 2)
  | some f => .next (if bad then countLink s 2 else takeFrame runOpcode .uart f s)

/-- A bulk transfer on endpoint 0x01: one frame, or a link error where it is too long or ends before its header's length
(R201). -/
def execUsbBulkOut (bytes : List Byte) (s : State) : Out :=
  if !linkUp s .usb then .next s
  else if 4124 < bytes.length ∨ bytes.length < 16 ∨ bytes.length < (headerOf bytes).total then .next (countLink s 3)
  else .next (takeFrame runOpcode .usb bytes s)

/-- SVC is loaded, at SERVICE level, and its data register brings a frame of context 0, if any (R179, R219). -/
def execSvc (frame : List Byte) (s : State) : Out :=
  let s := loadLevel s .svc serviceOpen
  .next (if frame ≠ [] ∧ linkUp s .debug then takeFrame runOpcode .debug frame s else s)

/-- The context that an event of a box names: its own, that a connection has claimed, or none (R267). -/
def boxContext (s : State) : Box → Byte
  | .ctx c => b8 c
  | .conn id => match (connOf s id).bind (·.ctx) with
    | some c => b8 c.val
    | none => 0xFF

/-- Where an open message is. -/
def msgBox (s : State) : MsgPlace → Box
  | .link l => boxOf s l
  | .context c => .ctx c.val

/-- An open message has had no fragment for MBX_FRAG_TIMEOUT: logged and discarded (R232). -/
def execMbxFragTimeout (place : MsgPlace) (s : State) : Out :=
  let b := msgBox s place
  match (getBox s b).msg with
  | none => .next s
  | some m =>
    .next (discardIn (logFor (wakeDoze s) 0x0203 (b16 m.opcode.toNat ++ b32 m.count) (boxContext s b) 0) b)

/-- The link can carry a frame from the part now. Host I2C is read through DATA_OUT instead (R192). -/
def linkSends (s : State) : Link → Bool
  | .debug => tapOn s && decide (s.dbg.ir = .svc) && serviceOpen s
  | .i2c => false
  | .uart => coreRuns s && s.uart.driven && !(pv s.params 0x0211 == 1 && s.uart.ctsHigh)
  | .usb => usbAnswers s && s.usb.configured && !s.usb.halted.contains 0x81
  | .conn id => match connOf s id with
    | some k => coreRuns s && s.net.up && !k.raw
    | none => false

/-- The frame at the head of a link's queue has been sent in full, on the UART as a link frame: its slot is free, and what
waited for it follows (R195, R234, R287, R323). -/
def execResponseDelivered (link : Link) (s : State) : Out :=
  if !linkSends s link then .next s else
  let s := if link = .uart ∧ (getBox s (boxOf s link)).out ≠ [] then
      { s with uart := { s.uart with sent := linkFrame (headBytes s 2) } } else s
  .next (deliverHead (countOut s link (boxBytes s (boxOf s link)).length) (boxOf s link))

end Sys2Proof.Machine
end

