-- ==== Sys2Proof/Machine/Power.lean ====
section
/-! DEFINITION. Commands of the power states, the wake sources and the Reed listener (R91 to R111). -/

namespace Sys2Proof.Machine

/-- A debug level is open: unlocked, or in use by the TAP through an O cell (R180; DEDUCED, log entry 49). -/
def levelInUse (s : State) : Bool := decide (s.dbg.level ≠ .none) || s.dbg.used

/-- The conditions of an automatic NAP entry (R92, R93, R94, R180). -/
def napIdleOk (s : State) : Bool :=
  decide (s.pwr.st = .doze) && coreRuns s && pv s.params 0x0402 != 0 && idle s &&
  !((List.range 12).any (fun c => decide (4 ≤ c) && netSession s c)) && usbAllowsNap s &&
  !levelInUse s && !rasterUnfinished s && decide (retainedBytes s ≤ retainedPool)

/-- PWR_NAP_IDLE expires in DOZE: automatic entry is accepted, or is skipped (R94). It commits with PSTATE_ENTRY_BEGIN; a wake
before that cancels it (R95). -/
def execNapIdleExpiry (s : State) : Out :=
  if !napIdleOk s ∨ s.pwr.entry.isSome then .next s else
  .next { s with pwr := { s.pwr with
    entry := some { hib := false, discard := false, napLimit := 0, req := none, begun := false } } }

/-- Entry begins and runs to its commit point, unless a job holds it: after a command once its response has been read or
100 ms have passed (R94, R304); after PWR_NAP_IDLE at once, unless work has come since (R92, R93). -/
def execPstateEntryBegin (s : State) : Out :=
  match s.pwr.entry with
  | none => .next s
  | some e =>
    if e.req.isNone && !napIdleOk s then .next { s with pwr := { s.pwr with entry := none } } else
    .next (tryEnter { s with pwr := { s.pwr with entry := some { e with begun := true } } })

/-- The part is in NAP with nothing under way but, it may be, the entry's own partial shutdown. -/
def napQuiet (s : State) : Bool :=
  decide (s.pwr.st = .nap) && decide (s.rst.main = .asleep) && !s.pwr.moving && !s.pwr.wakeSeen

/-- The move from NAP is due: it starts once the shutdown of the entry to NAP has ended (R98). -/
def dueMove (s : State) : State := powerDue { s with pwr := { s.pwr with moveDue := true } }

/-- PWR_HIB_IDLE expires in NAP; jobs in the retained pool keep the part there (R98). -/
def execHibIdleExpiry (s : State) : Out :=
  .next (if napQuiet s && pv s.params 0x0403 != 0 && !s.pwr.napJobs then dueMove s else s)

/-- NAP_LIMIT expires in NAP; jobs keep the part there unless the command carried DISCARD (R98). -/
def execNapLimitExpiry (s : State) : Out :=
  .next (if napQuiet s && s.pwr.napLimit != 0 && (!s.pwr.napJobs || s.pwr.napDiscard) then dueMove s else s)

/-- A wake pin's debounced level; it is a wake source when it becomes active (R46, R99, R102). Its WK_EVT waits where the core
does not run (R82, R84). -/
def execWkDebounce (pin : Fin 6) (level : Bool) (s : State) : Out :=
  if !s.rst.vaoGood then .next s else
  let bit := BitVec.ofNat 6 (2 ^ pin.val)
  let was := s.pwr.wkLevel.toNat.testBit pin.val
  let active := level != (pv s.params 0x0407).testBit pin.val
  let s := { s with
    pwr := { s.pwr with wkLevel := if level then s.pwr.wkLevel ||| bit else s.pwr.wkLevel &&& ~~~ bit }
    rst := { s.rst with wkEvt := s.rst.wkEvt || (was != level && !coreRuns s) } }
  .next (if active && was != level then wakeSource s pin.val else s)

/-- Energy on the receive pair, in NAP or before an entry to it commits (R95, R99, R103). -/
def execPhyEnergyDetect (s : State) : Out := .next (wakeSource s 9)

/-- USB resume signalling ends suspend; it wakes the part from NAP, cancels an entry to it, and is work in DOZE (R95, R99,
R104). -/
def execUsbResume (s : State) : Out :=
  .next (if s.usb.suspended then wakeDoze (wakeSource { s with usb := { s.usb with suspended := false } } 10) else s)

/-- VIO has not returned after a HIBERNATE wake: the failure is logged and the part enters HIBERNATE again (chapter 4,
"VIO never returns after a HIBERNATE wake"). -/
def execPwrVioWaitExpiry (s : State) : Out :=
  if !s.rst.hibWake ∨ s.rst.vioGood ∨ s.rst.main ≠ .held ∨ s.pwr.st ≠ .run then .next s else
  let s := logEvent s 0x0403 []
  let s := freshWake (enterPstate s .hibernate) 3
  let s := stopHub (assertDisch s 4)
  let s := { s with rst := { s.rst with hibWake := false, xo25Run := false }, reed := { s.reed with boot := false } }
  .next (hibRails s)

/-- Reed hears an address byte in LISTEN (R38, R108, R109). -/
def execReedRefuse (addr : Byte) (s : State) : Out := .next (reedHears s addr)

/-- The port engine hands the host port to Reed, at the first STOP after the commit point (R106, R107). -/
def execHostPortHandover (s : State) : Out :=
  .next (if s.reed.handover then { s with reed := { s.reed with owns := true, handover := false } } else s)

/-- Cehole takes the host port back, from warm-ready or READY on (R106, R107). -/
def execHostPortTakeback (s : State) : Out :=
  .next (if s.reed.takeback && coreRuns s then
    { s with reed := { s.reed with owns := false, boot := false, takeback := false, handover := false } } else s)

end Sys2Proof.Machine
end

