-- ==== Sys2Proof/Machine/HubRun.lean ====
section
/-! DEFINITION. What the sensor hub does within a tick: records and the FIFO (R490 to R492), filter chains (R482), detectors
and their actions (R483 to R487), bus frames (R472 to R475), and the budget of a tick (R466, R478 to R480). -/

namespace Sys2Proof.Machine

/-- The tick number: hub time over 100 us. -/
def tickNo (s : State) : Nat := (now s).toNat / 100

def modSlotRun (s : State) (n : Nat) (f : SlotRun → SlotRun) : State := setHub s (fun h => { h with slotRun := modAt h.slotRun n f })
def modDet (s : State) (d : Nat) (f : DetRun → DetRun) : State := setHub s (fun h => { h with detRun := modAt h.detRun d f })
def slotRunOf (h : Hub) (n : Nat) : SlotRun := h.slotRun.getD n SlotRun.rest

/-! ### Records and the FIFO (R490 to R492) -/

def hubRecord (t : Time) (src flags : Nat) (value : Int) (aux : Nat) (alive : Byte) : List Byte :=
  let b := b32 t.toNat ++ [b8 src, b8 flags] ++ b16 (patternOf 16 value) ++ b16 aux ++ [alive]
  b ++ [crc8 b]

/-- Put a record in the FIFO of 2,730: a full one drops it or overwrites the oldest, by HUB_FIFO_MODE (R492). -/
def pushRecord (s : State) (t : Time) (src flags : Nat) (value : Int) (aux : Nat) : State :=
  let h := s.hub
  let full := decide (2730 ≤ h.fifo.length)
  if full && pv s.params 0x0A01 == 0 then setHub s (fun h => { h with fifoLost := h.fifoLost + 1 })
  else setHub s (fun h => { h with
    fifo := (if full then h.fifo.drop 1 else h.fifo) ++ [hubRecord t src flags value aux h.alive]
    alive := h.alive + 1, fifoLost := if full then h.fifoLost + 1 else h.fifoLost
    fifoOver := if full then h.fifoOver + 1 else h.fifoOver })

def highBits (t : Time) : BitVec 16 := BitVec.ofNat 16 (t.toNat / 2 ^ 32)

/-- Write a record; an epoch record comes before the first whose time has wrapped (R490). -/
def writeRecordAt (s : State) (t : Time) (src flags : Nat) (value : Int) (aux : Nat) : State :=
  let hi := highBits t
  let gone := (hi - s.hub.lastHigh).toNat
  let s := if 1 ≤ gone ∧ gone < 0x8000 then
      setHub (pushRecord s (now s) 0xF0 0 (hi.toNat : Int) 0) (fun h => { h with lastHigh := hi }) else s
  pushRecord s t src flags value aux

/-- The restart record at the hub's first tick (R462). -/
def restartRecord (s : State) : State :=
  if !s.hub.restartDue then s else
  let hi := highBits (now s)
  setHub (pushRecord s (now s) 0xF1 0 (hi.toNat : Int) s.hub.restartAux.toNat) (fun h => { h with restartDue := false, lastHigh := hi })

/-- A sample is lost: counted, and logged at most once per 10 s for its slot (R480). -/
def loseSample (s : State) (n : Nat) : State :=
  let s := setHub s (fun h => { h with lost := h.lost + 1 })
  let r := slotRunOf s.hub n
  let s := modSlotRun s n (fun r => { r with lost := min 0xFFFFFFFF (r.lost + 1) })
  let due := match r.lossAt with
    | some t => decide (10000000 ≤ since s t)
    | none => true
  if !due then s else
  modSlotRun (logEvent s 0x0A01 (b8 n :: b32 (min 0xFFFFFFFF (r.lost + 1)))) n (fun r => { r with lost := 0, lossAt := some (now s) })

/-! ### Filter chains (R482) -/

/-- A value beyond signed 32 bits is a free one: the spec states no result there (log entry 63). -/
def fit32 (s : State) (v : Int) : Int × State :=
  if -2147483648 ≤ v ∧ v < 2147483648 then (v, s)
  else let (x, s) := drawNonce s; ((x.setWidth 32).toInt, s)

def insertSorted (v : Int) : List Int → List Int
  | [] => [v]
  | x :: xs => if v ≤ x then v :: x :: xs else x :: insertSorted v xs

def sorted (l : List Int) : List Int := l.foldr insertSorted []

/-- The median; with an even number held, either of the middle two (the spec names no rule; log entry 63). -/
def medianOf (s : State) (l : List Int) : Int × State :=
  let o := sorted l
  let k := o.length / 2
  if o.length % 2 = 1 then (o.getD k 0, s)
  else let (b, s) := drawBit s; (o.getD (if b then k else k - 1) 0, s)

/-- The mean; where it is not a whole number, rounded either way (the spec names no rounding; log entry 63). -/
def meanOf (s : State) (l : List Int) : Int × State :=
  let sum := l.foldl (· + ·) 0
  let n : Int := (l.length : Nat)
  if sum % n = 0 then (sum / n, s)
  else let (b, s) := drawBit s; (if b then sum.fdiv n + 1 else sum.fdiv n, s)

/-- One stage: its output, or none where DECIMATE stops the input; its memory; and the state, for free values drawn. -/
def runStage (s : State) (code a0 a1 : Nat) (m : StageMem) (v : Int) : Option Int × StageMem × State :=
  let arg : Int := signedOf 16 a1
  match code with
  | 1 => let (v, s) := fit32 s ((v * arg).fdiv ((2 ^ a0 : Nat) : Int)); (some v, m, s)
  | 2 => let (v, s) := fit32 s (v + arg); (some v, m, s)
  | 3 =>
    let l := (v :: m.past).take a0
    let (v, s) := medianOf s l
    (some v, { m with past := l }, s)
  | 4 =>
    let l := (v :: m.past).take (2 ^ a0)
    let (v, s) := meanOf s l
    (some v, { m with past := l }, s)
  | 5 =>
    let y := match m.past with
      | [] => v
      | y :: _ => y + (v - y).fdiv ((2 ^ a0 : Nat) : Int)
    (some y, { m with past := [y] }, s)
  | 6 => if a1 ≤ m.count + 1 then (some v, { m with count := 0 }, s) else (none, { m with count := m.count + 1 }, s)
  | 7 =>
    let (d, s) := match m.past with
      | [] => ((0 : Int), s)
      | p :: _ => fit32 s (v - p)
    (some d, { m with past := [v] }, s)
  | _ => (some v, m, s)

/-- A chain over its stages' memories. -/
def runStages : List (Nat × Nat × Nat) → List StageMem → State → Int → Option Int × List StageMem × State
  | [], ms, s, v => (some v, ms, s)
  | (c, a0, a1) :: st, ms, s, v =>
    match runStage s c a0 a1 (ms.headD ⟨[], 0⟩) v with
    | (none, m, s) => (none, m :: ms.drop 1, s)
    | (some v, m, s) =>
      let (r, ms', s) := runStages st (ms.drop 1) s v
      (r, m :: ms', s)

/-! ### Detectors (R484, R485, R487) -/

/-- NOTIFY and LOG act at most once per 100 ms; while the core does not run they are held, of a
detector's LOG events the latest alone (R271; DEDUCED, log entry 72). -/
def noteEdge (s : State) (d : Nat) (acts : Byte) (rec : List Byte) : State :=
  let r := detRunOf s.hub d
  let may := match r.noteAt with
    | some t => decide (100000 ≤ since s t)
    | none => true
  let notes := acts.toNat.testBit 4
  let logs := acts.toNat.testBit 5
  if !may || !(notes || logs) then s else
  let s := modDet s d (fun r => { r with noteAt := some (now s) })
  if coreRuns s then
    let s := if notes then notifyDet s d acts (checkedRecord rec) else s
    if logs then logEvent s 0x0B01 [b8 d, acts] else s
  else modDet s d (fun r => { r with
    heldNote := r.heldNote || notes, heldLog := if logs then some (now s) else r.heldLog })

/-- A detector's DISCH action (R485). -/
def detDischarge (s : State) (acts : Byte) : State := if acts.toNat.testBit 3 then assertDisch s 1 else s

/-- An edge's record and, on a setting edge, the core's interrupt, which is work in DOZE and waits while the
core does not run (R84, R99), and every action but DISCH. `deferred` says that the deciding work was deferred (R480). An edge while
Reed still serves the port of a core that runs drives HST_IRQ until the next READY or warm-ready, past the take-back (R485; DEDUCED, log
entry 198). -/
def edgeWork (s : State) (d : Nat) (set : Bool) (v : Int) (t : Time) (deferred : Bool) : State :=
  let e := hubDet s.hub d
  let acts := b8 (fieldAt e 3 1)
  let aux := acts.toNat + 256 * detRole e
  let flags := (if set then 0x80 else 0) + flagBit deferred 2
  let own := acts.toNat.testBit 0
  let s := if own then writeRecordAt s t (0x40 + d) flags v aux else s
  let rec0 := hubRecord t (0x40 + d) flags v aux (s.hub.alive - 1)
  let s := if coreRuns s then s else modDet s d (fun r => { r with held := some rec0 })
  if !set then s else
  let s := if coreRuns s then s else { s with rst := { s.rst with hubEvt := true } }
  let s := if acts.toNat.testBit 1 then wakeSource s 8 else s
  let s := if coreRuns s then wakeDoze s else s
  let s := if !acts.toNat.testBit 2 then s
    else if coreRuns s && !s.reed.owns then setIrq s 7 else setHub s (fun h => { h with irqBy := h.irqBy ||| BitVec.ofNat 32 (2 ^ d) })
  noteEdge s d acts rec0

/-- A detector becomes active, with its sticky bit, or clear; DISCH rises or loses its reason (R485). -/
def markEdge (s : State) (d : Nat) (set : Bool) : State :=
  let s := modDet s d (fun r => { r with
    active := set, setRun := 0, clrRun := 0, setAt := if set then some (now s) else r.setAt })
  let s := if set then setHub s (fun h => { h with sticky := h.sticky ||| BitVec.ofNat 32 (2 ^ d) }) else s
  if set then detDischarge s (b8 (fieldAt (hubDet s.hub d) 3 1)) else refreshDetDisch s

/-- The ticks between two moments of hub time, whichever came first (R89, R484, R530). -/
def tickGap (a b : Time) : Nat := min (a - b).toNat (b - a).toNat / 100

/-- What a coincidence does on an edge of one of its detectors: whether it sets, with the ticks between the decisions of the two
setting edges, or clears. A setting edge evaluated late may find both clear; it then clears at its next evaluation (R484). -/
def coincidenceStep (s : State) (c d : Nat) (set : Bool) : State × Option (Bool × Int) :=
  let e := hubDet s.hub c
  let edge := (detRunOf s.hub d).setAt
  let s := if !set then s
    else modDet s c (fun r => if detA e = d then { r with aEdge := edge } else { r with bEdge := edge })
  let r := detRunOf s.hub c
  let clear := !(detRunOf s.hub (detA e)).active && !(detRunOf s.hub (detB e)).active
  let noted (b : Bool) : State := modDet s c (fun r => { r with bothClear := b })
  if r.active then
    if r.bothClear || (!set && clear) then (noted false, some (false, 0)) else (s, none)
  else match set, r.aEdge, r.bEdge with
    | true, some a, some b =>
      let gap := tickGap a b
      if gap ≤ fieldAt e 12 2 then (noted clear, some (true, (gap : Int))) else (s, none)
    | _, _, _ => (s, none)

/-- An edge passes on to the coincidences that name the detector; each may make an edge of its own. -/
def spread : Nat → State → Nat → Bool → Time → Bool → State
  | 0, s, _, _, _, _ => s
  | k + 1, s, d, set, t, deferred =>
    ((List.range 32).filter (fun c => (coincidenceOf (hubDet s.hub c)).contains d)).foldl (fun s c =>
      match coincidenceStep s c d set with
      | (s, some (up, v)) => spread k (edgeWork (markEdge s c up) c up v t deferred) c up t deferred
      | (s, none) => s) s

def detEdge (s : State) (d : Nat) (set : Bool) (v : Int) (t : Time) (deferred : Bool) : State :=
  spread 32 (edgeWork (markEdge s d set) d set v t deferred) d set t deferred

/-- Whether a sample qualifies for set and for clear (R484). -/
def qualifies (e : List Byte) (v : Int) : Bool × Bool :=
  let a := signedAt e 4 2
  let b := signedAt e 6 2
  match detKind e with
  | 1 => (decide (a ≤ v), decide (v < b))
  | 2 => (decide (v ≤ a), decide (b < v))
  | 3 => (decide (v < a ∨ b < v), decide (a ≤ v ∧ v ≤ b))
  | _ => (false, false)

/-- A detector of kind 1 to 3 is evaluated on one output of its slot. -/
def evalDet (s : State) (v : Int) (t : Time) (deferred : Bool) (d : Nat) : State :=
  let e := hubDet s.hub d
  let r := detRunOf s.hub d
  let (up, down) := qualifies e v
  if r.active then
    let k := if down then r.clrRun + 1 else 0
    if down ∧ fieldAt e 9 1 ≤ k then detEdge s d false v t deferred else modDet s d (fun r => { r with clrRun := k, setRun := 0 })
  else
    let k := if up then r.setRun + 1 else 0
    if up ∧ fieldAt e 8 1 ≤ k then detEdge s d true v t deferred else modDet s d (fun r => { r with setRun := k, clrRun := 0 })

/-- A slot's sample goes through its chain; its output is recorded and judged (R482, R490). -/
def slotOutput (s : State) (n : Nat) (v : Int) (aux flags : Nat) (t : Time) : State :=
  let e := hubSlot s.hub n
  let (out, ms, s) := runStages (slotChain e) (slotRunOf s.hub n).mem s v
  let s := modSlotRun s n (fun r => { r with mem := ms })
  match out with
  | none => s
  | some v =>
    let c : Int := max (-32768) (min 32767 v)
    let flags := if c = v then flags else flags ||| 0x20
    let s := if slotOption e 6 then writeRecordAt s t n flags c aux else s
    (detsOn s.hub n).foldl (fun s d => evalDet s c t (flags.testBit 2) d) s

/-! ### Bus frames (R472 to R475) -/

/-- A field of a frame, or none where it does not lie within the bytes received. -/
def frameField (d frame : List Byte) (off : Nat) : Option Int :=
  let at0 := fieldAt d off 1
  let fmt := fieldAt d (off + 1) 1
  let two := fmt.testBit 0
  let w := if two then 16 else 8
  if frame.length < at0 + (if two then 2 else 1) then none else
  let bs := slice frame at0 (if two then 2 else 1)
  let raw := if fmt.testBit 1 then ofBe bs else ofLe bs
  let sh := fmt / 16
  let v := raw / 2 ^ sh
  some (if w ≤ sh then 0 else if fmt.testBit 2 then signedOf (w - sh) v else (v : Int))

/-- The frame among the bytes received after WLEN: in COUNTED mode those that the first byte counts, else RLEN bytes. -/
def frameOf (d bytes : List Byte) : List Byte :=
  if (fieldAt d 3 1).testBit 0 then (bytes.drop 1).take (byteAt bytes 0).toNat else bytes.take (fieldAt d 5 1)

/-- A completion: the sample of FIELD0, with SHORT or LONG; it is lost where FIELD0 is not whole (R474). -/
def completeBus (s : State) (b : BusDone) : State :=
  let n := b.tx.slot
  let e := hubSlot s.hub n
  if slotKind e ≠ 2 then s else
  let d := b.tx.desc
  let rlen := fieldAt d 5 1
  let whole := frameOf d b.bytes
  let frame := whole.take rlen
  match frameField d frame 16 with
  | none => loseSample s n
  | some v =>
    let aux := if slotOption e 7 then patternOf 16 ((frameField d frame 20).getD 0) else patternOf 16 v
    let flags := flagBit (decide (whole.length < rlen)) 0 + flagBit (decide (rlen < whole.length)) 1 +
      flagBit (b.late || b.tx.overrun) 2
    slotOutput s n v aux flags b.tx.time

/-- Issue a slot's bus transaction; a queue of 8 takes no more, and the sample is lost (R476; DEDUCED, log entry 64). A hub
that is about to stop issues none (R462). -/
def issueBus (s : State) (n : Nat) (late : Bool) : State :=
  if s.hub.stopping then s else
  let d := hubDesc s.hub (slotSource (hubSlot s.hub n))
  let tx : BusTx := ⟨n, d, false, now s, 0, late⟩
  let q := if fieldAt d 0 1 = 1 then s.hub.busSpi else s.hub.busI2c
  if 8 ≤ q.length then loseSample s n else
  let q' := startHead (fieldAt d 0 1 != 1 && s.hub.i2cHeld) (now s) (q ++ [tx])
  setHub s (fun h => if fieldAt d 0 1 = 1 then { h with busSpi := q' } else { h with busI2c := q' })

/-- A transaction not yet started when its slot is next due is removed, and each one's sample is lost (R477). -/
def dropUnstarted (s : State) (n : Nat) : State :=
  let old (t : BusTx) : Bool := t.slot == n && !t.started && t.retries == 0
  let k := ((s.hub.busI2c ++ s.hub.busSpi).filter old).length
  let s := setHub s (fun h => { h with
    busI2c := h.busI2c.filter (fun t => !old t), busSpi := h.busSpi.filter (fun t => !old t) })
  (List.range k).foldl (fun s _ => loseSample s n) s

/-! ### Costs (R479) -/

def detCost (e : List Byte) : Nat :=
  (if detKind e = 3 then 14 else if detKind e = 4 then 6 else if detKind e = 0 then 0 else 10) +
  (if detAction e 0 then 20 else 0) + 8 * ([1, 2, 3, 4, 5].filter (detAction e)).length

/-- Every detector that a slot feeds, coincidences among them, however deep (R479). -/
def slotDetCost (h : Hub) (n : Nat) : Nat :=
  ((fedBy h n).map (fun d => detCost (hubDet h d))).foldl (· + ·) 0

def stageCost (st : Nat × Nat × Nat) : Nat :=
  match st.1 with
  | 1 => 10
  | 2 => 4
  | 3 => if st.2.1 = 5 then 40 else 18
  | 4 => 12
  | 5 => 14
  | 6 => 4
  | 7 => 8
  | _ => 0

/-- The part of a slot's cost that follows its sample. -/
def tailCost (h : Hub) (n : Nat) : Nat :=
  let e := hubSlot h n
  ((slotChain e).map stageCost).foldl (· + ·) 0 + (if slotOption e 6 then 20 else 0) + slotDetCost h n

/-- A slot's work as it falls due: a conversion with all that follows, or the issue of a transaction. -/
def dueCost (h : Hub) (n : Nat) : Nat :=
  let e := hubSlot h n
  if slotKind e = 2 then 32
  else (if slotOption e 5 then 28 else 16) + tailCost h n

/-- Evaluating a detector on a system slot, or a WK_LEVEL detector, with the coincidences that it feeds (R479). -/
def sysCost (h : Hub) (d : Nat) : Nat :=
  ((withCoincidences h 32 [d]).map (fun k => detCost (hubDet h k))).foldl (· + ·) 0

def doneCost (h : Hub) (b : BusDone) : Nat := 20 + 2 * fieldAt b.tx.desc 5 1 + tailCost h b.tx.slot

/-! ### A tick's budget (R466, R478, R480) -/

/-- What is left of a tick: cycles, whether some piece has already been deferred, and each converter's time in us. -/
structure Budget where
  left : Nat
  full : Bool
  usedA : Nat
  usedB : Nat
deriving DecidableEq, Repr

/-- A piece of user work: a user slot, a detector on a system slot, a WK_LEVEL detector, or a completion. -/
inductive Piece where
  | slot (n : Nat) (late : Bool)
  | sys (d : Nat) (late : Bool)
  | wk (d : Nat) (late : Bool)
  | done (b : BusDone)
deriving DecidableEq, Repr

/-- The converter a conversion takes: the other one while its own is lent; the less used one where the slot leaves it open
(R466, R467). 0 is ADC-A. The flag is BORROWED. -/
def chooseConv (s : State) (b : Budget) (conv : Nat) : Nat × Bool :=
  if s.hub.borrowed = 1 then (1, conv == 1)
  else if s.hub.borrowed = 2 then (0, conv == 2)
  else if conv = 1 then (0, false)
  else if conv = 2 then (1, false)
  else (if b.usedB < b.usedA then 1 else 0, false)

def useConv (b : Budget) (conv t : Nat) : Budget :=
  if conv = 0 then { b with usedA := b.usedA + t } else { b with usedB := b.usedB + t }

/-- Conversion time of a user slot in us. -/
def convTime (e : List Byte) : Nat := if slotOption e 5 then 2 + slotSettle e else 1

/-- A reading of a channel is stored. -/
def putReading (s : State) (ch : Nat) (code : BitVec 12) : State :=
  setHub s (fun h => { h with latest := h.latest.set ch ⟨code, now s, true⟩ })

/-- An analog slot converts (R465, R471): the code with its LED lit, or without where it drives none, or the difference of the
two; the LED is driven at LED_CUR meanwhile. -/
def runAnalog (s : State) (n : Nat) (late : Bool) (conv : Nat) (borrowed : Bool) (codes lit : List (BitVec 12)) : State :=
  let e := hubSlot s.hub n
  let ch := slotSource e
  let on := if slotOption e 2 then lit.getD ch 0 else codes.getD ch 0
  let off := codes.getD ch 0
  let diff := slotOption e 5
  let rail (c : BitVec 12) : Bool := c == 0 || c == 4095
  let flags := flagBit late 2 + flagBit borrowed 3 + flagBit (!convCalibrated s conv) 4 +
    flagBit (rail on || (diff && rail off)) 5 + flagBit diff 6
  let v : Int := if diff then (on.toNat : Int) - (off.toNat : Int) else (on.toNat : Int)
  let s := if slotOption e 2 then setHub s (fun h => { h with leds := h.leds.set (slotLed e) (fieldAt e 7 1) }) else s
  slotOutput (putReading s ch on) n v on.toNat flags (now s)

/-- A completion of the slot that has been deferred is lost: a slot has at most one deferred instance, the newest (R480). -/
def loseDeferred (s : State) (n : Nat) : State :=
  let old (b : BusDone) : Bool := b.late && b.tx.slot == n
  let k := (s.hub.done.filter old).length
  (List.range k).foldl (fun s _ => loseSample s n) (setHub s (fun h => { h with done := h.done.filter (fun b => !old b) }))

/-- A slot does not run now: deferred once, then lost (R480). -/
def putOff (s : State) (n : Nat) (late : Bool) : State :=
  if late then loseSample (modSlotRun s n (fun r => { r with deferred := false })) n
  else
    let s := loseDeferred s n
    let was := (slotRunOf s.hub n).deferred
    let s := setHub (modSlotRun s n (fun r => { r with deferred := true })) (fun h => { h with overrun := h.overrun + 1 })
    if was then loseSample s n else s

/-- The record and actions of a WK_LEVEL detector's edge, at its place in the tick, with the time of its decision: this tick's, or one
that has been deferred (R480, R484, R490). -/
def runWk (s : State) (d : Nat) (late : Bool) : State :=
  let r := detRunOf s.hub d
  let work (s : State) (set : Bool) (t : Time) : State :=
    spread 32 (edgeWork s d set (if set then 1 else 0) t late) d set t late
  if late then work (modDet s d (fun r => { r with late := false })) (r.lateCode == 1) r.lateAt
  else match r.due with
    | none => s
    | some set => work (modDet s d (fun r => { r with due := none })) set r.dueAt

/-- A WK_LEVEL detector's edge does not run now: deferred once, then lost (R480). -/
def putOffWk (s : State) (d : Nat) (late : Bool) : State :=
  if late then setHub (modDet s d (fun r => { r with late := false })) (fun h => { h with lost := h.lost + 1 })
  else match (detRunOf s.hub d).due with
    | none => s
    | some set => setHub (modDet s d (fun r => { r with due := none, late := true, lateCode := if set then 1 else 0, lateAt := r.dueAt }))
        (fun h => { h with overrun := h.overrun + 1 })

/-- A completion does not run now: deferred once, then lost; one that is older than a deferred issue of its slot is lost at once
(R480). -/
def putOffDone (s : State) (t : BusDone) : State :=
  if t.late then loseSample s t.tx.slot
  else
    let s := setHub (loseDeferred s t.tx.slot) (fun h => { h with overrun := h.overrun + 1 })
    if (slotRunOf s.hub t.tx.slot).deferred then loseSample s t.tx.slot
    else setHub s (fun h => { h with done := h.done ++ [{ t with late := true }] })

/-- The LED whose current a SENSE_LED calibration measures (R499). -/
def ledLent (s : State) : Option Nat :=
  match running s 0x0601 with
  | some a => if byteAt a.payload 0 = 6 ∧ s.cal.store.isNone then some (byteAt a.payload 1).toNat else none
  | none => none

/-- An analog instance that cannot be taken is lost: VDDA is low, or its LED is lent (R464, R499). -/
def cannotConvert (s : State) (e : List Byte) : Bool :=
  slotKind e == 1 && (!s.rst.vddaGood || (slotOption e 2 && ledLent s == some (slotLed e)))

/-- Run one piece of user work, where the budget and the converter allow. -/
def runPiece (codes lit : List (BitVec 12)) (x : State × Budget) (p : Piece) : State × Budget :=
  let (s, b) := x
  let cost := match p with
    | .slot n _ => dueCost s.hub n
    | .sys d _ => sysCost s.hub d
    | .wk d _ => sysCost s.hub d
    | .done t => doneCost s.hub t
  let fits := !b.full && decide (cost ≤ b.left)
  let spent := { b with left := b.left - cost }
  let stop := { b with full := true }
  match p with
  | .wk d late =>
    if fits then (runWk s d late, spent) else (putOffWk s d late, stop)
  | .sys d late =>
    let src := detSource (hubDet s.hub d)
    let lower (s : State) : State := modDet s d (fun r => { r with late := false })
    let code : Int := ((codes.getD (slotSource (hubSlot s.hub src)) 0).toNat : Int)
    let r := detRunOf s.hub d
    if fits then
      (if late then evalDet (lower s) r.lateCode r.lateAt true d else evalDet s code (now s) false d, spent)
    else if late then (loseSample (lower s) src, stop)
    else (setHub (modDet s d (fun r => { r with late := true, lateCode := code, lateAt := now s })) (fun h => { h with
      overrun := h.overrun + 1 }), stop)
  | .done t =>
    if fits then (completeBus s t, spent) else (putOffDone s t, stop)
  | .slot n late =>
    let e := hubSlot s.hub n
    let ready := modSlotRun s n (fun r => { r with deferred := false })
    if cannotConvert s e then (loseSample ready n, b)
    else if !fits then (putOff s n late, stop)
    else
      let s := ready
      if slotKind e = 2 then (issueBus s n late, spent)
      else
        let (conv, borrowed) := chooseConv s b (slotConv e)
        let used := if conv = 0 then b.usedA else b.usedB
        if 100 < used + convTime e then (putOff s n late, b)
        else (runAnalog s n late conv borrowed codes lit, useConv spent conv (convTime e))

end Sys2Proof.Machine
end

