-- ==== Sys2Proof/Machine/SeqCmd.lean ====
section
/-! DEFINITION. Events of the rail sequencer (R117 to R154): delays and timeouts, power-good edges, rail faults, head
over-current, input collapse, DRONE, and the records' way to NVM. -/

namespace Sys2Proof.Machine

/-- What a change of the rails may free: a shutdown that was waited for, the charger, a ticket boundary. -/
def seqDone (s : State) : State := afterTicket (updateCharger (powerDue s))

/-- The up-sequence goes on, unless VINFAIL has stopped it (R139). -/
def seqOn (s : State) : State := if s.seq.frozen then s else seqDone (seqAdvance s)

/-! ### The up-sequence -/

/-- A channel's on-delay in the current state has run out (R121). -/
def execSeqOnDelayExpiry (ch : Fin 8) (s : State) : Out :=
  let q := s.seq
  if q.ph ≠ .up ∨ q.frozen ∨ (chCfg q ch.val).upState ≠ q.state ∨ !inMask q ch.val then .next s else
  .next (seqOn (modSeq s (fun q => modCh q ch.val (fun c => { c with delayed := true }))))

/-- A channel's PG reads good for t_DG: it is satisfied and monitored from then on, flagged or not (R121, R122), and the
head rail's ends the gate of the fire lines (R432). A channel outside SEQ_PG_USED is not looked at (R117). -/
def execPgGood (ch : Fin 8) (s : State) : Out :=
  if !s.rst.vaoGood ∨ !pgUsed s.seq ch.val ∨ (chRun s.seq ch.val).pg then .next s else
  let s := modSeq s (fun q => modCh q ch.val (fun c =>
    { c with pg := true, edge := BitVec.ofNat 32 (now s).toNat, pgSeen := c.pgSeen || c.en, monitored := c.en }))
  .next (seqOn (if ch.val = s.seq.cfg.headRail then dropHisGate s else s))

/-- A channel's power-good timeout has run out since its enable (R121). It runs on for a channel that the ceiling detector holds
(DESIGN CHOICE, log entry 171), and past UP only into RUNNING: in a shutdown it neither flags nor logs (DESIGN CHOICE, log entry
173). -/
def execPgTimeout (ch : Fin 8) (s : State) : Out :=
  let c := chRun s.seq ch.val
  if !pgUsed s.seq ch.val ∨ !(c.en || c.hisDrop || s.seq.held.toNat.testBit ch.val && c.released) ∨ c.pgSeen ∨ c.pgFlag ∨ s.seq.frozen ∨ (s.seq.ph ≠ .up ∧ s.seq.ph ≠ .running) then .next s
  else .next (seqOn (logEvent (modSeq s (fun q => modCh q ch.val (fun c => { c with pgFlag := true }))) 0x0502 [b8 ch.val]))

/-! ### Faults -/

/-- The PG inputs take levels; an edge is timed (R152). -/
def setLevels (s : State) (pgs : BitVec 8) : State :=
  modSeq s (fun q => { q with ch := q.ch.mapIdx (fun n c =>
    if c.pg = pgs.toNat.testBit n then c
    else { c with pg := pgs.toNat.testBit n, edge := BitVec.ofNat 32 (now s).toNat }) })

/-- A monitored PG has stayed low for t_DG in UP, RUNNING or DOWN (R125 to R130): both records, every enable cut, DISCH and
the fault level, FAULT_OFF, and the sequencer's wake source. Between a VINFAIL trip and its release it keeps its own bound and its
records (R537; DEDUCED, log entry 76). -/
def execRailFault (ch : Fin 8) (pgLevels : BitVec 8) (s : State) : Out :=
  let q := s.seq
  if !(chRun q ch.val).monitored ∨ (q.ph ≠ .up ∧ q.ph ≠ .running ∧ q.ph ≠ .down) ∨
      pgLevels.toNat.testBit ch.val then .next s else
  let s := setLevels (passPart s) pgLevels
  let a := recAt s 0x01 (b8 ch.val) (pgByte s.seq)
  let (r, s) := capture s a ⟨false, true, true, abortDriven s.seq⟩
  let s := railLost s ch.val
  let s := allOff (assertDisch (raiseFault s) 2)
  let s := endWaiters (putRecord s r) (some ch.val)
  .next (seqDone (wakeSource s 11))

/-- HIS0 or HIS1 trips, watched in RUN while the head rail is enabled (R128, R432): the fire lines are gated, the head rail
falls, the ticket is interrupted, a scan or a routine stops (R447), and one event per row is logged. The channel stays
satisfied where it was, so that an up-sequence goes on. A trip between VINFAIL and its release drops the enable too (DESIGN
CHOICE, log entry 177). -/
def execHisTrip (row : Fin 2) (both : Bool) (s : State) : Out :=
  let n := s.seq.cfg.headRail
  if !(chRun s.seq n).en ∨ s.pwr.st ≠ .run ∨ (s.rst.main ≠ .ready ∧ s.rst.main ≠ .booting) then .next s else
  let a := recAt s 0x02 0xFF (pgByte s.seq)
  let s := railLost s n
  let s := if s.noz.scan.isSome ∨ s.noz.service.isSome then haltService { s with saf := { s.saf with railHit := true } } else s
  let s := haltTicket { s with fife := { s.fife with hisGate := true } } 4
  let s := modSeq s (fun q => modCh q n (fun c => { c.release with hisDrop := true, pgSeen := c.pgSeen || !pgUsed q n }))
  let s := record s a false false
  let s := logEvent s 0x0801 [b8 row.val]
  .next (afterTicket (if both then logEvent s 0x0801 [b8 (1 - row.val)] else s))

/-! ### Shutdown -/

/-- The off-delay of the slot in progress has run out (R132); a channel that HIS dropped meanwhile holds the walk no
longer. -/
def execSeqOffDelayExpiry (s : State) : Out :=
  let q := s.seq
  if q.ph ≠ .down ∨ q.frozen ∨ q.slotWff then .next s else
  match slotChannel q q.slot with
  | none => .next (seqDone (walk walkFuel s))
  | some n =>
    let s := releaseCh s n
    let s := if wffEnabled s.seq n then
        { modSeq s (fun q => { q with slotWff := true }) with hub := { s.hub with wff := some (wffChannel s.seq n) } }
      else walk walkFuel s
    .next (seqDone s)

/-- A wait-for-fall check has not passed within its timeout: the channel is flagged, and the walk goes on (R132). -/
def execWffTimeout (s : State) : Out :=
  match wffWaiting s.seq with
  | none => .next s
  | some n =>
    if s.seq.frozen then .next s else
    let s := modSeq s (fun q => modCh q n (fun c => { c with wffFlag := true }))
    .next (seqDone (wffEnd (logEvent s 0x0503 [b8 n])))

/-- SEQ_MIN_OFF has passed (R131, R134, R137): OFF, with waiting settings in force and a latched request served; or a way
out of FAULT_OFF. -/
def execMinOffExpiry (s : State) : Out :=
  if !s.seq.minOffRun then .next s else
  let s := modSeq s (fun q => { q with minOffRun := false })
  let toOff (s : State) : State :=
    let s := modSeq (applyAtOff s) (fun q => { q with ph := .off })
    let on := s.seq.onLatched && upAllowed s && !s.seq.frozen && !s.seq.droneAbortDue
    if on then startUp s else endWaiters s none
  .next (seqDone (match s.seq.ph with
    | .minOff => toOff s
    | .off => onFromZero s
    | .faultOff => leaveFaultOff s
    | _ => s))

/-- 60 s in RUNNING without a fault (R131). -/
def execRetryCountReset (s : State) : Out :=
  .next (if s.seq.ph = .running then modSeq s (fun q => { q with retriesDone := 0 }) else s)

/-! ### Input collapse (R139 to R142) -/

/-- The SEQ_NVM write under way is abandoned for the HOLDUP record: its slot is torn, the record waits again, and CVU2
discards the state of a write (R141, R529). -/
def abandonWrite (s : State) : State :=
  match s.seq.writing with
  | none => modCvu s (fun u => { u with wr := none })
  | some (r, i) => returnPending (modSeq (tornSlot (modCvu s (fun u => { u with wr := none })) i r) (fun q => { q with writing := none })) r

/-- The record of a trip: in HOLDUP mode the one that SEQ_HOLDUP_RECORD selects, written at once; in PULLDOWN mode a compact
one that waits for the next READY, whose capture is the wake event (R99, R140, R141). A second trip while a HOLDUP write is still
under way takes its place: the first record is lost, uncounted (DESIGN CHOICE, log entry 192). -/
def vinfailRecord (s : State) : State :=
  let a := recAt s 0x03 0xFF (pgByte s.seq)
  let f : RecFlags := ⟨s.seq.cfg.holdup, false, s.saf.disch, abortDriven s.seq⟩
  if s.seq.cfg.holdup then
    let c := if s.seq.cfg.snapshot then [] else recordHead s 0xA1 a f
    let snap := if s.seq.cfg.snapshot then some (snapshotRecord s a f) else none
    modSeq (bumpRecSeq (abandonWrite s)) (fun q => { q with holdup := some ⟨c, snap, false⟩ })
  else
    let (r, s) := capture s a f
    wakeSource (storePending s { r with atReady := true }) 11

/-- A new accounting window begins (R371). -/
def newWindow (s : State) : State :=
  if !s.saf.winOpen then s else
  { s with saf := { s.saf with
      winEnergy := 0, winBudget := 0, budgetAt := now s, winStart := now s, winLen := pv s.params 0x0603 } }

/-- VINFAIL falls through its threshold: sequences stop, the record is taken, the Fife halts, the window is closed and the
kept allocation is discarded. In state 15 of DRONE mode the part issues an abort (R148). -/
def execVinfailTrip (s : State) : Out :=
  if !s.rst.vaoGood ∨ s.seq.vinLow then .next s else
  let s := vinfailRecord (modSeq (passPart s) (fun q => { q with vinLow := true, frozen := true }))
  let s := modSeq (raiseFault (newWindow s)) (fun q => { q with droneLow := q.droneLow || abortDriven q })
  .next { s with saf := { s.saf with allocKept := false }, net := { s.net with lldpAlloc := 0 } }

/-- 41 us after the trip: every enable falls, DISCH rises, FAULT_OFF. A command that this ends names the first rail that
keeps the Fife from firing (R123; DEDUCED, log entry 119). -/
def execVinfailRelease (s : State) : Out :=
  if !s.seq.frozen then .next s else
  let s := allOff (assertDisch (modSeq s (fun q => { q with frozen := false })) 3)
  .next (seqDone (endWaiters s (some ((firstBadRail s.seq).getD 0))))

/-- VINFAIL is above its rising threshold: ways out of FAULT_OFF open, and Saffron starts from the minimum (R139, R142). -/
def execVinfailRise (s : State) : Out :=
  if !s.seq.vinLow then .next s else
  let s := modSeq s (fun q => { q with vinLow := false })
  let s := if coreRuns s then updateAllocation s else s
  .next (seqDone (leaveFaultOff s))

/-- The HOLDUP write ends: complete, in any erased slot, the last one too (R150, R273), or cut off and torn (R154). Its
completion is the sequencer's wake event (R99). -/
def execHoldupWriteDone (complete : Bool) (s : State) : Out :=
  match s.seq.holdup with
  | none => .next s
  | some r =>
    let s := modSeq s (fun q => { q with holdup := none })
    let s := match r.snap, erasedSlots s.nvm with
      | some b, _ => if complete then addSnap s b else tornSlot s 8 r
      | none, i :: _ => if complete then writeCompact s i r else tornSlot s i r
      | none, [] => bumpLost s
    .next (startSeqWrite (if complete then wakeSource s 11 else s))

/-! ### DRONE (R143 to R149) -/

/-- The part watches the line for a rising edge: it has released it and has not yet seen it high (R144), on the way to an
abort in whatever phase its own channels are (R149). -/
def droneListens (q : Seq) : Bool :=
  q.cfg.drone && !q.droneLow && !q.droneLine && decide (q.drone ≤ 14) && !q.frozen &&
  (decide (q.ph = .up) && !q.partialRun || q.droneAbortDue)

/-- The abort that the part owed is over: where its own shutdown has ended, it is back in state 0 (R148, R149), and
in state 15 while it runs (DESIGN CHOICE, log entry 178). -/
def droneEnd (q : Seq) : Seq :=
  { q with droneLow := true, droneLine := false, droneAbortDue := false
           drone := if q.ph = .down then 15 else 0 }

/-- A rising edge is recognised: one state on. State 15 is RUNNING, or where an abort waits, its place (R144, R149). -/
def execDroneRise (s : State) : Out :=
  if !droneListens s.seq then .next s else
  let s := modSeq s (fun q => { q with
    droneLine := true, drone := q.drone + 1, state := if q.ph = .up then q.drone + 1 else q.state })
  if s.seq.drone ≠ 15 then .next s
  else if s.seq.ph = .up then .next (seqDone (endWaiters (modSeq s reachRunning) none))
  else .next (seqDone (onFromZero (modSeq s droneEnd)))

/-- 32 AO cycles after recognition the part drives DRONE low, and the state's on-delays start; while an abort waits it
releases the line at once. -/
def execDroneReassert (s : State) : Out :=
  let q := s.seq
  if !q.cfg.drone ∨ !q.droneLine ∨ q.droneLow ∨ q.drone = 0 ∨ q.drone = 15 ∨ q.frozen then .next s
  else if q.droneAbortDue then .next (modSeq s (fun q => { q with droneLine := false }))
  else .next (seqOn (modSeq s (fun q => enterState { q with droneLow := true, droneLine := false } q.state)))

/-- DRONE has stayed low longer than SEQ_DRONE_TIMEOUT in states 1 to 14 (R146); a shutdown that runs already goes on. -/
def execDroneTimeout (s : State) : Out :=
  let q := s.seq
  if !q.cfg.drone ∨ (!(q.ph == .up && !q.partialRun) ∧ !q.droneAbortDue) ∨ q.drone = 0 ∨ q.drone = 15 ∨ q.frozen ∨
      (q.droneLine ∧ !q.droneLow) then .next s else
  let a := recAt s 0x05 0xFF (pgByte s.seq)
  let s := record s a false false
  let s := if q.ph = .up then startFull s else s
  .next (seqDone (onFromZero (modSeq s droneEnd)))

/-- DRONE has been low for 320 AO cycles in state 15, which a partial sequence does not leave (R135): an abort (R147). After
an all-off it cancels automatic retries as an off request does (R131). -/
def execDroneAbort (s : State) : Out :=
  let q := s.seq
  if !q.cfg.drone ∨ q.frozen then .next s
  else if q.drone = 15 ∧ (q.ph = .running ∨ q.partialRun) then
    let s := modSeq s (fun q => { q with droneLine := false })
    let a := recAt s 0x04 0xFF (pgByte s.seq)
    .next (seqDone (offRequest (record s a false (abortDriven s.seq))))
  else if q.ph = .faultOff ∨ q.ph = .minOff then .next (offRequest s)
  else .next s

/-! ### Records (R153, R154, R273) -/

/-- A record's write through SEQ_NVM is complete: Cehole reports it, erases reported slots, and the next one follows, work
that leaves DOZE (R99); an entry that waited for the write may go on (R92). -/
def execFaultRecordWritten (s : State) : Out :=
  match s.seq.writing with
  | none => .next s
  | some (r, i) =>
    if !coreRuns s then .next s else
    let s := modSeq (wakeDoze s) (fun q => { q with writing := none })
    let s := match r.snap with
      | some b => addSnap s b
      | none => s
    .next (afterTicket (startSeqWrite (eraseReported 8 (reportSlot (writeCompact s i r) i))))

end Sys2Proof.Machine
end

