-- ==== Sys2Proof/Machine/HubTick.lean ====
section
/-! DEFINITION. The hub's tick in the order of R478, and the ends of its bus transactions (R462 to R494). -/

namespace Sys2Proof.Machine

/-! ### System work (R361, R362, R469, R371) -/

/-- A system slot's period: NAP has its own (R469). -/
def sysPeriod (nap : Bool) (n : Nat) (e : List Byte) : Nat :=
  if nap then (if n < 3 then 10 else if n < 7 then 100 else 1000) else slotPeriod e

/-- A slot is due in the tick of this number. -/
def slotDue (s : State) (n : Nat) : Bool :=
  let e := hubSlot s.hub n
  let p := if n < 10 then sysPeriod (decide (s.pwr.st = .nap)) n e else slotPeriod e
  slotKind e != 0 && decide (tickNo s % p = slotPhase e)

/-- The ceiling detector releases the charger enable, whoever owns the channel, and holds it: neither Saffron nor the
sequencer raises it meanwhile (R26). -/
def ceilingRelease (s : State) : State :=
  let s := releaseCharger s
  let n := bootCharger s.otp
  modSeq s (fun q => { modCh q n (fun c =>
      if c.en then { c with en := false, pgSeen := false, monitored := false, released := true } else c) with
    held := BitVec.ofNat 8 (2 ^ n) })

/-- The detector lets go: a charger enable that is not Saffron's rises again where the sequencer has it on (R26, R139). -/
def ceilingClear (s : State) : State :=
  if s.seq.held = 0 ∨ s.seq.frozen then s else
  modSeq s (fun q => { q with held := 0, ch := q.ch.mapIdx (fun n c =>
    if q.held.toNat.testBit n && c.released && !saffronCh q n then
      { c with en := true, released := false, pgSeen := pgUsed q n && c.pg, monitored := pgUsed q n && c.pg }
    else c) })

/-- Channel 24 has been converted: the ceiling detector, Saffron's CEILING check of three readings, and the wait for a
reservoir below 1 J (R361, R362, R366). -/
def ceilingCheck (s : State) (code : Nat) : State :=
  let s :=
    if s.saf.tripCode ≤ code then ceilingRelease { s with saf := { s.saf with tripped := true } }
    else if code ≤ 98 * s.saf.tripCode / 100 then ceilingClear { s with saf := { s.saf with tripped := false } }
    else s
  let above := decide (code = 4095 ∨ 102 * (eMax s.otp : Rat) / 100000 < eResOf s.otp code)
  let s := { s with saf := { s.saf with
    overCount := if above then s.saf.overCount + 1 else 0, needLow := s.saf.needLow && !below1J s } }
  if 3 ≤ s.saf.overCount ∧ coreRuns s ∧ s.pwr.st ≠ .nap then seqReq s 0 (fun s => assertDisch s 7) else s

/-- Channels 25 and 26 have been converted: the energy of the time since the last such conversion, in uJ (R371). Both
sense inputs read 2.5 V over 4,096 codes. -/
def addEnergy (s : State) : State :=
  let dt : Nat := if s.pwr.st = .nap then 1000 else 100
  let k : Nat := pv s.params 0x0609 * pv s.params 0x060A * (reading s 25).code.toNat * (reading s 26).code.toNat * dt
  let e : Rat := (k : Rat) * 625 / (100 * 4096 * 4096 * 1000)
  { s with saf := { s.saf with winEnergy := s.saf.winEnergy + e, slotEnergy := s.saf.slotEnergy + e } }

/-- The system slots due in this tick; without VDDA they are lost (R464). -/
def systemSlots (codes : List (BitVec 12)) (s : State) : State :=
  ((List.range 10).filter (slotDue s)).foldl (fun s n =>
    if !s.rst.vddaGood then loseSample s n else
    let ch := slotSource (hubSlot s.hub n)
    let s := putReading s ch (codes.getD ch 0)
    if n = 0 then ceilingCheck s (codes.getD ch 0).toNat else if n = 2 then addEnergy s else s) s

/-- A wait-for-fall check's channel is converted at every tick, and passes below its threshold code (R132). -/
def wffConvert (codes : List (BitVec 12)) (s : State) : State :=
  match s.hub.wff, wffWaiting s.seq with
  | some ch, some n =>
    if !s.rst.vddaGood ∨ s.seq.frozen then s else
    let s := putReading s ch (codes.getD ch 0)
    if (codes.getD ch 0).toNat < wffCode s.seq n then wffEnd s else s
  | _, _ => s

/-- Whether a wake pin's debounced level is active (R102). -/
def pinActive (s : State) (pin : Nat) : Bool := s.pwr.wkLevel.toNat.testBit pin != (pv s.params 0x0407).testBit pin

/-- A WK_LEVEL detector is decided: DISCH at once, the rest at its place in step 3 (R484). -/
def decideWk (s : State) (d : Nat) : State :=
  let up := pinActive s (detSource (hubDet s.hub d))
  if up = (detRunOf s.hub d).active then s else
  modDet (markEdge s d up) d (fun r => { r with due := some up, dueAt := now s })

def wkDets (h : Hub) : List Nat := (List.range 32).filter (fun d => detKind (hubDet h d) == 4)

/-! ### User work (R478) -/

def urgentActions (e : List Byte) : Bool := detAction e 1 || detAction e 3

/-- A slot that feeds a detector whose actions include DISCH or WAKE. -/
def slotUrgent (h : Hub) (n : Nat) : Bool := (fedBy h n).any (fun d => urgentActions (hubDet h d))

def detUrgent (h : Hub) (d : Nat) : Bool := (withCoincidences h 32 [d]).any (fun k => urgentActions (hubDet h k))

/-- The pieces of a tick in the order of R478, from the state at its start; the completions are those handed in. -/
def tickPieces (s : State) (done : List BusDone) : List Piece :=
  let h := s.hub
  let late := (List.range 64).flatMap (fun n =>
    (if n < 10 then ((detsOn h n).filter (fun d => (detRunOf h d).late)).map (fun d => Piece.sys d true)
     else if (slotRunOf h n).deferred then [Piece.slot n true] else []) ++
    (done.filter (fun b => b.late && b.tx.slot == n)).map Piece.done)
  let lateWk := ((wkDets h).filter (fun d => (detRunOf h d).late)).map (fun d => Piece.wk d true)
  let due (urgent : Bool) := (List.range 64).flatMap (fun n =>
    if !slotDue s n then []
    else if n < 10 then
      (if s.rst.vddaGood then ((detsOn h n).filter (fun d => detUrgent h d == urgent)).map (fun d => Piece.sys d false) else [])
    else if slotUrgent h n == urgent then [Piece.slot n false] else [])
  late ++ lateWk ++ due true ++ (wkDets h).map (fun d => Piece.wk d false)
    ++ (done.filter (fun b => !b.late)).map Piece.done ++ due false

/-- A wait-for-fall check converts in this tick (R132). -/
def wffDue (s : State) : Bool := s.hub.wff.isSome && (wffWaiting s.seq).isSome && s.rst.vddaGood && !s.seq.frozen

/-- Converter time that the system work of this tick takes, in us: on ADC-A and ADC-B, or all on the one not lent (R466,
R467); a wait-for-fall conversion takes ADC-A (DESIGN CHOICE, log entry 152). -/
def sysTime (s : State) (wff : Bool) : Nat × Nat :=
  if !s.rst.vddaGood then (0, 0) else
  let due := (List.range 10).filter (slotDue s)
  let onA := (due.filter (fun n => slotConv (hubSlot s.hub n) == 1)).length
  let a := onA + wff.toNat
  let b := due.length - onA
  if s.hub.borrowed = 1 then (0, a + b) else if s.hub.borrowed = 2 then (a + b, 0) else (a, b)

/-- User work, within 624 cycles. It begins with the first READY, which configures it (R463). -/
def userWork (codes lit : List (BitVec 12)) (wff : Bool) (s : State) : State :=
  if !s.hub.reserve then s else
  let s := ((List.range 64).filter (fun n => slotDue s n && slotKind (hubSlot s.hub n) == 2)).foldl dropUnstarted s
  let done := s.hub.done
  let s := setHub s (fun h => { h with done := [] })
  ((tickPieces s done).foldl (runPiece codes lit) (s, ⟨624, false, (sysTime s wff).1, (sysTime s wff).2⟩)).1

/-- The sensor I2C bus as the tick finds it: a transaction that waited for a bus that has become free has started (R476;
DESIGN CHOICE, log entry 104). -/
def busSeen (held : Bool) (s : State) : State :=
  setHub s (fun h => { h with i2cHeld := held, busI2c := startHead held (now s) h.busI2c })

/-- One tick of a running hub. -/
def runTick (codes lit : List (BitVec 12)) (held : Bool) (s : State) : State :=
  let s := busSeen held s
  let s := if s.hub.reserve then (wkDets s.hub).foldl decideWk s else s
  let s := systemSlots codes (restartRecord s)
  let s := userWork codes lit (wffDue s) (wffConvert codes s)
  let s := if s.hub.stopping && (s.hub.busI2c ++ s.hub.busSpi).isEmpty && s.hub.done.isEmpty then
    setHub s (fun h => { h with running := false, stopping := false }) else s
  if coreRuns s && !s.hub.defer.isEmpty then writeDeferred s else s

/-- A tick of 100 us: hub time advances while the hub runs and in every state but HIBERNATE, where RTC_SECOND advances it (log
entry 12); a hub that has stopped still converts for a wait-for-fall check (R462). `held` says that another controller holds
the sensor I2C bus. -/
def execHubTick (codes : Sampled) (held : Bool) (s : State) : Out :=
  if !s.rst.vaoGood ∨ s.pwr.st = .off then .next s else
  let s := if s.pwr.st = .hibernate ∧ !s.hub.running then s else { s with clk := passTime s.clk 100 }
  let s := switchDue s (fun t => decide (5 ≤ t))
  let s := seqDone (if s.hub.running then runTick codes.dark codes.lit held s else wffConvert codes.dark s)
  .next (if coreRuns s then feedTick (calTick (serviceTick s)) else s)

/-! ### Ends of bus transactions (R462, R476) -/

def busOf (h : Hub) (spi : Bool) : List BusTx := if spi then h.busSpi else h.busI2c
def setBus (s : State) (spi : Bool) (q : List BusTx) : State :=
  setHub s (fun h => if spi then { h with busSpi := q } else { h with busI2c := q })

/-- The transaction under way has ended with a STOP, or with its chip select released, and the next starts (R473, R476). -/
def nextOnBus (s : State) (spi : Bool) : State :=
  setHub (setBus s spi (startHead false (now s) ((busOf s.hub spi).drop 1))) (fun h => { h with i2cHeld := spi && h.i2cHeld })

/-- Arbitration is lost: another controller has the bus. The transaction backs off, or it has used HUB_I2C_RETRIES up and its
sample is lost (R476; DEDUCED, log entry 169). -/
def arbLost (s : State) (t : BusTx) (rest : List BusTx) : State :=
  let s := setHub s (fun h => { h with i2cHeld := true })
  if t.retries + 1 < pv s.params 0x0A03 then setBus s false ({ t with started := false, retries := t.retries + 1 } :: rest)
  else setBus (loseSample s t.slot) false rest

/-- A bus transaction ends: with its bytes, which wait for their place in a tick, stamped with the START of the read phase or the
chip select's assertion (R475); with a NACK, which loses the sample; or on lost arbitration, after which it is tried again, until
HUB_I2C_RETRIES losses (R476; DEDUCED, log entry 169). SPI knows neither of the last two. -/
def execHubBusComplete (spi : Bool) (result : BusEnd) (s : State) : Out :=
  match busOf s.hub spi with
  | [] => .next s
  | t :: rest =>
    if !t.started then .next s else
    match result, spi with
    | .frame bytes after, _ =>
      let t := if spi then t else { t with time := t.time + BitVec.ofNat 48 after }
      .next (setHub (nextOnBus s spi) (fun h => { h with done := h.done ++ [⟨t, bytes, false⟩] }))
    | .nack, false => .next (nextOnBus (loseSample s t.slot) spi)
    | .arbLost, false => .next (arbLost s t rest)
    | _, true => .next s

/-- A target stretches SEN_SCL beyond HUB_I2C_TIMEOUT: the transaction ends and its sample is lost (R476). -/
def execHubI2cTimeout (s : State) : Out :=
  match s.hub.busI2c with
  | t :: _ => .next (if t.started then nextOnBus (loseSample s t.slot) false else s)
  | [] => .next s

/-- HUB_I2C_BACKOFF has passed on a free bus since arbitration was lost: the transaction is tried again (R476). -/
def execHubI2cBackoffExpiry (s : State) : Out :=
  match s.hub.busI2c with
  | t :: rest =>
    .next (if !t.started && t.retries != 0 then
      setHub (setBus s false ({ t with started := true, time := now s } :: rest)) (fun h => { h with i2cHeld := false }) else s)
  | [] => .next s

end Sys2Proof.Machine
end

