-- ==== Sys2Proof/Machine/MotionOps.lean ====
section
/-! DEFINITION. Position and the line: the estimator (R391 to R395), where a boundary falls (R398, R416), the cycles of a
line (R399, R425, R428 to R430), what a line fires in carriage mode (R436, R456), and faults of position, yanks and motors
as shared operations (R396, R407, R414). -/

namespace Sys2Proof.Machine

def modEnc (s : State) (n : Nat) (f : Enc → Enc) : State :=
  { s with motion := { s.motion with enc := modAt s.motion.enc n f } }

/-- A difference of wrapping 32-bit values (R389). -/
def diff32 (a b : Word) : Int := (a - b).toInt

/-- The encoder that clocks the lines: ENC0, or ENC1 in carriage mode (R416). -/
def clockEnc (s : State) : Nat := if carriage s then 1 else 0

/-- The estimator is in use: always in carriage mode, and in web mode unless POS_ENC0_ENABLE is 0 (R400). -/
def encUsed (s : State) : Bool := carriage s || pv s.params 0x0702 == 1

/-- The pass in progress runs in reverse (R416). -/
def reversePass (s : State) : Bool :=
  carriage s && pv s.params 0x0751 == 1 && (s.motion.swath * pv s.params 0x0750 + s.motion.pass) % 2 == 1

/-- The direction that the drive commands, as a step of the count. -/
def commandedStep (s : State) : Int := if reversePass s then -1 else 1

def cplOf (s : State) : Nat := pv s.params 0x0705

/-- A ticket is PRINTING. -/
def printingTicket (s : State) : Option (Ticket × Job) :=
  match s.saf.ticket with
  | none => none
  | some t => match jobOf s t.job with
    | none => none
    | some j => if j.st = .printing then some (t, j) else none

/-! ### The estimator (R391 to R395) -/

/-- The period of one count in FIRE cycles at the line rate commanded. -/
def periodNow (s : State) : Rat := (250000000 * 65536 : Nat) / ((s.motion.rate * cplOf s : Nat) : Rat)

/-- The carriage makes a pass, with the paper at a stop (R416). -/
def inPass (s : State) : Bool := carriage s && s.motion.feed == .ticket && s.motion.rate != 0

/-- The paper is at a stop (R404, R416). -/
def paperStopped (s : State) : Bool := s.motion.rate == 0 || inPass s

/-- The commanded period of the encoder that clocks the lines; none while the feed stands, or the carriage does (R416). -/
def commandedPeriod (s : State) : Option Rat :=
  if s.motion.rate = 0 ∨ (carriage s ∧ s.motion.feed ≠ .ticket) then none else some (periodNow s)

/-- The feed is slower than a tenth of f100 (R392, R394). -/
def crawling (s : State) : Bool := decide (10 * s.motion.rate < f100 s)

/-- The estimated period: the mean of the last POS_EST_DEPTH accepted intervals, scaled by the commanded speed now over that
at their midpoint; the commanded period until as many edges have been accepted since the feed started (R391; the midpoint
DEDUCED, log entry 56). -/
def pHat (s : State) (e : Enc) : Option Rat :=
  match commandedPeriod s with
  | none => none
  | some c =>
    let depth := pv s.params 0x0706
    let l := e.intervals.take depth
    if e.edges < depth ∨ l.isEmpty then some c else
    let mean : Rat := (l.map (·.1)).foldl (· + ·) 0 / ((l.length : Nat) : Rat)
    let mid := (l.getD (l.length / 2) (0, s.motion.rate)).2
    some (mean * ((s.motion.rate : Nat) : Rat) / ((mid : Nat) : Rat))

/-- The count moves by an edge. -/
def stepCount (e : Enc) (d : Int) : Enc := { e with count := e.count + BitVec.ofInt 32 d }

/-- The bound of R395 in 1/256 count, rounded up: the difference from the predicted time, over the period. -/
def confirmBound (t t0 p : Rat) : Nat :=
  let d := t - t0 - p
  (((if d < 0 then -d else d) / p) * 256).ceil.toNat

/-- A real edge stamped `t`, of either direction: rejected where it is early (R393), else accepted, with its interval; it
confirms synthetic edges before it (R391, R395). While the feed stands, paper is tracked and not timed (R405). The flag says
that it was rejected. -/
def acceptEdge (s : State) (e : Enc) (d : Int) (t : Rat) : Enc × Bool :=
  match pHat s e with
  | none => (stepCount e d, false)
  | some p =>
    let early := match e.lastT with
      | some t0 => decide (t - t0 < p * 2 / 5)
      | none => false
    if early then ({ e with rejectSince := true }, true) else
    let bound := match e.lastT with
      | some t0 => confirmBound t t0 p
      | none => 0
    ({ stepCount e d with
      lastT := some t, edges := e.edges + 1
      intervals := match e.lastT with
        | some t0 => ((t - t0, s.motion.rate) :: e.intervals).take 16
        | none => e.intervals
      confirm := if e.synthRun = 0 then e.confirm else some (bound, e.extrapLines)
      synthRun := 0, extrapLines := 0 }, false)

/-- A synthetic edge, stamped one period after the last edge, which counts as an interval of one period (R391, R394). -/
def syntheticEdge (s : State) (e : Enc) (p : Rat) : Enc :=
  { stepCount e (commandedStep s) with
    lastT := e.lastT.map (· + p), intervals := ((p, s.motion.rate) :: e.intervals).take 16
    synthRun := e.synthRun + 1, synthSince := true }

/-! ### Boundaries (R398, R400, R416) -/

/-- Where boundary `n` lies from the reference count, in 1/65,536 count: one line and n lines on from the feed's start; in
carriage mode from the scan origin, mirrored and shifted on a reverse pass. -/
def boundaryAt (s : State) (n : Nat) : Int :=
  if !carriage s then (((n + 1) * cplOf s : Nat) : Int)
  else
    let start : Int := ((pv s.params 0x0752 * 65536 : Nat) : Int)
    if !reversePass s then start + ((n * cplOf s : Nat) : Int)
    else start + (((scanCount s : Nat) : Int) - 1 - (n : Int)) * ((cplOf s : Nat) : Int) +
      (pvS s.params 0x0754 * ((cplOf s : Nat) : Int)) / 16

/-- The reference: the count where the feed started, or the scan origin. -/
def referenceCount (s : State) : Word := if carriage s then ((encOf s 1).lastIndex).getD 0 else s.motion.b0

/-- The count from the reference, in the commanded direction. -/
def relCount (s : State) : Int := diff32 (encOf s (clockEnc s)).count (referenceCount s)

/-- Distance still to go to a position from the last accepted count, in 1/65,536 count along a direction. -/
def goTo (s : State) (pos dir : Int) : Int := (pos - relCount s * 65536) * dir

/-- Distance still to go to the boundary of a line. -/
def toGo (s : State) (n : Nat) : Int := goTo s (boundaryAt s n) (commandedStep s)

/-- A position lies at or beyond the next count not yet accepted: synthetic edges have been counted and not accepted
(R392). -/
def beyondAccepted (s : State) (pos dir : Int) : Bool :=
  decide (65536 ≤ goTo s pos dir + 65536 * (encOf s (clockEnc s)).synthRun)

/-- A line with its boundary there, taken in that direction, is fired on extrapolation (R392). -/
def extrapolated (s : State) (pos dir : Int) : Bool := encUsed s && beyondAccepted s pos dir

/-- The steps of the feed, in 1/65,536, at which line `n` starts where they clock the lines: one line and n lines on from the
feed's start (R400). -/
def lineSteps (s : State) (n : Nat) : Nat := (n + 1) * pv s.params 0x0712

/-- The interpolated position has reached boundary `n` at FIRE cycle `t`; below a tenth of f100 no line fires on
extrapolation (R392). Where the feed's steps clock the lines, `steps` of them have been made since it started (R400). -/
def boundaryReached (s : State) (n t steps : Nat) : Bool :=
  let e := encOf s (clockEnc s)
  if !encUsed s then decide (s.motion.feedSteps ≤ steps ∧ lineSteps s n ≤ 65536 * steps)
  else if carriage s ∧ e.lastIndex.isNone then false
  else if crawling s && beyondAccepted s (boundaryAt s n) (commandedStep s) then false
  else match e.lastT, pHat s e with
    | some t0, some p => decide (((toGo s n : Int) : Rat) ≤ (((t : Nat) : Rat) - t0) / p * 65536)
    | _, _ => decide (toGo s n ≤ 0)

/-! ### The cycles of a line, in ns (R425, R428, R429) -/

def latchNs (s : State) : Nat := pv s.params 0x0805 + pv s.params 0x0806
def shiftNs (s : State) : Nat := 265 * pv s.params 0x0802 * 4

/-- The main pulse of a die: MAIN_256 of its HEAD_CAL entry, else HEAD_MAIN_n, by its scale (R426, R427). -/
def mainPulse (s : State) (t : Ticket) (d : Nat) : Nat :=
  let m := match s.cal.head.getD d none with
    | some h => h.main256
    | none => pv s.params (0x0838 + d)
  effMain m (t.lastScale.getD d 256)

/-- A phase lasts as long as that of the die with the longest pulses: all dies fire their phases at the same instants. -/
def phaseNs (s : State) (t : Ticket) : Nat :=
  maxList ((activeDies s).map (fun d => pv s.params (0x0830 + d) + pv s.params (0x0834 + d) + mainPulse s t d)) +
  pv s.params 0x0804

def printNs (s : State) (t : Ticket) : Nat := latchNs s + max (pv s.params 0x0803 * phaseNs s t) (shiftNs s)
def warmPhaseNs (s : State) : Nat := pv s.params 0x0810 + pv s.params 0x0804
def warmNs (s : State) : Nat := latchNs s + max (pv s.params 0x0803 * warmPhaseNs s) (shiftNs s)

def warming (s : State) (t : Ticket) : Bool := (activeDies s).any (fun d => t.warm.getD d false)

/-- When the line of a boundary at cycle `t` starts, and whether its record carries LATE; none where a boundary already
waits, which is a position fault (R399, R430). -/
def lineStart (s : State) (t : Nat) : Option (Nat × Bool) :=
  let f := s.fife
  match f.started with
  | none => some (t, false)
  | some t0 =>
    if t < t0 then none
    else if t < f.printEnd then some (f.lineEnd, true)
    else if t < f.lineEnd then
      let first := f.printEnd + latchNs s / 4
      let ph := max 1 (warmPhaseNs s / 4)
      let phaseEnd := if t < first ∨ first + pv s.params 0x0803 * ph ≤ t then t else first + ((t - first) / ph + 1) * ph
      let latch := max (t + 2) (max phaseEnd (f.printEnd + (pv s.params 0x0805 + shiftNs s) / 4))
      some (latch - 2, decide (t + 2 < latch))
    else some (t, false)

/-- The cycles at which a line that starts at `t0` ends its print cycle, and ends. -/
def lineEnds (s : State) (t : Ticket) (t0 : Nat) : Nat × Nat :=
  let p := t0 + 2 + printNs s t / 4
  (p, if warming s t then p + warmNs s / 4 else p)

/-! ### Carriage mode: what a pass fires at one position (R436, R456) -/

/-- The scan position that a column fires at tick `k`: offsets count positions, mirrored on reverse passes. -/
def scanPosition (s : State) (k off : Nat) : Option Nat :=
  let n := scanCount s
  if k < off ∨ n ≤ k - off then none else some (if reversePass s then n - 1 - (k - off) else k - off)

/-- The nozzles that one die fires at tick `k` of the pass: row position q fires line L_s + q, in the pass that R456 gives
the dot. A swath is POS_PASS_ADVANCE lines high (DEDUCED, log entry 161). -/
def firedInPass (s : State) (t : Ticket) (j : Job) (k die : Nat) : List Nat :=
  let first := s.motion.swath * swathLines s
  let bm := match t.maps.find? (fun m => m.key == die) with
    | some m => m
    | none => bandMap s die
  (List.range 4).flatMap (fun c =>
    match scanPosition s k (dieOffset s die + colOffset s die c) with
    | none => []
    | some x =>
      let rows := (List.range (swathLines s)).filter (fun p =>
        let l := first + p
        let (bits, ov) := rowDots j (die / 2) l
        decide (l < ticketLines t j) && bits.testBit x && ditherT l x * pv s.params 0x0750 / 256 == s.motion.pass &&
        (dieShare s die l (2 ^ p) ov).testBit p)
      (rows.filterMap (fun p => match diePos s die p with
        | some q => if columnFires bm die c (first + p) q then some (nozIndex die c (q / 2)) else none
        | none => none)))

/-- What the line or position fires on every active die. -/
def firedNow (s : State) (t : Ticket) (j : Job) (n : Nat) : List Nat :=
  let j' := { j with lines := ticketLines t j }
  (activeDies s).flatMap (fun d => if carriage s then firedInPass s t j n d else firedAt s t j' n d)

/-! ### The record of a line and its fires (R397, R399, R437) -/

/-- The line record of line `n` (R397), and what its writing settles: flags start again, and POS_MAX_ERR keeps the largest
bound. -/
def writeRecord (s : State) (w : LateLine) (late : Bool) : State :=
  let k := clockEnc s
  let e := encOf s k
  let ext := extrapolated s w.pos w.dir
  let (err, lines) := match e.confirm with
    | some (x, l) => (min 255 x, min 255 l)
    | none => (0, 0)
  let r : LineRec :=
    { line := s.fife.lineCnt, tFire := BitVec.ofNat 32 w.start, enc := e.count
      flags := b8 (maskOf [ext, e.synthSince, e.rejectSince, late, w.restart, e.confirm.isSome])
      step := b8 w.step, err := b8 err, extrap := b8 lines }
  let s := modEnc s k (fun e => { e with
    synthSince := false, rejectSince := false, confirm := none, extrapLines := if ext then e.extrapLines + 1 else e.extrapLines })
  { s with
    fife := { s.fife with lastRec := some r }
    motion := { s.motion with maxErr := BitVec.ofNat 16 (max s.motion.maxErr.toNat err) } }

/-- A line fires: its record, the Fife's counts, the line counters and what the job counts (R389, R397, R437). -/
def fireLine (s : State) (w : LateLine) (late : Bool) : State :=
  let s := writeRecord s w late
  let f := countFires s.fife w.fired
  let s := { s with
    fife := { f with lineCnt := f.lineCnt + 1, linesSinceUpdate := f.linesSinceUpdate + 1, waiting := none }
    motion := { s.motion with sinceScan := s.motion.sinceScan + 1, sinceSpit := s.motion.sinceSpit + 1 } }
  match s.saf.ticket with
  | none => s
  | some t => if carriage s then s else
    modJob s t.job (fun j => { j with fired := max j.fired (min (w.n + 1) (ticketLines t j)) })

/-- The line that waits fires, as the one before it has ended (R399): its record says what is so at its start. -/
def settleWaiting (s : State) : State :=
  match s.fife.waiting with
  | some w => fireLine s w true
  | none => s

/-- At a FIRE cycle: a line whose start lies before it has fired. -/
def settleLine (s : State) (t : Rat) : State :=
  match s.fife.waiting with
  | some w => if ((w.start : Nat) : Rat) < t then fireLine s w true else s
  | none => s

/-! ### Yanks, position faults, the end of an auxiliary motion -/

/-- An event of the ticket being printed carries its context and job. -/
def logTicket (s : State) (code : Nat) (data : List Byte) : State :=
  match printingTicket s with
  | some (_, j) => logFor s code data (b8 j.ctx.val) j.id
  | none => logEvent s code data

/-- A yank (R407): logged with reason and line; the feed stops at once, and the ticket is INTERRUPTED with cause 0x02. -/
def yank (s : State) (reason : Nat) : State :=
  afterTicket (haltTicket (logTicket s 0x0701 (b8 reason :: b32 s.fife.lineCnt.toNat)) 2)

/-- The ticket's fire counters are stored where they lag, and the ticket is over (R265). -/
def ticketOver (s : State) : State :=
  storeFires { s with saf := { s.saf with ticket := none }, fife := foldDeltas s.fife } false

/-- A ticket on its way to the blade is interrupted by a fault of the feed; it printed in full, so its reprint action is 0
(R411, R414; for a position fault DEDUCED, log entry 142). -/
def bladeFails (s : State) (cause : Nat) : State :=
  match s.saf.ticket with
  | none => s
  | some t =>
    let cut := match jobOf s t.job with
      | some j => j.cut
      | none => 0
    let s := ticketOver (interruptJob s t.job cause true)
    let s := if cause == 3 then slowDown s .halt else stopFeed s .idle
    { s with motion := { s.motion with
      waitStill := s.motion.waitStill || cause == 3
      stubs := s.motion.stubs ++ [(stubCut cut, pv s.params 0x0720, cause == 3)] } }

/-- What a position fault does to the feed that met it, which decelerates: a ticket is INTERRUPTED with cause 0x03, and a stub's
feed is run again, with a resync feed after it (R396, R408). -/
def faultFeed (s : State) : State :=
  if (printingTicket s).isSome then haltTicket s 3 else
  match s.motion.feed with
  | .toBlade => bladeFails s 3
  | .stub => slowDown { s with motion := { s.motion with
      waitStill := true
      stubs := match s.motion.stubs with
        | (c, n, _) :: l => (c, n, true) :: l
        | [] => [] } } .halt
  | .resync => slowDown s .halt
  | f => slowDown s f

/-- A position fault (R396): logged with encoder and line, and uncleared until R408 clears it; no line after the one in
progress fires. -/
def positionFault (s : State) : State :=
  let s := logTicket s 0x0702 (b8 (clockEnc s) :: b32 s.fife.lineCnt.toNat)
  afterTicket (faultFeed { s with motion := { s.motion with posFault := true }, fife := { s.fife with waiting := none } })

/-! ### Motor faults (R414) -/

/-- What a driver fault does to the motor's user: the ticket, a cut, a stub or resync feed, a head-energy calibration. A
running FEED, SERVICE_RUN or NOZ_SCAN ends with its own row, whose operands hold what it had done (log entry 61). -/
def faultUser (s : State) (m : Nat) : State :=
  if m = 1 then cutFails s
  else if m = 2 ∧ !carriage s then
    let s := { s with motion := { s.motion with sledPos := none, sledPath := [] } }
    if headEnergyRuns s then endCal s 0x0003 2 else s
  else if (printingTicket s).isSome then haltTicket s 5
  else if m = 0 then
    match s.motion.feed with
    | .toBlade => bladeFails s 5
    | .resync => stopFeed { s with motion := { s.motion with resyncDue := true } } .idle
    | .command => stopFeed s .command
    | _ => stopFeed s .idle
  else s

/-- Motor `m` fails: it is disabled and its _EN falls, the fault is logged, and its user is interrupted (R414). -/
def motorFails (s : State) (m : Nat) : State :=
  let bit := BitVec.ofNat 3 (2 ^ m)
  let s := logTicket s 0x0703 [b8 m]
  faultUser { s with motion := { s.motion with disabled := s.motion.disabled ||| bit, en := s.motion.en &&& ~~~ bit } } m

/-- The driver faults that assert as the core starts to run (R414). -/
def findFaults (s : State) : State :=
  ((List.range 3).filter (fun m => s.motion.flt.toNat.testBit m && !s.motion.disabled.toNat.testBit m)).foldl motorFails s

end Sys2Proof.Machine
end

