-- ==== Sys2Proof/Machine/MotionCmd.lean ====
section
/-! DEFINITION. Events of position, the line clock, the feed, the cutter, the sled and the motors (R387 to R417). -/

namespace Sys2Proof.Machine

/-! ### Encoders -/

/-- The place of an encoder's levels in the forward sequence (0,0), (1,0), (1,1), (0,1) (R388). -/
def quadPlace (a b : Bool) : Nat :=
  match a, b with
  | false, false => 0
  | true, false => 1
  | true, true => 2
  | false, true => 3

def satInc32 (w : Word) : Word := if w = 0xFFFFFFFF then w else w + 1

def countReject (s : State) : State := { s with motion := { s.motion with rejectCount := satInc32 s.motion.rejectCount } }

/-- The yank monitor sees every legal edge of ENC0, rejected or not (R406): three fast forward edges in a row, four counts
back from the furthest position, four forward from where the paper stopped, and four either way in a pass of the carriage. The
answer is YANK's reason. -/
def yankWatch (s : State) (e : Enc) (forward : Bool) (t : Rat) : Enc × Option Nat :=
  if inPass s ∧ (4 ≤ diff32 e.raw s.motion.passEnc ∨ 4 ≤ diff32 s.motion.passEnc e.raw) then (e, some 2)
  else if forward then
    let fast := match e.lastRawT with
      | some t0 => !paperStopped s && decide (t - t0 < periodNow s * 2 / 5)
      | none => false
    let run := if fast then e.fastRun + 1 else 0
    let e' := { e with
      lastRawT := some t, fastRun := run, furthest := if 0 < diff32 e.raw e.furthest then e.raw else e.furthest }
    (e', if 3 ≤ run then some 1 else if paperStopped s ∧ 4 ≤ diff32 e.raw e.stopPos then some 2 else none)
  else ({ e with lastRawT := none, fastRun := 0 }, if 4 ≤ diff32 e.furthest e.raw then some 2 else none)

/-- A legal transition of encoder `n`, stamped `t` (R388, R391, R393). With POS_ENC0_ENABLE at 0 the part watches for no yank, in
carriage mode neither (R400; DEDUCED, log entry 182). -/
def legalEdge (s : State) (n : Nat) (e : Enc) (forward : Bool) (t : Rat) : State :=
  let d : Int := if forward then 1 else -1
  let s := settleLine s t
  let e := { encOf s n with a := e.a, b := e.b, raw := e.raw + BitVec.ofInt 32 d, fwd := forward }
  let clocks := decide (n = clockEnc s) && encUsed s
  let (e, rejected) := if clocks then acceptEdge s e d t else (stepCount e d, false)
  let watched := decide (n = 0) && (printingTicket s).isSome && pv s.params 0x0702 != 0
  let (e, why) := if watched then yankWatch s e forward t else (e, none)
  let s' := modEnc s n (fun _ => e)
  let s' := if rejected then countReject s' else s'
  let s' := if n = 0 then auxFollow s' else s'
  match why with
  | some r => yank s' r
  | none => s'

/-- Cycles by which an edge's stamp precedes its decoding: the filter, and the 3 cycles of ENC_IN (R387). -/
def edgeDelay (s : State) : Nat := pv s.params 0x0704 + 3

/-- New levels on an encoder's A and B inputs, which have stood for `t.held` cycles: a level that has not stood for
POS_ENC_FILTER does not pass; the decoder meets the change at FIRE cycle `t.cycle` and stamps it without the delay (R387, R388).
While the core does not run the levels are kept, for they are what the decoder finds at the release (R88; log entry 146). -/
def execEncoderEdge (enc : Fin 2) (a b : Bool) (t : EncSeen) (s : State) : Out :=
  let e := encOf s enc.val
  let e' := { e with a := a, b := b }
  if !coreRuns s then .next (modEnc s enc.val (fun _ => e')) else
  let moved := (quadPlace a b + 4 - quadPlace e.a e.b) % 4
  if moved = 0 ∨ t.held < pv s.params 0x0704 then .next s
  else
    let stamp : Rat := ((t.cycle : Nat) : Rat) - ((edgeDelay s : Nat) : Rat)
    if moved = 2 then
      .next (countReject (modEnc (settleLine s stamp) enc.val (fun e => { e with a := a, b := b, rejectSince := true })))
    else .next (legalEdge s enc.val e' ((moved == 1) != (pv s.params 0x0703).testBit enc.val) stamp)

/-- POS_LATE_LIMIT x the period has passed since the last edge without another, at a tenth of f100 or faster: a synthetic
edge; the third in a row is a position fault (R394, R396). Before the first edge since the feed started there is none to
count from (DEDUCED, log entry 143). -/
def execLateLimitExpiry (s : State) : Out :=
  let n := clockEnc s
  if !encUsed s ∨ crawling s then .next s else
  match pHat s (encOf s n), (encOf s n).lastT with
  | some p, some t0 =>
    let s := settleLine s (t0 + p * ((pv s.params 0x0707 : Nat) : Rat) / 100)
    let e := syntheticEdge s (encOf s n) p
    let s := { modEnc s n (fun _ => e) with motion := { (modEnc s n (fun _ => e)).motion with
      synthCount := satInc32 s.motion.synthCount, synthInResync := true } }
    .next (if e.synthRun = 3 then positionFault s else if n = 0 then auxFollow s else s)
  | _, _ => .next s

/-- A level on an index input, which has stood for `t.held` cycles (R387). A rising edge while the paper moves forward: in web
mode, with POS_INDEX_COUNTS set, the count since the last one is checked (R390); in carriage mode ENC1_I marks the scan origin
(R416). A line that has started before a fault has fired (R396, R397). -/
def execIndexEdge (enc : Fin 2) (level : Bool) (t : EncSeen) (s : State) : Out :=
  let e := encOf s enc.val
  let s1 := modEnc s enc.val (fun e => { e with i := level })
  let mark (s : State) : State := modEnc s enc.val (fun e => { e with lastIndex := some e.count })
  if !coreRuns s then .next s1
  else if level = e.i ∨ t.held < pv s.params 0x0704 then .next s
  else if !level ∨ (!e.fwd ∧ enc.val = 0) then .next s1
  else if enc.val = 1 then .next (if carriage s then mark s1 else s1)
  else
    let want := pv s.params 0x0708
    if carriage s ∨ !encUsed s ∨ want = 0 then .next s1 else
    let off := match e.lastIndex with
      | some c => let d := diff32 e.count c - (want : Int); decide (2 < d ∨ d < -2)
      | none => false
    .next (if off && (printingTicket s).isSome then
      positionFault (settleLine (mark s1) (((t.cycle : Nat) : Rat) - ((edgeDelay s : Nat) : Rat))) else mark s1)

/-! ### The line clock -/

/-- Band `b` begins: its BAND parameters, scales and warming are latched, its step comes into force and is posted, and
Saffron decides the bands of its lead (R252, R375, R380, R426, R428). -/
def beginBand (s : State) (t : Ticket) (j : Job) (b : Nat) : State :=
  let s := latchBandNow s
  let step := t.admitted.getD b t.step
  let t := { t with step := step, lastScale := scalesNow s t.lastScale, warm := warmNow s t.warm }
  let t' := decideOn s j t (b + 1)
  let s := postBand { s with saf := { s.saf with ticket := some t' } } step j.id
  if t'.paused && !t.paused then setHold s j.id (holdCode s) else s

/-- The bands whose first line enters a die's column-delay buffers at clock line `n` take the map as it stands (R451). -/
def snapMaps (s : State) (t : Ticket) (n : Nat) : Ticket :=
  let due := if carriage s then (if n = 0 ∧ s.motion.pass = 0 then activeDies s else [])
    else (activeDies s).filter (fun d => decide (dieOffset s d ≤ n) && (n - dieOffset s d) % 64 == 0)
  let key (d : Nat) : Nat := if carriage s then d else 4 * ((n - dieOffset s d) / 64) + d
  { t with maps := t.maps.filter (fun m => !due.any (fun d => key d == m.key)) ++ due.map (fun d => bandMap s (key d)) }

/-- Bands that no column will fire again free their store space (R23, R434). -/
def freeBands (s : State) (t : Ticket) (id n : Nat) : State :=
  let gone (b : Nat) : Bool := bandFired s b (n + 1)
  let s := modJob s id (fun j => { j with bands := j.bands.mapIdx (fun b x => if gone b then none else x) })
  { s with saf := { s.saf with ticket := some { t with maps := t.maps.filter (fun m => carriage s || !gone (m.key / 4)) } } }

/-- The stopping rule at the boundary of line `n` (R404), and the hard die limit, which treats every margin as zero: the
feed decelerates from here, and the ticket waits for R381 (R433). D_stop has no effect within a pass of the carriage, which
stops at its end (R417). -/
def stopRule (s : State) (t : Ticket) (j : Job) (n : Nat) : State :=
  let fresh := (hotDies s).filter (fun d => !s.fife.overTemp.getD d false)
  let s := fresh.foldl (fun s d =>
    logTicket s 0x0802 [b8 d, BitVec.ofInt 8 ((dieTemp s d).getD 0).floor]) s
  let s := { s with fife := { s.fife with overTemp := (List.range 4).map (fun d => (hotDies s).contains d) } }
  let d := dStop s t.step
  let held := heldUpTo s t j
  if !(hotDies s).isEmpty then
    let stop := if carriage s then t.stopAt
      else some (min (t.stopAt.getD (n + max 1 (d - 2))) (min (held.getD (clockLines s t j)) (n + max 1 (d - 2))))
    setHold { s with saf := { s.saf with ticket := some { t with stopAt := stop, paused := true, hot := true } } } j.id
      (BitVec.ofNat 16 stHeldEnergy)
  else if carriage s ∨ t.stopAt.isSome then s
  else match held with
    | some h => if h ≤ n + d + 1 then { s with saf := { s.saf with ticket := some { t with stopAt := some h } } } else s
    | none => s

/-- Line `n` of the ticket begins at a cycle: the Fife's times for it, and the ticket's place (R398, R430). -/
def startLine (s : State) (t : Ticket) (n start : Nat) : State :=
  let (pe, le) := lineEnds s t start
  { s with
    fife := { s.fife with started := some start, printEnd := pe, lineEnd := le }
    saf := { s.saf with ticket := some { t with clockLine := n + 1, restart := false } } }

/-- A line fires at its boundary, or waits for the line before it (R399). -/
def boundaryLine (s : State) (t : Ticket) (j : Job) (n start : Nat) (late : Bool) : State :=
  let w : LateLine :=
    { n, start, pos := boundaryAt s n, dir := commandedStep s, restart := t.restart, step := t.step, fired := firedNow s t j n }
  let s := startLine s t n start
  if late then { s with fife := { s.fife with waiting := some w } } else fireLine s w false

/-- The feed has come to rest before the line at which it was to stop: the stop position is that line's boundary (R404, R406;
DESIGN CHOICE, log entry 162). -/
def comeToRest (s : State) (stopAt : Option Nat) (n : Nat) : State :=
  match stopAt with
  | some k =>
    if k ≤ n + 1 then
      let left := if encUsed s then max 0 (toGo s (n + 1) / 65536) else 0
      let s := { s with motion := { s.motion with rate := 0 } }
      modEnc s 0 (fun e => { e with stopPos := e.raw + BitVec.ofInt 32 left })
    else s
  | none => s

/-- A pass has ended, and the carriage stops (R417): the next pass, or the next swath after the feed of POS_PASS_ADVANCE lines,
or the end of the ticket (R416). A pass starts only when every band of its swath is admitted, and its first line follows a stop
(R397). -/
def endPass (s : State) (t : Ticket) (j : Job) : State :=
  let lastPass := decide (pv s.params 0x0750 ≤ s.motion.pass + 1)
  let swath := if lastPass then s.motion.swath + 1 else s.motion.swath
  let s := { s with motion := { s.motion with pass := if lastPass then 0 else s.motion.pass + 1, swath := swath, rate := 0, slow := none } }
  let t := { t with clockLine := 0, restart := true, stopAt := some 0 }
  let s := if lastPass then modJob s j.id (fun j => { j with fired := min (ticketLines t j) (swath * swathLines s) }) else s
  if ticketLines t j ≤ swath * swathLines s then
    endFiring { s with saf := { s.saf with ticket := some t } } ((jobOf s j.id).getD j)
  else
    let s := freeBands s t j.id 0
    let s := if lastPass then auxStart s .advance (pv s.params 0x0755) else s
    let t' := if lastPass then decideOn s j t 0 else t
    let s := if t'.paused && !t.paused then setHold s j.id (holdCode s) else s
    { s with saf := { s.saf with ticket := some t' } }

/-- The position crosses the boundary of the next line at FIRE cycle `t`, `steps` steps of M0 after the feed started (R398 to
R404, R430): the line fires where every active die holds it, the head ports are enabled and nothing halts the Fife. A boundary
crossed once does not fire again, for the next line is always the one after the highest fired. -/
def execLineBoundary (t steps : Nat) (s : State) : Out :=
  match printingTicket s with
  | none => .next s
  | some (tk, j) =>
    let n := tk.clockLine
    let held := match heldUpTo s tk j with
      | some h => decide (n < h)
      | none => true
    let going := match tk.stopAt with
      | some k => decide (n < k)
      | none => true
    if s.motion.rate = 0 ∨ s.motion.feed ≠ .ticket ∨ s.saf.disch ∨ headEnable s = 0 ∨ s.fife.hisGate ∨ s.fife.fault ∨
        !held ∨ !going ∨ clockLines s tk j ≤ n ∨ !boundaryReached s n t steps then .next s
    else match lineStart s t with
      | none => .next (positionFault s)
      | some (start, late) =>
        let s := settleWaiting s
        let first := minOffset s
        let web := !carriage s
        let begins := if web then decide (first ≤ n) && (n - first) % 64 == 0 && decide ((n - first) / 64 < totalBands j)
          else n == 0
        let s := if begins then beginBand s tk j (if web then (n - first) / 64 else nextBand s tk) else s
        let tk := s.saf.ticket.getD tk
        let tk := snapMaps s tk n
        let s := stopRule { s with saf := { s.saf with ticket := some tk } } tk j n
        let tk := s.saf.ticket.getD tk
        let s := { s with motion := { s.motion with
          rate := lineRate s tk n, feedSteps := if encUsed s then s.motion.feedSteps else steps } }
        let s := boundaryLine s tk j n start late
        let tk := s.saf.ticket.getD tk
        let j := (jobOf s j.id).getD j
        if clockLines s tk j ≤ n + 1 then
          .next (if web then endFiring s j else endPass s tk j)
        else .next (comeToRest (freeBands s tk j.id n) tk.stopAt n)

/-- Every 64 clock lines Cehole adds the Fife's deltas into the live counts (R437). -/
def execFireCountUpdate (s : State) : Out :=
  let s := settleWaiting s
  .next (if coreRuns s && decide (64 ≤ s.fife.linesSinceUpdate) then { s with fife := foldDeltas s.fife } else s)

/-! ### Stubs, cutter, homing -/

/-- ENC0 has shown no edge for 100 ms: the stub may be cleared (R408). -/
def execEncStillExpiry (s : State) : Out :=
  .next (if s.motion.waitStill then afterTicket { s with motion := { s.motion with waitStill := false } } else s)

/-- The resync feed ends: without a synthetic edge in it the position fault is cleared (R408). -/
def execResyncFeedDone (s : State) : Out :=
  if s.motion.feed ≠ .resync then .next s else
  .next (afterTicket (stopFeed { s with motion := { s.motion with
    posFault := s.motion.posFault && s.motion.synthInResync } } .idle))

/-- A finished ticket whose kind of cut is none is over at the blade; the state it ends in (R298). -/
def endTicketJob (s : State) (j : Job) : State :=
  afterTicket (finishJob (ticketOver s) j.id (if j.cancelling then .cancelled else .done) 0)

/-- A cut starts with the feed at rest: M1 steps forward its kind's stroke, and leaves home (R401, R411). -/
def startCut (s : State) (kind : Nat) (stub : Bool) : State :=
  setCutHome (raiseEn { stopFeed s .idle with motion := { (stopFeed s .idle).motion with
    cutting := some (kind, stub), stroke := pv s.params (if kind = 2 then 0x0722 else 0x0721) } } 2) false

/-- The feed has stopped at the blade, POS_CUT_OFFSET lines on: the cutter's cycle starts (R411), for a FEED where it is to
cut, which is a full cut (log entry 163). While DISCH is asserted or
M1 is disabled it does not (R414, R415). -/
def execCutPositionReached (s : State) : Out :=
  if s.saf.disch ∨ s.motion.disabled.toNat.testBit 1 ∨ s.motion.cutting.isSome then .next s else
  let s := settleWaiting s
  match s.motion.feed, s.saf.ticket, s.motion.stubs with
  | .stub, _, (kind, _, _) :: _ => .next (startCut s kind true)
  | .toBlade, some t, _ =>
    match jobOf s t.job with
    | none => .next s
    | some j =>
      if j.cut = 0 ∧ !j.cancelling then .next (endTicketJob (stopFeed s .idle) j)
      else .next (startCut s (stubCut j.cut) false)
  | .command, _, _ => .next (match running s 0x0706 with
    | some a => if (byteAt a.payload 2).toNat.testBit 0 then startCut s 1 false else s
    | none => s)
  | _, _, _ => .next s

/-- The cut that runs is over, with CUT_HOME active (R411): the stub is gone, with its resync feed to follow (R408), or the job
is DONE or CANCELLED and the next ticket is chosen. -/
def endCut (s : State) : State :=
  let s1 := setCutHome { s with motion := { s.motion with cutting := none, stroke := 0 } } true
  match s.motion.cutting with
  | none => s
  | some (_, true) =>
    let resync := match s.motion.stubs with
      | (_, _, r) :: _ => r
      | [] => false
    afterTicket { s1 with motion := { s1.motion with
      stubs := s.motion.stubs.drop 1, resyncDue := s.motion.resyncDue || resync } }
  | some (_, false) =>
    match s.saf.ticket with
    | none => afterTicket s1
    | some t => match jobOf s t.job with
      | none => afterTicket s1
      | some j => endTicketJob s1 j

/-- M1 stands, for DISCH is asserted or M1 disabled (R414, R415). -/
def cutterStands (s : State) : Bool := s.saf.disch || s.motion.disabled.toNat.testBit 1

/-- A level on CUT_HOME, filtered (R413). Active, it ends the cut that runs (R411), not one that M1 has stopped in. -/
def execCutHomeSeen (level : Bool) (s : State) : Out :=
  let s := { s with motion := { s.motion with cutIn := level } }
  .next (if cutHome s && !cutterStands s then endCut s else s)

/-- CUT_HOME is not active within MOT_CUT_HOME_TIMEOUT: the cut fails, or the homing does (R411, R412). -/
def execCutHomeTimeout (s : State) : Out :=
  if s.motion.cutting.isSome then .next (afterTicket (cutFails s))
  else .next (if s.motion.homingCut then setCutHome { s with motion := { s.motion with homingCut := false } } false else s)

/-- The cutter's homing is over (R412). -/
def endCutHoming (s : State) : State :=
  if s.motion.homingCut then afterTicket { s with motion := { s.motion with homingCut := false } } else s

/-- The sled's homing is over; it then moves to MOT_SLED_PARK (R412). -/
def endSledHoming (s : State) : State :=
  if !s.motion.homingSled then s else
  let s := uncap s
  afterTicket (sledTo { s with motion := { s.motion with homingSled := false } } (pv s.params 0x0732))

/-- A level on a home input, filtered (R413). Active, it ends the homing of its motor: 0 the cutter, 1 the sled (R412). While
DISCH is asserted or the motor is disabled there is none to end (R414, R415), and outside RUN the motors stand (R91). -/
def execHomingDone (m : Fin 2) (level : Bool) (s : State) : Out :=
  let s := { s with motion := if m.val = 0 then { s.motion with cutIn := level } else { s.motion with sledIn := level } }
  if !coreRuns s ∨ s.pwr.st ≠ .run ∨ s.saf.disch ∨ s.motion.disabled.toNat.testBit (m.val + 1) ∨ !homeActive s m.val level then .next s
  else .next (if m.val = 0 then endCutHoming s else endSledHoming s)

/-- The sled does not reach home in time: its position stays unknown, and the paper stays held (R412, R415). -/
def execSledHomeTimeout (s : State) : Out :=
  .next (if s.motion.homingSled then { s with motion := { s.motion with homingSled := false, sledPos := none } } else s)

/-! ### Motors (R401, R414) -/

/-- A driver fault asserts: the motor fails. One that asserts where the core does not run is found at READY or warm-ready
(R414). -/
def execMotorFault (m : Fin 3) (s : State) : Out :=
  let bit := BitVec.ofNat 3 (2 ^ m.val)
  let s := { s with motion := { s.motion with flt := s.motion.flt ||| bit } }
  if !coreRuns s ∨ s.motion.disabled.toNat.testBit m.val then .next s else
  .next (afterTicket (motorFails (wakeDoze s) m.val))

/-- _FLT has been released for 100 ms: the motor may run, and the part homes under R412, which is work in DOZE; in NAP the homing
waits for RUN (R91, R99). -/
def execMotorFltRelease (m : Fin 3) (s : State) : Out :=
  let bit := BitVec.ofNat 3 (2 ^ m.val)
  let s := { s with motion := { s.motion with flt := s.motion.flt &&& ~~~ bit } }
  if !s.motion.disabled.toNat.testBit m.val then .next s else
  let s := { s with motion := { s.motion with
    disabled := s.motion.disabled &&& ~~~ bit, homingCut := true, homingSled := true, sledPos := none } }
  .next (if coreRuns s then raiseEn (wakeDoze s) 6 else s)

/-- The sled is on its way, or about to be: a scan or a HEAD_ENERGY has begun, or a routine, which neither waits nor fires (DESIGN CHOICE,
log entry 204); DISCH halts each (R447, R504). -/
def sledUnderWay (s : State) : Bool :=
  !s.saf.dischHit && match s.noz.service, s.noz.scan with
  | some v, _ => v.firing == 0 && v.wait.isNone
  | none, some v => v.wait.isNone
  | none, none => !s.motion.sledPath.isEmpty

/-- The motor's step generator is at rest: M1 and M2 while DISCH is asserted or they are disabled too (R414, R415). -/
def motorStopped (s : State) (m : Nat) : Bool :=
  if m = 0 then s.motion.rate == 0 && (printingTicket s).isNone
  else if m = 1 then cutterStands s || (s.motion.cutting.isNone && !s.motion.homingCut)
  else !inPass s && ((!s.motion.homingSled && !sledUnderWay s) || s.saf.disch || s.motion.disabled.toNat.testBit 2)

/-- A motor has been stopped for 500 ms: its _EN goes low, but M0's not while a ticket is PRINTING (R401). -/
def execMotorEnIdleExpiry (m : Fin 3) (s : State) : Out :=
  .next (if motorStopped s m.val then
    { s with motion := { s.motion with en := s.motion.en &&& ~~~ (BitVec.ofNat 3 (2 ^ m.val)) } } else s)

end Sys2Proof.Machine
end

