-- ==== Sys2Proof/Machine/Ready.lean ====
section
/-! DEFINITION. Cehole's start-up to READY and the warm-ready after NAP: what it loads, reports and opens (R79, R100, R118,
R154, R167, R257, R265, R270 to R273, R321, R460, R463, R487, R505, R514, R538, R541), and the idle entry to DOZE. -/

namespace Sys2Proof.Machine

/-! ### Alarms (R166, R167) -/

/-- An alarm is logged and notified to every context holding SECURITY: region, word and kind. -/
def raiseAlarm (s : State) (region word kind : Nat) : State :=
  let s := logEvent s 0x0111 [b8 region, b8 word]
  notifyRight s rSecurity 0x8005 [b8 region, b8 word, b8 kind, 0]

/-- LIFECYCLE entries with a BAD copy, then the sealed regions whose digest fails; the regions' reactions stand until VAO
good clears. -/
def readAlarms (s : State) : State :=
  let s := (lifecycleAlarmWords s.otp).foldl (fun s w =>
    raiseAlarm { s with otp := { s.otp with alarms := s.otp.alarms ||| 1 } } 0 w 1) s
  let s := [3, 4, 5, 7].foldl (fun s r =>
    let s := explicit (explicit s .crc32c (digestBytes s.otp r)) .crc32 (digestBytes s.otp r)
    if !digestBad s.otp r then s else
    let d := (digestWord r).getD 0
    let s := { s with otp := { s.otp with alarms := s.otp.alarms ||| BitVec.ofNat 8 (2 ^ r) } }
    raiseAlarm s r d (if otpCond s.otp d = .bad then 1 else 0)) s
  deriveTrip s

/-! ### Patch, parameters, log, fault slots -/

/-- The patch that verifies against KEYDIG slot 0. -/
def patchVerified (o : Otp) (p : Option (List Byte)) : Option (List Byte) :=
  match p, keydig o 0 with
  | some b, some k => if Config.patchVerifies b (BitVec.ofNat 128 (ofLe k)) then some b else none
  | _, _ => none

/-- A new patch becomes active at the start after its store, if it verifies; an active patch that no longer does leaves the
ROM alone (R164, R321). -/
def selectPatch (s : State) : State :=
  let n := s.nvm
  let area (k : Nat) : Option (List Byte) := if k = 1 then n.patchA else if k = 2 then n.patchB else none
  let other := if n.patchActive = 1 then 2 else 1
  let act := if n.patchDue && (patchVerified s.otp (area other)).isSome then other
    else if (patchVerified s.otp (area n.patchActive)).isSome then n.patchActive else 0
  { s with nvm := { n with patchActive := act, patchDue := false
                           patchLevel := match area act with
                             | some b => Config.patchLevel b
                             | none => 0 } }

/-- The valid image with the higher COMMIT_SEQ; with neither, defaults, logged and notified (R257). What the notification's
three fields hold then is left open (log entry 48). -/
def loadImage (s : State) : State :=
  let s := s.nvm.images.foldl (fun s b => noteRead s (imageStream (b.length - 32)) b) s
  let best := newerCopy (fun (p : Nat × Image) => p.2.commitSeq)
    (s.nvm.images.mapIdx (fun i b => (parseImage b).map (fun m => (i, m))))
  let use (s : State) (m : ParamMap) (i : Nat) : State := { s with params := latchBand { s.params with
    committed := m, working := [], pending := [], atStart := m, atTicket := m, image := i } }
  match best with
  | some p => use s p.2.entries p.1
  | none =>
    let (v, s) := drawNonce (logEvent (use s [] 1) 0x0E03 [])
    notifyRight s rSecurity 0x8005 ((leBytes 3 v.toNat) ++ [0])

/-- At the first READY the committed sequencing values go to always-on SRAM, and the Saffron-owned mask at once; a running
sequence keeps its settings until it ends (R118, R119). A channel released under the boot mask that the committed one does
not name stays low until the next up-sequence (DESIGN CHOICE, log entry 122), and so does one whose boot up state is 0xF (DESIGN
CHOICE, log entry 172). -/
def loadSeq (s : State) : State :=
  let m := s.params.committed
  if s.rst.firstReadyDone then s else
  let s := modSeq s (fun q => { q with next := some m })
  if s.seq.ph = .up ∨ s.seq.ph = .down then
    let own := (seqCfgOf m).saffron
    modSeq s (fun q => { q with cfg := { q.cfg with saffron := own }, ch := q.ch.mapIdx (dropOwner own q.held) })
  else applyNextCfg s

/-- The newest valid LOG_CTRL page: that with the highest BOOT_COUNT, the last written among equals (R272). -/
def newestCtrl (n : Nvm) : Option (Nat × LogCtrl) :=
  ((List.range 8).map (fun k => (n.ctrlNext + k) % 8)).foldl (fun b i => match (n.ctrl[i]?).bind parseCtrl with
    | some c => (match b with
      | some (_, d) => if isAhead c.bootCount d.bootCount then b else some (i, c)
      | none => some (i, c))
    | none => b) none

/-- The highest running total of any LOG_LOSS record in the ring (R272). -/
def ringLoss (n : Nvm) : Nat :=
  n.ring.foldl (fun m r => if slice r.bytes 2 2 = b16 0x0E01 && !recordBad r.bytes then max m (fieldAt r.bytes 24 4) else m) 0

/-- The ring once its losses are counted: bad records behind the head hold the place of the oldest slots in a full ring, which the
next records take, and no place in one that is not full; a later start counts none of them again (R270). -/
def settleRing (ring : List RingRec) : List RingRec :=
  let tail := (ring.reverse.takeWhile (fun r => recordBad r.bytes)).reverse
  let kept := ring.take (ring.length - tail.length)
  if ring.length < 16384 then kept else tail.map (fun r => { r with seq := r.seq - 16384 }) ++ kept

/-- The log's counts at a main-domain start: BOOT_COUNT, the loss total, the head and what has been checked (R270 to R272,
R541). -/
def loadLog (s : State) : State :=
  let s := readAll (readAll s pageStream s.nvm.ctrl) recordStream (s.nvm.ring.map (·.bytes))
  let c := (newestCtrl s.nvm).map (·.2)
  let boot := match c with
    | some c => c.bootCount + 1
    | none => 1
  let ctrlLoss := match c with
    | some c => c.loss.toNat
    | none => 0
  let checked := match c with
    | some c => c.checked
    | none => 0
  let lowest := match c with
    | some c => c.lowest
    | none => 0
  let next := match (s.nvm.ring.filter (fun r => !recordBad r.bytes)).getLast? with
    | some r => r.seq + 1
    | none => s.log.next
  let bad := (s.nvm.ring.filter (fun r => recordBad r.bytes && decide ((r.seq - checked).toNat < 2 ^ 31))).length
  let seen := max ctrlLoss (ringLoss s.nvm)
  let total := min 0xFFFFFFFF (seen + bad + s.log.cloveLost)
  { s with
    log := { s.log with
      bootCount := boot, loss := BitVec.ofNat 32 total, lossSeen := BitVec.ofNat 32 (ringLoss s.nvm)
      lossDue := decide (seen < total), cloveLost := 0
      staging := s.log.staging.map (fun e => if e.boot = 0 then { e with boot := boot } else e), lowest, checked := next, next
      newestRec := c.bind (·.newestRec) }
    nvm := { s.nvm with
      ring := settleRing s.nvm.ring
      ctrlNext := match newestCtrl s.nvm with
        | some (i, _) => (i + 1) % 8
        | none => s.nvm.ctrlNext } }

/-- The pending records that go to NVM before READY: every snapshot, and every compact record for which an erased slot
other than the last is free (R153). -/
def writePending : List PendingRec → State → State
  | [], s => s
  | r :: rs, s =>
    let s := match r.snap with
      | some b => addSnap s b
      | none => s
    if r.compact.isEmpty then writePending rs s else
    match freeSlot s.nvm with
    | some i => writePending rs (writeCompact s i r)
    | none => writePending rs (modSeq s (fun q => { q with pend := q.pend ++ [{ r with snap := none, atReady := false }] }))

/-- At READY every slot is judged afresh by the newest REC_SEQ that LOG_CTRL holds: torn slots are reported and erased
first, then newer records are reported, and slots are erased (R154, R273). -/
def reportSlots (s : State) : State :=
  let s := readAll s recordStream (slotRecords s.nvm)
  let newer (f : FaultSlot) : Bool := match s.log.newestRec with
    | none => true
    | some r => isAhead r (BitVec.ofNat 16 (fieldAt f.bytes 26 2))
  let s := { s with nvm := { s.nvm with faults := s.nvm.faults.map (fun f => f.map (fun f =>
    { f with reported := !recordBad f.bytes && !newer f })) } }
  let torn := (List.range 8).filter (fun i => match s.nvm.faults.getD i none with
    | some f => recordBad f.bytes
    | none => false)
  let s := torn.foldl reportSlot s
  let order := bySeq s.nvm 8 ((List.range 8).filter (fun i => (s.nvm.faults.getD i none).isSome))
  eraseReported 8 (order.foldl reportSlot s)

/-! ### Nozzles, fires, calibrations, hub -/

/-- The valid copy of the nozzle map with the higher MAP_SEQ, or every nozzle UNTESTED (R460). -/
def loadMap (s : State) : State :=
  let s := readAll s (imageStream 12672) s.nvm.maps
  match newerCopy (·.mapSeq) (s.nvm.maps.map parseMap) with
  | none => { s with noz := Noz.rest }
  | some c => { s with noz := { Noz.rest with
      states := c.states, eyes := c.eyes, rot := (List.range 4).map (fun d => c.rot.toNat / 4 ^ d % 4)
      mapSeq := c.mapSeq, lastLed := c.led, lastTia := c.tia, lastNoise := c.noise, changedRtc := c.rtc } }

/-- The live fire counts; a page that fails its check starts at 0 and is logged (R265). -/
def loadFires (s : State) : State :=
  let s := readAll s pageStream (s.nvm.fires.map (·.2))
  let counts (p : Nat × List Byte) : List (Nat × Nat) :=
    ((List.range 42).map (fun i => (42 * p.1 + i, fieldAt p.2 (6 * i) 6))).filter (fun c => c.2 != 0)
  let s := { s with fife := { s.fife with
    deltas := [], live := (s.nvm.fires.filter (fun p => firePageOk p.2)).flatMap counts } }
  (badFirePages s.nvm).foldl (fun s p => logEvent s 0x0E08 (b16 p)) s

/-- The valid copy of HEAD_CAL with the higher CAL_SEQ (R514). -/
def loadHeadCal (s : State) : State :=
  let s := readAll s (imageStream 128) s.nvm.heads
  { s with cal := { s.cal with head := match newerCopy (·.calSeq) (s.nvm.heads.map parseHead) with
      | some c => c.entries
      | none => List.replicate 4 none } }

/-- The selection fields and the quality figure in a slot's or a factory word's first word (R511, R512). -/
def selOf (t d : Nat) : List Nat :=
  if t ≤ 1 then [d % 128, d / 2 ^ 8 % 64]
  else if t = 2 then [d % 64]
  else if t = 3 then [d % 64, d / 64 % 64]
  else [d % 128]

/-- QUALITY as a slot's first word holds it, AO_RC's with its sign (R502, R511). -/
def qualityOf (t d : Nat) : Nat :=
  if t ≤ 1 then d / 2 ^ 16 % 2 ^ 32
  else if t = 2 then ((BitVec.ofNat 24 (d / 2 ^ 24)).signExtend 32).toNat
  else d / 2 ^ 24 % 2 ^ 24

/-- The factory words of a calibration (R512). -/
def factoryWords (t : Nat) : List Nat := if t = 0 then [109, 110] else if t = 1 then [111, 112] else [111 + t]

def firstData (o : Otp) (ws : List Nat) : Nat :=
  match ws with
  | w :: _ => match otpData o w with
    | some d => d.toNat
    | none => 0
  | [] => 0

/-- The selection that comes first of R505's sources. -/
def sourceSel (s : State) (t : Nat) : CalSel :=
  let o := s.otp
  if 9 ≤ t then
    match s.cal.head.getD (t - 9) none with
    | some h => ⟨3, 0xFF, [h.main256, h.eCal, h.tOn, h.turnedOn], h.quality, now s⟩
    | none => ⟨0, 0xFF, [], 0, now s⟩
  else
  let slots := (calSlots t).mapIdx (fun i ws => (i, ws))
  match (slots.filter (fun p => p.2.all (fun w => (otpData o w).isSome))).getLast? with
  | some (k, ws) =>
    let d := firstData o ws
    ⟨if ws.any (fun w => (shadowOf o w).isSome) then 4 else 2, b8 k, selOf t d, BitVec.ofNat 32 (qualityOf t d), now s⟩
  | none =>
    let ws := factoryWords t
    if !alarmed o 5 && ws.all (fun w => (otpValid o w).isSome) then
      ⟨1, 0xFF, selOf t (firstData o ws), BitVec.ofNat 32 (qualityOf t (firstData o ws)), now s⟩
    else ⟨0, 0xFF, (Cal.romActive.getD t (CalSel.rom [])).sel, 0, now s⟩

/-- The checks of the slot words, which CVU3 makes (R510, R523). -/
def checkSlotWords (s : State) : State :=
  ((List.range 72).map (· + 125)).foldl (fun s i =>
    if (otpRaw s.otp i).cond = .blank then s else explicit s .crc16 (leBytes 6 (otpRaw s.otp i).data.toNat ++ [b8 i])) s

/-- Every active selection is loaded; one that has not changed keeps the time of its switch (R503, R505). -/
def loadSelections (s : State) : State :=
  let s := checkSlotWords s
  let pick (t : Nat) : CalSel :=
    let new := sourceSel s t
    match s.cal.active[t]? with
    | some old => if { old with time := new.time } = new then old else new
    | none => new
  deriveTrip { s with cal := { s.cal with active := (List.range 13).map pick, trial := none, store := none, prev := none, due := [] } }

/-- The committed hub configuration goes to Clove, at the first READY only (R463). -/
def loadHub (s : State) : State :=
  if s.rst.firstReadyDone then s else
  let s := hubParamIds.foldl (fun s id => putHubParam s id (mapVal s.params.committed id)) s
  setHub s (fun h => { h with reserve := true })

/-! ### What opens at READY and warm-ready -/

/-- The crossings' pending events reach the core, each as one event (R84). Held events go out: one HUB_EVENT for each detector
with NOTIFY, the DETECTOR events with their times, and a HST_IRQ
that the hub drove becomes IRQ_STATUS's HUB_EVENT (R189, R487). -/
def sendHeld (s : State) : State :=
  let s := (List.range 32).foldl (fun s d =>
    let r := detRunOf s.hub d
    let acts := b8 (fieldAt (hubDet s.hub d) 3 1)
    let s := match r.heldNote, r.held with
      | true, some rec => notifyDet s d acts (checkedRecord rec)
      | _, _ => s
    match r.heldLog with
    | some t => logAt s 0x0B01 [b8 d, acts] 0xFF 0 t
    | none => s) s
  let s := if s.hub.irqBy ≠ 0 then setIrq s 7 else s
  setHub { s with rst := { s.rst with hubEvt := false, wkEvt := false } } (fun h => { h with
    irqBy := 0, detRun := h.detRun.map (fun d => { d with held := none, heldNote := false, heldLog := none }) })

/-- LINK_HELLO on context 2 (R198). -/
def sendHello (s : State) (kind : Byte) : State :=
  notify s 2 0x8001 0 (partId ++ fwVer s ++ [kind, s.rst.cause] ++ b32 (now s).toNat)

/-- The links open: the UART drives its pins, with an empty receive buffer, and the host port is taken back (R41, R107, R197,
R198). -/
def openLinks (s : State) (kind : Byte) : State :=
  let s := sendHello { s with uart := { s.uart with driven := true, rx := [], rxBad := false } } kind
  { s with reed := { s.reed with takeback := true } }

/-- What Clove counted as lost joins the loss total (R271). -/
def joinLost (s : State) : State :=
  if s.log.cloveLost = 0 then s else
  { s with log := { s.log with loss := satAdd32 s.log.loss s.log.cloveLost, cloveLost := 0, lossDue := true } }

/-- Accounting windows follow one another from the first READY (R371). -/
def openWindow (s : State) : State :=
  if s.saf.winOpen then s else
  { s with saf := { s.saf with
      winOpen := true, winStart := now s, winLen := pv s.params 0x0603, winEnergy := 0, winBudget := 0, budgetAt := now s
      slotEnergy := 0 } }

/-- The rails that a wake brings up are not up yet: their sequence runs, or waits behind a shutdown and SEQ_MIN_OFF (R96,
R137). In FAULT_OFF a wake brings none up. -/
def upPending (q : Seq) : Bool :=
  decide (q.ph = .up) || (q.onLatched && decide (q.ph = .off ∨ q.ph = .minOff ∨ q.ph = .down))

/-- Cehole reaches READY (R538), after HIBERNATE not before the rails are up (R96). The steps are those that R538 and the
chapters name, in the order in which each needs the ones before: patch, log, image, alarms, maps and calibrations, records,
hub, rails, LOG_CTRL with what has been reported, links. -/
def execCeholeReady (pdCls : BitVec 3) (s : State) : Out :=
  if s.rst.main ≠ .booting ∨ (s.rst.hibWake ∧ upPending s.seq) then .next s else
  let s := { s with rst := { s.rst with main := .ready, fresh := false } }
  let s := phyGate (loadImage (loadLog (selectPatch s)))
  let s := logEvent s 0x0101 [s.rst.cause]
  let s := noteReads s ((List.range 256).filter (fun i => !startUpWords.contains i))
  let s := readAlarms s
  let s := loadSelections (loadHeadCal (loadFires (loadMap s)))
  let pend := s.seq.pend
  let s := writePending pend (modSeq s (fun q => { q with pend := [] }))
  let s := startSeqWrite (reportSlots s)
  let s := writeLogCtrl (loadSeq (loadHub s))
  let s := { s with rst := { s.rst with abSeqReq := none, abSeqNvm := none, abOtpRd := none }
                    seq := { s.seq with lost := 0 } }
  let s := readClassPins (readWake s) pdCls
  let s := openWindow s
  let s := setIrq { s with port := { s.port with
    irqEnable := b8 (pv s.params 0x0202), pecOn := pv s.params 0x0201 == 1 } } 2
  let s := logEvent (openLinks (sendHeld s) 0) 0x0102 [0]
  let s := usbAttach s
  let s := { s with
    rst := { s.rst with firstReadyDone := true, hibWake := false }
    motion := { s.motion with homingCut := true, homingSled := true } }
  .next (schedule (raiseEn (findFaults s) 6))

/-- Cehole is warm-ready, not before the rails are up (R96, R100, R114, R327): the part is in DOZE, and in RUN again where
jobs wait. IRQ_STATUS's READY bit stays as it was (DESIGN CHOICE, log entry 181). -/
def execWarmReady (pdCls : BitVec 3) (s : State) : Out :=
  if s.rst.main ≠ .waking ∨ upPending s.seq then .next s else
  let s := enterPstate (phyGate { s with
    rst := { s.rst with main := .ready }, pwr := { s.pwr with moving := false } }) .doze
  let s := joinLost (readClassPins (readWake s) pdCls)
  let s := notifyPstate (sendHeld (openLinks s 1)) 1 2
  let s := logEvent s 0x0102 [1]
  let s := findFaults (startSeqWrite (eraseReported 8 s))
  let s := if idle s then s else wakeDoze s
  .next (schedule (usbAttach s))

/-! ### DOZE (R92, R459) -/

/-- PWR_DOZE_IDLE expires with no work: an automatic spit that is due comes first, then the head is capped and the part
enters DOZE (R459). -/
def execDozeIdleExpiry (s : State) : Out :=
  if s.pwr.st ≠ .run ∨ !coreRuns s ∨ s.pwr.entry.isSome ∨ !idle s then .next s else
  let s := schedule s
  .next (if idle s then enterDoze s else s)

end Sys2Proof.Machine
end

