-- ==== Sys2Proof/Machine/Symbols.lean ====
section
/-! DEFINITION. The modules of the symbols of R348 and R349, as ISO/IEC 15417 (Code 128), ISO/IEC 15420 (EAN-13) and
ISO/IEC 18004 (QR, Model 2) draw them. The standards' tables are taken from outside the spec (PRESUMED, log entry 9). A row
of modules is a number with bit 0 leftmost, set where dark. -/

namespace Sys2Proof.Machine

/-- Modules of bars and spaces in turn, bars first, from their widths: the row and its width. -/
def barRun (ws : List Nat) : Nat × Nat :=
  let r := ws.foldl (fun (p : Nat × Nat × Bool) w =>
    (if p.2.2 then p.1 + (2 ^ w - 1) * 2 ^ p.2.1 else p.1, p.2.1 + w, !p.2.2)) (0, 0, true)
  (r.1, r.2.1)

/-- A row of modules from its bits, leftmost first. -/
def rowOf (bs : List Bool) : Nat := bs.foldr (fun b a => 2 * a + (if b then 1 else 0)) 0

/-- The `n` low bits of a number, most significant first. -/
def msbBits (n v : Nat) : List Bool := (List.range n).map (fun i => v.testBit (n - 1 - i))

/-! ### Code 128 -/

/-- The widths of the symbol characters 0 to 106, one decimal digit each. -/
def widths128 : List Nat :=
  [212222, 222122, 222221, 121223, 121322, 131222, 122213, 122312, 132212, 221213] ++
  [221312, 231212, 112232, 122132, 122231, 113222, 123122, 123221, 223211, 221132] ++
  [221231, 213212, 223112, 312131, 311222, 321122, 321221, 312212, 322112, 322211] ++
  [212123, 212321, 232121, 111323, 131123, 131321, 112313, 132113, 132311, 211313] ++
  [231113, 231311, 112133, 112331, 132131, 113123, 113321, 133121, 313121, 211331] ++
  [231131, 213113, 213311, 213131, 311123, 311321, 331121, 312113, 312311, 332111] ++
  [314111, 221411, 431111, 111224, 111422, 121124, 121421, 141122, 141221, 112214] ++
  [112412, 122114, 122411, 142112, 142211, 241211, 221114, 413111, 241112, 134111] ++
  [111242, 121142, 121241, 114212, 124112, 124211, 411212, 421112, 421211, 212141] ++
  [214121, 412121, 111143, 111341, 131141, 114113, 114311, 411113, 411311, 113141] ++
  [114131, 311141, 411131, 211412, 211214, 211232, 2331112]

/-- The decimal digits of a number of `n` digits. -/
def digitsOf (n v : Nat) : List Nat := (List.range n).map (fun i => v / 10 ^ (n - 1 - i) % 10)

/-- Fewest characters for the rest of a text from code set A, B or C, a switch counting one character. -/
structure Fewest where
  a : Nat
  b : Nat
  c : Nat
deriving DecidableEq, Repr

def Fewest.of (f : Fewest) (set : Nat) : Nat := if set = 0 then f.a else if set = 1 then f.b else f.c

def isDigit (b : Byte) : Bool := decide (0x30 ≤ b.toNat ∧ b.toNat ≤ 0x39)

/-- The code sets that hold a byte: A 0x00 to 0x5F, B 0x20 to 0x7F, both also FNC1. -/
def inSet (set : Nat) (x : Byte) : Bool :=
  x == 0xF1 || (if set = 0 then decide (x.toNat < 0x60) else set == 1 && decide (0x20 ≤ x.toNat ∧ x.toNat < 0x80))

def digitPair (x : Byte) (xs : List Byte) : Bool :=
  isDigit x && (match xs with
    | y :: _ => isDigit y
    | [] => false)

/-- Fewest symbol characters of Code 128 for a text and for its tail; C holds pairs of digits, and a shift between A and B
takes one character more. -/
def code128Of : List Byte → Fewest × Fewest
  | [] => (⟨0, 0, 0⟩, ⟨0, 0, 0⟩)
  | x :: xs =>
    let (t, u) := code128Of xs
    let far := 1000
    let dA := if inSet 0 x then 1 + t.a else if inSet 1 x then 2 + t.a else far
    let dB := if inSet 1 x then 1 + t.b else if inSet 0 x then 2 + t.b else far
    let dC := if x = 0xF1 then 1 + t.c else if digitPair x xs then 1 + u.c else far
    (⟨min dA (1 + min dB dC), min dB (1 + min dA dC), min dC (1 + min dA dB)⟩, t)

/-- k of R348. -/
def code128Count (d : List Byte) : Nat := let f := (code128Of d).1; min f.a (min f.b f.c)

/-- The value of a byte in set A or B. -/
def value128 (set : Nat) (x : Byte) : Nat :=
  if x = 0xF1 then 102 else if set = 0 ∧ x.toNat < 0x20 then x.toNat + 64 else x.toNat - 32

/-- The characters that may come next in a code set: what is written, what is left, the set after it. -/
def moves128 (set : Nat) (x : Byte) (xs : List Byte) : List (List Nat × List Byte × Nat) :=
  let here := x :: xs
  if set = 2 then
    (if x = 0xF1 then [([102], xs, 2)] else []) ++
    (if digitPair x xs then [([10 * (x.toNat - 0x30) + ((byteAt xs 0).toNat - 0x30)], xs.drop 1, 2)] else []) ++
    [([100], here, 1), ([101], here, 0)]
  else
    (if inSet set x then [([value128 set x], xs, set)] else []) ++
    (if inSet (1 - set) x then [([98, value128 (1 - set) x], xs, set)] else []) ++
    [([99], here, 2), ([if set = 0 then 100 else 101], here, 1 - set)]

/-- The fewest symbol characters for a text from a set; which of several shortest ways is taken is free (R348, log entry
9). -/
def encode128 : Nat → List Byte → Nat → List Nat
  | 0, _, _ => []
  | _, [], _ => []
  | k + 1, x :: xs, set =>
    let best := (moves128 set x xs).filter (fun m =>
      m.1.length + (code128Of m.2.1).1.of m.2.2 == (code128Of (x :: xs)).1.of set)
    match best[Config.codeChoice (x :: xs) % best.length]? with
    | some m => m.1 ++ encode128 k m.2.1 m.2.2
    | none => []

/-- The symbol characters of a text: start, data and code-set characters, check character, stop. -/
def chars128 (d : List Byte) : List Nat :=
  let best := (List.range 3).filter (fun set => (code128Of d).1.of set == code128Count d)
  let set := best.getD (Config.codeChoice d % best.length) 1
  let cs := (103 + set) :: encode128 (2 * d.length) d set
  let sum := (cs.mapIdx (fun i v => max 1 i * v)).foldl (· + ·) 0
  cs ++ [sum % 103, 106]

def code128Row (d : List Byte) : Nat :=
  (barRun ((chars128 d).flatMap (fun c => digitsOf (if c = 106 then 7 else 6) (widths128.getD c 0)))).1

/-! ### EAN-13 -/

/-- The check digit of twelve digits. -/
def eanCheck (d : List Byte) : Byte :=
  let v (i : Nat) : Nat := (byteAt d i).toNat - 0x30
  let sum := ((List.range 12).map (fun i => if i % 2 = 0 then v i else 3 * v i)).foldl (· + ·) 0
  b8 (0x30 + (10 - sum % 10) % 10)

/-- Number set A of the digits, seven modules each, most significant leftmost. -/
def eanSetA : List Nat := [0x0D, 0x19, 0x13, 0x3D, 0x23, 0x31, 0x2F, 0x3B, 0x37, 0x0B]

/-- Which of the six left digits are of set B, by the first digit: bit 5 the leftmost. -/
def eanParity : List Nat := [0x00, 0x0B, 0x0D, 0x0E, 0x13, 0x19, 0x1C, 0x15, 0x16, 0x1A]

/-- The 95 modules of thirteen digits: set C is set A inverted, and set B is set C reversed. -/
def eanRow (d : List Byte) : Nat :=
  let v (i : Nat) : Nat := (byteAt d i).toNat - 0x30
  let a (i : Nat) : List Bool := msbBits 7 (eanSetA.getD (v i) 0)
  let c (i : Nat) : List Bool := (a i).map (!·)
  let left (i : Nat) : List Bool := if (eanParity.getD (v 0) 0).testBit (6 - i) then (c i).reverse else a i
  let half (f : Nat → List Bool) (from_ : Nat) : List Bool := (List.range 6).flatMap (fun i => f (from_ + i))
  rowOf ([true, false, true] ++ half left 1 ++ [false, true, false, true, false] ++ half c 7 ++ [true, false, true])

/-- The guard bars, which reach below the others. -/
def eanGuards : Nat := 5 + 2 ^ 46 + 2 ^ 48 + 5 * 2 ^ 92

/-! ### QR: capacity and codewords -/

/-- QR's mode: 0 numeric, 1 alphanumeric, 2 byte (R349). -/
def alnumSet : List Byte := ascii "0123456789ABCDEFGHIJKLMNOPQRSTUVWXYZ $%*+-./:"
def qrMode (d : List Byte) : Nat := if d.all isDigit then 0 else if d.all alnumSet.contains then 1 else 2

/-- Error correction codewords of a block, and blocks, of versions 1 to 25 at levels L, M, Q and H. -/
def qrEcc : List (List Nat) :=
  [[7, 10, 15, 20, 26, 18, 20, 24, 30, 18, 20, 24, 26, 30, 22, 24, 28, 30, 28, 28, 28, 28, 30, 30, 26],
   [10, 16, 26, 18, 24, 16, 18, 22, 22, 26, 30, 22, 22, 24, 24, 28, 28, 26, 26, 26, 26, 28, 28, 28, 28],
   [13, 22, 18, 26, 18, 24, 18, 22, 20, 24, 28, 26, 24, 20, 30, 24, 28, 28, 26, 30, 28, 30, 30, 30, 30],
   [17, 28, 22, 16, 22, 28, 26, 26, 24, 28, 24, 28, 22, 24, 24, 30, 28, 28, 26, 28, 30, 24, 30, 30, 30]]
def qrBlockCounts : List (List Nat) :=
  [[1, 1, 1, 1, 1, 2, 2, 2, 2, 4, 4, 4, 4, 4, 6, 6, 6, 6, 7, 8, 8, 9, 9, 10, 12],
   [1, 1, 1, 2, 2, 4, 4, 4, 5, 5, 5, 8, 9, 9, 10, 10, 11, 13, 14, 16, 17, 17, 18, 20, 21],
   [1, 1, 2, 2, 4, 4, 6, 6, 8, 8, 8, 10, 12, 16, 12, 17, 16, 18, 21, 20, 23, 23, 25, 27, 29],
   [1, 1, 2, 4, 4, 4, 5, 6, 8, 8, 11, 11, 16, 16, 18, 16, 19, 21, 25, 25, 25, 34, 30, 32, 35]]
def eccLen (v level : Nat) : Nat := (qrEcc.getD level []).getD (v - 1) 0
def qrBlocks (v level : Nat) : Nat := (qrBlockCounts.getD level []).getD (v - 1) 1

def qrSize (v : Nat) : Nat := 17 + 4 * v

/-- Centres of the alignment patterns along each axis. -/
def alignAt (v : Nat) : List Nat :=
  if v = 1 then [] else
  let n := v / 7 + 2
  let step := (v * 4 + n * 2 + 1) / (n * 2 - 2) * 2
  6 :: (List.range (n - 1)).map (fun i => qrSize v - 7 - step * (n - 2 - i))

def chebyshev (x y cx cy : Nat) : Nat := max (max x cx - min x cx) (max y cy - min y cy)

/-- The alignment pattern, if any, that covers a module: its distance from the centre. -/
def alignDist (v x y : Nat) : Option Nat :=
  let ps := alignAt v
  let far := qrSize v - 7
  ((ps.flatMap (fun a => ps.map (fun b => (a, b)))).find? (fun c =>
    !(c == (6, 6) || c == (6, far) || c == (far, 6)) && decide (chebyshev x y c.1 c.2 ≤ 2))).map (fun c => chebyshev x y c.1 c.2)

/-- The level of a module that no data sets, with the format and version information as given. -/
def qrFixed (v format version x y : Nat) : Option Bool :=
  let n := qrSize v
  let finder (cx cy : Nat) : Option Bool :=
    let d := chebyshev x y cx cy
    if d ≤ 4 then some (d != 2 && d != 4) else none
  let form : Option Bool :=
    if x = 8 ∧ y < 6 then some (format.testBit y)
    else if x = 8 ∧ y = 7 then some (format.testBit 6)
    else if x = 8 ∧ y = 8 then some (format.testBit 7)
    else if x = 7 ∧ y = 8 then some (format.testBit 8)
    else if y = 8 ∧ x < 6 then some (format.testBit (14 - x))
    else if y = 8 ∧ n ≤ x + 8 then some (format.testBit (n - 1 - x))
    else if x = 8 ∧ y = n - 8 then some true
    else if x = 8 ∧ n ≤ y + 7 then some (format.testBit (y + 15 - n))
    else none
  let vers : Option Bool :=
    if v < 7 then none
    else if y < 6 ∧ n - 11 ≤ x ∧ x < n - 8 then some (version.testBit (3 * y + (x + 11 - n)))
    else if x < 6 ∧ n - 11 ≤ y ∧ y < n - 8 then some (version.testBit (3 * x + (y + 11 - n)))
    else none
  let timing : Option Bool := if x = 6 ∨ y = 6 then some ((x + y) % 2 == 0) else none
  finder 3 3 <|> finder (n - 4) 3 <|> finder 3 (n - 4) <|> ((alignDist v x y).map (fun d => d != 1)) <|> form <|> vers <|> timing

/-- The modules of data, in the order in which bits are placed: columns in pairs from the right, up and down in turn, past
the column of the timing pattern. -/
def qrPath (v : Nat) : List (Nat × Nat) :=
  let n := qrSize v
  ((List.range ((n - 1) / 2)).flatMap (fun i =>
    let r := n - 1 - 2 * i
    let right := if r ≤ 6 then r - 1 else r
    (List.range n).flatMap (fun k =>
      let y := if i % 2 = 0 then n - 1 - k else k
      [(right, y), (right - 1, y)]))).filter (fun p => (qrFixed v 0 0 p.1 p.2).isNone)

/-- Modules of data of a version, by the number of alignment patterns. -/
def qrRaw (v : Nat) : Nat :=
  let n := v / 7 + 2
  (16 * v + 128) * v + 64 - (if 2 ≤ v then (25 * n - 10) * n - 55 else 0) - (if 7 ≤ v then 36 else 0)

/-- Data codewords of a version at a level. -/
def qrData (v level : Nat) : Nat := qrRaw v / 8 - eccLen v level * qrBlocks v level

/-- The width of the character count. -/
def qrCountBits (v mode : Nat) : Nat :=
  if mode = 0 then (if v ≤ 9 then 10 else 12) else if mode = 1 then (if v ≤ 9 then 9 else 11) else (if v ≤ 9 then 8 else 16)

/-- Groups of `n` of a list. -/
def groupsOf {α : Type} (n : Nat) : Nat → List α → List (List α)
  | 0, _ => []
  | _, [] => []
  | k + 1, l => l.take n :: groupsOf n k (l.drop n)

/-- The bits of the data characters. -/
def qrChars (mode : Nat) (d : List Byte) : List Bool :=
  let num (g : List Byte) : Nat := g.foldl (fun a b => 10 * a + (b.toNat - 0x30)) 0
  let aln (b : Byte) : Nat := alnumSet.findIdx (· == b)
  if mode = 0 then (groupsOf 3 d.length d).flatMap (fun g => msbBits (3 * g.length + 1) (num g))
  else if mode = 1 then (groupsOf 2 d.length d).flatMap (fun g => match g with
    | [a, b] => msbBits 11 (45 * aln a + aln b)
    | [a] => msbBits 6 (aln a)
    | _ => [])
  else d.flatMap (fun b => msbBits 8 b.toNat)

/-- Mode indicator, character count and characters. -/
def qrPayload (v : Nat) (d : List Byte) : List Bool :=
  let m := qrMode d
  msbBits 4 (2 ^ m) ++ msbBits (qrCountBits v m) d.length ++ qrChars m d

/-- The smallest version, from 1 to 25 and not below `least`, that holds the data (R349). -/
def qrVersion (level least : Nat) (d : List Byte) : Option Nat :=
  ((List.range 26).filter (fun v => decide (max 1 least ≤ v))).find? (fun v =>
    decide ((qrPayload v d).length ≤ 8 * qrData v level))

/-- The data codewords: the payload, a terminator, and padding. -/
def qrCodewords (v level : Nat) (d : List Byte) : List Nat :=
  let room := 8 * qrData v level
  let p := qrPayload v d
  let p := p ++ List.replicate (min 4 (room - p.length)) false
  let p := p ++ List.replicate ((8 - p.length % 8) % 8) false
  let ws := (groupsOf 8 (room / 8) p).map (fun g => g.foldl (fun a b => 2 * a + (if b then 1 else 0)) 0)
  ws ++ (List.range (room / 8 - ws.length)).map (fun i => if i % 2 = 0 then 0xEC else 0x11)

/-! ### QR: error correction -/

/-- The product in GF(256) by the polynomial 0x11D. -/
def gfMul (a b : Nat) : Nat := (List.range 8).foldl (fun acc i =>
  let acc := if acc < 128 then 2 * acc else (2 * acc) ^^^ 0x11D
  if b.testBit (7 - i) then acc ^^^ a else acc) 0

/-- The generator polynomial of degree `n` without its leading 1, highest power first. -/
def rsGen : Nat → List Nat × Nat
  | 0 => ([], 1)
  | n + 1 =>
    let (g, root) := rsGen n
    let full := 1 :: g
    ((List.range (n + 1)).map (fun i => full.getD (i + 1) 0 ^^^ gfMul (full.getD i 0) root), gfMul root 2)

/-- The remainder of a block's codewords. -/
def rsRemainder (n : Nat) (d : List Nat) : List Nat :=
  let g := (rsGen n).1
  d.foldl (fun r b =>
    let f := b ^^^ r.headD 0
    (List.range n).map (fun i => r.getD (i + 1) 0 ^^^ gfMul (g.getD i 0) f)) (List.replicate n 0)

/-- The blocks of the data codewords, the shorter ones first. -/
def qrSplit (v level : Nat) (ws : List Nat) : List (List Nat) :=
  let nb := qrBlocks v level
  let raw := qrRaw v / 8
  let len (i : Nat) : Nat := raw / nb - eccLen v level + (if nb - raw % nb ≤ i then 1 else 0)
  (List.range nb).map (fun i => (ws.drop (((List.range i).map len).foldl (· + ·) 0)).take (len i))

/-- Lists read across. -/
def interleave (n : Nat) (ls : List (List Nat)) : List Nat := (List.range n).flatMap (fun i => ls.filterMap (·[i]?))

/-- The bits of the final message. -/
def qrMessage (v level : Nat) (d : List Byte) : List Bool :=
  let bs := qrSplit v level (qrCodewords v level d)
  let ecc := bs.map (rsRemainder (eccLen v level))
  (interleave (qrRaw v / 8) bs ++ interleave (eccLen v level) ecc).flatMap (msbBits 8)

/-! ### QR: masks -/

def qrMask (m x y : Nat) : Bool :=
  match m with
  | 0 => (x + y) % 2 == 0
  | 1 => y % 2 == 0
  | 2 => x % 3 == 0
  | 3 => (x + y) % 3 == 0
  | 4 => (x / 3 + y / 2) % 2 == 0
  | 5 => x * y % 2 + x * y % 3 == 0
  | 6 => (x * y % 2 + x * y % 3) % 2 == 0
  | _ => ((x + y) % 2 + x * y % 3) % 2 == 0

/-- A remainder of the BCH codes of the format and version information. -/
def bch (steps top gen v : Nat) : Nat :=
  (List.range steps).foldl (fun r _ => let r := 2 * r; if r.testBit top then r ^^^ gen else r) v

/-- The format information of a level and a mask, and the version information. -/
def qrFormat (level m : Nat) : Nat :=
  let d := 8 * ([1, 0, 3, 2].getD level 0) + m
  (1024 * d + bch 10 10 0x537 d) ^^^ 0x5412
def qrVersionInfo (v : Nat) : Nat := 4096 * v + bch 12 12 0x1F25 v

/-- The rows of a symbol under a mask. -/
def qrDraw (v level m : Nat) (path : List ((Nat × Nat) × Bool)) : List Nat :=
  let n := qrSize v
  let f := qrFormat level m
  let w := qrVersionInfo v
  (List.range n).map (fun y =>
    let fixed := rowOf ((List.range n).map (fun x => (qrFixed v f w x y).getD false))
    (path.filter (fun p => p.1.2 == y)).foldl (fun a p =>
      if p.2 != qrMask m p.1.1 y then a + 2 ^ p.1.1 else a) fixed)

/-- Points for runs of five or more modules of one level along a line. -/
def runPoints : List Bool → Nat
  | [] => 0
  | b :: bs =>
    let r := bs.foldl (fun (p : Bool × Nat × Nat) c =>
      if c == p.1 then (p.1, p.2.1 + 1, p.2.2) else (c, 1, p.2.2 + (if 5 ≤ p.2.1 then p.2.1 - 2 else 0))) (b, 1, 0)
    r.2.2 + (if 5 ≤ r.2.1 then r.2.1 - 2 else 0)

/-- Points for dark and light in 1:1:3:1:1 along a line with four light modules before or after. -/
def finderPoints (l : List Bool) : Nat :=
  let core := [true, false, true, true, true, false, true]
  let quiet := List.replicate 4 false
  40 * ((List.range l.length).filter (fun i =>
    (l.drop i).take 7 == core && ((l.drop (i + 7)).take 4 == quiet || (4 ≤ i && (l.drop (i - 4)).take 4 == quiet)))).length

/-- Points for squares of one level along two neighbouring lines. -/
def squarePoints (a b : List Bool) : Nat :=
  let ps := a.zip b
  3 * ((ps.zip (ps.drop 1)).filter (fun q => q.1.1 == q.1.2 && q.2.1 == q.2.2 && q.1.1 == q.2.1)).length

/-- The penalty of a symbol. -/
def qrPenalty (n : Nat) (rows : List Nat) : Nat :=
  let hs := rows.map (fun r => (List.range n).map r.testBit)
  let vs := (List.range n).map (fun x => rows.map (·.testBit x))
  let sum (l : List Nat) : Nat := l.foldl (· + ·) 0
  let dark := sum (rows.map (popCount n))
  let off := max (20 * dark) (10 * n * n) - min (20 * dark) (10 * n * n)
  sum (hs.map runPoints) + sum (vs.map runPoints) + sum (hs.map finderPoints) + sum (vs.map finderPoints) +
    sum ((hs.zip (hs.drop 1)).map (fun p => squarePoints p.1 p.2)) + 10 * (off / (n * n))

/-- The rows of the symbol: the mask of least penalty; which of several is free (log entry 9). -/
def qrRows (v level : Nat) (d : List Byte) : List Nat :=
  let n := qrSize v
  let msg := qrMessage v level d
  let path := (qrPath v).mapIdx (fun i p => (p, msg.getD i false))
  let drawn := (List.range 8).map (fun m => qrDraw v level m path)
  let scores := drawn.map (qrPenalty n)
  let least := scores.foldl min (scores.headD 0)
  let best := (drawn.zip scores).filter (fun p => p.2 == least)
  ((best[Config.maskChoice d % best.length]?).map (·.1)).getD []

end Sys2Proof.Machine
end

