-- ==== Sys2Proof/Machine/Layout.lean ====
section
/-! DEFINITION. Ticket descriptions (R338 to R349, R353, R354): their elements, text and its lines, symbols, and the marks
that the layout leaves on the rows. -/

namespace Sys2Proof.Machine

/-! ### Elements (R338, R339) -/

/-- An element: type, flags and body. -/
structure Elem where
  type : Nat
  flags : Nat
  body : List Byte
deriving DecidableEq, Repr

/-- Elements that fill the bytes exactly, or none. -/
def splitElems : Nat → List Byte → Option (List Elem)
  | 0, bs => if bs.isEmpty then some [] else none
  | k + 1, bs =>
    let n := fieldAt bs 2 2
    if bs.length < 4 + n then none
    else (splitElems k (bs.drop (4 + n))).map (⟨fieldAt bs 0 1, fieldAt bs 1 1, slice bs 4 n⟩ :: ·)

/-- The elements of a description, or none where it fails with FORMAT (R338). A COUNT above 4,096 is no valid header
(DEDUCED, log entry 66). Reserved bytes are not judged (R9). -/
def descElems (d : List Byte) : Option (List Elem) :=
  let n := fieldAt d 6 2
  if slice d 0 5 ≠ ascii "NLTD" ++ [1] ∨ d.length < 16 ∨ 4096 < n ∨ fieldAt d 8 4 ≠ d.length - 16 then none
  else splitElems n (d.drop 16)

def strictlyUp : List Nat → Bool
  | a :: b :: l => decide (a < b) && strictlyUp (b :: l)
  | _ => true

def tabStops (b : List Byte) : List (Nat × Nat) :=
  (List.range (fieldAt b 0 1)).map (fun i => (fieldAt b (1 + 3 * i) 2, fieldAt b (3 + 3 * i) 1))

/-- The fields that Code 128 and EAN-13 share. -/
def barOk (b : List Byte) : Bool :=
  decide (fieldAt b 1 1 ≤ 1 ∧ 16 ≤ fieldAt b 2 2 ∧ fieldAt b 2 2 ≤ 1024 ∧ fieldAt b 4 1 ≤ 2 ∧ fieldAt b 5 1 ≤ 1)

/-- The element keeps to R339. What STYLE leaves unused of ATTR, bits 7:3, is ignored (R9). -/
def elemOk (e : Elem) (last : Bool) : Bool :=
  let b := e.body
  let n := b.length
  let f (i : Nat) : Nat := fieldAt b i 1
  e.flags == 0 && match e.type with
  | 0x01 => n == 8 && decide (1 ≤ f 2 ∧ f 2 ≤ 4 ∧ 1 ≤ f 3 ∧ f 3 ≤ 4 ∧ f 5 ≤ 1 ∧ f 6 ≤ 2)
  | 0x02 => decide (1 ≤ n ∧ n ≤ 4096)
  | 0x03 => decide (1 ≤ n ∧ f 0 ≤ 8 ∧ n = 1 + 3 * f 0) && (tabStops b).all (fun t => t.2 == 0 || t.2 == 2) &&
      strictlyUp ((tabStops b).map (·.1))
  | 0x04 => n == 4 && decide (fieldAt b 0 2 + fieldAt b 2 2 ≤ 1826)
  | 0x05 => n == 2 && decide (1 ≤ fieldAt b 0 2 ∧ fieldAt b 0 2 ≤ 4096)
  | 0x06 => n == 8 && decide (1 ≤ fieldAt b 0 2 ∧ fieldAt b 0 2 ≤ 256 ∧ fieldAt b 2 2 < fieldAt b 4 2 ∧ fieldAt b 4 2 ≤ 1890 ∧
      f 6 ≤ 1 ∧ f 7 ≤ 1)
  | 0x07 => n == 6 && decide (1 ≤ f 2 ∧ f 2 ≤ 4 ∧ f 3 ≤ 2 ∧ f 4 ≤ 2)
  | 0x08 => decide (9 ≤ n ∧ n ≤ 72 ∧ 1 ≤ f 0 ∧ f 0 ≤ 8) && barOk b
  | 0x09 => (n == 20 || n == 21) && decide (2 ≤ f 0 ∧ f 0 ≤ 8) && barOk b
  | 0x0A => decide (9 ≤ n ∧ n ≤ 2056 ∧ 2 ≤ f 0 ∧ f 0 ≤ 16 ∧ f 1 ≤ 3 ∧ f 2 ≤ 25 ∧ f 3 ≤ 2 ∧ f 4 ≤ 1)
  | 0x0B => n == 2 && decide (f 0 ≤ 2) && last
  | _ => false

/-! ### UTF-8 (R341) -/

def contByte (b : Byte) : Bool := decide (0x80 ≤ b.toNat ∧ b.toNat ≤ 0xBF)

/-- The code point that a valid sequence starting with this byte spells, and the bytes it takes after the first. -/
def seqAt (b : Byte) (bs : List Byte) : Option (Nat × Nat) :=
  let c (i : Nat) : Nat := (byteAt bs i).toNat % 64
  let conts (n : Nat) : Bool := decide (n ≤ bs.length) && (bs.take n).all contByte
  let v := b.toNat
  if v < 0x80 then some (v, 0)
  else if 0xC2 ≤ v ∧ v ≤ 0xDF ∧ conts 1 then some (v % 32 * 64 + c 0, 1)
  else if 0xE0 ≤ v ∧ v ≤ 0xEF ∧ conts 2 then
    let p := v % 16 * 4096 + c 0 * 64 + c 1
    if p < 0x800 ∨ (0xD800 ≤ p ∧ p ≤ 0xDFFF) then none else some (p, 2)
  else if 0xF0 ≤ v ∧ v ≤ 0xF4 ∧ conts 3 then
    let p := v % 8 * 262144 + c 0 * 4096 + c 1 * 64 + c 2
    if p < 0x10000 ∨ 0x10FFFF < p then none else some (p, 3)
  else none

/-- The code points of a text; none for each byte of an invalid sequence. -/
def utf8 : Nat → List Byte → List (Option Nat)
  | 0, _ => []
  | _, [] => []
  | k + 1, b :: bs => match seqAt b bs with
    | some (p, n) => some p :: utf8 k (bs.drop n)
    | none => none :: utf8 k bs

/-! ### Fonts (R342, R350, R353, R354) -/

/-- The ROM font, or a stored font's bytes. -/
inductive Font where
  | rom
  | stored (b : List Byte)
deriving DecidableEq, Repr

def Font.cell : Font → Nat
  | .rom => 32
  | .stored b => fontCell b
def Font.base : Font → Nat
  | .rom => 25
  | .stored b => fieldAt b 7 1

/-- The ROM font has a glyph for the code point. -/
def romHas (p : Nat) : Bool := decide ((0x20 ≤ p ∧ p ≤ 0x7E) ∨ (0xA0 ≤ p ∧ p ≤ 0xFF))

/-- The ROM font's DEFAULT glyph: a hollow box within the 16 x 32 cell, its place, size and stroke free (R353, log entry
8). -/
def romDefault : List Nat :=
  let w := 3 + Config.romBox 0 % 14
  let h := 3 + Config.romBox 1 % 30
  let x := Config.romBox 2 % (17 - w)
  let y := Config.romBox 3 % (33 - h)
  let k := 1 + Config.romBox 4 % ((min w h - 1) / 2)
  (List.range 32).map (fun i =>
    if i < y ∨ y + h ≤ i then 0
    else if i < y + k ∨ y + h ≤ i + k then (2 ^ w - 1) * 2 ^ x
    else (2 ^ k - 1) * (1 + 2 ^ (w - k)) * 2 ^ x)

/-- A glyph's advance and its bitmap, one number per line. The ROM font's other bitmaps are free values (log entry 8). -/
def Font.glyph (f : Font) (p : Option Nat) : Nat × List Nat :=
  match f with
  | .rom =>
    match p with
    | some p =>
      if romHas p then (16, (List.range 32).map (fun i => (Config.romGlyph p).getD i 0 % 2 ^ 16)) else (16, romDefault)
    | none => (16, romDefault)
  | .stored b =>
    let found := match p with
      | some p => (List.range (fontGlyphs b)).find? (fun i => (glyphAt b i).code == p)
      | none => none
    let g := glyphAt b (found.getD (fieldAt b 10 2))
    let w := ceilDiv g.width 8
    (g.advance, (List.range (fontCell b)).map (fun i => ofLe (slice b (g.offset + i * w) w) % 2 ^ g.width))

/-- A stored object is there and good, or the code with which the job fails (R354). -/
def useObject (s : State) (logo : Bool) (id : Nat) : Nat ⊕ List Byte :=
  match findObj s.nvm logo id with
  | none => .inl (if logo then 4 else 3)
  | some o =>
    if crc32c o.bytes != o.crc || (pv s.params 0x0E10 == 1 && !countsSigned s o) then .inl 5 else .inr o.bytes

def useFont (s : State) (id : Nat) : Nat ⊕ Font :=
  if id = 0xFFFF then .inr .rom else
  match useObject s false id with
  | .inl c => .inl c
  | .inr b => .inr (.stored b)

/-! ### Marks -/

/-- Dots set, and then dots cleared, on one line of one row. -/
structure Mark where
  y : Nat
  row : Nat
  set : Nat
  clear : Nat
deriving DecidableEq, Repr

/-- Each of `w` bits repeated `n` times. -/
def widen (w n bits : Nat) : Nat :=
  (List.range w).foldl (fun a i => if bits.testBit i then a + (2 ^ n - 1) * 2 ^ (i * n) else a) 0

def spanBits (a b : Nat) : Nat := 2 ^ b - 2 ^ a

/-- A bitmap of lines scaled by `n` both ways, with its corner at (x, y). -/
def stamp (row x y w sx sy : Nat) (lines : List Nat) : List Mark :=
  (List.range (lines.length * sy)).map (fun i => ⟨y + i, row, widen w sx (lines.getD (i / sy) 0) * 2 ^ x, 0⟩)

/-- The same from a corner that may lie left of position 0, clipped there. -/
def stampAt (row : Nat) (x : Int) (y w sx sy : Nat) (lines : List Nat) : List Mark :=
  (stamp row x.toNat y w sx sy lines).map (fun m => { m with set := m.set / 2 ^ (-x).toNat })

/-! ### Lines of text (R342 to R345) -/

/-- What stands on a line of text: a glyph, or an HT; with the state it was met under. -/
structure Tok where
  tab : Bool
  space : Bool
  adv : Nat                    -- scaled; of an HT, one space advance
  cell : Nat
  base : Nat
  lines : List Nat
  sx : Nat
  sy : Nat
  attr : Nat
  row : Nat
  align : Nat
  spacing : Nat
  left : Nat
  right : Nat                  -- the right margin's position
  stops : List (Nat × Nat)
deriving DecidableEq, Repr

/-- The width of a segment: up to the next HT or the end of the line. -/
def segWidth : List Tok → Nat
  | [] => 0
  | t :: ts => if t.tab then 0 else t.adv + segWidth ts

/-- Where the segment after an HT starts (R345). -/
def tabStart (t : Tok) (pen width : Nat) : Nat :=
  match t.stops.find? (fun p => decide (pen < t.left + p.1)) with
  | none => pen + t.adv
  | some (p, 0) => t.left + p
  | some (p, _) => if t.left + p < pen + width then pen + 16 else t.left + p - width

/-- Place tokens until a glyph would cross the right margin: those placed, newest first, and those left. -/
def place : List Tok → Nat → List (Tok × Nat) → List (Tok × Nat) × List Tok
  | [], _, acc => (acc, [])
  | t :: ts, pen, acc =>
    if t.tab then place ts (tabStart t pen (segWidth ts)) ((t, pen) :: acc)
    else if t.right < pen + t.adv then (acc, t :: ts)
    else place ts (pen + t.adv) ((t, pen) :: acc)

def isSpace (t : Tok × Nat) : Bool := t.1.space

/-- One line of text as it is drawn: its tokens and pens, the token whose style holds at its end, if it was broken. -/
structure TextLine where
  toks : List (Tok × Nat)
  broken : Option Tok
deriving DecidableEq, Repr

/-- Break a run of tokens into lines (R344). A space that would cross the margin is itself the place of the break
(DEDUCED, log entry 67). -/
def wrap : Nat → List Tok → List TextLine
  | 0, _ => []
  | _, [] => []
  | k + 1, t :: ts =>
    match place (t :: ts) t.left [] with
    | (acc, []) => [⟨acc.reverse, none⟩]
    | (acc, c :: rest) =>
      let (kept, moved) :=
        if c.space then (acc, []) else if acc.any isSpace then
          (acc.dropWhile (fun p => !isSpace p), ((acc.takeWhile (fun p => !isSpace p)).map (·.1)).reverse)
        else (acc, [])
      let kept := kept.dropWhile isSpace
      ⟨kept.reverse, some c⟩ :: wrap k ((moved ++ c :: rest).dropWhile (·.space))

def glyphsOf (l : TextLine) : List Tok := (l.toks.map (·.1)).filter (fun t => !t.tab)

/-- What moves a line to its alignment (R344). -/
def alignShift (l : TextLine) : Nat :=
  match glyphsOf l, l.toks.getLast? with
  | g :: _, some (t, x) =>
    let room := g.right - (x + t.adv)
    if l.toks.any (fun p => p.1.tab) ∨ g.align = 0 then 0 else if g.align = 1 then room / 2 else room
  | _, _ => 0

/-- A glyph's marks, in a line of height `h` from y with its baseline at `base` (R342). -/
def glyphMarks (t : Tok) (x y base h : Nat) : List Mark :=
  let shape := stamp t.row x (y + base - t.base) 128 t.sx t.sy t.lines
  let shape := if t.attr.testBit 0 then shape.map (fun m => { m with set := m.set ||| m.set * 2 }) else shape
  let full := spanBits x (x + t.adv)
  let under := if t.attr.testBit 1 then
      (List.range (2 * t.sy)).map (fun i => (⟨y + base + 2 * t.sy + i, t.row, full, 0⟩ : Mark)) else []
  if t.attr.testBit 2 then
    (List.range h).map (fun i => (⟨y + i, t.row, full, 0⟩ : Mark)) ++ shape.map (fun m => { m with set := 0, clear := m.set })
  else shape ++ under

/-- A line's height and marks; `cell` is the current font's, for a line with no glyph (R343). -/
def drawLine (l : TextLine) (y cell spacing : Nat) : Nat × List Mark :=
  let gs := glyphsOf l
  let tall := gs.foldl (fun a t => max a t.cell) 0
  let base := gs.foldl (fun a t => max a t.base) 0
  let h := (if gs.isEmpty then cell else tall) + spacing
  let dx := alignShift l
  (h, (l.toks.filter (fun p => !p.1.tab)).flatMap (fun p => glyphMarks p.1 (p.2 + dx) y base h))

/-- Lines one under the other from y. The spacing is the one in force where the line ends. -/
def drawLines (cell spacing : Nat) : List TextLine → Nat → Nat × List Mark
  | [], y => (y, [])
  | l :: ls, y =>
    let (h, ms) := match l.broken with
      | some t => drawLine l y t.cell t.spacing
      | none => drawLine l y cell spacing
    let (y', ms') := drawLines cell spacing ls (y + h)
    (y', ms ++ ms')

/-! ### Symbols (R346, R348, R349) -/

/-- The HRI line: the ROM font, centred under the bars, 8 lines below them (R349). -/
def hriMarks (row mid y : Nat) (d : List Byte) : List Mark :=
  (List.range d.length).flatMap (fun i =>
    stampAt row ((mid : Int) - ((8 * d.length : Nat) : Int) + ((16 * i : Nat) : Int)) (y + 8) 16 1 1
      (Font.rom.glyph (some (byteAt d i).toNat)).2)

/-- A block: its width and height, and its marks from the corner (x, y). -/
structure Block where
  width : Nat
  height : Nat
  draw : Nat → Nat → List Mark

/-- A bar symbol of `total` modules: bars of `w` modules after a quiet zone of `quiet`, over the element's height, then guard
bars over `more` lines. -/
def barBlock (b : List Byte) (row total quiet w bars guards more : Nat) (shown : List Byte) : Block :=
  let m := fieldAt b 0 1
  let h := fieldAt b 2 2
  let hri := fieldAt b 1 1 = 1
  ⟨total * m, h + more + (if hri then 40 else 0), fun x y =>
    let lines (v y n : Nat) : List Mark :=
      (List.range n).map (fun k => ⟨y + k, row, widen w m v * 2 ^ (x + quiet * m), 0⟩)
    lines bars y h ++ lines guards (y + h) more ++
    (if hri then hriMarks row (x + quiet * m + w * m / 2) (y + h + more) shown else [])⟩

/-- The symbol of an element, or SYMBOL_DATA (R348, R349). Code 128 has its quiet modules ten to each side (DEDUCED, log
entry 68). -/
def symbolBlock (e : Elem) (row : Nat) : Option Block :=
  let b := e.body
  let d := b.drop 8
  match e.type with
  | 0x08 =>
    if !d.all (fun x => decide (x.toNat ≤ 0x7F) || x == 0xF1) then none else
    let w := 11 * (code128Count d + 2) + 13
    some (barBlock b row (w + 20) 10 w (code128Row d) 0 0 (d.filter (· != 0xF1)))
  | 0x09 =>
    let full := d.take 12 ++ [eanCheck d]
    if !d.all isDigit ∨ (d.length = 13 ∧ d ≠ full) then none
    else some (barBlock b row 113 11 95 (eanRow full) eanGuards (5 * fieldAt b 0 1) full)
  | _ =>
    (qrVersion (fieldAt b 1 1) (fieldAt b 2 1) d).map (fun v =>
      let m := fieldAt b 0 1
      ⟨(25 + 4 * v) * m, (25 + 4 * v) * m, fun x y =>
        stamp row (x + 4 * m) (y + 4 * m) (qrSize v) m m (qrRows v (fieldAt b 1 1) d)⟩)

end Sys2Proof.Machine
end

