-- ==== Sys2Proof/Machine/Render.lean ====
section
/-! DEFINITION. The layout pass over a description, the reprint banner, the bands it gives, and the renderer's rows (R23,
R329, R340, R346, R347, R355 to R358). -/

namespace Sys2Proof.Machine

/-! ### The layout pass -/

/-- Where the layout stands: the cursor, the style and margins, the line being filled (newest first), and what has been
drawn (newest first). -/
structure Lay where
  y : Nat
  font : Nat
  sx : Nat
  sy : Nat
  attr : Nat
  row : Nat
  align : Nat
  spacing : Nat
  stops : List (Nat × Nat)
  left : Nat
  right : Nat
  line : List Tok
  marks : List (List Mark)
  cut : Nat
deriving DecidableEq, Repr

/-- The state at a description's start (R340), from the job's latched parameters. -/
def Lay.start (j : Job) (y : Nat) : Lay :=
  { y, font := 0, sx := 1, sy := 1, attr := 0, row := 0, align := 0, spacing := 0, stops := [], left := j.params.getD 0 24
    right := rowBits - j.params.getD 1 24, line := [], marks := [], cut := j.params.getD 4 2 }

def Lay.room (l : Lay) : Nat := l.right - l.left

/-- The font in force (R339, R354). -/
def layFont (s : State) (j : Job) (l : Lay) : Nat ⊕ Font := useFont s (if l.font = 0 then j.params.getD 2 0xFFFF else l.font)

def layTok (l : Lay) (f : Font) (tab : Bool) (p : Option Nat) : Tok :=
  let g := f.glyph p
  { tab, space := !tab && p == some 0x20, adv := g.1 * l.sx, cell := f.cell * l.sy, base := f.base * l.sy, lines := g.2
    sx := l.sx, sy := l.sy, attr := l.attr, row := l.row, align := l.align, spacing := l.spacing, left := l.left
    right := l.right, stops := l.stops }

/-- The line ends: it is broken, aligned and drawn, and y advances; `cell` is the current font's scaled height. -/
def endLine (l : Lay) (cell : Nat) : Lay :=
  let toks := l.line.reverse
  let lines := if toks.isEmpty then [⟨[], none⟩] else wrap (toks.length + 1) toks
  let (y, ms) := drawLines cell l.spacing lines l.y
  { l with y, line := [], marks := ms :: l.marks }

/-- A block element or the end of the description ends a line that holds glyphs. -/
def closeLine (l : Lay) : Lay := if l.line.any (fun t => !t.tab) then endLine l ((l.line.map (·.cell)).headD 0) else { l with line := [] }

/-- The code points of a TEXT element: a failure code, or what they leave (R341, R344). -/
def layText (s : State) (j : Job) : List (Option Nat) → Lay → Nat ⊕ Lay
  | [], l => .inr l
  | p :: ps, l =>
    let low := match p with
      | some v => (decide (v < 0x20) && v != 0x09 && v != 0x0A) || v == 0x7F
      | none => false
    if low then layText s j ps l else
    match layFont s j l with
    | .inl c => .inl c
    | .inr f =>
      if p = some 0x0A then layText s j ps (endLine l (f.cell * l.sy))
      else if p = some 0x09 then layText s j ps { l with line := layTok l f true (some 0x20) :: l.line }
      else
        let t := layTok l f false p
        if l.room < t.adv then .inl 6 else layText s j ps { l with line := t :: l.line }

/-- A colour's row (R330). -/
def colourRow (s : State) (c : Nat) : Nat := if twoRows s then c else 0

/-- A block stands on lines of its own (R346), or is TOO_WIDE. -/
def layBlock (l : Lay) (align : Nat) (b : Block) : Nat ⊕ Lay :=
  let l := closeLine l
  if l.room < b.width then .inl 6 else
  let x := l.left + (if align = 0 then 0 else if align = 1 then (l.room - b.width) / 2 else l.room - b.width)
  .inr { l with y := l.y + b.height, marks := b.draw x l.y :: l.marks }

/-- A RULE's dots: solid, or 16 on and 16 off from START (the first 16 on: DEDUCED, log entry 66). -/
def ruleBits (start stop : Nat) (dashed : Bool) : Nat :=
  if dashed then (List.range (ceilDiv (stop - start) 32)).foldl (fun a i =>
    a + spanBits (start + 32 * i) (min stop (start + 32 * i + 16))) 0
  else spanBits start stop

/-- A stored logo as a block (R346, R351). -/
def logoBlock (s : State) (b : List Byte) (scale colours : Nat) : Block :=
  let w := logoWidth b
  let (black, red) := (logoPlanes b).getD ([], [])
  let row (own : Nat) : Nat := colourRow s (if colours = 0 then own else colours - 1)
  ⟨w * scale, logoHeight b * scale, fun x y => stamp (row 0) x y w scale scale black ++ stamp (row 1) x y w scale scale red⟩

/-- One element: the code with which it fails the job, or the layout after it. -/
def layElem (s : State) (j : Job) (e : Elem) (last : Bool) (l : Lay) : Nat ⊕ Lay :=
  let b := e.body
  let f (i : Nat) : Nat := fieldAt b i 1
  if !elemOk e last then .inl 2 else
  match e.type with
  | 0x01 => .inr { l with
      font := fieldAt b 0 2, sx := f 2, sy := f 3, attr := f 4, row := colourRow s (f 5), align := f 6, spacing := f 7 }
  | 0x02 => layText s j (utf8 b.length b) l
  | 0x03 => .inr { l with stops := tabStops b }
  | 0x04 => .inr { l with left := fieldAt b 0 2, right := rowBits - fieldAt b 2 2 }
  | 0x05 => let l := closeLine l; .inr { l with y := l.y + fieldAt b 0 2 }
  | 0x06 =>
    let l := closeLine l
    let n := fieldAt b 0 2
    let v := ruleBits (fieldAt b 2 2) (fieldAt b 4 2) (f 7 == 1)
    .inr { l with y := l.y + n, marks := (List.range n).map (fun i => ⟨l.y + i, colourRow s (f 6), v, 0⟩) :: l.marks }
  | 0x07 => match useObject s true (fieldAt b 0 2) with
    | .inl c => .inl c
    | .inr o => layBlock l (f 3) (logoBlock s o (f 2) (f 4))
  | 0x0B => .inr { closeLine l with cut := f 0 }
  | t => match symbolBlock e (colourRow s (f (if t = 0x0A then 4 else 5))) with
    | none => .inl 8
    | some k => layBlock l (f (if t = 0x0A then 3 else 4)) k

/-- The elements in order, each with its index: a JOB_STATE DETAIL, or the layout (R358). -/
def layElems (s : State) (j : Job) : List Elem → Nat → Lay → Nat ⊕ Lay
  | [], _, l => .inr l
  | e :: es, i, l =>
    match layElem s j e es.isEmpty l with
    | .inl c => .inl (c + 65536 * i)
    | .inr l => layElems s j es (i + 1) l

/-- The reprint banner: one line of 64, centred between the ticket's margins whatever their space, then 16 blank lines
(R357; DEDUCED, log entry 69). -/
def bannerMarks (j : Job) : List Mark :=
  let t := ascii "** REPRINT **"
  let mid := (j.params.getD 0 24 + (rowBits - j.params.getD 1 24)) / 2
  (List.range t.length).flatMap (fun i =>
    stampAt 0 ((mid : Int) - ((16 * t.length : Nat) : Int) + ((32 * i : Nat) : Int)) 0 16 2 2
      (Font.rom.glyph (some (byteAt t i).toNat)).2)

/-- The marks on one line of a row, in the order drawn. -/
def rowLine (ms : List Mark) (row y : Nat) : Nat :=
  (ms.filter (fun m => m.row == row && m.y == y)).foldl (fun v m =>
    let v := v ||| m.set
    v ^^^ (v &&& m.clear)) 0 % 2 ^ rowBits

/-- The ticket a description gives: its length, its cut and its bands; or the DETAIL with which the job fails. The whole is
judged at the first use of everything it names, before a block is taken (R329, R347, R354, R358). -/
def layout (s : State) (j : Job) : Nat ⊕ (Nat × Nat × List Band) :=
  match descElems j.desc with
  | none => .inl (1 + 65536 * 0xFFFF)
  | some es =>
    let top := if j.banner then bannerMarks j else []
    match layElems s j es 0 (Lay.start j (if j.banner then 80 else 0)) with
    | .inl d => .inl d
    | .inr l =>
      let l := closeLine l
      let lines := l.y + j.params.getD 3 118
      let ms := top ++ l.marks.reverse.flatten
      let band (n : Nat) : Band :=
        let k := min 64 (lines - 64 * n)
        let rows (r : Nat) : List Nat := (List.range k).map (fun i => rowLine ms r (64 * n + i))
        mkBand s (64 * n) (rows 0) (rows 1)
      let bands := (List.range (ceilDiv lines 64)).map band
      if storeBlocks < (bands.map (·.blocks)).foldl (· + ·) 0 then .inl (7 + 65536 * 0xFFFF)
      else .inr (lines, l.cut, bands)

/-! ### The renderer (R355 to R358) -/

/-- The description job the renderer works on. -/
def rendered (s : State) : Option Job := s.jobs.live.find? (fun j => !j.raster && j.st == .rendering)

/-- A description job to render: QUEUED, or INTERRUPTED with a reprint queued. -/
def renderable (j : Job) : Bool := !j.raster && (j.st == .queued || (j.st == .interrupted && j.reprintDue))

/-- Description jobs to render, in the order of R355: before all, the one that another has given way to. -/
def toRender (s : State) : List Job :=
  let js := (renderOrder s).filter renderable
  js.filter (fun j => s.jobs.first = some j.id) ++ js.filter (fun j => s.jobs.first ≠ some j.id)

/-- Those of a higher class that stand before a waiting job in that order (R355, R383). -/
def aheadOf (s : State) (w : Job) : List Job :=
  ((renderOrder s).takeWhile (fun j => j.id != w.id)).filter (fun j => renderable j && decide (effClass j < effClass w))

/-- The bound of R356 on a description's rendering, in us: the layout pass, its QR symbols, and each row drawn; a row-band
that is blank takes none. -/
def renderTime (j : Job) (bands : List Band) : Nat :=
  let es := (descElems j.desc).getD []
  let rows (b : Band) : Nat := (if b.black.any (· != 0) then 1 else 0) + (if b.red.any (· != 0) then 1 else 0)
  1000 + 20 * es.length + 12000 * (es.filter (fun e => e.type == 0x0A)).length +
    25 * (bands.map (fun b => b.lines * rows b)).foldl (· + ·) 0

/-- The stored objects that a description names: its default font, its fonts and its logos (R354). -/
def namedObjects (s : State) (j : Job) : List (List Byte) :=
  let font (id : Nat) := findObj s.nvm false (if id = 0 then j.params.getD 2 0xFFFF else id)
  let els := (descElems j.desc).getD []
  (font 0 :: els.map (fun e => if e.type = 0x01 then font (fieldAt e.body 0 2)
    else if e.type = 0x07 then findObj s.nvm true (fieldAt e.body 0 2) else none)).filterMap (fun o => o.map (·.bytes))

/-- Rendering begins: the TICKET parameters are latched (R252), the layout is judged, and the blocks are taken or waited
for. -/
def beginRender (s : State) (j : Job) : State :=
  let s := wakeDoze { s with jobs := { s.jobs with first := none } }
  let s := if j.st = .interrupted then setJobState s j.id .queued 0 else s
  let s := setJobState (modJob s j.id (latchTicket s)) j.id .rendering 0
  let s := (namedObjects s (latchTicket s j)).foldl (fun s b => noteRead s (objectStream b) b) s
  match layout s (latchTicket s j) with
  | .inl d => schedule (failJob s j.id d)
  | .inr (lines, cut, bands) =>
    let need := (bands.map (·.blocks)).foldl (· + ·) 0
    let wait := decide (storeBlocks < blocksUsed s + need)
    modJob s j.id (fun j => { j with
      lines, cut, bands := bands.map some, planned := need, wait, rendAt := s.clk.hubTime, rendLeft := renderTime j bands })

/-- The renderer takes the next description job; one that waits for blocks gives way to a higher class (R355). -/
def execRenderStart (s : State) : Out :=
  if !coreRuns s ∨ s.pwr.entry.isSome then .next s else
  match rendered s with
  | none => match toRender s with
    | j :: _ => .next (beginRender s j)
    | [] => .next s
  | some w =>
    if !w.wait then .next s else
    match aheadOf s w with
    | j :: _ => .next (beginRender (requeue s w.id) j)
    | [] => .next s

/-- A band drawn again under the map as it stands (R454). -/
def redraw (s : State) (bs : List (Option Band)) : List (Option Band) :=
  bs.mapIdx (fun n b => b.map (fun b => mkBand s (64 * n) b.black b.red))

/-- A RENDERING job takes free blocks, where it waits for them and can go on: a description job takes all it needs at once, a raw
stream's job those for which its bytes have come (R329, R337). -/
def takeBlocks (s : State) (j : Job) : Option State :=
  if j.raster then
    (rawLinks s).findSome? (fun l => match rawIn s l with
      | some w =>
        if !w.buf.isEmpty && decide ((rawJob s w.ctx.val).map (fun k => k.id) = some j.id) then
          (rawStep s w).map (fun p => pumpHead l (rawBytes s l + 4) (putRaw p.1 l p.2))
        else none
      | none => none)
  else match rendered s with
    | some w =>
      if w.wait && decide (blocksUsed s + w.planned ≤ storeBlocks) then
        some (modJob s w.id (fun j => { j with wait := false, bands := redraw s j.bands, rendAt := s.clk.hubTime }))
      else none
    | none => none

/-- Free blocks go to the RENDERING jobs in the order of R383, each of which takes what it has room for (R535; DEDUCED, log entry
191). -/
def giveBlocks : Nat → State → State
  | 0, s => s
  | k + 1, s =>
    match (renderOrder s ++ s.jobs.live).findSome? (fun j => if j.st = .rendering then takeBlocks s j else none) with
    | some s' => giveBlocks k s'
    | none => s

/-- Blocks have come free: the jobs that wait for them go on, in the order in which Saffron takes tickets (R23, R329, R337,
R535). -/
def execRenderResume (s : State) : Out :=
  if !coreRuns s then .next s else
  .next (schedule (giveBlocks (2 + (rawLinks s).foldl (fun n l => n + rawBytes s l) 0) s))

/-- The last band is in the store: the job is READY. Everything that could fail it has been judged at its start. -/
def execRenderDone (s : State) : Out :=
  match rendered s with
  | some j => .next (if j.wait || !coreRuns s then s else becomeReady s j.id)
  | none => .next s

end Sys2Proof.Machine
end

