-- ==== Sys2Proof/Machine/SchedCmd.lean ====
section
/-! DEFINITION. Events of energy and the scheduler: DISCH's time and release (R364, R366), the charger gate and the
accounting windows (R371, R372), and the moments at which Saffron and the feed go on (R381, R383, R384, R405). -/

namespace Sys2Proof.Machine

/-- t_DISCH has passed in this assertion: judged once, in RUN, DOZE and NAP (R364). -/
def execDischTimeout (s : State) : Out :=
  if !s.saf.disch ∨ s.saf.dischLate ∨ (s.pwr.st ≠ .run ∧ s.pwr.st ≠ .doze ∧ s.pwr.st ≠ .nap) then .next s else
  let s := { s with saf := { s.saf with dischLate := true } }
  .next (if below1J s then s else assertDisch s 9)

/-- Every condition of R366, with those of R97. -/
def dischMayRelease (s : State) : Bool :=
  coreRuns s && (decide (s.pwr.st = .run) || decide (s.pwr.st = .doze)) && freshAll s && !coverOpen s && !s.saf.hold &&
  decide (s.seq.ph = .running) && !s.seq.vinLow && !s.seq.frozen && !detDisch s && (!s.saf.needLow || below1J s)

/-- M1 and M2 may move again: what moves toward a home input that reads active is there (R411, R412, R415). -/
def homesNow (s : State) : State :=
  let s := if cutHome s && !cutterStands s then endCutHoming (endCut s) else s
  if sledHome s && !s.motion.disabled.toNat.testBit 2 then endSledHoming s else s

/-- Saffron releases DISCH, logged with reason RELEASED (R365, R366); the charger may come on, and what was held goes on, which is
work in DOZE (R99). -/
def execDischRelease (s : State) : Out :=
  if !s.saf.disch || !dischMayRelease s then .next s else
  let s := seqReq s 0 (fun s => { s with saf := { s.saf with disch := false, reasons := 0, needLow := false, dischLate := false } })
  let s := updateCharger (logEvent s 0x0602 [0])
  let s := if busyMotors s.motion = 0 then s else raiseEn (wakeDoze s) (busyMotors s.motion)
  .next (afterTicket (homesNow (resumeFeed s)))

/-- The two conditions of R372, in 0.1 uJ: what the window has taken, the slot at SAF_CHG_POWER / SAF_CHG_EFF and
SAF_BASE_POWER for the rest stay within the budget; and the previous slot kept to the allocation. -/
def gateMayOpen (s : State) : Bool :=
  let rest := 1000 * s.saf.winLen - since s s.saf.winStart
  let budget := s.saf.winBudget + s.saf.alloc * (since s s.saf.budgetAt + rest)
  let eff := pv s.params 0x0605
  let n (x : Nat) : Rat := (x : Rat)
  decide ((10 * s.saf.winEnergy + n (pv s.params 0x0606 * rest)) * n eff + n (100000 * pv s.params 0x0604) ≤ n (budget * eff)) &&
  decide (s.saf.slotEnergy ≤ n (100 * s.saf.alloc))

/-- A 1 ms slot of CHG_GATE begins, the charger enable a request to Clove where it changes (R82); between a VINFAIL trip and
its release no enable changes (R139). -/
def execChgGateSlot (s : State) : Out :=
  let open' := s.saf.charger && s.saf.winOpen && gateMayOpen s
  let s' := if s.seq.frozen then s else if open' = s.saf.gate then gateCharger s open'
    else seqReq s 0 (fun s => gateCharger s open')
  .next { s' with saf := { s'.saf with slotEnergy := 0 } }

/-- A window ends and the next begins (R371). -/
def execAccountingWindowEnd (s : State) : Out := .next (newWindow s)

/-- The step at which a paused ticket may resume with its next band: a step that fits with the margin of R381, or 35 % by
R382. -/
def resumeStep (s : State) (j : Job) (t : Ticket) : Option Nat :=
  let n := t.admitted.length
  match bandOf j n with
  | none => none
  | some b =>
    if admitNothing s || !diesCooled s then none
    else match (allowedSteps s).find? (fits s (projected s j t n) b) with
      | some p =>
        if ((pvBand s.params 0x0608 : Nat) : Rat) / 100 * eFull s ≤ eUsable s then some p else none
      | none => admitStep s j t n 100

/-- The usable energy stands at the margin of R381, or the reservoir counts as full (R382). -/
def energyBack (s : State) : Bool :=
  decide (((pvBand s.params 0x0608 : Nat) : Rat) / 100 * eFull s ≤ eUsable s) || reservoirFull s

/-- Saffron resumes the paused ticket at the highest step that fits (R381); where every band has been admitted, once
nothing holds, the energy is back and the dies have cooled (R381, R433). -/
def execTicketResume (s : State) : Out :=
  match s.saf.ticket with
  | none => .next s
  | some t =>
    match jobOf s t.job with
    | none => .next s
    | some j =>
      if !t.paused ∨ j.st ≠ .printing then .next s
      else if j.cancelling ∨ totalBands j ≤ t.admitted.length then
        if admitNothing s || !diesCooled s || !energyBack s then .next s
        else .next (setHold { s with saf := { s.saf with ticket := some { t with paused := false, hot := false } } } j.id 0)
      else match resumeStep s j t with
        | none => .next s
        | some p =>
          let t2 := decideOn s j { admitBand s j t p with hot := false } (begunBands s t)
          .next (setHold { s with saf := { s.saf with ticket := some t2 } } j.id (if t2.paused then holdCode s else 0))

/-- The stopped feed starts again once the ready margins exceed D_stop (R405), or the ticket holds all its lines; while a
die stays at or above T_DIE_HARD, or the ticket that one has stopped has not resumed, it does not (R381, R433). The next line carries RESTART. In carriage
mode it is the next pass that starts, after the feed between swaths has ended (R416, R417). -/
def execFeedRestart (s : State) : Out :=
  match s.saf.ticket with
  | none => .next s
  | some t =>
    match jobOf s t.job with
    | none => .next s
    | some j =>
      if t.stopAt.isNone ∨ s.motion.rate ≠ 0 ∨ j.st ≠ .printing ∨ s.saf.disch ∨
          !(hotDies s).isEmpty ∨ t.hot then .next s else
      if !marginOver s t j (dStop s (t.admitted.getD (nextBand s t) t.step)) then .next s else
      let s := settleWaiting s
      let s := { s with motion := { s.motion with passEnc := (encOf s 0).raw } }
      let t' := { t with stopAt := none, restart := true, feedFrom := t.clockLine }
      .next (feedStart { s with saf := { s.saf with ticket := some t' } } .ticket (lineRate s t' t.clockLine))

/-- SAF_RENDER_WAIT has run out: Saffron takes the next READY job (R384). -/
def execRenderWaitExpiry (s : State) : Out :=
  match s.saf.awaiting with
  | none => .next s
  | some id => .next (schedule { s with saf := { s.saf with awaiting := none, spent := s.saf.spent ++ [id] } })

/-- A BULK job has been QUEUED or READY for SAF_BULK_AGE: it counts as NORMAL from then on (R383). -/
def execBulkAgeExpiry (job : Nat) (s : State) : Out :=
  match jobOf s job with
  | none => .next s
  | some j =>
    if j.prio ≠ 2 ∨ j.aged ∨ pv s.params 0x0620 = 0 ∨ (j.st ≠ .queued ∧ j.st ≠ .ready) then .next s
    else .next (schedule (modJob s job (fun j => { j with aged := true })))

end Sys2Proof.Machine
end

