-- ==== Sys2Proof/Machine/Service.lean ====
section
/-! DEFINITION. The ends of the commands of R283 that use the drop gate, the sled and the feed: a scan's verdicts and counts
(R440 to R447), a service routine (R457, R458), a FEED (R310), and the nozzle map's copy in NVM (R460). -/

namespace Sys2Proof.Machine

/-! ### Scans -/

/-- What a verdict makes of a state (R442): BAD is 3, BAD with RECOVERING 11; MARKED is left. -/
def verdictOn (st v : Nat) : Nat :=
  if st % 8 = 4 then st
  else if v = 3 then 3
  else if st = 3 then 11
  else v

def testNozzle (t : NozTest) : Nat := nozIndex t.die.val t.col.val t.idx.val

/-- The nozzles that a scan of die `d` tests, in the order of its visit (R443). -/
def scanTargets (s : State) (partialScan : Bool) (d : Nat) : List Nat :=
  let r := s.noz.rot.getD d 0
  ((List.range 2112).map (· + 2112 * d)).filter (fun i =>
    let st := stateIn s.noz.states i
    (st % 8 != 4 || s.noz.marked.contains i) &&
    (!partialScan || i % 528 % 4 == r || (decide (1 ≤ st % 8) && decide (st % 8 ≤ 3)) || s.noz.marked.contains i))

/-- The rows whose gate was set up, and the row whose set-up failed; each arrival of the sled under a row that holds a selected
die makes one (R439). -/
def rowsPassed (s : State) : List Nat → List GateSeen → List Nat × Option Nat
  | [], _ => ([], none)
  | _, [] => ([], none)
  | r :: rs, g :: gs =>
    if gatePasses s g then let (l, f) := rowsPassed s rs gs; (r :: l, f) else ([], some r)

/-- The tests that a scan completed: those that follow the order of its visit, where a nozzle that NOZ_MARK has touched since the
scan began may have been passed over (R443, R444, R449); and what of its visit remains. -/
def completedTests (s : State) : List Nat → List NozTest → List NozTest × List Nat
  | [], _ => ([], [])
  | i :: is, [] => ([], i :: is)
  | i :: is, t :: ts =>
    if testNozzle t = i ∧ testWhole s t.drops then let (l, r) := completedTests s is ts; (t :: l, r)
    else if s.noz.marked.contains i then completedTests s is (t :: ts)
    else ([], i :: is)

/-- What a scan did: the tests it completed, none where its dies were never cool (R458); what of its visit remains; the row
whose gate failed; and the test that it was cut short in. -/
def scanDone (s : State) (v : ScanRun) (gates : List GateSeen) (tests : List NozTest) :
    List NozTest × List Nat × Option Nat × Option NozTest :=
  let rows := [0, 1].filter (fun r => v.dies.any (fun d => d / 2 == r))
  let (passed, failed) := rowsPassed s rows gates
  let under (l : List Nat) : List Nat := (v.dies.filter (fun d => l.contains (d / 2))).flatMap (scanTargets s v.part)
  let (ts, rest) := completedTests s (under passed) (if v.ran then tests else [])
  let cut := (tests.drop ts.length).head?.filter (fun t =>
    v.ran && (under passed).contains (testNozzle t) && !(ts.map testNozzle).contains (testNozzle t))
  (ts, rest ++ under (rows.filter (fun r => !passed.contains r)), failed, cut)

/-- The drops of the test in progress, where a scan was cut short, count as fires (R437; log entry 58). -/
def cutFires (s : State) (cut : Option NozTest) : State :=
  match cut with
  | some t => addFires s [testNozzle t] (min t.drops.length (pv s.params 0x0904))
  | none => s

/-- What remains to be tested: NOZ_MARK has taken the rest from the scan (R449). -/
def toTest (s : State) (rest : List Nat) : List Nat := rest.filter (fun k => !s.noz.marked.contains k)

/-- The scan has completed die `d`: nothing of it remains to be tested, and the scan has come to it (R443, R444). -/
def scannedDie (s : State) (ts : List NozTest) (rest : List Nat) (d : Nat) : Bool :=
  (toTest s rest).all (fun i => i / 2112 != d) &&
  (rest.all (fun i => i / 2112 != d) || ts.any (fun t => t.die.val == d) || (toTest s rest).isEmpty)

/-- The result of R310 and R445: DIES, BAD, SUBSTITUTED and DEAD. -/
def scanResult (solo : Bool) (old new : List (Nat × Nat)) (dies bad : Nat) : List Byte :=
  let subst := (positionsOf ((new.filter (fun p => stateIn old p.1 != p.2)).map (·.1))).filter (fun p =>
    posAssign solo old p.1 p.2 == .shared &&
    (posAssign solo new p.1 p.2 == .primary || posAssign solo new p.1 p.2 == .twin))
  [b8 dies, 0] ++ b16 bad ++ b16 subst.length ++ b16 (deadOn new dies)

/-- The sled is to be homed, with M2 enabled unless DISCH keeps it where it is (R401, R412, R415). -/
def homeSled (s : State) : State :=
  let s := { s with motion := { s.motion with homingSled := true, sledPos := none } }
  if s.saf.disch then s else raiseEn s 4

/-- The sled after a scan or routine: at park, lost where it or its sensor failed, and to be homed where DISCH or a rail
stopped it (R412, R447). -/
def sledAfter (s : State) (r : MechEnd) : State :=
  let s := { s with motion := { s.motion with sledPath := [] } }
  match r with
  | .aborted => homeSled s
  | .rail => homeSled s
  | .motor _ => { s with motion := { s.motion with sledPos := none } }
  | .home _ => { s with motion := { s.motion with sledPos := none } }
  | _ => if s.motion.capped then s else sledTo (raiseEn s 4) (pv s.params 0x0732)

/-- A scan ends (R444 to R447): its verdicts apply in one step, rotations advance, and the counts are reported. What it changed
of the map is due to be written (R460). -/
def endScan (s : State) (v : ScanRun) (ts : List NozTest) (rest : List Nat) (fail : Option (Nat × Nat)) : State :=
  let done := v.dies.filter (scannedDie s ts rest)
  let old := s.noz.states
  let counted := ts.filter (fun t => !s.noz.marked.contains (testNozzle t))
  let changes := counted.map (fun t => (testNozzle t, verdictOn (stateIn old (testNozzle t)) (verdict s t.drops)))
  let bad := (ts.filter (fun t => verdict s t.drops == 3)).length
  let eyes := ts.foldl (fun m t => assocSet m (testNozzle t) (min 255 (eyeOf s t.drops))) s.noz.eyes
  let rot := s.noz.rot.mapIdx (fun d r => if v.part && done.contains d then (r + 1) % 4 else r)
  let s := addFires s (ts.map testNozzle) (pv s.params 0x0904)
  let s := applyMap s changes
  let new := decide (eyes ≠ s.noz.eyes ∨ rot ≠ s.noz.rot)
  let s := { s with params := { s.params with atScan := none }, noz := { s.noz with
    eyes := eyes, rot := rot, scan := none, marked := []
    dirty := s.noz.dirty || new, changedRtc := if new then s.clk.rtc else s.noz.changedRtc
    autoHold := if v.auto then s.noz.autoHold || decide ((fail.map (·.1)) = some 0x000A) else s.noz.autoHold && fail.isSome } }
  let s := if v.auto && (activeDies s).all (fun d => done.contains d) then { s with motion := { s.motion with sinceScan := 0 } } else s
  let res := scanResult (soloNow s) old s.noz.states (maskOf ((List.range 4).map (fun d => v.dies.contains d))) bad
  match fail with
  | none => endAction s 0x0701 stOk res
  | some (d, i) => endAction s 0x0701 stFault (res ++ faultDetail d i)

/-- The end of a mechanism's run: one during which a required rail was lost, or is not good now, ends with RAIL, and one that
DISCH halted with ABORTED (R310, R447). -/
def railEnd (s : State) (r : MechEnd) : MechEnd :=
  if r = .ok ∧ (s.saf.railHit ∨ (firstBadRail s.seq).isSome) then .rail
  else if r = .ok ∧ s.saf.dischHit then .aborted else r

/-- A scan ends, early or complete (R439, R443, R444, R446): without a failure it is over only once everything has been tested and
no test waits for cooling, or where it yields to a job. -/
def execNozScanDone (gates : List GateSeen) (tests : List NozTest) (result : MechEnd) (s : State) : Out :=
  match s.noz.scan with
  | none => .next s
  | some v =>
    let result := railEnd s result
    let (ts, rest, failed, cut) := scanDone s v gates tests
    if result = .ok ∧ failed = none ∧ (!(toTest s rest).isEmpty ∨ v.wait.isSome) ∧ !v.yield then .next s else
    let s := cutFires (gates.foldl gateSetup s) cut
    let fail := match result, failed with
      | .ok, some r => some (0x000A, 2 * r)
      | .ok, none => none
      | r, _ => some (mechDetail s r)
    .next (afterTicket (sledAfter (endScan s v ts rest fail) result))

/-! ### Service routines -/

/-- A routine ends: the fires of the group in progress are counted, a cap is in place, a spit of every active die is the one due
after an uncap, and the command reports (R310, R437, R457, R459). -/
def endService (s : State) (v : SvcRun) (lines : Nat) (fail : Option (Nat × Nat)) : State :=
  let s := addFires s (nozzlesOf v.dies) lines
  let s := { s with noz := { s.noz with service := none } }
  let res := [b8 v.routine, b8 (maskOf ((List.range 4).map (fun d => v.dies.contains d))), 0, 0]
  match fail with
  | some (d, i) => endAction s 0x0704 stFault (res ++ faultDetail d i)
  | none =>
    let cap := decide (v.routine = 3)
    let spat := (v.routine == 1 || v.routine == 2 || v.routine == 5) && (activeDies s).all v.dies.contains
    let s := { s with motion := { s.motion with
      capped := s.motion.capped || cap, capTime := if cap && !s.motion.capped then now s else s.motion.capTime
      uncapSpit := s.motion.uncapSpit && !spat } }
    let s := if cap then sledTo s (pv s.params 0x0733) else s
    endAction s 0x0704 stOk res

/-- A service routine ends: without a failure once all its lines have fired (R458); how many lines of its last group an early
end had fired is a free value. -/
def execServiceRunDone (result : MechEnd) (s : State) : Out :=
  match s.noz.service with
  | none => .next s
  | some v =>
    let result := railEnd s result
    if result = .ok then
      if v.left ≠ 0 ∨ v.after ≠ 0 ∨ v.firing ≠ 0 then .next s else .next (afterTicket (sledAfter (endService s v 0 none) .ok))
    else
      let (n, s) := drawUpTo s v.firing
      .next (afterTicket (sledAfter (endService s v n (some (mechDetail s result))) result))

/-- A routine or scan has waited longer than 30 s for its cutoff or refill (R458), unless DISCH or a rail has halted it first
(R447). -/
def execServiceWaitTimeout (gates : List GateSeen) (tests : List NozTest) (s : State) : Out :=
  let result := railEnd s .ok
  let fail := if result = .ok then (0x0005, 0) else mechDetail s result
  match s.noz.service, s.noz.scan with
  | some v, _ =>
    .next (if waitedOut s v.wait then afterTicket (sledAfter (endService s v 0 (some fail)) result) else s)
  | none, some v =>
    if !waitedOut s v.wait then .next s else
    let (ts, rest, _, cut) := scanDone s v gates tests
    .next (afterTicket (sledAfter (endScan (cutFires (gates.foldl gateSetup s) cut) v ts rest (some fail)) result))
  | none, none => .next s

/-! ### FEED -/

/-- A FEED's feed and optional cut end: FED and CUT (R310); its cut raised M1's _EN (R401). A FEED that completes without a
synthetic edge clears a position fault (R408). -/
def execFeedDone (fed : Nat) (result : MechEnd) (s : State) : Out :=
  match running s 0x0706 with
  | none => .next s
  | some a =>
    let result := railEnd s result
    let cut := (byteAt a.payload 2).toNat.testBit 0
    let ok := decide (result = .ok)
    let m := s.motion
    let lost := match result with
      | .home k => k.val == 1
      | .motor k => k.val == 1
      | _ => false
    let s := if ok && cut then raiseEn s 2 else s
    let s := { stopFeed s .idle with motion := { (stopFeed s .idle).motion with
      cutting := none, stroke := 0
      posFault := m.posFault && (!ok || m.synthInResync)
      homingCut := m.homingCut || lost || (!ok && m.cutting.isSome) } }
    let s := if lost then setCutHome s false else if ok && cut then setCutHome s true else s
    let res := b16 fed ++ [if ok && cut then 1 else 0, 0]
    .next (afterTicket (if ok then endAction s 0x0706 stOk res
      else let (d, i) := mechDetail s result; endAction s 0x0706 stFault (res ++ faultDetail d i)))

/-! ### The map's copy in NVM -/

/-- A changed map is written into the older copy, at most once per 60 s (R460). -/
def execNozMapWrite (s : State) : Out :=
  let due := match s.noz.writtenAt with
    | some t => decide (60000000 ≤ since s t)
    | none => true
  .next (if coreRuns s && s.noz.dirty && due then writeMap (wakeDoze s) else s)

end Sys2Proof.Machine
end

