-- ==== Sys2Proof/Machine/Dispatch.lean ====
section
/-! DEFINITION. The dispatch: one arm per command of the table, each one call of that command's meaning. -/

namespace Sys2Proof.Machine

def exec (i : Instr) (s : State) : Host.Outcome State Fault Refusal :=
  match i with
  -- supplies, resets and clocks
  | .vaoGoodRise asel => Sys2Proof.Machine.execVaoGoodRise asel s
  | .vaoGoodClear => Sys2Proof.Machine.execVaoGoodClear s
  | .vioLow => Sys2Proof.Machine.execVioLow s
  | .vioGood => Sys2Proof.Machine.execVioGood s
  | .nrstLow ns => Sys2Proof.Machine.execNrstLow ns s
  | .watchdogExpiry => Sys2Proof.Machine.execWatchdogExpiry s
  | .clockFail => Sys2Proof.Machine.execClockFail s
  | .clkfailRetry good => Sys2Proof.Machine.execClkfailRetry good s
  | .rstoutMinExpiry => Sys2Proof.Machine.execRstoutMinExpiry s
  | .mainDomainRelease testmode => Sys2Proof.Machine.execMainDomainRelease testmode s
  | .ceholeReady pdCls => Sys2Proof.Machine.execCeholeReady pdCls s
  | .trstNLow => Sys2Proof.Machine.execTrstNLow s
  | .aoTrim cycles => Sys2Proof.Machine.execAoTrim cycles s
  | .xo32Qualified => Sys2Proof.Machine.execXo32Qualified s
  | .xo32Lost => Sys2Proof.Machine.execXo32Lost s
  | .xo32QualifyTimeout => Sys2Proof.Machine.execXo32QualifyTimeout s
  | .rtcSecond => Sys2Proof.Machine.execRtcSecond s
  -- power states
  | .dozeIdleExpiry => Sys2Proof.Machine.execDozeIdleExpiry s
  | .napIdleExpiry => Sys2Proof.Machine.execNapIdleExpiry s
  | .pstateEntryBegin => Sys2Proof.Machine.execPstateEntryBegin s
  | .hibIdleExpiry => Sys2Proof.Machine.execHibIdleExpiry s
  | .napLimitExpiry => Sys2Proof.Machine.execNapLimitExpiry s
  | .wkDebounce pin level => Sys2Proof.Machine.execWkDebounce pin level s
  | .phyEnergyDetect => Sys2Proof.Machine.execPhyEnergyDetect s
  | .usbResume => Sys2Proof.Machine.execUsbResume s
  | .warmReady pdCls => Sys2Proof.Machine.execWarmReady pdCls s
  | .pwrVioWaitExpiry => Sys2Proof.Machine.execPwrVioWaitExpiry s
  | .reedRefuse addr => Sys2Proof.Machine.execReedRefuse addr s
  | .hostPortHandover => Sys2Proof.Machine.execHostPortHandover s
  | .hostPortTakeback => Sys2Proof.Machine.execHostPortTakeback s
  -- the host register window
  | .dataIn bytes pec => Sys2Proof.Machine.execDataIn bytes pec s
  | .doorbell value pec => Sys2Proof.Machine.execDoorbell value pec s
  | .dbDone => Sys2Proof.Machine.execDbDone s
  | .dataOut read => Sys2Proof.Machine.execDataOut read s
  | .irqStatusClear value pec => Sys2Proof.Machine.execIrqStatusClear value pec s
  | .inFlush pec => Sys2Proof.Machine.execInFlush pec s
  | .outRewind pec => Sys2Proof.Machine.execOutRewind pec s
  | .outSkip pec => Sys2Proof.Machine.execOutSkip pec s
  | .notifLostRead => Sys2Proof.Machine.execNotifLostRead s
  | .registerWrite ptr bytes pec => Sys2Proof.Machine.execRegisterWrite ptr bytes pec s
  -- UART and USB
  | .uartLinkFrame body closed stopBitsOk => Sys2Proof.Machine.execUartLinkFrame body closed stopBitsOk s
  | .uartFrameGapExpiry => Sys2Proof.Machine.execUartFrameGapExpiry s
  | .uartCtsChange high => Sys2Proof.Machine.execUartCtsChange high s
  | .usbBulkOut bytes => Sys2Proof.Machine.execUsbBulkOut bytes s
  | .usbInterruptReport => Sys2Proof.Machine.execUsbInterruptReport s
  | .getPortStatus => Sys2Proof.Machine.execGetPortStatus s
  | .softReset => Sys2Proof.Machine.execSoftReset s
  | .usbClassRequestStall request => Sys2Proof.Machine.execUsbClassRequestStall request s
  | .usbBusReset => Sys2Proof.Machine.execUsbBusReset s
  | .usbVbusFall => Sys2Proof.Machine.execUsbVbusFall s
  | .usbVbusRise => Sys2Proof.Machine.execUsbVbusRise s
  | .usbSuspend => Sys2Proof.Machine.execUsbSuspend s
  | .rawJobRecord link bytes => Sys2Proof.Machine.execRawJobRecord link bytes s
  -- network
  | .ethLinkChange up hundred full => Sys2Proof.Machine.execEthLinkChange up hundred full s
  | .tcpConnect raw id source dest => Sys2Proof.Machine.execTcpConnect raw id source dest s
  | .tcpClose id => Sys2Proof.Machine.execTcpClose id s
  | .sessionProveTimeout id => Sys2Proof.Machine.execSessionProveTimeout id s
  | .netSessionIdleExpiry ctx => Sys2Proof.Machine.execNetSessionIdleExpiry ctx s
  | .linkLossGraceExpiry => Sys2Proof.Machine.execLinkLossGraceExpiry s
  | .addressChange e => Sys2Proof.Machine.execAddressChange e s
  | .dhcpLinkLocalFallback addr => Sys2Proof.Machine.execDhcpLinkLocalFallback addr s
  | .icmpEcho => Sys2Proof.Machine.execIcmpEcho s
  | .udpDatagram => Sys2Proof.Machine.execUdpDatagram s
  | .lldpduReceived ttl pse => Sys2Proof.Machine.execLldpduReceived ttl pse s
  | .lldpTx => Sys2Proof.Machine.execLldpTx s
  | .lldpTtlExpiry => Sys2Proof.Machine.execLldpTtlExpiry s
  -- the mailbox
  | .mailboxFrame link bytes => Sys2Proof.Machine.execMailboxFrame link bytes s
  | .mbxFragTimeout place => Sys2Proof.Machine.execMbxFragTimeout place s
  | .responseDelivered link => Sys2Proof.Machine.execResponseDelivered link s
  -- system family
  | .sysIdent r => Sys2Proof.Machine.execSysIdent r s
  | .sysReset r => Sys2Proof.Machine.execSysReset r s
  | .sysResetApply => Sys2Proof.Machine.execSysResetApply s
  | .sysCounters r => Sys2Proof.Machine.execSysCounters r s
  | .sysTime r => Sys2Proof.Machine.execSysTime r s
  | .sysRtcSet r => Sys2Proof.Machine.execSysRtcSet r s
  | .sysEcho r => Sys2Proof.Machine.execSysEcho r s
  -- parameter family
  | .paramRead r => Sys2Proof.Machine.execParamRead r s
  | .paramWrite r => Sys2Proof.Machine.execParamWrite r s
  | .paramCommit r => Sys2Proof.Machine.execParamCommit r s
  | .paramRevert r => Sys2Proof.Machine.execParamRevert r s
  | .paramDefaults r => Sys2Proof.Machine.execParamDefaults r s
  | .paramInfo r => Sys2Proof.Machine.execParamInfo r s
  | .profileApply r => Sys2Proof.Machine.execProfileApply r s
  -- job family
  | .jobSubmit r => Sys2Proof.Machine.execJobSubmit r s
  | .jobSubmitRaster r => Sys2Proof.Machine.execJobSubmitRaster r s
  | .jobStatus r => Sys2Proof.Machine.execJobStatus r s
  | .jobCancel r => Sys2Proof.Machine.execJobCancel r s
  | .jobHold r => Sys2Proof.Machine.execJobHold r s
  | .jobRelease r => Sys2Proof.Machine.execJobRelease r s
  | .jobList r => Sys2Proof.Machine.execJobList r s
  | .jobPriority r => Sys2Proof.Machine.execJobPriority r s
  -- hub family
  | .hubValues r => Sys2Proof.Machine.execHubValues r s
  | .hubRecords r => Sys2Proof.Machine.execHubRecords r s
  | .hubSlotSet r => Sys2Proof.Machine.execHubSlotSet r s
  | .hubDescSet r => Sys2Proof.Machine.execHubDescSet r s
  | .hubDetectorSet r => Sys2Proof.Machine.execHubDetectorSet r s
  | .hubConfigRead r => Sys2Proof.Machine.execHubConfigRead r s
  | .hubSubscribe r => Sys2Proof.Machine.execHubSubscribe r s
  | .hubStatus r => Sys2Proof.Machine.execHubStatus r s
  | .hubStickyClear r => Sys2Proof.Machine.execHubStickyClear r s
  | .hubRecordsAck r => Sys2Proof.Machine.execHubRecordsAck r s
  -- power family
  | .pwrStateSet r => Sys2Proof.Machine.execPwrStateSet r s
  | .pwrStateQuery r => Sys2Proof.Machine.execPwrStateQuery r s
  | .pwrOn r => Sys2Proof.Machine.execPwrOn r s
  | .pwrOff r => Sys2Proof.Machine.execPwrOff r s
  | .seqStatus r => Sys2Proof.Machine.execSeqStatus r s
  | .pwrRtcAlarm r => Sys2Proof.Machine.execPwrRtcAlarm r s
  | .dischHold r => Sys2Proof.Machine.execDischHold r s
  -- calibration family
  | .calStart r => Sys2Proof.Machine.execCalStart r s
  | .calStatus r => Sys2Proof.Machine.execCalStatus r s
  | .calAbort r => Sys2Proof.Machine.execCalAbort r s
  -- nozzle and maintenance family
  | .nozScan r => Sys2Proof.Machine.execNozScan r s
  | .nozMapRead r => Sys2Proof.Machine.execNozMapRead r s
  | .nozMark r => Sys2Proof.Machine.execNozMark r s
  | .serviceRun r => Sys2Proof.Machine.execServiceRun r s
  | .fireCountRead r => Sys2Proof.Machine.execFireCountRead r s
  | .feed r => Sys2Proof.Machine.execFeed r s
  | .mechStatus r => Sys2Proof.Machine.execMechStatus r s
  -- log family
  | .logInfo r => Sys2Proof.Machine.execLogInfo r s
  | .logRead r => Sys2Proof.Machine.execLogRead r s
  | .faultRead r => Sys2Proof.Machine.execFaultRead r s
  | .snapshotRead r => Sys2Proof.Machine.execSnapshotRead r s
  | .logClear r => Sys2Proof.Machine.execLogClear r s
  -- one-time memory family
  | .otpRead r => Sys2Proof.Machine.execOtpRead r s
  | .otpProgram r => Sys2Proof.Machine.execOtpProgram r s
  | .otpKeyProgram r => Sys2Proof.Machine.execOtpKeyProgram r s
  | .otpSeal r => Sys2Proof.Machine.execOtpSeal r s
  | .otpLock r => Sys2Proof.Machine.execOtpLock r s
  | .otpShadow r => Sys2Proof.Machine.execOtpShadow r s
  | .otpStatus r => Sys2Proof.Machine.execOtpStatus r s
  | .lifecycleAdvance r => Sys2Proof.Machine.execLifecycleAdvance r s
  | .returnChallenge r => Sys2Proof.Machine.execReturnChallenge r s
  | .returnNonceExpiry => Sys2Proof.Machine.execReturnNonceExpiry s
  -- storage family
  | .storeInfo r => Sys2Proof.Machine.execStoreInfo r s
  | .profileStore r => Sys2Proof.Machine.execProfileStore r s
  | .profileErase r => Sys2Proof.Machine.execProfileErase r s
  | .profileInfo r => Sys2Proof.Machine.execProfileInfo r s
  | .objectStore r => Sys2Proof.Machine.execObjectStore r s
  | .objectErase r => Sys2Proof.Machine.execObjectErase r s
  | .objectList r => Sys2Proof.Machine.execObjectList r s
  | .nvmWear r => Sys2Proof.Machine.execNvmWear r s
  | .patchStore r => Sys2Proof.Machine.execPatchStore r s
  -- network and rights families
  | .sessionOpen r => Sys2Proof.Machine.execSessionOpen r s
  | .sessionProve r => Sys2Proof.Machine.execSessionProve r s
  | .sessionClose r => Sys2Proof.Machine.execSessionClose r s
  | .netStatus r => Sys2Proof.Machine.execNetStatus r s
  | .netSessionEnd r => Sys2Proof.Machine.execNetSessionEnd r s
  | .rightsSet r => Sys2Proof.Machine.execRightsSet r s
  | .rightsGet r => Sys2Proof.Machine.execRightsGet r s
  -- the debug port
  | .extest => Sys2Proof.Machine.execExtest s
  | .samplePreload => Sys2Proof.Machine.execSamplePreload s
  | .idcode => Sys2Proof.Machine.execIdcode s
  | .highz => Sys2Proof.Machine.execHighz s
  | .auth => Sys2Proof.Machine.execAuth s
  | .svc frame => Sys2Proof.Machine.execSvc frame s
  | .coreDbg => Sys2Proof.Machine.execCoreDbg s
  | .bypass code => Sys2Proof.Machine.execBypass code s
  | .reqService => Sys2Proof.Machine.execReqService s
  | .reqCore => Sys2Proof.Machine.execReqCore s
  | .respond hmac => Sys2Proof.Machine.execRespond hmac s
  | .close => Sys2Proof.Machine.execClose s
  | .authVerifyDone => Sys2Proof.Machine.execAuthVerifyDone s
  | .authBackoffExpiry => Sys2Proof.Machine.execAuthBackoffExpiry s
  | .dbgIdleClose => Sys2Proof.Machine.execDbgIdleClose s
  -- the rail sequencer
  | .seqOnDelayExpiry ch => Sys2Proof.Machine.execSeqOnDelayExpiry ch s
  | .pgGood ch => Sys2Proof.Machine.execPgGood ch s
  | .pgTimeout ch => Sys2Proof.Machine.execPgTimeout ch s
  | .railFault ch pgLevels => Sys2Proof.Machine.execRailFault ch pgLevels s
  | .hisTrip row both => Sys2Proof.Machine.execHisTrip row both s
  | .seqOffDelayExpiry => Sys2Proof.Machine.execSeqOffDelayExpiry s
  | .wffTimeout => Sys2Proof.Machine.execWffTimeout s
  | .minOffExpiry => Sys2Proof.Machine.execMinOffExpiry s
  | .retryCountReset => Sys2Proof.Machine.execRetryCountReset s
  | .vinfailTrip => Sys2Proof.Machine.execVinfailTrip s
  | .vinfailRelease => Sys2Proof.Machine.execVinfailRelease s
  | .vinfailRise => Sys2Proof.Machine.execVinfailRise s
  | .holdupWriteDone complete => Sys2Proof.Machine.execHoldupWriteDone complete s
  | .droneRise => Sys2Proof.Machine.execDroneRise s
  | .droneReassert => Sys2Proof.Machine.execDroneReassert s
  | .droneTimeout => Sys2Proof.Machine.execDroneTimeout s
  | .droneAbort => Sys2Proof.Machine.execDroneAbort s
  | .faultRecordWritten => Sys2Proof.Machine.execFaultRecordWritten s
  -- energy and the scheduler
  | .dischTimeout => Sys2Proof.Machine.execDischTimeout s
  | .dischRelease => Sys2Proof.Machine.execDischRelease s
  | .chgGateSlot => Sys2Proof.Machine.execChgGateSlot s
  | .accountingWindowEnd => Sys2Proof.Machine.execAccountingWindowEnd s
  | .ticketResume => Sys2Proof.Machine.execTicketResume s
  | .feedRestart => Sys2Proof.Machine.execFeedRestart s
  | .renderWaitExpiry => Sys2Proof.Machine.execRenderWaitExpiry s
  | .bulkAgeExpiry job => Sys2Proof.Machine.execBulkAgeExpiry job s
  -- position and motion
  | .encoderEdge enc a b t => Sys2Proof.Machine.execEncoderEdge enc a b t s
  | .lateLimitExpiry => Sys2Proof.Machine.execLateLimitExpiry s
  | .indexEdge enc level t => Sys2Proof.Machine.execIndexEdge enc level t s
  | .lineBoundary t steps => Sys2Proof.Machine.execLineBoundary t steps s
  | .fireCountUpdate => Sys2Proof.Machine.execFireCountUpdate s
  | .encStillExpiry => Sys2Proof.Machine.execEncStillExpiry s
  | .resyncFeedDone => Sys2Proof.Machine.execResyncFeedDone s
  | .cutPositionReached => Sys2Proof.Machine.execCutPositionReached s
  | .cutHomeSeen level => Sys2Proof.Machine.execCutHomeSeen level s
  | .cutHomeTimeout => Sys2Proof.Machine.execCutHomeTimeout s
  | .homingDone m level => Sys2Proof.Machine.execHomingDone m level s
  | .sledHomeTimeout => Sys2Proof.Machine.execSledHomeTimeout s
  | .motorFault m => Sys2Proof.Machine.execMotorFault m s
  | .motorFltRelease m => Sys2Proof.Machine.execMotorFltRelease m s
  | .motorEnIdleExpiry m => Sys2Proof.Machine.execMotorEnIdleExpiry m s
  -- the sensor hub
  | .hubTick codes held => Sys2Proof.Machine.execHubTick codes held s
  | .hubBusComplete spi result => Sys2Proof.Machine.execHubBusComplete spi result s
  | .hubI2cTimeout => Sys2Proof.Machine.execHubI2cTimeout s
  | .hubI2cBackoffExpiry => Sys2Proof.Machine.execHubI2cBackoffExpiry s
  -- nozzle health and service
  | .nozScanDone gates tests result => Sys2Proof.Machine.execNozScanDone gates tests result s
  | .serviceRunDone result => Sys2Proof.Machine.execServiceRunDone result s
  | .feedDone fed result => Sys2Proof.Machine.execFeedDone fed result s
  | .serviceWaitTimeout gates tests => Sys2Proof.Machine.execServiceWaitTimeout gates tests s
  | .nozMapWrite => Sys2Proof.Machine.execNozMapWrite s
  -- calibration
  | .calDone m => Sys2Proof.Machine.execCalDone m s
  | .calOtpStore => Sys2Proof.Machine.execCalOtpStore s
  | .calWaitTimeout => Sys2Proof.Machine.execCalWaitTimeout s
  -- the renderer
  | .renderStart => Sys2Proof.Machine.execRenderStart s
  | .renderResume => Sys2Proof.Machine.execRenderResume s
  | .renderDone => Sys2Proof.Machine.execRenderDone s
  -- the event log
  | .logFlush => Sys2Proof.Machine.execLogFlush s
  | .logFlushIntervalExpiry => Sys2Proof.Machine.execLogFlushIntervalExpiry s
  | .logCtrlWrite => Sys2Proof.Machine.execLogCtrlWrite s
  -- the analog supply and the remaining ports
  | .vddaLow => Sys2Proof.Machine.execVddaLow s
  | .vddaReturn => Sys2Proof.Machine.execVddaReturn s
  | .coreDebugReset => Sys2Proof.Machine.execCoreDebugReset s
  | .usbStandardRequest setup => Sys2Proof.Machine.execUsbStandardRequest setup s

end Sys2Proof.Machine
end

