-- ==== Sys2Proof/Safety.lean ====
section
/-! DEFINITION. What counts as a safe run: steps that answer a next state, and the conditions that the spec makes the part
keep whatever arrives. -/

namespace Sys2Proof.Machine

/-- The step goes on: no fault, no refusal. -/
def StepGoesOn (s : State) : Prop := ∃ t, step s = .next t

/-- The one command that stops the machine: the release of the main domain into the production test mode, which the spec
does not describe (R45). -/
def entersTestMode (s : State) : Bool :=
  match s.pending with
  | .mainDomainRelease testmode :: _ => testmode
  | _ => false

/-- The charger is released while DISCH is asserted (R26, R27, R367). -/
abbrev ChargerSafe (s : State) : Prop := s.saf.disch = true → s.saf.charger = false

/-- One-time memory has its 256 words, and no more than 16 of them carry a shadow, each one (R155, R169). -/
abbrev OtpShape (s : State) : Prop :=
  s.otp.words.length = 256 ∧ s.otp.shadows.length ≤ 16 ∧ s.otp.shadows.Pairwise (fun p q => p.1 < q.1)

/-! ### Requests that reach their command

Statements about a mailbox command are made for a request that admission has let through to step 12: the core runs, the
request is whole and continues no message, its box has a free request slot, no command of its kind is under way, and its rights
hold (R228 to R234, R243, R282). -/

/-- A frame has come in on a link: the part is out of DOZE, and the check-value unit has passed it (R113, R522). -/
def arrived (l : Link) (bs : List Byte) (s : State) : State := noteRx (wakeDoze s) (linkContext (wakeDoze s) l) bs

/-- The state in which an accepted request's command runs: its sequence number is taken, and the part is out of DOZE. -/
def accepted (r : Req) (s : State) : State := wakeDoze (modBox s (boxOf s r.link) (fun x => { x with e := some (r.seq + 1) }))

/-- The request reaches its command: steps 8 to 11 let it pass. -/
def admitted (op : Nat) (r : Req) (s : State) : Bool :=
  let b := boxOf s r.link
  let t := accepted r s
  coreRuns s && !r.more && (continued t r op).isNone && decide (slotsUsed (getBox t b) < 8) && !kindBusy t op &&
  ((op != 0x0301 && op != 0x0302) || jobRoom t r.ctx.val) &&
  (match opRight op with
   | some right => (rightCheck t (frameMask t b) (isUnopened b) op right).isNone
   | none => false)

/-- The command's answer is queued in a request slot of the box that the request's link has then, and remembered. -/
def answered (op : Nat) (r : Req) (rep : Reply) (t : State) : State := answer t (boxOf t r.link) op r.seq false rep

/-- What a reset of the main domain with a cause leaves (R19, R20, R74, R76, R78, R80, R106, R236, R252): the domain held,
RSTOUT_N low for its least time from here (log entry 124), the watchdog stopped, the charger off, jobs and mailbox state gone,
working and pending values gone, Reed on the host port in BOOT, and no debug level open. -/
abbrev MainDomainReset (cause : Byte) (t : State) : Prop :=
  t.rst.main = .held ∧ t.rst.cause = cause ∧ t.rst.rstoutHigh = false ∧ t.rst.rstoutMin = true ∧ t.rst.wdtRun = false ∧
  t.saf.charger = false ∧ t.jobs.live = [] ∧ t.ctxs = List.replicate 12 Ctx.fresh ∧ t.params.working = [] ∧
  t.params.pending = [] ∧ t.reed.owns = true ∧ t.reed.boot = true ∧ t.dbg.level = .none

/-- What a full-scope reset of a state leaves once its shutdown has ended (R74, R75, R80, R287, R290, R306): the reset of the main
domain, and Clove started again, with the address, the job IDs and DISCH_HOLD kept. Which of the kept values the model keeps is
its choice where the spec is silent (log entry 89). -/
abbrev FullScopeReset (s t : State) : Prop :=
  MainDomainReset (if t.rst.otpHold then 0x09 else firstCause s 0x07) t ∧ t.rst.fullPend = false ∧
  t.rst.hostAddr = s.rst.hostAddr ∧ t.pwr.st = .run ∧ t.clk.hubTime = 0 ∧ t.clk.rtc = 0 ∧ t.saf.disch = true ∧
  t.saf.hold = s.saf.hold ∧ t.jobs.nextId = s.jobs.nextId ∧ t.hub.running = true ∧ t.otp.words = s.otp.words ∧
  t.otp.shadows = []

/-- A running action of R283 ends: its COMMAND_DONE, with the status and the result, goes to its context, the action is off the
list, and where no second one of its opcode runs, which R282 rules out, none runs any more. -/
abbrev ActionEnds (s u : State) (a : Action) (status : Nat) (result : List Byte) : Prop :=
  (∃ v, u = endAction v a.opcode.toNat status result ∧ v.saf.actions = s.saf.actions ∧ v.ctxs = s.ctxs ∧ v.net = s.net) ∧
  u.saf.actions = s.saf.actions.filter (fun b => b ≠ a) ∧
  ((∀ b ∈ s.saf.actions, b.started = true → b.opcode = a.opcode → b = a) → running u a.opcode.toNat = none)

/-- What staging an event can change in the log record (R270, R271): the records staged, the allowance, and what counts the
losses. -/
def stagedOnly (a b : Log) : Log :=
  { a with staging := b.staging, tokens := b.tokens, tokenAt := b.tokenAt, loss := b.loss, lossDue := b.lossDue
           cloveLost := b.cloveLost }

/-- No bus transaction is in progress, and none that has ended waits for its tick (R462). -/
def busQuiet (h : Hub) : Bool := h.busI2c.all (fun x => !x.started) && h.busSpi.all (fun x => !x.started) && h.done.isEmpty

/-- Every page of NVM holds what is written to it. -/
abbrev NvmSound (s : State) : Prop := s.nvm.bad = []

end Sys2Proof.Machine
end

