-- ==== Sys2Proof/Certificates/Slice0/Obligations.lean ====
section
/-! DEFINITION. The statements about the model that are to be proved. Each docstring says which rules of spec/ it takes its
content from, and where a clause rests on a choice of the model. -/

open Sys2Proof
open Sys2Proof.Machine

/-! ### The machine as a whole -/

/-- A step takes the command at the front of the queue and runs it on the state with the rest of the queue.

With nothing waiting the part idles: time moves only by the rows that the spec makes time-driven (the model's choice,
log entry 2). -/
def Obligations.StepRunsFrontCommand : Prop :=
  (∀ (s : State) (c : Instr) (rest : List Instr), s.pending = c :: rest → step s = exec c { s with pending := rest }) ∧
  (∀ s : State, s.pending = [] → step s = .next s)

/-- What reset leaves, in the values that the spec gives (R41, R74, R146, R224, R225, R236, R389, R420): no supply, the main
domain held, RSTOUT_N low, every enable released, DISCH asserted and the charger off, DRONE driven low, 12 fresh mailbox
contexts, the line counter at 0 and the motors' enables low. -/
def Obligations.ResetLeavesOutputsSafe : Prop :=
  let s := State.reset
  s.rst.vaoGood = false ∧ s.rst.main = .held ∧ s.rst.rstoutHigh = false ∧ s.pwr.st = .off ∧
  (∀ n < 8, (chRun s.seq n).en = false) ∧ s.seq.ph = .off ∧ s.seq.droneLow = true ∧
  s.saf.disch = true ∧ s.saf.charger = false ∧ s.uart.driven = false ∧ s.usb.attached = false ∧
  s.ctxs = List.replicate 12 Ctx.fresh ∧ s.fife.lineCnt = 0 ∧ s.motion.en = 0 ∧ s.dbg.level = .none ∧ s.pending = []

/-- No command but the release into the production test mode stops the machine (R45): every other step answers a next
state, and a step with that release goes on too unless the domain is ready to be released in lifecycle BLANK. -/
def Obligations.OnlyTestModeStops : Prop :=
  ∀ s : State, (∀ t, step s ≠ .next t) ↔
    (∃ rest, s.pending = .mainDomainRelease true :: rest ∧ releaseReady s = true ∧ lifecycle s.otp = 0)

/-- A step takes the front command off the queue and leaves the rest of it as it stands: no command's effect sends
another (the queue is the model's, log entry 2). -/
def Obligations.QueueOnlyShrinks : Prop :=
  ∀ (s t : State), step s = .next t → t.pending = s.pending.tail

/-- At reset one-time memory has the shape, and DISCH the hold on the charger, that every step keeps. -/
def Obligations.InvariantsHoldAtReset : Prop :=
  (OtpShape State.reset) ∧
  (ChargerSafe State.reset)

/-- One-time memory keeps its shape at every step: 256 words and at most 16 trial shadows (R155, R169). -/
def Obligations.OtpShapeKept : Prop := ∀ s t : State, OtpShape s → step s = .next t → OtpShape t

/-- A word that has been programmed never changes again, whatever the part is asked to do: it stays VALID with its data
(R155, R156, R158). -/
def Obligations.ValidWordsStay : Prop :=
  ∀ (s t : State) (i : Nat) (w : OtpWord), s.otp.words[i]? = some w → w.cond = .valid → step s = .next t →
    t.otp.words[i]? = some w

/-- DISCH keeps the charger released at every step: while it is asserted, Saffron's charger is off (R26, R27, R367). -/
def Obligations.ChargerOffUnderDisch : Prop := ∀ s t : State, ChargerSafe s → step s = .next t → ChargerSafe t

/-- R44: the address balls are sampled once, as VAO becomes good, and give the address 0x4C to 0x4F; nothing but the next
rise of VAO good lets their levels in. -/
def Obligations.HostAddressIsSampledAtVaoGood : Prop :=
  (∀ (asel : BitVec 2) (s : State), s.rst.vaoGood = false →
    ∃ t, exec (.vaoGoodRise asel) s = .next t ∧ t.rst.hostAddr.toNat = 0x4C + asel.toNat) ∧
  (∀ (c : Instr) (s t : State), exec c s = .next t → c ≠ .vaoGoodClear →
    (∀ asel : BitVec 2, c = .vaoGoodRise asel → s.rst.vaoGood = true) → t.rst.hostAddr = s.rst.hostAddr)

/-! ### Supplies, resets and clocks -/

/-- VAO good and VAO lost (R44, R51, R74, R75, R79, R106, R155): Clove starts with the address that ASEL selects, the main
domain held and Reed on the host port; when VAO goes, everything but NVM, the one-time array and the levels that stand outside
the part is as at reset, with the time of the head's cap moved to the hub time that begins again (log entry 205). -/
def Obligations.VaoStartsAndEndsClove : Prop :=
  (∀ (asel : BitVec 2) (s : State), s.rst.vaoGood = false →
    ∃ t, exec (.vaoGoodRise asel) s = .next t ∧ t.rst.vaoGood = true ∧
      t.rst.hostAddr = 0x4C + BitVec.ofNat 7 asel.toNat ∧ t.rst.main = .held ∧
      t.rst.cause = (if integrityFails s.otp then 0x09 else 0x01) ∧ t.rst.otpHold = integrityFails s.otp ∧
      t.pwr.st = .run ∧ t.reed.owns = true ∧ t.reed.boot = true ∧ t.hub.running = true ∧
      t.nvm = s.nvm ∧ t.otp.words = s.otp.words) ∧
  (∀ s : State, s.rst.vaoGood = true →
    ∃ t, exec .vaoGoodClear s = .next t ∧ t.rst.vaoGood = false ∧ t.rst.main = .held ∧ t.pwr.st = .off ∧
      t.saf = Saf.rest ∧ t.ctxs = State.reset.ctxs ∧ t.jobs = State.reset.jobs ∧ t.params = State.reset.params ∧
      t.clk.rtc = 0 ∧ t.clk.hubTime = 0 ∧ t.otp.words = s.otp.words ∧ t.otp.shadows = [] ∧
      t = { State.reset with
        rst := { State.reset.rst with vioGood := s.rst.vioGood, vddaGood := s.rst.vddaGood }
        clk := { State.reset.clk with free := t.clk.free }, motion := motionRestarted s
        usb := { State.reset.usb with vbus := s.usb.vbus }, uart := { State.reset.uart with ctsHigh := s.uart.ctsHigh }
        seq := { State.reset.seq with vinLow := s.seq.vinLow }, nvm := t.nvm
        otp := { State.reset.otp with words := s.otp.words }, pending := s.pending } ∧
      (s.seq.writing = none → s.seq.holdup = none →
        t.clk.free = s.clk.free ∧ t.nvm = { s.nvm with exhaustLogged := false }))

/-- VIO and VDDA (R52, R70, R79, R80, R464, R504). A fall of VIO outside HIBERNATE, with no full-scope reset pending, stops
XO25, holds the main domain with the cause that R80 lets stand and RSTOUT_N low, asserts DISCH with reason 8 and the charger
released, and runs the shutdown from RUNNING or UP, which a full-scope reset or a move that waits takes up; its compact record,
VIO_LOW without a snapshot, taken as VIO falls, joins the pending store. In HIBERNATE it only stops XO25. VIO's rise starts XO25
in RUN, DOZE and NAP. VDDA's fall and rise are kept; the fall leaves everything else as it is where no calibration runs, and
ends one that runs with FAULT, detail ABORTED (of a HEAD_ENERGY, the drops it fired are counted, log entry 150), its trial
selection and store gone and the converter returned. -/
def Obligations.VioAndVddaFallAndRise : Prop :=
  (∀ s : State, s.rst.vaoGood = true → s.rst.vioGood = true → s.pwr.st ≠ .hibernate →
    s.rst.fullPend = false → ∃ (r : PendingRec) (u v t : State),
      capture (abortCrossings s) (recAt (abortCrossings s) 0x06 0xFF (pgByte (abortCrossings s).seq))
        ⟨false, false, true, abortDriven (abortCrossings s).seq⟩ = (r, u) ∧
      r.snap = none ∧ r.atReady = false ∧ r.compact.take 3 = [0xA1, 0x06, 0xFF] ∧
      v = putRecord (assertDisch (mainReset { u with rst := { u.rst with vioGood := false, xo25Run := false } } 0x02) 8) r ∧
      r ∈ v.seq.pend ∧ exec .vioLow s = .next t ∧ t = powerDue (offRequest v) ∧
      ((v.seq.ph = .running ∨ v.seq.ph = .up) → (offRequest v).seq.ph = .down ∨ (offRequest v).seq.ph = .minOff) ∧
      t.rst.vioGood = false ∧ t.rst.xo25Run = false ∧ t.rst.main = .held ∧ t.rst.rstoutHigh = false ∧
      t.rst.cause = joinCause s 0x02 ∧ t.saf.disch = true ∧ t.saf.reasons.toNat.testBit 8 = true ∧
      t.saf.charger = false) ∧
  (∀ s : State, s.rst.vaoGood = true → s.rst.vioGood = true → s.pwr.st = .hibernate →
    exec .vioLow s = .next { s with rst := { s.rst with vioGood := false, xo25Run := false } }) ∧
  (∀ s : State, exec .vioGood s = .next { s with rst := { s.rst with
    vioGood := true, xo25Run := decide (s.pwr.st = .run ∨ s.pwr.st = .doze ∨ s.pwr.st = .nap) } }) ∧
  (∀ s : State, running s 0x0601 = none → exec .vddaLow s = .next { s with rst := { s.rst with vddaGood := false } }) ∧
  (∀ (s : State) (a : Action), running s 0x0601 = some a →
    ∃ t, exec .vddaLow s = .next t ∧ t = endCal { s with rst := { s.rst with vddaGood := false } } 0x0008 0 ∧
      t = endAction (dropTrial (cutHeadFires { s with rst := { s.rst with vddaGood := false } } a)) 0x0601 stFault
        (calResult a 0xFF 0 ++ faultDetail 0x0008 0) ∧
      (byteAt a.payload 0 ≠ 7 →
        cutHeadFires { s with rst := { s.rst with vddaGood := false } } a = { s with rst := { s.rst with vddaGood := false } }) ∧
      ActionEnds s t a stFault (calResult a 0xFF 0 ++ faultDetail 0x0008 0) ∧
      t.rst = { s.rst with vddaGood := false } ∧ t.cal.trial = none ∧ t.cal.store = none ∧ t.hub.borrowed = 0) ∧
  (∀ s : State, exec .vddaReturn s = .next { s with rst := { s.rst with vddaGood := true } })

/-- Every reset of the main domain leaves the same (R73, R74, R76 to R81, R179, R287), with the cause of R290 that R80 lets
stand: NRST, the watchdog, a clock failure, a core debug reset, and SYS_RESET. Each has RSTOUT_N low for its least time, where it
is low already too (log entry 124). A pulse on NRST between 200 ns and 1 us, which R77 leaves open, is ignored or acts as a free
bit has it (log entry 6).

A SYS_RESET of full scope first runs the full shutdown, with DISCH asserted for reason 5; once the rails are down, at once where
they already are, Clove and the main domain are reset (R74, R75, R134, R287; what is kept, log entry 89). -/
def Obligations.ResetsHoldMainDomain : Prop :=
  (∀ (ns : Nat) (s : State), s.rst.vaoGood = true → 1000 < ns → s.pwr.st ≠ .hibernate →
    ∃ t, exec (.nrstLow ns) s = .next t ∧ MainDomainReset (joinCause s 0x03) t ∧ t.reed.st = .idle) ∧
  (∀ s : State, s.rst.wdtRun = true → s.pwr.st ≠ .hibernate →
    ∃ t, exec .watchdogExpiry s = .next t ∧ MainDomainReset (joinCause s 0x04) t) ∧
  (∀ s : State, s.rst.vaoGood = true → s.rst.vioGood = true → (s.pwr.st = .run ∨ s.pwr.st = .doze) →
    ∃ t, exec .clockFail s = .next t ∧ MainDomainReset (joinCause s 0x05) t ∧ t.rst.clockHold = true) ∧
  (∀ s : State, s.rst.main ≠ .held → (s.pwr.st = .run ∨ s.pwr.st = .doze) → coreOpen s = true →
    ∃ t, exec .coreDebugReset s = .next t ∧ MainDomainReset (joinCause s 0x08) t) ∧
  (∀ s : State, s.rst.resetPend = some false → s.pwr.st ≠ .hibernate →
    ∃ t, exec .sysResetApply s = .next t ∧ MainDomainReset (joinCause s 0x06) t) ∧
  (∀ (ns : Nat) (s : State), s.rst.vaoGood = true → 200 ≤ ns → ns ≤ 1000 → s.pwr.st ≠ .hibernate →
    ∃ t, exec (.nrstLow ns) s = .next t ∧ (t = (drawBit s).2 ∨ MainDomainReset (joinCause s 0x03) t)) ∧
  (∀ s : State, s.rst.resetPend = some true → s.seq.due = 0 →
    (s.seq.ph = .off ∨ s.seq.ph = .minOff ∨ s.seq.ph = .faultOff) →
    ∃ t, exec .sysResetApply s = .next t ∧ FullScopeReset s t) ∧
  (∀ s : State, s.rst.resetPend = some true → (s.seq.ph = .running ∨ s.seq.ph = .up) →
    ∃ u, exec .sysResetApply s = .next (powerDue u) ∧ u.rst.fullPend = true ∧ u.rst.resetPend = none ∧
      u.rst.main = s.rst.main ∧ u.saf.disch = true ∧ u.saf.reasons.toNat.testBit 5 = true ∧ u.saf.charger = false ∧
      (u.seq.ph = .down ∨ u.seq.ph = .minOff)) ∧
  (∀ s : State, s.rst.fullPend = true →
    (s.seq.ph = .down → powerDue s = s) ∧
    ((s.seq.ph = .off ∨ s.seq.ph = .minOff ∨ s.seq.ph = .faultOff) → s.seq.due = 0 → FullScopeReset s (powerDue s)))

/-- NRST ignores a low pulse shorter than 200 ns and acts on one longer than 1 us (R77), with the reset of R74, which counts
RSTOUT_N's least time anew (log entry 124). In HIBERNATE, where the main domain has no power, Reed is reset and the cause taken
(log entry 31). -/
def Obligations.NrstPulseWidths : Prop :=
  (∀ (ns : Nat) (s : State), ns < 200 → exec (.nrstLow ns) s = .next s) ∧
  (∀ (ns : Nat) (s : State), s.rst.vaoGood = true → 1000 < ns → s.pwr.st ≠ .hibernate →
    ∃ t, exec (.nrstLow ns) s = .next t ∧ MainDomainReset (joinCause s 0x03) t) ∧
  (∀ (ns : Nat) (s : State), s.rst.vaoGood = true → 1000 < ns → s.pwr.st = .hibernate →
    exec (.nrstLow ns) s = .next { s with
      rst := { s.rst with cause := joinCause s 0x03, causeOpen := true }
      reed := { s.reed with st := .idle, startFlag := false, bitCount := 0, shift := 0 } })

/-- What releases the main domain (R45, R73, R75, R78, R79, R81, R86, R88, R290): RSTOUT_N's least time ends, a failed clock
is back, and Cehole starts with RSTOUT_N high, the watchdog running and the rails and motors as they were, unless TESTMODE
holds it; the production test mode of lifecycle BLANK is the one stop. The release leaves
the part in RUN, also after a reset in NAP or DOZE (log entry 31).

Cehole comes up (R79, R100, R107, R114, R118, R371, R412, R538): at READY and at warm-ready the core runs, the UART drives
its pins and the host port is to be taken back; READY opens the accounting windows and sends the mechanics home, and warm-ready
ends NAP in DOZE before waiting work takes the part to RUN. A driver fault that asserted before either disables its motor (R414). -/
def Obligations.MainDomainReleasesAndCeholeComesUp : Prop :=
  (∀ s : State, exec .rstoutMinExpiry s = .next { s with rst := { s.rst with rstoutMin := false } }) ∧
  (∀ s : State, s.rst.clockHold = true →
    exec (.clkfailRetry true) s = .next { s with rst := { s.rst with clockHold := false } } ∧
    exec (.clkfailRetry false) s = .next s) ∧
  (∀ s : State, releaseReady s = true →
    s.rst.fullPend = false →
    ∃ t, exec (.mainDomainRelease false) s = .next t ∧ t.rst.main = .booting ∧ t.rst.rstoutHigh = true ∧
      t.rst.wdtRun = true ∧ t.rst.causeOpen = false ∧ t.pwr.st = .run ∧
      t.rst.cause = (if s.rst.hibWake && !s.rst.causeOpen then 0x0A else s.rst.cause) ∧
      (s.pwr.st = .run → s.seq.due = 0 →
        t.motion = s.motion ∧ { t with rst := s.rst } = s)) ∧
  (∀ s : State, releaseReady s = true → lifecycle s.otp ≠ 0 →
    exec (.mainDomainRelease true) s = .next { s with rst := { s.rst with testHold := true } }) ∧
  (∀ s : State, releaseReady s = true → lifecycle s.otp = 0 →
    exec (.mainDomainRelease true) s = .refused .productionTestMode) ∧
  (∀ (tm : Bool) (s : State), releaseReady s = false → exec (.mainDomainRelease tm) s = .next s) ∧
  (∀ (pd : BitVec 3) (s : State), s.rst.main = .booting → s.rst.hibWake = false →
    ∃ u, exec (.ceholeReady pd) s = .next (schedule u) ∧ u.rst.main = .ready ∧ u.rst.firstReadyDone = true ∧
      u.reed.takeback = true ∧ u.uart.driven = true ∧ u.saf.winOpen = true ∧ u.saf.pdCls = pd ∧
      u.motion.homingCut = true ∧ u.motion.homingSled = true ∧ u.params.working = [] ∧ u.params.pending = [] ∧
      (∀ m : Fin 3, u.motion.flt.toNat.testBit m.val = true →
        u.motion.disabled.toNat.testBit m.val = true ∧ u.motion.en.toNat.testBit m.val = false)) ∧
  (∀ (pd : BitVec 3) (s : State), s.rst.main = .waking → upPending s.seq = false →
    ∃ u, exec (.warmReady pd) s = .next (schedule u) ∧ u.rst.main = .ready ∧ u.reed.takeback = true ∧
      u.uart.driven = true ∧ u.saf.pdCls = pd ∧ (idle u = true → u.pwr.st = .doze) ∧
      (idle u = false → u.pwr.st = .run) ∧ (s.saf.ticket = none → u.jobs = s.jobs) ∧
      (∀ m : Fin 3, u.motion.flt.toNat.testBit m.val = true →
        u.motion.disabled.toNat.testBit m.val = true ∧ u.motion.en.toNat.testBit m.val = false))

/-- The clocks (R70 to R72, R89, R289, R503): the RTC counts seconds, moves to a qualified XO32 at one, and its alarm fires
once; in HIBERNATE hub time has moved on to the second with it (the model's reading, log entry 12). The trim code stands, or
moves one step against the error of the reference that runs, as a free bit has it (log entry 91), and hub time does not step
with it; a calibration whose switch is due at the trim takes effect there (R503), and a running AO_RC sees whether the code
has stood for 8 trim periods (R498). XO32 is adopted once it has qualified unless it counts as not fitted, and one that is
lost is logged once per power cycle. TRST_N closes an open level and leaves the TAP in IDCODE (log entry 108). -/
def Obligations.ClocksFollowTheirReferences : Prop :=
  (∀ s : State, s.rst.vaoGood = true → s.pwr.st ≠ .hibernate →
    (s.clk.rtcAlarm = 0 ∨ (s.clk.rtc + 1).toNat < s.clk.rtcAlarm.toNat) →
    exec .rtcSecond s = .next { s with clk := { s.clk with
      rtc := s.clk.rtc + 1, rtcOnXo32 := s.clk.rtcOnXo32 || s.clk.rtcMove, rtcMove := false, secUs := 0 } }) ∧
  (∀ s : State, s.rst.vaoGood = true → s.pwr.st = .hibernate →
    (s.clk.rtcAlarm = 0 ∨ (s.clk.rtc + 1).toNat < s.clk.rtcAlarm.toNat) →
    ∃ t, exec .rtcSecond s = .next t ∧ t.clk.rtc = s.clk.rtc + 1 ∧
      t.clk.hubTime = s.clk.hubTime + BitVec.ofNat 48 (1000000 - s.clk.secUs) ∧ t.clk.secUs = 0 ∧
      { t with clk := s.clk } = s) ∧
  (∀ s : State, s.rst.vaoGood = true → s.clk.rtcAlarm ≠ 0 → s.clk.rtcAlarm.toNat ≤ (s.clk.rtc + 1).toNat →
    s.rst.fullPend = false → ∃ t, exec .rtcSecond s = .next t ∧ t.clk.rtcAlarm = 0 ∧ t.clk.rtc = s.clk.rtc + 1) ∧
  (∀ s : State, s.rst.vaoGood = true → s.clk.xo32 ≠ .notFitted → s.clk.xo32 ≠ .adopted →
    exec .xo32Qualified s = .next { s with clk := { s.clk with xo32 := .adopted, rtcMove := true, trimMove := true } }) ∧
  (∀ s : State, s.clk.xo32 = .adopted →
    ∃ t, exec .xo32Lost s = .next t ∧ t.clk = { s.clk with
        xo32 := .lost, rtcOnXo32 := false, rtcMove := false, trimOnXo32 := false, trimMove := false
        xo32LostLogged := true } ∧
      t.log = (if s.clk.xo32LostLogged then s.log else (logEvent s 0x0104 []).log) ∧ { t with clk := s.clk, log := s.log } = s) ∧
  (∀ s : State, s.rst.vaoGood = true → s.clk.xo32 = .absent →
    exec .xo32QualifyTimeout s = .next { s with clk := { s.clk with xo32 := .notFitted } }) ∧
  (∀ (cycles : Nat) (s : State), s.rst.vaoGood = true → s.clk.xo32 = .adopted → s.clk.trimOnXo32 = true → s.cal.due = [] →
    aoRcRuns s = false →
    ∃ t, exec (.aoTrim cycles) s = .next t ∧ t.clk.trimmed = true ∧ t.clk.trimMove = false ∧ t.clk.aoHz = cycles * 32 ∧
      ((t.clk.trimCode = s.clk.trimCode ∧ t.clk.still = s.clk.still + 1) ∨
       (cycles ≠ 250000 ∧ t.clk.trimCode = s.clk.trimCode + (if 250000 < cycles then -1 else 1) ∧ t.clk.still = 0)) ∧
      t.clk.hubTime = s.clk.hubTime ∧ { t with clk := s.clk } = s) ∧
  (∀ (cycles : Nat) (s : State), s.rst.vaoGood = true → s.clk.xo32 ≠ .adopted → s.rst.xo25Run = true →
    (s.pwr.st = .run ∨ s.pwr.st = .doze) → s.cal.due = [] → aoRcRuns s = false →
    ∃ t, exec (.aoTrim cycles) s = .next t ∧ t.clk.trimmed = true ∧ t.clk.aoHz = cycles * 125 / 4 ∧
      ((t.clk.trimCode = s.clk.trimCode ∧ t.clk.still = s.clk.still + 1) ∨
       (cycles ≠ 256000 ∧ t.clk.trimCode = s.clk.trimCode + (if 256000 < cycles then -1 else 1) ∧ t.clk.still = 0)) ∧
      t.clk.hubTime = s.clk.hubTime ∧ { t with clk := s.clk } = s) ∧
  (∀ (cycles : Nat) (s : State), s.rst.vaoGood = true → aoRcRuns s = true →
    ∃ t, exec (.aoTrim cycles) s = .next t ∧ (8 ≤ t.clk.still → t.cal.aoHeld = true ∧ t.cal.aoSince = now s) ∧
      (t.clk.still < 8 → t.cal.aoHeld = s.cal.aoHeld)) ∧
  (∀ (cycles : Nat) (s : State) (c : CalSel) (rest : List (Nat × CalSel)), s.rst.vaoGood = true → s.cal.due = (2, c) :: rest →
    (∀ p ∈ rest, p.1 ≠ 2) → 2 < s.cal.active.length →
    ∃ t, exec (.aoTrim cycles) s = .next t ∧ t.cal.due = rest ∧ t.cal.active[2]? = some { c with time := now s }) ∧
  (∀ s : State, ∃ t, exec .trstNLow s = .next t ∧ t.dbg.level = .none ∧ t.dbg.ir = .idcode ∧ { t with dbg := s.dbg } = s)

/-! ### Power states, Reed and the host port -/

/-- R102, R99: a wake pin's debounced level is kept; where no wake is being collected and no entry is under way nothing more
follows from it but the crossing's event.

R99, R101: the first wake source of a NAP that PWR_WAKE_MASK_NAP has is recorded with its time, and the part leaves NAP:
energy on the receive pair, USB resume, and a wake pin that becomes active. USB resume ends suspend, which in DOZE is work
that takes the part to RUN; where no wake is being collected and no entry is under way nothing more follows from it elsewhere. -/
def Obligations.WakeSources : Prop :=
  (∀ (pin : Fin 6) (level : Bool) (s : State), s.rst.vaoGood = true → s.pwr.collect = none → s.pwr.entry = none →
     s.seq.ph ≠ .faultOff →
     ∃ t, exec (.wkDebounce pin level) s = .next t ∧ t.pwr.wkLevel.toNat.testBit pin.val = level ∧
       (∀ k : Fin 6, k ≠ pin → t.pwr.wkLevel.toNat.testBit k.val = s.pwr.wkLevel.toNat.testBit k.val) ∧
       { t with pwr := s.pwr, rst := { t.rst with wkEvt := s.rst.wkEvt } } = s) ∧
  (∀ (pin : Fin 6) (level : Bool) (s : State), s.rst.vaoGood = true → s.pwr.st = .nap → s.rst.main = .asleep →
    s.pwr.collect = some false → s.pwr.wakeSeen = false → s.seq.ph = .running → s.seq.due = 0 → s.rst.fullPend = false →
    (wakeMask s false).testBit pin.val = true → level ≠ (pv s.params 0x0407).testBit pin.val →
    s.pwr.wkLevel.toNat.testBit pin.val ≠ level →
    ∃ t, exec (.wkDebounce pin level) s = .next t ∧ t.pwr.wakeCause.toNat.testBit pin.val = true ∧ t.pwr.wakeTime = now s ∧
      t.pwr.wakeSeen = true ∧ t.rst.main = .waking ∧ t.reed.boot = true) ∧
  (∀ s : State, s.pwr.st = .nap → s.rst.main = .asleep → s.pwr.collect = some false →
    s.pwr.wakeSeen = false → s.seq.ph = .running → s.seq.due = 0 → s.rst.fullPend = false →
    (wakeMask s false).testBit 9 = true →
    ∃ t, exec .phyEnergyDetect s = .next t ∧ t.pwr.wakeCause.toNat.testBit 9 = true ∧ t.pwr.wakeTime = now s ∧
      t.pwr.wakeSeen = true ∧ t.rst.main = .waking ∧ t.reed.boot = true) ∧
  (∀ s : State, s.pwr.st = .nap → s.rst.main = .asleep → s.pwr.collect = some false →
    s.pwr.wakeSeen = false → s.seq.ph = .running → s.seq.due = 0 → s.rst.fullPend = false →
    (wakeMask s false).testBit 10 = true → s.usb.suspended = true →
    ∃ t, exec .usbResume s = .next t ∧ t.pwr.wakeCause.toNat.testBit 10 = true ∧ t.pwr.wakeTime = now s ∧
      t.pwr.wakeSeen = true ∧ t.rst.main = .waking ∧ t.reed.boot = true ∧ t.usb.suspended = false) ∧
  (∀ s : State, s.usb.suspended = true → s.pwr.collect = none → s.pwr.entry = none → s.seq.ph ≠ .faultOff →
    (s.pwr.st ≠ .doze → exec .usbResume s = .next { s with
      usb := { s.usb with suspended := false }, pwr := { s.pwr with dozeDue := false } }) ∧
    (s.pwr.st = .doze → ∃ t, exec .usbResume s = .next t ∧ t.pwr.st = .run ∧ t.usb.suspended = false))

/-- Entering DOZE, NAP and HIBERNATE (R92 to R98, R459): PWR_DOZE_IDLE in RUN with nothing to do and no automatic spit or scan
due enters DOZE, with the watchdog stopped, the motors off and the head capped, and where the sled cannot cap it yet the entry
waits for that (log entry 87); PWR_NAP_IDLE in DOZE accepts an entry. The beginning of an entry that nothing holds runs to its
commit point: the wake registers are fresh, NAP puts the core to sleep, closes the connections and releases the charger,
HIBERNATE holds the main domain, discards every job, stops the hub, once a transaction in progress has completed, and asserts
DISCH for reason 4, and Reed is about to own the port unless it does; an automatic one that no longer holds is dropped.

NAP's own limits (R98): PWR_HIB_IDLE and NAP_LIMIT start the move to HIBERNATE where no job keeps the part in NAP: the hub
stops, and then DISCH is asserted for reason 4; a bus transaction in progress completes first (R462). While the entry's own
shutdown runs they wait for it.

A HIBERNATE wake that finds no VIO ends in HIBERNATE again (chapter 4). -/
def Obligations.LowPowerEntries : Prop :=
  (∀ s : State, s.pwr.st = .run → coreRuns s = true → s.pwr.entry = none → idle s = true →
    autoSpitDue { s with params := { s.params with atTicket := s.params.committed } } = false →
    autoScanDue { s with params := { s.params with atTicket := s.params.committed } } = false →
    ∃ t, exec .dozeIdleExpiry s = .next t ∧
      (capReady s = true → t.pwr.st = .doze ∧ t.rst.wdtRun = false ∧ t.motion.en = 0 ∧ t.motion.capped = true) ∧
      (capReady s = false → t.pwr.st = .run ∧ t.pwr.dozeDue = true)) ∧
  (∀ s : State, napIdleOk s = true → s.pwr.entry = none →
    exec .napIdleExpiry s = .next { s with pwr := { s.pwr with
      entry := some { hib := false, discard := false, napLimit := 0, req := none, begun := false } } }) ∧
  (∀ (s : State) (e : Entry), s.pwr.entry = some e → (e.req.isSome = true ∨ napIdleOk s = true) → e.hib = false →
    entryHeld s e = false →
    ∃ t, exec .pstateEntryBegin s = .next t ∧ t.pwr.st = .nap ∧ t.rst.main = .asleep ∧ t.pwr.wakeCause = 0 ∧
      t.pwr.entryState = 2 ∧ t.pwr.entry = none ∧ t.reed.handover = !s.reed.owns ∧ t.saf.charger = false ∧
      t.net.conns = []) ∧
  (∀ (s : State) (e : Entry), s.pwr.entry = some e → e.req.isSome = true → e.hib = true → entryHeld s e = false →
    ∃ t, exec .pstateEntryBegin s = .next t ∧ t.pwr.st = .hibernate ∧ t.rst.main = .held ∧ t.pwr.wakeCause = 0 ∧
      t.pwr.entryState = 3 ∧ t.pwr.entry = none ∧ t.reed.handover = !s.reed.owns ∧ t.jobs.live = [] ∧
      t.saf.disch = true ∧ t.saf.reasons.toNat.testBit 4 = true ∧ t.saf.charger = false ∧
      (busQuiet s.hub = true → t.hub.running = false) ∧
      (busQuiet s.hub = false → s.hub.running = true → t.hub.stopping = true)) ∧
  (∀ (s : State) (e : Entry), s.pwr.entry = some e → e.req = none → napIdleOk s = false →
    exec .pstateEntryBegin s = .next { s with pwr := { s.pwr with entry := none } }) ∧
  (∀ s : State, napQuiet s = true → pv s.params 0x0403 ≠ 0 → s.pwr.napJobs = false →
    (s.seq.ph ≠ .down → s.seq.due = 0 → s.rst.fullPend = false →
      ∃ t, exec .hibIdleExpiry s = .next t ∧
        (busQuiet s.hub = true → t.saf.disch = true ∧ t.saf.reasons.toNat.testBit 4 = true ∧ t.hub.running = false) ∧
        (busQuiet s.hub = false → s.hub.running = true → t.pwr.moving = true ∧ t.pwr.moveDue = true ∧
          t.hub.stopping = true ∧ t.saf = s.saf)) ∧
    (s.seq.ph = .down → exec .hibIdleExpiry s = .next { s with pwr := { s.pwr with moveDue := true } })) ∧
  (∀ s : State, napQuiet s = true → s.pwr.napLimit ≠ 0 → (s.pwr.napJobs = false ∨ s.pwr.napDiscard = true) →
    (s.seq.ph ≠ .down → s.seq.due = 0 → s.rst.fullPend = false →
      ∃ t, exec .napLimitExpiry s = .next t ∧
        (busQuiet s.hub = true → t.saf.disch = true ∧ t.saf.reasons.toNat.testBit 4 = true ∧ t.hub.running = false) ∧
        (busQuiet s.hub = false → s.hub.running = true → t.pwr.moving = true ∧ t.pwr.moveDue = true ∧
          t.hub.stopping = true ∧ t.saf = s.saf)) ∧
    (s.seq.ph = .down → exec .napLimitExpiry s = .next { s with pwr := { s.pwr with moveDue := true } })) ∧
  (∀ s : State, s.rst.hibWake = true → s.rst.vioGood = false → s.rst.main = .held → s.pwr.st = .run →
     ∃ t, exec .pwrVioWaitExpiry s = .next t ∧ t.pwr.st = .hibernate ∧ t.rst.hibWake = false ∧ t.pwr.wakeCause = 0 ∧
       t.pwr.entryState = 3 ∧ (busQuiet s.hub = true → t.hub.running = false) ∧ t.saf.disch = true ∧ t.reed.boot = false) ∧
  (∀ s : State, s.pwr.moving = true → s.pwr.moveDue = true → s.seq.ph ≠ .down → s.seq.due = 0 → s.rst.fullPend = false →
     (s.hub.stopping = true → powerDue s = s) ∧
     (s.hub.stopping = false → (powerDue s).saf.disch = true ∧ (powerDue s).saf.reasons.toNat.testBit 4 = true))

/-- Reed and Cehole hand the host port to each other (R106, R107): to Reed after a commit, back once the core runs. Reed in LISTEN
refuses a transaction to the part's address, keeps the byte of the first and counts it, up to 255, whether or not it wakes the
part; where no mask has the port's bit nothing else follows; another address is not counted (R38, R108, R109). -/
def Obligations.ReedOwnsAndRefuses : Prop :=
  (∀ s : State, s.reed.handover = true →
    exec .hostPortHandover s = .next { s with reed := { s.reed with owns := true, handover := false } }) ∧
  (∀ s : State, s.reed.takeback = true → coreRuns s = true →
    exec .hostPortTakeback s = .next { s with reed := { s.reed with
      owns := false, boot := false, takeback := false, handover := false } }) ∧
  (∀ (addr : Byte) (s : State), s.reed.owns = true → s.reed.boot = false → addr.toNat / 2 = s.rst.hostAddr.toNat →
    s.rst.fullPend = false →
    ∃ t, exec (.reedRefuse addr) s = .next t ∧ t.reed.st = .idle ∧ t.reed.shift = addr ∧
      t.pwr.reedCap = (if s.pwr.reedRefused = 0 then addr else s.pwr.reedCap) ∧
      t.pwr.reedRefused = (if s.pwr.reedRefused = 0xFF then 0xFF else s.pwr.reedRefused + 1)) ∧
  (∀ (addr : Byte) (s : State), s.reed.owns = true → s.reed.boot = false → addr.toNat / 2 = s.rst.hostAddr.toNat →
    (wakeMask s true).testBit 6 = false → (wakeMask s false).testBit 6 = false →
    exec (.reedRefuse addr) s = .next { s with
      reed := { s.reed with st := .idle, startFlag := false, bitCount := 8, shift := addr }
      pwr := { s.pwr with
        reedCap := if s.pwr.reedRefused = 0 then addr else s.pwr.reedCap
        reedRefused := if s.pwr.reedRefused = 0xFF then 0xFF else s.pwr.reedRefused + 1 } }) ∧
  (∀ (addr : Byte) (s : State), s.reed.owns = true → s.reed.boot = false → addr.toNat / 2 ≠ s.rst.hostAddr.toNat →
    exec (.reedRefuse addr) s = .next { s with
      reed := { s.reed with st := .idle, startFlag := false, bitCount := 8, shift := addr } })

/-- The host's writes to the window's registers while the part's core serves the port, PEC off (R183, R184, R187 to R192): bytes
go into the inbound buffer while it has room, the doorbell submits it with 0x01 alone, ones clear IRQ_STATUS, the CTRL bits
flush and rewind, IRQ_ENABLE is kept, and a pointer of 0x40 or above has no effect. Each of these commands is a write from its
register's pointer.

PEC (R186): with PEC on, a write of at most 255 data bytes whose last byte is not the PEC of the transaction changes nothing
but PEC_ERR and the link error count of context 1, from any pointer of the window; bytes for DATA_IN with the right PEC go into
the inbound buffer while it has room. -/
def Obligations.WindowWrites : Prop :=
  (∀ (pec : Option Byte) (s : State),
    (∀ bytes : List Byte, exec (.dataIn bytes pec) s = exec (.registerWrite 0x20 bytes pec) s) ∧
    (∀ v : Byte, exec (.doorbell v pec) s = exec (.registerWrite 0x0B [v] pec) s ∧
      exec (.irqStatusClear v pec) s = exec (.registerWrite 0x08 [v] pec) s) ∧
    exec (.inFlush pec) s = exec (.registerWrite 0x0A [0x01] pec) s ∧
    exec (.outRewind pec) s = exec (.registerWrite 0x0A [0x02] pec) s ∧
    exec (.outSkip pec) s = exec (.registerWrite 0x0A [0x04] pec) s) ∧
  (∀ (s : State), s.reed.owns = false → coreRuns s = true → s.port.pecOn = false →
    (∀ bytes : List Byte, s.port.dbStatus ≠ 0x0101 → s.port.inBuf.length + bytes.length ≤ 4128 →
      exec (.dataIn bytes none) s = .next { s with port := { s.port with inBuf := s.port.inBuf ++ bytes } }) ∧
    exec (.doorbell 0x01 none) s = .next { s with port := { s.port with dbStatus := 0x0101 } } ∧
    (∀ v : Byte, v ≠ 0x01 → exec (.doorbell v none) s = .next s) ∧
    (∀ v : Byte, exec (.irqStatusClear v none) s = .next { s with port := { s.port with irq := s.port.irq &&& ~~~ v } }) ∧
    exec (.inFlush none) s = .next { s with port := { s.port with inBuf := [] } } ∧
    exec (.outRewind none) s = .next { s with port := { s.port with outPos := 0 } } ∧
    (∀ v : Byte, exec (.registerWrite 0x09 [v] none) s = .next { s with port := { s.port with irqEnable := v } }) ∧
    (∀ (ptr : Byte) (bytes : List Byte), 0x40 ≤ ptr.toNat → exec (.registerWrite ptr bytes none) s = .next s)) ∧
  (∀ (bytes : List Byte) (pec : Byte) (s : State), s.reed.owns = false → coreRuns s = true → s.port.pecOn = true →
     bytes.length ≤ 255 →
     (∀ ptr : Byte, ptr.toNat < 0x40 → pec ≠ pecOf s ptr bytes →
       exec (.registerWrite ptr bytes (some pec)) s = .next (countLink (setIrq s 3) 1)) ∧
     (pec = pecOf s 0x20 bytes → s.port.dbStatus ≠ 0x0101 → s.port.inBuf.length + bytes.length ≤ 4128 →
       exec (.dataIn bytes (some pec)) s = .next { s with port := { s.port with inBuf := s.port.inBuf ++ bytes } }))

/-- R191: while RX_SPACE reads 0, a byte written to DATA_IN is dropped and OVERFLOW is set, the bytes in the buffer staying
as they are, with PEC off and with PEC on; IN_FLUSH empties the buffer and submits nothing. -/
def Obligations.InboundBufferOverflows : Prop :=
  ∀ s : State, s.reed.owns = false → coreRuns s = true →
    (∀ (b : Byte) (pec : Option Byte), windowByte s 0x10 = 0 → windowByte s 0x11 = 0 →
      (s.port.inBuf.length ≤ 4128) → (s.port.pecOn = false ∧ pec = none ∨ s.port.pecOn = true ∧ pec = some (pecOf s 0x20 [b])) →
      ∃ t, exec (.dataIn [b] pec) s = .next t ∧ t.port.inBuf = s.port.inBuf ∧ (irqStatus t).toNat.testBit 4 = true ∧
        { t with port := { t.port with irq := s.port.irq } } = s) ∧
    (∀ pec : Option Byte, (s.port.pecOn = false ∧ pec = none ∨ s.port.pecOn = true ∧ pec = some (pecOf s 0x0A [0x01])) →
      exec (.inFlush pec) s = .next { s with port := { s.port with inBuf := [] } })

/-- Collecting a frame while the part's core serves the port, PEC off (R188, R192, R226, R234, R239): reading DATA_OUT takes the
bytes of the head frame one by one; the last one frees its slot and moves to the next frame; OUT_SKIP discards the head frame,
and counts one that was a notification; NOTIF_LOST is cleared by its read.

With PEC on (R186) the host names a length: the bytes that it reads past those and their PEC are 0xFF.

The doorbell settles (R190): BAD_LENGTH where the buffer is not the frame that its header counts, else the frame passes
through admission as context 1's, the buffer is empty, and DB_DONE is latched. -/
def Obligations.WindowReads : Prop :=
  (∀ s : State, s.reed.owns = false → coreRuns s = true → s.port.pecOn = false →
    (∀ (f : OutFrame) (fs : List OutFrame), (ctxOf s 1).out = f :: fs →
      s.port.outPos + 1 < (wireBytes 1 (ctxOf s 1) f).length →
      ∀ n : Byte, exec (.dataOut ⟨n, 1⟩) s = .next { s with port := { s.port with
        outPos := s.port.outPos + 1, lastRead := [byteAt (wireBytes 1 (ctxOf s 1) f) s.port.outPos] } }) ∧
    (∀ (f : OutFrame) (fs : List OutFrame), (ctxOf s 1).out = f :: fs → f.endsSession = false → s.rst.resetPend = none →
      s.ctxs.length = 12 → s.port.outPos + 1 = (wireBytes 1 (ctxOf s 1) f).length →
      ∀ n : Byte, ∃ t, exec (.dataOut ⟨n, 1⟩) s = .next t ∧ (ctxOf t 1).out = fs ∧ (ctxOf t 1).alive = (ctxOf s 1).alive + 1 ∧
        t.port.outPos = 0 ∧ t.port.lastRead = [byteAt (wireBytes 1 (ctxOf s 1) f) s.port.outPos]) ∧
    ((ctxOf s 1).out = [] → ∀ n : Byte, exec (.dataOut ⟨n, 3⟩) s = .next { s with port := { s.port with lastRead := [0xFF, 0xFF, 0xFF] } }) ∧
    (∀ (f : OutFrame) (fs : List OutFrame), (ctxOf s 1).out = f :: fs → f.endsSession = false → s.rst.resetPend = none →
      s.ctxs.length = 12 →
      ∃ t, exec (.outSkip none) s = .next t ∧ (ctxOf t 1).out = fs ∧ t.port.outPos = 0 ∧
        (ctxOf t 1).cnt.notifLost = (if f.use = .notification then satInc16 (ctxOf s 1).cnt.notifLost
          else (ctxOf s 1).cnt.notifLost)) ∧
    (s.ctxs.length = 12 →
      ∃ t, exec .notifLostRead s = .next t ∧ (ctxOf t 1).cnt.notifLost = 0 ∧
        t.port.lastRead = [b8 (min 255 (ctxOf s 1).cnt.notifLost.toNat)])) ∧
  (∀ (s : State) (f : OutFrame) (fs : List OutFrame) (k : Nat), s.reed.owns = false → coreRuns s = true →
    s.port.pecOn = true → (ctxOf s 1).out = f :: fs → s.port.outPos + 1 < (wireBytes 1 (ctxOf s 1) f).length →
    exec (.dataOut ⟨1, 2 + k⟩) s = .next { s with port := { s.port with
      outPos := s.port.outPos + 1
      lastRead := byteAt (wireBytes 1 (ctxOf s 1) f) s.port.outPos ::
        crc8 [b8 (2 * s.rst.hostAddr.toNat), 0x21, 1, b8 (2 * s.rst.hostAddr.toNat + 1),
          byteAt (wireBytes 1 (ctxOf s 1) f) s.port.outPos] :: List.replicate k 0xFF } }) ∧
  (∀ s : State, s.port.dbStatus = 0x0101 → coreRuns s = true →
    (s.port.inBuf.length < 16 ∨ s.port.inBuf.length ≠ (headerOf s.port.inBuf).total) →
    exec .dbDone s = .next { s with port := { s.port with
      dbStatus := 0x0202, inBuf := [], irq := s.port.irq ||| 0x02 } }) ∧
  (∀ s : State, s.port.dbStatus = 0x0101 → coreRuns s = true → 16 ≤ s.port.inBuf.length →
    s.port.inBuf.length = (headerOf s.port.inBuf).total →
    exec .dbDone s = .next (takeFrame runOpcode .i2c s.port.inBuf { s with port := { s.port with
      dbStatus := 0, inBuf := [], irq := s.port.irq ||| 0x02 } }))

/-! ### Links -/

/-- The UART (R195 to R197): CTS is a level; bytes gather in the 8 KiB receive buffer until a flag ends the frame, and what finds
it full is lost; a discarded frame, a missing stop bit, a lost byte or a gap counts one link error of
context 2 and empties the buffer, nothing between two flags is no frame, and a sound link frame passes its mailbox frame on.

R201: a bulk transfer that is no whole frame counts a link error of context 3; a whole frame passes through admission.

The raw ticket stream of USB (R336, R337): where it stands between records, a byte that cannot begin one is discarded, with one
resynchronisation counted for context 3, and a record's head that is sound begins a raster job. -/
def Obligations.LinkFramesArrive : Prop :=
  (∀ (high : Bool) (s : State), exec (.uartCtsChange high) s = .next { s with uart := { s.uart with ctsHigh := high } }) ∧
  (∀ s : State, coreRuns s = true → exec .uartFrameGapExpiry s = .next (countLink (uartTaken s) 2)) ∧
  (∀ (body : List Byte) (ok : Bool) (s : State), coreRuns s = true → exec (.uartLinkFrame body false ok) s = .next { s with
    uart := { s.uart with
      rx := (s.uart.rx ++ body).take 8192
      rxBad := s.uart.rxBad || !ok || decide (8192 < (s.uart.rx ++ body).length) } }) ∧
  (∀ (body : List Byte) (ok : Bool) (s : State), coreRuns s = true → s.uart.rx ++ body ≠ [] →
    (uartPayload (s.uart.rx ++ body) = none ∨ ok = false ∨ s.uart.rxBad = true ∨ 8192 < (s.uart.rx ++ body).length) →
    exec (.uartLinkFrame body true ok) s = .next (countLink (uartTaken s) 2)) ∧
  (∀ (ok : Bool) (s : State), s.uart.rx = [] → s.uart.rxBad = false → exec (.uartLinkFrame [] true ok) s = .next s) ∧
  (∀ (body f : List Byte) (s : State), coreRuns s = true → s.uart.rx ++ body ≠ [] → s.uart.rxBad = false →
    (s.uart.rx ++ body).length ≤ 8192 → uartPayload (s.uart.rx ++ body) = some f →
    exec (.uartLinkFrame body true true) s = .next (takeFrame runOpcode .uart f (uartTaken s))) ∧
  (∀ s : State, s.ctxs.length = 12 →
    (ctxOf (countLink s 2) 2).cnt.link = satAdd32 (ctxOf s 2).cnt.link 1 ∧
    (∀ c : Nat, c ≠ 2 → ctxOf (countLink s 2) c = ctxOf s c) ∧ { countLink s 2 with ctxs := s.ctxs } = s) ∧
  (∀ (bytes : List Byte) (s : State), linkUp s .usb = true →
    (4124 < bytes.length ∨ bytes.length < 16 ∨ bytes.length < (headerOf bytes).total) →
    exec (.usbBulkOut bytes) s = .next (countLink s 3)) ∧
  (∀ (bytes : List Byte) (s : State), linkUp s .usb = true → 16 ≤ bytes.length → bytes.length ≤ 4124 →
    (headerOf bytes).total ≤ bytes.length →
    exec (.usbBulkOut bytes) s = .next (takeFrame runOpcode .usb bytes s)) ∧
  (∀ (b : Byte) (s : State), coreRuns s = true → s.usb.attached = true → s.usb.configured = true →
     s.usb.raw = [] → s.usb.skip = 0 → rawJob s 3 = none → b ≠ 0x4E → s.ctxs.length = 12 →
     ∃ u, exec (.rawJobRecord .usb [b]) s = .next (schedule u) ∧ u.usb.raw = [] ∧ u.usb.hunt = true ∧ u.jobs = s.jobs ∧
       (ctxOf u 3).cnt.link = (if s.usb.hunt then (ctxOf s 3).cnt.link else satAdd32 (ctxOf s 3).cnt.link 1)) ∧
  (∀ (bytes : List Byte) (s : State), coreRuns s = true → s.usb.attached = true → s.usb.configured = true →
     s.usb.raw = [] → s.usb.skip = 0 → rawJob s 3 = none → bytes.length = 16 → recordHeadOk bytes = true →
     fieldAt bytes 4 1 ≤ 2 → fieldAt bytes 6 1 ≤ 3 → jobRoom s 3 = true → idsSpent s = false →
     ∃ u, exec (.rawJobRecord .usb bytes) s = .next (schedule u) ∧ u.usb.raw = [] ∧ u.usb.hunt = false ∧
       u.jobs.nextId = s.jobs.nextId + 1 ∧
       ∃ k : Job, u.jobs.live = s.jobs.live ++ [k] ∧ k.id = s.jobs.nextId ∧ k.ctx = 3 ∧ k.raw = true ∧ k.st = .rendering)

/-- USB bus events (R91, R99, R199, R200, R204, R212): the device attaches where VBUS rises, the core runs and USB_ENABLE is
1, a bus reset takes the address, the configuration and the unparsed raw bytes and leaves jobs and queues, suspend is kept,
and a detach ends the keyed session of context 3. A bus reset and a detach take the part out of DOZE (log entry 95).

USB control and interrupt transfers (R200, R202, R203), while the device answers: the port status, a soft reset that cancels
the raw jobs which have not begun to print and leaves every job where there are none, the stall of other class requests, the
attention report where it has changed, and SET_ADDRESS, SET_CONFIGURATION and the device descriptor, which are those of USB 2.0
(log entry 32). -/
def Obligations.UsbBusAndTransfers : Prop :=
  (∀ s : State, coreRuns s = true → pv s.params 0x0220 = 1 → s.pwr.collect = none → s.pwr.entry = none →
    s.seq.ph ≠ .faultOff →
    exec .usbVbusRise s = .next { wakeDoze s with usb := { s.usb with vbus := true, attached := true } }) ∧
  (∀ s : State, s.usb.attached = true →
    exec .usbBusReset s = .next { usbEvent s with usb := { s.usb with
      address := 0, configured := false, suspended := false, halted := [], raw := [], skip := 0, hunt := false } }) ∧
  (∀ s : State, s.usb.attached = true →
    exec .usbSuspend s = .next { s with usb := { s.usb with suspended := true } }) ∧
  (∀ s : State, ∃ t, exec .usbVbusFall s = .next t ∧ t.usb = { s.usb with
      vbus := false, attached := false, address := 0, configured := false, suspended := false, halted := [], raw := []
      skip := 0, hunt := false } ∧
    (s.ctxs.length = 12 → (ctxOf t 3).keyed = none ∧ ∀ c : Nat, c ≠ 3 → ctxOf t c = ctxOf s c) ∧
    { t with usb := s.usb, ctxs := s.ctxs } = usbEvent s) ∧
  (∀ s : State, (s.pwr.st = .doze → s.usb.attached = true → coreRuns s = true → (usbEvent s).pwr.st = .run) ∧
    (s.usb.attached = false ∨ coreRuns s = false → usbEvent s = s)) ∧
  (∀ s : State, usbAnswers s = true →
    exec .getPortStatus s = .next { s with usb := { s.usb with control := some [portStatus s] } } ∧
    (∀ q : Byte, q ≠ 0x01 → q ≠ 0x02 →
      exec (.usbClassRequestStall q) s = .next { s with usb := { s.usb with control := none } }) ∧
    (∃ t, exec .softReset s = .next t ∧ t.usb.raw = [] ∧ t.usb.skip = 0 ∧ t.usb.hunt = false ∧ t.usb.control = some [] ∧
      (∀ j ∈ s.jobs.live, j.raw = true → j.ctx = 3 → j.st ∈ [JobSt.queued, .rendering, .ready, .held] →
        jobOf t j.id = none) ∧
      (s.jobs.live.all (fun j => !j.raw || j.ctx.val != 3) = true → t.jobs = s.jobs)) ∧
    (s.usb.configured = true → s.usb.report ≠ attention s →
      exec .usbInterruptReport s = .next { s with usb := { s.usb with report := attention s, lost := 0 } })) ∧
  (∀ (s : State) (a : BitVec 16), usbAnswers s = true → a.toNat < 128 →
    exec (.usbStandardRequest ⟨0x00, 5, a, 0, 0⟩) s = .next { s with usb := { s.usb with
      address := BitVec.ofNat 7 a.toNat, control := some [] } }) ∧
  (∀ s : State, usbAnswers s = true →
    exec (.usbStandardRequest ⟨0x00, 9, 1, 0, 0⟩) s = .next { s with usb := { s.usb with
      configured := true, halted := [], control := some [] } } ∧
    exec (.usbStandardRequest ⟨0x80, 6, 0x0100, 0, 18⟩) s = .next { s with usb := { s.usb with
      control := some ((usbDevice s).take 18) } })

/-- Ethernet and the IP services (R205, R206, R213) while the network runs: the link's state, an IPv4 address bound, which is
the static one where NET_IP_MODE is 1, an IPv6 address lost with the sessions on it and no others, the IPv6 link-local address
bound, a link-local address after 10 s without a lease, and the limits of 100 echoes and one port-unreachable message per
second of the RTC (log entry 94).

LLDP (R215, R216, R369, R370): each LLDPDU sent is counted and kept with the values it carries; a neighbour's allocation is
taken, limited to the part's own request and word 79, and echoed; with the TTL it ends, and the class pins' comes back. -/
def Obligations.EthernetAddressesAndLldp : Prop :=
  (∀ (up hundred full : Bool) (s : State), netRuns s = true →
    ∃ t, exec (.ethLinkChange up hundred full) s = .next t ∧ t.net = { s.net with
      up, hundred := up && hundred, full := up && full
      lldpBurst := if up && pv s.params 0x0D0D == 1 then 4 else 0 }) ∧
  (∀ (a : Word) (s : State), netRuns s = true → s.net.ip4 = none →
    ∃ t, exec (.addressChange (.ipv4 (some a))) s = .next t ∧ t.net = { s.net with
      ip4 := some (if pv s.params 0x0D05 = 1 then BitVec.ofNat 32 (pv s.params 0x0D06) else a)
      linkLocal := false, byDhcp := pv s.params 0x0D05 == 0 }) ∧
  (∀ (s : State) (a : BitVec 128), netRuns s = true → pv s.params 0x0D09 = 1 →
    (s.net.ip6 = some a → ∃ t, exec (.addressChange (.ipv6 none)) s = .next t ∧ t.net.ip6 = none ∧
      t.net.ip6Local = s.net.ip6Local ∧ t.net.conns.all (fun k => k.raw || k.dest != .v6 a) = true ∧
      (∀ k ∈ s.net.conns, k.dest ≠ .v6 a → k ∈ t.net.conns)) ∧
    (s.net.ip6Local = none → ∃ t, exec (.addressChange (.ipv6Local (some a))) s = .next t ∧
      t.net = { s.net with ip6Local := some a })) ∧
  (∀ (a : Word) (s : State), netRuns s = true → s.net.up = true → s.net.ip4 = none → pv s.params 0x0D05 = 0 →
    ∃ t, exec (.dhcpLinkLocalFallback a) s = .next t ∧ t.net = { s.net with
      ip4 := some a, linkLocal := true, byDhcp := false }) ∧
  (∀ s : State, netRuns s = true → s.net.up = true →
    exec .icmpEcho s = .next { s with net := { s.net with
      echoSec := s.clk.rtc, echoes := min 100 ((secondCounts s).1 + 1), unreach := (secondCounts s).2 } } ∧
    exec .udpDatagram s = .next { s with net := { s.net with
      echoSec := s.clk.rtc, echoes := (secondCounts s).1, unreach := min 1 ((secondCounts s).2 + 1) } }) ∧
  (∀ s : State, lldpRuns s = true →
    exec .lldpTx s = .next { wakeDoze s with net := { s.net with
      lldpSent := s.net.lldpSent + 1, lldpBurst := s.net.lldpBurst - 1, lldpLast := some (lldpdu s) } }) ∧
  (∀ (ttl pse : Nat) (s : State), lldpRuns s = true → ttl ≠ 0 → pse ≠ 0 → pv s.params 0x0601 ≠ 0 →
    ∃ t, exec (.lldpduReceived ttl pse) s = .next t ∧ t.net.lldpOn = true ∧ t.net.lldpAlloc = pse ∧
      t.saf.alloc = min (min (maxAlloc s.otp) (pv s.params 0x0D0E)) pse ∧ t.saf.allocSrc = 2 ∧
      t.net.lldpEcho = t.saf.alloc) ∧
  (∀ s : State, s.net.lldpOn = true → pv s.params 0x0601 ≠ 0 →
    ∃ t, exec .lldpTtlExpiry s = .next t ∧ t.net.lldpOn = false ∧ t.net.lldpAlloc = 0 ∧
      (∀ a, s.saf.classAlloc = some a → t.saf.alloc = min (maxAlloc s.otp) a ∧ t.saf.allocSrc = 1))

/-- TCP connections (R207 to R209, R213, R214): one is taken while the network runs, a context is free, it is to an address of
the part, its own address is not in back-off and the lifecycle allows it, a raw one with its context where NET_RAW_ENABLE is
1; one that closes is gone; one that has not proved its session within 5 s closes, as does an only connection whose session is
idle or whose link stays away; the link's loss takes LLDP's allocation with it. -/
def Obligations.ConnectionsComeAndGo : Prop :=
  (∀ (id : Nat) (source dest : IpAddr) (s : State) (c : Fin 12), netRuns s = true → s.net.up = true →
    boundAt s.net dest = true → lifecycle s.otp < 3 → inBackoff s source = false → connOf s id = none → lowestFree s = some c →
    (∃ t, exec (.tcpConnect false id source dest) s = .next t ∧ t.net.conns = s.net.conns ++
      [{ id, source, dest, raw := false, ctx := none, box := Ctx.fresh, buf := [], skip := 0, hunt := false }]) ∧
    (pv s.params 0x0D04 = 1 →
      ∃ t, exec (.tcpConnect true id source dest) s = .next t ∧ t.net.conns = s.net.conns ++
        [{ id, source, dest, raw := true, ctx := some c, box := Ctx.fresh, buf := [], skip := 0, hunt := false }])) ∧
  (∀ (raw : Bool) (id : Nat) (source dest : IpAddr) (s : State),
    (boundAt s.net dest = false ∨ inBackoff s source = true) → exec (.tcpConnect raw id source dest) s = .next s) ∧
  (∀ (id : Nat) (k : Conn) (s : State), connOf s id = some k →
    ∃ t, exec (.tcpClose id) s = .next t ∧ t.net.conns = s.net.conns.filter (fun x => x.id != id)) ∧
  (∀ (id : Nat) (k : Conn) (s : State), connOf s id = some k → k.raw = false → connOpen s k = false →
    ∃ t, exec (.sessionProveTimeout id) s = .next t ∧ t.net.conns = s.net.conns.filter (fun x => x.id != id)) ∧
  (∀ (c : Fin 12) (k : Conn) (s : State), s.net.conns = [k] → connOpen s k = true → k.ctx = some c →
    ∃ t, exec (.netSessionIdleExpiry c) s = .next t ∧ t.net.conns = []) ∧
  (∀ (k : Conn) (s : State), s.net.conns = [k] → connOpen s k = true → s.net.up = false → coreRuns s = true →
    ∃ t, exec .linkLossGraceExpiry s = .next t ∧ t.net.conns = [] ∧ t.net.lldpOn = false ∧ t.net.lldpAlloc = 0)

/-! ### Admission and answers -/

/-- Admission's checks of the frame alone (R219 to R222, R237; steps 2 to 6), of a frame that has come in: one with a damaged
header is counted and not answered on a link that is no TCP connection; one whose length is not its header's is counted and
answered BAD_LENGTH, and one with a wrong FCRC is counted and answered BAD_CHECK; a wrong version or a reserved flag is
counted and answered BAD_OPCODE; a context that is not the link's is counted and answered NO_RIGHT; and a tag that is missing,
wrong, or there on a context without a key is counted and answered BAD_CHECK, the third in a row ending the session. Such an
answer goes out through the refusal slot, at most one per context in 1 ms, and where that slot is in use the frame is only
counted as discarded (R222, R234). -/
def Obligations.DamagedFramesAreCounted : Prop :=
  (∀ (l : Link) (bs : List Byte) (s : State), mailboxUp s = true → linkUp s l = true →
    (∀ id, l ≠ .conn id) → headerOk bs = false →
    exec (.mailboxFrame l bs) s = .next
      (modCnt (arrived l bs (countIn s l bs.length)) (boxOf s l) (fun n => { n with hdr := satInc16 n.hdr }))) ∧
  (∀ (l : Link) (bs : List Byte) (s : State), mailboxUp s = true → linkUp s l = true → headerOk bs = true →
    (4096 < (headerOf bs).length ∨ bs.length ≠ (headerOf bs).total) →
    exec (.mailboxFrame l bs) s = .next (refuseFrame
      (modCnt (arrived l bs (countIn s l bs.length)) (boxOf s l) (fun n => { n with len := satInc16 n.len })) (boxOf s l) (headerOf bs)
      stBadLength)) ∧
  (∀ (l : Link) (bs : List Byte) (s : State), mailboxUp s = true → linkUp s l = true →
    headerOk bs = true → (headerOf bs).length ≤ 4096 → bs.length = (headerOf bs).total →
    slice bs (16 + (headerOf bs).length) 4 ≠ b32 (crc32c (bs.take (16 + (headerOf bs).length))).toNat →
    exec (.mailboxFrame l bs) s = .next (refuseFrame
      (modCnt (arrived l bs (countIn s l bs.length)) (boxOf s l) (fun n => { n with fcrc := satInc16 n.fcrc })) (boxOf s l) (headerOf bs)
      stBadCheck)) ∧
  (∀ (l : Link) (bs : List Byte) (s : State), mailboxUp s = true → linkUp s l = true →
    headerOk bs = true → (headerOf bs).length ≤ 4096 → bs.length = (headerOf bs).total →
    slice bs (16 + (headerOf bs).length) 4 = b32 (crc32c (bs.take (16 + (headerOf bs).length))).toNat →
    (((headerOf bs).version ≠ 2 ∨ (headerOf bs).flags &&& 0xF3 ≠ 0) →
      exec (.mailboxFrame l bs) s = .next (refuseFrame
        (modCnt (arrived l bs (countIn s l bs.length)) (boxOf s l) (fun n => { n with format := satInc16 n.format })) (boxOf s l)
        (headerOf bs) stBadOpcode)) ∧
    ((headerOf bs).version = 2 → (headerOf bs).flags &&& 0xF3 = 0 →
      ((∃ c, linkContext s l = some c ∧ (headerOf bs).context ≠ c) ∨
       (linkContext s l = none ∧ 12 ≤ (headerOf bs).context ∧ (headerOf bs).opcode ≠ 0x0B01)) →
      exec (.mailboxFrame l bs) s = .next (refuseFrame
        (modCnt (arrived l bs (countIn s l bs.length)) (boxOf s l) (fun n => { n with context := satInc16 n.context })) (boxOf s l)
        (headerOf bs) stNoRight)) ∧
    ((headerOf bs).version = 2 → (headerOf bs).flags &&& 0xF3 = 0 → linkContext s l = some (headerOf bs).context →
      (((getBox s (boxOf s l)).keyed = none ∧ (headerOf bs).flags.testBit 3 = true) ∨
       (∃ k, (getBox s (boxOf s l)).keyed = some k ∧ ((headerOf bs).flags.testBit 3 = false ∨
          slice bs (20 + (headerOf bs).length) 8 ≠ (hmac k.key (bs.take (20 + (headerOf bs).length))).take 8))) →
      exec (.mailboxFrame l bs) s = .next
        (tagFailure (arrived l bs (countIn s l bs.length)) (boxOf s l) (headerOf bs)))) ∧
  (∀ (c : Nat) (h : Header) (s : State), s.ctxs.length = 12 → c < 12 → connOn s c = none →
    (((ctxOf s c).keyed = none ∨ (ctxOf s c).tagFails < 2) →
      (ctxOf (tagFailure s (.ctx c) h) c).cnt.tag = satInc16 (ctxOf s c).cnt.tag ∧
      (ctxOf (tagFailure s (.ctx c) h) c).tagFails = (ctxOf s c).tagFails + 1 ∧
      (ctxOf (tagFailure s (.ctx c) h) c).keyed = (ctxOf s c).keyed) ∧
    ((ctxOf s c).keyed.isSome → 2 ≤ (ctxOf s c).tagFails → (ctxOf (tagFailure s (.ctx c) h) c).keyed = none)) ∧
  (∀ (b : Box) (h : Header) (st : Nat) (s : State),
    (∀ t, (getBox s b).refusedAt = some t → since s t < 1000 → refuseFrame s b h st = s) ∧
    (((getBox s b).refusedAt = none ∨ ∃ t, (getBox s b).refusedAt = some t ∧ 1000 ≤ since s t) →
      (refusalUsed (getBox s b) = false →
        refuseFrame s b h st = refuseVia (modBox s b (fun x => { x with refusedAt := some (now s) })) b .refusal h.opcode h.seq
          (Reply.no st)) ∧
      (refusalUsed (getBox s b) = true →
        refuseFrame s b h st = modCnt s b (fun n => { n with discarded := satInc16 n.discarded }))))

/-- A whole frame on an unkeyed context of links 1 to 3 that carries the expected sequence and a new ALIVE reaches the
command of its opcode with its payload; between SESSION_OPEN and SESSION_PROVE only those two do (R219 to R225; log entry
133). Nothing has changed by then but what its context and the check-value unit keep of it, and that the part is out of DOZE. -/
def Obligations.SoundFramesReachTheirCommand : Prop :=
  ∀ (l : Link) (c : Fin 12) (bs : List Byte) (s : State),
    (l, c) ∈ [(Link.i2c, (1 : Fin 12)), (Link.uart, 2), (Link.usb, 3)] → mailboxUp s = true → linkUp s l = true →
    headerOk bs = true → (headerOf bs).length ≤ 4096 → bs.length = (headerOf bs).total →
    slice bs (16 + (headerOf bs).length) 4 = b32 (crc32c (bs.take (16 + (headerOf bs).length))).toNat →
    (headerOf bs).version = 2 → (headerOf bs).flags &&& 0xF3 = 0 → (headerOf bs).flags.testBit 3 = false →
    (headerOf bs).context = c.val → (ctxOf s c.val).keyed = none → s.ctxs.length = 12 →
    ((ctxOf s c.val).opening = none ∨ (headerOf bs).opcode = 0x0B01 ∨ (headerOf bs).opcode = 0x0B02) →
    (ctxOf s c.val).lastAlive ≠ some (headerOf bs).alive →
    ((ctxOf s c.val).e = none ∨ (ctxOf s c.val).e = some (headerOf bs).seq) →
    ∃ s', exec (.mailboxFrame l bs) s = .next (runOpcode (headerOf bs).opcode
        { link := l, ctx := c, seq := (headerOf bs).seq, more := (headerOf bs).flags.testBit 2
          payload := slice bs 16 (headerOf bs).length } s') ∧
      { s' with ctxs := s.ctxs, cvu := s.cvu } = wakeDoze s ∧ (ctxOf s' c.val).lastAlive = some (headerOf bs).alive ∧
      ∀ k : Nat, k ≠ c.val → ctxOf s' k = ctxOf s k

/-- A frame that passes step 6 with the ALIVE of the last one is a duplicate: dropped without answer, counted in DUP, and
whatever command it carries is not carried out (R223).

R226: a request that is neither the expected one nor a remembered one is answered REPLAY with E where the refusal slot is free
(that it takes this slot, log entry 92), is not carried out, and leaves E as it is; a remembered one whose response has not
yet gone out in full is dropped and counted.

A request that continues no open message: one with an unknown opcode is answered BAD_OPCODE (R281), one that step 10 refuses
with the status that step 10 gives (R243), and one that finds all 8 request slots of its context in use BUSY through the refusal
slot (R234); none is carried out. -/
def Obligations.RepeatsAndRefusals : Prop :=
  (∀ (s : State) (b : Box) (h : Header) (go : State → State), (getBox s b).lastAlive = some h.alive →
     sequenceRules s b h go = countDup s b) ∧
  (∀ (s : State) (c : Nat) (h : Header) (v : Half) (go : State → State), s.ctxs.length = 12 → c < 12 →
     (ctxOf s c).lastAlive ≠ some h.alive → (ctxOf s c).e = some v → v ≠ h.seq →
     (ctxOf (sequenceRules s (.ctx c) h go) c).e = some v ∧
     { sequenceRules s (.ctx c) h go with ctxs := s.ctxs } = s ∧
     ((ctxOf s c).cache.find? (fun e => e.seq == h.seq) = none → refusalUsed (ctxOf s c) = false →
       ∃ f : OutFrame, (ctxOf (sequenceRules s (.ctx c) h go) c).out = (ctxOf s c).out ++ [f] ∧ f.use = .refusal ∧
         f.status = 0x0204 ∧ f.seq = h.seq ∧ f.payload = b16 v.toNat) ∧
     (∀ e : CacheEntry, (ctxOf s c).cache.find? (fun e => e.seq == h.seq) = some e → e.complete = false →
       (ctxOf (sequenceRules s (.ctx c) h go) c).out = (ctxOf s c).out ∧
       (ctxOf (sequenceRules s (.ctx c) h go) c).cnt.dup = satInc16 (ctxOf s c).cnt.dup)) ∧
  (∀ (op : Nat) (h : Handler) (r : Req) (s : State), coreRuns s = true → continued (accepted r s) r op = none →
     (opRight op = none → serve op h r s = answer (accepted r s) (boxOf s r.link) op r.seq
       (decide (8 ≤ slotsUsed (getBox (accepted r s) (boxOf s r.link)))) (Reply.no stBadOpcode)) ∧
     (∀ right st, opRight op = some right →
       rightCheck (accepted r s) (frameMask (accepted r s) (boxOf s r.link)) (isUnopened (boxOf s r.link)) op right
         = some st →
       serve op h r s = answer (accepted r s) (boxOf s r.link) op r.seq
         (decide (8 ≤ slotsUsed (getBox (accepted r s) (boxOf s r.link)))) (Reply.no st)) ∧
     (∀ right, opRight op = some right →
       rightCheck (accepted r s) (frameMask (accepted r s) (boxOf s r.link)) (isUnopened (boxOf s r.link)) op right
         = none →
       8 ≤ slotsUsed (getBox (accepted r s) (boxOf s r.link)) →
       serve op h r s = answer (accepted r s) (boxOf s r.link) op r.seq true (Reply.no stBusy)))

/-- Fragments (R229 to R231) of a message of an opcode that consumes them only when they are complete. The first, past steps 8 to
11, opens the message and is answered with its bytes so far; a first fragment beside another open message is BUSY. One that
continues the message joins it, answered with the bytes so far; beyond the limit of a message it is BAD_LENGTH and ends the
message, and without room in the pool it is BUSY and leaves it. The last one runs the command on all the bytes, and the message is
over: SYS_ECHO is shown. Where every request slot is full, the answer to a continuing fragment takes the refusal slot (log entry
131). -/
def Obligations.FragmentsBecomeMessages : Prop :=
  (∀ (op : Nat) (h : Handler) (r : Req) (s : State) (right : Option Nat), coreRuns s = true → streamed op = false → r.more = true →
    opRight op = some right → continued (accepted r s) r op = none →
    rightCheck (accepted r s) (frameMask (accepted r s) (boxOf s r.link)) (isUnopened (boxOf s r.link)) op right = none →
    slotsUsed (getBox (accepted r s) (boxOf s r.link)) < 8 →
    ((getBox (accepted r s) (boxOf s r.link)).msg.isSome →
      serve op h r s = answered op r (Reply.no stBusy) (accepted r s)) ∧
    ((getBox (accepted r s) (boxOf s r.link)).msg = none → kindBusy (accepted r s) op = false →
      ((op ≠ 0x0301 ∧ op ≠ 0x0302) ∨ jobRoom (accepted r s) r.ctx.val = true) → r.payload.length ≤ 65536 →
      poolUsed (accepted r s) + r.payload.length ≤ 262144 →
      serve op h r s = answered op r (fragOk r.payload.length) (modBox (accepted r s) (boxOf s r.link)
        (fun x => { x with msg := some (openMsg (accepted r s) r op r.payload) })))) ∧
  (∀ (op : Nat) (h : Handler) (r : Req) (s : State) (m : OpenMsg) (full : Bool), coreRuns s = true → streamed op = false →
    continued (accepted r s) r op = some m → full = decide (8 ≤ slotsUsed (getBox (accepted r s) (boxOf s r.link))) →
    (65536 < m.bytes.length + r.payload.length →
      ∃ u, u = modBox (accepted r s) (boxOf s r.link) (fun x => { x with msg := none }) ∧
        serve op h r s = answer u (boxOf u r.link) op r.seq full (Reply.no stBadLength)) ∧
    (m.bytes.length + r.payload.length ≤ 65536 → 262144 < poolUsed (accepted r s) + r.payload.length →
      serve op h r s = answer (accepted r s) (boxOf (accepted r s) r.link) op r.seq full (Reply.no stBusy)) ∧
    (m.bytes.length + r.payload.length ≤ 65536 → poolUsed (accepted r s) + r.payload.length ≤ 262144 →
      (r.more = true →
        ∃ u, u = modBox (accepted r s) (boxOf s r.link) (fun x => { x with msg := some { m with
            bytes := m.bytes ++ r.payload, count := m.bytes.length + r.payload.length } }) ∧
          serve op h r s = answer u (boxOf u r.link) op r.seq full (fragOk (m.bytes.length + r.payload.length))) ∧
      (r.more = false → ∀ (rep : Reply) (v : State), h { r with payload := m.bytes ++ r.payload } (accepted r s) = (rep, v) →
        ∃ u, u = modBox v (boxOf s r.link) (fun x => { x with msg := none }) ∧
          serve op h r s = answer u (boxOf u r.link) op r.seq full rep))) ∧
  (∀ (r : Req) (s : State) (m : OpenMsg), coreRuns s = true → continued (accepted r s) r 0x0106 = some m → r.more = false →
    m.bytes.length + r.payload.length ≤ 256 → poolUsed (accepted r s) + r.payload.length ≤ 262144 →
    slotsUsed (getBox (accepted r s) (boxOf s r.link)) < 8 → lifecycle s.otp ≠ 4 →
    exec (.sysEcho r) s = .next (answered 0x0106 r (Reply.ok (m.bytes ++ r.payload))
      (modBox (accepted r s) (boxOf s r.link) (fun x => { x with msg := none }))))

/-- R232: an open message left alone for MBX_FRAG_TIMEOUT, that of a link or one that a context keeps after its session has
closed, is discarded with its space, and the part logs it with its opcode and the bytes it had. Nothing else changes, but that
the part is out of DOZE and that a raster job which the message was bringing fails (R296). -/
def Obligations.OpenMessagesExpire : Prop :=
  ∀ (p : MsgPlace) (s u : State) (m : OpenMsg), s.ctxs.length = 12 → (getBox s (msgBox s p)).msg = some m →
    u = logFor (wakeDoze s) 0x0203 (b16 m.opcode.toNat ++ b32 m.count) (boxContext s (msgBox s p)) 0 →
    (∃ t, exec (.mbxFragTimeout p) s = .next t ∧ (getBox t (msgBox s p)).msg = none ∧ t.log.staging = u.log.staging) ∧
    ((m.opcode ≠ 0x0302 ∨ jobStIs s m.job .rendering = false ∨ isUnopened (msgBox s p) = true) →
      exec (.mbxFragTimeout p) s = .next (modBox u (msgBox s p) (fun x => { x with msg := none }))) ∧
    (m.opcode = 0x0302 → jobStIs s m.job .rendering = true → isUnopened (msgBox s p) = false →
      exec (.mbxFragTimeout p) s = .next
        (failJob (modBox u (msgBox s p) (fun x => { x with msg := none })) m.job rasterIncomplete))

/-- Queuing an answer touches the mailbox only: everything else in the part is as the command left it (R228, R234).

A frame that has gone out in full on UART, USB or the debug port, and that ends no session and no run, frees its slot and
advances the part's ALIVE; the last piece of a response completes its cache entry, and the UART carries it as a link frame
(R195, R224, R226, R234). Other contexts and everything else are as they were. -/
def Obligations.AnswersAndDeliveries : Prop :=
  (∀ (op : Nat) (r : Req) (rep : Reply) (s : State),
     { answered op r rep s with ctxs := s.ctxs, net := s.net } = s ∧
     (∀ c : Nat, boxOf s r.link = .ctx c → s.ctxs.length = 12 → c < 12 →
       (answered op r rep s).net = s.net ∧ (∀ k : Nat, k ≠ c → ctxOf (answered op r rep s) k = ctxOf s k) ∧
       (rep.payload.length ≤ 4096 → (ctxOf (answered op r rep s) c).out = (ctxOf s c).out ++
         [{ use := .request, opcode := BitVec.ofNat 16 op, seq := r.seq, status := BitVec.ofNat 16 rep.status
            payload := rep.payload, more := false, endsSession := rep.ends, whose := rep.whose }]))) ∧
  (∀ (l : Link) (c : Fin 12) (s : State) (f : OutFrame) (fs : List OutFrame),
     (l, c) ∈ [(Link.debug, (0 : Fin 12)), (Link.uart, 2), (Link.usb, 3)] → linkSends s l = true → s.ctxs.length = 12 →
     (ctxOf s c.val).out = f :: fs → f.endsSession = false → s.rst.resetPend = none →
     ∃ t, exec (.responseDelivered l) s = .next t ∧ (ctxOf t c.val).out = fs ∧
       (ctxOf t c.val).alive = (ctxOf s c.val).alive + 1 ∧
       (f.use = .request → f.more = false → ∀ e ∈ (ctxOf t c.val).cache, e.seq = f.seq → e.complete = true) ∧
       (l = .uart → t.uart.sent = linkFrame (wireBytes 2 (ctxOf s 2) f)) ∧
       (∀ k : Nat, k ≠ c.val → ctxOf t k = ctxOf s k) ∧
       { t with ctxs := s.ctxs, cvu := s.cvu, uart := { t.uart with sent := s.uart.sent } } = s)

/-- The commands that only read, or set nothing but mailbox state, change nothing outside it: the links' boxes, and what
leaving DOZE brings (the power state, the watchdog, the motors' enables and what the log stages). The subscription of
HUB_SUBSCRIBE and the counters that SYS_COUNTERS clears are the box's; SYS_RESET, HUB_STATUS, PWR_STATE_SET and LOG_CLEAR
change their own register in the reset, power and log records as well (the reset that waits, CFG_ABORT, the entry that waits and
the lowest visible record), OTP_READ notes its crossing, NET_STATUS draws free values, OTP_READ the count and
the marks of corrected words, the reads of records, slots and snapshots leave their stream's state in the check-value unit
that checked it, and PWR_STATE_SET moves the head's cap as it enters DOZE (R92, R113, R285, R300, R303, R309, R311, R313,
R318, R322, R324, R528). -/
def Obligations.ReadingCommandsChangeNothingElse : Prop :=
  ∀ (r : Req) (s t : State) (c : Instr),
    c ∈ [Instr.sysIdent r, .sysReset r, .sysCounters r, .sysTime r, .sysEcho r, .paramRead r, .paramInfo r, .jobStatus r,
      .jobList r, .hubValues r, .hubRecords r, .hubConfigRead r, .hubSubscribe r, .hubStatus r, .pwrStateQuery r,
      .pwrStateSet r, .seqStatus r, .calStatus r, .nozMapRead r, .fireCountRead r, .mechStatus r, .logInfo r, .logRead r,
      .faultRead r, .snapshotRead r, .logClear r, .otpRead r, .otpStatus r, .storeInfo r, .profileInfo r, .objectList r,
      .nvmWear r, .netStatus r, .rightsGet r] →
    exec c s = .next t →
    t = { s with
      ctxs := t.ctxs, net := { s.net with conns := t.net.conns }, clk := { s.clk with free := t.clk.free }
      rst := { s.rst with
        wdtRun := t.rst.wdtRun
        resetPend := if c = .sysReset r then t.rst.resetPend else s.rst.resetPend
        abHubCfg := if c = .hubStatus r then t.rst.abHubCfg else s.rst.abHubCfg
        raOtp := if c = .otpRead r then t.rst.raOtp else s.rst.raOtp }
      pwr := { s.pwr with
        st := t.pwr.st, dozeDue := t.pwr.dozeDue, entry := if c = .pwrStateSet r then t.pwr.entry else s.pwr.entry }
      log := { stagedOnly s.log t.log with lowest := if c = .logClear r then t.log.lowest else s.log.lowest }
      motion := if c = .pwrStateSet r then t.motion else { s.motion with en := t.motion.en }
      cvu := if c ∈ [Instr.hubRecords r, .logRead r, .faultRead r, .snapshotRead r] then t.cvu else s.cvu
      otp := if c = .otpRead r then { s.otp with corrected := t.otp.corrected, corrLogged := t.otp.corrLogged } else s.otp } ∧
    t.rst.main = s.rst.main ∧ t.rst.cause = s.rst.cause ∧ t.net.up = s.net.up ∧ t.net.ip4 = s.net.ip4

/-- The commands that set values, entries or states leave alone what is none of theirs: the rails, Saffron's reservoir and
admission, the Fife, motion but for the enables that leaving DOZE raises, one-time memory, the debug port and the
calibrations. -/
def Obligations.SettingCommandsKeepToTheirOwn : Prop :=
  ∀ (r : Req) (s t : State) (c : Instr),
    c ∈ [Instr.paramWrite r, .paramRevert r, .hubSlotSet r, .hubDescSet r, .hubStickyClear r, .hubRecordsAck r, .jobHold r,
      .jobPriority r, .nozMark r, .profileErase r, .objectErase r, .sessionClose r, .netSessionEnd r] →
    exec c s = .next t →
    t.seq = s.seq ∧ t.saf = s.saf ∧ t.fife = s.fife ∧ t.motion = { s.motion with en := t.motion.en } ∧
    t.otp = s.otp ∧ t.dbg = s.dbg ∧ t.cal = s.cal ∧ t.clk = s.clk ∧ t.reed = s.reed ∧ t.uart = s.uart ∧ t.pending = s.pending

/-! ### Mailbox commands -/

/-- The system family (R285 to R289): what SYS_IDENT, SYS_COUNTERS, SYS_TIME and SYS_ECHO answer, a reset that waits for its
response to go out, and the RTC set to a second before its alarm. -/
def Obligations.SystemCommands : Prop :=
  ∀ (r : Req) (s : State),
    (admitted 0x0101 r s = true → r.payload = [] →
      exec (.sysIdent r) s = .next (answered 0x0101 r (Reply.ok (partId ++ fwVer s ++
        [lcCode s.otp, pstateCode (accepted r s).pwr.st, s.rst.cause, statusByte (accepted r s)] ++
        b16 (frameMask (accepted r s) (boxOf s r.link)).toNat ++ b32 s.log.bootCount.toNat ++ b48 (now s).toNat ++
        zeros 2 ++ dieId s.otp)) (accepted r s))) ∧
    (∀ scope : Byte, admitted 0x0102 r s = true → r.payload = [scope, 0, 0, 0] → scope.toNat ≤ 1 →
      exec (.sysReset r) s = .next (answered 0x0102 r (Reply.ok []) { accepted r s with
        rst := { (accepted r s).rst with resetPend := some (scope == 1) } })) ∧
    (∀ clear : Byte, admitted 0x0103 r s = true → r.payload = [clear, 0, 0, 0] → clear.toNat ≤ 1 →
      exec (.sysCounters r) s = .next (answered 0x0103 r
        (Reply.ok (getBox (accepted r s) (boxOf (accepted r s) r.link)).cnt.bytes)
        (if clear = 1 then modCnt (accepted r s) (boxOf (accepted r s) r.link) (fun _ => Counters.zero)
         else accepted r s))) ∧
    (admitted 0x0104 r s = true → r.payload = [] →
      exec (.sysTime r) s = .next (answered 0x0104 r (Reply.ok (b48 (now s).toNat ++ b32 s.clk.rtc.toNat ++
        [b8 (maskOf [decide (s.clk.xo32 = .adopted), s.clk.rtcSet]), 0])) (accepted r s))) ∧
    (admitted 0x0105 r s = true → r.payload.length = 4 →
      (s.clk.rtcAlarm = 0 ∨ (BitVec.ofNat 32 (ofLe r.payload)).toNat < s.clk.rtcAlarm.toNat) →
      exec (.sysRtcSet r) s = .next (answered 0x0105 r (Reply.ok []) { accepted r s with
        clk := { s.clk with rtc := BitVec.ofNat 32 (ofLe r.payload), rtcSet := true } })) ∧
    (admitted 0x0106 r s = true → r.payload.length ≤ 256 →
      exec (.sysEcho r) s = .next (answered 0x0106 r (Reply.ok r.payload) (accepted r s)))

/-- Parameters (R250 to R256, R291, R292): reads, a write, which takes every entry or, where one fails, none and names the
failing one with its status, the revert, and what the description of one ID begins with. -/
def Obligations.ParameterReadsAndWrites : Prop :=
  ∀ (r : Req) (s : State),
    (∀ n : Byte, ∀ ids : List Byte, admitted 0x0201 r s = true → r.payload = n :: 0 :: ids → 1 ≤ n.toNat → n.toNat ≤ 64 →
      ids.length = 2 * n.toNat → (∀ id ∈ idsOf ids, (descOf id).isSome) →
      exec (.paramRead r) s = .next (answered 0x0201 r
        (Reply.ok (((idsOf ids).filterMap descOf).flatMap (readEntry (accepted r s)))) (accepted r s))) ∧
    (∀ (n : Byte) (body : List Byte) (es : List Entry3), admitted 0x0202 r s = true → r.payload = n :: 0 :: body →
      1 ≤ n.toNat → n.toNat ≤ 64 → parseEntries n.toNat body = some es →
      (∀ e ∈ es, entryStatus e = none ∧ entryRight (lifecycle s.otp) (admMask (accepted r s) r 0x0202) e = none) →
      ∃ t, exec (.paramWrite r) s = .next (answered 0x0202 r (Reply.ok []) t) ∧
        t.params = es.foldl (fun p e => setParam p e.id e.val) s.params ∧
        { t with params := s.params, log := s.log } = { accepted r s with log := s.log }) ∧
    (∀ (n : Byte) (body : List Byte) (es : List Entry3) (e : Entry3) (st : Nat), admitted 0x0202 r s = true →
      r.payload = n :: 0 :: body → 1 ≤ n.toNat → n.toNat ≤ 64 → parseEntries n.toNat body = some es → e ∈ es →
      entryStatus e = some st →
      ∃ k ∈ es, ∃ st' : Nat,
        exec (.paramWrite r) s = .next (answered 0x0202 r ⟨st', b16 k.id, false, none⟩ (accepted r s)) ∧
        (entryStatus k = some st' ∨ entryRight (lifecycle s.otp) (admMask (accepted r s) r 0x0202) k = some st')) ∧
    (admitted 0x0204 r s = true → r.payload = [] →
      ∃ t, exec (.paramRevert r) s = .next (answered 0x0204 r (Reply.ok []) t) ∧
        t.params = { s.params with working := [], pending := [] } ∧
        { t with params := s.params, log := s.log } = { accepted r s with log := s.log }) ∧
    (∀ d : Desc, admitted 0x0206 r s = true → r.payload.length = 2 → descOf (ofLe r.payload) = some d →
      ∃ p, exec (.paramInfo r) s = .next (answered 0x0206 r (Reply.ok p) (accepted r s)) ∧
        p.take 6 = b16 d.id ++ [b8 d.ty, b8 d.len, b8 d.right, b8 d.eff])

/-- Commits (R255, R256, R260): the whole set goes into the older image area with the next COMMIT_SEQ and into force, and the
working and pending values are gone; PARAM_DEFAULTS commits an empty image, PROFILE_APPLY the profile's values. -/
def Obligations.CommitsPutValuesInForce : Prop :=
  ∀ (r : Req) (s : State), NvmSound s → s.nvm.images.length = 2 → s.params.image ≤ 1 →
    (admitted 0x0203 r s = true → r.payload = [] →
      commitCheck (viewOf (accepted r s) (wholeSet s.params)) = none →
      ∃ t, exec (.paramCommit r) s = .next (answered 0x0203 r (Reply.ok (b32 ((imageInForce s).commitSeq + 1).toNat)) t) ∧
        t.params.committed = normalise (wholeSet s.params) ∧ t.params.working = [] ∧ t.params.pending = [] ∧
        t.params.image = 1 - s.params.image ∧ t.nvm.images[1 - s.params.image]? = some
          (imageBytes ⟨(imageInForce s).commitSeq + 1, (imageInForce s).profId, (imageInForce s).profVer,
           normalise (wholeSet s.params)⟩) ∧
        t.nvm.images[s.params.image]? = s.nvm.images[s.params.image]?) ∧
    (admitted 0x0205 r s = true → r.payload = ascii "DFLT" →
      ∃ t, exec (.paramDefaults r) s = .next (answered 0x0205 r (Reply.ok (b32 ((imageInForce s).commitSeq + 1).toNat)) t) ∧
        t.params.committed = [] ∧ t.params.working = [] ∧ t.params.pending = [] ∧
        t.nvm.images[1 - s.params.image]? = some (imageBytes ⟨(imageInForce s).commitSeq + 1, 0, 0, []⟩)) ∧
    (∀ (slot : Byte) (p : Profile), admitted 0x0207 r s = true → r.payload = [slot, 0, 0, 0] → slot.toNat ≤ 7 →
      s.nvm.profiles.getD slot.toNat none = some p →
      profRefusal (accepted r s) (lifecycle s.otp) (admMask (accepted r s) r 0x0207) p
        ((parseEntries (profCount p.bytes) (profBody p.bytes)).getD []) = none →
      ∃ t, exec (.profileApply r) s = .next (answered 0x0207 r (Reply.ok (b32 (profId p.bytes).toNat ++
          b32 (profVer p.bytes).toNat ++ b32 ((imageInForce s).commitSeq + 1).toNat)) t) ∧
        t.params.committed = normalise (profSet s p.bytes ((parseEntries (profCount p.bytes) (profBody p.bytes)).getD [])) ∧
        t.nvm.images[1 - s.params.image]? = some (imageBytes ⟨(imageInForce s).commitSeq + 1, profId p.bytes, profVer p.bytes,
          t.params.committed⟩))

/-- Submissions (R293 to R296): a description job gets the next ID and is QUEUED, or HELD where its header says so, with the
description as sent; a raster job whose bytes the store takes is created, fed and ended, and both answer the ID.

R532: once the counter has assigned its last ID, a submission is answered NO_SPACE and no job is created. -/
def Obligations.JobsAreSubmitted : Prop :=
  (∀ (r : Req) (s : State),
     (admitted 0x0301 r s = true → 8 ≤ r.payload.length → firstFail (headerChecks r.payload) = none →
       s.jobs.nextId ≤ 0xFFFFFFFF → (∀ j ∈ s.jobs.live, j.id < s.jobs.nextId) →
       ∃ t, exec (.jobSubmit r) s = .next (answered 0x0301 r (Reply.accepted (b32 s.jobs.nextId)) t) ∧
         t.jobs.nextId = s.jobs.nextId + 1 ∧
         ∃ j ∈ t.jobs.live, j.id = s.jobs.nextId ∧ j.ctx = r.ctx ∧ j.raster = false ∧ j.desc = r.payload.drop 8 ∧
           j.prio = fieldAt r.payload 0 1 ∧ j.hostRef = BitVec.ofNat 32 (fieldAt r.payload 4 4) ∧
           j.st = (if (byteAt r.payload 1).toNat.testBit 0 then .held else .queued)) ∧
     (∀ s' : State, admitted 0x0302 r s = true → 16 ≤ r.payload.length →
       firstFail (headerChecks r.payload ++ [reservedAt r.payload 12 4]) = none →
       fieldAt r.payload 8 4 ≤ 4194304 → s.jobs.nextId ≤ 0xFFFFFFFF →
       feedRaster (addRaster (accepted r s) r.ctx r.payload false (fieldAt r.payload 8 4)) s.jobs.nextId
         (r.payload.drop 16) = .fed s' →
       exec (.jobSubmitRaster r) s = .next (answered 0x0302 r (Reply.accepted (b32 s.jobs.nextId))
         (schedule (endRaster s' s.jobs.nextId))))) ∧
  (∀ (r : Req) (s : State), admitted 0x0301 r s = true → 8 ≤ r.payload.length →
     firstFail (headerChecks r.payload) = none → 0xFFFFFFFF < s.jobs.nextId →
     ∃ t, exec (.jobSubmit r) s = .next (answered 0x0301 r (Reply.no stNoSpace) t) ∧ t.jobs = s.jobs)

/-- Commands on a job that the request has R243's right to, PRINT for its own context's and RIGHTS_ADMIN for another's (R294, R297
to R299): its status, with the hold that a paused ticket has now
(R381), cancelling, holding, listing and its class. A HELD job that is released is QUEUED again, and where its reprint policy held
it, its reprint is queued with its banner; a raster job, whose raster is complete, goes on to READY (log entry 36).

A cancelled job that has not begun to print leaves the unfinished jobs and is kept as CANCELLED (R297, R298); what its raw
record still lacks is skipped as it comes, shown on USB (R336, R337).

Without that right the command is refused NO_RIGHT: another context's job needs RIGHTS_ADMIN (R243, R297). -/
def Obligations.JobCommands : Prop :=
  (∀ (r : Req) (s : State),
     (∀ j : Job, jobOf s (fieldAt r.payload 0 4) = some j →
       (admitted 0x0303 r s = true → r.payload.length = 4 → jobRight (accepted r s) r 0x0303 j.ctx = true →
         exec (.jobStatus r) s = .next (answered 0x0303 r (Reply.ok (b32 j.id ++
           [b8 (jobCode j.st), b8 j.prio, b8 j.ctx.val, if j.raster then 1 else 0] ++
            b16 (shownHold (accepted r s) j).toNat ++ zeros 2 ++
           b32 j.hostRef.toNat ++ b32 j.lines ++ b32 j.fired)) (accepted r s))) ∧
       (admitted 0x0304 r s = true → r.payload.length = 4 → jobRight (accepted r s) r 0x0304 j.ctx = true →
         j.st ≠ .printing → j.st ≠ .cutting →
         (linksOf (markCancelled (accepted r s) j.id) j.id = [] →
           exec (.jobCancel r) s = .next (answered 0x0304 r (Reply.ok [9, 0, 0, 0])
             (schedule (cancelNow (markCancelled (accepted r s) j.id) j.id)))) ∧
         ((∀ k ∈ s.jobs.live, k.id < s.jobs.nextId) →
           exec (.jobCancel r) s = .next (answered 0x0304 r (Reply.ok [9, 0, 0, 0])
             (schedule (cancelStreamed (markCancelled (accepted r s) j.id) j.id))))) ∧
       (admitted 0x0305 r s = true → r.payload.length = 4 → jobRight (accepted r s) r 0x0305 j.ctx = true →
         (j.st = .queued ∨ (j.raster = false ∧ (j.st = .rendering ∨ j.st = .ready))) →
         ∃ t, exec (.jobHold r) s = .next (answered 0x0305 r (Reply.ok []) t) ∧
           jobOf t j.id = some { (if j.raster then j else freeRaster j) with st := .held, hold := 0, detail := 0 }) ∧
       (admitted 0x0306 r s = true → r.payload.length = 4 → jobRight (accepted r s) r 0x0306 j.ctx = true → j.st = .held →
         exec (.jobRelease r) s = .next (answered 0x0306 r (Reply.ok []) (releaseJob (accepted r s) j)) ∧
         (j.raster = false →
           jobOf (releaseJob (accepted r s) j) j.id = some { j with
             st := .queued, hold := 0, detail := 0, holdFlag := false, banner := j.banner || j.reprintDue } ∧
           (j.reprintDue = true → j.id ∈ (releaseJob (accepted r s) j).jobs.interrupted)) ∧
         (j.raster = true →
           ∃ u k, releaseJob (accepted r s) j = schedule u ∧ jobOf u j.id = some { j with
             st := .ready, hold := k, detail := 0, holdFlag := false, banner := j.banner || j.reprintDue } ∧
             (j.reprintDue = true → j.id ∈ u.jobs.interrupted))) ∧
       (∀ cls : Byte, admitted 0x0308 r s = true → r.payload.length = 8 → slice r.payload 4 4 = [cls, 0, 0, 0] →
         cls.toNat ≤ 2 → jobRight (accepted r s) r 0x0308 j.ctx = true → (j.st = .queued ∨ j.st = .held) →
         exec (.jobPriority r) s = .next (answered 0x0308 r (Reply.ok [])
           (modJob (accepted r s) j.id (fun j => { j with prio := cls.toNat, aged := false }))))) ∧
     (admitted 0x0307 r s = true → r.payload = [] →
       exec (.jobList r) s = .next (answered 0x0307 r (Reply.ok
         ([b8 ((s.jobs.live.filter (fun j => j.ctx == r.ctx)).take 16).length, 0, 0, 0] ++
          ((s.jobs.live.filter (fun j => j.ctx == r.ctx)).take 16).flatMap
            (fun j => b32 j.id ++ [b8 (jobCode j.st), b8 j.prio] ++ b16 (shownHold (accepted r s) j).toNat))) (accepted r s)))) ∧
  (∀ (s : State) (j : Job), jobOf s j.id = some j →
     jobOf (cancelNow s j.id) j.id = none ∧
     (∃ f : Finished, (cancelNow s j.id).jobs.finished.head? = some f ∧ f.id = j.id ∧ f.st = .cancelled) ∧
     (∀ id : Nat, id ≠ j.id → jobOf (cancelNow s j.id) id = jobOf s id)) ∧
  (∀ (s : State) (j : Job) (d : Decoder), s.usb.attached = true → s.usb.configured = true → rawJob s 3 = some j →
     jobOf s j.id = some j → j.dec = some d → s.usb.raw = [] → s.net.conns = [] →
     ∃ u, cancelStreamed s j.id = cancelNow u j.id ∧ u = { s with usb := { s.usb with skip := d.total - d.got } }) ∧
  (∀ (r : Req) (s : State) (j : Job), admitted 0x0304 r s = true → r.payload.length = 4 →
     jobOf s (fieldAt r.payload 0 4) = some j →
     ((j.ctx ≠ r.ctx ∧ hasBit (admMask (accepted r s) r 0x0304) rAdmin = false) ∨
      (j.ctx = r.ctx ∧ hasBit (admMask (accepted r s) r 0x0304) rPrint = false)) →
     exec (.jobCancel r) s = .next (answered 0x0304 r (Reply.no stNoRight) (accepted r s)))

/-- The hub's readings and records (R301, R524): values of the selected channels, records from the read pointer with what
LOST counts, the records that their ALIVE shows as missing among it, the entry as Clove holds it, the status, whose read
clears CFG_ABORT, and the pointer's advance, which takes the last record's ALIVE along. -/
def Obligations.HubReads : Prop :=
  ∀ (r : Req) (s : State),
    (admitted 0x0401 r s = true → r.payload.length = 4 → fieldAt r.payload 0 4 < 2 ^ 27 →
      exec (.hubValues r) s = .next (answered 0x0401 r (Reply.ok (b48 (now s).toNat ++ zeros 2 ++
        (bitsOf 27 (fieldAt r.payload 0 4)).flatMap (fun c => b16 (recordCode (accepted r s) c)))) (accepted r s))) ∧
    (admitted 0x0402 r s = true → r.payload.length = 2 → 1 ≤ fieldAt r.payload 0 2 → fieldAt r.payload 0 2 ≤ 340 →
      exec (.hubRecords r) s = .next (answered 0x0402 r (Reply.ok
        (b16 (s.hub.fifo.take (fieldAt r.payload 0 2)).length ++
         b16 (min 65535 (recordsLost s.hub (s.hub.fifo.take (fieldAt r.payload 0 2)))) ++
         (s.hub.fifo.take (fieldAt r.payload 0 2)).flatten))
        (noteHubRead (accepted r s) (s.hub.fifo.take (fieldAt r.payload 0 2))))) ∧
    (∀ k i : Byte, admitted 0x0406 r s = true → r.payload = [k, i, 0, 0] → k.toNat ≤ 2 →
      i.toNat < (if k = 0 then 64 else if k = 1 then 16 else 32) →
      exec (.hubConfigRead r) s = .next (answered 0x0406 r (Reply.ok
        (if k = 0 then hubSlot s.hub i.toNat else if k = 1 then hubDesc s.hub i.toNat else hubDet s.hub i.toNat))
        (accepted r s))) ∧
    (admitted 0x0408 r s = true → r.payload = [] →
      exec (.hubStatus r) s = .next (answered 0x0408 r (Reply.ok (b32 s.hub.sticky.toNat ++ b16 s.hub.fifo.length ++
        [b8 (pv s.params 0x0A01), b8 s.hub.borrowed] ++ b32 s.hub.overrun.toNat ++ b32 s.hub.lost.toNat ++
        [if s.rst.abHubCfg.isSome then 1 else 0, 0, 0, 0])) { accepted r s with
          rst := { (accepted r s).rst with abHubCfg := none } })) ∧
    (admitted 0x040A r s = true → r.payload.length = 2 →
      exec (.hubRecordsAck r) s = .next (answered 0x040A r (Reply.ok []) { accepted r s with
        hub := { s.hub with
          fifo := s.hub.fifo.drop (ofLe r.payload), fifoLost := 0, fifoOver := 0
          ackAlive := passedAlive s.hub (ofLe r.payload) } }))

/-- The hub's configuration (R302, R469 to R472, R483, R489, R493): a slot, a descriptor or a detector that its checks pass
and that feeds no active detector with a DISCH action is stored as sent, and what its HUB_CFG crossing would need
to put it back is kept beside the request (R85; log entry 13); a subscription is kept in its box, and ones clear sticky bits. -/
def Obligations.HubConfiguration : Prop :=
  ∀ (r : Req) (s : State),
    (∀ (n : Byte) (e : List Byte), admitted 0x0403 r s = true → r.payload = [n, 0, 0, 0] ++ e → e.length = 28 →
      10 ≤ n.toNat → n.toNat ≤ 63 → slotCheck e = none → slotNamesUnused (hubDesc s.hub) e = false →
      slotHeld s.hub n.toNat = false → s.hub.slots.length = 64 →
      ∃ t, exec (.hubSlotSet r) s = .next (answered 0x0403 r (Reply.ok []) t) ∧ hubSlot t.hub n.toNat = e ∧
        (∀ k, k ≠ n.toNat → hubSlot t.hub k = hubSlot s.hub k) ∧ t.hub.dets = s.hub.dets ∧ t.hub.descs = s.hub.descs ∧
        t.rst.raHub = some (⟨now s, 0x0403⟩,
          .slot n.toNat (hubSlot s.hub n.toNat) (slotRunOf s.hub n.toNat) s.hub.busI2c s.hub.busSpi s.hub.done) ∧
        { t with hub := s.hub, rst := { t.rst with raHub := s.rst.raHub } } = accepted r s) ∧
    (∀ (n : Byte) (d : List Byte), admitted 0x0404 r s = true → r.payload = [n, 0, 0, 0] ++ d → d.length = 32 →
      n.toNat ≤ 15 → descCheck d = none → (descUnused d && descNamed s.hub n.toNat) = false →
      exec (.hubDescSet r) s = .next (answered 0x0404 r (Reply.ok []) { accepted r s with
        hub := { s.hub with descs := s.hub.descs.set n.toNat d }
        rst := { (accepted r s).rst with
          raHub := some (⟨now s, 0x0404⟩, .desc n.toNat (hubDesc s.hub n.toNat)) } })) ∧
    (∀ (n : Byte) (e : List Byte), admitted 0x0405 r s = true → r.payload = [n, 0, 0, 0] ++ e → e.length = 16 →
      n.toNat ≤ 31 → detCheck n.toNat e = none → detSourceOff (hubSlot s.hub) e = false → detHeld s.hub n.toNat = false →
      s.hub.dets.length = 32 →
      ∃ t, exec (.hubDetectorSet r) s = .next (answered 0x0405 r (Reply.ok []) t) ∧ hubDet t.hub n.toNat = e ∧
        (∀ k, k ≠ n.toNat → hubDet t.hub k = hubDet s.hub k) ∧ t.hub.slots = s.hub.slots) ∧
    (admitted 0x0407 r s = true → r.payload.length = 4 →
      exec (.hubSubscribe r) s = .next (answered 0x0407 r (Reply.ok []) (modBox (accepted r s)
        (boxOf (accepted r s) r.link) (fun x => { x with subs := BitVec.ofNat 32 (ofLe r.payload) })))) ∧
    (admitted 0x0409 r s = true → r.payload.length = 4 →
      exec (.hubStickyClear r) s = .next (answered 0x0409 r (Reply.ok []) { accepted r s with
        hub := { s.hub with sticky := s.hub.sticky &&& ~~~ (BitVec.ofNat 32 (ofLe r.payload)) } }))

/-- Power-state commands (R92, R303, R304, R459): DOZE where nothing is to be done, at once or when the head can be capped
(log entry 87), a requested entry to NAP or HIBERNATE that waits for its response and takes the place of one that waits
already (log entry 153), the query, and an RTC alarm that lies ahead.

DISCH_HOLD (R306, R365, R366): setting it asserts DISCH with reason 6, with the charger released; releasing it drops
that reason and leaves DISCH to Saffron, with the sides of its SEQ_REQ kept beside the request (R85; log entry 13). -/
def Obligations.PowerCommands : Prop :=
  (∀ (r : Req) (s : State),
     (admitted 0x0501 r s = true → r.payload = [1, 0, 0, 0, 0, 0, 0, 0] → dozeAllowed s = true →
       ∃ t, exec (.pwrStateSet r) s = .next (answered 0x0501 r (Reply.ok []) t) ∧
         (capReady s = true → t.pwr.st = .doze ∧ t.motion.capped = true ∧ t.motion.en = 0) ∧
         (capReady s = false → t = { accepted r s with pwr := { (accepted r s).pwr with dozeDue := true } })) ∧
     (admitted 0x0501 r s = true → r.payload = [2, 0, 0, 0, 0, 0, 0, 0] → entryRefusal (accepted r s) false false = none →
       exec (.pwrStateSet r) s = .next (answered 0x0501 r (Reply.ok []) { accepted r s with pwr := { (accepted r s).pwr with
         entry := some { hib := false, discard := false, napLimit := 0, req := some (r.ctx, r.seq), begun := false } } })) ∧
     (admitted 0x0501 r s = true → r.payload = [3, 1, 0, 0, 0, 0, 0, 0] → entryRefusal (accepted r s) true true = none →
       exec (.pwrStateSet r) s = .next (answered 0x0501 r (Reply.ok []) { accepted r s with pwr := { (accepted r s).pwr with
         entry := some { hib := true, discard := true, napLimit := 0, req := some (r.ctx, r.seq), begun := false } } })) ∧
     (admitted 0x0502 r s = true → r.payload = [] →
       exec (.pwrStateQuery r) s = .next (answered 0x0502 r (Reply.ok
         ([pstateCode (accepted r s).pwr.st, s.pwr.entryState] ++ b16 s.pwr.lastCause.toNat ++ b48 s.pwr.wakeTime.toNat ++
          [s.pwr.reedCap, s.pwr.reedRefused] ++ b16 s.saf.alloc ++ [s.saf.allocSrc, seqStateByte s.seq] ++
          b32 s.clk.rtcAlarm.toNat)) (accepted r s))) ∧
     (admitted 0x0506 r s = true → r.payload.length = 4 →
       (ofLe r.payload = 0 ∨ s.clk.rtc.toNat < (BitVec.ofNat 32 (ofLe r.payload)).toNat) →
       exec (.pwrRtcAlarm r) s = .next (answered 0x0506 r (Reply.ok []) { accepted r s with
         clk := { s.clk with rtcAlarm := BitVec.ofNat 32 (ofLe r.payload) } }))) ∧
  (∀ (r : Req) (s : State),
     (admitted 0x0507 r s = true → r.payload = [1, 0, 0, 0] →
       ∃ t, exec (.dischHold r) s = .next (answered 0x0507 r (Reply.ok []) t) ∧ t.saf.hold = true ∧ t.saf.disch = true ∧
         t.saf.reasons.toNat.testBit 6 = true ∧ t.saf.charger = false) ∧
     (admitted 0x0507 r s = true → r.payload = [0, 0, 0, 0] →
       exec (.dischHold r) s = .next (answered 0x0507 r (Reply.ok []) { accepted r s with
         rst := { (accepted r s).rst with raSeq := some (⟨now s, 0x0507⟩, seqSide s, { seqSide s with
           hold := false, reasons := s.saf.reasons &&& ~~~ (BitVec.ofNat 16 (2 ^ 6)) }) }
         saf := { s.saf with hold := false, reasons := s.saf.reasons &&& ~~~ (BitVec.ofNat 16 (2 ^ 6)) } })))

/-- Rail commands (R124, R134, R136, R151, R152, R303, R305): PWR_ON starts an up-sequence from OFF, PWR_OFF a full shutdown
with DISCH asserted from RUNNING, a deferred one waits for the ticket, and SEQ_STATUS reports. -/
def Obligations.RailCommands : Prop :=
  ∀ (r : Req) (s : State),
    (admitted 0x0503 r s = true → r.payload = [0] → s.seq.ph = .off → s.seq.minOffRun = false → s.seq.frozen = false →
      s.seq.droneAbortDue = false → lifecycle s.otp ≠ 4 →
      ∃ t u, exec (.pwrOn r) s = .next u ∧ u = outcomeStands (answered 0x0503 r (Reply.accepted []) t) ∧
        (t.seq.ph = .up ∨ t.seq.ph = .running) ∧ t.fife.fault = false) ∧
    (admitted 0x0504 r s = true → r.payload = [0, 0, 0, 0] → s.seq.ph = .running →
      ∃ t u, exec (.pwrOff r) s = .next u ∧ u = outcomeStands (answered 0x0504 r (Reply.accepted []) t) ∧
        t.saf.disch = true ∧ t.saf.reasons.toNat.testBit 5 = true ∧ (t.seq.ph = .down ∨ t.seq.ph = .minOff)) ∧
    (admitted 0x0504 r s = true → r.payload = [1, 0, 0, 0] → ticketActive s = true →
      ∃ t, exec (.pwrOff r) s = .next (outcomeStands (answered 0x0504 r (Reply.accepted []) t)) ∧
        t.seq = { s.seq with waiters := s.seq.waiters ++ [(0x0504, r.ctx, r.seq)] } ∧
        t.saf = { s.saf with deferOff := true }) ∧
    (admitted 0x0505 r s = true → r.payload = [] →
      exec (.seqStatus r) s = .next (answered 0x0505 r (Reply.ok
        ([seqStateByte s.seq, pgByte s.seq, enByte s.seq, flaggedByte s.seq] ++ (List.range 8).map (chStatus s.seq) ++
         b16 (droneField s.seq) ++ [b8 s.seq.retriesDone, b8 (pendingCount s.seq.pend)])) (accepted r s)))

/-- Calibration commands (R283, R307, R308, R496, R513): a start is accepted and joins the actions of R283, the
status reports the active selection and the free slots, an abort without a calibration is only answered, and one of a
calibration that runs ends it with ABORTED.

Maintenance (R283, R309, R310, R437, R445, R448, R449, R457): a scan, a routine and a feed are accepted and wait as
actions of R283; the map, the fire counts and the mechanics are read; a mark sets its nozzles' states. A cap or an uncap takes any
four-bit mask of dies (log entry 46). -/
def Obligations.ActionCommands : Prop :=
  (∀ (r : Req) (s : State),
     (∀ code target : Byte, admitted 0x0601 r s = true → 3 ≤ code.toNat → code.toNat ≤ 6 →
       (if code.toNat ≤ 5 then target.toNat = 0 else target.toNat ≤ 3) →
       r.payload = [code, target, 0, 0, 0, 0, 0, 0] →
       exec (.calStart r) s = .next (startWaiting (answered 0x0601 r (Reply.accepted []) { accepted r s with
         saf := { s.saf with actions := s.saf.actions ++
           [{ opcode := 0x0601, ctx := some r.ctx, seq := r.seq, payload := r.payload, started := false }] } }))) ∧
     (∀ code target : Byte, admitted 0x0602 r s = true → 1 ≤ code.toNat → code.toNat ≤ 7 →
       (if code.toNat ≤ 5 then target.toNat = 0 else target.toNat ≤ 3) → r.payload = [code, target, 0, 0] →
       ∃ c : CalSel, c = s.cal.active.getD (calIndex code.toNat target.toNat) (CalSel.rom []) ∧
         exec (.calStatus r) s = .next (answered 0x0602 r (Reply.ok
           ([c.slot, b8 (freeSlots s.otp (calIndex code.toNat target.toNat)), c.source, 0] ++ b32 c.quality.toNat ++
            b48 c.time.toNat ++ zeros 2)) (accepted r s))) ∧
     (admitted 0x0603 r s = true → r.payload = [] → s.saf.actions.find? (fun a => a.opcode == 0x0601) = none →
       exec (.calAbort r) s = .next (schedule (answered 0x0603 r (Reply.ok []) (accepted r s)))) ∧
     (∀ a : Action, admitted 0x0603 r s = true → r.payload = [] →
       s.saf.actions.find? (fun a => a.opcode == 0x0601) = some a → a.started = true →
       exec (.calAbort r) s = .next (schedule (answered 0x0603 r (Reply.ok []) (endCal (accepted r s) 0x0008 0))))) ∧
  (∀ (r : Req) (s : State),
     (∀ dies part : Byte, admitted 0x0701 r s = true → r.payload = [dies, part, 0, 0] → dies ≠ 0 →
       diesActive s dies.toNat = true → part.toNat ≤ 1 →
       exec (.nozScan r) s = .next (startWaiting (answered 0x0701 r (Reply.accepted []) (addAction (accepted r s) 0x0701 r)))) ∧
     (∀ routine dies : Byte, admitted 0x0704 r s = true → r.payload = [routine, dies, 0, 0] →
       1 ≤ routine.toNat → routine.toNat ≤ 5 →
       (if routine = 3 ∨ routine = 4 then dies.toNat < 16 else dies ≠ 0 ∧ diesActive s dies.toNat = true) →
       exec (.serviceRun r) s = .next
         (startWaiting (answered 0x0704 r (Reply.accepted []) (addAction (accepted r s) 0x0704 r)))) ∧
     (∀ lo hi cut : Byte, admitted 0x0706 r s = true → r.payload = [lo, hi, cut, 0] → cut.toNat ≤ 1 →
       exec (.feed r) s = .next (startWaiting (answered 0x0706 r (Reply.accepted []) (addAction (accepted r s) 0x0706 r)))) ∧
     (∀ die first n : Nat, admitted 0x0702 r s = true → r.payload = [b8 die, 0] ++ b16 first ++ b16 n → die ≤ 3 →
       1 ≤ n → first + n ≤ 1056 →
       exec (.nozMapRead r) s = .next (answered 0x0702 r (Reply.ok (r.payload ++ (List.range n).map (fun i =>
         b8 (stateIn s.noz.states (posNoz die (first + i) false) +
           16 * stateIn s.noz.states (posNoz die (first + i) true))))) (accepted r s))) ∧
     (∀ die col pos : Nat, ∀ st : Byte, admitted 0x0703 r s = true →
       r.payload = [b8 die, b8 col] ++ b16 pos ++ [st, 0, 0, 0] → die ≤ 3 → col ≤ 3 →
       (pos = 0xFFFF ∨ (pos ≤ 1055 ∧ pos % 2 = col % 2)) → (st = 0 ∨ st = 2 ∨ st = 4) → s.noz.scan = none →
       exec (.nozMark r) s = .next (answered 0x0703 r (Reply.ok [])
         (applyMap (accepted r s) ((markedNozzles die col pos).map (fun i => (i, st.toNat)))))) ∧
     (∀ die col first n : Nat, admitted 0x0705 r s = true →
       r.payload = [b8 die, b8 col] ++ b16 first ++ b16 n ++ [0, 0] → die ≤ 3 → col ≤ 3 → first ≤ 527 → 1 ≤ n →
       first + n ≤ 528 →
       exec (.fireCountRead r) s = .next (answered 0x0705 r (Reply.ok (r.payload ++ (List.range n).flatMap (fun i =>
         b48 (liveCount s (nozIndex die col (first + i)))))) (accepted r s))) ∧
     (admitted 0x0707 r s = true → r.payload = [] → ∀ e : Enc, s.motion.enc[0]? = some e →
       exec (.mechStatus r) s = .next (answered 0x0707 r (Reply.ok
         ([b8 (maskOf [!paperOut s, roleActive s 2, coverOpen s]),
           b8 (maskOf [cutHome s, sledHome s, s.motion.capped]), b8 s.motion.disabled.toNat, 0] ++
          b32 e.count.toNat ++ b32 s.fife.lineCnt.toNat)) (accepted r s))))

/-- The log family (R267, R276, R311, R312): what the log holds, the records from the lowest visible one with a bad one
flagged, the 8 fault slots with erased ones as 0xFF, the newest sound snapshot, and the clear, which erases nothing. -/
def Obligations.LogCommands : Prop :=
  ∀ (r : Req) (s : State),
    (admitted 0x0801 r s = true → r.payload = [] →
      exec (.logInfo r) s = .next (answered 0x0801 r (Reply.ok (b32 s.log.next.toNat ++ b32 (lowestVisible s).toNat ++
        b32 (accepted r s).log.loss.toNat ++ b32 s.log.bootCount.toNat ++ [b8 (accepted r s).log.staging.length,
        b8 (erasedSlots s.nvm).length, b8 (validSnaps s.nvm).length, b8 (pv s.params 0x0E01)])) (accepted r s))) ∧
    (∀ first n : Nat, admitted 0x0802 r s = true → r.payload = b32 first ++ b16 n ++ [0, 0] → first < 2 ^ 32 → 1 ≤ n →
      n ≤ 127 → lowestVisible s = BitVec.ofNat 32 first →
      ∃ recs : List (List Byte), recs = ((s.nvm.ring.filter (fun x =>
          decide ((x.seq - BitVec.ofNat 32 first).toNat < 2 ^ 31))).take n).map (·.bytes) ∧
        exec (.logRead r) s = .next (answered 0x0802 r (Reply.ok (b32 first ++ b16 recs.length ++
          b16 (maskOf [false, recs.any recordBad]) ++ recs.flatten)) (readAll (accepted r s) recordStream recs))) ∧
    (admitted 0x0803 r s = true → r.payload = [] →
      exec (.faultRead r) s = .next (answered 0x0803 r (Reply.ok ((List.range 8).flatMap (fun i =>
        match s.nvm.faults.getD i none with
        | some f => padTo 32 f.bytes
        | none => List.replicate 32 0xFF))) (readAll (accepted r s) recordStream (slotRecords s.nvm)))) ∧
    (∀ p : Nat × List Byte, admitted 0x0804 r s = true → r.payload = [0, 0, 1, 0] → (validSnaps s.nvm).getLast? = some p →
      exec (.snapshotRead r) s = .next (answered 0x0804 r (Reply.ok p.2) (noteRead (accepted r s) snapStream p.2))) ∧
    (admitted 0x0805 r s = true → r.payload = ascii "LOGC" →
      exec (.logClear r) s = .next (answered 0x0805 r (Reply.ok (b32 s.log.next.toNat)) { accepted r s with
        log := { (accepted r s).log with lowest := s.log.next } }))

/-- Reading one-time memory (R158, R160, R169, R170, R176, R314, R316): one word with its condition, SECRET refused, a word
under a read lock answered LOCKED; a trial shadow set without touching a word; the status; a nonce for RETURN and its end. -/
def Obligations.OtpReadsShadowsAndStatus : Prop :=
  ∀ (r : Req) (s : State),
    (∀ i : Nat, admitted 0x0901 r s = true → r.payload = [b8 i, 1, 0, 0] → i < 256 → otpRegion i ≠ 3 →
      readLocked s.otp i = false →
      ∃ t, exec (.otpRead r) s = .next (answered 0x0901 r (Reply.ok (otpEntry s.otp i)) t) ∧
        { t with otp := s.otp, log := s.log, rst := { t.rst with raOtp := s.rst.raOtp } } = { accepted r s with log := s.log } ∧
        t.rst.raOtp = some ⟨now s, 0x0901⟩ ∧ t.otp.words = s.otp.words ∧
        t.otp.shadows = s.otp.shadows) ∧
    (∀ i : Nat, admitted 0x0901 r s = true → r.payload = [b8 i, 1, 0, 0] → i < 256 → otpRegion i = 3 →
      exec (.otpRead r) s = .next (answered 0x0901 r (Reply.no stLocked) (accepted r s))) ∧
    (∀ i : Nat, admitted 0x0901 r s = true → r.payload = [b8 i, 1, 0, 0] → i < 256 → otpRegion i ≠ 3 →
      readLocked s.otp i = true →
      exec (.otpRead r) s = .next (answered 0x0901 r (Reply.no stLocked) { accepted r s with
        rst := { (accepted r s).rst with raOtp := some ⟨now s, 0x0901⟩ } })) ∧
    (∀ (w : Nat) (d : BitVec 64), admitted 0x0906 r s = true → r.payload = [b8 w, 1, 0, 0] ++ b64 d.toNat → w < 256 →
      lifecycle s.otp ≤ 1 → noShadow s.otp = false → shadowable s.otp w = true → s.otp.shadows.length < 16 →
      ∃ t, exec (.otpShadow r) s = .next (answered 0x0906 r (Reply.ok [b8 t.otp.shadows.length, 0, 0, 0]) t) ∧
        find? t.otp.shadows w = some d ∧ (∀ k, k ≠ w → find? t.otp.shadows k = find? s.otp.shadows k) ∧
        t.otp.words = s.otp.words ∧
        (w ≠ 79 → { t with otp := s.otp, saf := { t.saf with tripCode := s.saf.tripCode } } = accepted r s)) ∧
    (admitted 0x0907 r s = true → r.payload = [] →
      exec (.otpStatus r) s = .next (answered 0x0907 r (Reply.ok ([lcCode s.otp, b8 (maskOf ((List.range 8).map (sealed s.otp))),
        s.otp.alarms, b8 ([8, 9, 10, 11].filter (fun i => decide (otpCond s.otp i ≠ .blank))).length] ++
        b32 ((otpLocks s.otp).toNat % 2 ^ 23) ++ [b8 (maskOf ((List.range 7).map (slotProgrammed s.otp))),
          b8 (maskOf ((List.range 7).map (fun k => otpLock s.otp (16 + k)))),
          b8 (s.otp.shadows.filter (fun p => (shadowOf s.otp p.1).isSome)).length, 0] ++ b32 s.otp.corrected.toNat))
        (accepted r s))) ∧
    (admitted 0x0909 r s = true → r.payload = [1, 0, 0, 0] → lifecycle s.otp = 2 →
      ∃ (n : BitVec 128) (t : State), exec (.returnChallenge r) s = .next (answered 0x0909 r
          (Reply.ok (leBytes 16 n.toNat ++ dieId s.otp)) t) ∧
        t.otp = { s.otp with nonceEntry := some n } ∧ { t with otp := s.otp, clk := s.clk } = accepted r s) ∧
    exec .returnNonceExpiry s = .next { s with otp := { s.otp with nonceEntry := none, nonceCore := none } }

/-- Programming one-time memory where R171 lets it (R155, R156, R158, R159, R161, R162, R171 to R173, R175, R315 to R317):
a BLANK word becomes VALID with its data and check, one that fails verification becomes BAD and is reported, a key is
answered with its check value, a seal with the digest it programs, a lock set goes into the lowest BLANK word, and BLANK
advances to PROVISION. No other word changes. -/
def Obligations.OtpProgramming : Prop :=
  ∀ (r : Req) (s : State), s.otp.words.length = 256 → programBar (accepted r s) = none → lifecycle s.otp ≤ 1 →
    (∀ (i d : Nat), admitted 0x0902 r s = true → r.payload = [b8 i, 1, 0, 0] ++ b64 d → d < 2 ^ 64 → mayProgram i = true →
      i ≠ 77 → i ≠ 78 → d &&& reservedBits i = 0 → wordValueOk i d = true → otpCond s.otp i = .blank →
      sealed s.otp (otpRegion i) = false →
      ((otpRaw s.otp i).defective = false →
        ∃ t, exec (.otpProgram r) s = .next (answered 0x0902 r (Reply.ok [1, 0, 0, 0]) t) ∧
          t.otp.words = s.otp.words.set i (programmed (otpRaw s.otp i) (stored i d))) ∧
      ((otpRaw s.otp i).defective = true →
        ∃ t, exec (.otpProgram r) s = .next (answered 0x0902 r (Reply.fault 0x0001 i) t) ∧
          (otpRaw t.otp i).cond = .bad ∧ ∀ k : Nat, k ≠ i → t.otp.words[k]? = s.otp.words[k]?)) ∧
    (∀ (k : Byte) (w : Nat) (key : List Byte), admitted 0x0903 r s = true → r.payload = [k, 0, 0, 0] ++ key →
      key.length = 16 → secretWord k.toNat = some w → otpCond s.otp w = .blank → otpCond s.otp (w + 1) = .blank →
      sealed s.otp 3 = false → (otpRaw s.otp w).defective = false → (otpRaw s.otp (w + 1)).defective = false →
      ∃ t, exec (.otpKeyProgram r) s = .next (answered 0x0903 r (Reply.ok (kcv key k.toNat)) t) ∧
        t.otp.words = (s.otp.words.set w (programmed (otpRaw s.otp w) (descramble w (BitVec.ofNat 64 (fieldAt key 0 8))))).set
          (w + 1) (programmed (otpRaw s.otp (w + 1)) (descramble (w + 1) (BitVec.ofNat 64 (fieldAt key 8 8))))) ∧
    (∀ (g : Byte) (w : Nat), admitted 0x0904 r s = true → r.payload = [g, 0, 0, 0] → 2 ≤ g.toNat → g.toNat ≤ 4 →
      digestWord g.toNat = some w → otpCond s.otp w = .blank → (otpRaw s.otp w).defective = false →
      ∃ t, exec (.otpSeal r) s = .next (answered 0x0904 r (Reply.ok (b64 (digestOf s.otp g.toNat).toNat)) t) ∧
        t.otp.words = s.otp.words.set w (programmed (otpRaw s.otp w) (digestOf s.otp g.toNat)) ∧
        ∀ p ∈ t.otp.shadows, otpRegion p.1 ≠ g.toNat) ∧
    (∀ v i : Nat, admitted 0x0905 r s = true → r.payload = leBytes 6 v ++ [0, 0] → v < 2 ^ 48 → lockReserved v = true →
      lockFinal s.otp = false → [8, 9, 10, 11].find? (fun k => decide (otpCond s.otp k = .blank)) = some i →
      (otpRaw s.otp i).defective = false →
      ∃ t, exec (.otpLock r) s = .next (answered 0x0905 r (Reply.ok [b8 i, 0, 0, 0]) t) ∧
        t.otp.words = s.otp.words.set i (programmed (otpRaw s.otp i) (stored i v))) ∧
    (admitted 0x0908 r s = true → r.payload = [0x5A, 0, 0, 0] ++ (dieId s.otp).take 4 → lifecycle s.otp = 0 →
      otpCond s.otp 0 = .blank → otpCond s.otp 4 = .blank → (otpRaw s.otp 0).defective = false →
      (otpRaw s.otp 4).defective = false →
      ∃ t, exec (.lifecycleAdvance r) s = .next (answered 0x0908 r (Reply.ok [0x5A, 0, 0, 0]) t) ∧ lifecycle t.otp = 1 ∧
        ∀ k : Nat, k ≠ 0 → k ≠ 4 → t.otp.words[k]? = s.otp.words[k]?)

/-- What storage holds (R262, R264, R318, R320): pages, objects, profiles and patch; a profile's header or zeros; the objects
from FIRST; and an area's wear. None of them changes anything.

What storage is given (R258, R259, R319 to R321, R350 to R352), while NVM takes what is written: a signed profile goes
into its slot and its erasure empties it, an object of one fragment joins the directory and its erasure takes it out, and a
patch that verifies waits in the inactive area for the next start. -/
def Obligations.StorageCommands : Prop :=
  (∀ (r : Req) (s : State),
     (admitted 0x0A01 r s = true → r.payload = [] →
       exec (.storeInfo r) s = .next (answered 0x0A01 r (Reply.ok (b16 (freePages s.nvm - streamPages (accepted r s)) ++ b16 (directory s.nvm).length ++
         [b8 (maskOf ((List.range 8).map (fun i => (s.nvm.profiles.getD i none).isSome))), b8 s.nvm.patchActive] ++
         b16 (256 - s.nvm.sparesUsed) ++ [s.nvm.patchLevel, 0, 0, 0])) (accepted r s))) ∧
     (∀ k : Byte, admitted 0x0A04 r s = true → r.payload = [k, 0, 0, 0] → k.toNat ≤ 7 →
       (s.nvm.profiles.getD k.toNat none = none →
         exec (.profileInfo r) s = .next (answered 0x0A04 r (Reply.ok ([0, 0xFF, 0, 0] ++ zeros 64)) (accepted r s))) ∧
       (∀ (p : Profile) (slot : Nat), s.nvm.profiles.getD k.toNat none = some p → p.keySlot = some slot →
         exec (.profileInfo r) s = .next (answered 0x0A04 r (Reply.ok ([1, b8 slot, 0, 0] ++ p.bytes.take 64)) (accepted r s)))) ∧
     (∀ first : Nat, admitted 0x0A07 r s = true → r.payload = b16 first ++ [0, 0] → first < 65536 →
       ∃ os : List StoreObj, os = ((directory s.nvm).drop first).take 255 ∧
         exec (.objectList r) s = .next (answered 0x0A07 r (Reply.ok (b16 os.length ++ zeros 2 ++ os.flatMap (fun o =>
           [if o.logo then 2 else 1, if countsSigned s o then 1 else 0] ++ b16 o.id ++ b32 o.bytes.length ++ b16 o.page ++
           zeros 2 ++ b32 o.crc.toNat))) (accepted r s))) ∧
     (∀ (a : Byte) (base n : Nat) (cs : List Nat), admitted 0x0A08 r s = true → r.payload = [a, 0, 0, 0] → a.toNat ≤ 10 →
       areaPages a.toNat = (base, n) → cs = (List.range n).map (fun i => pageCycles s.nvm (base + i)) →
       exec (.nvmWear r) s = .next (answered 0x0A08 r (Reply.ok (b32 (maxList cs) ++ b32 (cs.foldl (· + ·) 0 / n) ++
         b16 (s.nvm.retired.filter (fun p => decide (base ≤ p.1 ∧ p.1 < base + n))).length ++ b16 (256 - s.nvm.sparesUsed)))
         (accepted r s)))) ∧
  (∀ (r : Req) (s : State), NvmSound s →
     (∀ (k : Byte) (p : List Byte) (key : Nat), admitted 0x0A02 r s = true → r.payload = [k, 0, 0, 0] ++ p → k.toNat ≤ 7 →
       profLengthOk p = true → firstFail (profFields p) = none → objUnsigned p = false → profKeySlot s.otp p = some key →
       ∃ t, exec (.profileStore r) s = .next (answered 0x0A02 r (Reply.ok []) t) ∧
         t.nvm.profiles = s.nvm.profiles.set k.toNat (some ⟨p, some key⟩) ∧ t.nvm.store = s.nvm.store ∧
         t.nvm.images = s.nvm.images ∧ t.params = s.params) ∧
     (∀ k : Byte, admitted 0x0A03 r s = true → r.payload = [k, 0, 0, 0] → k.toNat ≤ 7 →
       ∃ t, exec (.profileErase r) s = .next (answered 0x0A03 r (Reply.ok []) t) ∧
         t.nvm.profiles = s.nvm.profiles.set k.toNat none ∧ t.nvm.store = s.nvm.store) ∧
     (∀ (logo : Bool) (id : Nat) (b : List Byte), admitted 0x0A05 r s = true →
       r.payload = [if logo then 2 else 1, 0] ++ b16 id ++ b32 b.length ++ b32 (crc32c b).toNat ++ zeros 4 ++ b →
       1 ≤ id → id ≤ 65534 → b.length < 2 ^ 32 → objectOk logo b = true →
       (if objUnsigned b then pv s.params 0x0E10 ≠ 1 else objectVerifies s.otp b = true) →
       findObj s.nvm logo id = none → objPages b.length ≤ freePages s.nvm → (directory s.nvm).length < 256 →
       ∃ t, exec (.objectStore r) s = .next (answered 0x0A05 r (Reply.ok (b16 id ++ b16 (objPages b.length))) t) ∧
         ∃ o ∈ directory t.nvm, o.logo = logo ∧ o.id = id ∧ o.bytes = b ∧ o.crc = crc32c b ∧ o.signed = !objUnsigned b) ∧
     (∀ (logo : Bool) (id : Nat) (o : StoreObj), admitted 0x0A06 r s = true →
       r.payload = [if logo then 2 else 1, 0] ++ b16 id → id < 65536 → rendering s = false → findObj s.nvm logo id = some o →
       ∃ t, exec (.objectErase r) s = .next (answered 0x0A06 r (Reply.ok []) t) ∧
         t.nvm.store = s.nvm.store.filter (· != o) ∧ t.nvm.profiles = s.nvm.profiles) ∧
     (∀ b : List Byte, admitted 0x0A09 r s = true → r.payload = b32 b.length ++ b32 (crc32c b).toNat ++ zeros 8 ++ b →
       1 ≤ b.length → b.length ≤ 131072 → (keydig s.otp 0).isSome →
       ∃ t, exec (.patchStore r) s = .next (answered 0x0A09 r
           (if patchOk s.otp b then Reply.ok [Config.patchLevel b, 0, 0, 0] else Reply.no stBadCheck) t) ∧
         t.nvm.patchActive = s.nvm.patchActive ∧ t.nvm.patchLevel = s.nvm.patchLevel ∧
         (patchOk s.otp b = true → t.nvm.patchA = (if s.nvm.patchActive = 1 then s.nvm.patchA else some b) ∧
           t.nvm.patchB = (if s.nvm.patchActive = 1 then some b else s.nvm.patchB) ∧ t.nvm.patchDue = true) ∧
         (patchOk s.otp b = false → t.nvm = s.nvm)))

/-- Opening a session on links 1 to 3 and ending one (R209 to R213, R322, R323): the nonces and the key are kept, a right
proof opens the context afresh under its key, with the link error count going on (the model's reading, log entry 134), and is
answered with the part's own, a wrong one clears the opening (log entry 82), a close ends the session with its answer, and
NET_SESSION_END closes, once its answer has gone out, the session or raw connection that is open on its context; NET_STATUS without a link and an address
reports none.

Rights (R241 to R244, R247, R324, R325): RIGHTS_GET answers the mask in force, the committed one and the one that
lifecycle leaves; RIGHTS_SET within the requester's own mask puts the new mask in force, with a purge of what
had not begun to print where the mask loses PRINT; a mask beyond the requester's own is refused NO_RIGHT. -/
def Obligations.SessionsAndRights : Prop :=
  (∀ (r : Req) (s : State),
     ((r.link, r.ctx) ∈ [(Link.i2c, (1 : Fin 12)), (Link.uart, 2), (Link.usb, 3)] → s.ctxs.length = 12 →
       (∀ psk : List Byte, admitted 0x0B01 r s = true → r.payload.length = 16 → secretKey s.otp r.ctx.val = some psk →
         ∃ (np : List Byte) (t : State), exec (.sessionOpen r) s = .next (answered 0x0B01 r
             (Reply.ok (np ++ dieId s.otp)) t) ∧ np.length = 16 ∧
           (ctxOf t r.ctx.val).opening =
             some ⟨r.payload, np, hmac psk (ascii "NLSK" ++ r.payload ++ np ++ [b8 r.ctx.val]), false⟩) ∧
       (∀ (psk : List Byte) (o : Session), admitted 0x0B02 r s = true → r.payload.length = 32 →
         secretKey s.otp r.ctx.val = some psk → (ctxOf s r.ctx.val).opening = some o →
         (hmac psk (ascii "NLH1" ++ o.nonceH ++ o.nonceP ++ [b8 r.ctx.val]) = r.payload →
           ∃ t, exec (.sessionProve r) s = .next (answered 0x0B02 r
               (Reply.ok (hmac psk (ascii "NLP1" ++ o.nonceP ++ o.nonceH ++ [b8 r.ctx.val]))) t) ∧
             ctxOf t r.ctx.val = { Ctx.fresh with
               keyed := some { o with rekeyed := (ctxOf s r.ctx.val).keyed.isSome }
               cnt := { Counters.zero with link := (ctxOf s r.ctx.val).cnt.link } }) ∧
         (hmac psk (ascii "NLH1" ++ o.nonceH ++ o.nonceP ++ [b8 r.ctx.val]) ≠ r.payload →
           ∃ t, exec (.sessionProve r) s = .next (answered 0x0B02 r (Reply.no stBadCheck) t) ∧
             (ctxOf t r.ctx.val).opening = none ∧ (ctxOf t r.ctx.val).keyed = (ctxOf s r.ctx.val).keyed))) ∧
     (admitted 0x0B03 r s = true → r.payload = [] →
       exec (.sessionClose r) s = .next (answered 0x0B03 r (Reply.ending none) (accepted r s))) ∧
     (admitted 0x0B04 r s = true → r.payload = [] → s.net.up = false → s.net.ip4 = none →
       ∃ p : List Byte, exec (.netStatus r) s = .next (answered 0x0B04 r (Reply.ok p) (accepted r s)) ∧
         p.take 2 = [b8 (maskOf [false, s.net.hundred, s.net.full]),
           b8 (maskOf [false, s.net.byDhcp, s.net.linkLocal, s.net.ip6.isSome])] ∧
         p.drop 4 = zeros 6 ++ b16 s.net.lldpAlloc ++ zeros 4 ++ macAddress s ++ zeros 2) ∧
     (∀ c : Byte, admitted 0x0B05 r s = true → r.payload = [c, 0, 0, 0] → 4 ≤ c.toNat → c.toNat ≤ 11 →
       exec (.netSessionEnd r) s = .next (answered 0x0B05 r (Reply.ending (if c.toNat = r.ctx.val then none else some c.toNat)) (accepted r s)))) ∧
  (∀ (k c : Nat) (f : OutFrame) (s : State), f.endsSession = true → f.whose = some c → f.opcode ≠ 0x0102 →
     s.ctxs.length = 12 → k < 12 →
     ∃ u, afterDelivery s (.ctx k) f = endSessionOn u c ∧ u.net = s.net ∧ (ctxOf u k).out = (ctxOf s k).out.drop 1 ∧
       (∀ j : Nat, (ctxOf u j).keyed = (ctxOf s j).keyed)) ∧
  (∀ (c : Nat) (s : State),
     (∀ k : Conn, connOn s c = some k → (k.raw = true ∨ connOpen s k = true) → connOf s k.id = some k →
       connOf (endSessionOn s c) k.id = none ∧ ∀ x ∈ s.net.conns, x.id ≠ k.id → x ∈ (endSessionOn s c).net.conns) ∧
     (connOn s c = none → endSessionOn s c = s)) ∧
  (∀ (r : Req) (s : State) (c : Byte), c.toNat ≤ 11 →
     (admitted 0x0C02 r s = true → r.payload = [c, 0, 0, 0] →
       exec (.rightsGet r) s = .next (answered 0x0C02 r (Reply.ok (b16 (maskInForce s c.toNat).toNat ++
         committedVal s.params (0x0300 + c.toNat) ++ b16 (limitedMask s c.toNat).toNat ++ zeros 2)) (accepted r s))) ∧
     (∀ (purge : Byte) (mask : Half), admitted 0x0C01 r s = true → r.payload = [c, purge] ++ b16 mask.toNat →
       purge.toNat ≤ 1 → mask.toNat ≤ 0x03FF → (c = 0 → hasBit mask rAdmin = true) →
       (mask &&& ~~~ (admMask (accepted r s) r 0x0C01) ≠ 0 →
         exec (.rightsSet r) s = .next (answered 0x0C01 r (Reply.no stNoRight) (accepted r s))) ∧
       (mask &&& ~~~ (admMask (accepted r s) r 0x0C01) = 0 → purge = 0 →
         ∃ u, exec (.rightsSet r) s = .next (answered 0x0C01 r (Reply.ok (b16 (maskInForce s c.toNat).toNat ++ [0, 0]))
             (schedule u)) ∧
           maskInForce u c.toNat = mask ∧ u.jobs = s.jobs ∧
           ∀ k : Nat, k ≤ 11 → k ≠ c.toNat → maskInForce u k = maskInForce s k) ∧
       (mask &&& ~~~ (admMask (accepted r s) r 0x0C01) = 0 → purge = 1 → (∀ j ∈ s.jobs.live, j.id < s.jobs.nextId) → hasBit (maskInForce s c.toNat) rPrint = true →
         hasBit mask rPrint = false →
         ∃ u, exec (.rightsSet r) s = .next (answered 0x0C01 r (Reply.ok (b16 (maskInForce s c.toNat).toNat ++
             [b8 (min (purged s c.toNat).length 255), 0])) (schedule u)) ∧
           (∀ id ∈ purged s c.toNat, jobOf u id = none) ∧ maskInForce u c.toNat = mask)))

/-! ### Debug port -/

/-- TAP instructions (R163, R179, R180, R182): while the TAP is there each selects its register, where its level is open for
those that need one; the boundary-scan drivers also need every rail of the head off. Where a level is not open the TAP
selects BYPASS and the status reads UNAVAIL. An instruction that needs a level takes the part out of DOZE.

Unlocking on AUTH (R179 to R181): a request is answered with a nonce, an open level, UNAVAIL or BACKOFF; a response goes
under verification; the right one opens the level it was asked for, a wrong one is counted and starts the back-off;
CLOSE and the idle time close the level. On an O cell a request answers OPEN, and a level that such a cell opens is in use from
the TAP's first instruction of it (log entry 49). -/
def Obligations.TapAndUnlocks : Prop :=
  (∀ s : State, tapOn s = true →
     exec .idcode s = .next { s with dbg := { s.dbg with ir := .idcode } } ∧
     exec .auth s = .next { s with dbg := { s.dbg with ir := .auth } } ∧
     (∀ code : BitVec 5, tapCodes.contains code.toNat = false →
       exec (.bypass code) s = .next { s with dbg := { s.dbg with ir := .bypass } })) ∧
  (∀ s : State, tapOn s = true → applyLocks s = s →
     (scanOpen s = true → exec .samplePreload s = .next { wakeDoze s with dbg := { s.dbg with ir := .sample } }) ∧
     (scanOpen s = true → fireRailsReleased s.seq = true →
       exec .extest s = .next { wakeDoze s with dbg := { s.dbg with ir := .extest } } ∧
       exec .highz s = .next { wakeDoze s with dbg := { s.dbg with ir := .highz } }) ∧
     ((scanOpen s = false ∨ fireRailsReleased s.seq = false) →
       exec .extest s = .next { wakeDoze s with dbg := { s.dbg with ir := .bypass, status := 6 } } ∧
       exec .highz s = .next { wakeDoze s with dbg := { s.dbg with ir := .bypass, status := 6 } }) ∧
     (coreOpen s = true →
       exec .coreDbg s = .next { wakeDoze s with dbg := { s.dbg with ir := .coreDbg, used := true } }) ∧
     (coreOpen s = false → exec .coreDbg s = .next { wakeDoze s with dbg := { s.dbg with ir := .bypass, status := 6 } }) ∧
     (serviceOpen s = true →
       exec (.svc []) s = .next { wakeDoze s with dbg := { s.dbg with ir := .svc, used := true } } ∧
       ∀ f : List Byte, f ≠ [] → exec (.svc f) s =
         .next (takeFrame runOpcode .debug f { wakeDoze s with dbg := { s.dbg with ir := .svc, used := true } })) ∧
     (serviceOpen s = false → ∀ f : List Byte,
       exec (.svc f) s = .next { wakeDoze s with dbg := { s.dbg with ir := .bypass, status := 6 } })) ∧
  (∀ s : State,
     (authOn s = true → s.dbg.backoff = false →
       (∀ key : List Byte, serviceCell s.otp = .a → levelKey s.otp .service = some key →
         ∃ (n : BitVec 128) (t : State), exec .reqService s = .next t ∧
           t.dbg = { s.dbg with status := 1, nonce := n, asked := .service, answer := none } ∧
           { t with dbg := s.dbg, clk := s.clk } = s) ∧
       (∀ key : List Byte, coreCell s.otp = .a → levelKey s.otp .core = some key →
         ∃ (n : BitVec 128) (t : State), exec .reqCore s = .next t ∧
           t.dbg = { s.dbg with status := 1, nonce := n, asked := .core, answer := none } ∧
           { t with dbg := s.dbg, clk := s.clk } = s) ∧
       (serviceCell s.otp = .x → exec .reqService s = .next { s with dbg := { s.dbg with
         status := 6, asked := .none, answer := none } }) ∧
       (serviceCell s.otp = .o → exec .reqService s = .next { s with dbg := { s.dbg with
         status := 3, asked := .none, answer := none } })) ∧
     (authOn s = true → s.dbg.backoff = true →
       exec .reqService s = .next { s with dbg := { s.dbg with status := 5 } } ∧
       exec .reqCore s = .next { s with dbg := { s.dbg with status := 5 } }) ∧
     (∀ mac : List Byte, mac.length = 16 → authOn s = true → s.dbg.status = 1 → s.dbg.asked ≠ .none →
       exec (.respond mac) s = .next { s with dbg := { s.dbg with status := 2, answer := some mac } }) ∧
     (∀ a : List Byte, s.dbg.answer = some a → expectedResponse s s.dbg.asked = some a →
       ∃ t, exec .authVerifyDone s = .next t ∧ t.dbg.level = s.dbg.asked ∧ t.dbg.status = 3 ∧ t.dbg.fails = 0 ∧
         t.dbg.backoff = false ∧ { t with dbg := s.dbg, log := s.log } = s) ∧
     (∀ a : List Byte, s.dbg.answer = some a → expectedResponse s s.dbg.asked ≠ some a →
       ∃ t, exec .authVerifyDone s = .next t ∧ t.dbg.level = s.dbg.level ∧ t.dbg.status = 4 ∧ t.dbg.fails = s.dbg.fails + 1 ∧
         t.dbg.backoff = true ∧ { t with dbg := s.dbg, log := s.log } = s) ∧
     exec .authBackoffExpiry s = .next { s with dbg := { s.dbg with
       backoff := false, status := if s.dbg.status = 5 then 0 else s.dbg.status } } ∧
     (authOn s = true → exec .close s = .next { s with dbg := { s.dbg with
       level := .none, status := 0, asked := .none, answer := none, nonce := 0, used := false } }) ∧
     (s.dbg.level ≠ .none ∨ s.dbg.used = true → exec .dbgIdleClose s = .next { s with dbg := { s.dbg with
       level := .none, status := 0, asked := .none, answer := none, nonce := 0, used := false } }))

/-- The debug port's instructions and AUTH commands change the debug port's own state, the free values drawn for a nonce,
what leaving DOZE brings, and what the log stages (R179 to R182). -/
def Obligations.DebugPortKeepsToItself : Prop :=
  ∀ (s t : State) (c : Instr),
    (c ∈ [Instr.extest, .samplePreload, .idcode, .highz, .auth, .coreDbg, .reqService, .reqCore, .close, .authVerifyDone,
      .authBackoffExpiry, .dbgIdleClose] ∨ (∃ code, c = .bypass code) ∨ (∃ mac, c = .respond mac)) →
    exec c s = .next t →
    t = { s with
      dbg := t.dbg, clk := { s.clk with free := t.clk.free }, rst := { s.rst with wdtRun := t.rst.wdtRun }
      pwr := { s.pwr with st := t.pwr.st, dozeDue := t.pwr.dozeDue }, log := stagedOnly s.log t.log
      motion := { s.motion with en := t.motion.en } } ∧
    t.rst.main = s.rst.main ∧
    (c ≠ .extest → c ≠ .samplePreload → c ≠ .highz → c ≠ .coreDbg → t.pwr = s.pwr ∧ t.rst = s.rst ∧ t.motion = s.motion)

/-! ### Rails -/

/-- The up-sequence's events (R121, R122, R131, R139, R432): an on-delay that has run out, PG good, which satisfies its
channel and has it monitored, a power-good timeout, which flags it, and 60 s in RUNNING, which resets the retries.

A shutdown's events (R131, R132, R134, R137): the slot's channel is released when its off-delay ends, a wait-for-fall
check that times out flags its channel and the walk goes on, and SEQ_MIN_OFF ends in OFF, in which settings that wait come into
force (R119), with the shadows of words 77 and 78 laid over them (R170; log entry 38). -/
def Obligations.SequencesAndShutdowns : Prop :=
  (∀ (s : State), s.seq.ch.length = 8 →
     (∀ ch : Fin 8, s.seq.ph = .up → s.seq.frozen = false → (chCfg s.seq ch.val).upState = s.seq.state →
       inMask s.seq ch.val = true →
       ∃ u, exec (.seqOnDelayExpiry ch) s = .next (seqDone (seqAdvance u)) ∧ (chRun u.seq ch.val).delayed = true ∧
         (∀ k : Nat, k ≠ ch.val → chRun u.seq k = chRun s.seq k) ∧ { u with seq := s.seq } = s) ∧
     (∀ ch : Fin 8, s.rst.vaoGood = true → pgUsed s.seq ch.val = true → (chRun s.seq ch.val).pg = false → s.seq.frozen = false →
       ∃ u, exec (.pgGood ch) s = .next (seqDone (seqAdvance u)) ∧ (chRun u.seq ch.val).pg = true ∧
         (chRun u.seq ch.val).edge = BitVec.ofNat 32 (now s).toNat ∧
         (chRun u.seq ch.val).monitored = (chRun s.seq ch.val).en ∧
         ((chRun s.seq ch.val).en = true → satisfied u.seq ch.val = true) ∧
         (∀ k : Nat, k ≠ ch.val → chRun u.seq k = chRun s.seq k) ∧
         (ch.val = s.seq.cfg.headRail → (chRun s.seq ch.val).en = true → u.fife.hisGate = false) ∧
         { u with seq := s.seq, fife := s.fife } = s) ∧
     (∀ ch : Fin 8, pgUsed s.seq ch.val = true → (chRun s.seq ch.val).en = true → (chRun s.seq ch.val).pgSeen = false →
       (chRun s.seq ch.val).pgFlag = false → s.seq.frozen = false → (s.seq.ph = .up ∨ s.seq.ph = .running) →
       ∃ u, exec (.pgTimeout ch) s = .next (seqDone (seqAdvance u)) ∧ (chRun u.seq ch.val).pgFlag = true ∧
         satisfied u.seq ch.val = true ∧ (∀ k : Nat, k ≠ ch.val → chRun u.seq k = chRun s.seq k) ∧
         { u with seq := s.seq, log := s.log } = s) ∧
     (s.seq.ph = .running →
       exec .retryCountReset s = .next { s with seq := { s.seq with retriesDone := 0 } })) ∧
  (∀ s : State,
     (∀ n : Nat, s.seq.ph = .down → s.seq.frozen = false → s.seq.slotWff = false → slotChannel s.seq s.seq.slot = some n →
       wffEnabled s.seq n = false → s.seq.ch.length = 8 →
       ∃ u, exec .seqOffDelayExpiry s = .next (seqDone (walk walkFuel u)) ∧ (chRun u.seq n).en = false ∧
         (chRun u.seq n).monitored = false ∧ (∀ k : Nat, k ≠ n → chRun u.seq k = chRun s.seq k) ∧
         (saffronCh s.seq n = true → u.saf.charger = false) ∧ { u with seq := s.seq, saf := s.saf } = s) ∧
     (∀ n : Nat, wffWaiting s.seq = some n → s.seq.frozen = false → s.seq.ch.length = 8 →
       ∃ u, exec .wffTimeout s = .next (seqDone (wffEnd u)) ∧ (chRun u.seq n).wffFlag = true ∧
         { u with seq := s.seq, log := s.log } = s) ∧
     (s.seq.ph = .minOff → s.seq.minOffRun = true → s.seq.onLatched = false →
       ∃ u, exec .minOffExpiry s = .next (seqDone u) ∧ u.seq.ph = .off ∧ u.seq.minOffRun = false ∧ u.seq.waiters = [] ∧
         (∀ m, s.seq.next = some m → u.seq.cfg = seqCfgOf (overlay m (shadowTable s.otp)))))

/-- A rail fault (R125 to R130): every enable falls, DISCH is asserted with reason 2 and the charger released, the fault
level rises, and the sequencer is in FAULT_OFF with SEQ_MIN_OFF running, DRONE held low and an automatic retry due. -/
def Obligations.RailFaultCutsEverything : Prop :=
  ∀ (ch : Fin 8) (pgs : BitVec 8) (s : State), (chRun s.seq ch.val).monitored = true →
    (s.seq.ph = .up ∨ s.seq.ph = .running ∨ s.seq.ph = .down) → pgs.toNat.testBit ch.val = false →
    ∃ u, exec (.railFault ch pgs) s = .next (seqDone (wakeSource u 11)) ∧ (∀ n : Nat, (chRun u.seq n).en = false) ∧
      u.seq.ph = .faultOff ∧ u.seq.minOffRun = true ∧ u.seq.retryDue = true ∧ u.seq.droneLow = true ∧ u.seq.waiters = [] ∧
      u.saf.disch = true ∧ u.saf.reasons.toNat.testBit 2 = true ∧ u.saf.charger = false ∧ u.fife.fault = true

/-- Over-current in the head (R128, R432): the fire lines are gated, the head rail falls, no ticket is PRINTING any more and
DISCH stays as it is. The rail falls also between a VINFAIL trip and its release (log entry 177).

Input collapse (R139 to R142, R150, R154): the trip stops the sequences, raises the fault level and discards the kept
allocation; 41 us later every enable falls and DISCH is asserted with reason 3; a HOLDUP write that completes stands in an
erased slot and one that is cut off leaves it torn, with some of its first bytes written and the rest erased.

DRONE (R143 to R149): a recognised rising edge is one state on, RUNNING at state 15; 32 AO cycles later the part drives the
line low again and the state's on-delays start; a timeout asserts DISCH and begins the shutdown, and so does an abort in
state 15.

A fault record that has been written through SEQ_NVM stands in its slot and is then reported (R150, R153, R154). -/
def Obligations.TripsDroneAndRecords : Prop :=
  (∀ (row : Fin 2) (both : Bool) (s : State), (chRun s.seq s.seq.cfg.headRail).en = true → s.pwr.st = .run → (s.rst.main = .ready ∨ s.rst.main = .booting) →
     ∃ u, exec (.hisTrip row both) s = .next (afterTicket u) ∧ (chRun u.seq s.seq.cfg.headRail).en = false ∧
       u.fife.hisGate = true ∧ u.saf.disch = s.saf.disch ∧ printingTicket u = none ∧
       (∀ n : Nat, n ≠ s.seq.cfg.headRail → (chRun u.seq n).en = (chRun s.seq n).en)) ∧
  (∀ s : State,
     (s.rst.vaoGood = true → s.seq.vinLow = false → s.pwr.collect = none → s.pwr.entry = none →
       ∃ t, exec .vinfailTrip s = .next t ∧ t.seq.frozen = true ∧ t.seq.vinLow = true ∧ t.fife.fault = true ∧
         t.saf.allocKept = false ∧ t.net.lldpAlloc = 0 ∧ printingTicket t = none) ∧
     (s.seq.frozen = true →
       ∃ u, exec .vinfailRelease s = .next (seqDone u) ∧ (∀ n : Nat, (chRun u.seq n).en = false) ∧ u.seq.ph = .faultOff ∧
         u.seq.frozen = false ∧ u.saf.disch = true ∧ u.saf.reasons.toNat.testBit 3 = true ∧ u.saf.charger = false) ∧
     (s.seq.vinLow = true → coreRuns s = false →
       exec .vinfailRise s = .next (seqDone (leaveFaultOff { s with seq := { s.seq with vinLow := false } }))) ∧
     (s.seq.vinLow = true → coreRuns s = true →
       ∃ u, u = updateAllocation { s with seq := { s.seq with vinLow := false } } ∧
         exec .vinfailRise s = .next (seqDone (leaveFaultOff u)) ∧
         (allocationNow { s with seq := { s.seq with vinLow := false } }).1 = u.saf.alloc ∧ u.seq.vinLow = false ∧
         u.seq.ph = s.seq.ph) ∧
     (∀ (p : PendingRec) (i : Nat) (is : List Nat), s.seq.holdup = some p → p.snap = none → p.compact ≠ [] → erasedSlots s.nvm = i :: is →
       s.nvm.faults.length = 8 → NvmSound s →
       (∃ u, exec (.holdupWriteDone true) s = .next (startSeqWrite (wakeSource u 11)) ∧ u.seq.holdup = none ∧
         u.nvm.faults = s.nvm.faults.set i (some ⟨p.compact, false⟩)) ∧
       (∃ u k, exec (.holdupWriteDone false) s = .next (startSeqWrite u) ∧ u.seq.holdup = none ∧ 1 ≤ k ∧ k ≤ 31 ∧
         u.nvm.faults = s.nvm.faults.set i (some ⟨p.compact.take k ++ List.replicate (32 - k) 0xFF, false⟩)))) ∧
  (∀ s : State, s.seq.cfg.drone = true → s.seq.frozen = false → s.seq.partialRun = false →
     (droneListens s.seq = true → s.seq.drone ≠ 14 →
       exec .droneRise s = .next { s with seq := { s.seq with
         droneLine := true, drone := s.seq.drone + 1
         state := if s.seq.ph = .up then s.seq.drone + 1 else s.seq.state } }) ∧
     (droneListens s.seq = true → s.seq.drone = 14 → s.seq.ph = .up →
       ∃ u, exec .droneRise s = .next (seqDone u) ∧ u.seq.ph = .running ∧ u.seq.state = 15 ∧ u.seq.waiters = []) ∧
     (s.seq.droneLine = true → s.seq.droneLow = false → s.seq.drone ≠ 0 → s.seq.drone ≠ 15 →
       s.seq.droneAbortDue = false →
       exec .droneReassert s = .next (seqDone (seqAdvance { s with
         seq := enterState { s.seq with droneLow := true, droneLine := false } s.seq.state }))) ∧
     (s.seq.ph = .up → s.seq.drone ≠ 0 → s.seq.drone ≠ 15 → s.seq.droneLine = false →
       ∃ u, exec .droneTimeout s = .next (seqDone u) ∧ u.saf.disch = true ∧ u.saf.reasons.toNat.testBit 5 = true ∧
         u.seq.droneLow = true ∧ u.seq.ph ≠ .up ∧ u.seq.ph ≠ .running) ∧
     (s.seq.ph = .running → s.seq.drone = 15 →
       ∃ u, exec .droneAbort s = .next (seqDone u) ∧ u.saf.disch = true ∧ u.saf.reasons.toNat.testBit 5 = true ∧
         u.seq.droneLow = true ∧ u.seq.ph ≠ .up ∧ u.seq.ph ≠ .running)) ∧
  (∀ (s : State) (p : PendingRec) (i : Nat), s.seq.writing = some (p, i) → p.snap = none → p.compact ≠ [] → coreRuns s = true → NvmSound s →
     ∃ u, exec .faultRecordWritten s = .next (afterTicket (startSeqWrite (eraseReported 8 (reportSlot u i)))) ∧ u.seq.writing = none ∧
       u.nvm.faults = s.nvm.faults.set i (some ⟨p.compact, false⟩) ∧ (s.pwr.st = .doze → u.pwr.st = .run))

/-! ### Printing -/

/-- DISCH and the accounting windows (R139, R364 to R367, R371, R372): t_DISCH that finds more than 1 J adds reason 9, DISCH is
released only under R366, logged with RELEASED (0), with what it held going on, and a window that ends begins the next; CHG_GATE
opens only for an enabled charger in a window whose budget lasts, and its slot changes no enable between a VINFAIL trip and its
release (R139). What a request on SEQ_REQ would need to be undone is kept beside it (R82, R85; log entry 13).

Saffron goes on (R381, R383, R384, R405, R433): a paused ticket resumes with its next band admitted, a stopped feed starts
again with RESTART, at the rate that its boundary has (log entries 18 and 141), a render wait that has run out lets the next
READY job go, and an old BULK job counts as NORMAL. -/
def Obligations.SaffronAndDisch : Prop :=
  (∀ s : State,
     (s.saf.disch = true → s.saf.dischLate = false → (s.pwr.st = .run ∨ s.pwr.st = .doze ∨ s.pwr.st = .nap) →
       (below1J s = true → exec .dischTimeout s = .next { s with saf := { s.saf with dischLate := true } }) ∧
       (below1J s = false → ∃ t, exec .dischTimeout s = .next t ∧ t.saf.disch = true ∧
         t.saf.reasons.toNat.testBit 9 = true ∧ t.saf.needLow = true ∧ t.saf.dischLate = true ∧ t.saf.charger = false)) ∧
     (s.saf.disch = true → dischMayRelease s = true →
       ∃ u v w, exec .dischRelease s = .next (afterTicket (homesNow (resumeFeed w))) ∧
         u.saf = { s.saf with disch := false, reasons := 0, needLow := false, dischLate := false } ∧
         u.rst = { s.rst with raSeq := some (⟨now s, 0⟩, seqSide s, seqSide u) } ∧ { u with saf := s.saf, rst := s.rst } = s ∧
         v = updateCharger (logEvent u 0x0602 [0]) ∧
         w = (if busyMotors v.motion = 0 then v else raiseEn (wakeDoze v) (busyMotors v.motion))) ∧
     (s.saf.disch = true → dischMayRelease s = false → exec .dischRelease s = .next s) ∧
     (s.seq.frozen = true → exec .chgGateSlot s = .next { s with saf := { s.saf with slotEnergy := 0 } }) ∧
     (s.seq.frozen = false → ∃ q x, exec .chgGateSlot s = .next { s with seq := q, rst := { s.rst with raSeq := x }, saf := { s.saf with
         gate := s.saf.charger && s.saf.winOpen && gateMayOpen s, slotEnergy := 0 } } ∧
       { q with ch := s.seq.ch } = s.seq ∧ (∀ n, n ≠ bootCharger s.otp → q.ch[n]? = s.seq.ch[n]?) ∧
       (s.saf.gate = (s.saf.charger && s.saf.winOpen && gateMayOpen s) → q = s.seq ∧ x = s.rst.raSeq) ∧
       (s.saf.gate ≠ (s.saf.charger && s.saf.winOpen && gateMayOpen s) →
         ∀ c, s.seq.ch[bootCharger s.otp]? = some c → saffronCh s.seq (bootCharger s.otp) = true → c.released = true →
         ∃ d, q.ch[bootCharger s.otp]? = some d ∧ d.en = (s.saf.charger && s.saf.winOpen && gateMayOpen s))) ∧
     (s.saf.winOpen = true →
       exec .accountingWindowEnd s = .next { s with saf := { s.saf with
         winEnergy := 0, winBudget := 0, budgetAt := now s, winStart := now s, winLen := pv s.params 0x0603 } })) ∧
  (∀ s : State,
     (∀ (t : Ticket) (j : Job) (p : Nat), s.saf.ticket = some t → jobOf s t.job = some j → t.paused = true →
       j.st = .printing → j.cancelling = false → t.admitted.length < totalBands j → resumeStep s j t = some p →
       ∃ (u : State) (k : Ticket), exec .ticketResume s = .next u ∧ u.saf.ticket = some k ∧ k.job = t.job ∧
         t.admitted ++ [p] <+: k.admitted ∧ k.clockLine = t.clockLine) ∧
     (∀ (t : Ticket) (j : Job), s.saf.ticket = some t → jobOf s t.job = some j → t.paused = true → j.st = .printing →
       totalBands j ≤ t.admitted.length → admitNothing s = false → diesCooled s = true → energyBack s = true →
       ∃ u, exec .ticketResume s = .next u ∧ u.saf.ticket = some { t with paused := false, hot := false } ∧
         jobOf u j.id = some { j with hold := 0 }) ∧
     (∀ (t : Ticket) (j : Job) (k : Nat), s.saf.ticket = some t → jobOf s t.job = some j → t.stopAt = some k →
       s.motion.rate = 0 → j.st = .printing → s.saf.disch = false → hotDies s = [] → t.hot = false → s.fife.waiting = none →
       marginOver s t j (dStop s (t.admitted.getD (nextBand s t) t.step)) = true →
       ∃ u t', exec .feedRestart s = .next u ∧ t' = { t with stopAt := none, restart := true, feedFrom := t.clockLine } ∧
         u.saf.ticket = some t' ∧ u.motion.feed = .ticket ∧ u.motion.rate = lineRate s t' t.clockLine ∧
         { u with saf := s.saf, motion := s.motion } = s) ∧
     (∀ id : Nat, s.saf.awaiting = some id →
       exec .renderWaitExpiry s = .next (schedule { s with saf := { s.saf with
         awaiting := none, spent := s.saf.spent ++ [id] } })) ∧
     (∀ j : Job, jobOf s j.id = some j → j.prio = 2 → j.aged = false → pv s.params 0x0620 ≠ 0 →
       (j.st = .queued ∨ j.st = .ready) →
       ∃ u, exec (.bulkAgeExpiry j.id) s = .next (schedule u) ∧ jobOf u j.id = some { j with aged := true } ∧
         effClass { j with aged := true } = 1 ∧ { u with jobs := s.jobs } = s))

/-- Encoders (R387 to R390, R393 to R396, R416): a level on A, B or I that has stood for POS_ENC_FILTER passes, a shorter one
does not; a legal transition moves the count by one, both inputs at once are rejected and counted, and while the core does not
run the levels are kept (log entry 146). A missing edge is stood in for once the limit has passed at a tenth of f100 or
faster, the third in a row is a position fault, and an index edge is kept and judged against POS_INDEX_COUNTS. A position
fault halts the ticket and has its feed decelerate at MOT_FEED_ACCEL, by its time in ticks of 100 us (R396, R402; log entry
159).

Yanks (R406, R407) while a ticket is PRINTING with ENC0 enabled: the third forward edge in a row that is too fast, four counts
back from the furthest position, four forward at a stop, and four either way in a pass of the carriage. Each interrupts the
ticket, with the feed at rest at once and its stub to be cleared once the paper has been still.

The rest of the line clock (R408, R437): the counts taken over every 64 lines, and the paper's rest and resync feed
after a yank or a position fault. -/
def Obligations.EncodersAndCounts : Prop :=
  (∀ (enc : Fin 2) (a b : Bool) (t : EncSeen) (s : State), coreRuns s = true → t.held < pv s.params 0x0704 →
    exec (.encoderEdge enc a b t) s = .next s) ∧
  (∀ (enc : Fin 2) (a b : Bool) (t : EncSeen) (s : State) (e : Enc), s.motion.enc[enc.val]? = some e → coreRuns s = false →
    ∃ u, exec (.encoderEdge enc a b t) s = .next u ∧ encOf u enc.val = { e with a := a, b := b } ∧
      { u with motion := s.motion } = s) ∧
  (∀ (a b : Bool) (t : EncSeen) (s : State) (e : Enc), s.motion.enc[1]? = some e → coreRuns s = true → carriage s = false →
    (pv s.params 0x0703).testBit 1 = false → pv s.params 0x0704 ≤ t.held → s.fife.waiting = none →
    ((quadPlace a b + 4 - quadPlace e.a e.b) % 4 = 1 →
      ∃ u, exec (.encoderEdge 1 a b t) s = .next u ∧ (encOf u 1).count = e.count + 1 ∧ (encOf u 1).raw = e.raw + 1 ∧
        (encOf u 1).a = a ∧ (encOf u 1).b = b ∧ encOf u 0 = encOf s 0 ∧ { u with motion := s.motion } = s) ∧
    ((quadPlace a b + 4 - quadPlace e.a e.b) % 4 = 3 →
      ∃ u, exec (.encoderEdge 1 a b t) s = .next u ∧ (encOf u 1).count = e.count - 1 ∧ { u with motion := s.motion } = s) ∧
    ((quadPlace a b + 4 - quadPlace e.a e.b) % 4 = 2 →
      ∃ u, exec (.encoderEdge 1 a b t) s = .next u ∧ (encOf u 1).count = e.count ∧
        u.motion.rejectCount = satInc32 s.motion.rejectCount ∧ { u with motion := s.motion } = s)) ∧
  (∀ (s : State) (e : Enc) (p t0 : Rat), s.motion.enc[0]? = some e → carriage s = false → encUsed s = true →
    crawling s = false → pHat s e = some p → e.lastT = some t0 → e.synthRun < 2 → s.fife.waiting = none →
    ∃ u, exec .lateLimitExpiry s = .next u ∧ (encOf u 0).count = e.count + 1 ∧ (encOf u 0).synthRun = e.synthRun + 1 ∧
      u.motion.synthCount = satInc32 s.motion.synthCount ∧
      { u with motion := s.motion } = s) ∧
  (∀ (s : State) (e : Enc) (p t0 : Rat), s.motion.enc[0]? = some e → carriage s = false → encUsed s = true →
    crawling s = false → pHat s e = some p → e.lastT = some t0 → e.synthRun = 2 → (printingTicket s).isSome →
    ∃ u, exec .lateLimitExpiry s = .next (afterTicket u) ∧ u.motion.posFault = true ∧ printingTicket u = none ∧
      u.motion.feed = .halt ∧ u.motion.rate = s.motion.rate ∧ u.motion.slow.isSome) ∧
  (∀ (enc : Fin 2) (level : Bool) (t : EncSeen) (s : State), coreRuns s = true → t.held < pv s.params 0x0704 →
    exec (.indexEdge enc level t) s = .next s) ∧
  (∀ (t : EncSeen) (s : State) (e : Enc), s.motion.enc[0]? = some e → coreRuns s = true → pv s.params 0x0704 ≤ t.held →
    e.i = false → e.fwd = true → carriage s = false → encUsed s = true → pv s.params 0x0708 ≠ 0 → e.lastIndex = none →
    ∃ u, exec (.indexEdge 0 true t) s = .next u ∧ (encOf u 0).lastIndex = some e.count ∧ (encOf u 0).i = true ∧
      { u with motion := s.motion } = s) ∧
  (∀ (t : EncSeen) (s : State) (e : Enc) (c : Word), s.motion.enc[0]? = some e → coreRuns s = true →
    pv s.params 0x0704 ≤ t.held → e.i = false → e.fwd = true → carriage s = false → encUsed s = true →
    pv s.params 0x0708 ≠ 0 → e.lastIndex = some c →
    (2 < diff32 e.count c - (pv s.params 0x0708 : Int) ∨ diff32 e.count c - (pv s.params 0x0708 : Int) < -2) →
    (printingTicket s).isSome →
    ∃ u, exec (.indexEdge 0 true t) s = .next (afterTicket u) ∧ u.motion.posFault = true ∧ printingTicket u = none ∧
      u.motion.rate = s.motion.rate ∧ u.motion.feed = (if s.motion.rate = 0 then .idle else .halt)) ∧
  (∀ (s : State) (t0 : Time) (v : Nat), s.motion.slow = some (t0, v) → pv s.params 0x0702 ≠ 0 →
    (pv s.params 0x0711 * 6 * since s t0 / 2540 < v →
      feedTick s = { s with motion := { s.motion with rate := v - pv s.params 0x0711 * 6 * since s t0 / 2540 } }) ∧
    (v ≤ pv s.params 0x0711 * 6 * since s t0 / 2540 →
      ∃ u, feedTick s = afterTicket u ∧ u.motion = { s.motion with
        feed := if s.motion.feed = .halt then .idle else s.motion.feed, rate := 0, slow := none })) ∧
  (∀ (a b : Bool) (t : EncSeen) (s : State) (e : Enc) (tk : Ticket) (j : Job), s.motion.enc[0]? = some e → coreRuns s = true →
    printingTicket s = some (tk, j) → pv s.params 0x0702 ≠ 0 → (pv s.params 0x0703).testBit 0 = false →
    pv s.params 0x0704 ≤ t.held → s.fife.waiting = none →
    (carriage s = false → s.motion.rate ≠ 0 → (quadPlace a b + 4 - quadPlace e.a e.b) % 4 = 1 → e.fastRun = 2 →
      (∃ t0, e.lastRawT = some t0 ∧
        ((t.cycle : Nat) : Rat) - ((edgeDelay s : Nat) : Rat) - t0 < periodNow s * 2 / 5) →
      ∃ u, exec (.encoderEdge 0 a b t) s = .next (yank u 1) ∧ (encOf u 0).raw = e.raw + 1 ∧ { u with motion := s.motion } = s) ∧
    (carriage s = false → (quadPlace a b + 4 - quadPlace e.a e.b) % 4 = 3 → 4 ≤ diff32 e.furthest (e.raw - 1) →
      ∃ u, exec (.encoderEdge 0 a b t) s = .next (yank u 2) ∧ (encOf u 0).raw = e.raw - 1 ∧ { u with motion := s.motion } = s) ∧
    (s.motion.rate = 0 → (quadPlace a b + 4 - quadPlace e.a e.b) % 4 = 1 → 4 ≤ diff32 (e.raw + 1) e.stopPos →
      ∃ u, exec (.encoderEdge 0 a b t) s = .next (yank u 2) ∧ (encOf u 0).raw = e.raw + 1 ∧ { u with motion := s.motion } = s) ∧
    (inPass s = true →
      (((quadPlace a b + 4 - quadPlace e.a e.b) % 4 = 1 ∧ 4 ≤ diff32 (e.raw + 1) s.motion.passEnc) ∨
       ((quadPlace a b + 4 - quadPlace e.a e.b) % 4 = 3 ∧ 4 ≤ diff32 s.motion.passEnc (e.raw - 1))) →
      ∃ u, exec (.encoderEdge 0 a b t) s = .next (yank u 2) ∧ { u with motion := s.motion } = s)) ∧
  (∀ (s : State) (reason : Nat) (tk : Ticket) (j : Job), printingTicket s = some (tk, j) →
    ∃ u, yank s reason = afterTicket u ∧ printingTicket u = none ∧ u.saf.ticket = none ∧ u.motion.feed = .idle ∧
      u.motion.rate = 0 ∧ u.motion.slow = none ∧ u.motion.waitStill = true ∧ u.motion.posFault = s.motion.posFault ∧
      u.motion.stubs = s.motion.stubs ++ [(stubCut j.cut, pv s.params 0x0720, false)]) ∧
  (∀ (t : EncSeen) (s : State) (e : Enc), s.motion.enc[1]? = some e → coreRuns s = true → pv s.params 0x0704 ≤ t.held →
    e.i = false → carriage s = true →
    ∃ u, exec (.indexEdge 1 true t) s = .next u ∧ (encOf u 1).lastIndex = some e.count ∧ { u with motion := s.motion } = s) ∧
  (∀ s : State,
     (coreRuns s = true → 64 ≤ s.fife.linesSinceUpdate → s.fife.waiting = none →
       ∃ u, exec .fireCountUpdate s = .next u ∧ u.fife.deltas = [] ∧ u.fife.linesSinceUpdate = 0 ∧
         u.fife.lineCnt = s.fife.lineCnt ∧ { u with fife := s.fife } = s) ∧
     (s.motion.waitStill = true →
       exec .encStillExpiry s = .next (afterTicket { s with motion := { s.motion with waitStill := false } })) ∧
     (s.motion.feed = .resync →
       exec .resyncFeedDone s = .next (afterTicket { s with motion := { s.motion with
         feed := .idle, rate := 0, slow := none, posFault := s.motion.posFault && s.motion.synthInResync } })))

/-- A line boundary that is reached fires the next line (R389, R397 to R399, R430): LINE counts one on and a record with the
line's number and its start is written; without a feed nothing fires, and a line that could not start in time is a position
fault. A LATE line waits for its start, and is counted and recorded then (R397, R430; log entry 57). -/
def Obligations.LinesFireAtTheirBoundaries : Prop :=
  (∀ (t steps : Nat) (s : State) (tk : Ticket) (j : Job), printingTicket s = some (tk, j) →
    (s.motion.rate = 0 → exec (.lineBoundary t steps) s = .next s) ∧
    (s.motion.rate ≠ 0 → s.motion.feed = .ticket → s.saf.disch = false → headEnable s ≠ 0 → s.fife.hisGate = false →
      s.fife.fault = false → heldUpTo s tk j = none → tk.stopAt = none → tk.clockLine < clockLines s tk j →
      boundaryReached s tk.clockLine t steps = true → s.fife.waiting = none →
      (lineStart s t = none → exec (.lineBoundary t steps) s = .next (positionFault s)) ∧
      (∀ start : Nat, lineStart s t = some (start, false) →
        ∃ (u : State) (rec : LineRec), exec (.lineBoundary t steps) s = .next u ∧ u.fife.lineCnt = s.fife.lineCnt + 1 ∧
          u.fife.lastRec = some rec ∧ rec.line = s.fife.lineCnt ∧ rec.tFire = BitVec.ofNat 32 start ∧
          u.fife.started = some start) ∧
      (∀ start : Nat, lineStart s t = some (start, true) →
        ∃ (u : State) (w : LateLine), exec (.lineBoundary t steps) s = .next u ∧ u.fife.lineCnt = s.fife.lineCnt ∧
          u.fife.waiting = some w ∧ w.n = tk.clockLine ∧ w.start = start ∧ u.fife.started = some start))) ∧
  (∀ (s : State) (w : LateLine), s.fife.waiting = some w →
    (settleWaiting s).fife.lineCnt = s.fife.lineCnt + 1 ∧ (settleWaiting s).fife.waiting = none ∧
    ∃ rec : LineRec, (settleWaiting s).fife.lastRec = some rec ∧ rec.line = s.fife.lineCnt ∧
      rec.tFire = BitVec.ofNat 32 w.start ∧ rec.flags.toNat.testBit 3 = true)

/-- The cutter (R298, R408, R411, R413): at the blade the feed stops and the cycle starts with the stroke of its kind of cut,
and CUT_HOME at its active level ends it: the stub is gone, or the job is finished; a cut that does not come home leaves the
cutter to be homed and the ticket not PRINTING.

Homing and the motors (R88, R401, R412 to R414): the cutter and the sled come home at their inputs' active level, the sled
that does not is lost; a driver fault is kept as its input reads and disables its motor where the core runs, M0's interrupts
the ticket, its release homes again, which is work in DOZE, and a motor at rest is disabled. Outside RUN, while DISCH is asserted, or its
motor is disabled, nothing that moves toward a home input ends there. No _EN of a disabled motor rises. -/
def Obligations.CutsAndMotors : Prop :=
  (∀ s : State,
     (∀ (kind feed : Nat) (re : Bool) (rest : List (Nat × Nat × Bool)), s.saf.disch = false → s.fife.waiting = none →
       s.motion.disabled.toNat.testBit 1 = false → s.motion.cutting = none → s.motion.feed = .stub →
       s.motion.stubs = (kind, feed, re) :: rest →
       exec .cutPositionReached s = .next { s with motion := { s.motion with
         feed := .idle, rate := 0, slow := none, cutting := some (kind, true), cutIn := homeActive s 0 false
         en := (raiseEn s 2).motion.en
         stroke := pv s.params (if kind = 2 then 0x0722 else 0x0721) } }) ∧
     (∀ (t : Ticket) (j : Job), s.saf.disch = false → s.fife.waiting = none → s.motion.disabled.toNat.testBit 1 = false →
       s.motion.cutting = none → s.motion.feed = .toBlade → s.saf.ticket = some t → jobOf s t.job = some j → j.cut ≠ 0 →
       exec .cutPositionReached s = .next { s with motion := { s.motion with
         feed := .idle, rate := 0, slow := none, cutting := some (j.cut, false), cutIn := homeActive s 0 false
         en := (raiseEn s 2).motion.en
         stroke := pv s.params (if j.cut = 2 then 0x0722 else 0x0721) } }) ∧
     (∀ level : Bool, (homeActive s 0 level = false ∨ cutterStands s = true) →
       exec (.cutHomeSeen level) s = .next { s with motion := { s.motion with cutIn := level } }) ∧
     (∀ (level : Bool) (kind n m : Nat) (rest : List (Nat × Nat × Bool)), homeActive s 0 level = true →
       cutterStands s = false → s.motion.cutting = some (kind, true) → s.motion.stubs = (n, m, false) :: rest →
       exec (.cutHomeSeen level) s = .next (afterTicket { s with motion := { s.motion with
         cutting := none, stroke := 0, cutIn := homeActive s 0 true, stubs := rest } })) ∧
     (∀ (level : Bool) (kind : Nat) (t : Ticket) (j : Job), homeActive s 0 level = true →
       cutterStands s = false → s.motion.cutting = some (kind, false) → s.saf.ticket = some t → jobOf s t.job = some j →
       ∃ u, exec (.cutHomeSeen level) s = .next (afterTicket u) ∧ jobOf u j.id = none ∧ u.saf.ticket = none ∧
         u.motion.cutIn = homeActive s 0 true ∧ u.motion.cutting = none ∧ u.motion.stroke = 0 ∧
         ∃ f : Finished, u.jobs.finished.head? = some f ∧ f.id = j.id ∧
           f.st = (if j.cancelling then .cancelled else .done)) ∧
     (∀ kind : Nat, ∀ stub : Bool, s.motion.cutting = some (kind, stub) →
       ∃ u, exec .cutHomeTimeout s = .next (afterTicket u) ∧ u.motion.cutting = none ∧ u.motion.homingCut = true ∧
         u.motion.cutIn = homeActive s 0 false ∧ (stub = false → u.saf.ticket = none)) ∧
     (s.motion.cutting = none → s.motion.homingCut = true →
       exec .cutHomeTimeout s = .next { s with motion := { s.motion with
         homingCut := false, cutIn := homeActive s 0 false } })) ∧
  (∀ s : State,
     (∀ level : Bool, coreRuns s = true → s.pwr.st = .run → s.saf.disch = false → s.motion.disabled = 0 → s.motion.homingCut = true → homeActive s 0 level = true →
       exec (.homingDone 0 level) s = .next (afterTicket { s with motion := { s.motion with
         homingCut := false, cutIn := level } })) ∧
     (∀ level : Bool, coreRuns s = true → s.pwr.st = .run → s.saf.disch = false → s.motion.disabled = 0 → s.motion.homingSled = true → s.motion.capped = false →
       homeActive s 1 level = true →
       exec (.homingDone 1 level) s = .next (afterTicket { s with motion := { s.motion with
         homingSled := false, sledPos := some (pv s.params 0x0732)
         en := if s.motion.sledPos = some (pv s.params 0x0732) then s.motion.en else s.motion.en ||| 4
         sledIn := homeActive s 1 (pv s.params 0x0732 == 0) } })) ∧
     (∀ level : Bool,
       ((homeActive s 0 level = false ∨ coreRuns s = false ∨ s.pwr.st ≠ .run ∨ s.saf.disch = true ∨ s.motion.disabled.toNat.testBit 1 = true) →
         exec (.homingDone 0 level) s = .next { s with motion := { s.motion with cutIn := level } }) ∧
       ((homeActive s 1 level = false ∨ coreRuns s = false ∨ s.pwr.st ≠ .run ∨ s.saf.disch = true ∨ s.motion.disabled.toNat.testBit 2 = true) →
         exec (.homingDone 1 level) s = .next { s with motion := { s.motion with sledIn := level } })) ∧
     (s.motion.homingSled = true →
       exec .sledHomeTimeout s = .next { s with motion := { s.motion with homingSled := false, sledPos := none } }) ∧
     (∀ m : Fin 3, coreRuns s = true → s.motion.disabled.toNat.testBit m.val = false →
       ∃ u, exec (.motorFault m) s = .next (afterTicket u) ∧ u.motion.disabled.toNat.testBit m.val = true ∧
         u.motion.flt.toNat.testBit m.val = true ∧
         u.motion.en.toNat.testBit m.val = false ∧ (m.val = 0 → printingTicket u = none) ∧
         u.seq = s.seq ∧ u.saf.disch = s.saf.disch) ∧
     (∀ m : Fin 3, coreRuns s = false →
       exec (.motorFault m) s = .next { s with motion := { s.motion with
         flt := s.motion.flt ||| BitVec.ofNat 3 (2 ^ m.val) } }) ∧
     (∀ m : Fin 3, s.motion.disabled.toNat.testBit m.val = true →
       ∃ u, u = { s with motion := { s.motion with
         flt := s.motion.flt &&& ~~~ (BitVec.ofNat 3 (2 ^ m.val))
         disabled := s.motion.disabled &&& ~~~ (BitVec.ofNat 3 (2 ^ m.val)), homingCut := true, homingSled := true
         sledPos := none } } ∧
       (coreRuns s = true → exec (.motorFltRelease m) s = .next (raiseEn (wakeDoze u) 6)) ∧
       (coreRuns s = false → exec (.motorFltRelease m) s = .next u)) ∧
     (∀ m : Fin 3, motorStopped s m.val = true →
       exec (.motorEnIdleExpiry m) s = .next { s with motion := { s.motion with
         en := s.motion.en &&& ~~~ (BitVec.ofNat 3 (2 ^ m.val)) } }))

/-! ### Hub, services, rendering and the log -/

/-- The hub's tick and its buses (R458, R462, R464, R465, R469, R475, R476): hub time advances by 100 us (log entry 12), the
reservoir is read in every tick while VDDA is there, the services, the calibrations and the feed take their turn after it, a
finished transaction waits for its place with the time of its read phase, one that is refused, stretched or has lost its
arbitration HUB_I2C_RETRIES times (log entry 169) is over, and one that may try again does; one on the I2C bus starts when no
other controller holds it (log entry 104).

The ceiling (R26, R361): a reading of the reservoir at the trip code or above releases the charger and its channel, one at 98
% of it or below lets go, and the third in a row above 1.02 of the most that it may hold asserts DISCH for reason 7 where the
core runs.

A detector (R484, R485) that judges the reservoir, ABOVE, alone: the sample that completes SET_COUNT sets it, with its sticky bit
and its actions: its record, DISCH for reason 1, the host's interrupt, and NOTIFY, LOG and WAKE as edgeWork has them; the sample
that completes CLR_COUNT clears it, and its reason of DISCH goes. -/
def Obligations.HubTicksAndBuses : Prop :=
  (∀ (codes : Sampled) (held : Bool) (s : State), s.rst.vaoGood = true → s.pwr.st = .run → s.hub.running = false →
    s.hub.wff = none → s.cal.due = [] →
    ∃ u, exec (.hubTick codes held) s = .next (if coreRuns u then feedTick (calTick (serviceTick u)) else u) ∧
      u = seqDone { s with clk := passTime s.clk 100 }) ∧
  (∀ (codes : Sampled) (held : Bool) (s : State), s.rst.vaoGood = true → s.rst.vddaGood = true → s.pwr.st = .run →
    s.hub.running = true → s.hub.reserve = false → s.hub.wff = none → s.hub.defer = [] →
    s.hub.slots.take 10 = Hub.sysSlots → s.hub.latest.length = 27 →
    ∃ u, exec (.hubTick codes held) s =
        .next (if coreRuns (seqDone u) then feedTick (calTick (serviceTick (seqDone u))) else seqDone u) ∧
      u.clk.hubTime = s.clk.hubTime + 100 ∧ u.hub.i2cHeld = held ∧
      u.hub.busI2c = startHead held (s.clk.hubTime + 100) s.hub.busI2c ∧
      reading u 24 = ⟨codes.dark.getD 24 0, s.clk.hubTime + 100, true⟩ ∧
      (s.saf.tripCode ≤ (codes.dark.getD 24 0).toNat →
        u.saf.tripped = true ∧ u.saf.charger = false ∧ (chRun u.seq (bootCharger s.otp)).en = false) ∧
      ((codes.dark.getD 24 0).toNat ≤ 98 * s.saf.tripCode / 100 → (codes.dark.getD 24 0).toNat < s.saf.tripCode →
        u.saf.tripped = false) ∧
      (2 ≤ s.saf.overCount → coreRuns s = true →
        (codes.dark.getD 24 0 = 4095 ∨ 102 * (eMax s.otp : Rat) / 100000 < eResOf s.otp (codes.dark.getD 24 0).toNat) →
        u.saf.disch = true ∧ u.saf.reasons.toNat.testBit 7 = true)) ∧
  (∀ (codes : Sampled) (held : Bool) (s : State) (d : Nat) (e : List Byte), s.rst.vaoGood = true → s.rst.vddaGood = true →
    s.pwr.st = .run → s.pwr.collect = none → s.pwr.entry = none →
    s.hub.running = true → s.hub.reserve = true → s.hub.stopping = false → s.hub.wff = none → s.hub.defer = [] →
    s.hub.busI2c = [] → s.hub.busSpi = [] → s.hub.done = [] → s.hub.slots.take 10 = Hub.sysSlots →
    (∀ n, 10 ≤ n → slotKind (hubSlot s.hub n) = 0 ∧ (slotRunOf s.hub n).deferred = false) →
    s.hub.dets.length = 32 → s.hub.detRun.length = 32 → d < 32 → hubDet s.hub d = e → detKind e = 1 → detSource e = 0 →
    (∀ k, k ≠ d → detKind (hubDet s.hub k) = 0) → (detRunOf s.hub d).late = false →
    ∃ u, exec (.hubTick codes held) s =
        .next (if coreRuns (seqDone u) then feedTick (calTick (serviceTick (seqDone u))) else seqDone u) ∧
      ((detRunOf s.hub d).active = false → signedAt e 4 2 ≤ (codes.dark.getD 24 0).toNat →
        fieldAt e 8 1 ≤ (detRunOf s.hub d).setRun + 1 →
        (∃ w, w = systemSlots codes.dark (restartRecord (busSeen held
            (switchDue { s with clk := passTime s.clk 100 } (fun t => decide (5 ≤ t))))) ∧
          u = edgeWork (markEdge w d true) d true (codes.dark.getD 24 0).toNat (s.clk.hubTime + 100) false ∧
          w.hub.dets = s.hub.dets ∧ w.clk.hubTime = s.clk.hubTime + 100) ∧
        (detRunOf u.hub d).active = true ∧ u.hub.sticky.toNat.testBit d = true ∧
        (detAction e 0 = true → s.hub.fifo.length < 2700 →
          ∃ alive, u.hub.fifo.getLast? = some (hubRecord (s.clk.hubTime + 100) (0x40 + d) 0x80
            (codes.dark.getD 24 0).toNat ((b8 (fieldAt e 3 1)).toNat + 256 * detRole e) alive)) ∧
        (detAction e 2 = true → coreRuns s = true → s.reed.owns = false → u.port.irq.toNat.testBit 7 = true) ∧
        (detAction e 3 = true → u.saf.disch = true ∧ u.saf.reasons.toNat.testBit 1 = true ∧ u.saf.charger = false)) ∧
      ((detRunOf s.hub d).active = false →
        ((codes.dark.getD 24 0).toNat < signedAt e 4 2 ∨ (detRunOf s.hub d).setRun + 1 < fieldAt e 8 1) →
        (detRunOf u.hub d).active = false ∧ u.hub.sticky = s.hub.sticky) ∧
      ((detRunOf s.hub d).active = true → (codes.dark.getD 24 0).toNat < signedAt e 6 2 →
        fieldAt e 9 1 ≤ (detRunOf s.hub d).clrRun + 1 →
        (detRunOf u.hub d).active = false ∧ u.saf.reasons.toNat.testBit 1 = false)) ∧
  (∀ (spi : Bool) (bytes : List Byte) (after : Nat) (s : State) (x : BusTx) (rest : List BusTx), busOf s.hub spi = x :: rest →
    x.started = true → s.hub.running = true →
    ∃ u, exec (.hubBusComplete spi (.frame bytes after)) s = .next u ∧
      u.hub.done = s.hub.done ++
        [⟨{ x with time := if spi then x.time else x.time + BitVec.ofNat 48 after }, bytes, false⟩] ∧
      busOf u.hub spi = startHead false (now s) rest ∧ busOf u.hub (!spi) = busOf s.hub (!spi)) ∧
  (∀ (s : State) (x : BusTx) (rest : List BusTx), s.hub.busI2c = x :: rest → x.started = true → s.hub.running = true →
    (∃ u, exec (.hubBusComplete false .nack) s = .next u ∧ u.hub.busI2c = startHead false (now s) rest ∧
      u.hub.i2cHeld = false ∧ u.hub.lost = s.hub.lost + 1 ∧ u.hub.done = s.hub.done) ∧
    (∃ u, exec .hubI2cTimeout s = .next u ∧ u.hub.busI2c = startHead false (now s) rest ∧ u.hub.lost = s.hub.lost + 1) ∧
    (x.retries + 1 < pv s.params 0x0A03 →
      exec (.hubBusComplete false .arbLost) s = .next { s with hub := { s.hub with
        i2cHeld := true, busI2c := { x with started := false, retries := x.retries + 1 } :: rest } }) ∧
    (pv s.params 0x0A03 ≤ x.retries + 1 →
      ∃ u, exec (.hubBusComplete false .arbLost) s = .next u ∧ u.hub.busI2c = rest ∧ u.hub.i2cHeld = true ∧
        u.hub.lost = s.hub.lost + 1)) ∧
  (∀ (s : State) (x : BusTx) (rest : List BusTx), s.hub.busI2c = x :: rest → x.started = false → x.retries ≠ 0 →
    exec .hubI2cBackoffExpiry s = .next { s with hub := { s.hub with
      i2cHeld := false, busI2c := { x with started := true, time := now s } :: rest } })

/-- The ends of a scan, a service routine and a FEED (R408, R440 to R444, R457, R458, R460): the action is over, the tested
nozzles take their verdicts and a scan with tests left, or whose tests wait for cooling, goes on (log entries 59 and 62), a
cap is in place, the feed is idle; a wait that was too long ends the routine, and no shorter one; and the changed map goes
into the older copy with the next MAP_SEQ.

The ends of a calibration (R163, R172, R496, R498, R500, R501, R503, R504, R507, R513), shown on AO_RC: runs that are not as
many as CAL_REPEATS end nothing, a failed measurement and a disagreement apply nothing, a good one, for which the coarse trim
code has stood for 8 trim periods, without a store is to become active at the next trim as a trial where a slot takes its
shadow and else only reported, a store programs the slot's word unless a lock or the lifecycle has closed it meanwhile (log
entry 155), and a wait of more than 30 s ends the calibration. Each end gives its COMMAND_DONE, and nothing of its kind runs any more. -/
def Obligations.ServicesAndCalibrationsEnd : Prop :=
  (∀ s : State, s.saf.railHit = false → s.saf.dischHit = false → firstBadRail s.seq = none →
     (∀ (v : ScanRun) (gates : List GateSeen) (tests ts : List NozTest) (cut : Option NozTest), s.noz.scan = some v → s.noz.marked = [] →
       v.wait = none →
       scanDone s v gates tests = (ts, [], none, cut) → (ts.map testNozzle).Nodup →
       ∃ u, exec (.nozScanDone gates tests .ok) s = .next (afterTicket u) ∧ u.noz.scan = none ∧
         (∀ x ∈ ts, stateIn u.noz.states (testNozzle x) = verdictOn (stateIn s.noz.states (testNozzle x)) (verdict s x.drops)) ∧
         (∀ i : Nat, (∀ x ∈ ts, testNozzle x ≠ i) → stateIn u.noz.states i = stateIn s.noz.states i)) ∧
     (∀ (v : ScanRun) (gates : List GateSeen) (tests ts : List NozTest) (left : List Nat) (cut : Option NozTest), s.noz.scan = some v →
       s.noz.marked = [] → scanDone s v gates tests = (ts, left, none, cut) → (left ≠ [] ∨ v.wait.isSome) → v.yield = false →
       exec (.nozScanDone gates tests .ok) s = .next s) ∧
     (∀ v : SvcRun, s.noz.service = some v →
       (v.left = 0 → v.after = 0 → v.firing = 0 → ∃ u, exec (.serviceRunDone .ok) s = .next (afterTicket u) ∧ u.noz.service = none ∧
         (v.routine = 3 → u.motion.capped = true ∧ u.motion.capTime = (if s.motion.capped then s.motion.capTime else now s)) ∧
         u.noz.states = s.noz.states) ∧
       ((v.left ≠ 0 ∨ v.after ≠ 0 ∨ v.firing ≠ 0) → exec (.serviceRunDone .ok) s = .next s)) ∧
     (∀ (a : Action) (fed : Nat), running s 0x0706 = some a →
       ∃ u, exec (.feedDone fed .ok) s = .next (afterTicket u) ∧ u.motion = { s.motion with
           feed := .idle, rate := 0, slow := none, cutting := none, stroke := 0
           en := if (byteAt a.payload 2).toNat.testBit 0 then (raiseEn s 2).motion.en else s.motion.en
           cutIn := if (byteAt a.payload 2).toNat.testBit 0 then homeActive s 0 true else s.motion.cutIn
           posFault := s.motion.posFault && s.motion.synthInResync } ∧
         ActionEnds s u a stOk (b16 fed ++ [if (byteAt a.payload 2).toNat.testBit 0 then 1 else 0, 0]) ∧
         { u with motion := s.motion } = endAction s 0x0706 stOk
           (b16 fed ++ [if (byteAt a.payload 2).toNat.testBit 0 then 1 else 0, 0]))) ∧
  (∀ (s : State) (v : SvcRun) (gates : List GateSeen) (tests : List NozTest), s.noz.service = some v →
     (waitedOut s v.wait = true →
       ∃ u, exec (.serviceWaitTimeout gates tests) s = .next (afterTicket u) ∧ u.noz.service = none) ∧
     (waitedOut s v.wait = false → exec (.serviceWaitTimeout gates tests) s = .next s)) ∧
  (∀ s : State,
     (coreRuns s = true → s.noz.dirty = true → s.noz.writtenAt = none → s.nvm.maps.length = 2 → NvmSound s →
       ∃ u, exec .nozMapWrite s = .next u ∧ u.noz.dirty = false ∧ u.noz.mapSeq = s.noz.mapSeq + 1 ∧
         u.noz.writtenAt = some (now s) ∧ (∃ c : MapCopy, u.nvm.maps[olderMap s.nvm]? = some (mapBytes c) ∧
           c.mapSeq = s.noz.mapSeq + 1 ∧ c.states = s.noz.states ∧ c.eyes = s.noz.eyes ∧ c.rtc = s.noz.changedRtc ∧
           c.led = s.noz.lastLed ∧ c.tia = s.noz.lastTia ∧ c.noise = s.noz.lastNoise) ∧
         u.nvm.maps[1 - olderMap s.nvm]? = s.nvm.maps[1 - olderMap s.nvm]?)) ∧
  (∀ (s : State) (a : Action), running s 0x0601 = some a →
     (s.cal.store = none → byteAt a.payload 0 = 3 → byteAt a.payload 1 = 0 →
       (∀ (m : CalMeas) (e : MechEnd), m.fail = some e →
         ∃ u, exec (.calDone m) s = .next (afterTicket u) ∧
           ActionEnds s u a stFault (calResult a 0xFF 0 ++ faultDetail (mechDetail s e).1 (mechDetail s e).2) ∧
           u.cal.active = s.cal.active ∧ u.cal.due = s.cal.due ∧
           u.cal.trial = none ∧ u.otp = s.otp ∧ u.hub.borrowed = 0) ∧
       (∀ m : CalMeas, m.fail = none → (runsWhole s 2 m = false ∨ s.cal.aoHeld = false) → aoRestless s = false →
         exec (.calDone m) s = .next s) ∧
       (∀ m : CalMeas, m.fail = none → (runsWhole s 2 m = false ∨ s.cal.aoHeld = false) → aoRestless s = true →
         ∃ u q, exec (.calDone m) s = .next (afterTicket u) ∧ ActionEnds s u a stCalDisagree (calResult a 0xFF q) ∧
           u.cal.active = s.cal.active ∧ u.cal.due = s.cal.due ∧
           u.cal.trial = none ∧ u.otp = s.otp ∧ u.hub.borrowed = 0) ∧
       (∀ m : CalMeas, m.fail = none → runsWhole s 2 m = true → s.cal.aoHeld = true →
         runsAgree s 2 (fieldAt a.payload 4 4) m.runs = false →
         ∃ u q, exec (.calDone m) s = .next (afterTicket u) ∧ ActionEnds s u a stCalDisagree (calResult a 0xFF q) ∧
           u.cal.active = s.cal.active ∧ u.cal.due = s.cal.due ∧
           u.cal.trial = none ∧ u.otp = s.otp ∧ u.hub.borrowed = 0) ∧
       (∀ (m : CalMeas) (ws : List Nat) (q : Word) (s1 s2 : State) (sel : List Nat), m.fail = none → runsWhole s 2 m = true →
         s.cal.aoHeld = true → runsAgree s 2 (fieldAt a.payload 4 4) m.runs = true →
         (byteAt a.payload 2).toNat.testBit 0 = false → shadowSlot s 2 = some ws →
         calQuality s 2 (fieldAt a.payload 4 4) (runValues 2 m.verify) = (q, s1) →
         selFrom s1 2 (fieldAt a.payload 4 4) (meanRun 2 m.runs) = (some sel, s2) →
         verifyOk 2 (fieldAt a.payload 4 4) (runValues 2 m.verify) = true → selOk 2 sel = true →
         ∃ u, exec (.calDone m) s = .next (afterTicket u) ∧ ActionEnds s u a stOk (calResult a 0xFF q) ∧
           u.cal.due = assocSet s.cal.due 2 ⟨4, b8 (slotNumber 2 ws), sel, q, 0⟩ ∧ u.cal.active = s.cal.active ∧
           u.otp.words = s.otp.words ∧ u.cal.trial = none) ∧
       (∀ m : CalMeas, m.fail = none → runsWhole s 2 m = true →
         s.cal.aoHeld = true → runsAgree s 2 (fieldAt a.payload 4 4) m.runs = true →
         (byteAt a.payload 2).toNat.testBit 0 = false → shadowSlot s 2 = none →
         ∃ u q, exec (.calDone m) s = .next (afterTicket u) ∧ ActionEnds s u a stOk (calResult a 0xFF q) ∧
           u.cal.active = s.cal.active ∧ u.cal.due = s.cal.due ∧
           u.cal.trial = none ∧ u.otp = s.otp ∧ u.hub.borrowed = 0)) ∧
     (∀ (w : Nat) (tCal : Int) (ws : List (List Nat)) (sel : List Nat) (q : Word), s.cal.store = some (2, sel, tCal, q, 0) →
       s.pwr.st = .run → junctionOk s = true → vaoOk s = true → storeBarred s.otp = false → blankSlots s.otp 2 = [w] :: ws →
       (otpRaw s.otp w).defective = false → s.otp.words.length = 256 →
       ∃ u, exec .calOtpStore s = .next (afterTicket u) ∧ u.cal.store = none ∧
         ActionEnds s u a stOk (calResult a (b8 (slotNumber 2 [w])) q) ∧
         u.otp.words = s.otp.words.set w (programmed (otpRaw s.otp w)
           (otpWithCheck ((slotData 2 sel tCal q.toNat 0 s.log.bootCount.toNat).headD 0) w))) ∧
     (s.cal.store.isSome → s.pwr.st = .run → junctionOk s = true → vaoOk s = true → storeBarred s.otp = true →
       ∃ u, exec .calOtpStore s = .next (afterTicket u) ∧ u = endCal s 0x0008 0 ∧ u.cal.store = none ∧
         ActionEnds s u a stFault (calResult a 0xFF 0 ++ faultDetail 0x0008 0) ∧ u.otp.words = s.otp.words) ∧
     (waitedOut s s.cal.wait = false → exec .calWaitTimeout s = .next s) ∧
     (waitedOut s s.cal.wait = true →
       ∃ u, exec .calWaitTimeout s = .next (afterTicket u) ∧ u = endCal s 0x0005 0 ∧
         ActionEnds s u a stFault (calResult a 0xFF 0 ++ faultDetail 0x0005 0) ∧ u.cal.store = none ∧ u.cal.trial = none ∧ u.otp = s.otp))

/-- The renderer (R249, R329, R355 to R358): it takes the next description job, which is RENDERING or has FAILED when it has
begun, a job whose blocks have come free renders on, and one whose last band is in the store is READY, with the hold under
which it waits (R249).

The log in NVM (R269 to R272): what is staged goes into the ring in order with consecutive sequence numbers, each in the slot
of its number, at eight records or when the interval ends, and LOG_CTRL's next page takes the counts. -/
def Obligations.RenderingAndLogging : Prop :=
  (∀ (s : State) (j : Job), coreRuns s = true → jobOf s j.id = some j →
     (∀ js : List Job, s.pwr.entry = none → rendered s = none → toRender s = j :: js → j.st = .queued →
       ∃ u, exec .renderStart s = .next u ∧
         ((∃ k, jobOf u j.id = some k ∧ k.st = .rendering) ∨
          ∃ d v, u = schedule v ∧ layout (setJobState (modJob (wakeDoze s) j.id (latchTicket (wakeDoze s))) j.id .rendering 0)
            (latchTicket (setJobState (modJob (wakeDoze s) j.id (latchTicket (wakeDoze s))) j.id .rendering 0) j) = .inl d ∧
            jobOf v j.id = none)) ∧
     (rendered s = some j → j.wait = true → blocksUsed s + j.planned ≤ storeBlocks → s.usb.attached = false →
       s.net.conns = [] →
       ∃ u, exec .renderResume s = .next (schedule u) ∧
         jobOf u j.id = some { j with wait := false, bands := redraw s j.bands, rendAt := s.clk.hubTime }) ∧
     (rendered s = some j → j.wait = false →
       ∃ u, exec .renderDone s = .next (schedule u) ∧
         jobOf u j.id = some { j with st := .ready, hold := readyHold s j.id, detail := 0 })) ∧
  (∀ s : State, coreRuns s = true → NvmSound s →
     (s.pwr.st ≠ .doze → s.log.lossDue = false → s.log.staging ≠ [] →
       (∃ u, exec .logFlushIntervalExpiry s = .next u ∧ u.log.staging = [] ∧
         u.log.next = s.log.next + BitVec.ofNat 32 s.log.staging.length ∧
         (∃ l : List RingRec, u.nvm.ring = s.nvm.ring.filter
             (fun x => !l.any (fun y => y.seq.toNat % 16384 == x.seq.toNat % 16384)) ++ l ∧ l.length = s.log.staging.length ∧
           ∀ i : Nat, ∀ e : Event, s.log.staging[i]? = some e → l[i]? = some
             ⟨s.log.next + BitVec.ofNat 32 i, eventBytes (s.log.next + BitVec.ofNat 32 i) e⟩)) ∧
       (8 ≤ s.log.staging.length → exec .logFlush s = exec .logFlushIntervalExpiry s)) ∧
     (s.log.ctrlAt = none → s.nvm.ctrl.length = 8 →
       ∃ u, exec .logCtrlWrite s = .next u ∧ (s.pwr.st = .doze → u.pwr.st = .run) ∧ u.log.ctrlAt = some (now s) ∧ u.nvm.ctrlNext = (s.nvm.ctrlNext % 8 + 1) % 8 ∧
         u.nvm.ctrl[s.nvm.ctrlNext % 8]? =
           some (ctrlBytes ⟨s.log.bootCount, s.log.loss, s.log.lowest, s.log.checked, s.log.newestRec⟩)))
end

