-- ==== Sys2Proof/Laws/Crypto.lean ====
section
/-! SUPPORT. The lengths of what the hash functions answer. -/

namespace Sys2Proof.Machine

@[simp] theorem leBytes_length (n v : Nat) : (leBytes n v).length = n := by
  induction n generalizing v with
  | zero => rfl
  | succ n ih => simp [leBytes, ih]

@[simp] theorem beBytes_length (n v : Nat) : (beBytes n v).length = n := by simp [beBytes]

theorem shaRound_length (v : List Nat) (kw : Nat × Nat) : (shaRound v kw).length = v.length := by
  unfold shaRound; split <;> simp

theorem foldl_shaRound_length (l : List (Nat × Nat)) (v : List Nat) : (l.foldl shaRound v).length = v.length := by
  induction l generalizing v with
  | nil => rfl
  | cons a l ih => rw [List.foldl_cons, ih, shaRound_length]

theorem shaBlock_length (h : List Nat) (b : List Byte) : (shaBlock h b).length = h.length := by
  simp [shaBlock, foldl_shaRound_length]

theorem shaBlocks_length (n : Nat) (m : List Byte) (h : List Nat) : (shaBlocks n m h).length = h.length := by
  induction n generalizing m h with
  | zero => rfl
  | succ n ih => rw [shaBlocks, ih, shaBlock_length]

/-- A digest is 32 octets. -/
@[simp] theorem sha256_length (m : List Byte) : (sha256 m).length = 32 := by
  simp only [sha256, List.length_flatMap, beBytes_length, List.map_const', List.sum_replicate_nat, shaBlocks_length]
  rfl

/-- A message authentication code is 32 octets. -/
@[simp] theorem hmac_length (k m : List Byte) : (hmac k m).length = 32 := sha256_length _

end Sys2Proof.Machine
end

