-- ==== Sys2Proof/Laws/Cvu.lean ====
section
/-! SUPPORT. A check-value unit that switches streams computes the check of the whole stream: what the functions of Crc.lean give. -/

namespace Sys2Proof.Laws.Cvu
open Sys2Proof.Machine

/-- Saving a stream's state and restoring it changes nothing. -/
theorem follow_eq (unit : Nat) (u : CvuState) (bs : List Byte) : follow unit u bs = bs.foldl CvuState.feed u := by
  unfold follow savedAt
  by_cases h : bs.length ≤ unit
  · simp only [h, if_true]
  · simp only [h, if_false]
    rw [← List.foldl_append, List.take_append_drop]

/-- Feeding a stream to a unit that covers all of it from the start, with no header lane: only the main register and the count
move. -/
theorem foldl_feed (u : CvuState) (bs : List Byte) (hf : u.frame = false) (hh : u.hdrLen = 0) (hs : u.start = 0)
    (hl : u.count + bs.length ≤ u.len) :
    bs.foldl CvuState.feed u = { u with main := bs.foldl u.alg.feed u.main, count := u.count + bs.length } := by
  induction bs generalizing u with
  | nil => rfl
  | cons b bs ih =>
    simp only [List.length_cons] at hl
    have hb : u.feed b = { u with main := u.alg.feed u.main b, count := u.count + 1 } := by
      have : u.count < u.len := by omega
      simp [CvuState.feed, hf, hh, hs, this]
    have h := ih { u with main := u.alg.feed u.main b, count := u.count + 1 } hf hh hs
      (by show u.count + 1 + bs.length ≤ u.len; omega)
    rw [List.foldl_cons, hb, h]
    simp only [List.foldl_cons, List.length_cons, CvuState.mk.injEq, true_and, and_true]
    omega

theorem stepMsb_lt {w p r : Nat} (hp : p < 2 ^ w) : crcStepMsb w p r < 2 ^ w := by
  unfold crcStepMsb
  have h : r * 2 % 2 ^ w < 2 ^ w := Nat.mod_lt _ (Nat.two_pow_pos w)
  split
  · exact Nat.xor_lt_two_pow h hp
  · exact h

theorem stepLsb_lt {w p r : Nat} (hp : p < 2 ^ w) (hr : r < 2 ^ w) : crcStepLsb p r < 2 ^ w := by
  unfold crcStepLsb
  have h : r / 2 < 2 ^ w := Nat.lt_of_le_of_lt (Nat.div_le_self r 2) hr
  split
  · exact Nat.xor_lt_two_pow h hp
  · exact h

theorem byteMsb_lt {w p r : Nat} (hp : p < 2 ^ w) (b : Byte) : crcByteMsb w p r b < 2 ^ w := stepMsb_lt hp

theorem byteLsb_lt {w p r : Nat} (hp : p < 2 ^ w) (hw : 8 ≤ w) (hr : r < 2 ^ w) (b : Byte) : crcByteLsb p r b < 2 ^ w := by
  have hb : b.toNat < 2 ^ w := Nat.lt_of_lt_of_le b.isLt (Nat.pow_le_pow_right (by decide) hw)
  exact stepLsb_lt hp (stepLsb_lt hp (stepLsb_lt hp (stepLsb_lt hp (stepLsb_lt hp (stepLsb_lt hp (stepLsb_lt hp
    (stepLsb_lt hp (Nat.xor_lt_two_pow hr hb))))))))

/-- A register of 32 bits holds what a check's byte steps give, where these stay below 2^32. -/
theorem foldl_word (f : Nat → Byte → Nat) (g : Word → Byte → Word) (w : Nat) (hw : w ≤ 32)
    (hg : ∀ r b, g r b = BitVec.ofNat 32 (f r.toNat b)) (hf : ∀ r b, r < 2 ^ w → f r b < 2 ^ w) (bs : List Byte) (r : Nat)
    (hr : r < 2 ^ w) : bs.foldl g (BitVec.ofNat 32 r) = BitVec.ofNat 32 (bs.foldl f r) := by
  induction bs generalizing r with
  | nil => rfl
  | cons b bs ih =>
    have h32 : r < 2 ^ 32 := Nat.lt_of_lt_of_le hr (Nat.pow_le_pow_right (by decide) hw)
    rw [List.foldl_cons, List.foldl_cons, hg, BitVec.toNat_ofNat, Nat.mod_eq_of_lt h32]
    exact ih _ (hf r b hr)

theorem foldl_lt (f : Nat → Byte → Nat) (w : Nat) (hf : ∀ r b, r < 2 ^ w → f r b < 2 ^ w) (bs : List Byte) (r : Nat)
    (hr : r < 2 ^ w) : bs.foldl f r < 2 ^ w := by
  induction bs generalizing r with
  | nil => exact hr
  | cons b bs ih => exact ih _ (hf r b hr)

/-- What a unit set up for a body holds when the body has passed. -/
theorem body_main (a : CvuAlg) (c : Bool) (bs : List Byte) :
    (bs.foldl CvuState.feed (CvuState.onBody a bs.length c)).main = bs.foldl a.feed a.init := by
  rw [foldl_feed _ _ rfl rfl rfl (by simp [CvuState.onBody])]; rfl

theorem body_alg (a : CvuAlg) (c : Bool) (bs : List Byte) :
    (bs.foldl CvuState.feed (CvuState.onBody a bs.length c)).alg = a := by
  rw [foldl_feed _ _ rfl rfl rfl (by simp [CvuState.onBody])]; rfl

/-- The four results of a unit over a body are the four checks of R516. -/
theorem body_crc8 (c : Bool) (bs : List Byte) :
    (bs.foldl CvuState.feed (CvuState.onBody .crc8 bs.length c)).result = (crc8 bs).toNat := by
  have hs : ∀ r b, r < 2 ^ 8 → crcByteMsb 8 0x07 r b < 2 ^ 8 := fun r b _ => byteMsb_lt (by decide) b
  have hl := foldl_lt _ 8 hs bs 0 (by decide)
  have h := foldl_word _ (CvuAlg.feed .crc8) 8 (by decide) (fun _ _ => rfl) hs bs 0 (by decide)
  simp only [CvuState.result, body_alg, body_main]
  rw [show CvuAlg.init .crc8 = BitVec.ofNat 32 0 from rfl, h, crc8, BitVec.toNat_ofNat, BitVec.toNat_ofNat, Nat.mod_eq_of_lt hl,
    Nat.mod_eq_of_lt (Nat.lt_trans hl (by decide))]

theorem body_crc16 (c : Bool) (bs : List Byte) :
    (bs.foldl CvuState.feed (CvuState.onBody .crc16 bs.length c)).result = (crc16 bs).toNat := by
  have hs : ∀ r b, r < 2 ^ 16 → crcByteMsb 16 0x1021 r b < 2 ^ 16 := fun r b _ => byteMsb_lt (by decide) b
  have hl := foldl_lt _ 16 hs bs 0xFFFF (by decide)
  have h := foldl_word _ (CvuAlg.feed .crc16) 16 (by decide) (fun _ _ => rfl) hs bs 0xFFFF (by decide)
  simp only [CvuState.result, body_alg, body_main]
  rw [show CvuAlg.init .crc16 = BitVec.ofNat 32 0xFFFF from rfl, h, crc16, BitVec.toNat_ofNat, BitVec.toNat_ofNat,
    Nat.mod_eq_of_lt hl, Nat.mod_eq_of_lt (Nat.lt_trans hl (by decide))]

/-- Inverting a register of 32 bits is XOROUT with all ones. -/
theorem not_ofNat (n : Nat) : ~~~ BitVec.ofNat 32 n = BitVec.ofNat 32 (n.xor 0xFFFFFFFF) := by
  rw [← BitVec.xor_allOnes, show BitVec.allOnes 32 = BitVec.ofNat 32 0xFFFFFFFF from rfl]
  exact (BitVec.ofNat_xor).symm

theorem body_crc32 (c : Bool) (bs : List Byte) :
    (bs.foldl CvuState.feed (CvuState.onBody .crc32 bs.length c)).result = (crc32 bs).toNat := by
  have h := foldl_word _ (CvuAlg.feed .crc32) 32 (by decide) (fun _ _ => rfl)
    (fun r b hr => byteLsb_lt (by decide) (by decide) hr b) bs 0xFFFFFFFF (by decide)
  simp only [CvuState.result, body_alg, body_main]
  rw [show CvuAlg.init .crc32 = BitVec.ofNat 32 0xFFFFFFFF from rfl, h, not_ofNat, crc32]

theorem body_crc32c (c : Bool) (bs : List Byte) :
    (bs.foldl CvuState.feed (CvuState.onBody .crc32c bs.length c)).result = (crc32c bs).toNat := by
  have h := foldl_word _ (CvuAlg.feed .crc32c) 32 (by decide) (fun _ _ => rfl)
    (fun r b hr => byteLsb_lt (by decide) (by decide) hr b) bs 0xFFFFFFFF (by decide)
  simp only [CvuState.result, body_alg, body_main]
  rw [show CvuAlg.init .crc32c = BitVec.ofNat 32 0xFFFFFFFF from rfl, h, not_ofNat, crc32c]

/-- A unit that follows a body over its switches agrees with the stored check exactly where Crc.lean's check does. -/
theorem follow_agrees (unit : Nat) (bs : List Byte) (stored : Nat) :
    (follow unit (CvuState.onBody .crc32c bs.length true) bs).agrees stored = decide ((crc32c bs).toNat = stored) := by
  have hc : (bs.foldl CvuState.feed (CvuState.onBody .crc32c bs.length true)).compare = true := by
    rw [foldl_feed _ _ rfl rfl rfl (by simp [CvuState.onBody])]; rfl
  rw [follow_eq, CvuState.agrees, hc, body_crc32c]; rfl

end Sys2Proof.Laws.Cvu
end

