-- ==== Sys2Proof/Laws/State.lean ====
section
/-! SUPPORT. What each update of a part of State leaves of every field: true by unfolding, so that no later proof opens a
record update. -/

namespace Sys2Proof.Machine

/-! `modSeq` -/

@[simp] theorem modSeq_rst (s : State) (f : Seq → Seq) : (modSeq s f).rst = s.rst := rfl
@[simp] theorem modSeq_clk (s : State) (f : Seq → Seq) : (modSeq s f).clk = s.clk := rfl
@[simp] theorem modSeq_pwr (s : State) (f : Seq → Seq) : (modSeq s f).pwr = s.pwr := rfl
@[simp] theorem modSeq_reed (s : State) (f : Seq → Seq) : (modSeq s f).reed = s.reed := rfl
@[simp] theorem modSeq_port (s : State) (f : Seq → Seq) : (modSeq s f).port = s.port := rfl
@[simp] theorem modSeq_uart (s : State) (f : Seq → Seq) : (modSeq s f).uart = s.uart := rfl
@[simp] theorem modSeq_usb (s : State) (f : Seq → Seq) : (modSeq s f).usb = s.usb := rfl
@[simp] theorem modSeq_net (s : State) (f : Seq → Seq) : (modSeq s f).net = s.net := rfl
@[simp] theorem modSeq_ctxs (s : State) (f : Seq → Seq) : (modSeq s f).ctxs = s.ctxs := rfl
@[simp] theorem modSeq_params (s : State) (f : Seq → Seq) : (modSeq s f).params = s.params := rfl
@[simp] theorem modSeq_nvm (s : State) (f : Seq → Seq) : (modSeq s f).nvm = s.nvm := rfl
@[simp] theorem modSeq_log (s : State) (f : Seq → Seq) : (modSeq s f).log = s.log := rfl
@[simp] theorem modSeq_jobs (s : State) (f : Seq → Seq) : (modSeq s f).jobs = s.jobs := rfl
@[simp] theorem modSeq_saf (s : State) (f : Seq → Seq) : (modSeq s f).saf = s.saf := rfl
@[simp] theorem modSeq_fife (s : State) (f : Seq → Seq) : (modSeq s f).fife = s.fife := rfl
@[simp] theorem modSeq_motion (s : State) (f : Seq → Seq) : (modSeq s f).motion = s.motion := rfl
@[simp] theorem modSeq_noz (s : State) (f : Seq → Seq) : (modSeq s f).noz = s.noz := rfl
@[simp] theorem modSeq_hub (s : State) (f : Seq → Seq) : (modSeq s f).hub = s.hub := rfl
@[simp] theorem modSeq_cal (s : State) (f : Seq → Seq) : (modSeq s f).cal = s.cal := rfl
@[simp] theorem modSeq_seq (s : State) (f : Seq → Seq) : (modSeq s f).seq = f s.seq := rfl
@[simp] theorem modSeq_otp (s : State) (f : Seq → Seq) : (modSeq s f).otp = s.otp := rfl
@[simp] theorem modSeq_dbg (s : State) (f : Seq → Seq) : (modSeq s f).dbg = s.dbg := rfl
@[simp] theorem modSeq_cvu (s : State) (f : Seq → Seq) : (modSeq s f).cvu = s.cvu := rfl
@[simp] theorem modSeq_pending (s : State) (f : Seq → Seq) : (modSeq s f).pending = s.pending := rfl

/-! `modCvu` -/

@[simp] theorem modCvu_rst (s : State) (f : Cvu → Cvu) : (modCvu s f).rst = s.rst := rfl
@[simp] theorem modCvu_clk (s : State) (f : Cvu → Cvu) : (modCvu s f).clk = s.clk := rfl
@[simp] theorem modCvu_pwr (s : State) (f : Cvu → Cvu) : (modCvu s f).pwr = s.pwr := rfl
@[simp] theorem modCvu_reed (s : State) (f : Cvu → Cvu) : (modCvu s f).reed = s.reed := rfl
@[simp] theorem modCvu_port (s : State) (f : Cvu → Cvu) : (modCvu s f).port = s.port := rfl
@[simp] theorem modCvu_uart (s : State) (f : Cvu → Cvu) : (modCvu s f).uart = s.uart := rfl
@[simp] theorem modCvu_usb (s : State) (f : Cvu → Cvu) : (modCvu s f).usb = s.usb := rfl
@[simp] theorem modCvu_net (s : State) (f : Cvu → Cvu) : (modCvu s f).net = s.net := rfl
@[simp] theorem modCvu_ctxs (s : State) (f : Cvu → Cvu) : (modCvu s f).ctxs = s.ctxs := rfl
@[simp] theorem modCvu_params (s : State) (f : Cvu → Cvu) : (modCvu s f).params = s.params := rfl
@[simp] theorem modCvu_nvm (s : State) (f : Cvu → Cvu) : (modCvu s f).nvm = s.nvm := rfl
@[simp] theorem modCvu_log (s : State) (f : Cvu → Cvu) : (modCvu s f).log = s.log := rfl
@[simp] theorem modCvu_jobs (s : State) (f : Cvu → Cvu) : (modCvu s f).jobs = s.jobs := rfl
@[simp] theorem modCvu_saf (s : State) (f : Cvu → Cvu) : (modCvu s f).saf = s.saf := rfl
@[simp] theorem modCvu_fife (s : State) (f : Cvu → Cvu) : (modCvu s f).fife = s.fife := rfl
@[simp] theorem modCvu_motion (s : State) (f : Cvu → Cvu) : (modCvu s f).motion = s.motion := rfl
@[simp] theorem modCvu_noz (s : State) (f : Cvu → Cvu) : (modCvu s f).noz = s.noz := rfl
@[simp] theorem modCvu_hub (s : State) (f : Cvu → Cvu) : (modCvu s f).hub = s.hub := rfl
@[simp] theorem modCvu_cal (s : State) (f : Cvu → Cvu) : (modCvu s f).cal = s.cal := rfl
@[simp] theorem modCvu_seq (s : State) (f : Cvu → Cvu) : (modCvu s f).seq = s.seq := rfl
@[simp] theorem modCvu_otp (s : State) (f : Cvu → Cvu) : (modCvu s f).otp = s.otp := rfl
@[simp] theorem modCvu_dbg (s : State) (f : Cvu → Cvu) : (modCvu s f).dbg = s.dbg := rfl
@[simp] theorem modCvu_cvu (s : State) (f : Cvu → Cvu) : (modCvu s f).cvu = f s.cvu := rfl
@[simp] theorem modCvu_pending (s : State) (f : Cvu → Cvu) : (modCvu s f).pending = s.pending := rfl

/-! `setUsb` -/

@[simp] theorem setUsb_rst (s : State) (f : Usb → Usb) : (setUsb s f).rst = s.rst := rfl
@[simp] theorem setUsb_clk (s : State) (f : Usb → Usb) : (setUsb s f).clk = s.clk := rfl
@[simp] theorem setUsb_pwr (s : State) (f : Usb → Usb) : (setUsb s f).pwr = s.pwr := rfl
@[simp] theorem setUsb_reed (s : State) (f : Usb → Usb) : (setUsb s f).reed = s.reed := rfl
@[simp] theorem setUsb_port (s : State) (f : Usb → Usb) : (setUsb s f).port = s.port := rfl
@[simp] theorem setUsb_uart (s : State) (f : Usb → Usb) : (setUsb s f).uart = s.uart := rfl
@[simp] theorem setUsb_usb (s : State) (f : Usb → Usb) : (setUsb s f).usb = f s.usb := rfl
@[simp] theorem setUsb_net (s : State) (f : Usb → Usb) : (setUsb s f).net = s.net := rfl
@[simp] theorem setUsb_ctxs (s : State) (f : Usb → Usb) : (setUsb s f).ctxs = s.ctxs := rfl
@[simp] theorem setUsb_params (s : State) (f : Usb → Usb) : (setUsb s f).params = s.params := rfl
@[simp] theorem setUsb_nvm (s : State) (f : Usb → Usb) : (setUsb s f).nvm = s.nvm := rfl
@[simp] theorem setUsb_log (s : State) (f : Usb → Usb) : (setUsb s f).log = s.log := rfl
@[simp] theorem setUsb_jobs (s : State) (f : Usb → Usb) : (setUsb s f).jobs = s.jobs := rfl
@[simp] theorem setUsb_saf (s : State) (f : Usb → Usb) : (setUsb s f).saf = s.saf := rfl
@[simp] theorem setUsb_fife (s : State) (f : Usb → Usb) : (setUsb s f).fife = s.fife := rfl
@[simp] theorem setUsb_motion (s : State) (f : Usb → Usb) : (setUsb s f).motion = s.motion := rfl
@[simp] theorem setUsb_noz (s : State) (f : Usb → Usb) : (setUsb s f).noz = s.noz := rfl
@[simp] theorem setUsb_hub (s : State) (f : Usb → Usb) : (setUsb s f).hub = s.hub := rfl
@[simp] theorem setUsb_cal (s : State) (f : Usb → Usb) : (setUsb s f).cal = s.cal := rfl
@[simp] theorem setUsb_seq (s : State) (f : Usb → Usb) : (setUsb s f).seq = s.seq := rfl
@[simp] theorem setUsb_otp (s : State) (f : Usb → Usb) : (setUsb s f).otp = s.otp := rfl
@[simp] theorem setUsb_dbg (s : State) (f : Usb → Usb) : (setUsb s f).dbg = s.dbg := rfl
@[simp] theorem setUsb_cvu (s : State) (f : Usb → Usb) : (setUsb s f).cvu = s.cvu := rfl
@[simp] theorem setUsb_pending (s : State) (f : Usb → Usb) : (setUsb s f).pending = s.pending := rfl

/-! `setPort` -/

@[simp] theorem setPort_rst (s : State) (f : HostPort → HostPort) : (setPort s f).rst = s.rst := rfl
@[simp] theorem setPort_clk (s : State) (f : HostPort → HostPort) : (setPort s f).clk = s.clk := rfl
@[simp] theorem setPort_pwr (s : State) (f : HostPort → HostPort) : (setPort s f).pwr = s.pwr := rfl
@[simp] theorem setPort_reed (s : State) (f : HostPort → HostPort) : (setPort s f).reed = s.reed := rfl
@[simp] theorem setPort_port (s : State) (f : HostPort → HostPort) : (setPort s f).port = f s.port := rfl
@[simp] theorem setPort_uart (s : State) (f : HostPort → HostPort) : (setPort s f).uart = s.uart := rfl
@[simp] theorem setPort_usb (s : State) (f : HostPort → HostPort) : (setPort s f).usb = s.usb := rfl
@[simp] theorem setPort_net (s : State) (f : HostPort → HostPort) : (setPort s f).net = s.net := rfl
@[simp] theorem setPort_ctxs (s : State) (f : HostPort → HostPort) : (setPort s f).ctxs = s.ctxs := rfl
@[simp] theorem setPort_params (s : State) (f : HostPort → HostPort) : (setPort s f).params = s.params := rfl
@[simp] theorem setPort_nvm (s : State) (f : HostPort → HostPort) : (setPort s f).nvm = s.nvm := rfl
@[simp] theorem setPort_log (s : State) (f : HostPort → HostPort) : (setPort s f).log = s.log := rfl
@[simp] theorem setPort_jobs (s : State) (f : HostPort → HostPort) : (setPort s f).jobs = s.jobs := rfl
@[simp] theorem setPort_saf (s : State) (f : HostPort → HostPort) : (setPort s f).saf = s.saf := rfl
@[simp] theorem setPort_fife (s : State) (f : HostPort → HostPort) : (setPort s f).fife = s.fife := rfl
@[simp] theorem setPort_motion (s : State) (f : HostPort → HostPort) : (setPort s f).motion = s.motion := rfl
@[simp] theorem setPort_noz (s : State) (f : HostPort → HostPort) : (setPort s f).noz = s.noz := rfl
@[simp] theorem setPort_hub (s : State) (f : HostPort → HostPort) : (setPort s f).hub = s.hub := rfl
@[simp] theorem setPort_cal (s : State) (f : HostPort → HostPort) : (setPort s f).cal = s.cal := rfl
@[simp] theorem setPort_seq (s : State) (f : HostPort → HostPort) : (setPort s f).seq = s.seq := rfl
@[simp] theorem setPort_otp (s : State) (f : HostPort → HostPort) : (setPort s f).otp = s.otp := rfl
@[simp] theorem setPort_dbg (s : State) (f : HostPort → HostPort) : (setPort s f).dbg = s.dbg := rfl
@[simp] theorem setPort_cvu (s : State) (f : HostPort → HostPort) : (setPort s f).cvu = s.cvu := rfl
@[simp] theorem setPort_pending (s : State) (f : HostPort → HostPort) : (setPort s f).pending = s.pending := rfl

/-! `setNet` -/

@[simp] theorem setNet_rst (s : State) (f : Net → Net) : (setNet s f).rst = s.rst := rfl
@[simp] theorem setNet_clk (s : State) (f : Net → Net) : (setNet s f).clk = s.clk := rfl
@[simp] theorem setNet_pwr (s : State) (f : Net → Net) : (setNet s f).pwr = s.pwr := rfl
@[simp] theorem setNet_reed (s : State) (f : Net → Net) : (setNet s f).reed = s.reed := rfl
@[simp] theorem setNet_port (s : State) (f : Net → Net) : (setNet s f).port = s.port := rfl
@[simp] theorem setNet_uart (s : State) (f : Net → Net) : (setNet s f).uart = s.uart := rfl
@[simp] theorem setNet_usb (s : State) (f : Net → Net) : (setNet s f).usb = s.usb := rfl
@[simp] theorem setNet_net (s : State) (f : Net → Net) : (setNet s f).net = f s.net := rfl
@[simp] theorem setNet_ctxs (s : State) (f : Net → Net) : (setNet s f).ctxs = s.ctxs := rfl
@[simp] theorem setNet_params (s : State) (f : Net → Net) : (setNet s f).params = s.params := rfl
@[simp] theorem setNet_nvm (s : State) (f : Net → Net) : (setNet s f).nvm = s.nvm := rfl
@[simp] theorem setNet_log (s : State) (f : Net → Net) : (setNet s f).log = s.log := rfl
@[simp] theorem setNet_jobs (s : State) (f : Net → Net) : (setNet s f).jobs = s.jobs := rfl
@[simp] theorem setNet_saf (s : State) (f : Net → Net) : (setNet s f).saf = s.saf := rfl
@[simp] theorem setNet_fife (s : State) (f : Net → Net) : (setNet s f).fife = s.fife := rfl
@[simp] theorem setNet_motion (s : State) (f : Net → Net) : (setNet s f).motion = s.motion := rfl
@[simp] theorem setNet_noz (s : State) (f : Net → Net) : (setNet s f).noz = s.noz := rfl
@[simp] theorem setNet_hub (s : State) (f : Net → Net) : (setNet s f).hub = s.hub := rfl
@[simp] theorem setNet_cal (s : State) (f : Net → Net) : (setNet s f).cal = s.cal := rfl
@[simp] theorem setNet_seq (s : State) (f : Net → Net) : (setNet s f).seq = s.seq := rfl
@[simp] theorem setNet_otp (s : State) (f : Net → Net) : (setNet s f).otp = s.otp := rfl
@[simp] theorem setNet_dbg (s : State) (f : Net → Net) : (setNet s f).dbg = s.dbg := rfl
@[simp] theorem setNet_cvu (s : State) (f : Net → Net) : (setNet s f).cvu = s.cvu := rfl
@[simp] theorem setNet_pending (s : State) (f : Net → Net) : (setNet s f).pending = s.pending := rfl

/-! `setHub` -/

@[simp] theorem setHub_rst (s : State) (f : Hub → Hub) : (setHub s f).rst = s.rst := rfl
@[simp] theorem setHub_clk (s : State) (f : Hub → Hub) : (setHub s f).clk = s.clk := rfl
@[simp] theorem setHub_pwr (s : State) (f : Hub → Hub) : (setHub s f).pwr = s.pwr := rfl
@[simp] theorem setHub_reed (s : State) (f : Hub → Hub) : (setHub s f).reed = s.reed := rfl
@[simp] theorem setHub_port (s : State) (f : Hub → Hub) : (setHub s f).port = s.port := rfl
@[simp] theorem setHub_uart (s : State) (f : Hub → Hub) : (setHub s f).uart = s.uart := rfl
@[simp] theorem setHub_usb (s : State) (f : Hub → Hub) : (setHub s f).usb = s.usb := rfl
@[simp] theorem setHub_net (s : State) (f : Hub → Hub) : (setHub s f).net = s.net := rfl
@[simp] theorem setHub_ctxs (s : State) (f : Hub → Hub) : (setHub s f).ctxs = s.ctxs := rfl
@[simp] theorem setHub_params (s : State) (f : Hub → Hub) : (setHub s f).params = s.params := rfl
@[simp] theorem setHub_nvm (s : State) (f : Hub → Hub) : (setHub s f).nvm = s.nvm := rfl
@[simp] theorem setHub_log (s : State) (f : Hub → Hub) : (setHub s f).log = s.log := rfl
@[simp] theorem setHub_jobs (s : State) (f : Hub → Hub) : (setHub s f).jobs = s.jobs := rfl
@[simp] theorem setHub_saf (s : State) (f : Hub → Hub) : (setHub s f).saf = s.saf := rfl
@[simp] theorem setHub_fife (s : State) (f : Hub → Hub) : (setHub s f).fife = s.fife := rfl
@[simp] theorem setHub_motion (s : State) (f : Hub → Hub) : (setHub s f).motion = s.motion := rfl
@[simp] theorem setHub_noz (s : State) (f : Hub → Hub) : (setHub s f).noz = s.noz := rfl
@[simp] theorem setHub_hub (s : State) (f : Hub → Hub) : (setHub s f).hub = f s.hub := rfl
@[simp] theorem setHub_cal (s : State) (f : Hub → Hub) : (setHub s f).cal = s.cal := rfl
@[simp] theorem setHub_seq (s : State) (f : Hub → Hub) : (setHub s f).seq = s.seq := rfl
@[simp] theorem setHub_otp (s : State) (f : Hub → Hub) : (setHub s f).otp = s.otp := rfl
@[simp] theorem setHub_dbg (s : State) (f : Hub → Hub) : (setHub s f).dbg = s.dbg := rfl
@[simp] theorem setHub_cvu (s : State) (f : Hub → Hub) : (setHub s f).cvu = s.cvu := rfl
@[simp] theorem setHub_pending (s : State) (f : Hub → Hub) : (setHub s f).pending = s.pending := rfl

/-! `setDbg` -/

@[simp] theorem setDbg_rst (s : State) (f : Dbg → Dbg) : (setDbg s f).rst = s.rst := rfl
@[simp] theorem setDbg_clk (s : State) (f : Dbg → Dbg) : (setDbg s f).clk = s.clk := rfl
@[simp] theorem setDbg_pwr (s : State) (f : Dbg → Dbg) : (setDbg s f).pwr = s.pwr := rfl
@[simp] theorem setDbg_reed (s : State) (f : Dbg → Dbg) : (setDbg s f).reed = s.reed := rfl
@[simp] theorem setDbg_port (s : State) (f : Dbg → Dbg) : (setDbg s f).port = s.port := rfl
@[simp] theorem setDbg_uart (s : State) (f : Dbg → Dbg) : (setDbg s f).uart = s.uart := rfl
@[simp] theorem setDbg_usb (s : State) (f : Dbg → Dbg) : (setDbg s f).usb = s.usb := rfl
@[simp] theorem setDbg_net (s : State) (f : Dbg → Dbg) : (setDbg s f).net = s.net := rfl
@[simp] theorem setDbg_ctxs (s : State) (f : Dbg → Dbg) : (setDbg s f).ctxs = s.ctxs := rfl
@[simp] theorem setDbg_params (s : State) (f : Dbg → Dbg) : (setDbg s f).params = s.params := rfl
@[simp] theorem setDbg_nvm (s : State) (f : Dbg → Dbg) : (setDbg s f).nvm = s.nvm := rfl
@[simp] theorem setDbg_log (s : State) (f : Dbg → Dbg) : (setDbg s f).log = s.log := rfl
@[simp] theorem setDbg_jobs (s : State) (f : Dbg → Dbg) : (setDbg s f).jobs = s.jobs := rfl
@[simp] theorem setDbg_saf (s : State) (f : Dbg → Dbg) : (setDbg s f).saf = s.saf := rfl
@[simp] theorem setDbg_fife (s : State) (f : Dbg → Dbg) : (setDbg s f).fife = s.fife := rfl
@[simp] theorem setDbg_motion (s : State) (f : Dbg → Dbg) : (setDbg s f).motion = s.motion := rfl
@[simp] theorem setDbg_noz (s : State) (f : Dbg → Dbg) : (setDbg s f).noz = s.noz := rfl
@[simp] theorem setDbg_hub (s : State) (f : Dbg → Dbg) : (setDbg s f).hub = s.hub := rfl
@[simp] theorem setDbg_cal (s : State) (f : Dbg → Dbg) : (setDbg s f).cal = s.cal := rfl
@[simp] theorem setDbg_seq (s : State) (f : Dbg → Dbg) : (setDbg s f).seq = s.seq := rfl
@[simp] theorem setDbg_otp (s : State) (f : Dbg → Dbg) : (setDbg s f).otp = s.otp := rfl
@[simp] theorem setDbg_dbg (s : State) (f : Dbg → Dbg) : (setDbg s f).dbg = f s.dbg := rfl
@[simp] theorem setDbg_cvu (s : State) (f : Dbg → Dbg) : (setDbg s f).cvu = s.cvu := rfl
@[simp] theorem setDbg_pending (s : State) (f : Dbg → Dbg) : (setDbg s f).pending = s.pending := rfl

/-! `modCtx` -/

@[simp] theorem modCtx_rst (s : State) (c : Nat) (f : Ctx → Ctx) : (modCtx s c f).rst = s.rst := rfl
@[simp] theorem modCtx_clk (s : State) (c : Nat) (f : Ctx → Ctx) : (modCtx s c f).clk = s.clk := rfl
@[simp] theorem modCtx_pwr (s : State) (c : Nat) (f : Ctx → Ctx) : (modCtx s c f).pwr = s.pwr := rfl
@[simp] theorem modCtx_reed (s : State) (c : Nat) (f : Ctx → Ctx) : (modCtx s c f).reed = s.reed := rfl
@[simp] theorem modCtx_port (s : State) (c : Nat) (f : Ctx → Ctx) : (modCtx s c f).port = s.port := rfl
@[simp] theorem modCtx_uart (s : State) (c : Nat) (f : Ctx → Ctx) : (modCtx s c f).uart = s.uart := rfl
@[simp] theorem modCtx_usb (s : State) (c : Nat) (f : Ctx → Ctx) : (modCtx s c f).usb = s.usb := rfl
@[simp] theorem modCtx_net (s : State) (c : Nat) (f : Ctx → Ctx) : (modCtx s c f).net = s.net := rfl
@[simp] theorem modCtx_ctxs (s : State) (c : Nat) (f : Ctx → Ctx) : (modCtx s c f).ctxs = modAt s.ctxs c f := rfl
@[simp] theorem modCtx_params (s : State) (c : Nat) (f : Ctx → Ctx) : (modCtx s c f).params = s.params := rfl
@[simp] theorem modCtx_nvm (s : State) (c : Nat) (f : Ctx → Ctx) : (modCtx s c f).nvm = s.nvm := rfl
@[simp] theorem modCtx_log (s : State) (c : Nat) (f : Ctx → Ctx) : (modCtx s c f).log = s.log := rfl
@[simp] theorem modCtx_jobs (s : State) (c : Nat) (f : Ctx → Ctx) : (modCtx s c f).jobs = s.jobs := rfl
@[simp] theorem modCtx_saf (s : State) (c : Nat) (f : Ctx → Ctx) : (modCtx s c f).saf = s.saf := rfl
@[simp] theorem modCtx_fife (s : State) (c : Nat) (f : Ctx → Ctx) : (modCtx s c f).fife = s.fife := rfl
@[simp] theorem modCtx_motion (s : State) (c : Nat) (f : Ctx → Ctx) : (modCtx s c f).motion = s.motion := rfl
@[simp] theorem modCtx_noz (s : State) (c : Nat) (f : Ctx → Ctx) : (modCtx s c f).noz = s.noz := rfl
@[simp] theorem modCtx_hub (s : State) (c : Nat) (f : Ctx → Ctx) : (modCtx s c f).hub = s.hub := rfl
@[simp] theorem modCtx_cal (s : State) (c : Nat) (f : Ctx → Ctx) : (modCtx s c f).cal = s.cal := rfl
@[simp] theorem modCtx_seq (s : State) (c : Nat) (f : Ctx → Ctx) : (modCtx s c f).seq = s.seq := rfl
@[simp] theorem modCtx_otp (s : State) (c : Nat) (f : Ctx → Ctx) : (modCtx s c f).otp = s.otp := rfl
@[simp] theorem modCtx_dbg (s : State) (c : Nat) (f : Ctx → Ctx) : (modCtx s c f).dbg = s.dbg := rfl
@[simp] theorem modCtx_cvu (s : State) (c : Nat) (f : Ctx → Ctx) : (modCtx s c f).cvu = s.cvu := rfl
@[simp] theorem modCtx_pending (s : State) (c : Nat) (f : Ctx → Ctx) : (modCtx s c f).pending = s.pending := rfl

/-! `modJob` -/

@[simp] theorem modJob_rst (s : State) (id : Nat) (f : Job → Job) : (modJob s id f).rst = s.rst := rfl
@[simp] theorem modJob_clk (s : State) (id : Nat) (f : Job → Job) : (modJob s id f).clk = s.clk := rfl
@[simp] theorem modJob_pwr (s : State) (id : Nat) (f : Job → Job) : (modJob s id f).pwr = s.pwr := rfl
@[simp] theorem modJob_reed (s : State) (id : Nat) (f : Job → Job) : (modJob s id f).reed = s.reed := rfl
@[simp] theorem modJob_port (s : State) (id : Nat) (f : Job → Job) : (modJob s id f).port = s.port := rfl
@[simp] theorem modJob_uart (s : State) (id : Nat) (f : Job → Job) : (modJob s id f).uart = s.uart := rfl
@[simp] theorem modJob_usb (s : State) (id : Nat) (f : Job → Job) : (modJob s id f).usb = s.usb := rfl
@[simp] theorem modJob_net (s : State) (id : Nat) (f : Job → Job) : (modJob s id f).net = s.net := rfl
@[simp] theorem modJob_ctxs (s : State) (id : Nat) (f : Job → Job) : (modJob s id f).ctxs = s.ctxs := rfl
@[simp] theorem modJob_params (s : State) (id : Nat) (f : Job → Job) : (modJob s id f).params = s.params := rfl
@[simp] theorem modJob_nvm (s : State) (id : Nat) (f : Job → Job) : (modJob s id f).nvm = s.nvm := rfl
@[simp] theorem modJob_log (s : State) (id : Nat) (f : Job → Job) : (modJob s id f).log = s.log := rfl
@[simp] theorem modJob_saf (s : State) (id : Nat) (f : Job → Job) : (modJob s id f).saf = s.saf := rfl
@[simp] theorem modJob_fife (s : State) (id : Nat) (f : Job → Job) : (modJob s id f).fife = s.fife := rfl
@[simp] theorem modJob_motion (s : State) (id : Nat) (f : Job → Job) : (modJob s id f).motion = s.motion := rfl
@[simp] theorem modJob_noz (s : State) (id : Nat) (f : Job → Job) : (modJob s id f).noz = s.noz := rfl
@[simp] theorem modJob_hub (s : State) (id : Nat) (f : Job → Job) : (modJob s id f).hub = s.hub := rfl
@[simp] theorem modJob_cal (s : State) (id : Nat) (f : Job → Job) : (modJob s id f).cal = s.cal := rfl
@[simp] theorem modJob_seq (s : State) (id : Nat) (f : Job → Job) : (modJob s id f).seq = s.seq := rfl
@[simp] theorem modJob_otp (s : State) (id : Nat) (f : Job → Job) : (modJob s id f).otp = s.otp := rfl
@[simp] theorem modJob_dbg (s : State) (id : Nat) (f : Job → Job) : (modJob s id f).dbg = s.dbg := rfl
@[simp] theorem modJob_cvu (s : State) (id : Nat) (f : Job → Job) : (modJob s id f).cvu = s.cvu := rfl
@[simp] theorem modJob_pending (s : State) (id : Nat) (f : Job → Job) : (modJob s id f).pending = s.pending := rfl

/-! `setHold` -/

@[simp] theorem setHold_rst (s : State) (id : Nat) (h : Half) : (setHold s id h).rst = s.rst := rfl
@[simp] theorem setHold_clk (s : State) (id : Nat) (h : Half) : (setHold s id h).clk = s.clk := rfl
@[simp] theorem setHold_pwr (s : State) (id : Nat) (h : Half) : (setHold s id h).pwr = s.pwr := rfl
@[simp] theorem setHold_reed (s : State) (id : Nat) (h : Half) : (setHold s id h).reed = s.reed := rfl
@[simp] theorem setHold_port (s : State) (id : Nat) (h : Half) : (setHold s id h).port = s.port := rfl
@[simp] theorem setHold_uart (s : State) (id : Nat) (h : Half) : (setHold s id h).uart = s.uart := rfl
@[simp] theorem setHold_usb (s : State) (id : Nat) (h : Half) : (setHold s id h).usb = s.usb := rfl
@[simp] theorem setHold_net (s : State) (id : Nat) (h : Half) : (setHold s id h).net = s.net := rfl
@[simp] theorem setHold_ctxs (s : State) (id : Nat) (h : Half) : (setHold s id h).ctxs = s.ctxs := rfl
@[simp] theorem setHold_params (s : State) (id : Nat) (h : Half) : (setHold s id h).params = s.params := rfl
@[simp] theorem setHold_nvm (s : State) (id : Nat) (h : Half) : (setHold s id h).nvm = s.nvm := rfl
@[simp] theorem setHold_log (s : State) (id : Nat) (h : Half) : (setHold s id h).log = s.log := rfl
@[simp] theorem setHold_saf (s : State) (id : Nat) (h : Half) : (setHold s id h).saf = s.saf := rfl
@[simp] theorem setHold_fife (s : State) (id : Nat) (h : Half) : (setHold s id h).fife = s.fife := rfl
@[simp] theorem setHold_motion (s : State) (id : Nat) (h : Half) : (setHold s id h).motion = s.motion := rfl
@[simp] theorem setHold_noz (s : State) (id : Nat) (h : Half) : (setHold s id h).noz = s.noz := rfl
@[simp] theorem setHold_hub (s : State) (id : Nat) (h : Half) : (setHold s id h).hub = s.hub := rfl
@[simp] theorem setHold_cal (s : State) (id : Nat) (h : Half) : (setHold s id h).cal = s.cal := rfl
@[simp] theorem setHold_seq (s : State) (id : Nat) (h : Half) : (setHold s id h).seq = s.seq := rfl
@[simp] theorem setHold_otp (s : State) (id : Nat) (h : Half) : (setHold s id h).otp = s.otp := rfl
@[simp] theorem setHold_dbg (s : State) (id : Nat) (h : Half) : (setHold s id h).dbg = s.dbg := rfl
@[simp] theorem setHold_cvu (s : State) (id : Nat) (h : Half) : (setHold s id h).cvu = s.cvu := rfl
@[simp] theorem setHold_pending (s : State) (id : Nat) (h : Half) : (setHold s id h).pending = s.pending := rfl

/-! `modEnc` -/

@[simp] theorem modEnc_rst (s : State) (n : Nat) (f : Enc → Enc) : (modEnc s n f).rst = s.rst := rfl
@[simp] theorem modEnc_clk (s : State) (n : Nat) (f : Enc → Enc) : (modEnc s n f).clk = s.clk := rfl
@[simp] theorem modEnc_pwr (s : State) (n : Nat) (f : Enc → Enc) : (modEnc s n f).pwr = s.pwr := rfl
@[simp] theorem modEnc_reed (s : State) (n : Nat) (f : Enc → Enc) : (modEnc s n f).reed = s.reed := rfl
@[simp] theorem modEnc_port (s : State) (n : Nat) (f : Enc → Enc) : (modEnc s n f).port = s.port := rfl
@[simp] theorem modEnc_uart (s : State) (n : Nat) (f : Enc → Enc) : (modEnc s n f).uart = s.uart := rfl
@[simp] theorem modEnc_usb (s : State) (n : Nat) (f : Enc → Enc) : (modEnc s n f).usb = s.usb := rfl
@[simp] theorem modEnc_net (s : State) (n : Nat) (f : Enc → Enc) : (modEnc s n f).net = s.net := rfl
@[simp] theorem modEnc_ctxs (s : State) (n : Nat) (f : Enc → Enc) : (modEnc s n f).ctxs = s.ctxs := rfl
@[simp] theorem modEnc_params (s : State) (n : Nat) (f : Enc → Enc) : (modEnc s n f).params = s.params := rfl
@[simp] theorem modEnc_nvm (s : State) (n : Nat) (f : Enc → Enc) : (modEnc s n f).nvm = s.nvm := rfl
@[simp] theorem modEnc_log (s : State) (n : Nat) (f : Enc → Enc) : (modEnc s n f).log = s.log := rfl
@[simp] theorem modEnc_jobs (s : State) (n : Nat) (f : Enc → Enc) : (modEnc s n f).jobs = s.jobs := rfl
@[simp] theorem modEnc_saf (s : State) (n : Nat) (f : Enc → Enc) : (modEnc s n f).saf = s.saf := rfl
@[simp] theorem modEnc_fife (s : State) (n : Nat) (f : Enc → Enc) : (modEnc s n f).fife = s.fife := rfl
@[simp] theorem modEnc_noz (s : State) (n : Nat) (f : Enc → Enc) : (modEnc s n f).noz = s.noz := rfl
@[simp] theorem modEnc_hub (s : State) (n : Nat) (f : Enc → Enc) : (modEnc s n f).hub = s.hub := rfl
@[simp] theorem modEnc_cal (s : State) (n : Nat) (f : Enc → Enc) : (modEnc s n f).cal = s.cal := rfl
@[simp] theorem modEnc_seq (s : State) (n : Nat) (f : Enc → Enc) : (modEnc s n f).seq = s.seq := rfl
@[simp] theorem modEnc_otp (s : State) (n : Nat) (f : Enc → Enc) : (modEnc s n f).otp = s.otp := rfl
@[simp] theorem modEnc_dbg (s : State) (n : Nat) (f : Enc → Enc) : (modEnc s n f).dbg = s.dbg := rfl
@[simp] theorem modEnc_cvu (s : State) (n : Nat) (f : Enc → Enc) : (modEnc s n f).cvu = s.cvu := rfl
@[simp] theorem modEnc_pending (s : State) (n : Nat) (f : Enc → Enc) : (modEnc s n f).pending = s.pending := rfl

/-! `countReject` -/

@[simp] theorem countReject_rst (s : State) : (countReject s).rst = s.rst := rfl
@[simp] theorem countReject_clk (s : State) : (countReject s).clk = s.clk := rfl
@[simp] theorem countReject_pwr (s : State) : (countReject s).pwr = s.pwr := rfl
@[simp] theorem countReject_reed (s : State) : (countReject s).reed = s.reed := rfl
@[simp] theorem countReject_port (s : State) : (countReject s).port = s.port := rfl
@[simp] theorem countReject_uart (s : State) : (countReject s).uart = s.uart := rfl
@[simp] theorem countReject_usb (s : State) : (countReject s).usb = s.usb := rfl
@[simp] theorem countReject_net (s : State) : (countReject s).net = s.net := rfl
@[simp] theorem countReject_ctxs (s : State) : (countReject s).ctxs = s.ctxs := rfl
@[simp] theorem countReject_params (s : State) : (countReject s).params = s.params := rfl
@[simp] theorem countReject_nvm (s : State) : (countReject s).nvm = s.nvm := rfl
@[simp] theorem countReject_log (s : State) : (countReject s).log = s.log := rfl
@[simp] theorem countReject_jobs (s : State) : (countReject s).jobs = s.jobs := rfl
@[simp] theorem countReject_saf (s : State) : (countReject s).saf = s.saf := rfl
@[simp] theorem countReject_fife (s : State) : (countReject s).fife = s.fife := rfl
@[simp] theorem countReject_noz (s : State) : (countReject s).noz = s.noz := rfl
@[simp] theorem countReject_hub (s : State) : (countReject s).hub = s.hub := rfl
@[simp] theorem countReject_cal (s : State) : (countReject s).cal = s.cal := rfl
@[simp] theorem countReject_seq (s : State) : (countReject s).seq = s.seq := rfl
@[simp] theorem countReject_otp (s : State) : (countReject s).otp = s.otp := rfl
@[simp] theorem countReject_dbg (s : State) : (countReject s).dbg = s.dbg := rfl
@[simp] theorem countReject_cvu (s : State) : (countReject s).cvu = s.cvu := rfl
@[simp] theorem countReject_pending (s : State) : (countReject s).pending = s.pending := rfl

/-! `modConn` -/

@[simp] theorem modConn_rst (s : State) (id : Nat) (f : Conn → Conn) : (modConn s id f).rst = s.rst := rfl
@[simp] theorem modConn_clk (s : State) (id : Nat) (f : Conn → Conn) : (modConn s id f).clk = s.clk := rfl
@[simp] theorem modConn_pwr (s : State) (id : Nat) (f : Conn → Conn) : (modConn s id f).pwr = s.pwr := rfl
@[simp] theorem modConn_reed (s : State) (id : Nat) (f : Conn → Conn) : (modConn s id f).reed = s.reed := rfl
@[simp] theorem modConn_port (s : State) (id : Nat) (f : Conn → Conn) : (modConn s id f).port = s.port := rfl
@[simp] theorem modConn_uart (s : State) (id : Nat) (f : Conn → Conn) : (modConn s id f).uart = s.uart := rfl
@[simp] theorem modConn_usb (s : State) (id : Nat) (f : Conn → Conn) : (modConn s id f).usb = s.usb := rfl
@[simp] theorem modConn_ctxs (s : State) (id : Nat) (f : Conn → Conn) : (modConn s id f).ctxs = s.ctxs := rfl
@[simp] theorem modConn_params (s : State) (id : Nat) (f : Conn → Conn) : (modConn s id f).params = s.params := rfl
@[simp] theorem modConn_nvm (s : State) (id : Nat) (f : Conn → Conn) : (modConn s id f).nvm = s.nvm := rfl
@[simp] theorem modConn_log (s : State) (id : Nat) (f : Conn → Conn) : (modConn s id f).log = s.log := rfl
@[simp] theorem modConn_jobs (s : State) (id : Nat) (f : Conn → Conn) : (modConn s id f).jobs = s.jobs := rfl
@[simp] theorem modConn_saf (s : State) (id : Nat) (f : Conn → Conn) : (modConn s id f).saf = s.saf := rfl
@[simp] theorem modConn_fife (s : State) (id : Nat) (f : Conn → Conn) : (modConn s id f).fife = s.fife := rfl
@[simp] theorem modConn_motion (s : State) (id : Nat) (f : Conn → Conn) : (modConn s id f).motion = s.motion := rfl
@[simp] theorem modConn_noz (s : State) (id : Nat) (f : Conn → Conn) : (modConn s id f).noz = s.noz := rfl
@[simp] theorem modConn_hub (s : State) (id : Nat) (f : Conn → Conn) : (modConn s id f).hub = s.hub := rfl
@[simp] theorem modConn_cal (s : State) (id : Nat) (f : Conn → Conn) : (modConn s id f).cal = s.cal := rfl
@[simp] theorem modConn_seq (s : State) (id : Nat) (f : Conn → Conn) : (modConn s id f).seq = s.seq := rfl
@[simp] theorem modConn_otp (s : State) (id : Nat) (f : Conn → Conn) : (modConn s id f).otp = s.otp := rfl
@[simp] theorem modConn_dbg (s : State) (id : Nat) (f : Conn → Conn) : (modConn s id f).dbg = s.dbg := rfl
@[simp] theorem modConn_cvu (s : State) (id : Nat) (f : Conn → Conn) : (modConn s id f).cvu = s.cvu := rfl
@[simp] theorem modConn_pending (s : State) (id : Nat) (f : Conn → Conn) : (modConn s id f).pending = s.pending := rfl

/-! `setIrq` -/

@[simp] theorem setIrq_rst (s : State) (bit : Nat) : (setIrq s bit).rst = s.rst := rfl
@[simp] theorem setIrq_clk (s : State) (bit : Nat) : (setIrq s bit).clk = s.clk := rfl
@[simp] theorem setIrq_pwr (s : State) (bit : Nat) : (setIrq s bit).pwr = s.pwr := rfl
@[simp] theorem setIrq_reed (s : State) (bit : Nat) : (setIrq s bit).reed = s.reed := rfl
@[simp] theorem setIrq_uart (s : State) (bit : Nat) : (setIrq s bit).uart = s.uart := rfl
@[simp] theorem setIrq_usb (s : State) (bit : Nat) : (setIrq s bit).usb = s.usb := rfl
@[simp] theorem setIrq_net (s : State) (bit : Nat) : (setIrq s bit).net = s.net := rfl
@[simp] theorem setIrq_ctxs (s : State) (bit : Nat) : (setIrq s bit).ctxs = s.ctxs := rfl
@[simp] theorem setIrq_params (s : State) (bit : Nat) : (setIrq s bit).params = s.params := rfl
@[simp] theorem setIrq_nvm (s : State) (bit : Nat) : (setIrq s bit).nvm = s.nvm := rfl
@[simp] theorem setIrq_log (s : State) (bit : Nat) : (setIrq s bit).log = s.log := rfl
@[simp] theorem setIrq_jobs (s : State) (bit : Nat) : (setIrq s bit).jobs = s.jobs := rfl
@[simp] theorem setIrq_saf (s : State) (bit : Nat) : (setIrq s bit).saf = s.saf := rfl
@[simp] theorem setIrq_fife (s : State) (bit : Nat) : (setIrq s bit).fife = s.fife := rfl
@[simp] theorem setIrq_motion (s : State) (bit : Nat) : (setIrq s bit).motion = s.motion := rfl
@[simp] theorem setIrq_noz (s : State) (bit : Nat) : (setIrq s bit).noz = s.noz := rfl
@[simp] theorem setIrq_hub (s : State) (bit : Nat) : (setIrq s bit).hub = s.hub := rfl
@[simp] theorem setIrq_cal (s : State) (bit : Nat) : (setIrq s bit).cal = s.cal := rfl
@[simp] theorem setIrq_seq (s : State) (bit : Nat) : (setIrq s bit).seq = s.seq := rfl
@[simp] theorem setIrq_otp (s : State) (bit : Nat) : (setIrq s bit).otp = s.otp := rfl
@[simp] theorem setIrq_dbg (s : State) (bit : Nat) : (setIrq s bit).dbg = s.dbg := rfl
@[simp] theorem setIrq_cvu (s : State) (bit : Nat) : (setIrq s bit).cvu = s.cvu := rfl
@[simp] theorem setIrq_pending (s : State) (bit : Nat) : (setIrq s bit).pending = s.pending := rfl

/-! `clearIrq` -/

@[simp] theorem clearIrq_rst (s : State) (v : Byte) : (clearIrq s v).rst = s.rst := rfl
@[simp] theorem clearIrq_clk (s : State) (v : Byte) : (clearIrq s v).clk = s.clk := rfl
@[simp] theorem clearIrq_pwr (s : State) (v : Byte) : (clearIrq s v).pwr = s.pwr := rfl
@[simp] theorem clearIrq_reed (s : State) (v : Byte) : (clearIrq s v).reed = s.reed := rfl
@[simp] theorem clearIrq_uart (s : State) (v : Byte) : (clearIrq s v).uart = s.uart := rfl
@[simp] theorem clearIrq_usb (s : State) (v : Byte) : (clearIrq s v).usb = s.usb := rfl
@[simp] theorem clearIrq_net (s : State) (v : Byte) : (clearIrq s v).net = s.net := rfl
@[simp] theorem clearIrq_ctxs (s : State) (v : Byte) : (clearIrq s v).ctxs = s.ctxs := rfl
@[simp] theorem clearIrq_params (s : State) (v : Byte) : (clearIrq s v).params = s.params := rfl
@[simp] theorem clearIrq_nvm (s : State) (v : Byte) : (clearIrq s v).nvm = s.nvm := rfl
@[simp] theorem clearIrq_log (s : State) (v : Byte) : (clearIrq s v).log = s.log := rfl
@[simp] theorem clearIrq_jobs (s : State) (v : Byte) : (clearIrq s v).jobs = s.jobs := rfl
@[simp] theorem clearIrq_saf (s : State) (v : Byte) : (clearIrq s v).saf = s.saf := rfl
@[simp] theorem clearIrq_fife (s : State) (v : Byte) : (clearIrq s v).fife = s.fife := rfl
@[simp] theorem clearIrq_motion (s : State) (v : Byte) : (clearIrq s v).motion = s.motion := rfl
@[simp] theorem clearIrq_noz (s : State) (v : Byte) : (clearIrq s v).noz = s.noz := rfl
@[simp] theorem clearIrq_hub (s : State) (v : Byte) : (clearIrq s v).hub = s.hub := rfl
@[simp] theorem clearIrq_cal (s : State) (v : Byte) : (clearIrq s v).cal = s.cal := rfl
@[simp] theorem clearIrq_seq (s : State) (v : Byte) : (clearIrq s v).seq = s.seq := rfl
@[simp] theorem clearIrq_otp (s : State) (v : Byte) : (clearIrq s v).otp = s.otp := rfl
@[simp] theorem clearIrq_dbg (s : State) (v : Byte) : (clearIrq s v).dbg = s.dbg := rfl
@[simp] theorem clearIrq_cvu (s : State) (v : Byte) : (clearIrq s v).cvu = s.cvu := rfl
@[simp] theorem clearIrq_pending (s : State) (v : Byte) : (clearIrq s v).pending = s.pending := rfl

/-! `countLink` -/

@[simp] theorem countLink_rst (s : State) (c : Nat) : (countLink s c).rst = s.rst := rfl
@[simp] theorem countLink_clk (s : State) (c : Nat) : (countLink s c).clk = s.clk := rfl
@[simp] theorem countLink_pwr (s : State) (c : Nat) : (countLink s c).pwr = s.pwr := rfl
@[simp] theorem countLink_reed (s : State) (c : Nat) : (countLink s c).reed = s.reed := rfl
@[simp] theorem countLink_port (s : State) (c : Nat) : (countLink s c).port = s.port := rfl
@[simp] theorem countLink_uart (s : State) (c : Nat) : (countLink s c).uart = s.uart := rfl
@[simp] theorem countLink_usb (s : State) (c : Nat) : (countLink s c).usb = s.usb := rfl
@[simp] theorem countLink_net (s : State) (c : Nat) : (countLink s c).net = s.net := rfl
@[simp] theorem countLink_params (s : State) (c : Nat) : (countLink s c).params = s.params := rfl
@[simp] theorem countLink_nvm (s : State) (c : Nat) : (countLink s c).nvm = s.nvm := rfl
@[simp] theorem countLink_log (s : State) (c : Nat) : (countLink s c).log = s.log := rfl
@[simp] theorem countLink_jobs (s : State) (c : Nat) : (countLink s c).jobs = s.jobs := rfl
@[simp] theorem countLink_saf (s : State) (c : Nat) : (countLink s c).saf = s.saf := rfl
@[simp] theorem countLink_fife (s : State) (c : Nat) : (countLink s c).fife = s.fife := rfl
@[simp] theorem countLink_motion (s : State) (c : Nat) : (countLink s c).motion = s.motion := rfl
@[simp] theorem countLink_noz (s : State) (c : Nat) : (countLink s c).noz = s.noz := rfl
@[simp] theorem countLink_hub (s : State) (c : Nat) : (countLink s c).hub = s.hub := rfl
@[simp] theorem countLink_cal (s : State) (c : Nat) : (countLink s c).cal = s.cal := rfl
@[simp] theorem countLink_seq (s : State) (c : Nat) : (countLink s c).seq = s.seq := rfl
@[simp] theorem countLink_otp (s : State) (c : Nat) : (countLink s c).otp = s.otp := rfl
@[simp] theorem countLink_dbg (s : State) (c : Nat) : (countLink s c).dbg = s.dbg := rfl
@[simp] theorem countLink_cvu (s : State) (c : Nat) : (countLink s c).cvu = s.cvu := rfl
@[simp] theorem countLink_pending (s : State) (c : Nat) : (countLink s c).pending = s.pending := rfl

/-! `setSlot` -/

@[simp] theorem setSlot_rst (s : State) (i : Nat) (f : Option FaultSlot) : (setSlot s i f).rst = s.rst := rfl
@[simp] theorem setSlot_clk (s : State) (i : Nat) (f : Option FaultSlot) : (setSlot s i f).clk = s.clk := rfl
@[simp] theorem setSlot_pwr (s : State) (i : Nat) (f : Option FaultSlot) : (setSlot s i f).pwr = s.pwr := rfl
@[simp] theorem setSlot_reed (s : State) (i : Nat) (f : Option FaultSlot) : (setSlot s i f).reed = s.reed := rfl
@[simp] theorem setSlot_port (s : State) (i : Nat) (f : Option FaultSlot) : (setSlot s i f).port = s.port := rfl
@[simp] theorem setSlot_uart (s : State) (i : Nat) (f : Option FaultSlot) : (setSlot s i f).uart = s.uart := rfl
@[simp] theorem setSlot_usb (s : State) (i : Nat) (f : Option FaultSlot) : (setSlot s i f).usb = s.usb := rfl
@[simp] theorem setSlot_net (s : State) (i : Nat) (f : Option FaultSlot) : (setSlot s i f).net = s.net := rfl
@[simp] theorem setSlot_ctxs (s : State) (i : Nat) (f : Option FaultSlot) : (setSlot s i f).ctxs = s.ctxs := rfl
@[simp] theorem setSlot_params (s : State) (i : Nat) (f : Option FaultSlot) : (setSlot s i f).params = s.params := rfl
@[simp] theorem setSlot_log (s : State) (i : Nat) (f : Option FaultSlot) : (setSlot s i f).log = s.log := rfl
@[simp] theorem setSlot_jobs (s : State) (i : Nat) (f : Option FaultSlot) : (setSlot s i f).jobs = s.jobs := rfl
@[simp] theorem setSlot_saf (s : State) (i : Nat) (f : Option FaultSlot) : (setSlot s i f).saf = s.saf := rfl
@[simp] theorem setSlot_fife (s : State) (i : Nat) (f : Option FaultSlot) : (setSlot s i f).fife = s.fife := rfl
@[simp] theorem setSlot_motion (s : State) (i : Nat) (f : Option FaultSlot) : (setSlot s i f).motion = s.motion := rfl
@[simp] theorem setSlot_noz (s : State) (i : Nat) (f : Option FaultSlot) : (setSlot s i f).noz = s.noz := rfl
@[simp] theorem setSlot_hub (s : State) (i : Nat) (f : Option FaultSlot) : (setSlot s i f).hub = s.hub := rfl
@[simp] theorem setSlot_cal (s : State) (i : Nat) (f : Option FaultSlot) : (setSlot s i f).cal = s.cal := rfl
@[simp] theorem setSlot_seq (s : State) (i : Nat) (f : Option FaultSlot) : (setSlot s i f).seq = s.seq := rfl
@[simp] theorem setSlot_otp (s : State) (i : Nat) (f : Option FaultSlot) : (setSlot s i f).otp = s.otp := rfl
@[simp] theorem setSlot_dbg (s : State) (i : Nat) (f : Option FaultSlot) : (setSlot s i f).dbg = s.dbg := rfl
@[simp] theorem setSlot_cvu (s : State) (i : Nat) (f : Option FaultSlot) : (setSlot s i f).cvu = s.cvu := rfl
@[simp] theorem setSlot_pending (s : State) (i : Nat) (f : Option FaultSlot) : (setSlot s i f).pending = s.pending := rfl

/-! `bumpRecSeq` -/

@[simp] theorem bumpRecSeq_rst (s : State) : (bumpRecSeq s).rst = s.rst := rfl
@[simp] theorem bumpRecSeq_clk (s : State) : (bumpRecSeq s).clk = s.clk := rfl
@[simp] theorem bumpRecSeq_pwr (s : State) : (bumpRecSeq s).pwr = s.pwr := rfl
@[simp] theorem bumpRecSeq_reed (s : State) : (bumpRecSeq s).reed = s.reed := rfl
@[simp] theorem bumpRecSeq_port (s : State) : (bumpRecSeq s).port = s.port := rfl
@[simp] theorem bumpRecSeq_uart (s : State) : (bumpRecSeq s).uart = s.uart := rfl
@[simp] theorem bumpRecSeq_usb (s : State) : (bumpRecSeq s).usb = s.usb := rfl
@[simp] theorem bumpRecSeq_net (s : State) : (bumpRecSeq s).net = s.net := rfl
@[simp] theorem bumpRecSeq_ctxs (s : State) : (bumpRecSeq s).ctxs = s.ctxs := rfl
@[simp] theorem bumpRecSeq_params (s : State) : (bumpRecSeq s).params = s.params := rfl
@[simp] theorem bumpRecSeq_nvm (s : State) : (bumpRecSeq s).nvm = s.nvm := rfl
@[simp] theorem bumpRecSeq_log (s : State) : (bumpRecSeq s).log = s.log := rfl
@[simp] theorem bumpRecSeq_jobs (s : State) : (bumpRecSeq s).jobs = s.jobs := rfl
@[simp] theorem bumpRecSeq_saf (s : State) : (bumpRecSeq s).saf = s.saf := rfl
@[simp] theorem bumpRecSeq_fife (s : State) : (bumpRecSeq s).fife = s.fife := rfl
@[simp] theorem bumpRecSeq_motion (s : State) : (bumpRecSeq s).motion = s.motion := rfl
@[simp] theorem bumpRecSeq_noz (s : State) : (bumpRecSeq s).noz = s.noz := rfl
@[simp] theorem bumpRecSeq_hub (s : State) : (bumpRecSeq s).hub = s.hub := rfl
@[simp] theorem bumpRecSeq_cal (s : State) : (bumpRecSeq s).cal = s.cal := rfl
@[simp] theorem bumpRecSeq_otp (s : State) : (bumpRecSeq s).otp = s.otp := rfl
@[simp] theorem bumpRecSeq_dbg (s : State) : (bumpRecSeq s).dbg = s.dbg := rfl
@[simp] theorem bumpRecSeq_cvu (s : State) : (bumpRecSeq s).cvu = s.cvu := rfl
@[simp] theorem bumpRecSeq_pending (s : State) : (bumpRecSeq s).pending = s.pending := rfl

/-! `bumpLost` -/

@[simp] theorem bumpLost_rst (s : State) : (bumpLost s).rst = s.rst := rfl
@[simp] theorem bumpLost_clk (s : State) : (bumpLost s).clk = s.clk := rfl
@[simp] theorem bumpLost_pwr (s : State) : (bumpLost s).pwr = s.pwr := rfl
@[simp] theorem bumpLost_reed (s : State) : (bumpLost s).reed = s.reed := rfl
@[simp] theorem bumpLost_port (s : State) : (bumpLost s).port = s.port := rfl
@[simp] theorem bumpLost_uart (s : State) : (bumpLost s).uart = s.uart := rfl
@[simp] theorem bumpLost_usb (s : State) : (bumpLost s).usb = s.usb := rfl
@[simp] theorem bumpLost_net (s : State) : (bumpLost s).net = s.net := rfl
@[simp] theorem bumpLost_ctxs (s : State) : (bumpLost s).ctxs = s.ctxs := rfl
@[simp] theorem bumpLost_params (s : State) : (bumpLost s).params = s.params := rfl
@[simp] theorem bumpLost_nvm (s : State) : (bumpLost s).nvm = s.nvm := rfl
@[simp] theorem bumpLost_log (s : State) : (bumpLost s).log = s.log := rfl
@[simp] theorem bumpLost_jobs (s : State) : (bumpLost s).jobs = s.jobs := rfl
@[simp] theorem bumpLost_saf (s : State) : (bumpLost s).saf = s.saf := rfl
@[simp] theorem bumpLost_fife (s : State) : (bumpLost s).fife = s.fife := rfl
@[simp] theorem bumpLost_motion (s : State) : (bumpLost s).motion = s.motion := rfl
@[simp] theorem bumpLost_noz (s : State) : (bumpLost s).noz = s.noz := rfl
@[simp] theorem bumpLost_hub (s : State) : (bumpLost s).hub = s.hub := rfl
@[simp] theorem bumpLost_cal (s : State) : (bumpLost s).cal = s.cal := rfl
@[simp] theorem bumpLost_otp (s : State) : (bumpLost s).otp = s.otp := rfl
@[simp] theorem bumpLost_dbg (s : State) : (bumpLost s).dbg = s.dbg := rfl
@[simp] theorem bumpLost_cvu (s : State) : (bumpLost s).cvu = s.cvu := rfl
@[simp] theorem bumpLost_pending (s : State) : (bumpLost s).pending = s.pending := rfl

/-! `modSlotRun` -/

@[simp] theorem modSlotRun_rst (s : State) (n : Nat) (f : SlotRun → SlotRun) : (modSlotRun s n f).rst = s.rst := rfl
@[simp] theorem modSlotRun_clk (s : State) (n : Nat) (f : SlotRun → SlotRun) : (modSlotRun s n f).clk = s.clk := rfl
@[simp] theorem modSlotRun_pwr (s : State) (n : Nat) (f : SlotRun → SlotRun) : (modSlotRun s n f).pwr = s.pwr := rfl
@[simp] theorem modSlotRun_reed (s : State) (n : Nat) (f : SlotRun → SlotRun) : (modSlotRun s n f).reed = s.reed := rfl
@[simp] theorem modSlotRun_port (s : State) (n : Nat) (f : SlotRun → SlotRun) : (modSlotRun s n f).port = s.port := rfl
@[simp] theorem modSlotRun_uart (s : State) (n : Nat) (f : SlotRun → SlotRun) : (modSlotRun s n f).uart = s.uart := rfl
@[simp] theorem modSlotRun_usb (s : State) (n : Nat) (f : SlotRun → SlotRun) : (modSlotRun s n f).usb = s.usb := rfl
@[simp] theorem modSlotRun_net (s : State) (n : Nat) (f : SlotRun → SlotRun) : (modSlotRun s n f).net = s.net := rfl
@[simp] theorem modSlotRun_ctxs (s : State) (n : Nat) (f : SlotRun → SlotRun) : (modSlotRun s n f).ctxs = s.ctxs := rfl
@[simp] theorem modSlotRun_params (s : State) (n : Nat) (f : SlotRun → SlotRun) : (modSlotRun s n f).params = s.params := rfl
@[simp] theorem modSlotRun_nvm (s : State) (n : Nat) (f : SlotRun → SlotRun) : (modSlotRun s n f).nvm = s.nvm := rfl
@[simp] theorem modSlotRun_log (s : State) (n : Nat) (f : SlotRun → SlotRun) : (modSlotRun s n f).log = s.log := rfl
@[simp] theorem modSlotRun_jobs (s : State) (n : Nat) (f : SlotRun → SlotRun) : (modSlotRun s n f).jobs = s.jobs := rfl
@[simp] theorem modSlotRun_saf (s : State) (n : Nat) (f : SlotRun → SlotRun) : (modSlotRun s n f).saf = s.saf := rfl
@[simp] theorem modSlotRun_fife (s : State) (n : Nat) (f : SlotRun → SlotRun) : (modSlotRun s n f).fife = s.fife := rfl
@[simp] theorem modSlotRun_motion (s : State) (n : Nat) (f : SlotRun → SlotRun) : (modSlotRun s n f).motion = s.motion := rfl
@[simp] theorem modSlotRun_noz (s : State) (n : Nat) (f : SlotRun → SlotRun) : (modSlotRun s n f).noz = s.noz := rfl
@[simp] theorem modSlotRun_cal (s : State) (n : Nat) (f : SlotRun → SlotRun) : (modSlotRun s n f).cal = s.cal := rfl
@[simp] theorem modSlotRun_seq (s : State) (n : Nat) (f : SlotRun → SlotRun) : (modSlotRun s n f).seq = s.seq := rfl
@[simp] theorem modSlotRun_otp (s : State) (n : Nat) (f : SlotRun → SlotRun) : (modSlotRun s n f).otp = s.otp := rfl
@[simp] theorem modSlotRun_dbg (s : State) (n : Nat) (f : SlotRun → SlotRun) : (modSlotRun s n f).dbg = s.dbg := rfl
@[simp] theorem modSlotRun_cvu (s : State) (n : Nat) (f : SlotRun → SlotRun) : (modSlotRun s n f).cvu = s.cvu := rfl
@[simp] theorem modSlotRun_pending (s : State) (n : Nat) (f : SlotRun → SlotRun) : (modSlotRun s n f).pending = s.pending := rfl

/-! `modDet` -/

@[simp] theorem modDet_rst (s : State) (d : Nat) (f : DetRun → DetRun) : (modDet s d f).rst = s.rst := rfl
@[simp] theorem modDet_clk (s : State) (d : Nat) (f : DetRun → DetRun) : (modDet s d f).clk = s.clk := rfl
@[simp] theorem modDet_pwr (s : State) (d : Nat) (f : DetRun → DetRun) : (modDet s d f).pwr = s.pwr := rfl
@[simp] theorem modDet_reed (s : State) (d : Nat) (f : DetRun → DetRun) : (modDet s d f).reed = s.reed := rfl
@[simp] theorem modDet_port (s : State) (d : Nat) (f : DetRun → DetRun) : (modDet s d f).port = s.port := rfl
@[simp] theorem modDet_uart (s : State) (d : Nat) (f : DetRun → DetRun) : (modDet s d f).uart = s.uart := rfl
@[simp] theorem modDet_usb (s : State) (d : Nat) (f : DetRun → DetRun) : (modDet s d f).usb = s.usb := rfl
@[simp] theorem modDet_net (s : State) (d : Nat) (f : DetRun → DetRun) : (modDet s d f).net = s.net := rfl
@[simp] theorem modDet_ctxs (s : State) (d : Nat) (f : DetRun → DetRun) : (modDet s d f).ctxs = s.ctxs := rfl
@[simp] theorem modDet_params (s : State) (d : Nat) (f : DetRun → DetRun) : (modDet s d f).params = s.params := rfl
@[simp] theorem modDet_nvm (s : State) (d : Nat) (f : DetRun → DetRun) : (modDet s d f).nvm = s.nvm := rfl
@[simp] theorem modDet_log (s : State) (d : Nat) (f : DetRun → DetRun) : (modDet s d f).log = s.log := rfl
@[simp] theorem modDet_jobs (s : State) (d : Nat) (f : DetRun → DetRun) : (modDet s d f).jobs = s.jobs := rfl
@[simp] theorem modDet_saf (s : State) (d : Nat) (f : DetRun → DetRun) : (modDet s d f).saf = s.saf := rfl
@[simp] theorem modDet_fife (s : State) (d : Nat) (f : DetRun → DetRun) : (modDet s d f).fife = s.fife := rfl
@[simp] theorem modDet_motion (s : State) (d : Nat) (f : DetRun → DetRun) : (modDet s d f).motion = s.motion := rfl
@[simp] theorem modDet_noz (s : State) (d : Nat) (f : DetRun → DetRun) : (modDet s d f).noz = s.noz := rfl
@[simp] theorem modDet_cal (s : State) (d : Nat) (f : DetRun → DetRun) : (modDet s d f).cal = s.cal := rfl
@[simp] theorem modDet_seq (s : State) (d : Nat) (f : DetRun → DetRun) : (modDet s d f).seq = s.seq := rfl
@[simp] theorem modDet_otp (s : State) (d : Nat) (f : DetRun → DetRun) : (modDet s d f).otp = s.otp := rfl
@[simp] theorem modDet_dbg (s : State) (d : Nat) (f : DetRun → DetRun) : (modDet s d f).dbg = s.dbg := rfl
@[simp] theorem modDet_cvu (s : State) (d : Nat) (f : DetRun → DetRun) : (modDet s d f).cvu = s.cvu := rfl
@[simp] theorem modDet_pending (s : State) (d : Nat) (f : DetRun → DetRun) : (modDet s d f).pending = s.pending := rfl

/-! `releaseCh` -/

@[simp] theorem releaseCh_rst (s : State) (n : Nat) : (releaseCh s n).rst = s.rst := by unfold releaseCh; split <;> rfl
@[simp] theorem releaseCh_clk (s : State) (n : Nat) : (releaseCh s n).clk = s.clk := by unfold releaseCh; split <;> rfl
@[simp] theorem releaseCh_pwr (s : State) (n : Nat) : (releaseCh s n).pwr = s.pwr := by unfold releaseCh; split <;> rfl
@[simp] theorem releaseCh_reed (s : State) (n : Nat) : (releaseCh s n).reed = s.reed := by unfold releaseCh; split <;> rfl
@[simp] theorem releaseCh_port (s : State) (n : Nat) : (releaseCh s n).port = s.port := by unfold releaseCh; split <;> rfl
@[simp] theorem releaseCh_uart (s : State) (n : Nat) : (releaseCh s n).uart = s.uart := by unfold releaseCh; split <;> rfl
@[simp] theorem releaseCh_usb (s : State) (n : Nat) : (releaseCh s n).usb = s.usb := by unfold releaseCh; split <;> rfl
@[simp] theorem releaseCh_net (s : State) (n : Nat) : (releaseCh s n).net = s.net := by unfold releaseCh; split <;> rfl
@[simp] theorem releaseCh_ctxs (s : State) (n : Nat) : (releaseCh s n).ctxs = s.ctxs := by unfold releaseCh; split <;> rfl
@[simp] theorem releaseCh_params (s : State) (n : Nat) : (releaseCh s n).params = s.params := by unfold releaseCh; split <;> rfl
@[simp] theorem releaseCh_nvm (s : State) (n : Nat) : (releaseCh s n).nvm = s.nvm := by unfold releaseCh; split <;> rfl
@[simp] theorem releaseCh_log (s : State) (n : Nat) : (releaseCh s n).log = s.log := by unfold releaseCh; split <;> rfl
@[simp] theorem releaseCh_jobs (s : State) (n : Nat) : (releaseCh s n).jobs = s.jobs := by unfold releaseCh; split <;> rfl
@[simp] theorem releaseCh_fife (s : State) (n : Nat) : (releaseCh s n).fife = s.fife := by unfold releaseCh; split <;> rfl
@[simp] theorem releaseCh_motion (s : State) (n : Nat) : (releaseCh s n).motion = s.motion := by unfold releaseCh; split <;> rfl
@[simp] theorem releaseCh_noz (s : State) (n : Nat) : (releaseCh s n).noz = s.noz := by unfold releaseCh; split <;> rfl
@[simp] theorem releaseCh_hub (s : State) (n : Nat) : (releaseCh s n).hub = s.hub := by unfold releaseCh; split <;> rfl
@[simp] theorem releaseCh_cal (s : State) (n : Nat) : (releaseCh s n).cal = s.cal := by unfold releaseCh; split <;> rfl
@[simp] theorem releaseCh_otp (s : State) (n : Nat) : (releaseCh s n).otp = s.otp := by unfold releaseCh; split <;> rfl
@[simp] theorem releaseCh_dbg (s : State) (n : Nat) : (releaseCh s n).dbg = s.dbg := by unfold releaseCh; split <;> rfl
@[simp] theorem releaseCh_cvu (s : State) (n : Nat) : (releaseCh s n).cvu = s.cvu := by unfold releaseCh; split <;> rfl
@[simp] theorem releaseCh_pending (s : State) (n : Nat) : (releaseCh s n).pending = s.pending := by unfold releaseCh; split <;> rfl

end Sys2Proof.Machine
end

