-- ==== Sys2Proof/Laws/Frames.lean ====
section
/-! SUPPORT. What the shared operations leave as it is: for each, one lemma that lists the parts of State it does not
change. A part that a lemma leaves out may change. -/

namespace Sys2Proof.Machine
set_option maxRecDepth 4000
set_option Elab.async false

/-! ### Folds and choices of states -/

@[simp] theorem foldl_rst {α : Type} (g : State → α → State) (h : ∀ s a, (g s a).rst = s.rst) (l : List α) (s : State)
    : (l.foldl g s).rst = s.rst := by induction l generalizing s with | nil => rfl | cons a l ih => simp [ih, h]
@[simp] theorem ite_rst (c : Prop) [Decidable c] (a b : State) : (if c then a else b).rst = if c then a.rst else b.rst
    := apply_ite State.rst c a b
@[simp] theorem foldl_clk {α : Type} (g : State → α → State) (h : ∀ s a, (g s a).clk = s.clk) (l : List α) (s : State)
    : (l.foldl g s).clk = s.clk := by induction l generalizing s with | nil => rfl | cons a l ih => simp [ih, h]
@[simp] theorem ite_clk (c : Prop) [Decidable c] (a b : State) : (if c then a else b).clk = if c then a.clk else b.clk
    := apply_ite State.clk c a b
@[simp] theorem foldl_pwr {α : Type} (g : State → α → State) (h : ∀ s a, (g s a).pwr = s.pwr) (l : List α) (s : State)
    : (l.foldl g s).pwr = s.pwr := by induction l generalizing s with | nil => rfl | cons a l ih => simp [ih, h]
@[simp] theorem ite_pwr (c : Prop) [Decidable c] (a b : State) : (if c then a else b).pwr = if c then a.pwr else b.pwr
    := apply_ite State.pwr c a b
@[simp] theorem foldl_reed {α : Type} (g : State → α → State) (h : ∀ s a, (g s a).reed = s.reed) (l : List α) (s :
    State) : (l.foldl g s).reed = s.reed := by induction l generalizing s with | nil => rfl | cons a l ih => simp [ih,
    h]
@[simp] theorem ite_reed (c : Prop) [Decidable c] (a b : State) : (if c then a else b).reed = if c then a.reed else
    b.reed := apply_ite State.reed c a b
@[simp] theorem foldl_port {α : Type} (g : State → α → State) (h : ∀ s a, (g s a).port = s.port) (l : List α) (s :
    State) : (l.foldl g s).port = s.port := by induction l generalizing s with | nil => rfl | cons a l ih => simp [ih,
    h]
@[simp] theorem ite_port (c : Prop) [Decidable c] (a b : State) : (if c then a else b).port = if c then a.port else
    b.port := apply_ite State.port c a b
@[simp] theorem foldl_uart {α : Type} (g : State → α → State) (h : ∀ s a, (g s a).uart = s.uart) (l : List α) (s :
    State) : (l.foldl g s).uart = s.uart := by induction l generalizing s with | nil => rfl | cons a l ih => simp [ih,
    h]
@[simp] theorem ite_uart (c : Prop) [Decidable c] (a b : State) : (if c then a else b).uart = if c then a.uart else
    b.uart := apply_ite State.uart c a b
@[simp] theorem foldl_usb {α : Type} (g : State → α → State) (h : ∀ s a, (g s a).usb = s.usb) (l : List α) (s : State)
    : (l.foldl g s).usb = s.usb := by induction l generalizing s with | nil => rfl | cons a l ih => simp [ih, h]
@[simp] theorem ite_usb (c : Prop) [Decidable c] (a b : State) : (if c then a else b).usb = if c then a.usb else b.usb
    := apply_ite State.usb c a b
@[simp] theorem foldl_net {α : Type} (g : State → α → State) (h : ∀ s a, (g s a).net = s.net) (l : List α) (s : State)
    : (l.foldl g s).net = s.net := by induction l generalizing s with | nil => rfl | cons a l ih => simp [ih, h]
@[simp] theorem ite_net (c : Prop) [Decidable c] (a b : State) : (if c then a else b).net = if c then a.net else b.net
    := apply_ite State.net c a b
@[simp] theorem foldl_ctxs {α : Type} (g : State → α → State) (h : ∀ s a, (g s a).ctxs = s.ctxs) (l : List α) (s :
    State) : (l.foldl g s).ctxs = s.ctxs := by induction l generalizing s with | nil => rfl | cons a l ih => simp [ih,
    h]
@[simp] theorem ite_ctxs (c : Prop) [Decidable c] (a b : State) : (if c then a else b).ctxs = if c then a.ctxs else
    b.ctxs := apply_ite State.ctxs c a b
@[simp] theorem foldl_params {α : Type} (g : State → α → State) (h : ∀ s a, (g s a).params = s.params) (l : List α) (s
    : State) : (l.foldl g s).params = s.params := by induction l generalizing s with | nil => rfl | cons a l ih =>
    simp [ih, h]
@[simp] theorem ite_params (c : Prop) [Decidable c] (a b : State) : (if c then a else b).params = if c then a.params
    else b.params := apply_ite State.params c a b
@[simp] theorem foldl_nvm {α : Type} (g : State → α → State) (h : ∀ s a, (g s a).nvm = s.nvm) (l : List α) (s : State)
    : (l.foldl g s).nvm = s.nvm := by induction l generalizing s with | nil => rfl | cons a l ih => simp [ih, h]
@[simp] theorem ite_nvm (c : Prop) [Decidable c] (a b : State) : (if c then a else b).nvm = if c then a.nvm else b.nvm
    := apply_ite State.nvm c a b
@[simp] theorem foldl_log {α : Type} (g : State → α → State) (h : ∀ s a, (g s a).log = s.log) (l : List α) (s : State)
    : (l.foldl g s).log = s.log := by induction l generalizing s with | nil => rfl | cons a l ih => simp [ih, h]
@[simp] theorem ite_log (c : Prop) [Decidable c] (a b : State) : (if c then a else b).log = if c then a.log else b.log
    := apply_ite State.log c a b
@[simp] theorem foldl_jobs {α : Type} (g : State → α → State) (h : ∀ s a, (g s a).jobs = s.jobs) (l : List α) (s :
    State) : (l.foldl g s).jobs = s.jobs := by induction l generalizing s with | nil => rfl | cons a l ih => simp [ih,
    h]
@[simp] theorem ite_jobs (c : Prop) [Decidable c] (a b : State) : (if c then a else b).jobs = if c then a.jobs else
    b.jobs := apply_ite State.jobs c a b
@[simp] theorem foldl_saf {α : Type} (g : State → α → State) (h : ∀ s a, (g s a).saf = s.saf) (l : List α) (s : State)
    : (l.foldl g s).saf = s.saf := by induction l generalizing s with | nil => rfl | cons a l ih => simp [ih, h]
@[simp] theorem ite_saf (c : Prop) [Decidable c] (a b : State) : (if c then a else b).saf = if c then a.saf else b.saf
    := apply_ite State.saf c a b
@[simp] theorem foldl_fife {α : Type} (g : State → α → State) (h : ∀ s a, (g s a).fife = s.fife) (l : List α) (s :
    State) : (l.foldl g s).fife = s.fife := by induction l generalizing s with | nil => rfl | cons a l ih => simp [ih,
    h]
@[simp] theorem ite_fife (c : Prop) [Decidable c] (a b : State) : (if c then a else b).fife = if c then a.fife else
    b.fife := apply_ite State.fife c a b
@[simp] theorem foldl_motion {α : Type} (g : State → α → State) (h : ∀ s a, (g s a).motion = s.motion) (l : List α) (s
    : State) : (l.foldl g s).motion = s.motion := by induction l generalizing s with | nil => rfl | cons a l ih =>
    simp [ih, h]
@[simp] theorem ite_motion (c : Prop) [Decidable c] (a b : State) : (if c then a else b).motion = if c then a.motion
    else b.motion := apply_ite State.motion c a b
@[simp] theorem foldl_noz {α : Type} (g : State → α → State) (h : ∀ s a, (g s a).noz = s.noz) (l : List α) (s : State)
    : (l.foldl g s).noz = s.noz := by induction l generalizing s with | nil => rfl | cons a l ih => simp [ih, h]
@[simp] theorem ite_noz (c : Prop) [Decidable c] (a b : State) : (if c then a else b).noz = if c then a.noz else b.noz
    := apply_ite State.noz c a b
@[simp] theorem foldl_hub {α : Type} (g : State → α → State) (h : ∀ s a, (g s a).hub = s.hub) (l : List α) (s : State)
    : (l.foldl g s).hub = s.hub := by induction l generalizing s with | nil => rfl | cons a l ih => simp [ih, h]
@[simp] theorem ite_hub (c : Prop) [Decidable c] (a b : State) : (if c then a else b).hub = if c then a.hub else b.hub
    := apply_ite State.hub c a b
@[simp] theorem foldl_cal {α : Type} (g : State → α → State) (h : ∀ s a, (g s a).cal = s.cal) (l : List α) (s : State)
    : (l.foldl g s).cal = s.cal := by induction l generalizing s with | nil => rfl | cons a l ih => simp [ih, h]
@[simp] theorem ite_cal (c : Prop) [Decidable c] (a b : State) : (if c then a else b).cal = if c then a.cal else b.cal
    := apply_ite State.cal c a b
@[simp] theorem foldl_seq {α : Type} (g : State → α → State) (h : ∀ s a, (g s a).seq = s.seq) (l : List α) (s : State)
    : (l.foldl g s).seq = s.seq := by induction l generalizing s with | nil => rfl | cons a l ih => simp [ih, h]
@[simp] theorem ite_seq (c : Prop) [Decidable c] (a b : State) : (if c then a else b).seq = if c then a.seq else b.seq
    := apply_ite State.seq c a b
@[simp] theorem foldl_otp {α : Type} (g : State → α → State) (h : ∀ s a, (g s a).otp = s.otp) (l : List α) (s : State)
    : (l.foldl g s).otp = s.otp := by induction l generalizing s with | nil => rfl | cons a l ih => simp [ih, h]
@[simp] theorem ite_otp (c : Prop) [Decidable c] (a b : State) : (if c then a else b).otp = if c then a.otp else b.otp
    := apply_ite State.otp c a b
@[simp] theorem foldl_dbg {α : Type} (g : State → α → State) (h : ∀ s a, (g s a).dbg = s.dbg) (l : List α) (s : State)
    : (l.foldl g s).dbg = s.dbg := by induction l generalizing s with | nil => rfl | cons a l ih => simp [ih, h]
@[simp] theorem ite_dbg (c : Prop) [Decidable c] (a b : State) : (if c then a else b).dbg = if c then a.dbg else b.dbg
    := apply_ite State.dbg c a b
@[simp] theorem foldl_cvu {α : Type} (g : State → α → State) (h : ∀ s a, (g s a).cvu = s.cvu) (l : List α) (s : State)
    : (l.foldl g s).cvu = s.cvu := by induction l generalizing s with | nil => rfl | cons a l ih => simp [ih, h]
@[simp] theorem ite_cvu (c : Prop) [Decidable c] (a b : State) : (if c then a else b).cvu = if c then a.cvu else b.cvu
    := apply_ite State.cvu c a b
@[simp] theorem foldl_pending {α : Type} (g : State → α → State) (h : ∀ s a, (g s a).pending = s.pending) (l : List α)
    (s : State) : (l.foldl g s).pending = s.pending := by induction l generalizing s with | nil => rfl | cons a l ih
    => simp [ih, h]
@[simp] theorem ite_pending (c : Prop) [Decidable c] (a b : State) : (if c then a else b).pending = if c then
    a.pending else b.pending := apply_ite State.pending c a b
@[simp] theorem ite_snd {α : Type} (c : Prop) [Decidable c] (a b : α × State) : (if c then a else b).2 = if c then a.2
    else b.2 := apply_ite Prod.snd c a b

/-! ### The operations, each over those before it -/

@[simp] theorem modCvu_frame (s : State) (x1 : Cvu → Cvu) : (modCvu s x1).rst = s.rst ∧ (modCvu s x1).clk = s.clk ∧
    (modCvu s x1).pwr = s.pwr ∧ (modCvu s x1).reed = s.reed ∧ (modCvu s x1).port = s.port ∧ (modCvu s x1).uart =
    s.uart ∧ (modCvu s x1).usb = s.usb ∧ (modCvu s x1).net = s.net ∧ (modCvu s x1).ctxs = s.ctxs ∧ (modCvu s
    x1).params = s.params ∧ (modCvu s x1).nvm = s.nvm ∧ (modCvu s x1).log = s.log ∧ (modCvu s x1).jobs = s.jobs ∧
    (modCvu s x1).saf = s.saf ∧ (modCvu s x1).fife = s.fife ∧ (modCvu s x1).motion = s.motion ∧ (modCvu s x1).noz =
    s.noz ∧ (modCvu s x1).hub = s.hub ∧ (modCvu s x1).cal = s.cal ∧ (modCvu s x1).seq = s.seq ∧ (modCvu s x1).otp =
    s.otp ∧ (modCvu s x1).dbg = s.dbg ∧ (modCvu s x1).pending = s.pending := by
  simp [modCvu]

@[simp] theorem noteRx_frame (s : State) (x1 : Option Nat) (x2 : List Sys2Proof.Byte) : (noteRx s x1 x2).rst = s.rst ∧
    (noteRx s x1 x2).clk = s.clk ∧ (noteRx s x1 x2).pwr = s.pwr ∧ (noteRx s x1 x2).reed = s.reed ∧ (noteRx s x1
    x2).port = s.port ∧ (noteRx s x1 x2).uart = s.uart ∧ (noteRx s x1 x2).usb = s.usb ∧ (noteRx s x1 x2).net = s.net ∧
    (noteRx s x1 x2).ctxs = s.ctxs ∧ (noteRx s x1 x2).params = s.params ∧ (noteRx s x1 x2).nvm = s.nvm ∧ (noteRx s x1
    x2).log = s.log ∧ (noteRx s x1 x2).jobs = s.jobs ∧ (noteRx s x1 x2).saf = s.saf ∧ (noteRx s x1 x2).fife = s.fife ∧
    (noteRx s x1 x2).motion = s.motion ∧ (noteRx s x1 x2).noz = s.noz ∧ (noteRx s x1 x2).hub = s.hub ∧ (noteRx s x1
    x2).cal = s.cal ∧ (noteRx s x1 x2).seq = s.seq ∧ (noteRx s x1 x2).otp = s.otp ∧ (noteRx s x1 x2).dbg = s.dbg ∧
    (noteRx s x1 x2).pending = s.pending := by
  simp [noteRx]

@[simp] theorem noteTx_frame (s : State) (x1 : Option Nat) (x2 : List Sys2Proof.Byte) : (noteTx s x1 x2).rst = s.rst ∧
    (noteTx s x1 x2).clk = s.clk ∧ (noteTx s x1 x2).pwr = s.pwr ∧ (noteTx s x1 x2).reed = s.reed ∧ (noteTx s x1
    x2).port = s.port ∧ (noteTx s x1 x2).uart = s.uart ∧ (noteTx s x1 x2).usb = s.usb ∧ (noteTx s x1 x2).net = s.net ∧
    (noteTx s x1 x2).ctxs = s.ctxs ∧ (noteTx s x1 x2).params = s.params ∧ (noteTx s x1 x2).nvm = s.nvm ∧ (noteTx s x1
    x2).log = s.log ∧ (noteTx s x1 x2).jobs = s.jobs ∧ (noteTx s x1 x2).saf = s.saf ∧ (noteTx s x1 x2).fife = s.fife ∧
    (noteTx s x1 x2).motion = s.motion ∧ (noteTx s x1 x2).noz = s.noz ∧ (noteTx s x1 x2).hub = s.hub ∧ (noteTx s x1
    x2).cal = s.cal ∧ (noteTx s x1 x2).seq = s.seq ∧ (noteTx s x1 x2).otp = s.otp ∧ (noteTx s x1 x2).dbg = s.dbg ∧
    (noteTx s x1 x2).pending = s.pending := by
  simp [noteTx]

@[simp] theorem noteRead_frame (s : State) (x1 : CvuState) (x2 : List Sys2Proof.Byte) : (noteRead s x1 x2).rst = s.rst
    ∧ (noteRead s x1 x2).clk = s.clk ∧ (noteRead s x1 x2).pwr = s.pwr ∧ (noteRead s x1 x2).reed = s.reed ∧ (noteRead s
    x1 x2).port = s.port ∧ (noteRead s x1 x2).uart = s.uart ∧ (noteRead s x1 x2).usb = s.usb ∧ (noteRead s x1 x2).net
    = s.net ∧ (noteRead s x1 x2).ctxs = s.ctxs ∧ (noteRead s x1 x2).params = s.params ∧ (noteRead s x1 x2).nvm = s.nvm
    ∧ (noteRead s x1 x2).log = s.log ∧ (noteRead s x1 x2).jobs = s.jobs ∧ (noteRead s x1 x2).saf = s.saf ∧ (noteRead s
    x1 x2).fife = s.fife ∧ (noteRead s x1 x2).motion = s.motion ∧ (noteRead s x1 x2).noz = s.noz ∧ (noteRead s x1
    x2).hub = s.hub ∧ (noteRead s x1 x2).cal = s.cal ∧ (noteRead s x1 x2).seq = s.seq ∧ (noteRead s x1 x2).otp = s.otp
    ∧ (noteRead s x1 x2).dbg = s.dbg ∧ (noteRead s x1 x2).pending = s.pending := by
  simp [noteRead]

@[simp] theorem noteWrite_frame (s : State) (x1 : CvuState) (x2 : List Sys2Proof.Byte) : (noteWrite s x1 x2).rst =
    s.rst ∧ (noteWrite s x1 x2).clk = s.clk ∧ (noteWrite s x1 x2).pwr = s.pwr ∧ (noteWrite s x1 x2).reed = s.reed ∧
    (noteWrite s x1 x2).port = s.port ∧ (noteWrite s x1 x2).uart = s.uart ∧ (noteWrite s x1 x2).usb = s.usb ∧
    (noteWrite s x1 x2).net = s.net ∧ (noteWrite s x1 x2).ctxs = s.ctxs ∧ (noteWrite s x1 x2).params = s.params ∧
    (noteWrite s x1 x2).nvm = s.nvm ∧ (noteWrite s x1 x2).log = s.log ∧ (noteWrite s x1 x2).jobs = s.jobs ∧ (noteWrite
    s x1 x2).saf = s.saf ∧ (noteWrite s x1 x2).fife = s.fife ∧ (noteWrite s x1 x2).motion = s.motion ∧ (noteWrite s x1
    x2).noz = s.noz ∧ (noteWrite s x1 x2).hub = s.hub ∧ (noteWrite s x1 x2).cal = s.cal ∧ (noteWrite s x1 x2).seq =
    s.seq ∧ (noteWrite s x1 x2).otp = s.otp ∧ (noteWrite s x1 x2).dbg = s.dbg ∧ (noteWrite s x1 x2).pending =
    s.pending := by
  simp [noteWrite]

@[simp] theorem readAll_frame (s : State) (x1 : CvuState) (x2 : List (List Sys2Proof.Byte)) : (readAll s x1 x2).rst =
    s.rst ∧ (readAll s x1 x2).clk = s.clk ∧ (readAll s x1 x2).pwr = s.pwr ∧ (readAll s x1 x2).reed = s.reed ∧ (readAll
    s x1 x2).port = s.port ∧ (readAll s x1 x2).uart = s.uart ∧ (readAll s x1 x2).usb = s.usb ∧ (readAll s x1 x2).net =
    s.net ∧ (readAll s x1 x2).ctxs = s.ctxs ∧ (readAll s x1 x2).params = s.params ∧ (readAll s x1 x2).nvm = s.nvm ∧
    (readAll s x1 x2).log = s.log ∧ (readAll s x1 x2).jobs = s.jobs ∧ (readAll s x1 x2).saf = s.saf ∧ (readAll s x1
    x2).fife = s.fife ∧ (readAll s x1 x2).motion = s.motion ∧ (readAll s x1 x2).noz = s.noz ∧ (readAll s x1 x2).hub =
    s.hub ∧ (readAll s x1 x2).cal = s.cal ∧ (readAll s x1 x2).seq = s.seq ∧ (readAll s x1 x2).otp = s.otp ∧ (readAll s
    x1 x2).dbg = s.dbg ∧ (readAll s x1 x2).pending = s.pending := by
  simp [readAll]

@[simp] theorem explicit_frame (s : State) (x1 : CvuAlg) (x2 : List Sys2Proof.Byte) : (explicit s x1 x2).rst = s.rst ∧
    (explicit s x1 x2).clk = s.clk ∧ (explicit s x1 x2).pwr = s.pwr ∧ (explicit s x1 x2).reed = s.reed ∧ (explicit s
    x1 x2).port = s.port ∧ (explicit s x1 x2).uart = s.uart ∧ (explicit s x1 x2).usb = s.usb ∧ (explicit s x1 x2).net
    = s.net ∧ (explicit s x1 x2).ctxs = s.ctxs ∧ (explicit s x1 x2).params = s.params ∧ (explicit s x1 x2).nvm = s.nvm
    ∧ (explicit s x1 x2).log = s.log ∧ (explicit s x1 x2).jobs = s.jobs ∧ (explicit s x1 x2).saf = s.saf ∧ (explicit s
    x1 x2).fife = s.fife ∧ (explicit s x1 x2).motion = s.motion ∧ (explicit s x1 x2).noz = s.noz ∧ (explicit s x1
    x2).hub = s.hub ∧ (explicit s x1 x2).cal = s.cal ∧ (explicit s x1 x2).seq = s.seq ∧ (explicit s x1 x2).otp = s.otp
    ∧ (explicit s x1 x2).dbg = s.dbg ∧ (explicit s x1 x2).pending = s.pending := by
  simp [explicit]

@[simp] theorem noteHubRead_frame (s : State) (x1 : List (List Sys2Proof.Byte)) : (noteHubRead s x1).rst = s.rst ∧
    (noteHubRead s x1).clk = s.clk ∧ (noteHubRead s x1).pwr = s.pwr ∧ (noteHubRead s x1).reed = s.reed ∧ (noteHubRead
    s x1).port = s.port ∧ (noteHubRead s x1).uart = s.uart ∧ (noteHubRead s x1).usb = s.usb ∧ (noteHubRead s x1).net =
    s.net ∧ (noteHubRead s x1).ctxs = s.ctxs ∧ (noteHubRead s x1).params = s.params ∧ (noteHubRead s x1).nvm = s.nvm ∧
    (noteHubRead s x1).log = s.log ∧ (noteHubRead s x1).jobs = s.jobs ∧ (noteHubRead s x1).saf = s.saf ∧ (noteHubRead
    s x1).fife = s.fife ∧ (noteHubRead s x1).motion = s.motion ∧ (noteHubRead s x1).noz = s.noz ∧ (noteHubRead s
    x1).hub = s.hub ∧ (noteHubRead s x1).cal = s.cal ∧ (noteHubRead s x1).seq = s.seq ∧ (noteHubRead s x1).otp = s.otp
    ∧ (noteHubRead s x1).dbg = s.dbg ∧ (noteHubRead s x1).pending = s.pending := by
  simp [noteHubRead]

@[simp] theorem modCtx_frame (s : State) (x1 : Nat) (x2 : Ctx → Ctx) : (modCtx s x1 x2).rst = s.rst ∧ (modCtx s x1
    x2).clk = s.clk ∧ (modCtx s x1 x2).pwr = s.pwr ∧ (modCtx s x1 x2).reed = s.reed ∧ (modCtx s x1 x2).port = s.port ∧
    (modCtx s x1 x2).uart = s.uart ∧ (modCtx s x1 x2).usb = s.usb ∧ (modCtx s x1 x2).net = s.net ∧ (modCtx s x1
    x2).params = s.params ∧ (modCtx s x1 x2).nvm = s.nvm ∧ (modCtx s x1 x2).log = s.log ∧ (modCtx s x1 x2).jobs =
    s.jobs ∧ (modCtx s x1 x2).saf = s.saf ∧ (modCtx s x1 x2).fife = s.fife ∧ (modCtx s x1 x2).motion = s.motion ∧
    (modCtx s x1 x2).noz = s.noz ∧ (modCtx s x1 x2).hub = s.hub ∧ (modCtx s x1 x2).cal = s.cal ∧ (modCtx s x1 x2).seq
    = s.seq ∧ (modCtx s x1 x2).otp = s.otp ∧ (modCtx s x1 x2).dbg = s.dbg ∧ (modCtx s x1 x2).cvu = s.cvu ∧ (modCtx s
    x1 x2).pending = s.pending := by
  simp [modCtx]

@[simp] theorem setIrq_frame (s : State) (x1 : Nat) : (setIrq s x1).rst = s.rst ∧ (setIrq s x1).clk = s.clk ∧ (setIrq
    s x1).pwr = s.pwr ∧ (setIrq s x1).reed = s.reed ∧ (setIrq s x1).uart = s.uart ∧ (setIrq s x1).usb = s.usb ∧
    (setIrq s x1).net = s.net ∧ (setIrq s x1).ctxs = s.ctxs ∧ (setIrq s x1).params = s.params ∧ (setIrq s x1).nvm =
    s.nvm ∧ (setIrq s x1).log = s.log ∧ (setIrq s x1).jobs = s.jobs ∧ (setIrq s x1).saf = s.saf ∧ (setIrq s x1).fife =
    s.fife ∧ (setIrq s x1).motion = s.motion ∧ (setIrq s x1).noz = s.noz ∧ (setIrq s x1).hub = s.hub ∧ (setIrq s
    x1).cal = s.cal ∧ (setIrq s x1).seq = s.seq ∧ (setIrq s x1).otp = s.otp ∧ (setIrq s x1).dbg = s.dbg ∧ (setIrq s
    x1).cvu = s.cvu ∧ (setIrq s x1).pending = s.pending := by
  simp [setIrq]

@[simp] theorem drawBit_frame (s : State) : (drawBit s).2.rst = s.rst ∧ (drawBit s).2.pwr = s.pwr ∧ (drawBit s).2.reed
    = s.reed ∧ (drawBit s).2.port = s.port ∧ (drawBit s).2.uart = s.uart ∧ (drawBit s).2.usb = s.usb ∧ (drawBit
    s).2.net = s.net ∧ (drawBit s).2.ctxs = s.ctxs ∧ (drawBit s).2.params = s.params ∧ (drawBit s).2.nvm = s.nvm ∧
    (drawBit s).2.log = s.log ∧ (drawBit s).2.jobs = s.jobs ∧ (drawBit s).2.saf = s.saf ∧ (drawBit s).2.fife = s.fife
    ∧ (drawBit s).2.motion = s.motion ∧ (drawBit s).2.noz = s.noz ∧ (drawBit s).2.hub = s.hub ∧ (drawBit s).2.cal =
    s.cal ∧ (drawBit s).2.seq = s.seq ∧ (drawBit s).2.otp = s.otp ∧ (drawBit s).2.dbg = s.dbg ∧ (drawBit s).2.cvu =
    s.cvu ∧ (drawBit s).2.pending = s.pending := by
  simp [drawBit]

@[simp] theorem drawNonce_frame (s : State) : (drawNonce s).2.rst = s.rst ∧ (drawNonce s).2.pwr = s.pwr ∧ (drawNonce
    s).2.reed = s.reed ∧ (drawNonce s).2.port = s.port ∧ (drawNonce s).2.uart = s.uart ∧ (drawNonce s).2.usb = s.usb ∧
    (drawNonce s).2.net = s.net ∧ (drawNonce s).2.ctxs = s.ctxs ∧ (drawNonce s).2.params = s.params ∧ (drawNonce
    s).2.nvm = s.nvm ∧ (drawNonce s).2.log = s.log ∧ (drawNonce s).2.jobs = s.jobs ∧ (drawNonce s).2.saf = s.saf ∧
    (drawNonce s).2.fife = s.fife ∧ (drawNonce s).2.motion = s.motion ∧ (drawNonce s).2.noz = s.noz ∧ (drawNonce
    s).2.hub = s.hub ∧ (drawNonce s).2.cal = s.cal ∧ (drawNonce s).2.seq = s.seq ∧ (drawNonce s).2.otp = s.otp ∧
    (drawNonce s).2.dbg = s.dbg ∧ (drawNonce s).2.cvu = s.cvu ∧ (drawNonce s).2.pending = s.pending := by
  simp [drawNonce]

@[simp] theorem drawBelow_frame (s : State) (x1 : Nat) : (drawBelow s x1).2.rst = s.rst ∧ (drawBelow s x1).2.pwr =
    s.pwr ∧ (drawBelow s x1).2.reed = s.reed ∧ (drawBelow s x1).2.port = s.port ∧ (drawBelow s x1).2.uart = s.uart ∧
    (drawBelow s x1).2.usb = s.usb ∧ (drawBelow s x1).2.net = s.net ∧ (drawBelow s x1).2.ctxs = s.ctxs ∧ (drawBelow s
    x1).2.params = s.params ∧ (drawBelow s x1).2.nvm = s.nvm ∧ (drawBelow s x1).2.log = s.log ∧ (drawBelow s
    x1).2.jobs = s.jobs ∧ (drawBelow s x1).2.saf = s.saf ∧ (drawBelow s x1).2.fife = s.fife ∧ (drawBelow s
    x1).2.motion = s.motion ∧ (drawBelow s x1).2.noz = s.noz ∧ (drawBelow s x1).2.hub = s.hub ∧ (drawBelow s x1).2.cal
    = s.cal ∧ (drawBelow s x1).2.seq = s.seq ∧ (drawBelow s x1).2.otp = s.otp ∧ (drawBelow s x1).2.dbg = s.dbg ∧
    (drawBelow s x1).2.cvu = s.cvu ∧ (drawBelow s x1).2.pending = s.pending := by
  simp [drawBelow]

@[simp] theorem passPart_frame (s : State) : (passPart s).rst = s.rst ∧ (passPart s).pwr = s.pwr ∧ (passPart s).reed =
    s.reed ∧ (passPart s).port = s.port ∧ (passPart s).uart = s.uart ∧ (passPart s).usb = s.usb ∧ (passPart s).net =
    s.net ∧ (passPart s).ctxs = s.ctxs ∧ (passPart s).params = s.params ∧ (passPart s).nvm = s.nvm ∧ (passPart s).log
    = s.log ∧ (passPart s).jobs = s.jobs ∧ (passPart s).saf = s.saf ∧ (passPart s).fife = s.fife ∧ (passPart s).motion
    = s.motion ∧ (passPart s).noz = s.noz ∧ (passPart s).hub = s.hub ∧ (passPart s).cal = s.cal ∧ (passPart s).seq =
    s.seq ∧ (passPart s).otp = s.otp ∧ (passPart s).dbg = s.dbg ∧ (passPart s).cvu = s.cvu ∧ (passPart s).pending =
    s.pending := by
  simp [passPart]

@[simp] theorem putSeqSide_frame (s : State) (x1 : SeqSide) : (putSeqSide s x1).clk = s.clk ∧ (putSeqSide s x1).pwr =
    s.pwr ∧ (putSeqSide s x1).reed = s.reed ∧ (putSeqSide s x1).port = s.port ∧ (putSeqSide s x1).uart = s.uart ∧
    (putSeqSide s x1).usb = s.usb ∧ (putSeqSide s x1).net = s.net ∧ (putSeqSide s x1).ctxs = s.ctxs ∧ (putSeqSide s
    x1).params = s.params ∧ (putSeqSide s x1).nvm = s.nvm ∧ (putSeqSide s x1).log = s.log ∧ (putSeqSide s x1).jobs =
    s.jobs ∧ (putSeqSide s x1).motion = s.motion ∧ (putSeqSide s x1).noz = s.noz ∧ (putSeqSide s x1).hub = s.hub ∧
    (putSeqSide s x1).cal = s.cal ∧ (putSeqSide s x1).otp = s.otp ∧ (putSeqSide s x1).dbg = s.dbg ∧ (putSeqSide s
    x1).cvu = s.cvu ∧ (putSeqSide s x1).pending = s.pending := by
  simp [putSeqSide]

@[simp] theorem noteOtpRd_frame (s : State) (x1 : Nat) : (noteOtpRd s x1).clk = s.clk ∧ (noteOtpRd s x1).pwr = s.pwr ∧
    (noteOtpRd s x1).reed = s.reed ∧ (noteOtpRd s x1).port = s.port ∧ (noteOtpRd s x1).uart = s.uart ∧ (noteOtpRd s
    x1).usb = s.usb ∧ (noteOtpRd s x1).net = s.net ∧ (noteOtpRd s x1).ctxs = s.ctxs ∧ (noteOtpRd s x1).params =
    s.params ∧ (noteOtpRd s x1).nvm = s.nvm ∧ (noteOtpRd s x1).log = s.log ∧ (noteOtpRd s x1).jobs = s.jobs ∧
    (noteOtpRd s x1).saf = s.saf ∧ (noteOtpRd s x1).fife = s.fife ∧ (noteOtpRd s x1).motion = s.motion ∧ (noteOtpRd s
    x1).noz = s.noz ∧ (noteOtpRd s x1).hub = s.hub ∧ (noteOtpRd s x1).cal = s.cal ∧ (noteOtpRd s x1).seq = s.seq ∧
    (noteOtpRd s x1).otp = s.otp ∧ (noteOtpRd s x1).dbg = s.dbg ∧ (noteOtpRd s x1).cvu = s.cvu ∧ (noteOtpRd s
    x1).pending = s.pending := by
  simp [noteOtpRd]

@[simp] theorem noteHubCfg_frame (s : State) (x1 : Nat) (x2 : HubEntry) : (noteHubCfg s x1 x2).clk = s.clk ∧
    (noteHubCfg s x1 x2).pwr = s.pwr ∧ (noteHubCfg s x1 x2).reed = s.reed ∧ (noteHubCfg s x1 x2).port = s.port ∧
    (noteHubCfg s x1 x2).uart = s.uart ∧ (noteHubCfg s x1 x2).usb = s.usb ∧ (noteHubCfg s x1 x2).net = s.net ∧
    (noteHubCfg s x1 x2).ctxs = s.ctxs ∧ (noteHubCfg s x1 x2).params = s.params ∧ (noteHubCfg s x1 x2).nvm = s.nvm ∧
    (noteHubCfg s x1 x2).log = s.log ∧ (noteHubCfg s x1 x2).jobs = s.jobs ∧ (noteHubCfg s x1 x2).saf = s.saf ∧
    (noteHubCfg s x1 x2).fife = s.fife ∧ (noteHubCfg s x1 x2).motion = s.motion ∧ (noteHubCfg s x1 x2).noz = s.noz ∧
    (noteHubCfg s x1 x2).hub = s.hub ∧ (noteHubCfg s x1 x2).cal = s.cal ∧ (noteHubCfg s x1 x2).seq = s.seq ∧
    (noteHubCfg s x1 x2).otp = s.otp ∧ (noteHubCfg s x1 x2).dbg = s.dbg ∧ (noteHubCfg s x1 x2).cvu = s.cvu ∧
    (noteHubCfg s x1 x2).pending = s.pending := by
  simp [noteHubCfg]

@[simp] theorem countLost_frame (s : State) (x1 : Nat) : (countLost s x1).rst = s.rst ∧ (countLost s x1).clk = s.clk ∧
    (countLost s x1).pwr = s.pwr ∧ (countLost s x1).reed = s.reed ∧ (countLost s x1).port = s.port ∧ (countLost s
    x1).uart = s.uart ∧ (countLost s x1).usb = s.usb ∧ (countLost s x1).net = s.net ∧ (countLost s x1).ctxs = s.ctxs ∧
    (countLost s x1).params = s.params ∧ (countLost s x1).nvm = s.nvm ∧ (countLost s x1).jobs = s.jobs ∧ (countLost s
    x1).saf = s.saf ∧ (countLost s x1).fife = s.fife ∧ (countLost s x1).motion = s.motion ∧ (countLost s x1).noz =
    s.noz ∧ (countLost s x1).hub = s.hub ∧ (countLost s x1).cal = s.cal ∧ (countLost s x1).seq = s.seq ∧ (countLost s
    x1).otp = s.otp ∧ (countLost s x1).dbg = s.dbg ∧ (countLost s x1).cvu = s.cvu ∧ (countLost s x1).pending =
    s.pending := by
  simp [countLost]

@[simp] theorem logAt_frame (s : State) (x1 : Nat) (x2 : List Sys2Proof.Byte) (x3 : Sys2Proof.Byte) (x4 : Nat) (x5 :
    Sys2Proof.Time) : (logAt s x1 x2 x3 x4 x5).rst = s.rst ∧ (logAt s x1 x2 x3 x4 x5).clk = s.clk ∧ (logAt s x1 x2 x3
    x4 x5).pwr = s.pwr ∧ (logAt s x1 x2 x3 x4 x5).reed = s.reed ∧ (logAt s x1 x2 x3 x4 x5).port = s.port ∧ (logAt s x1
    x2 x3 x4 x5).uart = s.uart ∧ (logAt s x1 x2 x3 x4 x5).usb = s.usb ∧ (logAt s x1 x2 x3 x4 x5).net = s.net ∧ (logAt
    s x1 x2 x3 x4 x5).ctxs = s.ctxs ∧ (logAt s x1 x2 x3 x4 x5).params = s.params ∧ (logAt s x1 x2 x3 x4 x5).nvm =
    s.nvm ∧ (logAt s x1 x2 x3 x4 x5).jobs = s.jobs ∧ (logAt s x1 x2 x3 x4 x5).saf = s.saf ∧ (logAt s x1 x2 x3 x4
    x5).fife = s.fife ∧ (logAt s x1 x2 x3 x4 x5).motion = s.motion ∧ (logAt s x1 x2 x3 x4 x5).noz = s.noz ∧ (logAt s
    x1 x2 x3 x4 x5).hub = s.hub ∧ (logAt s x1 x2 x3 x4 x5).cal = s.cal ∧ (logAt s x1 x2 x3 x4 x5).seq = s.seq ∧ (logAt
    s x1 x2 x3 x4 x5).otp = s.otp ∧ (logAt s x1 x2 x3 x4 x5).dbg = s.dbg ∧ (logAt s x1 x2 x3 x4 x5).cvu = s.cvu ∧
    (logAt s x1 x2 x3 x4 x5).pending = s.pending := by
  simp [logAt]

@[simp] theorem logFor_frame (s : State) (x1 : Nat) (x2 : List Sys2Proof.Byte) (x3 : Sys2Proof.Byte) (x4 : Nat) :
    (logFor s x1 x2 x3 x4).rst = s.rst ∧ (logFor s x1 x2 x3 x4).clk = s.clk ∧ (logFor s x1 x2 x3 x4).pwr = s.pwr ∧
    (logFor s x1 x2 x3 x4).reed = s.reed ∧ (logFor s x1 x2 x3 x4).port = s.port ∧ (logFor s x1 x2 x3 x4).uart = s.uart
    ∧ (logFor s x1 x2 x3 x4).usb = s.usb ∧ (logFor s x1 x2 x3 x4).net = s.net ∧ (logFor s x1 x2 x3 x4).ctxs = s.ctxs ∧
    (logFor s x1 x2 x3 x4).params = s.params ∧ (logFor s x1 x2 x3 x4).nvm = s.nvm ∧ (logFor s x1 x2 x3 x4).jobs =
    s.jobs ∧ (logFor s x1 x2 x3 x4).saf = s.saf ∧ (logFor s x1 x2 x3 x4).fife = s.fife ∧ (logFor s x1 x2 x3 x4).motion
    = s.motion ∧ (logFor s x1 x2 x3 x4).noz = s.noz ∧ (logFor s x1 x2 x3 x4).hub = s.hub ∧ (logFor s x1 x2 x3 x4).cal
    = s.cal ∧ (logFor s x1 x2 x3 x4).seq = s.seq ∧ (logFor s x1 x2 x3 x4).otp = s.otp ∧ (logFor s x1 x2 x3 x4).dbg =
    s.dbg ∧ (logFor s x1 x2 x3 x4).cvu = s.cvu ∧ (logFor s x1 x2 x3 x4).pending = s.pending := by
  simp [logFor]

@[simp] theorem logEvent_frame (s : State) (x1 : Nat) (x2 : List Sys2Proof.Byte) : (logEvent s x1 x2).rst = s.rst ∧
    (logEvent s x1 x2).clk = s.clk ∧ (logEvent s x1 x2).pwr = s.pwr ∧ (logEvent s x1 x2).reed = s.reed ∧ (logEvent s
    x1 x2).port = s.port ∧ (logEvent s x1 x2).uart = s.uart ∧ (logEvent s x1 x2).usb = s.usb ∧ (logEvent s x1 x2).net
    = s.net ∧ (logEvent s x1 x2).ctxs = s.ctxs ∧ (logEvent s x1 x2).params = s.params ∧ (logEvent s x1 x2).nvm = s.nvm
    ∧ (logEvent s x1 x2).jobs = s.jobs ∧ (logEvent s x1 x2).saf = s.saf ∧ (logEvent s x1 x2).fife = s.fife ∧ (logEvent
    s x1 x2).motion = s.motion ∧ (logEvent s x1 x2).noz = s.noz ∧ (logEvent s x1 x2).hub = s.hub ∧ (logEvent s x1
    x2).cal = s.cal ∧ (logEvent s x1 x2).seq = s.seq ∧ (logEvent s x1 x2).otp = s.otp ∧ (logEvent s x1 x2).dbg = s.dbg
    ∧ (logEvent s x1 x2).cvu = s.cvu ∧ (logEvent s x1 x2).pending = s.pending := by
  simp [logEvent]

@[simp] theorem countNotifLost_frame (s : State) (x1 : Nat) : (countNotifLost s x1).rst = s.rst ∧ (countNotifLost s
    x1).clk = s.clk ∧ (countNotifLost s x1).pwr = s.pwr ∧ (countNotifLost s x1).reed = s.reed ∧ (countNotifLost s
    x1).uart = s.uart ∧ (countNotifLost s x1).net = s.net ∧ (countNotifLost s x1).params = s.params ∧ (countNotifLost
    s x1).nvm = s.nvm ∧ (countNotifLost s x1).log = s.log ∧ (countNotifLost s x1).jobs = s.jobs ∧ (countNotifLost s
    x1).saf = s.saf ∧ (countNotifLost s x1).fife = s.fife ∧ (countNotifLost s x1).motion = s.motion ∧ (countNotifLost
    s x1).noz = s.noz ∧ (countNotifLost s x1).hub = s.hub ∧ (countNotifLost s x1).cal = s.cal ∧ (countNotifLost s
    x1).seq = s.seq ∧ (countNotifLost s x1).otp = s.otp ∧ (countNotifLost s x1).dbg = s.dbg ∧ (countNotifLost s
    x1).cvu = s.cvu ∧ (countNotifLost s x1).pending = s.pending := by
  simp [countNotifLost]

@[simp] theorem notify_frame (s : State) (x1 : Nat) (x2 : Nat) (x3 : Nat) (x4 : List Sys2Proof.Byte) : (notify s x1 x2
    x3 x4).rst = s.rst ∧ (notify s x1 x2 x3 x4).clk = s.clk ∧ (notify s x1 x2 x3 x4).pwr = s.pwr ∧ (notify s x1 x2 x3
    x4).reed = s.reed ∧ (notify s x1 x2 x3 x4).uart = s.uart ∧ (notify s x1 x2 x3 x4).net = s.net ∧ (notify s x1 x2 x3
    x4).params = s.params ∧ (notify s x1 x2 x3 x4).nvm = s.nvm ∧ (notify s x1 x2 x3 x4).log = s.log ∧ (notify s x1 x2
    x3 x4).jobs = s.jobs ∧ (notify s x1 x2 x3 x4).saf = s.saf ∧ (notify s x1 x2 x3 x4).fife = s.fife ∧ (notify s x1 x2
    x3 x4).motion = s.motion ∧ (notify s x1 x2 x3 x4).noz = s.noz ∧ (notify s x1 x2 x3 x4).hub = s.hub ∧ (notify s x1
    x2 x3 x4).cal = s.cal ∧ (notify s x1 x2 x3 x4).seq = s.seq ∧ (notify s x1 x2 x3 x4).otp = s.otp ∧ (notify s x1 x2
    x3 x4).dbg = s.dbg ∧ (notify s x1 x2 x3 x4).cvu = s.cvu ∧ (notify s x1 x2 x3 x4).pending = s.pending := by
  simp [notify]

@[simp] theorem notifyWhere_frame (s : State) (x1 : Nat → Bool) (x2 : Nat) (x3 : List Sys2Proof.Byte) : (notifyWhere s
    x1 x2 x3).rst = s.rst ∧ (notifyWhere s x1 x2 x3).clk = s.clk ∧ (notifyWhere s x1 x2 x3).pwr = s.pwr ∧ (notifyWhere
    s x1 x2 x3).reed = s.reed ∧ (notifyWhere s x1 x2 x3).uart = s.uart ∧ (notifyWhere s x1 x2 x3).net = s.net ∧
    (notifyWhere s x1 x2 x3).params = s.params ∧ (notifyWhere s x1 x2 x3).nvm = s.nvm ∧ (notifyWhere s x1 x2 x3).log =
    s.log ∧ (notifyWhere s x1 x2 x3).jobs = s.jobs ∧ (notifyWhere s x1 x2 x3).saf = s.saf ∧ (notifyWhere s x1 x2
    x3).fife = s.fife ∧ (notifyWhere s x1 x2 x3).motion = s.motion ∧ (notifyWhere s x1 x2 x3).noz = s.noz ∧
    (notifyWhere s x1 x2 x3).hub = s.hub ∧ (notifyWhere s x1 x2 x3).cal = s.cal ∧ (notifyWhere s x1 x2 x3).seq = s.seq
    ∧ (notifyWhere s x1 x2 x3).otp = s.otp ∧ (notifyWhere s x1 x2 x3).dbg = s.dbg ∧ (notifyWhere s x1 x2 x3).cvu =
    s.cvu ∧ (notifyWhere s x1 x2 x3).pending = s.pending := by
  simp [notifyWhere]

@[simp] theorem notifyRight_frame (s : State) (x1 : Nat) (x2 : Nat) (x3 : List Sys2Proof.Byte) : (notifyRight s x1 x2
    x3).rst = s.rst ∧ (notifyRight s x1 x2 x3).clk = s.clk ∧ (notifyRight s x1 x2 x3).pwr = s.pwr ∧ (notifyRight s x1
    x2 x3).reed = s.reed ∧ (notifyRight s x1 x2 x3).uart = s.uart ∧ (notifyRight s x1 x2 x3).net = s.net ∧
    (notifyRight s x1 x2 x3).params = s.params ∧ (notifyRight s x1 x2 x3).nvm = s.nvm ∧ (notifyRight s x1 x2 x3).log =
    s.log ∧ (notifyRight s x1 x2 x3).jobs = s.jobs ∧ (notifyRight s x1 x2 x3).saf = s.saf ∧ (notifyRight s x1 x2
    x3).fife = s.fife ∧ (notifyRight s x1 x2 x3).motion = s.motion ∧ (notifyRight s x1 x2 x3).noz = s.noz ∧
    (notifyRight s x1 x2 x3).hub = s.hub ∧ (notifyRight s x1 x2 x3).cal = s.cal ∧ (notifyRight s x1 x2 x3).seq = s.seq
    ∧ (notifyRight s x1 x2 x3).otp = s.otp ∧ (notifyRight s x1 x2 x3).dbg = s.dbg ∧ (notifyRight s x1 x2 x3).cvu =
    s.cvu ∧ (notifyRight s x1 x2 x3).pending = s.pending := by
  simp [notifyRight]

@[simp] theorem commandDone_frame (s : State) (x1 : Nat) (x2 : Sys2Proof.Half) (x3 : Sys2Proof.Half) (x4 : Nat) (x5 :
    List Sys2Proof.Byte) : (commandDone s x1 x2 x3 x4 x5).rst = s.rst ∧ (commandDone s x1 x2 x3 x4 x5).clk = s.clk ∧
    (commandDone s x1 x2 x3 x4 x5).pwr = s.pwr ∧ (commandDone s x1 x2 x3 x4 x5).reed = s.reed ∧ (commandDone s x1 x2
    x3 x4 x5).uart = s.uart ∧ (commandDone s x1 x2 x3 x4 x5).net = s.net ∧ (commandDone s x1 x2 x3 x4 x5).params =
    s.params ∧ (commandDone s x1 x2 x3 x4 x5).nvm = s.nvm ∧ (commandDone s x1 x2 x3 x4 x5).log = s.log ∧ (commandDone
    s x1 x2 x3 x4 x5).jobs = s.jobs ∧ (commandDone s x1 x2 x3 x4 x5).saf = s.saf ∧ (commandDone s x1 x2 x3 x4 x5).fife
    = s.fife ∧ (commandDone s x1 x2 x3 x4 x5).motion = s.motion ∧ (commandDone s x1 x2 x3 x4 x5).noz = s.noz ∧
    (commandDone s x1 x2 x3 x4 x5).hub = s.hub ∧ (commandDone s x1 x2 x3 x4 x5).cal = s.cal ∧ (commandDone s x1 x2 x3
    x4 x5).seq = s.seq ∧ (commandDone s x1 x2 x3 x4 x5).otp = s.otp ∧ (commandDone s x1 x2 x3 x4 x5).dbg = s.dbg ∧
    (commandDone s x1 x2 x3 x4 x5).cvu = s.cvu ∧ (commandDone s x1 x2 x3 x4 x5).pending = s.pending := by
  simp [commandDone]

@[simp] theorem modJob_frame (s : State) (x1 : Nat) (x2 : Job → Job) : (modJob s x1 x2).rst = s.rst ∧ (modJob s x1
    x2).clk = s.clk ∧ (modJob s x1 x2).pwr = s.pwr ∧ (modJob s x1 x2).reed = s.reed ∧ (modJob s x1 x2).port = s.port ∧
    (modJob s x1 x2).uart = s.uart ∧ (modJob s x1 x2).usb = s.usb ∧ (modJob s x1 x2).net = s.net ∧ (modJob s x1
    x2).ctxs = s.ctxs ∧ (modJob s x1 x2).params = s.params ∧ (modJob s x1 x2).nvm = s.nvm ∧ (modJob s x1 x2).log =
    s.log ∧ (modJob s x1 x2).saf = s.saf ∧ (modJob s x1 x2).fife = s.fife ∧ (modJob s x1 x2).motion = s.motion ∧
    (modJob s x1 x2).noz = s.noz ∧ (modJob s x1 x2).hub = s.hub ∧ (modJob s x1 x2).cal = s.cal ∧ (modJob s x1 x2).seq
    = s.seq ∧ (modJob s x1 x2).otp = s.otp ∧ (modJob s x1 x2).dbg = s.dbg ∧ (modJob s x1 x2).cvu = s.cvu ∧ (modJob s
    x1 x2).pending = s.pending := by
  simp [modJob]

@[simp] theorem notifyJob_frame (s : State) (x1 : Job) (x2 : Nat) (x3 : Nat) : (notifyJob s x1 x2 x3).rst = s.rst ∧
    (notifyJob s x1 x2 x3).clk = s.clk ∧ (notifyJob s x1 x2 x3).pwr = s.pwr ∧ (notifyJob s x1 x2 x3).reed = s.reed ∧
    (notifyJob s x1 x2 x3).uart = s.uart ∧ (notifyJob s x1 x2 x3).net = s.net ∧ (notifyJob s x1 x2 x3).params =
    s.params ∧ (notifyJob s x1 x2 x3).nvm = s.nvm ∧ (notifyJob s x1 x2 x3).log = s.log ∧ (notifyJob s x1 x2 x3).jobs =
    s.jobs ∧ (notifyJob s x1 x2 x3).saf = s.saf ∧ (notifyJob s x1 x2 x3).fife = s.fife ∧ (notifyJob s x1 x2 x3).motion
    = s.motion ∧ (notifyJob s x1 x2 x3).noz = s.noz ∧ (notifyJob s x1 x2 x3).hub = s.hub ∧ (notifyJob s x1 x2 x3).cal
    = s.cal ∧ (notifyJob s x1 x2 x3).seq = s.seq ∧ (notifyJob s x1 x2 x3).otp = s.otp ∧ (notifyJob s x1 x2 x3).dbg =
    s.dbg ∧ (notifyJob s x1 x2 x3).cvu = s.cvu ∧ (notifyJob s x1 x2 x3).pending = s.pending := by
  simp [notifyJob]

@[simp] theorem dropStale_frame (s : State) : (dropStale s).rst = s.rst ∧ (dropStale s).clk = s.clk ∧ (dropStale
    s).pwr = s.pwr ∧ (dropStale s).reed = s.reed ∧ (dropStale s).port = s.port ∧ (dropStale s).uart = s.uart ∧
    (dropStale s).usb = s.usb ∧ (dropStale s).net = s.net ∧ (dropStale s).ctxs = s.ctxs ∧ (dropStale s).params =
    s.params ∧ (dropStale s).log = s.log ∧ (dropStale s).jobs = s.jobs ∧ (dropStale s).saf = s.saf ∧ (dropStale
    s).fife = s.fife ∧ (dropStale s).motion = s.motion ∧ (dropStale s).noz = s.noz ∧ (dropStale s).hub = s.hub ∧
    (dropStale s).cal = s.cal ∧ (dropStale s).seq = s.seq ∧ (dropStale s).otp = s.otp ∧ (dropStale s).dbg = s.dbg ∧
    (dropStale s).cvu = s.cvu ∧ (dropStale s).pending = s.pending := by
  simp [dropStale]

@[simp] theorem yieldScan_frame (s : State) : (yieldScan s).rst = s.rst ∧ (yieldScan s).clk = s.clk ∧ (yieldScan
    s).pwr = s.pwr ∧ (yieldScan s).reed = s.reed ∧ (yieldScan s).port = s.port ∧ (yieldScan s).uart = s.uart ∧
    (yieldScan s).usb = s.usb ∧ (yieldScan s).net = s.net ∧ (yieldScan s).ctxs = s.ctxs ∧ (yieldScan s).params =
    s.params ∧ (yieldScan s).nvm = s.nvm ∧ (yieldScan s).log = s.log ∧ (yieldScan s).jobs = s.jobs ∧ (yieldScan s).saf
    = s.saf ∧ (yieldScan s).fife = s.fife ∧ (yieldScan s).motion = s.motion ∧ (yieldScan s).hub = s.hub ∧ (yieldScan
    s).cal = s.cal ∧ (yieldScan s).seq = s.seq ∧ (yieldScan s).otp = s.otp ∧ (yieldScan s).dbg = s.dbg ∧ (yieldScan
    s).cvu = s.cvu ∧ (yieldScan s).pending = s.pending := by
  simp [yieldScan]

@[simp] theorem setJobHeld_frame (s : State) (x1 : Nat) (x2 : JobSt) (x3 : Nat) (x4 : Sys2Proof.Half) : (setJobHeld s
    x1 x2 x3 x4).rst = s.rst ∧ (setJobHeld s x1 x2 x3 x4).clk = s.clk ∧ (setJobHeld s x1 x2 x3 x4).pwr = s.pwr ∧
    (setJobHeld s x1 x2 x3 x4).reed = s.reed ∧ (setJobHeld s x1 x2 x3 x4).uart = s.uart ∧ (setJobHeld s x1 x2 x3
    x4).net = s.net ∧ (setJobHeld s x1 x2 x3 x4).params = s.params ∧ (setJobHeld s x1 x2 x3 x4).log = s.log ∧
    (setJobHeld s x1 x2 x3 x4).saf = s.saf ∧ (setJobHeld s x1 x2 x3 x4).fife = s.fife ∧ (setJobHeld s x1 x2 x3
    x4).motion = s.motion ∧ (setJobHeld s x1 x2 x3 x4).hub = s.hub ∧ (setJobHeld s x1 x2 x3 x4).cal = s.cal ∧
    (setJobHeld s x1 x2 x3 x4).seq = s.seq ∧ (setJobHeld s x1 x2 x3 x4).otp = s.otp ∧ (setJobHeld s x1 x2 x3 x4).dbg =
    s.dbg ∧ (setJobHeld s x1 x2 x3 x4).cvu = s.cvu ∧ (setJobHeld s x1 x2 x3 x4).pending = s.pending := by
  simp only [setJobHeld]; (repeat' split) <;> simp

@[simp] theorem setJobState_frame (s : State) (x1 : Nat) (x2 : JobSt) (x3 : Nat) : (setJobState s x1 x2 x3).rst =
    s.rst ∧ (setJobState s x1 x2 x3).clk = s.clk ∧ (setJobState s x1 x2 x3).pwr = s.pwr ∧ (setJobState s x1 x2
    x3).reed = s.reed ∧ (setJobState s x1 x2 x3).uart = s.uart ∧ (setJobState s x1 x2 x3).net = s.net ∧ (setJobState s
    x1 x2 x3).params = s.params ∧ (setJobState s x1 x2 x3).log = s.log ∧ (setJobState s x1 x2 x3).saf = s.saf ∧
    (setJobState s x1 x2 x3).fife = s.fife ∧ (setJobState s x1 x2 x3).motion = s.motion ∧ (setJobState s x1 x2 x3).hub
    = s.hub ∧ (setJobState s x1 x2 x3).cal = s.cal ∧ (setJobState s x1 x2 x3).seq = s.seq ∧ (setJobState s x1 x2
    x3).otp = s.otp ∧ (setJobState s x1 x2 x3).dbg = s.dbg ∧ (setJobState s x1 x2 x3).cvu = s.cvu ∧ (setJobState s x1
    x2 x3).pending = s.pending := by
  simp only [setJobState]; (repeat' split) <;> simp

@[simp] theorem retireJob_frame (s : State) (x1 : Nat) : (retireJob s x1).rst = s.rst ∧ (retireJob s x1).clk = s.clk ∧
    (retireJob s x1).pwr = s.pwr ∧ (retireJob s x1).reed = s.reed ∧ (retireJob s x1).port = s.port ∧ (retireJob s
    x1).uart = s.uart ∧ (retireJob s x1).usb = s.usb ∧ (retireJob s x1).net = s.net ∧ (retireJob s x1).ctxs = s.ctxs ∧
    (retireJob s x1).params = s.params ∧ (retireJob s x1).nvm = s.nvm ∧ (retireJob s x1).log = s.log ∧ (retireJob s
    x1).saf = s.saf ∧ (retireJob s x1).fife = s.fife ∧ (retireJob s x1).motion = s.motion ∧ (retireJob s x1).noz =
    s.noz ∧ (retireJob s x1).hub = s.hub ∧ (retireJob s x1).cal = s.cal ∧ (retireJob s x1).seq = s.seq ∧ (retireJob s
    x1).otp = s.otp ∧ (retireJob s x1).dbg = s.dbg ∧ (retireJob s x1).cvu = s.cvu ∧ (retireJob s x1).pending =
    s.pending := by
  simp only [retireJob]; (repeat' split) <;> simp

@[simp] theorem finishJob_frame (s : State) (x1 : Nat) (x2 : JobSt) (x3 : Nat) : (finishJob s x1 x2 x3).rst = s.rst ∧
    (finishJob s x1 x2 x3).clk = s.clk ∧ (finishJob s x1 x2 x3).pwr = s.pwr ∧ (finishJob s x1 x2 x3).reed = s.reed ∧
    (finishJob s x1 x2 x3).uart = s.uart ∧ (finishJob s x1 x2 x3).net = s.net ∧ (finishJob s x1 x2 x3).params =
    s.params ∧ (finishJob s x1 x2 x3).log = s.log ∧ (finishJob s x1 x2 x3).saf = s.saf ∧ (finishJob s x1 x2 x3).fife =
    s.fife ∧ (finishJob s x1 x2 x3).motion = s.motion ∧ (finishJob s x1 x2 x3).hub = s.hub ∧ (finishJob s x1 x2
    x3).cal = s.cal ∧ (finishJob s x1 x2 x3).seq = s.seq ∧ (finishJob s x1 x2 x3).otp = s.otp ∧ (finishJob s x1 x2
    x3).dbg = s.dbg ∧ (finishJob s x1 x2 x3).cvu = s.cvu ∧ (finishJob s x1 x2 x3).pending = s.pending := by
  simp [finishJob]

@[simp] theorem interruptJob_frame (s : State) (x1 : Nat) (x2 : Nat) (x3 : Bool) : (interruptJob s x1 x2 x3).rst =
    s.rst ∧ (interruptJob s x1 x2 x3).clk = s.clk ∧ (interruptJob s x1 x2 x3).pwr = s.pwr ∧ (interruptJob s x1 x2
    x3).reed = s.reed ∧ (interruptJob s x1 x2 x3).uart = s.uart ∧ (interruptJob s x1 x2 x3).net = s.net ∧
    (interruptJob s x1 x2 x3).params = s.params ∧ (interruptJob s x1 x2 x3).log = s.log ∧ (interruptJob s x1 x2
    x3).saf = s.saf ∧ (interruptJob s x1 x2 x3).fife = s.fife ∧ (interruptJob s x1 x2 x3).motion = s.motion ∧
    (interruptJob s x1 x2 x3).hub = s.hub ∧ (interruptJob s x1 x2 x3).cal = s.cal ∧ (interruptJob s x1 x2 x3).seq =
    s.seq ∧ (interruptJob s x1 x2 x3).otp = s.otp ∧ (interruptJob s x1 x2 x3).dbg = s.dbg ∧ (interruptJob s x1 x2
    x3).cvu = s.cvu ∧ (interruptJob s x1 x2 x3).pending = s.pending := by
  simp only [interruptJob]; (repeat' split) <;> simp

@[simp] theorem raiseEn_frame (s : State) (x1 : BitVec 3) : (raiseEn s x1).rst = s.rst ∧ (raiseEn s x1).clk = s.clk ∧
    (raiseEn s x1).pwr = s.pwr ∧ (raiseEn s x1).reed = s.reed ∧ (raiseEn s x1).port = s.port ∧ (raiseEn s x1).uart =
    s.uart ∧ (raiseEn s x1).usb = s.usb ∧ (raiseEn s x1).net = s.net ∧ (raiseEn s x1).ctxs = s.ctxs ∧ (raiseEn s
    x1).params = s.params ∧ (raiseEn s x1).nvm = s.nvm ∧ (raiseEn s x1).log = s.log ∧ (raiseEn s x1).jobs = s.jobs ∧
    (raiseEn s x1).saf = s.saf ∧ (raiseEn s x1).fife = s.fife ∧ (raiseEn s x1).noz = s.noz ∧ (raiseEn s x1).hub =
    s.hub ∧ (raiseEn s x1).cal = s.cal ∧ (raiseEn s x1).seq = s.seq ∧ (raiseEn s x1).otp = s.otp ∧ (raiseEn s x1).dbg
    = s.dbg ∧ (raiseEn s x1).cvu = s.cvu ∧ (raiseEn s x1).pending = s.pending := by
  simp [raiseEn]

@[simp] theorem setCutHome_frame (s : State) (x1 : Bool) : (setCutHome s x1).rst = s.rst ∧ (setCutHome s x1).clk =
    s.clk ∧ (setCutHome s x1).pwr = s.pwr ∧ (setCutHome s x1).reed = s.reed ∧ (setCutHome s x1).port = s.port ∧
    (setCutHome s x1).uart = s.uart ∧ (setCutHome s x1).usb = s.usb ∧ (setCutHome s x1).net = s.net ∧ (setCutHome s
    x1).ctxs = s.ctxs ∧ (setCutHome s x1).params = s.params ∧ (setCutHome s x1).nvm = s.nvm ∧ (setCutHome s x1).log =
    s.log ∧ (setCutHome s x1).jobs = s.jobs ∧ (setCutHome s x1).saf = s.saf ∧ (setCutHome s x1).fife = s.fife ∧
    (setCutHome s x1).noz = s.noz ∧ (setCutHome s x1).hub = s.hub ∧ (setCutHome s x1).cal = s.cal ∧ (setCutHome s
    x1).seq = s.seq ∧ (setCutHome s x1).otp = s.otp ∧ (setCutHome s x1).dbg = s.dbg ∧ (setCutHome s x1).cvu = s.cvu ∧
    (setCutHome s x1).pending = s.pending := by
  simp [setCutHome]

@[simp] theorem sledTo_frame (s : State) (x1 : Nat) : (sledTo s x1).rst = s.rst ∧ (sledTo s x1).clk = s.clk ∧ (sledTo
    s x1).pwr = s.pwr ∧ (sledTo s x1).reed = s.reed ∧ (sledTo s x1).port = s.port ∧ (sledTo s x1).uart = s.uart ∧
    (sledTo s x1).usb = s.usb ∧ (sledTo s x1).net = s.net ∧ (sledTo s x1).ctxs = s.ctxs ∧ (sledTo s x1).params =
    s.params ∧ (sledTo s x1).nvm = s.nvm ∧ (sledTo s x1).log = s.log ∧ (sledTo s x1).jobs = s.jobs ∧ (sledTo s x1).saf
    = s.saf ∧ (sledTo s x1).fife = s.fife ∧ (sledTo s x1).noz = s.noz ∧ (sledTo s x1).hub = s.hub ∧ (sledTo s x1).cal
    = s.cal ∧ (sledTo s x1).seq = s.seq ∧ (sledTo s x1).otp = s.otp ∧ (sledTo s x1).dbg = s.dbg ∧ (sledTo s x1).cvu =
    s.cvu ∧ (sledTo s x1).pending = s.pending := by
  simp [sledTo]

@[simp] theorem stopFeed_frame (s : State) (x1 : FeedUse) : (stopFeed s x1).rst = s.rst ∧ (stopFeed s x1).clk = s.clk
    ∧ (stopFeed s x1).pwr = s.pwr ∧ (stopFeed s x1).reed = s.reed ∧ (stopFeed s x1).port = s.port ∧ (stopFeed s
    x1).uart = s.uart ∧ (stopFeed s x1).usb = s.usb ∧ (stopFeed s x1).net = s.net ∧ (stopFeed s x1).ctxs = s.ctxs ∧
    (stopFeed s x1).params = s.params ∧ (stopFeed s x1).nvm = s.nvm ∧ (stopFeed s x1).log = s.log ∧ (stopFeed s
    x1).jobs = s.jobs ∧ (stopFeed s x1).saf = s.saf ∧ (stopFeed s x1).fife = s.fife ∧ (stopFeed s x1).noz = s.noz ∧
    (stopFeed s x1).hub = s.hub ∧ (stopFeed s x1).cal = s.cal ∧ (stopFeed s x1).seq = s.seq ∧ (stopFeed s x1).otp =
    s.otp ∧ (stopFeed s x1).dbg = s.dbg ∧ (stopFeed s x1).cvu = s.cvu ∧ (stopFeed s x1).pending = s.pending := by
  simp [stopFeed]

@[simp] theorem slowDown_frame (s : State) (x1 : FeedUse) : (slowDown s x1).rst = s.rst ∧ (slowDown s x1).clk = s.clk
    ∧ (slowDown s x1).pwr = s.pwr ∧ (slowDown s x1).reed = s.reed ∧ (slowDown s x1).port = s.port ∧ (slowDown s
    x1).uart = s.uart ∧ (slowDown s x1).usb = s.usb ∧ (slowDown s x1).net = s.net ∧ (slowDown s x1).ctxs = s.ctxs ∧
    (slowDown s x1).params = s.params ∧ (slowDown s x1).nvm = s.nvm ∧ (slowDown s x1).log = s.log ∧ (slowDown s
    x1).jobs = s.jobs ∧ (slowDown s x1).saf = s.saf ∧ (slowDown s x1).fife = s.fife ∧ (slowDown s x1).noz = s.noz ∧
    (slowDown s x1).hub = s.hub ∧ (slowDown s x1).cal = s.cal ∧ (slowDown s x1).seq = s.seq ∧ (slowDown s x1).otp =
    s.otp ∧ (slowDown s x1).dbg = s.dbg ∧ (slowDown s x1).cvu = s.cvu ∧ (slowDown s x1).pending = s.pending := by
  simp [slowDown]

@[simp] theorem haltTicket_frame (s : State) (x1 : Nat) : (haltTicket s x1).rst = s.rst ∧ (haltTicket s x1).clk =
    s.clk ∧ (haltTicket s x1).pwr = s.pwr ∧ (haltTicket s x1).reed = s.reed ∧ (haltTicket s x1).uart = s.uart ∧
    (haltTicket s x1).net = s.net ∧ (haltTicket s x1).params = s.params ∧ (haltTicket s x1).log = s.log ∧ (haltTicket
    s x1).hub = s.hub ∧ (haltTicket s x1).cal = s.cal ∧ (haltTicket s x1).seq = s.seq ∧ (haltTicket s x1).otp = s.otp
    ∧ (haltTicket s x1).dbg = s.dbg ∧ (haltTicket s x1).cvu = s.cvu ∧ (haltTicket s x1).pending = s.pending := by
  simp only [haltTicket]; (repeat' split) <;> simp

@[simp] theorem deriveTrip_frame (s : State) : (deriveTrip s).rst = s.rst ∧ (deriveTrip s).clk = s.clk ∧ (deriveTrip
    s).pwr = s.pwr ∧ (deriveTrip s).reed = s.reed ∧ (deriveTrip s).port = s.port ∧ (deriveTrip s).uart = s.uart ∧
    (deriveTrip s).usb = s.usb ∧ (deriveTrip s).net = s.net ∧ (deriveTrip s).ctxs = s.ctxs ∧ (deriveTrip s).params =
    s.params ∧ (deriveTrip s).nvm = s.nvm ∧ (deriveTrip s).log = s.log ∧ (deriveTrip s).jobs = s.jobs ∧ (deriveTrip
    s).fife = s.fife ∧ (deriveTrip s).motion = s.motion ∧ (deriveTrip s).noz = s.noz ∧ (deriveTrip s).hub = s.hub ∧
    (deriveTrip s).cal = s.cal ∧ (deriveTrip s).seq = s.seq ∧ (deriveTrip s).otp = s.otp ∧ (deriveTrip s).dbg = s.dbg
    ∧ (deriveTrip s).cvu = s.cvu ∧ (deriveTrip s).pending = s.pending := by
  simp [deriveTrip]

@[simp] theorem addFires_frame (s : State) (x1 : List Nat) (x2 : Nat) : (addFires s x1 x2).rst = s.rst ∧ (addFires s
    x1 x2).clk = s.clk ∧ (addFires s x1 x2).pwr = s.pwr ∧ (addFires s x1 x2).reed = s.reed ∧ (addFires s x1 x2).port =
    s.port ∧ (addFires s x1 x2).uart = s.uart ∧ (addFires s x1 x2).usb = s.usb ∧ (addFires s x1 x2).net = s.net ∧
    (addFires s x1 x2).ctxs = s.ctxs ∧ (addFires s x1 x2).params = s.params ∧ (addFires s x1 x2).nvm = s.nvm ∧
    (addFires s x1 x2).log = s.log ∧ (addFires s x1 x2).jobs = s.jobs ∧ (addFires s x1 x2).saf = s.saf ∧ (addFires s
    x1 x2).motion = s.motion ∧ (addFires s x1 x2).noz = s.noz ∧ (addFires s x1 x2).hub = s.hub ∧ (addFires s x1
    x2).cal = s.cal ∧ (addFires s x1 x2).seq = s.seq ∧ (addFires s x1 x2).otp = s.otp ∧ (addFires s x1 x2).dbg = s.dbg
    ∧ (addFires s x1 x2).cvu = s.cvu ∧ (addFires s x1 x2).pending = s.pending := by
  simp [addFires]

@[simp] theorem drawUpTo_frame (s : State) (x1 : Nat) : (drawUpTo s x1).2.rst = s.rst ∧ (drawUpTo s x1).2.pwr = s.pwr
    ∧ (drawUpTo s x1).2.reed = s.reed ∧ (drawUpTo s x1).2.port = s.port ∧ (drawUpTo s x1).2.uart = s.uart ∧ (drawUpTo
    s x1).2.usb = s.usb ∧ (drawUpTo s x1).2.net = s.net ∧ (drawUpTo s x1).2.ctxs = s.ctxs ∧ (drawUpTo s x1).2.params =
    s.params ∧ (drawUpTo s x1).2.nvm = s.nvm ∧ (drawUpTo s x1).2.log = s.log ∧ (drawUpTo s x1).2.jobs = s.jobs ∧
    (drawUpTo s x1).2.saf = s.saf ∧ (drawUpTo s x1).2.fife = s.fife ∧ (drawUpTo s x1).2.motion = s.motion ∧ (drawUpTo
    s x1).2.noz = s.noz ∧ (drawUpTo s x1).2.hub = s.hub ∧ (drawUpTo s x1).2.cal = s.cal ∧ (drawUpTo s x1).2.seq =
    s.seq ∧ (drawUpTo s x1).2.otp = s.otp ∧ (drawUpTo s x1).2.dbg = s.dbg ∧ (drawUpTo s x1).2.cvu = s.cvu ∧ (drawUpTo
    s x1).2.pending = s.pending := by
  simp [drawUpTo]

@[simp] theorem endAction_frame (s : State) (x1 : Nat) (x2 : Nat) (x3 : List Sys2Proof.Byte) : (endAction s x1 x2
    x3).rst = s.rst ∧ (endAction s x1 x2 x3).clk = s.clk ∧ (endAction s x1 x2 x3).pwr = s.pwr ∧ (endAction s x1 x2
    x3).reed = s.reed ∧ (endAction s x1 x2 x3).uart = s.uart ∧ (endAction s x1 x2 x3).net = s.net ∧ (endAction s x1 x2
    x3).params = s.params ∧ (endAction s x1 x2 x3).nvm = s.nvm ∧ (endAction s x1 x2 x3).log = s.log ∧ (endAction s x1
    x2 x3).jobs = s.jobs ∧ (endAction s x1 x2 x3).fife = s.fife ∧ (endAction s x1 x2 x3).motion = s.motion ∧
    (endAction s x1 x2 x3).noz = s.noz ∧ (endAction s x1 x2 x3).hub = s.hub ∧ (endAction s x1 x2 x3).cal = s.cal ∧
    (endAction s x1 x2 x3).seq = s.seq ∧ (endAction s x1 x2 x3).otp = s.otp ∧ (endAction s x1 x2 x3).dbg = s.dbg ∧
    (endAction s x1 x2 x3).cvu = s.cvu ∧ (endAction s x1 x2 x3).pending = s.pending := by
  simp only [endAction]; (repeat' split) <;> simp

@[simp] theorem dropTrial_frame (s : State) : (dropTrial s).rst = s.rst ∧ (dropTrial s).clk = s.clk ∧ (dropTrial
    s).pwr = s.pwr ∧ (dropTrial s).reed = s.reed ∧ (dropTrial s).port = s.port ∧ (dropTrial s).uart = s.uart ∧
    (dropTrial s).usb = s.usb ∧ (dropTrial s).net = s.net ∧ (dropTrial s).ctxs = s.ctxs ∧ (dropTrial s).nvm = s.nvm ∧
    (dropTrial s).log = s.log ∧ (dropTrial s).jobs = s.jobs ∧ (dropTrial s).fife = s.fife ∧ (dropTrial s).motion =
    s.motion ∧ (dropTrial s).noz = s.noz ∧ (dropTrial s).seq = s.seq ∧ (dropTrial s).otp = s.otp ∧ (dropTrial s).dbg =
    s.dbg ∧ (dropTrial s).cvu = s.cvu ∧ (dropTrial s).pending = s.pending := by
  simp [dropTrial]

@[simp] theorem activate_frame (s : State) (x1 : Nat) (x2 : CalSel) : (activate s x1 x2).rst = s.rst ∧ (activate s x1
    x2).clk = s.clk ∧ (activate s x1 x2).pwr = s.pwr ∧ (activate s x1 x2).reed = s.reed ∧ (activate s x1 x2).port =
    s.port ∧ (activate s x1 x2).uart = s.uart ∧ (activate s x1 x2).usb = s.usb ∧ (activate s x1 x2).net = s.net ∧
    (activate s x1 x2).ctxs = s.ctxs ∧ (activate s x1 x2).params = s.params ∧ (activate s x1 x2).nvm = s.nvm ∧
    (activate s x1 x2).log = s.log ∧ (activate s x1 x2).jobs = s.jobs ∧ (activate s x1 x2).saf = s.saf ∧ (activate s
    x1 x2).fife = s.fife ∧ (activate s x1 x2).motion = s.motion ∧ (activate s x1 x2).noz = s.noz ∧ (activate s x1
    x2).hub = s.hub ∧ (activate s x1 x2).seq = s.seq ∧ (activate s x1 x2).otp = s.otp ∧ (activate s x1 x2).dbg = s.dbg
    ∧ (activate s x1 x2).cvu = s.cvu ∧ (activate s x1 x2).pending = s.pending := by
  simp [activate]

@[simp] theorem switchDue_frame (s : State) (x1 : Nat → Bool) : (switchDue s x1).rst = s.rst ∧ (switchDue s x1).clk =
    s.clk ∧ (switchDue s x1).pwr = s.pwr ∧ (switchDue s x1).reed = s.reed ∧ (switchDue s x1).port = s.port ∧
    (switchDue s x1).uart = s.uart ∧ (switchDue s x1).usb = s.usb ∧ (switchDue s x1).net = s.net ∧ (switchDue s
    x1).ctxs = s.ctxs ∧ (switchDue s x1).params = s.params ∧ (switchDue s x1).nvm = s.nvm ∧ (switchDue s x1).log =
    s.log ∧ (switchDue s x1).jobs = s.jobs ∧ (switchDue s x1).saf = s.saf ∧ (switchDue s x1).fife = s.fife ∧
    (switchDue s x1).motion = s.motion ∧ (switchDue s x1).noz = s.noz ∧ (switchDue s x1).hub = s.hub ∧ (switchDue s
    x1).seq = s.seq ∧ (switchDue s x1).otp = s.otp ∧ (switchDue s x1).dbg = s.dbg ∧ (switchDue s x1).cvu = s.cvu ∧
    (switchDue s x1).pending = s.pending := by
  simp only [switchDue]; (repeat' split) <;> simp

@[simp] theorem cutHeadFires_frame (s : State) (x1 : Action) : (cutHeadFires s x1).rst = s.rst ∧ (cutHeadFires s
    x1).pwr = s.pwr ∧ (cutHeadFires s x1).reed = s.reed ∧ (cutHeadFires s x1).port = s.port ∧ (cutHeadFires s x1).uart
    = s.uart ∧ (cutHeadFires s x1).usb = s.usb ∧ (cutHeadFires s x1).net = s.net ∧ (cutHeadFires s x1).ctxs = s.ctxs ∧
    (cutHeadFires s x1).params = s.params ∧ (cutHeadFires s x1).nvm = s.nvm ∧ (cutHeadFires s x1).log = s.log ∧
    (cutHeadFires s x1).jobs = s.jobs ∧ (cutHeadFires s x1).saf = s.saf ∧ (cutHeadFires s x1).noz = s.noz ∧
    (cutHeadFires s x1).hub = s.hub ∧ (cutHeadFires s x1).cal = s.cal ∧ (cutHeadFires s x1).seq = s.seq ∧
    (cutHeadFires s x1).otp = s.otp ∧ (cutHeadFires s x1).dbg = s.dbg ∧ (cutHeadFires s x1).cvu = s.cvu ∧
    (cutHeadFires s x1).pending = s.pending := by
  simp [cutHeadFires]

@[simp] theorem refuseCal_frame (s : State) (x1 : Action) (x2 : Nat) (x3 : Nat) : (refuseCal s x1 x2 x3).rst = s.rst ∧
    (refuseCal s x1 x2 x3).clk = s.clk ∧ (refuseCal s x1 x2 x3).pwr = s.pwr ∧ (refuseCal s x1 x2 x3).reed = s.reed ∧
    (refuseCal s x1 x2 x3).uart = s.uart ∧ (refuseCal s x1 x2 x3).net = s.net ∧ (refuseCal s x1 x2 x3).nvm = s.nvm ∧
    (refuseCal s x1 x2 x3).log = s.log ∧ (refuseCal s x1 x2 x3).jobs = s.jobs ∧ (refuseCal s x1 x2 x3).fife = s.fife ∧
    (refuseCal s x1 x2 x3).motion = s.motion ∧ (refuseCal s x1 x2 x3).noz = s.noz ∧ (refuseCal s x1 x2 x3).seq = s.seq
    ∧ (refuseCal s x1 x2 x3).otp = s.otp ∧ (refuseCal s x1 x2 x3).dbg = s.dbg ∧ (refuseCal s x1 x2 x3).cvu = s.cvu ∧
    (refuseCal s x1 x2 x3).pending = s.pending := by
  simp [refuseCal]

@[simp] theorem endCal_frame (s : State) (x1 : Nat) (x2 : Nat) : (endCal s x1 x2).rst = s.rst ∧ (endCal s x1 x2).pwr =
    s.pwr ∧ (endCal s x1 x2).reed = s.reed ∧ (endCal s x1 x2).uart = s.uart ∧ (endCal s x1 x2).net = s.net ∧ (endCal s
    x1 x2).nvm = s.nvm ∧ (endCal s x1 x2).log = s.log ∧ (endCal s x1 x2).jobs = s.jobs ∧ (endCal s x1 x2).noz = s.noz
    ∧ (endCal s x1 x2).seq = s.seq ∧ (endCal s x1 x2).otp = s.otp ∧ (endCal s x1 x2).dbg = s.dbg ∧ (endCal s x1
    x2).cvu = s.cvu ∧ (endCal s x1 x2).pending = s.pending := by
  simp only [endCal]; (repeat' split) <;> simp

@[simp] theorem aoWait_frame (s : State) : (aoWait s).rst = s.rst ∧ (aoWait s).clk = s.clk ∧ (aoWait s).pwr = s.pwr ∧
    (aoWait s).reed = s.reed ∧ (aoWait s).port = s.port ∧ (aoWait s).uart = s.uart ∧ (aoWait s).usb = s.usb ∧ (aoWait
    s).net = s.net ∧ (aoWait s).ctxs = s.ctxs ∧ (aoWait s).params = s.params ∧ (aoWait s).nvm = s.nvm ∧ (aoWait s).log
    = s.log ∧ (aoWait s).jobs = s.jobs ∧ (aoWait s).saf = s.saf ∧ (aoWait s).fife = s.fife ∧ (aoWait s).motion =
    s.motion ∧ (aoWait s).noz = s.noz ∧ (aoWait s).hub = s.hub ∧ (aoWait s).seq = s.seq ∧ (aoWait s).otp = s.otp ∧
    (aoWait s).dbg = s.dbg ∧ (aoWait s).cvu = s.cvu ∧ (aoWait s).pending = s.pending := by
  simp [aoWait]

@[simp] theorem haltService_frame (s : State) : (haltService s).rst = s.rst ∧ (haltService s).clk = s.clk ∧
    (haltService s).pwr = s.pwr ∧ (haltService s).reed = s.reed ∧ (haltService s).port = s.port ∧ (haltService s).uart
    = s.uart ∧ (haltService s).usb = s.usb ∧ (haltService s).net = s.net ∧ (haltService s).ctxs = s.ctxs ∧
    (haltService s).params = s.params ∧ (haltService s).nvm = s.nvm ∧ (haltService s).log = s.log ∧ (haltService
    s).jobs = s.jobs ∧ (haltService s).saf = s.saf ∧ (haltService s).motion = s.motion ∧ (haltService s).hub = s.hub ∧
    (haltService s).cal = s.cal ∧ (haltService s).seq = s.seq ∧ (haltService s).otp = s.otp ∧ (haltService s).dbg =
    s.dbg ∧ (haltService s).cvu = s.cvu ∧ (haltService s).pending = s.pending := by
  simp only [haltService]; (repeat' split) <;> simp

@[simp] theorem cutFails_frame (s : State) : (cutFails s).rst = s.rst ∧ (cutFails s).clk = s.clk ∧ (cutFails s).pwr =
    s.pwr ∧ (cutFails s).reed = s.reed ∧ (cutFails s).uart = s.uart ∧ (cutFails s).net = s.net ∧ (cutFails s).params =
    s.params ∧ (cutFails s).hub = s.hub ∧ (cutFails s).cal = s.cal ∧ (cutFails s).seq = s.seq ∧ (cutFails s).otp =
    s.otp ∧ (cutFails s).dbg = s.dbg ∧ (cutFails s).pending = s.pending := by
  simp only [cutFails]; (repeat' split) <;> simp

@[simp] theorem releaseCharger_frame (s : State) : (releaseCharger s).rst = s.rst ∧ (releaseCharger s).clk = s.clk ∧
    (releaseCharger s).pwr = s.pwr ∧ (releaseCharger s).reed = s.reed ∧ (releaseCharger s).port = s.port ∧
    (releaseCharger s).uart = s.uart ∧ (releaseCharger s).usb = s.usb ∧ (releaseCharger s).net = s.net ∧
    (releaseCharger s).ctxs = s.ctxs ∧ (releaseCharger s).params = s.params ∧ (releaseCharger s).nvm = s.nvm ∧
    (releaseCharger s).log = s.log ∧ (releaseCharger s).jobs = s.jobs ∧ (releaseCharger s).fife = s.fife ∧
    (releaseCharger s).motion = s.motion ∧ (releaseCharger s).noz = s.noz ∧ (releaseCharger s).hub = s.hub ∧
    (releaseCharger s).cal = s.cal ∧ (releaseCharger s).otp = s.otp ∧ (releaseCharger s).dbg = s.dbg ∧ (releaseCharger
    s).cvu = s.cvu ∧ (releaseCharger s).pending = s.pending := by
  simp [releaseCharger]

@[simp] theorem enableCharger_frame (s : State) : (enableCharger s).rst = s.rst ∧ (enableCharger s).clk = s.clk ∧
    (enableCharger s).pwr = s.pwr ∧ (enableCharger s).reed = s.reed ∧ (enableCharger s).port = s.port ∧ (enableCharger
    s).uart = s.uart ∧ (enableCharger s).usb = s.usb ∧ (enableCharger s).net = s.net ∧ (enableCharger s).ctxs = s.ctxs
    ∧ (enableCharger s).params = s.params ∧ (enableCharger s).nvm = s.nvm ∧ (enableCharger s).log = s.log ∧
    (enableCharger s).jobs = s.jobs ∧ (enableCharger s).fife = s.fife ∧ (enableCharger s).motion = s.motion ∧
    (enableCharger s).noz = s.noz ∧ (enableCharger s).hub = s.hub ∧ (enableCharger s).cal = s.cal ∧ (enableCharger
    s).otp = s.otp ∧ (enableCharger s).dbg = s.dbg ∧ (enableCharger s).cvu = s.cvu ∧ (enableCharger s).pending =
    s.pending := by
  simp [enableCharger]

@[simp] theorem gateCharger_frame (s : State) (on : Bool) : (gateCharger s on).rst = s.rst ∧ (gateCharger s on).clk =
    s.clk ∧ (gateCharger s on).pwr = s.pwr ∧ (gateCharger s on).reed = s.reed ∧ (gateCharger s on).port = s.port ∧
    (gateCharger s on).uart = s.uart ∧ (gateCharger s on).usb = s.usb ∧ (gateCharger s on).net = s.net ∧ (gateCharger
    s on).ctxs = s.ctxs ∧ (gateCharger s on).params = s.params ∧ (gateCharger s on).nvm = s.nvm ∧ (gateCharger s
    on).log = s.log ∧ (gateCharger s on).jobs = s.jobs ∧ (gateCharger s on).fife = s.fife ∧ (gateCharger s on).motion
    = s.motion ∧ (gateCharger s on).noz = s.noz ∧ (gateCharger s on).hub = s.hub ∧ (gateCharger s on).cal = s.cal ∧
    (gateCharger s on).otp = s.otp ∧ (gateCharger s on).dbg = s.dbg ∧ (gateCharger s on).cvu = s.cvu ∧ (gateCharger s
    on).pending = s.pending := by
  simp [gateCharger]

@[simp] theorem assertDisch_frame (s : State) (x1 : Nat) : (assertDisch s x1).rst = s.rst ∧ (assertDisch s x1).pwr =
    s.pwr ∧ (assertDisch s x1).reed = s.reed ∧ (assertDisch s x1).uart = s.uart ∧ (assertDisch s x1).net = s.net ∧
    (assertDisch s x1).otp = s.otp ∧ (assertDisch s x1).dbg = s.dbg ∧ (assertDisch s x1).pending = s.pending := by
  simp [assertDisch]

@[simp] theorem dropReason_frame (s : State) (x1 : Nat) : (dropReason s x1).rst = s.rst ∧ (dropReason s x1).clk =
    s.clk ∧ (dropReason s x1).pwr = s.pwr ∧ (dropReason s x1).reed = s.reed ∧ (dropReason s x1).port = s.port ∧
    (dropReason s x1).uart = s.uart ∧ (dropReason s x1).usb = s.usb ∧ (dropReason s x1).net = s.net ∧ (dropReason s
    x1).ctxs = s.ctxs ∧ (dropReason s x1).params = s.params ∧ (dropReason s x1).nvm = s.nvm ∧ (dropReason s x1).log =
    s.log ∧ (dropReason s x1).jobs = s.jobs ∧ (dropReason s x1).fife = s.fife ∧ (dropReason s x1).motion = s.motion ∧
    (dropReason s x1).noz = s.noz ∧ (dropReason s x1).hub = s.hub ∧ (dropReason s x1).cal = s.cal ∧ (dropReason s
    x1).seq = s.seq ∧ (dropReason s x1).otp = s.otp ∧ (dropReason s x1).dbg = s.dbg ∧ (dropReason s x1).cvu = s.cvu ∧
    (dropReason s x1).pending = s.pending := by
  simp [dropReason]

@[simp] theorem accrueBudget_frame (s : State) : (accrueBudget s).rst = s.rst ∧ (accrueBudget s).clk = s.clk ∧
    (accrueBudget s).pwr = s.pwr ∧ (accrueBudget s).reed = s.reed ∧ (accrueBudget s).port = s.port ∧ (accrueBudget
    s).uart = s.uart ∧ (accrueBudget s).usb = s.usb ∧ (accrueBudget s).net = s.net ∧ (accrueBudget s).ctxs = s.ctxs ∧
    (accrueBudget s).params = s.params ∧ (accrueBudget s).nvm = s.nvm ∧ (accrueBudget s).log = s.log ∧ (accrueBudget
    s).jobs = s.jobs ∧ (accrueBudget s).fife = s.fife ∧ (accrueBudget s).motion = s.motion ∧ (accrueBudget s).noz =
    s.noz ∧ (accrueBudget s).hub = s.hub ∧ (accrueBudget s).cal = s.cal ∧ (accrueBudget s).seq = s.seq ∧ (accrueBudget
    s).otp = s.otp ∧ (accrueBudget s).dbg = s.dbg ∧ (accrueBudget s).cvu = s.cvu ∧ (accrueBudget s).pending =
    s.pending := by
  simp [accrueBudget]

@[simp] theorem updateAllocation_frame (s : State) : (updateAllocation s).rst = s.rst ∧ (updateAllocation s).clk =
    s.clk ∧ (updateAllocation s).pwr = s.pwr ∧ (updateAllocation s).reed = s.reed ∧ (updateAllocation s).uart = s.uart
    ∧ (updateAllocation s).net = s.net ∧ (updateAllocation s).params = s.params ∧ (updateAllocation s).nvm = s.nvm ∧
    (updateAllocation s).jobs = s.jobs ∧ (updateAllocation s).fife = s.fife ∧ (updateAllocation s).motion = s.motion ∧
    (updateAllocation s).noz = s.noz ∧ (updateAllocation s).hub = s.hub ∧ (updateAllocation s).cal = s.cal ∧
    (updateAllocation s).seq = s.seq ∧ (updateAllocation s).otp = s.otp ∧ (updateAllocation s).dbg = s.dbg ∧
    (updateAllocation s).cvu = s.cvu ∧ (updateAllocation s).pending = s.pending := by
  simp [updateAllocation]

@[simp] theorem armLldp_frame (s : State) : (armLldp s).rst = s.rst ∧ (armLldp s).clk = s.clk ∧ (armLldp s).pwr =
    s.pwr ∧ (armLldp s).reed = s.reed ∧ (armLldp s).port = s.port ∧ (armLldp s).uart = s.uart ∧ (armLldp s).usb =
    s.usb ∧ (armLldp s).ctxs = s.ctxs ∧ (armLldp s).params = s.params ∧ (armLldp s).nvm = s.nvm ∧ (armLldp s).log =
    s.log ∧ (armLldp s).jobs = s.jobs ∧ (armLldp s).saf = s.saf ∧ (armLldp s).fife = s.fife ∧ (armLldp s).motion =
    s.motion ∧ (armLldp s).noz = s.noz ∧ (armLldp s).hub = s.hub ∧ (armLldp s).cal = s.cal ∧ (armLldp s).seq = s.seq ∧
    (armLldp s).otp = s.otp ∧ (armLldp s).dbg = s.dbg ∧ (armLldp s).cvu = s.cvu ∧ (armLldp s).pending = s.pending :=
    by
  simp [armLldp]

@[simp] theorem writePage_frame (x0 : Nat) (s : State) (x2 : Nat) : (writePage x0 s x2).2.rst = s.rst ∧ (writePage x0
    s x2).2.clk = s.clk ∧ (writePage x0 s x2).2.pwr = s.pwr ∧ (writePage x0 s x2).2.reed = s.reed ∧ (writePage x0 s
    x2).2.port = s.port ∧ (writePage x0 s x2).2.uart = s.uart ∧ (writePage x0 s x2).2.usb = s.usb ∧ (writePage x0 s
    x2).2.net = s.net ∧ (writePage x0 s x2).2.ctxs = s.ctxs ∧ (writePage x0 s x2).2.params = s.params ∧ (writePage x0
    s x2).2.jobs = s.jobs ∧ (writePage x0 s x2).2.saf = s.saf ∧ (writePage x0 s x2).2.fife = s.fife ∧ (writePage x0 s
    x2).2.motion = s.motion ∧ (writePage x0 s x2).2.noz = s.noz ∧ (writePage x0 s x2).2.hub = s.hub ∧ (writePage x0 s
    x2).2.cal = s.cal ∧ (writePage x0 s x2).2.seq = s.seq ∧ (writePage x0 s x2).2.otp = s.otp ∧ (writePage x0 s
    x2).2.dbg = s.dbg ∧ (writePage x0 s x2).2.cvu = s.cvu ∧ (writePage x0 s x2).2.pending = s.pending := by
  and_intros <;> (induction x0 generalizing s with | zero => simp [writePage] | succ k ih => simp only [writePage]; (repeat' split) <;> (try simp_all) <;> grind)

@[simp] theorem writePages_frame (s : State) (ps : List Nat) : (writePages s ps).2.rst = s.rst ∧ (writePages s
    ps).2.clk = s.clk ∧ (writePages s ps).2.pwr = s.pwr ∧ (writePages s ps).2.reed = s.reed ∧ (writePages s ps).2.port
    = s.port ∧ (writePages s ps).2.uart = s.uart ∧ (writePages s ps).2.usb = s.usb ∧ (writePages s ps).2.net = s.net ∧
    (writePages s ps).2.ctxs = s.ctxs ∧ (writePages s ps).2.params = s.params ∧ (writePages s ps).2.jobs = s.jobs ∧
    (writePages s ps).2.saf = s.saf ∧ (writePages s ps).2.fife = s.fife ∧ (writePages s ps).2.motion = s.motion ∧
    (writePages s ps).2.noz = s.noz ∧ (writePages s ps).2.hub = s.hub ∧ (writePages s ps).2.cal = s.cal ∧ (writePages
    s ps).2.seq = s.seq ∧ (writePages s ps).2.otp = s.otp ∧ (writePages s ps).2.dbg = s.dbg ∧ (writePages s ps).2.cvu
    = s.cvu ∧ (writePages s ps).2.pending = s.pending := by
  induction ps generalizing s with
  | nil => simp [writePages]
  | cons p ps ih =>
    have h := writePage_frame 257 s p
    simp only [writePages]
    split <;> rename_i s' hs <;> rw [hs] at h <;> simp_all

@[simp] theorem storeFirePage_frame (s : State) (x1 : Nat) : (storeFirePage s x1).rst = s.rst ∧ (storeFirePage s
    x1).clk = s.clk ∧ (storeFirePage s x1).pwr = s.pwr ∧ (storeFirePage s x1).reed = s.reed ∧ (storeFirePage s
    x1).port = s.port ∧ (storeFirePage s x1).uart = s.uart ∧ (storeFirePage s x1).usb = s.usb ∧ (storeFirePage s
    x1).net = s.net ∧ (storeFirePage s x1).ctxs = s.ctxs ∧ (storeFirePage s x1).params = s.params ∧ (storeFirePage s
    x1).jobs = s.jobs ∧ (storeFirePage s x1).saf = s.saf ∧ (storeFirePage s x1).fife = s.fife ∧ (storeFirePage s
    x1).motion = s.motion ∧ (storeFirePage s x1).noz = s.noz ∧ (storeFirePage s x1).hub = s.hub ∧ (storeFirePage s
    x1).cal = s.cal ∧ (storeFirePage s x1).seq = s.seq ∧ (storeFirePage s x1).otp = s.otp ∧ (storeFirePage s x1).dbg =
    s.dbg ∧ (storeFirePage s x1).pending = s.pending := by
  have h := writePage_frame 257 (noteWrite s pageStream (firePageBytes s x1)) (0x800 + x1)
  simp only [storeFirePage]
  split <;> rename_i hs <;> rw [hs] at h <;> simp_all

@[simp] theorem storeFires_frame (s : State) (x1 : Bool) : (storeFires s x1).rst = s.rst ∧ (storeFires s x1).clk =
    s.clk ∧ (storeFires s x1).pwr = s.pwr ∧ (storeFires s x1).reed = s.reed ∧ (storeFires s x1).port = s.port ∧
    (storeFires s x1).uart = s.uart ∧ (storeFires s x1).usb = s.usb ∧ (storeFires s x1).net = s.net ∧ (storeFires s
    x1).ctxs = s.ctxs ∧ (storeFires s x1).params = s.params ∧ (storeFires s x1).jobs = s.jobs ∧ (storeFires s x1).saf
    = s.saf ∧ (storeFires s x1).fife = s.fife ∧ (storeFires s x1).motion = s.motion ∧ (storeFires s x1).noz = s.noz ∧
    (storeFires s x1).hub = s.hub ∧ (storeFires s x1).cal = s.cal ∧ (storeFires s x1).seq = s.seq ∧ (storeFires s
    x1).otp = s.otp ∧ (storeFires s x1).dbg = s.dbg ∧ (storeFires s x1).pending = s.pending := by
  simp [storeFires]

@[simp] theorem writeMap_frame (s : State) : (writeMap s).rst = s.rst ∧ (writeMap s).clk = s.clk ∧ (writeMap s).pwr =
    s.pwr ∧ (writeMap s).reed = s.reed ∧ (writeMap s).port = s.port ∧ (writeMap s).uart = s.uart ∧ (writeMap s).usb =
    s.usb ∧ (writeMap s).net = s.net ∧ (writeMap s).ctxs = s.ctxs ∧ (writeMap s).params = s.params ∧ (writeMap s).jobs
    = s.jobs ∧ (writeMap s).saf = s.saf ∧ (writeMap s).fife = s.fife ∧ (writeMap s).motion = s.motion ∧ (writeMap
    s).hub = s.hub ∧ (writeMap s).cal = s.cal ∧ (writeMap s).seq = s.seq ∧ (writeMap s).otp = s.otp ∧ (writeMap s).dbg
    = s.dbg ∧ (writeMap s).pending = s.pending := by
  simp [writeMap]

@[simp] theorem storeCounters_frame (s : State) : (storeCounters s).rst = s.rst ∧ (storeCounters s).clk = s.clk ∧
    (storeCounters s).pwr = s.pwr ∧ (storeCounters s).reed = s.reed ∧ (storeCounters s).port = s.port ∧ (storeCounters
    s).uart = s.uart ∧ (storeCounters s).usb = s.usb ∧ (storeCounters s).net = s.net ∧ (storeCounters s).ctxs = s.ctxs
    ∧ (storeCounters s).params = s.params ∧ (storeCounters s).jobs = s.jobs ∧ (storeCounters s).saf = s.saf ∧
    (storeCounters s).motion = s.motion ∧ (storeCounters s).noz = s.noz ∧ (storeCounters s).hub = s.hub ∧
    (storeCounters s).cal = s.cal ∧ (storeCounters s).seq = s.seq ∧ (storeCounters s).otp = s.otp ∧ (storeCounters
    s).dbg = s.dbg ∧ (storeCounters s).pending = s.pending := by
  simp [storeCounters]

@[simp] theorem bumpRecSeq_frame (s : State) : (bumpRecSeq s).rst = s.rst ∧ (bumpRecSeq s).clk = s.clk ∧ (bumpRecSeq
    s).pwr = s.pwr ∧ (bumpRecSeq s).reed = s.reed ∧ (bumpRecSeq s).port = s.port ∧ (bumpRecSeq s).uart = s.uart ∧
    (bumpRecSeq s).usb = s.usb ∧ (bumpRecSeq s).net = s.net ∧ (bumpRecSeq s).ctxs = s.ctxs ∧ (bumpRecSeq s).params =
    s.params ∧ (bumpRecSeq s).nvm = s.nvm ∧ (bumpRecSeq s).log = s.log ∧ (bumpRecSeq s).jobs = s.jobs ∧ (bumpRecSeq
    s).saf = s.saf ∧ (bumpRecSeq s).fife = s.fife ∧ (bumpRecSeq s).motion = s.motion ∧ (bumpRecSeq s).noz = s.noz ∧
    (bumpRecSeq s).hub = s.hub ∧ (bumpRecSeq s).cal = s.cal ∧ (bumpRecSeq s).otp = s.otp ∧ (bumpRecSeq s).dbg = s.dbg
    ∧ (bumpRecSeq s).cvu = s.cvu ∧ (bumpRecSeq s).pending = s.pending := by
  simp [bumpRecSeq]

@[simp] theorem capture_frame (s : State) (x1 : RecAt) (x2 : RecFlags) : (capture s x1 x2).2.rst = s.rst ∧ (capture s
    x1 x2).2.clk = s.clk ∧ (capture s x1 x2).2.pwr = s.pwr ∧ (capture s x1 x2).2.reed = s.reed ∧ (capture s x1
    x2).2.port = s.port ∧ (capture s x1 x2).2.uart = s.uart ∧ (capture s x1 x2).2.usb = s.usb ∧ (capture s x1
    x2).2.net = s.net ∧ (capture s x1 x2).2.ctxs = s.ctxs ∧ (capture s x1 x2).2.params = s.params ∧ (capture s x1
    x2).2.nvm = s.nvm ∧ (capture s x1 x2).2.log = s.log ∧ (capture s x1 x2).2.jobs = s.jobs ∧ (capture s x1 x2).2.saf
    = s.saf ∧ (capture s x1 x2).2.fife = s.fife ∧ (capture s x1 x2).2.motion = s.motion ∧ (capture s x1 x2).2.noz =
    s.noz ∧ (capture s x1 x2).2.hub = s.hub ∧ (capture s x1 x2).2.cal = s.cal ∧ (capture s x1 x2).2.otp = s.otp ∧
    (capture s x1 x2).2.dbg = s.dbg ∧ (capture s x1 x2).2.cvu = s.cvu ∧ (capture s x1 x2).2.pending = s.pending := by
  simp [capture]

@[simp] theorem bumpLost_frame (s : State) : (bumpLost s).rst = s.rst ∧ (bumpLost s).clk = s.clk ∧ (bumpLost s).pwr =
    s.pwr ∧ (bumpLost s).reed = s.reed ∧ (bumpLost s).port = s.port ∧ (bumpLost s).uart = s.uart ∧ (bumpLost s).usb =
    s.usb ∧ (bumpLost s).net = s.net ∧ (bumpLost s).ctxs = s.ctxs ∧ (bumpLost s).params = s.params ∧ (bumpLost s).nvm
    = s.nvm ∧ (bumpLost s).log = s.log ∧ (bumpLost s).jobs = s.jobs ∧ (bumpLost s).saf = s.saf ∧ (bumpLost s).fife =
    s.fife ∧ (bumpLost s).motion = s.motion ∧ (bumpLost s).noz = s.noz ∧ (bumpLost s).hub = s.hub ∧ (bumpLost s).cal =
    s.cal ∧ (bumpLost s).otp = s.otp ∧ (bumpLost s).dbg = s.dbg ∧ (bumpLost s).cvu = s.cvu ∧ (bumpLost s).pending =
    s.pending := by
  simp [bumpLost]

@[simp] theorem fitPending_frame (s : State) (x1 : List PendingRec) (x2 : Nat) (x3 : Nat) : (fitPending s x1 x2
    x3).2.rst = s.rst ∧ (fitPending s x1 x2 x3).2.clk = s.clk ∧ (fitPending s x1 x2 x3).2.pwr = s.pwr ∧ (fitPending s
    x1 x2 x3).2.reed = s.reed ∧ (fitPending s x1 x2 x3).2.port = s.port ∧ (fitPending s x1 x2 x3).2.uart = s.uart ∧
    (fitPending s x1 x2 x3).2.usb = s.usb ∧ (fitPending s x1 x2 x3).2.net = s.net ∧ (fitPending s x1 x2 x3).2.ctxs =
    s.ctxs ∧ (fitPending s x1 x2 x3).2.params = s.params ∧ (fitPending s x1 x2 x3).2.nvm = s.nvm ∧ (fitPending s x1 x2
    x3).2.log = s.log ∧ (fitPending s x1 x2 x3).2.jobs = s.jobs ∧ (fitPending s x1 x2 x3).2.saf = s.saf ∧ (fitPending
    s x1 x2 x3).2.fife = s.fife ∧ (fitPending s x1 x2 x3).2.motion = s.motion ∧ (fitPending s x1 x2 x3).2.noz = s.noz
    ∧ (fitPending s x1 x2 x3).2.hub = s.hub ∧ (fitPending s x1 x2 x3).2.cal = s.cal ∧ (fitPending s x1 x2 x3).2.otp =
    s.otp ∧ (fitPending s x1 x2 x3).2.dbg = s.dbg ∧ (fitPending s x1 x2 x3).2.cvu = s.cvu ∧ (fitPending s x1 x2
    x3).2.pending = s.pending := by
  simp [fitPending]

@[simp] theorem storePending_frame (s : State) (x1 : PendingRec) : (storePending s x1).rst = s.rst ∧ (storePending s
    x1).clk = s.clk ∧ (storePending s x1).pwr = s.pwr ∧ (storePending s x1).reed = s.reed ∧ (storePending s x1).port =
    s.port ∧ (storePending s x1).uart = s.uart ∧ (storePending s x1).usb = s.usb ∧ (storePending s x1).net = s.net ∧
    (storePending s x1).ctxs = s.ctxs ∧ (storePending s x1).params = s.params ∧ (storePending s x1).nvm = s.nvm ∧
    (storePending s x1).log = s.log ∧ (storePending s x1).jobs = s.jobs ∧ (storePending s x1).saf = s.saf ∧
    (storePending s x1).fife = s.fife ∧ (storePending s x1).motion = s.motion ∧ (storePending s x1).noz = s.noz ∧
    (storePending s x1).hub = s.hub ∧ (storePending s x1).cal = s.cal ∧ (storePending s x1).otp = s.otp ∧
    (storePending s x1).dbg = s.dbg ∧ (storePending s x1).cvu = s.cvu ∧ (storePending s x1).pending = s.pending := by
  simp [storePending]

@[simp] theorem returnPending_frame (s : State) (x1 : PendingRec) : (returnPending s x1).rst = s.rst ∧ (returnPending
    s x1).clk = s.clk ∧ (returnPending s x1).pwr = s.pwr ∧ (returnPending s x1).reed = s.reed ∧ (returnPending s
    x1).port = s.port ∧ (returnPending s x1).uart = s.uart ∧ (returnPending s x1).usb = s.usb ∧ (returnPending s
    x1).net = s.net ∧ (returnPending s x1).ctxs = s.ctxs ∧ (returnPending s x1).params = s.params ∧ (returnPending s
    x1).nvm = s.nvm ∧ (returnPending s x1).log = s.log ∧ (returnPending s x1).jobs = s.jobs ∧ (returnPending s x1).saf
    = s.saf ∧ (returnPending s x1).fife = s.fife ∧ (returnPending s x1).motion = s.motion ∧ (returnPending s x1).noz =
    s.noz ∧ (returnPending s x1).hub = s.hub ∧ (returnPending s x1).cal = s.cal ∧ (returnPending s x1).otp = s.otp ∧
    (returnPending s x1).dbg = s.dbg ∧ (returnPending s x1).cvu = s.cvu ∧ (returnPending s x1).pending = s.pending :=
    by
  simp [returnPending]

@[simp] theorem setSlot_frame (s : State) (x1 : Nat) (x2 : Option FaultSlot) : (setSlot s x1 x2).rst = s.rst ∧
    (setSlot s x1 x2).clk = s.clk ∧ (setSlot s x1 x2).pwr = s.pwr ∧ (setSlot s x1 x2).reed = s.reed ∧ (setSlot s x1
    x2).port = s.port ∧ (setSlot s x1 x2).uart = s.uart ∧ (setSlot s x1 x2).usb = s.usb ∧ (setSlot s x1 x2).net =
    s.net ∧ (setSlot s x1 x2).ctxs = s.ctxs ∧ (setSlot s x1 x2).params = s.params ∧ (setSlot s x1 x2).log = s.log ∧
    (setSlot s x1 x2).jobs = s.jobs ∧ (setSlot s x1 x2).saf = s.saf ∧ (setSlot s x1 x2).fife = s.fife ∧ (setSlot s x1
    x2).motion = s.motion ∧ (setSlot s x1 x2).noz = s.noz ∧ (setSlot s x1 x2).hub = s.hub ∧ (setSlot s x1 x2).cal =
    s.cal ∧ (setSlot s x1 x2).seq = s.seq ∧ (setSlot s x1 x2).otp = s.otp ∧ (setSlot s x1 x2).dbg = s.dbg ∧ (setSlot s
    x1 x2).cvu = s.cvu ∧ (setSlot s x1 x2).pending = s.pending := by
  simp [setSlot]

@[simp] theorem writeSlot_frame (s : State) (x1 : Nat) (x2 : FaultSlot) : (writeSlot s x1 x2).rst = s.rst ∧ (writeSlot
    s x1 x2).clk = s.clk ∧ (writeSlot s x1 x2).pwr = s.pwr ∧ (writeSlot s x1 x2).reed = s.reed ∧ (writeSlot s x1
    x2).port = s.port ∧ (writeSlot s x1 x2).uart = s.uart ∧ (writeSlot s x1 x2).usb = s.usb ∧ (writeSlot s x1 x2).net
    = s.net ∧ (writeSlot s x1 x2).ctxs = s.ctxs ∧ (writeSlot s x1 x2).params = s.params ∧ (writeSlot s x1 x2).jobs =
    s.jobs ∧ (writeSlot s x1 x2).saf = s.saf ∧ (writeSlot s x1 x2).fife = s.fife ∧ (writeSlot s x1 x2).motion =
    s.motion ∧ (writeSlot s x1 x2).noz = s.noz ∧ (writeSlot s x1 x2).hub = s.hub ∧ (writeSlot s x1 x2).cal = s.cal ∧
    (writeSlot s x1 x2).otp = s.otp ∧ (writeSlot s x1 x2).dbg = s.dbg ∧ (writeSlot s x1 x2).cvu = s.cvu ∧ (writeSlot s
    x1 x2).pending = s.pending := by
  have h := writePage_frame 257 s 0x940
  simp only [writeSlot]
  split <;> rename_i hs <;> rw [hs] at h <;> (repeat' split) <;> simp_all

@[simp] theorem eraseSlot_frame (s : State) (x1 : Nat) : (eraseSlot s x1).rst = s.rst ∧ (eraseSlot s x1).clk = s.clk ∧
    (eraseSlot s x1).pwr = s.pwr ∧ (eraseSlot s x1).reed = s.reed ∧ (eraseSlot s x1).port = s.port ∧ (eraseSlot s
    x1).uart = s.uart ∧ (eraseSlot s x1).usb = s.usb ∧ (eraseSlot s x1).net = s.net ∧ (eraseSlot s x1).ctxs = s.ctxs ∧
    (eraseSlot s x1).params = s.params ∧ (eraseSlot s x1).log = s.log ∧ (eraseSlot s x1).jobs = s.jobs ∧ (eraseSlot s
    x1).saf = s.saf ∧ (eraseSlot s x1).fife = s.fife ∧ (eraseSlot s x1).motion = s.motion ∧ (eraseSlot s x1).noz =
    s.noz ∧ (eraseSlot s x1).hub = s.hub ∧ (eraseSlot s x1).cal = s.cal ∧ (eraseSlot s x1).seq = s.seq ∧ (eraseSlot s
    x1).otp = s.otp ∧ (eraseSlot s x1).dbg = s.dbg ∧ (eraseSlot s x1).cvu = s.cvu ∧ (eraseSlot s x1).pending =
    s.pending := by
  simp [eraseSlot]

@[simp] theorem addSnap_frame (s : State) (x1 : List Sys2Proof.Byte) : (addSnap s x1).rst = s.rst ∧ (addSnap s x1).clk
    = s.clk ∧ (addSnap s x1).pwr = s.pwr ∧ (addSnap s x1).reed = s.reed ∧ (addSnap s x1).port = s.port ∧ (addSnap s
    x1).uart = s.uart ∧ (addSnap s x1).usb = s.usb ∧ (addSnap s x1).net = s.net ∧ (addSnap s x1).ctxs = s.ctxs ∧
    (addSnap s x1).params = s.params ∧ (addSnap s x1).jobs = s.jobs ∧ (addSnap s x1).saf = s.saf ∧ (addSnap s x1).fife
    = s.fife ∧ (addSnap s x1).motion = s.motion ∧ (addSnap s x1).noz = s.noz ∧ (addSnap s x1).hub = s.hub ∧ (addSnap s
    x1).cal = s.cal ∧ (addSnap s x1).otp = s.otp ∧ (addSnap s x1).dbg = s.dbg ∧ (addSnap s x1).cvu = s.cvu ∧ (addSnap
    s x1).pending = s.pending := by
  simp [addSnap]

@[simp] theorem startSeqWrite_frame (s : State) : (startSeqWrite s).rst = s.rst ∧ (startSeqWrite s).clk = s.clk ∧
    (startSeqWrite s).pwr = s.pwr ∧ (startSeqWrite s).reed = s.reed ∧ (startSeqWrite s).port = s.port ∧ (startSeqWrite
    s).uart = s.uart ∧ (startSeqWrite s).usb = s.usb ∧ (startSeqWrite s).net = s.net ∧ (startSeqWrite s).ctxs = s.ctxs
    ∧ (startSeqWrite s).params = s.params ∧ (startSeqWrite s).nvm = s.nvm ∧ (startSeqWrite s).log = s.log ∧
    (startSeqWrite s).jobs = s.jobs ∧ (startSeqWrite s).saf = s.saf ∧ (startSeqWrite s).fife = s.fife ∧ (startSeqWrite
    s).motion = s.motion ∧ (startSeqWrite s).noz = s.noz ∧ (startSeqWrite s).hub = s.hub ∧ (startSeqWrite s).cal =
    s.cal ∧ (startSeqWrite s).otp = s.otp ∧ (startSeqWrite s).dbg = s.dbg ∧ (startSeqWrite s).cvu = s.cvu ∧
    (startSeqWrite s).pending = s.pending := by
  simp only [startSeqWrite]; (repeat' split) <;> simp

@[simp] theorem putRecord_frame (s : State) (x1 : PendingRec) : (putRecord s x1).rst = s.rst ∧ (putRecord s x1).clk =
    s.clk ∧ (putRecord s x1).pwr = s.pwr ∧ (putRecord s x1).reed = s.reed ∧ (putRecord s x1).port = s.port ∧
    (putRecord s x1).uart = s.uart ∧ (putRecord s x1).usb = s.usb ∧ (putRecord s x1).net = s.net ∧ (putRecord s
    x1).ctxs = s.ctxs ∧ (putRecord s x1).params = s.params ∧ (putRecord s x1).nvm = s.nvm ∧ (putRecord s x1).log =
    s.log ∧ (putRecord s x1).jobs = s.jobs ∧ (putRecord s x1).saf = s.saf ∧ (putRecord s x1).fife = s.fife ∧
    (putRecord s x1).motion = s.motion ∧ (putRecord s x1).noz = s.noz ∧ (putRecord s x1).hub = s.hub ∧ (putRecord s
    x1).cal = s.cal ∧ (putRecord s x1).otp = s.otp ∧ (putRecord s x1).dbg = s.dbg ∧ (putRecord s x1).cvu = s.cvu ∧
    (putRecord s x1).pending = s.pending := by
  simp [putRecord]

@[simp] theorem record_frame (s : State) (x1 : RecAt) (x2 : Bool) (x3 : Bool) : (record s x1 x2 x3).rst = s.rst ∧
    (record s x1 x2 x3).clk = s.clk ∧ (record s x1 x2 x3).pwr = s.pwr ∧ (record s x1 x2 x3).reed = s.reed ∧ (record s
    x1 x2 x3).port = s.port ∧ (record s x1 x2 x3).uart = s.uart ∧ (record s x1 x2 x3).usb = s.usb ∧ (record s x1 x2
    x3).net = s.net ∧ (record s x1 x2 x3).ctxs = s.ctxs ∧ (record s x1 x2 x3).params = s.params ∧ (record s x1 x2
    x3).nvm = s.nvm ∧ (record s x1 x2 x3).log = s.log ∧ (record s x1 x2 x3).jobs = s.jobs ∧ (record s x1 x2 x3).saf =
    s.saf ∧ (record s x1 x2 x3).fife = s.fife ∧ (record s x1 x2 x3).motion = s.motion ∧ (record s x1 x2 x3).noz =
    s.noz ∧ (record s x1 x2 x3).hub = s.hub ∧ (record s x1 x2 x3).cal = s.cal ∧ (record s x1 x2 x3).otp = s.otp ∧
    (record s x1 x2 x3).dbg = s.dbg ∧ (record s x1 x2 x3).cvu = s.cvu ∧ (record s x1 x2 x3).pending = s.pending := by
  simp [record]

@[simp] theorem tornBytes_frame (s : State) (x1 : List Sys2Proof.Byte) (x2 : Nat) : (tornBytes s x1 x2).2.rst = s.rst
    ∧ (tornBytes s x1 x2).2.pwr = s.pwr ∧ (tornBytes s x1 x2).2.reed = s.reed ∧ (tornBytes s x1 x2).2.port = s.port ∧
    (tornBytes s x1 x2).2.uart = s.uart ∧ (tornBytes s x1 x2).2.usb = s.usb ∧ (tornBytes s x1 x2).2.net = s.net ∧
    (tornBytes s x1 x2).2.ctxs = s.ctxs ∧ (tornBytes s x1 x2).2.params = s.params ∧ (tornBytes s x1 x2).2.nvm = s.nvm
    ∧ (tornBytes s x1 x2).2.log = s.log ∧ (tornBytes s x1 x2).2.jobs = s.jobs ∧ (tornBytes s x1 x2).2.saf = s.saf ∧
    (tornBytes s x1 x2).2.fife = s.fife ∧ (tornBytes s x1 x2).2.motion = s.motion ∧ (tornBytes s x1 x2).2.noz = s.noz
    ∧ (tornBytes s x1 x2).2.hub = s.hub ∧ (tornBytes s x1 x2).2.cal = s.cal ∧ (tornBytes s x1 x2).2.seq = s.seq ∧
    (tornBytes s x1 x2).2.otp = s.otp ∧ (tornBytes s x1 x2).2.dbg = s.dbg ∧ (tornBytes s x1 x2).2.cvu = s.cvu ∧
    (tornBytes s x1 x2).2.pending = s.pending := by
  simp [tornBytes]

@[simp] theorem tornSlot_frame (s : State) (x1 : Nat) (x2 : PendingRec) : (tornSlot s x1 x2).rst = s.rst ∧ (tornSlot s
    x1 x2).pwr = s.pwr ∧ (tornSlot s x1 x2).reed = s.reed ∧ (tornSlot s x1 x2).port = s.port ∧ (tornSlot s x1 x2).uart
    = s.uart ∧ (tornSlot s x1 x2).usb = s.usb ∧ (tornSlot s x1 x2).net = s.net ∧ (tornSlot s x1 x2).ctxs = s.ctxs ∧
    (tornSlot s x1 x2).params = s.params ∧ (tornSlot s x1 x2).jobs = s.jobs ∧ (tornSlot s x1 x2).saf = s.saf ∧
    (tornSlot s x1 x2).fife = s.fife ∧ (tornSlot s x1 x2).motion = s.motion ∧ (tornSlot s x1 x2).noz = s.noz ∧
    (tornSlot s x1 x2).hub = s.hub ∧ (tornSlot s x1 x2).cal = s.cal ∧ (tornSlot s x1 x2).otp = s.otp ∧ (tornSlot s x1
    x2).dbg = s.dbg ∧ (tornSlot s x1 x2).cvu = s.cvu ∧ (tornSlot s x1 x2).pending = s.pending := by
  simp only [tornSlot]; (repeat' split) <;> simp

@[simp] theorem writeCompact_frame (s : State) (x1 : Nat) (x2 : PendingRec) : (writeCompact s x1 x2).rst = s.rst ∧
    (writeCompact s x1 x2).clk = s.clk ∧ (writeCompact s x1 x2).pwr = s.pwr ∧ (writeCompact s x1 x2).reed = s.reed ∧
    (writeCompact s x1 x2).port = s.port ∧ (writeCompact s x1 x2).uart = s.uart ∧ (writeCompact s x1 x2).usb = s.usb ∧
    (writeCompact s x1 x2).net = s.net ∧ (writeCompact s x1 x2).ctxs = s.ctxs ∧ (writeCompact s x1 x2).params =
    s.params ∧ (writeCompact s x1 x2).jobs = s.jobs ∧ (writeCompact s x1 x2).saf = s.saf ∧ (writeCompact s x1 x2).fife
    = s.fife ∧ (writeCompact s x1 x2).motion = s.motion ∧ (writeCompact s x1 x2).noz = s.noz ∧ (writeCompact s x1
    x2).hub = s.hub ∧ (writeCompact s x1 x2).cal = s.cal ∧ (writeCompact s x1 x2).otp = s.otp ∧ (writeCompact s x1
    x2).dbg = s.dbg ∧ (writeCompact s x1 x2).cvu = s.cvu ∧ (writeCompact s x1 x2).pending = s.pending := by
  simp [writeCompact]

@[simp] theorem reportSlot_frame (s : State) (x1 : Nat) : (reportSlot s x1).rst = s.rst ∧ (reportSlot s x1).clk =
    s.clk ∧ (reportSlot s x1).pwr = s.pwr ∧ (reportSlot s x1).reed = s.reed ∧ (reportSlot s x1).uart = s.uart ∧
    (reportSlot s x1).net = s.net ∧ (reportSlot s x1).params = s.params ∧ (reportSlot s x1).jobs = s.jobs ∧
    (reportSlot s x1).saf = s.saf ∧ (reportSlot s x1).fife = s.fife ∧ (reportSlot s x1).motion = s.motion ∧
    (reportSlot s x1).noz = s.noz ∧ (reportSlot s x1).hub = s.hub ∧ (reportSlot s x1).cal = s.cal ∧ (reportSlot s
    x1).otp = s.otp ∧ (reportSlot s x1).dbg = s.dbg ∧ (reportSlot s x1).cvu = s.cvu ∧ (reportSlot s x1).pending =
    s.pending := by
  simp only [reportSlot]; (repeat' split) <;> simp

@[simp] theorem eraseReported_frame (x0 : Nat) (s : State) : (eraseReported x0 s).rst = s.rst ∧ (eraseReported x0
    s).clk = s.clk ∧ (eraseReported x0 s).pwr = s.pwr ∧ (eraseReported x0 s).reed = s.reed ∧ (eraseReported x0 s).port
    = s.port ∧ (eraseReported x0 s).uart = s.uart ∧ (eraseReported x0 s).usb = s.usb ∧ (eraseReported x0 s).net =
    s.net ∧ (eraseReported x0 s).ctxs = s.ctxs ∧ (eraseReported x0 s).params = s.params ∧ (eraseReported x0 s).jobs =
    s.jobs ∧ (eraseReported x0 s).saf = s.saf ∧ (eraseReported x0 s).fife = s.fife ∧ (eraseReported x0 s).motion =
    s.motion ∧ (eraseReported x0 s).noz = s.noz ∧ (eraseReported x0 s).hub = s.hub ∧ (eraseReported x0 s).cal = s.cal
    ∧ (eraseReported x0 s).otp = s.otp ∧ (eraseReported x0 s).dbg = s.dbg ∧ (eraseReported x0 s).cvu = s.cvu ∧
    (eraseReported x0 s).pending = s.pending := by
  and_intros <;> (induction x0 generalizing s with | zero => simp [eraseReported] | succ k ih => simp only [eraseReported]; (repeat' split) <;> (try simp_all) <;> grind)

@[simp] theorem modSeq_frame (s : State) (x1 : Seq → Seq) : (modSeq s x1).rst = s.rst ∧ (modSeq s x1).clk = s.clk ∧
    (modSeq s x1).pwr = s.pwr ∧ (modSeq s x1).reed = s.reed ∧ (modSeq s x1).port = s.port ∧ (modSeq s x1).uart =
    s.uart ∧ (modSeq s x1).usb = s.usb ∧ (modSeq s x1).net = s.net ∧ (modSeq s x1).ctxs = s.ctxs ∧ (modSeq s
    x1).params = s.params ∧ (modSeq s x1).nvm = s.nvm ∧ (modSeq s x1).log = s.log ∧ (modSeq s x1).jobs = s.jobs ∧
    (modSeq s x1).saf = s.saf ∧ (modSeq s x1).fife = s.fife ∧ (modSeq s x1).motion = s.motion ∧ (modSeq s x1).noz =
    s.noz ∧ (modSeq s x1).hub = s.hub ∧ (modSeq s x1).cal = s.cal ∧ (modSeq s x1).otp = s.otp ∧ (modSeq s x1).dbg =
    s.dbg ∧ (modSeq s x1).cvu = s.cvu ∧ (modSeq s x1).pending = s.pending := by
  simp [modSeq]

@[simp] theorem releaseCh_frame (s : State) (x1 : Nat) : (releaseCh s x1).rst = s.rst ∧ (releaseCh s x1).clk = s.clk ∧
    (releaseCh s x1).pwr = s.pwr ∧ (releaseCh s x1).reed = s.reed ∧ (releaseCh s x1).port = s.port ∧ (releaseCh s
    x1).uart = s.uart ∧ (releaseCh s x1).usb = s.usb ∧ (releaseCh s x1).net = s.net ∧ (releaseCh s x1).ctxs = s.ctxs ∧
    (releaseCh s x1).params = s.params ∧ (releaseCh s x1).nvm = s.nvm ∧ (releaseCh s x1).log = s.log ∧ (releaseCh s
    x1).jobs = s.jobs ∧ (releaseCh s x1).fife = s.fife ∧ (releaseCh s x1).motion = s.motion ∧ (releaseCh s x1).noz =
    s.noz ∧ (releaseCh s x1).hub = s.hub ∧ (releaseCh s x1).cal = s.cal ∧ (releaseCh s x1).otp = s.otp ∧ (releaseCh s
    x1).dbg = s.dbg ∧ (releaseCh s x1).cvu = s.cvu ∧ (releaseCh s x1).pending = s.pending := by
  simp [releaseCh]

@[simp] theorem applyCfg_frame (s : State) (x1 : ParamMap) : (applyCfg s x1).rst = s.rst ∧ (applyCfg s x1).clk = s.clk
    ∧ (applyCfg s x1).pwr = s.pwr ∧ (applyCfg s x1).reed = s.reed ∧ (applyCfg s x1).port = s.port ∧ (applyCfg s
    x1).uart = s.uart ∧ (applyCfg s x1).usb = s.usb ∧ (applyCfg s x1).net = s.net ∧ (applyCfg s x1).ctxs = s.ctxs ∧
    (applyCfg s x1).nvm = s.nvm ∧ (applyCfg s x1).log = s.log ∧ (applyCfg s x1).jobs = s.jobs ∧ (applyCfg s x1).saf =
    s.saf ∧ (applyCfg s x1).fife = s.fife ∧ (applyCfg s x1).motion = s.motion ∧ (applyCfg s x1).noz = s.noz ∧
    (applyCfg s x1).hub = s.hub ∧ (applyCfg s x1).cal = s.cal ∧ (applyCfg s x1).otp = s.otp ∧ (applyCfg s x1).dbg =
    s.dbg ∧ (applyCfg s x1).cvu = s.cvu ∧ (applyCfg s x1).pending = s.pending := by
  simp [applyCfg]

@[simp] theorem applyNextCfg_frame (s : State) : (applyNextCfg s).rst = s.rst ∧ (applyNextCfg s).clk = s.clk ∧
    (applyNextCfg s).pwr = s.pwr ∧ (applyNextCfg s).reed = s.reed ∧ (applyNextCfg s).port = s.port ∧ (applyNextCfg
    s).uart = s.uart ∧ (applyNextCfg s).usb = s.usb ∧ (applyNextCfg s).net = s.net ∧ (applyNextCfg s).ctxs = s.ctxs ∧
    (applyNextCfg s).nvm = s.nvm ∧ (applyNextCfg s).log = s.log ∧ (applyNextCfg s).jobs = s.jobs ∧ (applyNextCfg
    s).saf = s.saf ∧ (applyNextCfg s).fife = s.fife ∧ (applyNextCfg s).motion = s.motion ∧ (applyNextCfg s).noz =
    s.noz ∧ (applyNextCfg s).hub = s.hub ∧ (applyNextCfg s).cal = s.cal ∧ (applyNextCfg s).otp = s.otp ∧ (applyNextCfg
    s).dbg = s.dbg ∧ (applyNextCfg s).cvu = s.cvu ∧ (applyNextCfg s).pending = s.pending := by
  simp only [applyNextCfg]; (repeat' split) <;> simp

@[simp] theorem applyAtOff_frame (s : State) : (applyAtOff s).rst = s.rst ∧ (applyAtOff s).clk = s.clk ∧ (applyAtOff
    s).pwr = s.pwr ∧ (applyAtOff s).reed = s.reed ∧ (applyAtOff s).port = s.port ∧ (applyAtOff s).uart = s.uart ∧
    (applyAtOff s).usb = s.usb ∧ (applyAtOff s).net = s.net ∧ (applyAtOff s).ctxs = s.ctxs ∧ (applyAtOff s).nvm =
    s.nvm ∧ (applyAtOff s).log = s.log ∧ (applyAtOff s).jobs = s.jobs ∧ (applyAtOff s).saf = s.saf ∧ (applyAtOff
    s).fife = s.fife ∧ (applyAtOff s).motion = s.motion ∧ (applyAtOff s).noz = s.noz ∧ (applyAtOff s).hub = s.hub ∧
    (applyAtOff s).cal = s.cal ∧ (applyAtOff s).otp = s.otp ∧ (applyAtOff s).dbg = s.dbg ∧ (applyAtOff s).cvu = s.cvu
    ∧ (applyAtOff s).pending = s.pending := by
  simp [applyAtOff]

@[simp] theorem endWaiters_frame (s : State) (x1 : Option Nat) : (endWaiters s x1).rst = s.rst ∧ (endWaiters s x1).clk
    = s.clk ∧ (endWaiters s x1).pwr = s.pwr ∧ (endWaiters s x1).reed = s.reed ∧ (endWaiters s x1).uart = s.uart ∧
    (endWaiters s x1).net = s.net ∧ (endWaiters s x1).params = s.params ∧ (endWaiters s x1).nvm = s.nvm ∧ (endWaiters
    s x1).log = s.log ∧ (endWaiters s x1).jobs = s.jobs ∧ (endWaiters s x1).saf = s.saf ∧ (endWaiters s x1).fife =
    s.fife ∧ (endWaiters s x1).motion = s.motion ∧ (endWaiters s x1).noz = s.noz ∧ (endWaiters s x1).hub = s.hub ∧
    (endWaiters s x1).cal = s.cal ∧ (endWaiters s x1).otp = s.otp ∧ (endWaiters s x1).dbg = s.dbg ∧ (endWaiters s
    x1).cvu = s.cvu ∧ (endWaiters s x1).pending = s.pending := by
  simp only [endWaiters]; (repeat' split) <;> simp

@[simp] theorem dropHisGate_frame (s : State) : (dropHisGate s).rst = s.rst ∧ (dropHisGate s).clk = s.clk ∧
    (dropHisGate s).pwr = s.pwr ∧ (dropHisGate s).reed = s.reed ∧ (dropHisGate s).port = s.port ∧ (dropHisGate s).uart
    = s.uart ∧ (dropHisGate s).usb = s.usb ∧ (dropHisGate s).net = s.net ∧ (dropHisGate s).ctxs = s.ctxs ∧
    (dropHisGate s).params = s.params ∧ (dropHisGate s).nvm = s.nvm ∧ (dropHisGate s).log = s.log ∧ (dropHisGate
    s).jobs = s.jobs ∧ (dropHisGate s).saf = s.saf ∧ (dropHisGate s).motion = s.motion ∧ (dropHisGate s).noz = s.noz ∧
    (dropHisGate s).hub = s.hub ∧ (dropHisGate s).cal = s.cal ∧ (dropHisGate s).seq = s.seq ∧ (dropHisGate s).otp =
    s.otp ∧ (dropHisGate s).dbg = s.dbg ∧ (dropHisGate s).cvu = s.cvu ∧ (dropHisGate s).pending = s.pending := by
  simp [dropHisGate]

@[simp] theorem seqAdvance_frame (s : State) : (seqAdvance s).rst = s.rst ∧ (seqAdvance s).clk = s.clk ∧ (seqAdvance
    s).pwr = s.pwr ∧ (seqAdvance s).reed = s.reed ∧ (seqAdvance s).uart = s.uart ∧ (seqAdvance s).net = s.net ∧
    (seqAdvance s).params = s.params ∧ (seqAdvance s).nvm = s.nvm ∧ (seqAdvance s).log = s.log ∧ (seqAdvance s).jobs =
    s.jobs ∧ (seqAdvance s).saf = s.saf ∧ (seqAdvance s).motion = s.motion ∧ (seqAdvance s).noz = s.noz ∧ (seqAdvance
    s).hub = s.hub ∧ (seqAdvance s).cal = s.cal ∧ (seqAdvance s).otp = s.otp ∧ (seqAdvance s).dbg = s.dbg ∧
    (seqAdvance s).cvu = s.cvu ∧ (seqAdvance s).pending = s.pending := by
  and_intros <;> (simp only [seqAdvance]; split <;> simp)

@[simp] theorem startUp_frame (s : State) : (startUp s).rst = s.rst ∧ (startUp s).clk = s.clk ∧ (startUp s).pwr =
    s.pwr ∧ (startUp s).reed = s.reed ∧ (startUp s).uart = s.uart ∧ (startUp s).net = s.net ∧ (startUp s).params =
    s.params ∧ (startUp s).nvm = s.nvm ∧ (startUp s).log = s.log ∧ (startUp s).jobs = s.jobs ∧ (startUp s).saf = s.saf
    ∧ (startUp s).motion = s.motion ∧ (startUp s).noz = s.noz ∧ (startUp s).hub = s.hub ∧ (startUp s).cal = s.cal ∧
    (startUp s).otp = s.otp ∧ (startUp s).dbg = s.dbg ∧ (startUp s).cvu = s.cvu ∧ (startUp s).pending = s.pending :=
    by
  simp [startUp]

@[simp] theorem leaveFaultOff_frame (s : State) : (leaveFaultOff s).rst = s.rst ∧ (leaveFaultOff s).clk = s.clk ∧
    (leaveFaultOff s).pwr = s.pwr ∧ (leaveFaultOff s).reed = s.reed ∧ (leaveFaultOff s).uart = s.uart ∧ (leaveFaultOff
    s).net = s.net ∧ (leaveFaultOff s).params = s.params ∧ (leaveFaultOff s).nvm = s.nvm ∧ (leaveFaultOff s).log =
    s.log ∧ (leaveFaultOff s).jobs = s.jobs ∧ (leaveFaultOff s).saf = s.saf ∧ (leaveFaultOff s).motion = s.motion ∧
    (leaveFaultOff s).noz = s.noz ∧ (leaveFaultOff s).hub = s.hub ∧ (leaveFaultOff s).cal = s.cal ∧ (leaveFaultOff
    s).otp = s.otp ∧ (leaveFaultOff s).dbg = s.dbg ∧ (leaveFaultOff s).cvu = s.cvu ∧ (leaveFaultOff s).pending =
    s.pending := by
  simp [leaveFaultOff]

@[simp] theorem onRequest_frame (s : State) : (onRequest s).rst = s.rst ∧ (onRequest s).clk = s.clk ∧ (onRequest
    s).pwr = s.pwr ∧ (onRequest s).reed = s.reed ∧ (onRequest s).uart = s.uart ∧ (onRequest s).net = s.net ∧
    (onRequest s).params = s.params ∧ (onRequest s).nvm = s.nvm ∧ (onRequest s).log = s.log ∧ (onRequest s).jobs =
    s.jobs ∧ (onRequest s).saf = s.saf ∧ (onRequest s).motion = s.motion ∧ (onRequest s).noz = s.noz ∧ (onRequest
    s).hub = s.hub ∧ (onRequest s).cal = s.cal ∧ (onRequest s).otp = s.otp ∧ (onRequest s).dbg = s.dbg ∧ (onRequest
    s).cvu = s.cvu ∧ (onRequest s).pending = s.pending := by
  and_intros <;> (simp only [onRequest]; (repeat' split) <;> simp_all)

@[simp] theorem onFromZero_frame (s : State) : (onFromZero s).rst = s.rst ∧ (onFromZero s).clk = s.clk ∧ (onFromZero
    s).pwr = s.pwr ∧ (onFromZero s).reed = s.reed ∧ (onFromZero s).uart = s.uart ∧ (onFromZero s).net = s.net ∧
    (onFromZero s).params = s.params ∧ (onFromZero s).nvm = s.nvm ∧ (onFromZero s).log = s.log ∧ (onFromZero s).jobs =
    s.jobs ∧ (onFromZero s).saf = s.saf ∧ (onFromZero s).motion = s.motion ∧ (onFromZero s).noz = s.noz ∧ (onFromZero
    s).hub = s.hub ∧ (onFromZero s).cal = s.cal ∧ (onFromZero s).otp = s.otp ∧ (onFromZero s).dbg = s.dbg ∧
    (onFromZero s).cvu = s.cvu ∧ (onFromZero s).pending = s.pending := by
  simp [onFromZero]

@[simp] theorem walk_frame (x0 : Nat) (s : State) : (walk x0 s).rst = s.rst ∧ (walk x0 s).clk = s.clk ∧ (walk x0
    s).pwr = s.pwr ∧ (walk x0 s).reed = s.reed ∧ (walk x0 s).uart = s.uart ∧ (walk x0 s).net = s.net ∧ (walk x0
    s).params = s.params ∧ (walk x0 s).nvm = s.nvm ∧ (walk x0 s).log = s.log ∧ (walk x0 s).jobs = s.jobs ∧ (walk x0
    s).fife = s.fife ∧ (walk x0 s).motion = s.motion ∧ (walk x0 s).noz = s.noz ∧ (walk x0 s).cal = s.cal ∧ (walk x0
    s).otp = s.otp ∧ (walk x0 s).dbg = s.dbg ∧ (walk x0 s).cvu = s.cvu ∧ (walk x0 s).pending = s.pending := by
  and_intros <;> (induction x0 generalizing s with | zero => simp [walk] | succ k ih => simp only [walk]; (repeat' split) <;> (try simp_all) <;> grind)

@[simp] theorem wffEnd_frame (s : State) : (wffEnd s).rst = s.rst ∧ (wffEnd s).clk = s.clk ∧ (wffEnd s).pwr = s.pwr ∧
    (wffEnd s).reed = s.reed ∧ (wffEnd s).uart = s.uart ∧ (wffEnd s).net = s.net ∧ (wffEnd s).params = s.params ∧
    (wffEnd s).nvm = s.nvm ∧ (wffEnd s).log = s.log ∧ (wffEnd s).jobs = s.jobs ∧ (wffEnd s).fife = s.fife ∧ (wffEnd
    s).motion = s.motion ∧ (wffEnd s).noz = s.noz ∧ (wffEnd s).cal = s.cal ∧ (wffEnd s).otp = s.otp ∧ (wffEnd s).dbg =
    s.dbg ∧ (wffEnd s).cvu = s.cvu ∧ (wffEnd s).pending = s.pending := by
  simp [wffEnd]

@[simp] theorem shutdownStores_frame (s : State) : (shutdownStores s).rst = s.rst ∧ (shutdownStores s).clk = s.clk ∧
    (shutdownStores s).pwr = s.pwr ∧ (shutdownStores s).reed = s.reed ∧ (shutdownStores s).port = s.port ∧
    (shutdownStores s).uart = s.uart ∧ (shutdownStores s).usb = s.usb ∧ (shutdownStores s).net = s.net ∧
    (shutdownStores s).ctxs = s.ctxs ∧ (shutdownStores s).params = s.params ∧ (shutdownStores s).jobs = s.jobs ∧
    (shutdownStores s).saf = s.saf ∧ (shutdownStores s).motion = s.motion ∧ (shutdownStores s).noz = s.noz ∧
    (shutdownStores s).hub = s.hub ∧ (shutdownStores s).cal = s.cal ∧ (shutdownStores s).seq = s.seq ∧ (shutdownStores
    s).otp = s.otp ∧ (shutdownStores s).dbg = s.dbg ∧ (shutdownStores s).pending = s.pending := by
  simp [shutdownStores]

@[simp] theorem startFull_frame (s : State) : (startFull s).rst = s.rst ∧ (startFull s).pwr = s.pwr ∧ (startFull
    s).reed = s.reed ∧ (startFull s).uart = s.uart ∧ (startFull s).net = s.net ∧ (startFull s).otp = s.otp ∧
    (startFull s).dbg = s.dbg ∧ (startFull s).pending = s.pending := by
  simp [startFull]

@[simp] theorem partialToFull_frame (s : State) : (partialToFull s).rst = s.rst ∧ (partialToFull s).pwr = s.pwr ∧
    (partialToFull s).reed = s.reed ∧ (partialToFull s).uart = s.uart ∧ (partialToFull s).net = s.net ∧ (partialToFull
    s).otp = s.otp ∧ (partialToFull s).dbg = s.dbg ∧ (partialToFull s).pending = s.pending := by
  simp [partialToFull]

@[simp] theorem offRequest_frame (s : State) : (offRequest s).rst = s.rst ∧ (offRequest s).pwr = s.pwr ∧ (offRequest
    s).reed = s.reed ∧ (offRequest s).uart = s.uart ∧ (offRequest s).net = s.net ∧ (offRequest s).otp = s.otp ∧
    (offRequest s).dbg = s.dbg ∧ (offRequest s).pending = s.pending := by
  simp only [offRequest]; (repeat' split) <;> simp

@[simp] theorem startPartial_frame (s : State) (x1 : BitVec 8) : (startPartial s x1).rst = s.rst ∧ (startPartial s
    x1).clk = s.clk ∧ (startPartial s x1).pwr = s.pwr ∧ (startPartial s x1).reed = s.reed ∧ (startPartial s x1).uart =
    s.uart ∧ (startPartial s x1).net = s.net ∧ (startPartial s x1).nvm = s.nvm ∧ (startPartial s x1).log = s.log ∧
    (startPartial s x1).jobs = s.jobs ∧ (startPartial s x1).fife = s.fife ∧ (startPartial s x1).motion = s.motion ∧
    (startPartial s x1).noz = s.noz ∧ (startPartial s x1).cal = s.cal ∧ (startPartial s x1).otp = s.otp ∧
    (startPartial s x1).dbg = s.dbg ∧ (startPartial s x1).cvu = s.cvu ∧ (startPartial s x1).pending = s.pending := by
  simp [startPartial]

@[simp] theorem partialDue_frame (s : State) : (partialDue s).rst = s.rst ∧ (partialDue s).clk = s.clk ∧ (partialDue
    s).pwr = s.pwr ∧ (partialDue s).reed = s.reed ∧ (partialDue s).uart = s.uart ∧ (partialDue s).net = s.net ∧
    (partialDue s).nvm = s.nvm ∧ (partialDue s).log = s.log ∧ (partialDue s).jobs = s.jobs ∧ (partialDue s).fife =
    s.fife ∧ (partialDue s).motion = s.motion ∧ (partialDue s).noz = s.noz ∧ (partialDue s).cal = s.cal ∧ (partialDue
    s).otp = s.otp ∧ (partialDue s).dbg = s.dbg ∧ (partialDue s).cvu = s.cvu ∧ (partialDue s).pending = s.pending :=
    by
  simp [partialDue]

@[simp] theorem startPartialUp_frame (s : State) : (startPartialUp s).rst = s.rst ∧ (startPartialUp s).clk = s.clk ∧
    (startPartialUp s).pwr = s.pwr ∧ (startPartialUp s).reed = s.reed ∧ (startPartialUp s).uart = s.uart ∧
    (startPartialUp s).net = s.net ∧ (startPartialUp s).nvm = s.nvm ∧ (startPartialUp s).log = s.log ∧ (startPartialUp
    s).jobs = s.jobs ∧ (startPartialUp s).saf = s.saf ∧ (startPartialUp s).motion = s.motion ∧ (startPartialUp s).noz
    = s.noz ∧ (startPartialUp s).hub = s.hub ∧ (startPartialUp s).cal = s.cal ∧ (startPartialUp s).otp = s.otp ∧
    (startPartialUp s).dbg = s.dbg ∧ (startPartialUp s).cvu = s.cvu ∧ (startPartialUp s).pending = s.pending := by
  simp [startPartialUp]

@[simp] theorem allOff_frame (s : State) : (allOff s).rst = s.rst ∧ (allOff s).clk = s.clk ∧ (allOff s).pwr = s.pwr ∧
    (allOff s).reed = s.reed ∧ (allOff s).port = s.port ∧ (allOff s).uart = s.uart ∧ (allOff s).usb = s.usb ∧ (allOff
    s).net = s.net ∧ (allOff s).ctxs = s.ctxs ∧ (allOff s).params = s.params ∧ (allOff s).nvm = s.nvm ∧ (allOff s).log
    = s.log ∧ (allOff s).jobs = s.jobs ∧ (allOff s).fife = s.fife ∧ (allOff s).motion = s.motion ∧ (allOff s).noz =
    s.noz ∧ (allOff s).cal = s.cal ∧ (allOff s).otp = s.otp ∧ (allOff s).dbg = s.dbg ∧ (allOff s).cvu = s.cvu ∧
    (allOff s).pending = s.pending := by
  simp [allOff]

@[simp] theorem raiseFault_frame (s : State) : (raiseFault s).rst = s.rst ∧ (raiseFault s).clk = s.clk ∧ (raiseFault
    s).pwr = s.pwr ∧ (raiseFault s).reed = s.reed ∧ (raiseFault s).uart = s.uart ∧ (raiseFault s).net = s.net ∧
    (raiseFault s).params = s.params ∧ (raiseFault s).log = s.log ∧ (raiseFault s).hub = s.hub ∧ (raiseFault s).cal =
    s.cal ∧ (raiseFault s).seq = s.seq ∧ (raiseFault s).otp = s.otp ∧ (raiseFault s).dbg = s.dbg ∧ (raiseFault s).cvu
    = s.cvu ∧ (raiseFault s).pending = s.pending := by
  simp [raiseFault]

@[simp] theorem railLost_frame (s : State) (x1 : Nat) : (railLost s x1).rst = s.rst ∧ (railLost s x1).pwr = s.pwr ∧
    (railLost s x1).reed = s.reed ∧ (railLost s x1).uart = s.uart ∧ (railLost s x1).net = s.net ∧ (railLost s x1).nvm
    = s.nvm ∧ (railLost s x1).log = s.log ∧ (railLost s x1).jobs = s.jobs ∧ (railLost s x1).seq = s.seq ∧ (railLost s
    x1).otp = s.otp ∧ (railLost s x1).dbg = s.dbg ∧ (railLost s x1).cvu = s.cvu ∧ (railLost s x1).pending = s.pending
    := by
  simp [railLost]

@[simp] theorem cancelNow_frame (s : State) (x1 : Nat) : (cancelNow s x1).rst = s.rst ∧ (cancelNow s x1).clk = s.clk ∧
    (cancelNow s x1).pwr = s.pwr ∧ (cancelNow s x1).reed = s.reed ∧ (cancelNow s x1).uart = s.uart ∧ (cancelNow s
    x1).net = s.net ∧ (cancelNow s x1).params = s.params ∧ (cancelNow s x1).log = s.log ∧ (cancelNow s x1).saf = s.saf
    ∧ (cancelNow s x1).fife = s.fife ∧ (cancelNow s x1).motion = s.motion ∧ (cancelNow s x1).hub = s.hub ∧ (cancelNow
    s x1).cal = s.cal ∧ (cancelNow s x1).seq = s.seq ∧ (cancelNow s x1).otp = s.otp ∧ (cancelNow s x1).dbg = s.dbg ∧
    (cancelNow s x1).cvu = s.cvu ∧ (cancelNow s x1).pending = s.pending := by
  simp [cancelNow]

@[simp] theorem failJob_frame (s : State) (x1 : Nat) (x2 : Nat) : (failJob s x1 x2).rst = s.rst ∧ (failJob s x1
    x2).clk = s.clk ∧ (failJob s x1 x2).pwr = s.pwr ∧ (failJob s x1 x2).reed = s.reed ∧ (failJob s x1 x2).uart =
    s.uart ∧ (failJob s x1 x2).net = s.net ∧ (failJob s x1 x2).params = s.params ∧ (failJob s x1 x2).log = s.log ∧
    (failJob s x1 x2).saf = s.saf ∧ (failJob s x1 x2).fife = s.fife ∧ (failJob s x1 x2).motion = s.motion ∧ (failJob s
    x1 x2).hub = s.hub ∧ (failJob s x1 x2).cal = s.cal ∧ (failJob s x1 x2).seq = s.seq ∧ (failJob s x1 x2).otp = s.otp
    ∧ (failJob s x1 x2).dbg = s.dbg ∧ (failJob s x1 x2).cvu = s.cvu ∧ (failJob s x1 x2).pending = s.pending := by
  simp [failJob]

@[simp] theorem discardMsg_frame (s : State) (x1 : Nat) : (discardMsg s x1).rst = s.rst ∧ (discardMsg s x1).clk =
    s.clk ∧ (discardMsg s x1).pwr = s.pwr ∧ (discardMsg s x1).reed = s.reed ∧ (discardMsg s x1).uart = s.uart ∧
    (discardMsg s x1).net = s.net ∧ (discardMsg s x1).params = s.params ∧ (discardMsg s x1).log = s.log ∧ (discardMsg
    s x1).saf = s.saf ∧ (discardMsg s x1).fife = s.fife ∧ (discardMsg s x1).motion = s.motion ∧ (discardMsg s x1).hub
    = s.hub ∧ (discardMsg s x1).cal = s.cal ∧ (discardMsg s x1).seq = s.seq ∧ (discardMsg s x1).otp = s.otp ∧
    (discardMsg s x1).dbg = s.dbg ∧ (discardMsg s x1).cvu = s.cvu ∧ (discardMsg s x1).pending = s.pending := by
  simp only [discardMsg]; (repeat' split) <;> simp

@[simp] theorem endRawStream_frame (s : State) (x1 : Nat) : (endRawStream s x1).rst = s.rst ∧ (endRawStream s x1).clk
    = s.clk ∧ (endRawStream s x1).pwr = s.pwr ∧ (endRawStream s x1).reed = s.reed ∧ (endRawStream s x1).uart = s.uart
    ∧ (endRawStream s x1).net = s.net ∧ (endRawStream s x1).params = s.params ∧ (endRawStream s x1).log = s.log ∧
    (endRawStream s x1).saf = s.saf ∧ (endRawStream s x1).fife = s.fife ∧ (endRawStream s x1).motion = s.motion ∧
    (endRawStream s x1).hub = s.hub ∧ (endRawStream s x1).cal = s.cal ∧ (endRawStream s x1).seq = s.seq ∧
    (endRawStream s x1).otp = s.otp ∧ (endRawStream s x1).dbg = s.dbg ∧ (endRawStream s x1).cvu = s.cvu ∧
    (endRawStream s x1).pending = s.pending := by
  simp only [endRawStream]; (repeat' split) <;> simp

@[simp] theorem endKeyed_frame (s : State) (x1 : Nat) : (endKeyed s x1).rst = s.rst ∧ (endKeyed s x1).clk = s.clk ∧
    (endKeyed s x1).pwr = s.pwr ∧ (endKeyed s x1).reed = s.reed ∧ (endKeyed s x1).port = s.port ∧ (endKeyed s x1).uart
    = s.uart ∧ (endKeyed s x1).usb = s.usb ∧ (endKeyed s x1).net = s.net ∧ (endKeyed s x1).params = s.params ∧
    (endKeyed s x1).nvm = s.nvm ∧ (endKeyed s x1).log = s.log ∧ (endKeyed s x1).jobs = s.jobs ∧ (endKeyed s x1).saf =
    s.saf ∧ (endKeyed s x1).fife = s.fife ∧ (endKeyed s x1).motion = s.motion ∧ (endKeyed s x1).noz = s.noz ∧
    (endKeyed s x1).hub = s.hub ∧ (endKeyed s x1).cal = s.cal ∧ (endKeyed s x1).seq = s.seq ∧ (endKeyed s x1).otp =
    s.otp ∧ (endKeyed s x1).dbg = s.dbg ∧ (endKeyed s x1).cvu = s.cvu ∧ (endKeyed s x1).pending = s.pending := by
  simp [endKeyed]

@[simp] theorem closeConn_frame (s : State) (x1 : Nat) : (closeConn s x1).rst = s.rst ∧ (closeConn s x1).clk = s.clk ∧
    (closeConn s x1).pwr = s.pwr ∧ (closeConn s x1).reed = s.reed ∧ (closeConn s x1).uart = s.uart ∧ (closeConn s
    x1).params = s.params ∧ (closeConn s x1).log = s.log ∧ (closeConn s x1).saf = s.saf ∧ (closeConn s x1).fife =
    s.fife ∧ (closeConn s x1).motion = s.motion ∧ (closeConn s x1).hub = s.hub ∧ (closeConn s x1).cal = s.cal ∧
    (closeConn s x1).seq = s.seq ∧ (closeConn s x1).otp = s.otp ∧ (closeConn s x1).dbg = s.dbg ∧ (closeConn s x1).cvu
    = s.cvu ∧ (closeConn s x1).pending = s.pending := by
  simp only [closeConn]; (repeat' split) <;> simp

@[simp] theorem closeConns_frame (s : State) (x1 : Conn → Bool) : (closeConns s x1).rst = s.rst ∧ (closeConns s
    x1).clk = s.clk ∧ (closeConns s x1).pwr = s.pwr ∧ (closeConns s x1).reed = s.reed ∧ (closeConns s x1).uart =
    s.uart ∧ (closeConns s x1).params = s.params ∧ (closeConns s x1).log = s.log ∧ (closeConns s x1).saf = s.saf ∧
    (closeConns s x1).fife = s.fife ∧ (closeConns s x1).motion = s.motion ∧ (closeConns s x1).hub = s.hub ∧
    (closeConns s x1).cal = s.cal ∧ (closeConns s x1).seq = s.seq ∧ (closeConns s x1).otp = s.otp ∧ (closeConns s
    x1).dbg = s.dbg ∧ (closeConns s x1).cvu = s.cvu ∧ (closeConns s x1).pending = s.pending := by
  simp [closeConns]

@[simp] theorem logLost_frame (s : State) (x1 : Job) : (logLost s x1).rst = s.rst ∧ (logLost s x1).clk = s.clk ∧
    (logLost s x1).pwr = s.pwr ∧ (logLost s x1).reed = s.reed ∧ (logLost s x1).port = s.port ∧ (logLost s x1).uart =
    s.uart ∧ (logLost s x1).usb = s.usb ∧ (logLost s x1).net = s.net ∧ (logLost s x1).ctxs = s.ctxs ∧ (logLost s
    x1).params = s.params ∧ (logLost s x1).nvm = s.nvm ∧ (logLost s x1).jobs = s.jobs ∧ (logLost s x1).saf = s.saf ∧
    (logLost s x1).fife = s.fife ∧ (logLost s x1).motion = s.motion ∧ (logLost s x1).noz = s.noz ∧ (logLost s x1).hub
    = s.hub ∧ (logLost s x1).cal = s.cal ∧ (logLost s x1).seq = s.seq ∧ (logLost s x1).otp = s.otp ∧ (logLost s
    x1).dbg = s.dbg ∧ (logLost s x1).cvu = s.cvu ∧ (logLost s x1).pending = s.pending := by
  simp [logLost]

@[simp] theorem loseJobs_frame (s : State) (x1 : Bool) : (loseJobs s x1).rst = s.rst ∧ (loseJobs s x1).clk = s.clk ∧
    (loseJobs s x1).pwr = s.pwr ∧ (loseJobs s x1).reed = s.reed ∧ (loseJobs s x1).port = s.port ∧ (loseJobs s x1).uart
    = s.uart ∧ (loseJobs s x1).usb = s.usb ∧ (loseJobs s x1).net = s.net ∧ (loseJobs s x1).ctxs = s.ctxs ∧ (loseJobs s
    x1).params = s.params ∧ (loseJobs s x1).nvm = s.nvm ∧ (loseJobs s x1).saf = s.saf ∧ (loseJobs s x1).fife = s.fife
    ∧ (loseJobs s x1).motion = s.motion ∧ (loseJobs s x1).noz = s.noz ∧ (loseJobs s x1).hub = s.hub ∧ (loseJobs s
    x1).cal = s.cal ∧ (loseJobs s x1).seq = s.seq ∧ (loseJobs s x1).otp = s.otp ∧ (loseJobs s x1).dbg = s.dbg ∧
    (loseJobs s x1).cvu = s.cvu ∧ (loseJobs s x1).pending = s.pending := by
  simp [loseJobs]

@[simp] theorem requeue_frame (s : State) (x1 : Nat) : (requeue s x1).rst = s.rst ∧ (requeue s x1).clk = s.clk ∧
    (requeue s x1).pwr = s.pwr ∧ (requeue s x1).reed = s.reed ∧ (requeue s x1).uart = s.uart ∧ (requeue s x1).net =
    s.net ∧ (requeue s x1).params = s.params ∧ (requeue s x1).log = s.log ∧ (requeue s x1).saf = s.saf ∧ (requeue s
    x1).fife = s.fife ∧ (requeue s x1).motion = s.motion ∧ (requeue s x1).hub = s.hub ∧ (requeue s x1).cal = s.cal ∧
    (requeue s x1).seq = s.seq ∧ (requeue s x1).otp = s.otp ∧ (requeue s x1).dbg = s.dbg ∧ (requeue s x1).cvu = s.cvu
    ∧ (requeue s x1).pending = s.pending := by
  simp [requeue]

@[simp] theorem enterPstate_frame (s : State) (x1 : PState) : (enterPstate s x1).clk = s.clk ∧ (enterPstate s x1).reed
    = s.reed ∧ (enterPstate s x1).port = s.port ∧ (enterPstate s x1).uart = s.uart ∧ (enterPstate s x1).usb = s.usb ∧
    (enterPstate s x1).net = s.net ∧ (enterPstate s x1).ctxs = s.ctxs ∧ (enterPstate s x1).params = s.params ∧
    (enterPstate s x1).nvm = s.nvm ∧ (enterPstate s x1).jobs = s.jobs ∧ (enterPstate s x1).saf = s.saf ∧ (enterPstate
    s x1).fife = s.fife ∧ (enterPstate s x1).noz = s.noz ∧ (enterPstate s x1).hub = s.hub ∧ (enterPstate s x1).cal =
    s.cal ∧ (enterPstate s x1).seq = s.seq ∧ (enterPstate s x1).otp = s.otp ∧ (enterPstate s x1).dbg = s.dbg ∧
    (enterPstate s x1).cvu = s.cvu ∧ (enterPstate s x1).pending = s.pending := by
  simp [enterPstate]

@[simp] theorem wakeDoze_frame (s : State) : (wakeDoze s).clk = s.clk ∧ (wakeDoze s).reed = s.reed ∧ (wakeDoze s).port
    = s.port ∧ (wakeDoze s).uart = s.uart ∧ (wakeDoze s).usb = s.usb ∧ (wakeDoze s).net = s.net ∧ (wakeDoze s).ctxs =
    s.ctxs ∧ (wakeDoze s).params = s.params ∧ (wakeDoze s).nvm = s.nvm ∧ (wakeDoze s).jobs = s.jobs ∧ (wakeDoze s).saf
    = s.saf ∧ (wakeDoze s).fife = s.fife ∧ (wakeDoze s).noz = s.noz ∧ (wakeDoze s).hub = s.hub ∧ (wakeDoze s).cal =
    s.cal ∧ (wakeDoze s).seq = s.seq ∧ (wakeDoze s).otp = s.otp ∧ (wakeDoze s).dbg = s.dbg ∧ (wakeDoze s).cvu = s.cvu
    ∧ (wakeDoze s).pending = s.pending := by
  simp [wakeDoze]

@[simp] theorem closeDebug_frame (s : State) : (closeDebug s).rst = s.rst ∧ (closeDebug s).clk = s.clk ∧ (closeDebug
    s).pwr = s.pwr ∧ (closeDebug s).reed = s.reed ∧ (closeDebug s).port = s.port ∧ (closeDebug s).uart = s.uart ∧
    (closeDebug s).usb = s.usb ∧ (closeDebug s).params = s.params ∧ (closeDebug s).nvm = s.nvm ∧ (closeDebug s).log =
    s.log ∧ (closeDebug s).jobs = s.jobs ∧ (closeDebug s).saf = s.saf ∧ (closeDebug s).fife = s.fife ∧ (closeDebug
    s).motion = s.motion ∧ (closeDebug s).noz = s.noz ∧ (closeDebug s).hub = s.hub ∧ (closeDebug s).cal = s.cal ∧
    (closeDebug s).seq = s.seq ∧ (closeDebug s).otp = s.otp ∧ (closeDebug s).cvu = s.cvu ∧ (closeDebug s).pending =
    s.pending := by
  simp [closeDebug]

@[simp] theorem mainLost_frame (s : State) : (mainLost s).clk = s.clk ∧ (mainLost s).reed = s.reed ∧ (mainLost s).nvm
    = s.nvm ∧ (mainLost s).pending = s.pending := by
  simp [mainLost]

@[simp] theorem abortSeqNvm_frame (s : State) : (abortSeqNvm s).pwr = s.pwr ∧ (abortSeqNvm s).reed = s.reed ∧
    (abortSeqNvm s).port = s.port ∧ (abortSeqNvm s).uart = s.uart ∧ (abortSeqNvm s).usb = s.usb ∧ (abortSeqNvm s).net
    = s.net ∧ (abortSeqNvm s).ctxs = s.ctxs ∧ (abortSeqNvm s).params = s.params ∧ (abortSeqNvm s).jobs = s.jobs ∧
    (abortSeqNvm s).saf = s.saf ∧ (abortSeqNvm s).fife = s.fife ∧ (abortSeqNvm s).motion = s.motion ∧ (abortSeqNvm
    s).noz = s.noz ∧ (abortSeqNvm s).hub = s.hub ∧ (abortSeqNvm s).cal = s.cal ∧ (abortSeqNvm s).otp = s.otp ∧
    (abortSeqNvm s).dbg = s.dbg ∧ (abortSeqNvm s).cvu = s.cvu ∧ (abortSeqNvm s).pending = s.pending := by
  simp only [abortSeqNvm]; (repeat' split) <;> simp

@[simp] theorem inHandshake_frame (s : State) (x1 : RaReq) : (inHandshake s x1).2.rst = s.rst ∧ (inHandshake s
    x1).2.pwr = s.pwr ∧ (inHandshake s x1).2.reed = s.reed ∧ (inHandshake s x1).2.port = s.port ∧ (inHandshake s
    x1).2.uart = s.uart ∧ (inHandshake s x1).2.usb = s.usb ∧ (inHandshake s x1).2.net = s.net ∧ (inHandshake s
    x1).2.ctxs = s.ctxs ∧ (inHandshake s x1).2.params = s.params ∧ (inHandshake s x1).2.nvm = s.nvm ∧ (inHandshake s
    x1).2.log = s.log ∧ (inHandshake s x1).2.jobs = s.jobs ∧ (inHandshake s x1).2.saf = s.saf ∧ (inHandshake s
    x1).2.fife = s.fife ∧ (inHandshake s x1).2.motion = s.motion ∧ (inHandshake s x1).2.noz = s.noz ∧ (inHandshake s
    x1).2.hub = s.hub ∧ (inHandshake s x1).2.cal = s.cal ∧ (inHandshake s x1).2.seq = s.seq ∧ (inHandshake s x1).2.otp
    = s.otp ∧ (inHandshake s x1).2.dbg = s.dbg ∧ (inHandshake s x1).2.cvu = s.cvu ∧ (inHandshake s x1).2.pending =
    s.pending := by
  simp [inHandshake]

@[simp] theorem abortHubCfg_frame (s : State) : (abortHubCfg s).pwr = s.pwr ∧ (abortHubCfg s).reed = s.reed ∧
    (abortHubCfg s).port = s.port ∧ (abortHubCfg s).uart = s.uart ∧ (abortHubCfg s).usb = s.usb ∧ (abortHubCfg s).net
    = s.net ∧ (abortHubCfg s).ctxs = s.ctxs ∧ (abortHubCfg s).params = s.params ∧ (abortHubCfg s).nvm = s.nvm ∧
    (abortHubCfg s).log = s.log ∧ (abortHubCfg s).jobs = s.jobs ∧ (abortHubCfg s).saf = s.saf ∧ (abortHubCfg s).fife =
    s.fife ∧ (abortHubCfg s).motion = s.motion ∧ (abortHubCfg s).noz = s.noz ∧ (abortHubCfg s).cal = s.cal ∧
    (abortHubCfg s).seq = s.seq ∧ (abortHubCfg s).otp = s.otp ∧ (abortHubCfg s).dbg = s.dbg ∧ (abortHubCfg s).cvu =
    s.cvu ∧ (abortHubCfg s).pending = s.pending := by
  simp only [abortHubCfg]; (repeat' split) <;> simp

@[simp] theorem abortSeqReq_frame (s : State) : (abortSeqReq s).pwr = s.pwr ∧ (abortSeqReq s).reed = s.reed ∧
    (abortSeqReq s).port = s.port ∧ (abortSeqReq s).uart = s.uart ∧ (abortSeqReq s).usb = s.usb ∧ (abortSeqReq s).net
    = s.net ∧ (abortSeqReq s).ctxs = s.ctxs ∧ (abortSeqReq s).params = s.params ∧ (abortSeqReq s).nvm = s.nvm ∧
    (abortSeqReq s).log = s.log ∧ (abortSeqReq s).jobs = s.jobs ∧ (abortSeqReq s).motion = s.motion ∧ (abortSeqReq
    s).noz = s.noz ∧ (abortSeqReq s).hub = s.hub ∧ (abortSeqReq s).cal = s.cal ∧ (abortSeqReq s).otp = s.otp ∧
    (abortSeqReq s).dbg = s.dbg ∧ (abortSeqReq s).cvu = s.cvu ∧ (abortSeqReq s).pending = s.pending := by
  simp only [abortSeqReq]; (repeat' split) <;> simp

@[simp] theorem abortOtpRd_frame (s : State) : (abortOtpRd s).pwr = s.pwr ∧ (abortOtpRd s).reed = s.reed ∧ (abortOtpRd
    s).port = s.port ∧ (abortOtpRd s).uart = s.uart ∧ (abortOtpRd s).usb = s.usb ∧ (abortOtpRd s).net = s.net ∧
    (abortOtpRd s).ctxs = s.ctxs ∧ (abortOtpRd s).params = s.params ∧ (abortOtpRd s).nvm = s.nvm ∧ (abortOtpRd s).log
    = s.log ∧ (abortOtpRd s).jobs = s.jobs ∧ (abortOtpRd s).saf = s.saf ∧ (abortOtpRd s).fife = s.fife ∧ (abortOtpRd
    s).motion = s.motion ∧ (abortOtpRd s).noz = s.noz ∧ (abortOtpRd s).hub = s.hub ∧ (abortOtpRd s).cal = s.cal ∧
    (abortOtpRd s).seq = s.seq ∧ (abortOtpRd s).otp = s.otp ∧ (abortOtpRd s).dbg = s.dbg ∧ (abortOtpRd s).cvu = s.cvu
    ∧ (abortOtpRd s).pending = s.pending := by
  simp only [abortOtpRd]; (repeat' split) <;> simp

@[simp] theorem abortCrossings_frame (s : State) : (abortCrossings s).pwr = s.pwr ∧ (abortCrossings s).reed = s.reed ∧
    (abortCrossings s).port = s.port ∧ (abortCrossings s).uart = s.uart ∧ (abortCrossings s).usb = s.usb ∧
    (abortCrossings s).net = s.net ∧ (abortCrossings s).ctxs = s.ctxs ∧ (abortCrossings s).params = s.params ∧
    (abortCrossings s).jobs = s.jobs ∧ (abortCrossings s).motion = s.motion ∧ (abortCrossings s).noz = s.noz ∧
    (abortCrossings s).cal = s.cal ∧ (abortCrossings s).otp = s.otp ∧ (abortCrossings s).dbg = s.dbg ∧ (abortCrossings
    s).cvu = s.cvu ∧ (abortCrossings s).pending = s.pending := by
  simp [abortCrossings]

@[simp] theorem mainReset_frame (s : State) (x1 : Sys2Proof.Byte) : (mainReset s x1).pending = s.pending := by
  simp [mainReset]

@[simp] theorem notifyPstate_frame (s : State) (x1 : Nat) (x2 : Nat) : (notifyPstate s x1 x2).rst = s.rst ∧
    (notifyPstate s x1 x2).clk = s.clk ∧ (notifyPstate s x1 x2).pwr = s.pwr ∧ (notifyPstate s x1 x2).reed = s.reed ∧
    (notifyPstate s x1 x2).uart = s.uart ∧ (notifyPstate s x1 x2).net = s.net ∧ (notifyPstate s x1 x2).params =
    s.params ∧ (notifyPstate s x1 x2).nvm = s.nvm ∧ (notifyPstate s x1 x2).log = s.log ∧ (notifyPstate s x1 x2).jobs =
    s.jobs ∧ (notifyPstate s x1 x2).saf = s.saf ∧ (notifyPstate s x1 x2).fife = s.fife ∧ (notifyPstate s x1 x2).motion
    = s.motion ∧ (notifyPstate s x1 x2).noz = s.noz ∧ (notifyPstate s x1 x2).hub = s.hub ∧ (notifyPstate s x1 x2).cal
    = s.cal ∧ (notifyPstate s x1 x2).seq = s.seq ∧ (notifyPstate s x1 x2).otp = s.otp ∧ (notifyPstate s x1 x2).dbg =
    s.dbg ∧ (notifyPstate s x1 x2).cvu = s.cvu ∧ (notifyPstate s x1 x2).pending = s.pending := by
  simp [notifyPstate]

@[simp] theorem freshWake_frame (s : State) (x1 : Sys2Proof.Byte) : (freshWake s x1).rst = s.rst ∧ (freshWake s
    x1).clk = s.clk ∧ (freshWake s x1).reed = s.reed ∧ (freshWake s x1).port = s.port ∧ (freshWake s x1).uart = s.uart
    ∧ (freshWake s x1).usb = s.usb ∧ (freshWake s x1).net = s.net ∧ (freshWake s x1).ctxs = s.ctxs ∧ (freshWake s
    x1).params = s.params ∧ (freshWake s x1).nvm = s.nvm ∧ (freshWake s x1).log = s.log ∧ (freshWake s x1).jobs =
    s.jobs ∧ (freshWake s x1).saf = s.saf ∧ (freshWake s x1).fife = s.fife ∧ (freshWake s x1).motion = s.motion ∧
    (freshWake s x1).noz = s.noz ∧ (freshWake s x1).hub = s.hub ∧ (freshWake s x1).cal = s.cal ∧ (freshWake s x1).seq
    = s.seq ∧ (freshWake s x1).otp = s.otp ∧ (freshWake s x1).dbg = s.dbg ∧ (freshWake s x1).cvu = s.cvu ∧ (freshWake
    s x1).pending = s.pending := by
  simp [freshWake]

@[simp] theorem capForEntry_frame (s : State) : (capForEntry s).rst = s.rst ∧ (capForEntry s).clk = s.clk ∧
    (capForEntry s).pwr = s.pwr ∧ (capForEntry s).reed = s.reed ∧ (capForEntry s).port = s.port ∧ (capForEntry s).uart
    = s.uart ∧ (capForEntry s).usb = s.usb ∧ (capForEntry s).net = s.net ∧ (capForEntry s).ctxs = s.ctxs ∧
    (capForEntry s).params = s.params ∧ (capForEntry s).nvm = s.nvm ∧ (capForEntry s).log = s.log ∧ (capForEntry
    s).jobs = s.jobs ∧ (capForEntry s).saf = s.saf ∧ (capForEntry s).fife = s.fife ∧ (capForEntry s).noz = s.noz ∧
    (capForEntry s).hub = s.hub ∧ (capForEntry s).cal = s.cal ∧ (capForEntry s).seq = s.seq ∧ (capForEntry s).otp =
    s.otp ∧ (capForEntry s).dbg = s.dbg ∧ (capForEntry s).cvu = s.cvu ∧ (capForEntry s).pending = s.pending := by
  simp [capForEntry]

@[simp] theorem enterDoze_frame (s : State) : (enterDoze s).clk = s.clk ∧ (enterDoze s).reed = s.reed ∧ (enterDoze
    s).port = s.port ∧ (enterDoze s).uart = s.uart ∧ (enterDoze s).usb = s.usb ∧ (enterDoze s).net = s.net ∧
    (enterDoze s).ctxs = s.ctxs ∧ (enterDoze s).params = s.params ∧ (enterDoze s).nvm = s.nvm ∧ (enterDoze s).jobs =
    s.jobs ∧ (enterDoze s).saf = s.saf ∧ (enterDoze s).fife = s.fife ∧ (enterDoze s).noz = s.noz ∧ (enterDoze s).hub =
    s.hub ∧ (enterDoze s).cal = s.cal ∧ (enterDoze s).seq = s.seq ∧ (enterDoze s).otp = s.otp ∧ (enterDoze s).dbg =
    s.dbg ∧ (enterDoze s).cvu = s.cvu ∧ (enterDoze s).pending = s.pending := by
  simp [enterDoze]

@[simp] theorem dropReply_frame (s : State) (x1 : Entry) : (dropReply s x1).rst = s.rst ∧ (dropReply s x1).clk = s.clk
    ∧ (dropReply s x1).pwr = s.pwr ∧ (dropReply s x1).reed = s.reed ∧ (dropReply s x1).uart = s.uart ∧ (dropReply s
    x1).usb = s.usb ∧ (dropReply s x1).net = s.net ∧ (dropReply s x1).params = s.params ∧ (dropReply s x1).nvm = s.nvm
    ∧ (dropReply s x1).log = s.log ∧ (dropReply s x1).jobs = s.jobs ∧ (dropReply s x1).saf = s.saf ∧ (dropReply s
    x1).fife = s.fife ∧ (dropReply s x1).motion = s.motion ∧ (dropReply s x1).noz = s.noz ∧ (dropReply s x1).hub =
    s.hub ∧ (dropReply s x1).cal = s.cal ∧ (dropReply s x1).seq = s.seq ∧ (dropReply s x1).otp = s.otp ∧ (dropReply s
    x1).dbg = s.dbg ∧ (dropReply s x1).cvu = s.cvu ∧ (dropReply s x1).pending = s.pending := by
  simp only [dropReply]; (repeat' split) <;> simp

@[simp] theorem napCommit_frame (s : State) (x1 : Entry) : (napCommit s x1).clk = s.clk ∧ (napCommit s x1).cal = s.cal
    ∧ (napCommit s x1).otp = s.otp ∧ (napCommit s x1).pending = s.pending := by
  simp [napCommit]

@[simp] theorem stopHub_frame (s : State) : (stopHub s).rst = s.rst ∧ (stopHub s).clk = s.clk ∧ (stopHub s).pwr =
    s.pwr ∧ (stopHub s).reed = s.reed ∧ (stopHub s).port = s.port ∧ (stopHub s).uart = s.uart ∧ (stopHub s).usb =
    s.usb ∧ (stopHub s).net = s.net ∧ (stopHub s).ctxs = s.ctxs ∧ (stopHub s).params = s.params ∧ (stopHub s).nvm =
    s.nvm ∧ (stopHub s).log = s.log ∧ (stopHub s).jobs = s.jobs ∧ (stopHub s).saf = s.saf ∧ (stopHub s).fife = s.fife
    ∧ (stopHub s).motion = s.motion ∧ (stopHub s).noz = s.noz ∧ (stopHub s).cal = s.cal ∧ (stopHub s).seq = s.seq ∧
    (stopHub s).otp = s.otp ∧ (stopHub s).dbg = s.dbg ∧ (stopHub s).cvu = s.cvu ∧ (stopHub s).pending = s.pending :=
    by
  simp [stopHub]

@[simp] theorem restartHub_frame (s : State) (x1 : Sys2Proof.Half) : (restartHub s x1).rst = s.rst ∧ (restartHub s
    x1).clk = s.clk ∧ (restartHub s x1).pwr = s.pwr ∧ (restartHub s x1).reed = s.reed ∧ (restartHub s x1).port =
    s.port ∧ (restartHub s x1).uart = s.uart ∧ (restartHub s x1).usb = s.usb ∧ (restartHub s x1).net = s.net ∧
    (restartHub s x1).ctxs = s.ctxs ∧ (restartHub s x1).params = s.params ∧ (restartHub s x1).nvm = s.nvm ∧
    (restartHub s x1).log = s.log ∧ (restartHub s x1).jobs = s.jobs ∧ (restartHub s x1).fife = s.fife ∧ (restartHub s
    x1).motion = s.motion ∧ (restartHub s x1).noz = s.noz ∧ (restartHub s x1).cal = s.cal ∧ (restartHub s x1).seq =
    s.seq ∧ (restartHub s x1).otp = s.otp ∧ (restartHub s x1).dbg = s.dbg ∧ (restartHub s x1).cvu = s.cvu ∧
    (restartHub s x1).pending = s.pending := by
  simp [restartHub]

@[simp] theorem hibRails_frame (s : State) : (hibRails s).rst = s.rst ∧ (hibRails s).reed = s.reed ∧ (hibRails s).uart
    = s.uart ∧ (hibRails s).net = s.net ∧ (hibRails s).otp = s.otp ∧ (hibRails s).dbg = s.dbg ∧ (hibRails s).pending =
    s.pending := by
  simp [hibRails]

@[simp] theorem hibCommit_frame (s : State) : (hibCommit s).pending = s.pending := by
  simp [hibCommit]

@[simp] theorem moveCommit_frame (s : State) : (moveCommit s).clk = s.clk ∧ (moveCommit s).nvm = s.nvm ∧ (moveCommit
    s).pending = s.pending := by
  simp [moveCommit]

@[simp] theorem startMove_frame (s : State) : (startMove s).rst = s.rst ∧ (startMove s).reed = s.reed ∧ (startMove
    s).uart = s.uart ∧ (startMove s).net = s.net ∧ (startMove s).otp = s.otp ∧ (startMove s).dbg = s.dbg ∧ (startMove
    s).pending = s.pending := by
  simp [startMove]

@[simp] theorem tryEnter_frame (s : State) : (tryEnter s).pending = s.pending := by
  simp only [tryEnter]; (repeat' split) <;> simp

@[simp] theorem railsUp_frame (s : State) : (railsUp s).rst = s.rst ∧ (railsUp s).clk = s.clk ∧ (railsUp s).reed =
    s.reed ∧ (railsUp s).uart = s.uart ∧ (railsUp s).net = s.net ∧ (railsUp s).nvm = s.nvm ∧ (railsUp s).log = s.log ∧
    (railsUp s).jobs = s.jobs ∧ (railsUp s).saf = s.saf ∧ (railsUp s).motion = s.motion ∧ (railsUp s).noz = s.noz ∧
    (railsUp s).hub = s.hub ∧ (railsUp s).cal = s.cal ∧ (railsUp s).otp = s.otp ∧ (railsUp s).dbg = s.dbg ∧ (railsUp
    s).cvu = s.cvu ∧ (railsUp s).pending = s.pending := by
  simp [railsUp]

@[simp] theorem startNapWake_frame (s : State) : (startNapWake s).clk = s.clk ∧ (startNapWake s).uart = s.uart ∧
    (startNapWake s).net = s.net ∧ (startNapWake s).nvm = s.nvm ∧ (startNapWake s).log = s.log ∧ (startNapWake s).jobs
    = s.jobs ∧ (startNapWake s).saf = s.saf ∧ (startNapWake s).motion = s.motion ∧ (startNapWake s).noz = s.noz ∧
    (startNapWake s).hub = s.hub ∧ (startNapWake s).cal = s.cal ∧ (startNapWake s).otp = s.otp ∧ (startNapWake s).dbg
    = s.dbg ∧ (startNapWake s).cvu = s.cvu ∧ (startNapWake s).pending = s.pending := by
  simp [startNapWake]

@[simp] theorem startHibWake_frame (s : State) : (startHibWake s).uart = s.uart ∧ (startHibWake s).net = s.net ∧
    (startHibWake s).nvm = s.nvm ∧ (startHibWake s).jobs = s.jobs ∧ (startHibWake s).noz = s.noz ∧ (startHibWake
    s).cal = s.cal ∧ (startHibWake s).otp = s.otp ∧ (startHibWake s).dbg = s.dbg ∧ (startHibWake s).cvu = s.cvu ∧
    (startHibWake s).pending = s.pending := by
  simp [startHibWake]

@[simp] theorem noteReads_frame (s : State) (x1 : List Nat) : (noteReads s x1).rst = s.rst ∧ (noteReads s x1).clk =
    s.clk ∧ (noteReads s x1).pwr = s.pwr ∧ (noteReads s x1).reed = s.reed ∧ (noteReads s x1).port = s.port ∧
    (noteReads s x1).uart = s.uart ∧ (noteReads s x1).usb = s.usb ∧ (noteReads s x1).net = s.net ∧ (noteReads s
    x1).ctxs = s.ctxs ∧ (noteReads s x1).params = s.params ∧ (noteReads s x1).nvm = s.nvm ∧ (noteReads s x1).jobs =
    s.jobs ∧ (noteReads s x1).saf = s.saf ∧ (noteReads s x1).fife = s.fife ∧ (noteReads s x1).motion = s.motion ∧
    (noteReads s x1).noz = s.noz ∧ (noteReads s x1).hub = s.hub ∧ (noteReads s x1).cal = s.cal ∧ (noteReads s x1).seq
    = s.seq ∧ (noteReads s x1).dbg = s.dbg ∧ (noteReads s x1).cvu = s.cvu ∧ (noteReads s x1).pending = s.pending := by
  simp [noteReads]

@[simp] theorem cloveStart_frame (s : State) (x1 : Sys2Proof.Half) : (cloveStart s x1).uart = s.uart ∧ (cloveStart s
    x1).net = s.net ∧ (cloveStart s x1).params = s.params ∧ (cloveStart s x1).nvm = s.nvm ∧ (cloveStart s x1).jobs =
    s.jobs ∧ (cloveStart s x1).motion = s.motion ∧ (cloveStart s x1).noz = s.noz ∧ (cloveStart s x1).dbg = s.dbg ∧
    (cloveStart s x1).cvu = s.cvu ∧ (cloveStart s x1).pending = s.pending := by
  simp [cloveStart]

@[simp] theorem fullReset_frame (s : State) : (fullReset s).pending = s.pending := by
  simp [fullReset]

@[simp] theorem commitMove_frame (s : State) : (commitMove s).clk = s.clk ∧ (commitMove s).nvm = s.nvm ∧ (commitMove
    s).pending = s.pending := by
  simp [commitMove]

@[simp] theorem moveOn_frame (s : State) : (moveOn s).pending = s.pending := by
  simp [moveOn]

@[simp] theorem powerDue_frame (s : State) : (powerDue s).pending = s.pending := by
  simp [powerDue]

@[simp] theorem recordWake_frame (s : State) (x1 : Nat) : (recordWake s x1).rst = s.rst ∧ (recordWake s x1).reed =
    s.reed ∧ (recordWake s x1).port = s.port ∧ (recordWake s x1).uart = s.uart ∧ (recordWake s x1).usb = s.usb ∧
    (recordWake s x1).net = s.net ∧ (recordWake s x1).ctxs = s.ctxs ∧ (recordWake s x1).params = s.params ∧
    (recordWake s x1).nvm = s.nvm ∧ (recordWake s x1).log = s.log ∧ (recordWake s x1).jobs = s.jobs ∧ (recordWake s
    x1).saf = s.saf ∧ (recordWake s x1).fife = s.fife ∧ (recordWake s x1).motion = s.motion ∧ (recordWake s x1).noz =
    s.noz ∧ (recordWake s x1).hub = s.hub ∧ (recordWake s x1).cal = s.cal ∧ (recordWake s x1).seq = s.seq ∧
    (recordWake s x1).otp = s.otp ∧ (recordWake s x1).dbg = s.dbg ∧ (recordWake s x1).cvu = s.cvu ∧ (recordWake s
    x1).pending = s.pending := by
  simp [recordWake]

@[simp] theorem cancelEntry_frame (s : State) : (cancelEntry s).clk = s.clk ∧ (cancelEntry s).reed = s.reed ∧
    (cancelEntry s).port = s.port ∧ (cancelEntry s).uart = s.uart ∧ (cancelEntry s).usb = s.usb ∧ (cancelEntry s).net
    = s.net ∧ (cancelEntry s).ctxs = s.ctxs ∧ (cancelEntry s).params = s.params ∧ (cancelEntry s).nvm = s.nvm ∧
    (cancelEntry s).jobs = s.jobs ∧ (cancelEntry s).saf = s.saf ∧ (cancelEntry s).fife = s.fife ∧ (cancelEntry s).noz
    = s.noz ∧ (cancelEntry s).hub = s.hub ∧ (cancelEntry s).cal = s.cal ∧ (cancelEntry s).seq = s.seq ∧ (cancelEntry
    s).otp = s.otp ∧ (cancelEntry s).dbg = s.dbg ∧ (cancelEntry s).cvu = s.cvu ∧ (cancelEntry s).pending = s.pending
    := by
  simp [cancelEntry]

@[simp] theorem wakeSource_frame (s : State) (x1 : Nat) : (wakeSource s x1).pending = s.pending := by
  simp only [wakeSource]; (try simp); (repeat' split) <;> (try simp)

@[simp] theorem wakeWork_frame (s : State) (x1 : Nat) : (wakeWork s x1).pending = s.pending := by
  simp [wakeWork]

@[simp] theorem reedHears_frame (s : State) (x1 : Sys2Proof.Byte) : (reedHears s x1).pending = s.pending := by
  simp [reedHears]

@[simp] theorem readWake_frame (s : State) : (readWake s).rst = s.rst ∧ (readWake s).clk = s.clk ∧ (readWake s).reed =
    s.reed ∧ (readWake s).port = s.port ∧ (readWake s).uart = s.uart ∧ (readWake s).usb = s.usb ∧ (readWake s).net =
    s.net ∧ (readWake s).ctxs = s.ctxs ∧ (readWake s).params = s.params ∧ (readWake s).nvm = s.nvm ∧ (readWake s).jobs
    = s.jobs ∧ (readWake s).saf = s.saf ∧ (readWake s).fife = s.fife ∧ (readWake s).motion = s.motion ∧ (readWake
    s).noz = s.noz ∧ (readWake s).hub = s.hub ∧ (readWake s).cal = s.cal ∧ (readWake s).seq = s.seq ∧ (readWake s).otp
    = s.otp ∧ (readWake s).dbg = s.dbg ∧ (readWake s).cvu = s.cvu ∧ (readWake s).pending = s.pending := by
  simp [readWake]

@[simp] theorem phyGate_frame (s : State) : (phyGate s).rst = s.rst ∧ (phyGate s).clk = s.clk ∧ (phyGate s).pwr =
    s.pwr ∧ (phyGate s).reed = s.reed ∧ (phyGate s).port = s.port ∧ (phyGate s).uart = s.uart ∧ (phyGate s).usb =
    s.usb ∧ (phyGate s).ctxs = s.ctxs ∧ (phyGate s).params = s.params ∧ (phyGate s).nvm = s.nvm ∧ (phyGate s).log =
    s.log ∧ (phyGate s).jobs = s.jobs ∧ (phyGate s).saf = s.saf ∧ (phyGate s).fife = s.fife ∧ (phyGate s).motion =
    s.motion ∧ (phyGate s).noz = s.noz ∧ (phyGate s).hub = s.hub ∧ (phyGate s).cal = s.cal ∧ (phyGate s).seq = s.seq ∧
    (phyGate s).otp = s.otp ∧ (phyGate s).dbg = s.dbg ∧ (phyGate s).cvu = s.cvu ∧ (phyGate s).pending = s.pending :=
    by
  simp [phyGate]

@[simp] theorem usbAttach_frame (s : State) : (usbAttach s).rst = s.rst ∧ (usbAttach s).clk = s.clk ∧ (usbAttach
    s).pwr = s.pwr ∧ (usbAttach s).reed = s.reed ∧ (usbAttach s).port = s.port ∧ (usbAttach s).uart = s.uart ∧
    (usbAttach s).net = s.net ∧ (usbAttach s).ctxs = s.ctxs ∧ (usbAttach s).params = s.params ∧ (usbAttach s).nvm =
    s.nvm ∧ (usbAttach s).log = s.log ∧ (usbAttach s).jobs = s.jobs ∧ (usbAttach s).saf = s.saf ∧ (usbAttach s).fife =
    s.fife ∧ (usbAttach s).motion = s.motion ∧ (usbAttach s).noz = s.noz ∧ (usbAttach s).hub = s.hub ∧ (usbAttach
    s).cal = s.cal ∧ (usbAttach s).seq = s.seq ∧ (usbAttach s).otp = s.otp ∧ (usbAttach s).dbg = s.dbg ∧ (usbAttach
    s).cvu = s.cvu ∧ (usbAttach s).pending = s.pending := by
  simp [usbAttach]

@[simp] theorem readClassPins_frame (s : State) (x1 : BitVec 3) : (readClassPins s x1).rst = s.rst ∧ (readClassPins s
    x1).clk = s.clk ∧ (readClassPins s x1).pwr = s.pwr ∧ (readClassPins s x1).reed = s.reed ∧ (readClassPins s
    x1).uart = s.uart ∧ (readClassPins s x1).net = s.net ∧ (readClassPins s x1).params = s.params ∧ (readClassPins s
    x1).nvm = s.nvm ∧ (readClassPins s x1).jobs = s.jobs ∧ (readClassPins s x1).fife = s.fife ∧ (readClassPins s
    x1).motion = s.motion ∧ (readClassPins s x1).noz = s.noz ∧ (readClassPins s x1).hub = s.hub ∧ (readClassPins s
    x1).cal = s.cal ∧ (readClassPins s x1).seq = s.seq ∧ (readClassPins s x1).otp = s.otp ∧ (readClassPins s x1).dbg =
    s.dbg ∧ (readClassPins s x1).cvu = s.cvu ∧ (readClassPins s x1).pending = s.pending := by
  simp [readClassPins]

@[simp] theorem modBox_frame (s : State) (x1 : Box) (x2 : Ctx → Ctx) : (modBox s x1 x2).rst = s.rst ∧ (modBox s x1
    x2).clk = s.clk ∧ (modBox s x1 x2).pwr = s.pwr ∧ (modBox s x1 x2).reed = s.reed ∧ (modBox s x1 x2).port = s.port ∧
    (modBox s x1 x2).uart = s.uart ∧ (modBox s x1 x2).usb = s.usb ∧ (modBox s x1 x2).params = s.params ∧ (modBox s x1
    x2).nvm = s.nvm ∧ (modBox s x1 x2).log = s.log ∧ (modBox s x1 x2).jobs = s.jobs ∧ (modBox s x1 x2).saf = s.saf ∧
    (modBox s x1 x2).fife = s.fife ∧ (modBox s x1 x2).motion = s.motion ∧ (modBox s x1 x2).noz = s.noz ∧ (modBox s x1
    x2).hub = s.hub ∧ (modBox s x1 x2).cal = s.cal ∧ (modBox s x1 x2).seq = s.seq ∧ (modBox s x1 x2).otp = s.otp ∧
    (modBox s x1 x2).dbg = s.dbg ∧ (modBox s x1 x2).cvu = s.cvu ∧ (modBox s x1 x2).pending = s.pending := by
  simp only [modBox]; (repeat' split) <;> simp

@[simp] theorem modCnt_frame (s : State) (x1 : Box) (x2 : Counters → Counters) : (modCnt s x1 x2).rst = s.rst ∧
    (modCnt s x1 x2).clk = s.clk ∧ (modCnt s x1 x2).pwr = s.pwr ∧ (modCnt s x1 x2).reed = s.reed ∧ (modCnt s x1
    x2).port = s.port ∧ (modCnt s x1 x2).uart = s.uart ∧ (modCnt s x1 x2).usb = s.usb ∧ (modCnt s x1 x2).params =
    s.params ∧ (modCnt s x1 x2).nvm = s.nvm ∧ (modCnt s x1 x2).log = s.log ∧ (modCnt s x1 x2).jobs = s.jobs ∧ (modCnt
    s x1 x2).saf = s.saf ∧ (modCnt s x1 x2).fife = s.fife ∧ (modCnt s x1 x2).motion = s.motion ∧ (modCnt s x1 x2).noz
    = s.noz ∧ (modCnt s x1 x2).hub = s.hub ∧ (modCnt s x1 x2).cal = s.cal ∧ (modCnt s x1 x2).seq = s.seq ∧ (modCnt s
    x1 x2).otp = s.otp ∧ (modCnt s x1 x2).dbg = s.dbg ∧ (modCnt s x1 x2).cvu = s.cvu ∧ (modCnt s x1 x2).pending =
    s.pending := by
  simp [modCnt]

@[simp] theorem countLink_frame (s : State) (x1 : Nat) : (countLink s x1).rst = s.rst ∧ (countLink s x1).clk = s.clk ∧
    (countLink s x1).pwr = s.pwr ∧ (countLink s x1).reed = s.reed ∧ (countLink s x1).port = s.port ∧ (countLink s
    x1).uart = s.uart ∧ (countLink s x1).usb = s.usb ∧ (countLink s x1).params = s.params ∧ (countLink s x1).nvm =
    s.nvm ∧ (countLink s x1).log = s.log ∧ (countLink s x1).jobs = s.jobs ∧ (countLink s x1).saf = s.saf ∧ (countLink
    s x1).fife = s.fife ∧ (countLink s x1).motion = s.motion ∧ (countLink s x1).noz = s.noz ∧ (countLink s x1).hub =
    s.hub ∧ (countLink s x1).cal = s.cal ∧ (countLink s x1).seq = s.seq ∧ (countLink s x1).otp = s.otp ∧ (countLink s
    x1).dbg = s.dbg ∧ (countLink s x1).cvu = s.cvu ∧ (countLink s x1).pending = s.pending := by
  simp [countLink]

@[simp] theorem queueResponse_frame (s : State) (x1 : Box) (x2 : SlotUse) (x3 : Nat) (x4 : Sys2Proof.Half) (x5 :
    Reply) : (queueResponse s x1 x2 x3 x4 x5).rst = s.rst ∧ (queueResponse s x1 x2 x3 x4 x5).clk = s.clk ∧
    (queueResponse s x1 x2 x3 x4 x5).pwr = s.pwr ∧ (queueResponse s x1 x2 x3 x4 x5).reed = s.reed ∧ (queueResponse s
    x1 x2 x3 x4 x5).port = s.port ∧ (queueResponse s x1 x2 x3 x4 x5).uart = s.uart ∧ (queueResponse s x1 x2 x3 x4
    x5).usb = s.usb ∧ (queueResponse s x1 x2 x3 x4 x5).params = s.params ∧ (queueResponse s x1 x2 x3 x4 x5).nvm =
    s.nvm ∧ (queueResponse s x1 x2 x3 x4 x5).log = s.log ∧ (queueResponse s x1 x2 x3 x4 x5).jobs = s.jobs ∧
    (queueResponse s x1 x2 x3 x4 x5).saf = s.saf ∧ (queueResponse s x1 x2 x3 x4 x5).fife = s.fife ∧ (queueResponse s
    x1 x2 x3 x4 x5).motion = s.motion ∧ (queueResponse s x1 x2 x3 x4 x5).noz = s.noz ∧ (queueResponse s x1 x2 x3 x4
    x5).hub = s.hub ∧ (queueResponse s x1 x2 x3 x4 x5).cal = s.cal ∧ (queueResponse s x1 x2 x3 x4 x5).seq = s.seq ∧
    (queueResponse s x1 x2 x3 x4 x5).otp = s.otp ∧ (queueResponse s x1 x2 x3 x4 x5).dbg = s.dbg ∧ (queueResponse s x1
    x2 x3 x4 x5).cvu = s.cvu ∧ (queueResponse s x1 x2 x3 x4 x5).pending = s.pending := by
  simp [queueResponse]

@[simp] theorem refuseVia_frame (s : State) (x1 : Box) (x2 : SlotUse) (x3 : Nat) (x4 : Sys2Proof.Half) (x5 : Reply) :
    (refuseVia s x1 x2 x3 x4 x5).rst = s.rst ∧ (refuseVia s x1 x2 x3 x4 x5).clk = s.clk ∧ (refuseVia s x1 x2 x3 x4
    x5).pwr = s.pwr ∧ (refuseVia s x1 x2 x3 x4 x5).reed = s.reed ∧ (refuseVia s x1 x2 x3 x4 x5).port = s.port ∧
    (refuseVia s x1 x2 x3 x4 x5).uart = s.uart ∧ (refuseVia s x1 x2 x3 x4 x5).usb = s.usb ∧ (refuseVia s x1 x2 x3 x4
    x5).params = s.params ∧ (refuseVia s x1 x2 x3 x4 x5).nvm = s.nvm ∧ (refuseVia s x1 x2 x3 x4 x5).log = s.log ∧
    (refuseVia s x1 x2 x3 x4 x5).jobs = s.jobs ∧ (refuseVia s x1 x2 x3 x4 x5).saf = s.saf ∧ (refuseVia s x1 x2 x3 x4
    x5).fife = s.fife ∧ (refuseVia s x1 x2 x3 x4 x5).motion = s.motion ∧ (refuseVia s x1 x2 x3 x4 x5).noz = s.noz ∧
    (refuseVia s x1 x2 x3 x4 x5).hub = s.hub ∧ (refuseVia s x1 x2 x3 x4 x5).cal = s.cal ∧ (refuseVia s x1 x2 x3 x4
    x5).seq = s.seq ∧ (refuseVia s x1 x2 x3 x4 x5).otp = s.otp ∧ (refuseVia s x1 x2 x3 x4 x5).dbg = s.dbg ∧ (refuseVia
    s x1 x2 x3 x4 x5).cvu = s.cvu ∧ (refuseVia s x1 x2 x3 x4 x5).pending = s.pending := by
  simp [refuseVia]

@[simp] theorem cacheResponse_frame (s : State) (x1 : Box) (x2 : Nat) (x3 : Sys2Proof.Half) (x4 : Bool) (x5 : Reply) :
    (cacheResponse s x1 x2 x3 x4 x5).rst = s.rst ∧ (cacheResponse s x1 x2 x3 x4 x5).clk = s.clk ∧ (cacheResponse s x1
    x2 x3 x4 x5).pwr = s.pwr ∧ (cacheResponse s x1 x2 x3 x4 x5).reed = s.reed ∧ (cacheResponse s x1 x2 x3 x4 x5).port
    = s.port ∧ (cacheResponse s x1 x2 x3 x4 x5).uart = s.uart ∧ (cacheResponse s x1 x2 x3 x4 x5).usb = s.usb ∧
    (cacheResponse s x1 x2 x3 x4 x5).params = s.params ∧ (cacheResponse s x1 x2 x3 x4 x5).nvm = s.nvm ∧ (cacheResponse
    s x1 x2 x3 x4 x5).log = s.log ∧ (cacheResponse s x1 x2 x3 x4 x5).jobs = s.jobs ∧ (cacheResponse s x1 x2 x3 x4
    x5).saf = s.saf ∧ (cacheResponse s x1 x2 x3 x4 x5).fife = s.fife ∧ (cacheResponse s x1 x2 x3 x4 x5).motion =
    s.motion ∧ (cacheResponse s x1 x2 x3 x4 x5).noz = s.noz ∧ (cacheResponse s x1 x2 x3 x4 x5).hub = s.hub ∧
    (cacheResponse s x1 x2 x3 x4 x5).cal = s.cal ∧ (cacheResponse s x1 x2 x3 x4 x5).seq = s.seq ∧ (cacheResponse s x1
    x2 x3 x4 x5).otp = s.otp ∧ (cacheResponse s x1 x2 x3 x4 x5).dbg = s.dbg ∧ (cacheResponse s x1 x2 x3 x4 x5).cvu =
    s.cvu ∧ (cacheResponse s x1 x2 x3 x4 x5).pending = s.pending := by
  simp [cacheResponse]

@[simp] theorem countIn_frame (s : State) (x1 : Sys2Proof.Link) (x2 : Nat) : (countIn s x1 x2).rst = s.rst ∧ (countIn
    s x1 x2).clk = s.clk ∧ (countIn s x1 x2).pwr = s.pwr ∧ (countIn s x1 x2).reed = s.reed ∧ (countIn s x1 x2).port =
    s.port ∧ (countIn s x1 x2).uart = s.uart ∧ (countIn s x1 x2).usb = s.usb ∧ (countIn s x1 x2).ctxs = s.ctxs ∧
    (countIn s x1 x2).params = s.params ∧ (countIn s x1 x2).nvm = s.nvm ∧ (countIn s x1 x2).log = s.log ∧ (countIn s
    x1 x2).jobs = s.jobs ∧ (countIn s x1 x2).saf = s.saf ∧ (countIn s x1 x2).fife = s.fife ∧ (countIn s x1 x2).motion
    = s.motion ∧ (countIn s x1 x2).noz = s.noz ∧ (countIn s x1 x2).hub = s.hub ∧ (countIn s x1 x2).cal = s.cal ∧
    (countIn s x1 x2).seq = s.seq ∧ (countIn s x1 x2).otp = s.otp ∧ (countIn s x1 x2).dbg = s.dbg ∧ (countIn s x1
    x2).cvu = s.cvu ∧ (countIn s x1 x2).pending = s.pending := by
  simp only [countIn]; (repeat' split) <;> simp

@[simp] theorem countOut_frame (s : State) (x1 : Sys2Proof.Link) (x2 : Nat) : (countOut s x1 x2).rst = s.rst ∧
    (countOut s x1 x2).clk = s.clk ∧ (countOut s x1 x2).pwr = s.pwr ∧ (countOut s x1 x2).reed = s.reed ∧ (countOut s
    x1 x2).port = s.port ∧ (countOut s x1 x2).uart = s.uart ∧ (countOut s x1 x2).usb = s.usb ∧ (countOut s x1 x2).ctxs
    = s.ctxs ∧ (countOut s x1 x2).params = s.params ∧ (countOut s x1 x2).nvm = s.nvm ∧ (countOut s x1 x2).log = s.log
    ∧ (countOut s x1 x2).jobs = s.jobs ∧ (countOut s x1 x2).saf = s.saf ∧ (countOut s x1 x2).fife = s.fife ∧ (countOut
    s x1 x2).motion = s.motion ∧ (countOut s x1 x2).noz = s.noz ∧ (countOut s x1 x2).hub = s.hub ∧ (countOut s x1
    x2).cal = s.cal ∧ (countOut s x1 x2).seq = s.seq ∧ (countOut s x1 x2).otp = s.otp ∧ (countOut s x1 x2).dbg = s.dbg
    ∧ (countOut s x1 x2).cvu = s.cvu ∧ (countOut s x1 x2).pending = s.pending := by
  simp only [countOut]; (repeat' split) <;> simp

@[simp] theorem endSessionOn_frame (s : State) (x1 : Nat) : (endSessionOn s x1).rst = s.rst ∧ (endSessionOn s x1).clk
    = s.clk ∧ (endSessionOn s x1).pwr = s.pwr ∧ (endSessionOn s x1).reed = s.reed ∧ (endSessionOn s x1).uart = s.uart
    ∧ (endSessionOn s x1).params = s.params ∧ (endSessionOn s x1).log = s.log ∧ (endSessionOn s x1).saf = s.saf ∧
    (endSessionOn s x1).fife = s.fife ∧ (endSessionOn s x1).motion = s.motion ∧ (endSessionOn s x1).hub = s.hub ∧
    (endSessionOn s x1).cal = s.cal ∧ (endSessionOn s x1).seq = s.seq ∧ (endSessionOn s x1).otp = s.otp ∧
    (endSessionOn s x1).dbg = s.dbg ∧ (endSessionOn s x1).cvu = s.cvu ∧ (endSessionOn s x1).pending = s.pending := by
  simp only [endSessionOn]; (repeat' split) <;> simp

@[simp] theorem setMsg_frame (s : State) (x1 : Sys2Proof.Req) (x2 : Option OpenMsg) : (setMsg s x1 x2).rst = s.rst ∧
    (setMsg s x1 x2).clk = s.clk ∧ (setMsg s x1 x2).pwr = s.pwr ∧ (setMsg s x1 x2).reed = s.reed ∧ (setMsg s x1
    x2).port = s.port ∧ (setMsg s x1 x2).uart = s.uart ∧ (setMsg s x1 x2).usb = s.usb ∧ (setMsg s x1 x2).params =
    s.params ∧ (setMsg s x1 x2).nvm = s.nvm ∧ (setMsg s x1 x2).log = s.log ∧ (setMsg s x1 x2).jobs = s.jobs ∧ (setMsg
    s x1 x2).saf = s.saf ∧ (setMsg s x1 x2).fife = s.fife ∧ (setMsg s x1 x2).motion = s.motion ∧ (setMsg s x1 x2).noz
    = s.noz ∧ (setMsg s x1 x2).hub = s.hub ∧ (setMsg s x1 x2).cal = s.cal ∧ (setMsg s x1 x2).seq = s.seq ∧ (setMsg s
    x1 x2).otp = s.otp ∧ (setMsg s x1 x2).dbg = s.dbg ∧ (setMsg s x1 x2).cvu = s.cvu ∧ (setMsg s x1 x2).pending =
    s.pending := by
  simp [setMsg]

@[simp] theorem endMsg_frame (s : State) (x1 : Sys2Proof.Req) (x2 : Nat) : (endMsg s x1 x2).rst = s.rst ∧ (endMsg s x1
    x2).clk = s.clk ∧ (endMsg s x1 x2).pwr = s.pwr ∧ (endMsg s x1 x2).reed = s.reed ∧ (endMsg s x1 x2).port = s.port ∧
    (endMsg s x1 x2).uart = s.uart ∧ (endMsg s x1 x2).usb = s.usb ∧ (endMsg s x1 x2).params = s.params ∧ (endMsg s x1
    x2).nvm = s.nvm ∧ (endMsg s x1 x2).log = s.log ∧ (endMsg s x1 x2).jobs = s.jobs ∧ (endMsg s x1 x2).saf = s.saf ∧
    (endMsg s x1 x2).fife = s.fife ∧ (endMsg s x1 x2).motion = s.motion ∧ (endMsg s x1 x2).noz = s.noz ∧ (endMsg s x1
    x2).hub = s.hub ∧ (endMsg s x1 x2).cal = s.cal ∧ (endMsg s x1 x2).seq = s.seq ∧ (endMsg s x1 x2).otp = s.otp ∧
    (endMsg s x1 x2).dbg = s.dbg ∧ (endMsg s x1 x2).cvu = s.cvu ∧ (endMsg s x1 x2).pending = s.pending := by
  simp [endMsg]

@[simp] theorem discardIn_frame (s : State) (x1 : Box) : (discardIn s x1).rst = s.rst ∧ (discardIn s x1).clk = s.clk ∧
    (discardIn s x1).pwr = s.pwr ∧ (discardIn s x1).reed = s.reed ∧ (discardIn s x1).uart = s.uart ∧ (discardIn s
    x1).params = s.params ∧ (discardIn s x1).log = s.log ∧ (discardIn s x1).saf = s.saf ∧ (discardIn s x1).fife =
    s.fife ∧ (discardIn s x1).motion = s.motion ∧ (discardIn s x1).hub = s.hub ∧ (discardIn s x1).cal = s.cal ∧
    (discardIn s x1).seq = s.seq ∧ (discardIn s x1).otp = s.otp ∧ (discardIn s x1).dbg = s.dbg ∧ (discardIn s x1).cvu
    = s.cvu ∧ (discardIn s x1).pending = s.pending := by
  simp only [discardIn]; (repeat' split) <;> simp

@[simp] theorem answer_frame (s : State) (x1 : Box) (x2 : Nat) (x3 : Sys2Proof.Half) (x4 : Bool) (x5 : Reply) :
    (answer s x1 x2 x3 x4 x5).rst = s.rst ∧ (answer s x1 x2 x3 x4 x5).clk = s.clk ∧ (answer s x1 x2 x3 x4 x5).pwr =
    s.pwr ∧ (answer s x1 x2 x3 x4 x5).reed = s.reed ∧ (answer s x1 x2 x3 x4 x5).port = s.port ∧ (answer s x1 x2 x3 x4
    x5).uart = s.uart ∧ (answer s x1 x2 x3 x4 x5).usb = s.usb ∧ (answer s x1 x2 x3 x4 x5).params = s.params ∧ (answer
    s x1 x2 x3 x4 x5).nvm = s.nvm ∧ (answer s x1 x2 x3 x4 x5).log = s.log ∧ (answer s x1 x2 x3 x4 x5).jobs = s.jobs ∧
    (answer s x1 x2 x3 x4 x5).saf = s.saf ∧ (answer s x1 x2 x3 x4 x5).fife = s.fife ∧ (answer s x1 x2 x3 x4 x5).motion
    = s.motion ∧ (answer s x1 x2 x3 x4 x5).noz = s.noz ∧ (answer s x1 x2 x3 x4 x5).hub = s.hub ∧ (answer s x1 x2 x3 x4
    x5).cal = s.cal ∧ (answer s x1 x2 x3 x4 x5).seq = s.seq ∧ (answer s x1 x2 x3 x4 x5).otp = s.otp ∧ (answer s x1 x2
    x3 x4 x5).dbg = s.dbg ∧ (answer s x1 x2 x3 x4 x5).cvu = s.cvu ∧ (answer s x1 x2 x3 x4 x5).pending = s.pending :=
    by
  simp [answer]

@[simp] theorem refuseFrame_frame (s : State) (x1 : Box) (x2 : Header) (x3 : Nat) : (refuseFrame s x1 x2 x3).rst =
    s.rst ∧ (refuseFrame s x1 x2 x3).clk = s.clk ∧ (refuseFrame s x1 x2 x3).pwr = s.pwr ∧ (refuseFrame s x1 x2
    x3).reed = s.reed ∧ (refuseFrame s x1 x2 x3).port = s.port ∧ (refuseFrame s x1 x2 x3).uart = s.uart ∧ (refuseFrame
    s x1 x2 x3).usb = s.usb ∧ (refuseFrame s x1 x2 x3).params = s.params ∧ (refuseFrame s x1 x2 x3).nvm = s.nvm ∧
    (refuseFrame s x1 x2 x3).log = s.log ∧ (refuseFrame s x1 x2 x3).jobs = s.jobs ∧ (refuseFrame s x1 x2 x3).saf =
    s.saf ∧ (refuseFrame s x1 x2 x3).fife = s.fife ∧ (refuseFrame s x1 x2 x3).motion = s.motion ∧ (refuseFrame s x1 x2
    x3).noz = s.noz ∧ (refuseFrame s x1 x2 x3).hub = s.hub ∧ (refuseFrame s x1 x2 x3).cal = s.cal ∧ (refuseFrame s x1
    x2 x3).seq = s.seq ∧ (refuseFrame s x1 x2 x3).otp = s.otp ∧ (refuseFrame s x1 x2 x3).dbg = s.dbg ∧ (refuseFrame s
    x1 x2 x3).cvu = s.cvu ∧ (refuseFrame s x1 x2 x3).pending = s.pending := by
  simp only [refuseFrame]; (repeat' split) <;> simp

@[simp] theorem tagFailure_frame (s : State) (x1 : Box) (x2 : Header) : (tagFailure s x1 x2).rst = s.rst ∧ (tagFailure
    s x1 x2).clk = s.clk ∧ (tagFailure s x1 x2).pwr = s.pwr ∧ (tagFailure s x1 x2).reed = s.reed ∧ (tagFailure s x1
    x2).uart = s.uart ∧ (tagFailure s x1 x2).params = s.params ∧ (tagFailure s x1 x2).saf = s.saf ∧ (tagFailure s x1
    x2).fife = s.fife ∧ (tagFailure s x1 x2).motion = s.motion ∧ (tagFailure s x1 x2).hub = s.hub ∧ (tagFailure s x1
    x2).cal = s.cal ∧ (tagFailure s x1 x2).seq = s.seq ∧ (tagFailure s x1 x2).otp = s.otp ∧ (tagFailure s x1 x2).dbg =
    s.dbg ∧ (tagFailure s x1 x2).cvu = s.cvu ∧ (tagFailure s x1 x2).pending = s.pending := by
  simp only [tagFailure]; (repeat' split) <;> simp

@[simp] theorem replay_frame (s : State) (x1 : Box) (x2 : Header) : (replay s x1 x2).rst = s.rst ∧ (replay s x1
    x2).clk = s.clk ∧ (replay s x1 x2).pwr = s.pwr ∧ (replay s x1 x2).reed = s.reed ∧ (replay s x1 x2).port = s.port ∧
    (replay s x1 x2).uart = s.uart ∧ (replay s x1 x2).usb = s.usb ∧ (replay s x1 x2).params = s.params ∧ (replay s x1
    x2).nvm = s.nvm ∧ (replay s x1 x2).log = s.log ∧ (replay s x1 x2).jobs = s.jobs ∧ (replay s x1 x2).saf = s.saf ∧
    (replay s x1 x2).fife = s.fife ∧ (replay s x1 x2).motion = s.motion ∧ (replay s x1 x2).noz = s.noz ∧ (replay s x1
    x2).hub = s.hub ∧ (replay s x1 x2).cal = s.cal ∧ (replay s x1 x2).seq = s.seq ∧ (replay s x1 x2).otp = s.otp ∧
    (replay s x1 x2).dbg = s.dbg ∧ (replay s x1 x2).cvu = s.cvu ∧ (replay s x1 x2).pending = s.pending := by
  simp [replay]

@[simp] theorem countDup_frame (s : State) (x1 : Box) : (countDup s x1).rst = s.rst ∧ (countDup s x1).clk = s.clk ∧
    (countDup s x1).pwr = s.pwr ∧ (countDup s x1).reed = s.reed ∧ (countDup s x1).port = s.port ∧ (countDup s x1).uart
    = s.uart ∧ (countDup s x1).usb = s.usb ∧ (countDup s x1).params = s.params ∧ (countDup s x1).nvm = s.nvm ∧
    (countDup s x1).log = s.log ∧ (countDup s x1).jobs = s.jobs ∧ (countDup s x1).saf = s.saf ∧ (countDup s x1).fife =
    s.fife ∧ (countDup s x1).motion = s.motion ∧ (countDup s x1).noz = s.noz ∧ (countDup s x1).hub = s.hub ∧ (countDup
    s x1).cal = s.cal ∧ (countDup s x1).seq = s.seq ∧ (countDup s x1).otp = s.otp ∧ (countDup s x1).dbg = s.dbg ∧
    (countDup s x1).cvu = s.cvu ∧ (countDup s x1).pending = s.pending := by
  simp [countDup]

@[simp] theorem setHub_frame (s : State) (x1 : Hub → Hub) : (setHub s x1).rst = s.rst ∧ (setHub s x1).clk = s.clk ∧
    (setHub s x1).pwr = s.pwr ∧ (setHub s x1).reed = s.reed ∧ (setHub s x1).port = s.port ∧ (setHub s x1).uart =
    s.uart ∧ (setHub s x1).usb = s.usb ∧ (setHub s x1).net = s.net ∧ (setHub s x1).ctxs = s.ctxs ∧ (setHub s
    x1).params = s.params ∧ (setHub s x1).nvm = s.nvm ∧ (setHub s x1).log = s.log ∧ (setHub s x1).jobs = s.jobs ∧
    (setHub s x1).saf = s.saf ∧ (setHub s x1).fife = s.fife ∧ (setHub s x1).motion = s.motion ∧ (setHub s x1).noz =
    s.noz ∧ (setHub s x1).cal = s.cal ∧ (setHub s x1).seq = s.seq ∧ (setHub s x1).otp = s.otp ∧ (setHub s x1).dbg =
    s.dbg ∧ (setHub s x1).cvu = s.cvu ∧ (setHub s x1).pending = s.pending := by
  simp [setHub]

@[simp] theorem refreshDetDisch_frame (s : State) : (refreshDetDisch s).rst = s.rst ∧ (refreshDetDisch s).clk = s.clk
    ∧ (refreshDetDisch s).pwr = s.pwr ∧ (refreshDetDisch s).reed = s.reed ∧ (refreshDetDisch s).port = s.port ∧
    (refreshDetDisch s).uart = s.uart ∧ (refreshDetDisch s).usb = s.usb ∧ (refreshDetDisch s).net = s.net ∧
    (refreshDetDisch s).ctxs = s.ctxs ∧ (refreshDetDisch s).params = s.params ∧ (refreshDetDisch s).nvm = s.nvm ∧
    (refreshDetDisch s).log = s.log ∧ (refreshDetDisch s).jobs = s.jobs ∧ (refreshDetDisch s).fife = s.fife ∧
    (refreshDetDisch s).motion = s.motion ∧ (refreshDetDisch s).noz = s.noz ∧ (refreshDetDisch s).hub = s.hub ∧
    (refreshDetDisch s).cal = s.cal ∧ (refreshDetDisch s).seq = s.seq ∧ (refreshDetDisch s).otp = s.otp ∧
    (refreshDetDisch s).dbg = s.dbg ∧ (refreshDetDisch s).cvu = s.cvu ∧ (refreshDetDisch s).pending = s.pending := by
  simp [refreshDetDisch]

@[simp] theorem putSlot_frame (s : State) (x1 : Nat) (x2 : Nat) (x3 : List Sys2Proof.Byte) : (putSlot s x1 x2 x3).clk
    = s.clk ∧ (putSlot s x1 x2 x3).pwr = s.pwr ∧ (putSlot s x1 x2 x3).reed = s.reed ∧ (putSlot s x1 x2 x3).port =
    s.port ∧ (putSlot s x1 x2 x3).uart = s.uart ∧ (putSlot s x1 x2 x3).usb = s.usb ∧ (putSlot s x1 x2 x3).net = s.net
    ∧ (putSlot s x1 x2 x3).ctxs = s.ctxs ∧ (putSlot s x1 x2 x3).params = s.params ∧ (putSlot s x1 x2 x3).nvm = s.nvm ∧
    (putSlot s x1 x2 x3).log = s.log ∧ (putSlot s x1 x2 x3).jobs = s.jobs ∧ (putSlot s x1 x2 x3).saf = s.saf ∧
    (putSlot s x1 x2 x3).fife = s.fife ∧ (putSlot s x1 x2 x3).motion = s.motion ∧ (putSlot s x1 x2 x3).noz = s.noz ∧
    (putSlot s x1 x2 x3).cal = s.cal ∧ (putSlot s x1 x2 x3).seq = s.seq ∧ (putSlot s x1 x2 x3).otp = s.otp ∧ (putSlot
    s x1 x2 x3).dbg = s.dbg ∧ (putSlot s x1 x2 x3).cvu = s.cvu ∧ (putSlot s x1 x2 x3).pending = s.pending := by
  simp [putSlot]

@[simp] theorem putDesc_frame (s : State) (x1 : Nat) (x2 : Nat) (x3 : List Sys2Proof.Byte) : (putDesc s x1 x2 x3).clk
    = s.clk ∧ (putDesc s x1 x2 x3).pwr = s.pwr ∧ (putDesc s x1 x2 x3).reed = s.reed ∧ (putDesc s x1 x2 x3).port =
    s.port ∧ (putDesc s x1 x2 x3).uart = s.uart ∧ (putDesc s x1 x2 x3).usb = s.usb ∧ (putDesc s x1 x2 x3).net = s.net
    ∧ (putDesc s x1 x2 x3).ctxs = s.ctxs ∧ (putDesc s x1 x2 x3).params = s.params ∧ (putDesc s x1 x2 x3).nvm = s.nvm ∧
    (putDesc s x1 x2 x3).log = s.log ∧ (putDesc s x1 x2 x3).jobs = s.jobs ∧ (putDesc s x1 x2 x3).saf = s.saf ∧
    (putDesc s x1 x2 x3).fife = s.fife ∧ (putDesc s x1 x2 x3).motion = s.motion ∧ (putDesc s x1 x2 x3).noz = s.noz ∧
    (putDesc s x1 x2 x3).cal = s.cal ∧ (putDesc s x1 x2 x3).seq = s.seq ∧ (putDesc s x1 x2 x3).otp = s.otp ∧ (putDesc
    s x1 x2 x3).dbg = s.dbg ∧ (putDesc s x1 x2 x3).cvu = s.cvu ∧ (putDesc s x1 x2 x3).pending = s.pending := by
  simp [putDesc]

@[simp] theorem putDet_frame (s : State) (x1 : Nat) (x2 : Nat) (x3 : List Sys2Proof.Byte) : (putDet s x1 x2 x3).clk =
    s.clk ∧ (putDet s x1 x2 x3).pwr = s.pwr ∧ (putDet s x1 x2 x3).reed = s.reed ∧ (putDet s x1 x2 x3).port = s.port ∧
    (putDet s x1 x2 x3).uart = s.uart ∧ (putDet s x1 x2 x3).usb = s.usb ∧ (putDet s x1 x2 x3).net = s.net ∧ (putDet s
    x1 x2 x3).ctxs = s.ctxs ∧ (putDet s x1 x2 x3).params = s.params ∧ (putDet s x1 x2 x3).nvm = s.nvm ∧ (putDet s x1
    x2 x3).log = s.log ∧ (putDet s x1 x2 x3).jobs = s.jobs ∧ (putDet s x1 x2 x3).fife = s.fife ∧ (putDet s x1 x2
    x3).motion = s.motion ∧ (putDet s x1 x2 x3).noz = s.noz ∧ (putDet s x1 x2 x3).cal = s.cal ∧ (putDet s x1 x2
    x3).seq = s.seq ∧ (putDet s x1 x2 x3).otp = s.otp ∧ (putDet s x1 x2 x3).dbg = s.dbg ∧ (putDet s x1 x2 x3).cvu =
    s.cvu ∧ (putDet s x1 x2 x3).pending = s.pending := by
  simp [putDet]

@[simp] theorem putHubParam_frame (s : State) (x1 : Nat) (x2 : List Sys2Proof.Byte) : (putHubParam s x1 x2).clk =
    s.clk ∧ (putHubParam s x1 x2).pwr = s.pwr ∧ (putHubParam s x1 x2).reed = s.reed ∧ (putHubParam s x1 x2).port =
    s.port ∧ (putHubParam s x1 x2).uart = s.uart ∧ (putHubParam s x1 x2).usb = s.usb ∧ (putHubParam s x1 x2).net =
    s.net ∧ (putHubParam s x1 x2).ctxs = s.ctxs ∧ (putHubParam s x1 x2).params = s.params ∧ (putHubParam s x1 x2).nvm
    = s.nvm ∧ (putHubParam s x1 x2).log = s.log ∧ (putHubParam s x1 x2).jobs = s.jobs ∧ (putHubParam s x1 x2).fife =
    s.fife ∧ (putHubParam s x1 x2).motion = s.motion ∧ (putHubParam s x1 x2).noz = s.noz ∧ (putHubParam s x1 x2).cal =
    s.cal ∧ (putHubParam s x1 x2).seq = s.seq ∧ (putHubParam s x1 x2).otp = s.otp ∧ (putHubParam s x1 x2).dbg = s.dbg
    ∧ (putHubParam s x1 x2).cvu = s.cvu ∧ (putHubParam s x1 x2).pending = s.pending := by
  simp [putHubParam]

@[simp] theorem writeDeferred_frame (s : State) : (writeDeferred s).clk = s.clk ∧ (writeDeferred s).pwr = s.pwr ∧
    (writeDeferred s).reed = s.reed ∧ (writeDeferred s).port = s.port ∧ (writeDeferred s).uart = s.uart ∧
    (writeDeferred s).usb = s.usb ∧ (writeDeferred s).net = s.net ∧ (writeDeferred s).ctxs = s.ctxs ∧ (writeDeferred
    s).params = s.params ∧ (writeDeferred s).nvm = s.nvm ∧ (writeDeferred s).log = s.log ∧ (writeDeferred s).jobs =
    s.jobs ∧ (writeDeferred s).fife = s.fife ∧ (writeDeferred s).motion = s.motion ∧ (writeDeferred s).noz = s.noz ∧
    (writeDeferred s).cal = s.cal ∧ (writeDeferred s).seq = s.seq ∧ (writeDeferred s).otp = s.otp ∧ (writeDeferred
    s).dbg = s.dbg ∧ (writeDeferred s).cvu = s.cvu ∧ (writeDeferred s).pending = s.pending := by
  simp [writeDeferred]

@[simp] theorem notifyDet_frame (s : State) (x1 : Nat) (x2 : Sys2Proof.Byte) (x3 : List Sys2Proof.Byte) : (notifyDet s
    x1 x2 x3).rst = s.rst ∧ (notifyDet s x1 x2 x3).clk = s.clk ∧ (notifyDet s x1 x2 x3).pwr = s.pwr ∧ (notifyDet s x1
    x2 x3).reed = s.reed ∧ (notifyDet s x1 x2 x3).uart = s.uart ∧ (notifyDet s x1 x2 x3).net = s.net ∧ (notifyDet s x1
    x2 x3).params = s.params ∧ (notifyDet s x1 x2 x3).nvm = s.nvm ∧ (notifyDet s x1 x2 x3).log = s.log ∧ (notifyDet s
    x1 x2 x3).jobs = s.jobs ∧ (notifyDet s x1 x2 x3).saf = s.saf ∧ (notifyDet s x1 x2 x3).fife = s.fife ∧ (notifyDet s
    x1 x2 x3).motion = s.motion ∧ (notifyDet s x1 x2 x3).noz = s.noz ∧ (notifyDet s x1 x2 x3).hub = s.hub ∧ (notifyDet
    s x1 x2 x3).cal = s.cal ∧ (notifyDet s x1 x2 x3).seq = s.seq ∧ (notifyDet s x1 x2 x3).otp = s.otp ∧ (notifyDet s
    x1 x2 x3).dbg = s.dbg ∧ (notifyDet s x1 x2 x3).cvu = s.cvu ∧ (notifyDet s x1 x2 x3).pending = s.pending := by
  simp [notifyDet]

@[simp] theorem noteMasks_frame (x0 : State) (x1 : Bool) (s : State) : (noteMasks x0 x1 s).rst = s.rst ∧ (noteMasks x0
    x1 s).clk = s.clk ∧ (noteMasks x0 x1 s).pwr = s.pwr ∧ (noteMasks x0 x1 s).reed = s.reed ∧ (noteMasks x0 x1 s).port
    = s.port ∧ (noteMasks x0 x1 s).uart = s.uart ∧ (noteMasks x0 x1 s).usb = s.usb ∧ (noteMasks x0 x1 s).net = s.net ∧
    (noteMasks x0 x1 s).ctxs = s.ctxs ∧ (noteMasks x0 x1 s).params = s.params ∧ (noteMasks x0 x1 s).nvm = s.nvm ∧
    (noteMasks x0 x1 s).jobs = s.jobs ∧ (noteMasks x0 x1 s).saf = s.saf ∧ (noteMasks x0 x1 s).fife = s.fife ∧
    (noteMasks x0 x1 s).motion = s.motion ∧ (noteMasks x0 x1 s).noz = s.noz ∧ (noteMasks x0 x1 s).hub = s.hub ∧
    (noteMasks x0 x1 s).cal = s.cal ∧ (noteMasks x0 x1 s).seq = s.seq ∧ (noteMasks x0 x1 s).otp = s.otp ∧ (noteMasks
    x0 x1 s).dbg = s.dbg ∧ (noteMasks x0 x1 s).cvu = s.cvu ∧ (noteMasks x0 x1 s).pending = s.pending := by
  simp [noteMasks]

@[simp] theorem onCommit_frame (s : State) (x1 : List Nat) : (onCommit s x1).clk = s.clk ∧ (onCommit s x1).pwr = s.pwr
    ∧ (onCommit s x1).reed = s.reed ∧ (onCommit s x1).uart = s.uart ∧ (onCommit s x1).nvm = s.nvm ∧ (onCommit s
    x1).jobs = s.jobs ∧ (onCommit s x1).fife = s.fife ∧ (onCommit s x1).motion = s.motion ∧ (onCommit s x1).noz =
    s.noz ∧ (onCommit s x1).cal = s.cal ∧ (onCommit s x1).otp = s.otp ∧ (onCommit s x1).dbg = s.dbg ∧ (onCommit s
    x1).cvu = s.cvu ∧ (onCommit s x1).pending = s.pending := by
  simp [onCommit]

@[simp] theorem commitValues_frame (s : State) (x1 : ParamMap) (x2 : Sys2Proof.Word) (x3 : Sys2Proof.Word) (x4 : List
    Sys2Proof.Byte → List Sys2Proof.Byte) : (commitValues s x1 x2 x3 x4).2.clk = s.clk ∧ (commitValues s x1 x2 x3
    x4).2.pwr = s.pwr ∧ (commitValues s x1 x2 x3 x4).2.reed = s.reed ∧ (commitValues s x1 x2 x3 x4).2.uart = s.uart ∧
    (commitValues s x1 x2 x3 x4).2.jobs = s.jobs ∧ (commitValues s x1 x2 x3 x4).2.fife = s.fife ∧ (commitValues s x1
    x2 x3 x4).2.motion = s.motion ∧ (commitValues s x1 x2 x3 x4).2.noz = s.noz ∧ (commitValues s x1 x2 x3 x4).2.cal =
    s.cal ∧ (commitValues s x1 x2 x3 x4).2.otp = s.otp ∧ (commitValues s x1 x2 x3 x4).2.dbg = s.dbg ∧ (commitValues s
    x1 x2 x3 x4).2.pending = s.pending := by
  simp only [commitValues]; (repeat' split) <;> simp

@[simp] theorem notifyNozzle_frame (s : State) (x1 : Nat) (x2 : Nat) : (notifyNozzle s x1 x2).rst = s.rst ∧
    (notifyNozzle s x1 x2).clk = s.clk ∧ (notifyNozzle s x1 x2).pwr = s.pwr ∧ (notifyNozzle s x1 x2).reed = s.reed ∧
    (notifyNozzle s x1 x2).uart = s.uart ∧ (notifyNozzle s x1 x2).net = s.net ∧ (notifyNozzle s x1 x2).params =
    s.params ∧ (notifyNozzle s x1 x2).nvm = s.nvm ∧ (notifyNozzle s x1 x2).log = s.log ∧ (notifyNozzle s x1 x2).jobs =
    s.jobs ∧ (notifyNozzle s x1 x2).saf = s.saf ∧ (notifyNozzle s x1 x2).fife = s.fife ∧ (notifyNozzle s x1 x2).motion
    = s.motion ∧ (notifyNozzle s x1 x2).noz = s.noz ∧ (notifyNozzle s x1 x2).hub = s.hub ∧ (notifyNozzle s x1 x2).cal
    = s.cal ∧ (notifyNozzle s x1 x2).seq = s.seq ∧ (notifyNozzle s x1 x2).otp = s.otp ∧ (notifyNozzle s x1 x2).dbg =
    s.dbg ∧ (notifyNozzle s x1 x2).cvu = s.cvu ∧ (notifyNozzle s x1 x2).pending = s.pending := by
  simp [notifyNozzle]

@[simp] theorem logPosition_frame (s : State) (x1 : Nat) (x2 : Nat) (x3 : Assign) (x4 : Assign) : (logPosition s x1 x2
    x3 x4).rst = s.rst ∧ (logPosition s x1 x2 x3 x4).clk = s.clk ∧ (logPosition s x1 x2 x3 x4).pwr = s.pwr ∧
    (logPosition s x1 x2 x3 x4).reed = s.reed ∧ (logPosition s x1 x2 x3 x4).port = s.port ∧ (logPosition s x1 x2 x3
    x4).uart = s.uart ∧ (logPosition s x1 x2 x3 x4).usb = s.usb ∧ (logPosition s x1 x2 x3 x4).net = s.net ∧
    (logPosition s x1 x2 x3 x4).ctxs = s.ctxs ∧ (logPosition s x1 x2 x3 x4).params = s.params ∧ (logPosition s x1 x2
    x3 x4).nvm = s.nvm ∧ (logPosition s x1 x2 x3 x4).jobs = s.jobs ∧ (logPosition s x1 x2 x3 x4).saf = s.saf ∧
    (logPosition s x1 x2 x3 x4).fife = s.fife ∧ (logPosition s x1 x2 x3 x4).motion = s.motion ∧ (logPosition s x1 x2
    x3 x4).noz = s.noz ∧ (logPosition s x1 x2 x3 x4).hub = s.hub ∧ (logPosition s x1 x2 x3 x4).cal = s.cal ∧
    (logPosition s x1 x2 x3 x4).seq = s.seq ∧ (logPosition s x1 x2 x3 x4).otp = s.otp ∧ (logPosition s x1 x2 x3
    x4).dbg = s.dbg ∧ (logPosition s x1 x2 x3 x4).cvu = s.cvu ∧ (logPosition s x1 x2 x3 x4).pending = s.pending := by
  simp only [logPosition]; (repeat' split) <;> simp

@[simp] theorem latchBandNow_frame (s : State) : (latchBandNow s).rst = s.rst ∧ (latchBandNow s).clk = s.clk ∧
    (latchBandNow s).pwr = s.pwr ∧ (latchBandNow s).reed = s.reed ∧ (latchBandNow s).port = s.port ∧ (latchBandNow
    s).uart = s.uart ∧ (latchBandNow s).usb = s.usb ∧ (latchBandNow s).net = s.net ∧ (latchBandNow s).ctxs = s.ctxs ∧
    (latchBandNow s).nvm = s.nvm ∧ (latchBandNow s).jobs = s.jobs ∧ (latchBandNow s).saf = s.saf ∧ (latchBandNow
    s).fife = s.fife ∧ (latchBandNow s).motion = s.motion ∧ (latchBandNow s).noz = s.noz ∧ (latchBandNow s).hub =
    s.hub ∧ (latchBandNow s).cal = s.cal ∧ (latchBandNow s).seq = s.seq ∧ (latchBandNow s).otp = s.otp ∧ (latchBandNow
    s).dbg = s.dbg ∧ (latchBandNow s).cvu = s.cvu ∧ (latchBandNow s).pending = s.pending := by
  simp [latchBandNow]

@[simp] theorem applyMap_frame (s : State) (x1 : List (Nat × Nat)) : (applyMap s x1).rst = s.rst ∧ (applyMap s x1).clk
    = s.clk ∧ (applyMap s x1).pwr = s.pwr ∧ (applyMap s x1).reed = s.reed ∧ (applyMap s x1).uart = s.uart ∧ (applyMap
    s x1).net = s.net ∧ (applyMap s x1).params = s.params ∧ (applyMap s x1).nvm = s.nvm ∧ (applyMap s x1).jobs =
    s.jobs ∧ (applyMap s x1).saf = s.saf ∧ (applyMap s x1).fife = s.fife ∧ (applyMap s x1).motion = s.motion ∧
    (applyMap s x1).hub = s.hub ∧ (applyMap s x1).cal = s.cal ∧ (applyMap s x1).seq = s.seq ∧ (applyMap s x1).otp =
    s.otp ∧ (applyMap s x1).dbg = s.dbg ∧ (applyMap s x1).cvu = s.cvu ∧ (applyMap s x1).pending = s.pending := by
  simp [applyMap]

@[simp] theorem energyRun_frame (s : State) : (energyRun s).2.rst = s.rst ∧ (energyRun s).2.pwr = s.pwr ∧ (energyRun
    s).2.reed = s.reed ∧ (energyRun s).2.port = s.port ∧ (energyRun s).2.uart = s.uart ∧ (energyRun s).2.usb = s.usb ∧
    (energyRun s).2.net = s.net ∧ (energyRun s).2.ctxs = s.ctxs ∧ (energyRun s).2.params = s.params ∧ (energyRun
    s).2.nvm = s.nvm ∧ (energyRun s).2.log = s.log ∧ (energyRun s).2.jobs = s.jobs ∧ (energyRun s).2.fife = s.fife ∧
    (energyRun s).2.motion = s.motion ∧ (energyRun s).2.noz = s.noz ∧ (energyRun s).2.hub = s.hub ∧ (energyRun
    s).2.cal = s.cal ∧ (energyRun s).2.seq = s.seq ∧ (energyRun s).2.otp = s.otp ∧ (energyRun s).2.dbg = s.dbg ∧
    (energyRun s).2.cvu = s.cvu ∧ (energyRun s).2.pending = s.pending := by
  simp [energyRun]

@[simp] theorem feedStart_frame (s : State) (x1 : FeedUse) (x2 : Nat) : (feedStart s x1 x2).rst = s.rst ∧ (feedStart s
    x1 x2).clk = s.clk ∧ (feedStart s x1 x2).pwr = s.pwr ∧ (feedStart s x1 x2).reed = s.reed ∧ (feedStart s x1
    x2).port = s.port ∧ (feedStart s x1 x2).uart = s.uart ∧ (feedStart s x1 x2).usb = s.usb ∧ (feedStart s x1 x2).net
    = s.net ∧ (feedStart s x1 x2).ctxs = s.ctxs ∧ (feedStart s x1 x2).params = s.params ∧ (feedStart s x1 x2).nvm =
    s.nvm ∧ (feedStart s x1 x2).log = s.log ∧ (feedStart s x1 x2).jobs = s.jobs ∧ (feedStart s x1 x2).saf = s.saf ∧
    (feedStart s x1 x2).fife = s.fife ∧ (feedStart s x1 x2).noz = s.noz ∧ (feedStart s x1 x2).hub = s.hub ∧ (feedStart
    s x1 x2).cal = s.cal ∧ (feedStart s x1 x2).seq = s.seq ∧ (feedStart s x1 x2).otp = s.otp ∧ (feedStart s x1 x2).dbg
    = s.dbg ∧ (feedStart s x1 x2).cvu = s.cvu ∧ (feedStart s x1 x2).pending = s.pending := by
  simp [feedStart]

@[simp] theorem fromHere_frame (s : State) : (fromHere s).rst = s.rst ∧ (fromHere s).clk = s.clk ∧ (fromHere s).pwr =
    s.pwr ∧ (fromHere s).reed = s.reed ∧ (fromHere s).port = s.port ∧ (fromHere s).uart = s.uart ∧ (fromHere s).usb =
    s.usb ∧ (fromHere s).net = s.net ∧ (fromHere s).ctxs = s.ctxs ∧ (fromHere s).params = s.params ∧ (fromHere s).nvm
    = s.nvm ∧ (fromHere s).log = s.log ∧ (fromHere s).jobs = s.jobs ∧ (fromHere s).saf = s.saf ∧ (fromHere s).fife =
    s.fife ∧ (fromHere s).noz = s.noz ∧ (fromHere s).hub = s.hub ∧ (fromHere s).cal = s.cal ∧ (fromHere s).seq = s.seq
    ∧ (fromHere s).otp = s.otp ∧ (fromHere s).dbg = s.dbg ∧ (fromHere s).cvu = s.cvu ∧ (fromHere s).pending =
    s.pending := by
  simp [fromHere]

@[simp] theorem auxFromHere_frame (s : State) (x1 : Nat) (x2 : Nat) : (auxFromHere s x1 x2).rst = s.rst ∧ (auxFromHere
    s x1 x2).clk = s.clk ∧ (auxFromHere s x1 x2).pwr = s.pwr ∧ (auxFromHere s x1 x2).reed = s.reed ∧ (auxFromHere s x1
    x2).port = s.port ∧ (auxFromHere s x1 x2).uart = s.uart ∧ (auxFromHere s x1 x2).usb = s.usb ∧ (auxFromHere s x1
    x2).net = s.net ∧ (auxFromHere s x1 x2).ctxs = s.ctxs ∧ (auxFromHere s x1 x2).params = s.params ∧ (auxFromHere s
    x1 x2).nvm = s.nvm ∧ (auxFromHere s x1 x2).log = s.log ∧ (auxFromHere s x1 x2).jobs = s.jobs ∧ (auxFromHere s x1
    x2).saf = s.saf ∧ (auxFromHere s x1 x2).fife = s.fife ∧ (auxFromHere s x1 x2).noz = s.noz ∧ (auxFromHere s x1
    x2).hub = s.hub ∧ (auxFromHere s x1 x2).cal = s.cal ∧ (auxFromHere s x1 x2).seq = s.seq ∧ (auxFromHere s x1
    x2).otp = s.otp ∧ (auxFromHere s x1 x2).dbg = s.dbg ∧ (auxFromHere s x1 x2).cvu = s.cvu ∧ (auxFromHere s x1
    x2).pending = s.pending := by
  simp [auxFromHere]

@[simp] theorem auxStart_frame (s : State) (x1 : FeedUse) (x2 : Nat) : (auxStart s x1 x2).rst = s.rst ∧ (auxStart s x1
    x2).clk = s.clk ∧ (auxStart s x1 x2).pwr = s.pwr ∧ (auxStart s x1 x2).reed = s.reed ∧ (auxStart s x1 x2).port =
    s.port ∧ (auxStart s x1 x2).uart = s.uart ∧ (auxStart s x1 x2).usb = s.usb ∧ (auxStart s x1 x2).net = s.net ∧
    (auxStart s x1 x2).ctxs = s.ctxs ∧ (auxStart s x1 x2).params = s.params ∧ (auxStart s x1 x2).nvm = s.nvm ∧
    (auxStart s x1 x2).log = s.log ∧ (auxStart s x1 x2).jobs = s.jobs ∧ (auxStart s x1 x2).saf = s.saf ∧ (auxStart s
    x1 x2).fife = s.fife ∧ (auxStart s x1 x2).noz = s.noz ∧ (auxStart s x1 x2).hub = s.hub ∧ (auxStart s x1 x2).cal =
    s.cal ∧ (auxStart s x1 x2).seq = s.seq ∧ (auxStart s x1 x2).otp = s.otp ∧ (auxStart s x1 x2).dbg = s.dbg ∧
    (auxStart s x1 x2).cvu = s.cvu ∧ (auxStart s x1 x2).pending = s.pending := by
  simp [auxStart]

@[simp] theorem auxFollow_frame (s : State) : (auxFollow s).rst = s.rst ∧ (auxFollow s).clk = s.clk ∧ (auxFollow
    s).pwr = s.pwr ∧ (auxFollow s).reed = s.reed ∧ (auxFollow s).port = s.port ∧ (auxFollow s).uart = s.uart ∧
    (auxFollow s).usb = s.usb ∧ (auxFollow s).net = s.net ∧ (auxFollow s).ctxs = s.ctxs ∧ (auxFollow s).params =
    s.params ∧ (auxFollow s).nvm = s.nvm ∧ (auxFollow s).log = s.log ∧ (auxFollow s).jobs = s.jobs ∧ (auxFollow s).saf
    = s.saf ∧ (auxFollow s).fife = s.fife ∧ (auxFollow s).noz = s.noz ∧ (auxFollow s).hub = s.hub ∧ (auxFollow s).cal
    = s.cal ∧ (auxFollow s).seq = s.seq ∧ (auxFollow s).otp = s.otp ∧ (auxFollow s).dbg = s.dbg ∧ (auxFollow s).cvu =
    s.cvu ∧ (auxFollow s).pending = s.pending := by
  simp [auxFollow]

@[simp] theorem resumeFeed_frame (s : State) : (resumeFeed s).rst = s.rst ∧ (resumeFeed s).clk = s.clk ∧ (resumeFeed
    s).pwr = s.pwr ∧ (resumeFeed s).reed = s.reed ∧ (resumeFeed s).port = s.port ∧ (resumeFeed s).uart = s.uart ∧
    (resumeFeed s).usb = s.usb ∧ (resumeFeed s).net = s.net ∧ (resumeFeed s).ctxs = s.ctxs ∧ (resumeFeed s).params =
    s.params ∧ (resumeFeed s).nvm = s.nvm ∧ (resumeFeed s).log = s.log ∧ (resumeFeed s).jobs = s.jobs ∧ (resumeFeed
    s).saf = s.saf ∧ (resumeFeed s).fife = s.fife ∧ (resumeFeed s).noz = s.noz ∧ (resumeFeed s).hub = s.hub ∧
    (resumeFeed s).cal = s.cal ∧ (resumeFeed s).seq = s.seq ∧ (resumeFeed s).otp = s.otp ∧ (resumeFeed s).dbg = s.dbg
    ∧ (resumeFeed s).cvu = s.cvu ∧ (resumeFeed s).pending = s.pending := by
  simp [resumeFeed]

@[simp] theorem failAction_frame (s : State) (x1 : Action) (x2 : Nat) (x3 : Nat) : (failAction s x1 x2 x3).rst = s.rst
    ∧ (failAction s x1 x2 x3).clk = s.clk ∧ (failAction s x1 x2 x3).pwr = s.pwr ∧ (failAction s x1 x2 x3).reed =
    s.reed ∧ (failAction s x1 x2 x3).uart = s.uart ∧ (failAction s x1 x2 x3).net = s.net ∧ (failAction s x1 x2
    x3).params = s.params ∧ (failAction s x1 x2 x3).nvm = s.nvm ∧ (failAction s x1 x2 x3).log = s.log ∧ (failAction s
    x1 x2 x3).jobs = s.jobs ∧ (failAction s x1 x2 x3).fife = s.fife ∧ (failAction s x1 x2 x3).motion = s.motion ∧
    (failAction s x1 x2 x3).noz = s.noz ∧ (failAction s x1 x2 x3).hub = s.hub ∧ (failAction s x1 x2 x3).cal = s.cal ∧
    (failAction s x1 x2 x3).seq = s.seq ∧ (failAction s x1 x2 x3).otp = s.otp ∧ (failAction s x1 x2 x3).dbg = s.dbg ∧
    (failAction s x1 x2 x3).cvu = s.cvu ∧ (failAction s x1 x2 x3).pending = s.pending := by
  simp [failAction]

@[simp] theorem uncap_frame (s : State) : (uncap s).rst = s.rst ∧ (uncap s).clk = s.clk ∧ (uncap s).pwr = s.pwr ∧
    (uncap s).reed = s.reed ∧ (uncap s).port = s.port ∧ (uncap s).uart = s.uart ∧ (uncap s).usb = s.usb ∧ (uncap
    s).net = s.net ∧ (uncap s).ctxs = s.ctxs ∧ (uncap s).params = s.params ∧ (uncap s).nvm = s.nvm ∧ (uncap s).log =
    s.log ∧ (uncap s).jobs = s.jobs ∧ (uncap s).saf = s.saf ∧ (uncap s).fife = s.fife ∧ (uncap s).noz = s.noz ∧ (uncap
    s).hub = s.hub ∧ (uncap s).cal = s.cal ∧ (uncap s).seq = s.seq ∧ (uncap s).otp = s.otp ∧ (uncap s).dbg = s.dbg ∧
    (uncap s).cvu = s.cvu ∧ (uncap s).pending = s.pending := by
  simp [uncap]

@[simp] theorem sledGoes_frame (s : State) (x1 : List Nat) : (sledGoes s x1).rst = s.rst ∧ (sledGoes s x1).clk = s.clk
    ∧ (sledGoes s x1).pwr = s.pwr ∧ (sledGoes s x1).reed = s.reed ∧ (sledGoes s x1).port = s.port ∧ (sledGoes s
    x1).uart = s.uart ∧ (sledGoes s x1).usb = s.usb ∧ (sledGoes s x1).net = s.net ∧ (sledGoes s x1).ctxs = s.ctxs ∧
    (sledGoes s x1).params = s.params ∧ (sledGoes s x1).nvm = s.nvm ∧ (sledGoes s x1).log = s.log ∧ (sledGoes s
    x1).jobs = s.jobs ∧ (sledGoes s x1).saf = s.saf ∧ (sledGoes s x1).fife = s.fife ∧ (sledGoes s x1).noz = s.noz ∧
    (sledGoes s x1).hub = s.hub ∧ (sledGoes s x1).cal = s.cal ∧ (sledGoes s x1).seq = s.seq ∧ (sledGoes s x1).otp =
    s.otp ∧ (sledGoes s x1).dbg = s.dbg ∧ (sledGoes s x1).cvu = s.cvu ∧ (sledGoes s x1).pending = s.pending := by
  simp [sledGoes]

@[simp] theorem startCal_frame (s : State) (x1 : Action) : (startCal s x1).rst = s.rst ∧ (startCal s x1).clk = s.clk ∧
    (startCal s x1).pwr = s.pwr ∧ (startCal s x1).reed = s.reed ∧ (startCal s x1).uart = s.uart ∧ (startCal s x1).net
    = s.net ∧ (startCal s x1).nvm = s.nvm ∧ (startCal s x1).log = s.log ∧ (startCal s x1).jobs = s.jobs ∧ (startCal s
    x1).fife = s.fife ∧ (startCal s x1).noz = s.noz ∧ (startCal s x1).otp = s.otp ∧ (startCal s x1).dbg = s.dbg ∧
    (startCal s x1).cvu = s.cvu ∧ (startCal s x1).pending = s.pending := by
  simp only [startCal]; (repeat' split) <;> simp

@[simp] theorem beginScan_frame (s : State) (x1 : Action) : (beginScan s x1).rst = s.rst ∧ (beginScan s x1).clk =
    s.clk ∧ (beginScan s x1).pwr = s.pwr ∧ (beginScan s x1).reed = s.reed ∧ (beginScan s x1).port = s.port ∧
    (beginScan s x1).uart = s.uart ∧ (beginScan s x1).usb = s.usb ∧ (beginScan s x1).net = s.net ∧ (beginScan s
    x1).ctxs = s.ctxs ∧ (beginScan s x1).nvm = s.nvm ∧ (beginScan s x1).log = s.log ∧ (beginScan s x1).jobs = s.jobs ∧
    (beginScan s x1).saf = s.saf ∧ (beginScan s x1).fife = s.fife ∧ (beginScan s x1).hub = s.hub ∧ (beginScan s
    x1).cal = s.cal ∧ (beginScan s x1).seq = s.seq ∧ (beginScan s x1).otp = s.otp ∧ (beginScan s x1).dbg = s.dbg ∧
    (beginScan s x1).cvu = s.cvu ∧ (beginScan s x1).pending = s.pending := by
  simp [beginScan]

@[simp] theorem beginService_frame (s : State) (x1 : Action) : (beginService s x1).rst = s.rst ∧ (beginService s
    x1).clk = s.clk ∧ (beginService s x1).pwr = s.pwr ∧ (beginService s x1).reed = s.reed ∧ (beginService s x1).port =
    s.port ∧ (beginService s x1).uart = s.uart ∧ (beginService s x1).usb = s.usb ∧ (beginService s x1).net = s.net ∧
    (beginService s x1).ctxs = s.ctxs ∧ (beginService s x1).params = s.params ∧ (beginService s x1).nvm = s.nvm ∧
    (beginService s x1).log = s.log ∧ (beginService s x1).jobs = s.jobs ∧ (beginService s x1).saf = s.saf ∧
    (beginService s x1).fife = s.fife ∧ (beginService s x1).hub = s.hub ∧ (beginService s x1).cal = s.cal ∧
    (beginService s x1).seq = s.seq ∧ (beginService s x1).otp = s.otp ∧ (beginService s x1).dbg = s.dbg ∧
    (beginService s x1).cvu = s.cvu ∧ (beginService s x1).pending = s.pending := by
  simp only [beginService]; (repeat' split) <;> simp

@[simp] theorem startAction_frame (s : State) (x1 : Action) : (startAction s x1).rst = s.rst ∧ (startAction s x1).pwr
    = s.pwr ∧ (startAction s x1).reed = s.reed ∧ (startAction s x1).uart = s.uart ∧ (startAction s x1).net = s.net ∧
    (startAction s x1).nvm = s.nvm ∧ (startAction s x1).log = s.log ∧ (startAction s x1).jobs = s.jobs ∧ (startAction
    s x1).fife = s.fife ∧ (startAction s x1).otp = s.otp ∧ (startAction s x1).dbg = s.dbg ∧ (startAction s x1).cvu =
    s.cvu ∧ (startAction s x1).pending = s.pending := by
  simp only [startAction]; (repeat' split) <;> simp

@[simp] theorem autoAction_frame (s : State) (x1 : Sys2Proof.Half) (x2 : List Sys2Proof.Byte) : (autoAction s x1
    x2).rst = s.rst ∧ (autoAction s x1 x2).pwr = s.pwr ∧ (autoAction s x1 x2).uart = s.uart ∧ (autoAction s x1 x2).net
    = s.net ∧ (autoAction s x1 x2).nvm = s.nvm ∧ (autoAction s x1 x2).log = s.log ∧ (autoAction s x1 x2).jobs = s.jobs
    ∧ (autoAction s x1 x2).fife = s.fife ∧ (autoAction s x1 x2).otp = s.otp ∧ (autoAction s x1 x2).dbg = s.dbg ∧
    (autoAction s x1 x2).cvu = s.cvu ∧ (autoAction s x1 x2).pending = s.pending := by
  simp [autoAction]

@[simp] theorem autoSpit_frame (s : State) : (autoSpit s).rst = s.rst ∧ (autoSpit s).pwr = s.pwr ∧ (autoSpit s).uart =
    s.uart ∧ (autoSpit s).net = s.net ∧ (autoSpit s).nvm = s.nvm ∧ (autoSpit s).log = s.log ∧ (autoSpit s).jobs =
    s.jobs ∧ (autoSpit s).fife = s.fife ∧ (autoSpit s).otp = s.otp ∧ (autoSpit s).dbg = s.dbg ∧ (autoSpit s).cvu =
    s.cvu ∧ (autoSpit s).pending = s.pending := by
  simp [autoSpit]

@[simp] theorem serviceGroup_frame (s : State) (x1 : SvcRun) : (serviceGroup s x1).rst = s.rst ∧ (serviceGroup s
    x1).clk = s.clk ∧ (serviceGroup s x1).pwr = s.pwr ∧ (serviceGroup s x1).reed = s.reed ∧ (serviceGroup s x1).port =
    s.port ∧ (serviceGroup s x1).uart = s.uart ∧ (serviceGroup s x1).usb = s.usb ∧ (serviceGroup s x1).net = s.net ∧
    (serviceGroup s x1).ctxs = s.ctxs ∧ (serviceGroup s x1).params = s.params ∧ (serviceGroup s x1).nvm = s.nvm ∧
    (serviceGroup s x1).log = s.log ∧ (serviceGroup s x1).jobs = s.jobs ∧ (serviceGroup s x1).saf = s.saf ∧
    (serviceGroup s x1).hub = s.hub ∧ (serviceGroup s x1).cal = s.cal ∧ (serviceGroup s x1).seq = s.seq ∧
    (serviceGroup s x1).otp = s.otp ∧ (serviceGroup s x1).dbg = s.dbg ∧ (serviceGroup s x1).cvu = s.cvu ∧
    (serviceGroup s x1).pending = s.pending := by
  simp [serviceGroup]

@[simp] theorem serviceTick_frame (s : State) : (serviceTick s).rst = s.rst ∧ (serviceTick s).clk = s.clk ∧
    (serviceTick s).pwr = s.pwr ∧ (serviceTick s).reed = s.reed ∧ (serviceTick s).port = s.port ∧ (serviceTick s).uart
    = s.uart ∧ (serviceTick s).usb = s.usb ∧ (serviceTick s).net = s.net ∧ (serviceTick s).ctxs = s.ctxs ∧
    (serviceTick s).params = s.params ∧ (serviceTick s).nvm = s.nvm ∧ (serviceTick s).log = s.log ∧ (serviceTick
    s).jobs = s.jobs ∧ (serviceTick s).saf = s.saf ∧ (serviceTick s).hub = s.hub ∧ (serviceTick s).cal = s.cal ∧
    (serviceTick s).seq = s.seq ∧ (serviceTick s).otp = s.otp ∧ (serviceTick s).dbg = s.dbg ∧ (serviceTick s).cvu =
    s.cvu ∧ (serviceTick s).pending = s.pending := by
  simp only [serviceTick]; (repeat' split) <;> simp

@[simp] theorem setHold_frame (s : State) (x1 : Nat) (x2 : Sys2Proof.Half) : (setHold s x1 x2).rst = s.rst ∧ (setHold
    s x1 x2).clk = s.clk ∧ (setHold s x1 x2).pwr = s.pwr ∧ (setHold s x1 x2).reed = s.reed ∧ (setHold s x1 x2).port =
    s.port ∧ (setHold s x1 x2).uart = s.uart ∧ (setHold s x1 x2).usb = s.usb ∧ (setHold s x1 x2).net = s.net ∧
    (setHold s x1 x2).ctxs = s.ctxs ∧ (setHold s x1 x2).params = s.params ∧ (setHold s x1 x2).nvm = s.nvm ∧ (setHold s
    x1 x2).log = s.log ∧ (setHold s x1 x2).saf = s.saf ∧ (setHold s x1 x2).fife = s.fife ∧ (setHold s x1 x2).motion =
    s.motion ∧ (setHold s x1 x2).noz = s.noz ∧ (setHold s x1 x2).hub = s.hub ∧ (setHold s x1 x2).cal = s.cal ∧
    (setHold s x1 x2).seq = s.seq ∧ (setHold s x1 x2).otp = s.otp ∧ (setHold s x1 x2).dbg = s.dbg ∧ (setHold s x1
    x2).cvu = s.cvu ∧ (setHold s x1 x2).pending = s.pending := by
  simp [setHold]

@[simp] theorem holdHead_frame (s : State) (x1 : Nat) : (holdHead s x1).rst = s.rst ∧ (holdHead s x1).clk = s.clk ∧
    (holdHead s x1).pwr = s.pwr ∧ (holdHead s x1).reed = s.reed ∧ (holdHead s x1).port = s.port ∧ (holdHead s x1).uart
    = s.uart ∧ (holdHead s x1).usb = s.usb ∧ (holdHead s x1).net = s.net ∧ (holdHead s x1).ctxs = s.ctxs ∧ (holdHead s
    x1).params = s.params ∧ (holdHead s x1).nvm = s.nvm ∧ (holdHead s x1).log = s.log ∧ (holdHead s x1).saf = s.saf ∧
    (holdHead s x1).fife = s.fife ∧ (holdHead s x1).motion = s.motion ∧ (holdHead s x1).noz = s.noz ∧ (holdHead s
    x1).hub = s.hub ∧ (holdHead s x1).cal = s.cal ∧ (holdHead s x1).seq = s.seq ∧ (holdHead s x1).otp = s.otp ∧
    (holdHead s x1).dbg = s.dbg ∧ (holdHead s x1).cvu = s.cvu ∧ (holdHead s x1).pending = s.pending := by
  simp only [holdHead]; (repeat' split) <;> simp

@[simp] theorem postBand_frame (s : State) (x1 : Nat) (x2 : Nat) : (postBand s x1 x2).clk = s.clk ∧ (postBand s x1
    x2).pwr = s.pwr ∧ (postBand s x1 x2).reed = s.reed ∧ (postBand s x1 x2).port = s.port ∧ (postBand s x1 x2).uart =
    s.uart ∧ (postBand s x1 x2).usb = s.usb ∧ (postBand s x1 x2).net = s.net ∧ (postBand s x1 x2).ctxs = s.ctxs ∧
    (postBand s x1 x2).params = s.params ∧ (postBand s x1 x2).nvm = s.nvm ∧ (postBand s x1 x2).log = s.log ∧ (postBand
    s x1 x2).jobs = s.jobs ∧ (postBand s x1 x2).fife = s.fife ∧ (postBand s x1 x2).motion = s.motion ∧ (postBand s x1
    x2).noz = s.noz ∧ (postBand s x1 x2).hub = s.hub ∧ (postBand s x1 x2).cal = s.cal ∧ (postBand s x1 x2).seq = s.seq
    ∧ (postBand s x1 x2).otp = s.otp ∧ (postBand s x1 x2).dbg = s.dbg ∧ (postBand s x1 x2).cvu = s.cvu ∧ (postBand s
    x1 x2).pending = s.pending := by
  and_intros <;> first
  | (simp only [postBand]; (repeat' split) <;> (first | rfl | (simp; done) | (rename_i hs; have h := congrArg Prod.snd hs; simp only at h; subst h; simp; done)); done)

@[simp] theorem endFiring_frame (s : State) (x1 : Job) : (endFiring s x1).rst = s.rst ∧ (endFiring s x1).clk = s.clk ∧
    (endFiring s x1).pwr = s.pwr ∧ (endFiring s x1).reed = s.reed ∧ (endFiring s x1).uart = s.uart ∧ (endFiring s
    x1).net = s.net ∧ (endFiring s x1).params = s.params ∧ (endFiring s x1).log = s.log ∧ (endFiring s x1).saf = s.saf
    ∧ (endFiring s x1).fife = s.fife ∧ (endFiring s x1).hub = s.hub ∧ (endFiring s x1).cal = s.cal ∧ (endFiring s
    x1).seq = s.seq ∧ (endFiring s x1).otp = s.otp ∧ (endFiring s x1).dbg = s.dbg ∧ (endFiring s x1).cvu = s.cvu ∧
    (endFiring s x1).pending = s.pending := by
  simp [endFiring]

@[simp] theorem startTicket_frame (s : State) (x1 : Job) : (startTicket s x1).pwr = s.pwr ∧ (startTicket s x1).uart =
    s.uart ∧ (startTicket s x1).net = s.net ∧ (startTicket s x1).otp = s.otp ∧ (startTicket s x1).dbg = s.dbg ∧
    (startTicket s x1).cvu = s.cvu ∧ (startTicket s x1).pending = s.pending := by
  simp only [startTicket]; (repeat' split) <;> simp

@[simp] theorem cancelPrinting_frame (s : State) (x1 : Job) : (cancelPrinting s x1).rst = s.rst ∧ (cancelPrinting s
    x1).clk = s.clk ∧ (cancelPrinting s x1).pwr = s.pwr ∧ (cancelPrinting s x1).reed = s.reed ∧ (cancelPrinting s
    x1).uart = s.uart ∧ (cancelPrinting s x1).net = s.net ∧ (cancelPrinting s x1).params = s.params ∧ (cancelPrinting
    s x1).log = s.log ∧ (cancelPrinting s x1).fife = s.fife ∧ (cancelPrinting s x1).hub = s.hub ∧ (cancelPrinting s
    x1).cal = s.cal ∧ (cancelPrinting s x1).seq = s.seq ∧ (cancelPrinting s x1).otp = s.otp ∧ (cancelPrinting s
    x1).dbg = s.dbg ∧ (cancelPrinting s x1).cvu = s.cvu ∧ (cancelPrinting s x1).pending = s.pending := by
  simp only [cancelPrinting]; (repeat' split) <;> simp

@[simp] theorem clearPaper_frame (s : State) : (clearPaper s).rst = s.rst ∧ (clearPaper s).clk = s.clk ∧ (clearPaper
    s).pwr = s.pwr ∧ (clearPaper s).reed = s.reed ∧ (clearPaper s).port = s.port ∧ (clearPaper s).uart = s.uart ∧
    (clearPaper s).usb = s.usb ∧ (clearPaper s).net = s.net ∧ (clearPaper s).ctxs = s.ctxs ∧ (clearPaper s).params =
    s.params ∧ (clearPaper s).nvm = s.nvm ∧ (clearPaper s).log = s.log ∧ (clearPaper s).jobs = s.jobs ∧ (clearPaper
    s).saf = s.saf ∧ (clearPaper s).fife = s.fife ∧ (clearPaper s).noz = s.noz ∧ (clearPaper s).hub = s.hub ∧
    (clearPaper s).cal = s.cal ∧ (clearPaper s).seq = s.seq ∧ (clearPaper s).otp = s.otp ∧ (clearPaper s).dbg = s.dbg
    ∧ (clearPaper s).cvu = s.cvu ∧ (clearPaper s).pending = s.pending := by
  simp only [clearPaper]; (repeat' split) <;> simp

@[simp] theorem showHead_frame (s : State) : (showHead s).rst = s.rst ∧ (showHead s).clk = s.clk ∧ (showHead s).pwr =
    s.pwr ∧ (showHead s).reed = s.reed ∧ (showHead s).port = s.port ∧ (showHead s).uart = s.uart ∧ (showHead s).usb =
    s.usb ∧ (showHead s).net = s.net ∧ (showHead s).ctxs = s.ctxs ∧ (showHead s).params = s.params ∧ (showHead s).nvm
    = s.nvm ∧ (showHead s).log = s.log ∧ (showHead s).saf = s.saf ∧ (showHead s).fife = s.fife ∧ (showHead s).motion =
    s.motion ∧ (showHead s).noz = s.noz ∧ (showHead s).hub = s.hub ∧ (showHead s).cal = s.cal ∧ (showHead s).seq =
    s.seq ∧ (showHead s).otp = s.otp ∧ (showHead s).dbg = s.dbg ∧ (showHead s).cvu = s.cvu ∧ (showHead s).pending =
    s.pending := by
  simp only [showHead]; (repeat' split) <;> simp

@[simp] theorem boundary_frame (s : State) : (boundary s).net = s.net ∧ (boundary s).otp = s.otp ∧ (boundary s).dbg =
    s.dbg ∧ (boundary s).cvu = s.cvu ∧ (boundary s).pending = s.pending := by
  simp only [boundary]; (repeat' split) <;> simp

@[simp] theorem boundaries_frame (n : Nat) (s : State) : (boundaries n s).net = s.net ∧ (boundaries n s).otp = s.otp ∧
    (boundaries n s).dbg = s.dbg ∧ (boundaries n s).cvu = s.cvu ∧ (boundaries n s).pending = s.pending := by
  induction n generalizing s with
  | zero => simp [boundaries]
  | succ n ih => simp [boundaries, ih]

@[simp] theorem schedule_frame (s : State) : (schedule s).net = s.net ∧ (schedule s).otp = s.otp ∧ (schedule s).dbg =
    s.dbg ∧ (schedule s).cvu = s.cvu ∧ (schedule s).pending = s.pending := by
  simp [schedule]

@[simp] theorem becomeReady_frame (s : State) (x1 : Nat) : (becomeReady s x1).net = s.net ∧ (becomeReady s x1).otp =
    s.otp ∧ (becomeReady s x1).dbg = s.dbg ∧ (becomeReady s x1).cvu = s.cvu ∧ (becomeReady s x1).pending = s.pending
    := by
  simp [becomeReady]

@[simp] theorem startWaiting_frame (s : State) : (startWaiting s).net = s.net ∧ (startWaiting s).otp = s.otp ∧
    (startWaiting s).dbg = s.dbg ∧ (startWaiting s).cvu = s.cvu ∧ (startWaiting s).pending = s.pending := by
  simp [startWaiting]

@[simp] theorem roundAny_frame (s : State) (x1 : Rat) : (roundAny s x1).2.rst = s.rst ∧ (roundAny s x1).2.pwr = s.pwr
    ∧ (roundAny s x1).2.reed = s.reed ∧ (roundAny s x1).2.port = s.port ∧ (roundAny s x1).2.uart = s.uart ∧ (roundAny
    s x1).2.usb = s.usb ∧ (roundAny s x1).2.net = s.net ∧ (roundAny s x1).2.ctxs = s.ctxs ∧ (roundAny s x1).2.params =
    s.params ∧ (roundAny s x1).2.nvm = s.nvm ∧ (roundAny s x1).2.log = s.log ∧ (roundAny s x1).2.jobs = s.jobs ∧
    (roundAny s x1).2.saf = s.saf ∧ (roundAny s x1).2.fife = s.fife ∧ (roundAny s x1).2.motion = s.motion ∧ (roundAny
    s x1).2.noz = s.noz ∧ (roundAny s x1).2.hub = s.hub ∧ (roundAny s x1).2.cal = s.cal ∧ (roundAny s x1).2.seq =
    s.seq ∧ (roundAny s x1).2.otp = s.otp ∧ (roundAny s x1).2.dbg = s.dbg ∧ (roundAny s x1).2.cvu = s.cvu ∧ (roundAny
    s x1).2.pending = s.pending := by
  simp only [roundAny]; split <;> simp

@[simp] theorem gateSetup_frame (s : State) (x1 : Sys2Proof.GateSeen) : (gateSetup s x1).rst = s.rst ∧ (gateSetup s
    x1).pwr = s.pwr ∧ (gateSetup s x1).reed = s.reed ∧ (gateSetup s x1).port = s.port ∧ (gateSetup s x1).uart = s.uart
    ∧ (gateSetup s x1).usb = s.usb ∧ (gateSetup s x1).net = s.net ∧ (gateSetup s x1).ctxs = s.ctxs ∧ (gateSetup s
    x1).params = s.params ∧ (gateSetup s x1).nvm = s.nvm ∧ (gateSetup s x1).log = s.log ∧ (gateSetup s x1).jobs =
    s.jobs ∧ (gateSetup s x1).saf = s.saf ∧ (gateSetup s x1).fife = s.fife ∧ (gateSetup s x1).motion = s.motion ∧
    (gateSetup s x1).hub = s.hub ∧ (gateSetup s x1).cal = s.cal ∧ (gateSetup s x1).seq = s.seq ∧ (gateSetup s x1).otp
    = s.otp ∧ (gateSetup s x1).dbg = s.dbg ∧ (gateSetup s x1).cvu = s.cvu ∧ (gateSetup s x1).pending = s.pending := by
  simp only [gateSetup]; (repeat' split) <;> simp

@[simp] theorem roundFree_frame (s : State) (x1 : Rat) : (roundFree s x1).2.rst = s.rst ∧ (roundFree s x1).2.pwr =
    s.pwr ∧ (roundFree s x1).2.reed = s.reed ∧ (roundFree s x1).2.port = s.port ∧ (roundFree s x1).2.uart = s.uart ∧
    (roundFree s x1).2.usb = s.usb ∧ (roundFree s x1).2.net = s.net ∧ (roundFree s x1).2.ctxs = s.ctxs ∧ (roundFree s
    x1).2.params = s.params ∧ (roundFree s x1).2.nvm = s.nvm ∧ (roundFree s x1).2.log = s.log ∧ (roundFree s
    x1).2.jobs = s.jobs ∧ (roundFree s x1).2.saf = s.saf ∧ (roundFree s x1).2.fife = s.fife ∧ (roundFree s
    x1).2.motion = s.motion ∧ (roundFree s x1).2.noz = s.noz ∧ (roundFree s x1).2.hub = s.hub ∧ (roundFree s x1).2.cal
    = s.cal ∧ (roundFree s x1).2.seq = s.seq ∧ (roundFree s x1).2.otp = s.otp ∧ (roundFree s x1).2.dbg = s.dbg ∧
    (roundFree s x1).2.cvu = s.cvu ∧ (roundFree s x1).2.pending = s.pending := by
  simp [roundFree]

@[simp] theorem twoPointSel_frame (s : State) (x1 : Nat) (x2 : Nat) (x3 : List Rat) : (twoPointSel s x1 x2 x3).2.rst =
    s.rst ∧ (twoPointSel s x1 x2 x3).2.pwr = s.pwr ∧ (twoPointSel s x1 x2 x3).2.reed = s.reed ∧ (twoPointSel s x1 x2
    x3).2.port = s.port ∧ (twoPointSel s x1 x2 x3).2.uart = s.uart ∧ (twoPointSel s x1 x2 x3).2.usb = s.usb ∧
    (twoPointSel s x1 x2 x3).2.net = s.net ∧ (twoPointSel s x1 x2 x3).2.ctxs = s.ctxs ∧ (twoPointSel s x1 x2
    x3).2.params = s.params ∧ (twoPointSel s x1 x2 x3).2.nvm = s.nvm ∧ (twoPointSel s x1 x2 x3).2.log = s.log ∧
    (twoPointSel s x1 x2 x3).2.jobs = s.jobs ∧ (twoPointSel s x1 x2 x3).2.saf = s.saf ∧ (twoPointSel s x1 x2
    x3).2.fife = s.fife ∧ (twoPointSel s x1 x2 x3).2.motion = s.motion ∧ (twoPointSel s x1 x2 x3).2.noz = s.noz ∧
    (twoPointSel s x1 x2 x3).2.hub = s.hub ∧ (twoPointSel s x1 x2 x3).2.cal = s.cal ∧ (twoPointSel s x1 x2 x3).2.seq =
    s.seq ∧ (twoPointSel s x1 x2 x3).2.otp = s.otp ∧ (twoPointSel s x1 x2 x3).2.dbg = s.dbg ∧ (twoPointSel s x1 x2
    x3).2.cvu = s.cvu ∧ (twoPointSel s x1 x2 x3).2.pending = s.pending := by
  simp [twoPointSel]

@[simp] theorem fineSel_frame (s : State) (x1 : List Rat) : (fineSel s x1).2.rst = s.rst ∧ (fineSel s x1).2.pwr =
    s.pwr ∧ (fineSel s x1).2.reed = s.reed ∧ (fineSel s x1).2.port = s.port ∧ (fineSel s x1).2.uart = s.uart ∧
    (fineSel s x1).2.usb = s.usb ∧ (fineSel s x1).2.net = s.net ∧ (fineSel s x1).2.ctxs = s.ctxs ∧ (fineSel s
    x1).2.params = s.params ∧ (fineSel s x1).2.nvm = s.nvm ∧ (fineSel s x1).2.log = s.log ∧ (fineSel s x1).2.jobs =
    s.jobs ∧ (fineSel s x1).2.saf = s.saf ∧ (fineSel s x1).2.fife = s.fife ∧ (fineSel s x1).2.motion = s.motion ∧
    (fineSel s x1).2.noz = s.noz ∧ (fineSel s x1).2.hub = s.hub ∧ (fineSel s x1).2.cal = s.cal ∧ (fineSel s x1).2.seq
    = s.seq ∧ (fineSel s x1).2.otp = s.otp ∧ (fineSel s x1).2.dbg = s.dbg ∧ (fineSel s x1).2.cvu = s.cvu ∧ (fineSel s
    x1).2.pending = s.pending := by
  simp [fineSel]

@[simp] theorem ledSel_frame (s : State) (x1 : Nat) (x2 : List Rat) : (ledSel s x1 x2).2.rst = s.rst ∧ (ledSel s x1
    x2).2.pwr = s.pwr ∧ (ledSel s x1 x2).2.reed = s.reed ∧ (ledSel s x1 x2).2.port = s.port ∧ (ledSel s x1 x2).2.uart
    = s.uart ∧ (ledSel s x1 x2).2.usb = s.usb ∧ (ledSel s x1 x2).2.net = s.net ∧ (ledSel s x1 x2).2.ctxs = s.ctxs ∧
    (ledSel s x1 x2).2.params = s.params ∧ (ledSel s x1 x2).2.nvm = s.nvm ∧ (ledSel s x1 x2).2.log = s.log ∧ (ledSel s
    x1 x2).2.jobs = s.jobs ∧ (ledSel s x1 x2).2.saf = s.saf ∧ (ledSel s x1 x2).2.fife = s.fife ∧ (ledSel s x1
    x2).2.motion = s.motion ∧ (ledSel s x1 x2).2.noz = s.noz ∧ (ledSel s x1 x2).2.hub = s.hub ∧ (ledSel s x1 x2).2.cal
    = s.cal ∧ (ledSel s x1 x2).2.seq = s.seq ∧ (ledSel s x1 x2).2.otp = s.otp ∧ (ledSel s x1 x2).2.dbg = s.dbg ∧
    (ledSel s x1 x2).2.cvu = s.cvu ∧ (ledSel s x1 x2).2.pending = s.pending := by
  simp [ledSel]

@[simp] theorem selFrom_frame (s : State) (x1 : Nat) (x2 : Nat) (x3 : List Rat) : (selFrom s x1 x2 x3).2.rst = s.rst ∧
    (selFrom s x1 x2 x3).2.pwr = s.pwr ∧ (selFrom s x1 x2 x3).2.reed = s.reed ∧ (selFrom s x1 x2 x3).2.port = s.port ∧
    (selFrom s x1 x2 x3).2.uart = s.uart ∧ (selFrom s x1 x2 x3).2.usb = s.usb ∧ (selFrom s x1 x2 x3).2.net = s.net ∧
    (selFrom s x1 x2 x3).2.ctxs = s.ctxs ∧ (selFrom s x1 x2 x3).2.params = s.params ∧ (selFrom s x1 x2 x3).2.nvm =
    s.nvm ∧ (selFrom s x1 x2 x3).2.log = s.log ∧ (selFrom s x1 x2 x3).2.jobs = s.jobs ∧ (selFrom s x1 x2 x3).2.saf =
    s.saf ∧ (selFrom s x1 x2 x3).2.fife = s.fife ∧ (selFrom s x1 x2 x3).2.motion = s.motion ∧ (selFrom s x1 x2
    x3).2.noz = s.noz ∧ (selFrom s x1 x2 x3).2.hub = s.hub ∧ (selFrom s x1 x2 x3).2.cal = s.cal ∧ (selFrom s x1 x2
    x3).2.seq = s.seq ∧ (selFrom s x1 x2 x3).2.otp = s.otp ∧ (selFrom s x1 x2 x3).2.dbg = s.dbg ∧ (selFrom s x1 x2
    x3).2.cvu = s.cvu ∧ (selFrom s x1 x2 x3).2.pending = s.pending := by
  simp [selFrom]

@[simp] theorem figure_frame (s : State) (x1 : Nat) (x2 : Rat) : (figure s x1 x2).2.rst = s.rst ∧ (figure s x1
    x2).2.pwr = s.pwr ∧ (figure s x1 x2).2.reed = s.reed ∧ (figure s x1 x2).2.port = s.port ∧ (figure s x1 x2).2.uart
    = s.uart ∧ (figure s x1 x2).2.usb = s.usb ∧ (figure s x1 x2).2.net = s.net ∧ (figure s x1 x2).2.ctxs = s.ctxs ∧
    (figure s x1 x2).2.params = s.params ∧ (figure s x1 x2).2.nvm = s.nvm ∧ (figure s x1 x2).2.log = s.log ∧ (figure s
    x1 x2).2.jobs = s.jobs ∧ (figure s x1 x2).2.saf = s.saf ∧ (figure s x1 x2).2.fife = s.fife ∧ (figure s x1
    x2).2.motion = s.motion ∧ (figure s x1 x2).2.noz = s.noz ∧ (figure s x1 x2).2.hub = s.hub ∧ (figure s x1 x2).2.cal
    = s.cal ∧ (figure s x1 x2).2.seq = s.seq ∧ (figure s x1 x2).2.otp = s.otp ∧ (figure s x1 x2).2.dbg = s.dbg ∧
    (figure s x1 x2).2.cvu = s.cvu ∧ (figure s x1 x2).2.pending = s.pending := by
  simp [figure]

@[simp] theorem calQuality_frame (s : State) (x1 : Nat) (x2 : Nat) (x3 : List Rat) : (calQuality s x1 x2 x3).2.rst =
    s.rst ∧ (calQuality s x1 x2 x3).2.pwr = s.pwr ∧ (calQuality s x1 x2 x3).2.reed = s.reed ∧ (calQuality s x1 x2
    x3).2.port = s.port ∧ (calQuality s x1 x2 x3).2.uart = s.uart ∧ (calQuality s x1 x2 x3).2.usb = s.usb ∧
    (calQuality s x1 x2 x3).2.net = s.net ∧ (calQuality s x1 x2 x3).2.ctxs = s.ctxs ∧ (calQuality s x1 x2 x3).2.params
    = s.params ∧ (calQuality s x1 x2 x3).2.nvm = s.nvm ∧ (calQuality s x1 x2 x3).2.log = s.log ∧ (calQuality s x1 x2
    x3).2.jobs = s.jobs ∧ (calQuality s x1 x2 x3).2.saf = s.saf ∧ (calQuality s x1 x2 x3).2.fife = s.fife ∧
    (calQuality s x1 x2 x3).2.motion = s.motion ∧ (calQuality s x1 x2 x3).2.noz = s.noz ∧ (calQuality s x1 x2
    x3).2.hub = s.hub ∧ (calQuality s x1 x2 x3).2.cal = s.cal ∧ (calQuality s x1 x2 x3).2.seq = s.seq ∧ (calQuality s
    x1 x2 x3).2.otp = s.otp ∧ (calQuality s x1 x2 x3).2.dbg = s.dbg ∧ (calQuality s x1 x2 x3).2.cvu = s.cvu ∧
    (calQuality s x1 x2 x3).2.pending = s.pending := by
  simp [calQuality]

@[simp] theorem noteSlotsFull_frame (x0 : Otp) (s : State) : (noteSlotsFull x0 s).rst = s.rst ∧ (noteSlotsFull x0
    s).clk = s.clk ∧ (noteSlotsFull x0 s).pwr = s.pwr ∧ (noteSlotsFull x0 s).reed = s.reed ∧ (noteSlotsFull x0 s).port
    = s.port ∧ (noteSlotsFull x0 s).uart = s.uart ∧ (noteSlotsFull x0 s).usb = s.usb ∧ (noteSlotsFull x0 s).net =
    s.net ∧ (noteSlotsFull x0 s).ctxs = s.ctxs ∧ (noteSlotsFull x0 s).params = s.params ∧ (noteSlotsFull x0 s).nvm =
    s.nvm ∧ (noteSlotsFull x0 s).jobs = s.jobs ∧ (noteSlotsFull x0 s).saf = s.saf ∧ (noteSlotsFull x0 s).fife = s.fife
    ∧ (noteSlotsFull x0 s).motion = s.motion ∧ (noteSlotsFull x0 s).noz = s.noz ∧ (noteSlotsFull x0 s).hub = s.hub ∧
    (noteSlotsFull x0 s).cal = s.cal ∧ (noteSlotsFull x0 s).seq = s.seq ∧ (noteSlotsFull x0 s).otp = s.otp ∧
    (noteSlotsFull x0 s).dbg = s.dbg ∧ (noteSlotsFull x0 s).cvu = s.cvu ∧ (noteSlotsFull x0 s).pending = s.pending :=
    by
  simp [noteSlotsFull]

@[simp] theorem followMax_frame (x0 : Otp) (s : State) : (followMax x0 s).rst = s.rst ∧ (followMax x0 s).clk = s.clk ∧
    (followMax x0 s).pwr = s.pwr ∧ (followMax x0 s).reed = s.reed ∧ (followMax x0 s).uart = s.uart ∧ (followMax x0
    s).params = s.params ∧ (followMax x0 s).nvm = s.nvm ∧ (followMax x0 s).jobs = s.jobs ∧ (followMax x0 s).fife =
    s.fife ∧ (followMax x0 s).motion = s.motion ∧ (followMax x0 s).noz = s.noz ∧ (followMax x0 s).hub = s.hub ∧
    (followMax x0 s).cal = s.cal ∧ (followMax x0 s).seq = s.seq ∧ (followMax x0 s).otp = s.otp ∧ (followMax x0 s).dbg
    = s.dbg ∧ (followMax x0 s).cvu = s.cvu ∧ (followMax x0 s).pending = s.pending := by
  simp [followMax]

@[simp] theorem otpChange_frame (s : State) (x1 : Otp) : (otpChange s x1).rst = s.rst ∧ (otpChange s x1).clk = s.clk ∧
    (otpChange s x1).pwr = s.pwr ∧ (otpChange s x1).reed = s.reed ∧ (otpChange s x1).uart = s.uart ∧ (otpChange s
    x1).params = s.params ∧ (otpChange s x1).nvm = s.nvm ∧ (otpChange s x1).jobs = s.jobs ∧ (otpChange s x1).fife =
    s.fife ∧ (otpChange s x1).motion = s.motion ∧ (otpChange s x1).noz = s.noz ∧ (otpChange s x1).hub = s.hub ∧
    (otpChange s x1).cal = s.cal ∧ (otpChange s x1).seq = s.seq ∧ (otpChange s x1).dbg = s.dbg ∧ (otpChange s x1).cvu
    = s.cvu ∧ (otpChange s x1).pending = s.pending := by
  simp [otpChange]

@[simp] theorem programWord_frame (s : State) (x1 : Nat) (x2 : BitVec 64) : (programWord s x1 x2).2.rst = s.rst ∧
    (programWord s x1 x2).2.clk = s.clk ∧ (programWord s x1 x2).2.pwr = s.pwr ∧ (programWord s x1 x2).2.reed = s.reed
    ∧ (programWord s x1 x2).2.uart = s.uart ∧ (programWord s x1 x2).2.params = s.params ∧ (programWord s x1 x2).2.nvm
    = s.nvm ∧ (programWord s x1 x2).2.jobs = s.jobs ∧ (programWord s x1 x2).2.fife = s.fife ∧ (programWord s x1
    x2).2.motion = s.motion ∧ (programWord s x1 x2).2.noz = s.noz ∧ (programWord s x1 x2).2.hub = s.hub ∧ (programWord
    s x1 x2).2.seq = s.seq ∧ (programWord s x1 x2).2.dbg = s.dbg ∧ (programWord s x1 x2).2.cvu = s.cvu ∧ (programWord
    s x1 x2).2.pending = s.pending := by
  simp [programWord]

@[simp] theorem sealRegion_frame (s : State) (x1 : Nat) : (sealRegion s x1).2.rst = s.rst ∧ (sealRegion s x1).2.clk =
    s.clk ∧ (sealRegion s x1).2.pwr = s.pwr ∧ (sealRegion s x1).2.reed = s.reed ∧ (sealRegion s x1).2.uart = s.uart ∧
    (sealRegion s x1).2.params = s.params ∧ (sealRegion s x1).2.nvm = s.nvm ∧ (sealRegion s x1).2.jobs = s.jobs ∧
    (sealRegion s x1).2.fife = s.fife ∧ (sealRegion s x1).2.motion = s.motion ∧ (sealRegion s x1).2.noz = s.noz ∧
    (sealRegion s x1).2.hub = s.hub ∧ (sealRegion s x1).2.seq = s.seq ∧ (sealRegion s x1).2.dbg = s.dbg ∧ (sealRegion
    s x1).2.cvu = s.cvu ∧ (sealRegion s x1).2.pending = s.pending := by
  simp only [sealRegion]; (repeat' split) <;> simp

@[simp] theorem rtcAlarmDue_frame (s : State) : (rtcAlarmDue s).pending = s.pending := by
  simp [rtcAlarmDue]

@[simp] theorem countHeadFires_frame (s : State) (x1 : Nat) (x2 : Sys2Proof.HeadMeas) : (countHeadFires s x1
    x2).pending = s.pending := by
  simp [countHeadFires]

@[simp] theorem cutRunFires_frame (s : State) (x1 : Nat) (x2 : Sys2Proof.HeadMeas) : (cutRunFires s x1 x2).rst = s.rst
    ∧ (cutRunFires s x1 x2).pwr = s.pwr ∧ (cutRunFires s x1 x2).reed = s.reed ∧ (cutRunFires s x1 x2).port = s.port ∧
    (cutRunFires s x1 x2).uart = s.uart ∧ (cutRunFires s x1 x2).usb = s.usb ∧ (cutRunFires s x1 x2).net = s.net ∧
    (cutRunFires s x1 x2).ctxs = s.ctxs ∧ (cutRunFires s x1 x2).params = s.params ∧ (cutRunFires s x1 x2).nvm = s.nvm
    ∧ (cutRunFires s x1 x2).log = s.log ∧ (cutRunFires s x1 x2).jobs = s.jobs ∧ (cutRunFires s x1 x2).saf = s.saf ∧
    (cutRunFires s x1 x2).motion = s.motion ∧ (cutRunFires s x1 x2).noz = s.noz ∧ (cutRunFires s x1 x2).hub = s.hub ∧
    (cutRunFires s x1 x2).cal = s.cal ∧ (cutRunFires s x1 x2).seq = s.seq ∧ (cutRunFires s x1 x2).otp = s.otp ∧
    (cutRunFires s x1 x2).dbg = s.dbg ∧ (cutRunFires s x1 x2).cvu = s.cvu ∧ (cutRunFires s x1 x2).pending = s.pending
    := by
  simp [cutRunFires]

@[simp] theorem headResult_frame (s : State) (x1 : Nat) (x2 : Sys2Proof.HeadMeas) : (headResult s x1 x2).2.2.rst =
    s.rst ∧ (headResult s x1 x2).2.2.pwr = s.pwr ∧ (headResult s x1 x2).2.2.reed = s.reed ∧ (headResult s x1
    x2).2.2.port = s.port ∧ (headResult s x1 x2).2.2.uart = s.uart ∧ (headResult s x1 x2).2.2.usb = s.usb ∧
    (headResult s x1 x2).2.2.net = s.net ∧ (headResult s x1 x2).2.2.ctxs = s.ctxs ∧ (headResult s x1 x2).2.2.params =
    s.params ∧ (headResult s x1 x2).2.2.nvm = s.nvm ∧ (headResult s x1 x2).2.2.log = s.log ∧ (headResult s x1
    x2).2.2.jobs = s.jobs ∧ (headResult s x1 x2).2.2.saf = s.saf ∧ (headResult s x1 x2).2.2.fife = s.fife ∧
    (headResult s x1 x2).2.2.motion = s.motion ∧ (headResult s x1 x2).2.2.noz = s.noz ∧ (headResult s x1 x2).2.2.hub =
    s.hub ∧ (headResult s x1 x2).2.2.cal = s.cal ∧ (headResult s x1 x2).2.2.seq = s.seq ∧ (headResult s x1 x2).2.2.otp
    = s.otp ∧ (headResult s x1 x2).2.2.dbg = s.dbg ∧ (headResult s x1 x2).2.2.cvu = s.cvu ∧ (headResult s x1
    x2).2.2.pending = s.pending := by
  simp [headResult]

@[simp] theorem putSel_frame (s : State) (x1 : Nat) (x2 : CalSel) : (putSel s x1 x2).rst = s.rst ∧ (putSel s x1
    x2).clk = s.clk ∧ (putSel s x1 x2).pwr = s.pwr ∧ (putSel s x1 x2).reed = s.reed ∧ (putSel s x1 x2).port = s.port ∧
    (putSel s x1 x2).uart = s.uart ∧ (putSel s x1 x2).usb = s.usb ∧ (putSel s x1 x2).net = s.net ∧ (putSel s x1
    x2).ctxs = s.ctxs ∧ (putSel s x1 x2).params = s.params ∧ (putSel s x1 x2).nvm = s.nvm ∧ (putSel s x1 x2).log =
    s.log ∧ (putSel s x1 x2).jobs = s.jobs ∧ (putSel s x1 x2).saf = s.saf ∧ (putSel s x1 x2).fife = s.fife ∧ (putSel s
    x1 x2).motion = s.motion ∧ (putSel s x1 x2).noz = s.noz ∧ (putSel s x1 x2).hub = s.hub ∧ (putSel s x1 x2).seq =
    s.seq ∧ (putSel s x1 x2).otp = s.otp ∧ (putSel s x1 x2).dbg = s.dbg ∧ (putSel s x1 x2).cvu = s.cvu ∧ (putSel s x1
    x2).pending = s.pending := by
  simp [putSel]

@[simp] theorem markSlot_frame (s : State) (x1 : Nat) (x2 : Sys2Proof.Byte) : (markSlot s x1 x2).rst = s.rst ∧
    (markSlot s x1 x2).clk = s.clk ∧ (markSlot s x1 x2).pwr = s.pwr ∧ (markSlot s x1 x2).reed = s.reed ∧ (markSlot s
    x1 x2).port = s.port ∧ (markSlot s x1 x2).uart = s.uart ∧ (markSlot s x1 x2).usb = s.usb ∧ (markSlot s x1 x2).net
    = s.net ∧ (markSlot s x1 x2).ctxs = s.ctxs ∧ (markSlot s x1 x2).params = s.params ∧ (markSlot s x1 x2).nvm = s.nvm
    ∧ (markSlot s x1 x2).log = s.log ∧ (markSlot s x1 x2).jobs = s.jobs ∧ (markSlot s x1 x2).saf = s.saf ∧ (markSlot s
    x1 x2).fife = s.fife ∧ (markSlot s x1 x2).motion = s.motion ∧ (markSlot s x1 x2).noz = s.noz ∧ (markSlot s x1
    x2).hub = s.hub ∧ (markSlot s x1 x2).seq = s.seq ∧ (markSlot s x1 x2).otp = s.otp ∧ (markSlot s x1 x2).dbg = s.dbg
    ∧ (markSlot s x1 x2).cvu = s.cvu ∧ (markSlot s x1 x2).pending = s.pending := by
  simp only [markSlot]; (repeat' split) <;> simp

@[simp] theorem calTick_frame (s : State) : (calTick s).rst = s.rst ∧ (calTick s).clk = s.clk ∧ (calTick s).pwr =
    s.pwr ∧ (calTick s).reed = s.reed ∧ (calTick s).port = s.port ∧ (calTick s).uart = s.uart ∧ (calTick s).usb =
    s.usb ∧ (calTick s).net = s.net ∧ (calTick s).ctxs = s.ctxs ∧ (calTick s).params = s.params ∧ (calTick s).nvm =
    s.nvm ∧ (calTick s).log = s.log ∧ (calTick s).jobs = s.jobs ∧ (calTick s).saf = s.saf ∧ (calTick s).fife = s.fife
    ∧ (calTick s).motion = s.motion ∧ (calTick s).noz = s.noz ∧ (calTick s).hub = s.hub ∧ (calTick s).seq = s.seq ∧
    (calTick s).otp = s.otp ∧ (calTick s).dbg = s.dbg ∧ (calTick s).cvu = s.cvu ∧ (calTick s).pending = s.pending :=
    by
  simp [calTick]

@[simp] theorem unlockFailed_frame (s : State) (x1 : DbgLevel) : (unlockFailed s x1).rst = s.rst ∧ (unlockFailed s
    x1).clk = s.clk ∧ (unlockFailed s x1).pwr = s.pwr ∧ (unlockFailed s x1).reed = s.reed ∧ (unlockFailed s x1).port =
    s.port ∧ (unlockFailed s x1).uart = s.uart ∧ (unlockFailed s x1).usb = s.usb ∧ (unlockFailed s x1).net = s.net ∧
    (unlockFailed s x1).ctxs = s.ctxs ∧ (unlockFailed s x1).params = s.params ∧ (unlockFailed s x1).nvm = s.nvm ∧
    (unlockFailed s x1).jobs = s.jobs ∧ (unlockFailed s x1).saf = s.saf ∧ (unlockFailed s x1).fife = s.fife ∧
    (unlockFailed s x1).motion = s.motion ∧ (unlockFailed s x1).noz = s.noz ∧ (unlockFailed s x1).hub = s.hub ∧
    (unlockFailed s x1).cal = s.cal ∧ (unlockFailed s x1).seq = s.seq ∧ (unlockFailed s x1).otp = s.otp ∧
    (unlockFailed s x1).cvu = s.cvu ∧ (unlockFailed s x1).pending = s.pending := by
  simp [unlockFailed]

@[simp] theorem openLevel_frame (s : State) (x1 : DbgLevel) : (openLevel s x1).rst = s.rst ∧ (openLevel s x1).clk =
    s.clk ∧ (openLevel s x1).pwr = s.pwr ∧ (openLevel s x1).reed = s.reed ∧ (openLevel s x1).port = s.port ∧
    (openLevel s x1).uart = s.uart ∧ (openLevel s x1).usb = s.usb ∧ (openLevel s x1).params = s.params ∧ (openLevel s
    x1).nvm = s.nvm ∧ (openLevel s x1).jobs = s.jobs ∧ (openLevel s x1).saf = s.saf ∧ (openLevel s x1).fife = s.fife ∧
    (openLevel s x1).motion = s.motion ∧ (openLevel s x1).noz = s.noz ∧ (openLevel s x1).hub = s.hub ∧ (openLevel s
    x1).cal = s.cal ∧ (openLevel s x1).seq = s.seq ∧ (openLevel s x1).otp = s.otp ∧ (openLevel s x1).cvu = s.cvu ∧
    (openLevel s x1).pending = s.pending := by
  simp [openLevel]

@[simp] theorem applyLocks_frame (s : State) : (applyLocks s).rst = s.rst ∧ (applyLocks s).clk = s.clk ∧ (applyLocks
    s).pwr = s.pwr ∧ (applyLocks s).reed = s.reed ∧ (applyLocks s).port = s.port ∧ (applyLocks s).uart = s.uart ∧
    (applyLocks s).usb = s.usb ∧ (applyLocks s).params = s.params ∧ (applyLocks s).nvm = s.nvm ∧ (applyLocks s).log =
    s.log ∧ (applyLocks s).jobs = s.jobs ∧ (applyLocks s).saf = s.saf ∧ (applyLocks s).fife = s.fife ∧ (applyLocks
    s).motion = s.motion ∧ (applyLocks s).noz = s.noz ∧ (applyLocks s).hub = s.hub ∧ (applyLocks s).cal = s.cal ∧
    (applyLocks s).seq = s.seq ∧ (applyLocks s).otp = s.otp ∧ (applyLocks s).cvu = s.cvu ∧ (applyLocks s).pending =
    s.pending := by
  simp [applyLocks]

@[simp] theorem setDbg_frame (s : State) (x1 : Dbg → Dbg) : (setDbg s x1).rst = s.rst ∧ (setDbg s x1).clk = s.clk ∧
    (setDbg s x1).pwr = s.pwr ∧ (setDbg s x1).reed = s.reed ∧ (setDbg s x1).port = s.port ∧ (setDbg s x1).uart =
    s.uart ∧ (setDbg s x1).usb = s.usb ∧ (setDbg s x1).net = s.net ∧ (setDbg s x1).ctxs = s.ctxs ∧ (setDbg s
    x1).params = s.params ∧ (setDbg s x1).nvm = s.nvm ∧ (setDbg s x1).log = s.log ∧ (setDbg s x1).jobs = s.jobs ∧
    (setDbg s x1).saf = s.saf ∧ (setDbg s x1).fife = s.fife ∧ (setDbg s x1).motion = s.motion ∧ (setDbg s x1).noz =
    s.noz ∧ (setDbg s x1).hub = s.hub ∧ (setDbg s x1).cal = s.cal ∧ (setDbg s x1).seq = s.seq ∧ (setDbg s x1).otp =
    s.otp ∧ (setDbg s x1).cvu = s.cvu ∧ (setDbg s x1).pending = s.pending := by
  simp [setDbg]

@[simp] theorem loadFree_frame (s : State) (x1 : TapIr) : (loadFree s x1).rst = s.rst ∧ (loadFree s x1).clk = s.clk ∧
    (loadFree s x1).pwr = s.pwr ∧ (loadFree s x1).reed = s.reed ∧ (loadFree s x1).port = s.port ∧ (loadFree s x1).uart
    = s.uart ∧ (loadFree s x1).usb = s.usb ∧ (loadFree s x1).params = s.params ∧ (loadFree s x1).nvm = s.nvm ∧
    (loadFree s x1).log = s.log ∧ (loadFree s x1).jobs = s.jobs ∧ (loadFree s x1).saf = s.saf ∧ (loadFree s x1).fife =
    s.fife ∧ (loadFree s x1).motion = s.motion ∧ (loadFree s x1).noz = s.noz ∧ (loadFree s x1).hub = s.hub ∧ (loadFree
    s x1).cal = s.cal ∧ (loadFree s x1).seq = s.seq ∧ (loadFree s x1).otp = s.otp ∧ (loadFree s x1).cvu = s.cvu ∧
    (loadFree s x1).pending = s.pending := by
  simp [loadFree]

@[simp] theorem loadLevel_frame (s : State) (x1 : TapIr) (x2 : State → Bool) : (loadLevel s x1 x2).clk = s.clk ∧
    (loadLevel s x1 x2).reed = s.reed ∧ (loadLevel s x1 x2).port = s.port ∧ (loadLevel s x1 x2).uart = s.uart ∧
    (loadLevel s x1 x2).usb = s.usb ∧ (loadLevel s x1 x2).params = s.params ∧ (loadLevel s x1 x2).nvm = s.nvm ∧
    (loadLevel s x1 x2).jobs = s.jobs ∧ (loadLevel s x1 x2).saf = s.saf ∧ (loadLevel s x1 x2).fife = s.fife ∧
    (loadLevel s x1 x2).noz = s.noz ∧ (loadLevel s x1 x2).hub = s.hub ∧ (loadLevel s x1 x2).cal = s.cal ∧ (loadLevel s
    x1 x2).seq = s.seq ∧ (loadLevel s x1 x2).otp = s.otp ∧ (loadLevel s x1 x2).cvu = s.cvu ∧ (loadLevel s x1
    x2).pending = s.pending := by
  simp [loadLevel]

@[simp] theorem requestLevel_frame (s : State) (x1 : DbgLevel) (x2 : Cell) (x3 : Bool) : (requestLevel s x1 x2 x3).rst
    = s.rst ∧ (requestLevel s x1 x2 x3).pwr = s.pwr ∧ (requestLevel s x1 x2 x3).reed = s.reed ∧ (requestLevel s x1 x2
    x3).port = s.port ∧ (requestLevel s x1 x2 x3).uart = s.uart ∧ (requestLevel s x1 x2 x3).usb = s.usb ∧
    (requestLevel s x1 x2 x3).params = s.params ∧ (requestLevel s x1 x2 x3).nvm = s.nvm ∧ (requestLevel s x1 x2
    x3).log = s.log ∧ (requestLevel s x1 x2 x3).jobs = s.jobs ∧ (requestLevel s x1 x2 x3).saf = s.saf ∧ (requestLevel
    s x1 x2 x3).fife = s.fife ∧ (requestLevel s x1 x2 x3).motion = s.motion ∧ (requestLevel s x1 x2 x3).noz = s.noz ∧
    (requestLevel s x1 x2 x3).hub = s.hub ∧ (requestLevel s x1 x2 x3).cal = s.cal ∧ (requestLevel s x1 x2 x3).seq =
    s.seq ∧ (requestLevel s x1 x2 x3).otp = s.otp ∧ (requestLevel s x1 x2 x3).cvu = s.cvu ∧ (requestLevel s x1 x2
    x3).pending = s.pending := by
  simp only [requestLevel]; (repeat' split) <;> simp

@[simp] theorem endRaster_frame (s : State) (x1 : Nat) : (endRaster s x1).rst = s.rst ∧ (endRaster s x1).clk = s.clk ∧
    (endRaster s x1).pwr = s.pwr ∧ (endRaster s x1).reed = s.reed ∧ (endRaster s x1).uart = s.uart ∧ (endRaster s
    x1).net = s.net ∧ (endRaster s x1).params = s.params ∧ (endRaster s x1).log = s.log ∧ (endRaster s x1).saf = s.saf
    ∧ (endRaster s x1).fife = s.fife ∧ (endRaster s x1).motion = s.motion ∧ (endRaster s x1).hub = s.hub ∧ (endRaster
    s x1).cal = s.cal ∧ (endRaster s x1).seq = s.seq ∧ (endRaster s x1).otp = s.otp ∧ (endRaster s x1).dbg = s.dbg ∧
    (endRaster s x1).cvu = s.cvu ∧ (endRaster s x1).pending = s.pending := by
  simp only [endRaster]; (repeat' split) <;> simp

@[simp] theorem addJob_frame (s : State) (x1 : Job) : (addJob s x1).rst = s.rst ∧ (addJob s x1).clk = s.clk ∧ (addJob
    s x1).pwr = s.pwr ∧ (addJob s x1).reed = s.reed ∧ (addJob s x1).port = s.port ∧ (addJob s x1).uart = s.uart ∧
    (addJob s x1).usb = s.usb ∧ (addJob s x1).net = s.net ∧ (addJob s x1).ctxs = s.ctxs ∧ (addJob s x1).params =
    s.params ∧ (addJob s x1).nvm = s.nvm ∧ (addJob s x1).log = s.log ∧ (addJob s x1).saf = s.saf ∧ (addJob s x1).fife
    = s.fife ∧ (addJob s x1).motion = s.motion ∧ (addJob s x1).noz = s.noz ∧ (addJob s x1).hub = s.hub ∧ (addJob s
    x1).cal = s.cal ∧ (addJob s x1).seq = s.seq ∧ (addJob s x1).otp = s.otp ∧ (addJob s x1).dbg = s.dbg ∧ (addJob s
    x1).cvu = s.cvu ∧ (addJob s x1).pending = s.pending := by
  simp [addJob]

@[simp] theorem addRaster_frame (s : State) (x1 : Fin 12) (x2 : List Sys2Proof.Byte) (x3 : Bool) (x4 : Nat) :
    (addRaster s x1 x2 x3 x4).rst = s.rst ∧ (addRaster s x1 x2 x3 x4).clk = s.clk ∧ (addRaster s x1 x2 x3 x4).pwr =
    s.pwr ∧ (addRaster s x1 x2 x3 x4).reed = s.reed ∧ (addRaster s x1 x2 x3 x4).uart = s.uart ∧ (addRaster s x1 x2 x3
    x4).net = s.net ∧ (addRaster s x1 x2 x3 x4).nvm = s.nvm ∧ (addRaster s x1 x2 x3 x4).log = s.log ∧ (addRaster s x1
    x2 x3 x4).saf = s.saf ∧ (addRaster s x1 x2 x3 x4).fife = s.fife ∧ (addRaster s x1 x2 x3 x4).motion = s.motion ∧
    (addRaster s x1 x2 x3 x4).noz = s.noz ∧ (addRaster s x1 x2 x3 x4).hub = s.hub ∧ (addRaster s x1 x2 x3 x4).cal =
    s.cal ∧ (addRaster s x1 x2 x3 x4).seq = s.seq ∧ (addRaster s x1 x2 x3 x4).otp = s.otp ∧ (addRaster s x1 x2 x3
    x4).dbg = s.dbg ∧ (addRaster s x1 x2 x3 x4).cvu = s.cvu ∧ (addRaster s x1 x2 x3 x4).pending = s.pending := by
  simp [addRaster]

@[simp] theorem putRaw_frame (s : State) (x1 : Sys2Proof.Link) (x2 : RawIn) : (putRaw s x1 x2).rst = s.rst ∧ (putRaw s
    x1 x2).clk = s.clk ∧ (putRaw s x1 x2).pwr = s.pwr ∧ (putRaw s x1 x2).reed = s.reed ∧ (putRaw s x1 x2).port =
    s.port ∧ (putRaw s x1 x2).uart = s.uart ∧ (putRaw s x1 x2).ctxs = s.ctxs ∧ (putRaw s x1 x2).params = s.params ∧
    (putRaw s x1 x2).nvm = s.nvm ∧ (putRaw s x1 x2).log = s.log ∧ (putRaw s x1 x2).jobs = s.jobs ∧ (putRaw s x1
    x2).saf = s.saf ∧ (putRaw s x1 x2).fife = s.fife ∧ (putRaw s x1 x2).motion = s.motion ∧ (putRaw s x1 x2).noz =
    s.noz ∧ (putRaw s x1 x2).hub = s.hub ∧ (putRaw s x1 x2).cal = s.cal ∧ (putRaw s x1 x2).seq = s.seq ∧ (putRaw s x1
    x2).otp = s.otp ∧ (putRaw s x1 x2).dbg = s.dbg ∧ (putRaw s x1 x2).cvu = s.cvu ∧ (putRaw s x1 x2).pending =
    s.pending := by
  simp only [putRaw]; (repeat' split) <;> simp

@[simp] theorem skipRest_frame (s : State) (x1 : Nat) (x2 : Sys2Proof.Link) : (skipRest s x1 x2).rst = s.rst ∧
    (skipRest s x1 x2).clk = s.clk ∧ (skipRest s x1 x2).pwr = s.pwr ∧ (skipRest s x1 x2).reed = s.reed ∧ (skipRest s
    x1 x2).port = s.port ∧ (skipRest s x1 x2).uart = s.uart ∧ (skipRest s x1 x2).ctxs = s.ctxs ∧ (skipRest s x1
    x2).params = s.params ∧ (skipRest s x1 x2).nvm = s.nvm ∧ (skipRest s x1 x2).log = s.log ∧ (skipRest s x1 x2).jobs
    = s.jobs ∧ (skipRest s x1 x2).saf = s.saf ∧ (skipRest s x1 x2).fife = s.fife ∧ (skipRest s x1 x2).motion =
    s.motion ∧ (skipRest s x1 x2).noz = s.noz ∧ (skipRest s x1 x2).hub = s.hub ∧ (skipRest s x1 x2).cal = s.cal ∧
    (skipRest s x1 x2).seq = s.seq ∧ (skipRest s x1 x2).otp = s.otp ∧ (skipRest s x1 x2).dbg = s.dbg ∧ (skipRest s x1
    x2).cvu = s.cvu ∧ (skipRest s x1 x2).pending = s.pending := by
  simp only [skipRest]; (repeat' split) <;> simp

@[simp] theorem noIds_frame (x0 : Sys2Proof.Req) (x1 : Nat) (s : State) : (noIds x0 x1 s).2.rst = s.rst ∧ (noIds x0 x1
    s).2.clk = s.clk ∧ (noIds x0 x1 s).2.pwr = s.pwr ∧ (noIds x0 x1 s).2.reed = s.reed ∧ (noIds x0 x1 s).2.port =
    s.port ∧ (noIds x0 x1 s).2.uart = s.uart ∧ (noIds x0 x1 s).2.usb = s.usb ∧ (noIds x0 x1 s).2.params = s.params ∧
    (noIds x0 x1 s).2.nvm = s.nvm ∧ (noIds x0 x1 s).2.log = s.log ∧ (noIds x0 x1 s).2.jobs = s.jobs ∧ (noIds x0 x1
    s).2.saf = s.saf ∧ (noIds x0 x1 s).2.fife = s.fife ∧ (noIds x0 x1 s).2.motion = s.motion ∧ (noIds x0 x1 s).2.noz =
    s.noz ∧ (noIds x0 x1 s).2.hub = s.hub ∧ (noIds x0 x1 s).2.cal = s.cal ∧ (noIds x0 x1 s).2.seq = s.seq ∧ (noIds x0
    x1 s).2.otp = s.otp ∧ (noIds x0 x1 s).2.dbg = s.dbg ∧ (noIds x0 x1 s).2.cvu = s.cvu ∧ (noIds x0 x1 s).2.pending =
    s.pending := by
  simp [noIds]

@[simp] theorem preempt_frame (s : State) (x1 : Nat) : (preempt s x1).rst = s.rst ∧ (preempt s x1).clk = s.clk ∧
    (preempt s x1).pwr = s.pwr ∧ (preempt s x1).reed = s.reed ∧ (preempt s x1).uart = s.uart ∧ (preempt s x1).net =
    s.net ∧ (preempt s x1).params = s.params ∧ (preempt s x1).log = s.log ∧ (preempt s x1).saf = s.saf ∧ (preempt s
    x1).fife = s.fife ∧ (preempt s x1).motion = s.motion ∧ (preempt s x1).hub = s.hub ∧ (preempt s x1).cal = s.cal ∧
    (preempt s x1).seq = s.seq ∧ (preempt s x1).otp = s.otp ∧ (preempt s x1).dbg = s.dbg ∧ (preempt s x1).cvu = s.cvu
    ∧ (preempt s x1).pending = s.pending := by
  simp only [preempt]; (repeat' split) <;> simp

@[simp] theorem endRasterMsg_frame (s : State) (x1 : Sys2Proof.Req) (x2 : Nat) : (endRasterMsg s x1 x2).2.otp = s.otp
    ∧ (endRasterMsg s x1 x2).2.dbg = s.dbg ∧ (endRasterMsg s x1 x2).2.cvu = s.cvu ∧ (endRasterMsg s x1 x2).2.pending =
    s.pending := by
  simp [endRasterMsg]

@[simp] theorem markCancelled_frame (s : State) (x1 : Nat) : (markCancelled s x1).rst = s.rst ∧ (markCancelled s
    x1).clk = s.clk ∧ (markCancelled s x1).pwr = s.pwr ∧ (markCancelled s x1).reed = s.reed ∧ (markCancelled s
    x1).port = s.port ∧ (markCancelled s x1).uart = s.uart ∧ (markCancelled s x1).usb = s.usb ∧ (markCancelled s
    x1).net = s.net ∧ (markCancelled s x1).params = s.params ∧ (markCancelled s x1).nvm = s.nvm ∧ (markCancelled s
    x1).log = s.log ∧ (markCancelled s x1).jobs = s.jobs ∧ (markCancelled s x1).saf = s.saf ∧ (markCancelled s
    x1).fife = s.fife ∧ (markCancelled s x1).motion = s.motion ∧ (markCancelled s x1).noz = s.noz ∧ (markCancelled s
    x1).hub = s.hub ∧ (markCancelled s x1).cal = s.cal ∧ (markCancelled s x1).seq = s.seq ∧ (markCancelled s x1).otp =
    s.otp ∧ (markCancelled s x1).dbg = s.dbg ∧ (markCancelled s x1).cvu = s.cvu ∧ (markCancelled s x1).pending =
    s.pending := by
  simp [markCancelled]

@[simp] theorem releaseJob_frame (s : State) (x1 : Job) : (releaseJob s x1).net = s.net ∧ (releaseJob s x1).otp =
    s.otp ∧ (releaseJob s x1).dbg = s.dbg ∧ (releaseJob s x1).cvu = s.cvu ∧ (releaseJob s x1).pending = s.pending :=
    by
  simp [releaseJob]

@[simp] theorem ringAppend_frame (s : State) (x1 : List Event) : (ringAppend s x1).rst = s.rst ∧ (ringAppend s x1).clk
    = s.clk ∧ (ringAppend s x1).pwr = s.pwr ∧ (ringAppend s x1).reed = s.reed ∧ (ringAppend s x1).port = s.port ∧
    (ringAppend s x1).uart = s.uart ∧ (ringAppend s x1).usb = s.usb ∧ (ringAppend s x1).net = s.net ∧ (ringAppend s
    x1).ctxs = s.ctxs ∧ (ringAppend s x1).params = s.params ∧ (ringAppend s x1).jobs = s.jobs ∧ (ringAppend s x1).saf
    = s.saf ∧ (ringAppend s x1).fife = s.fife ∧ (ringAppend s x1).motion = s.motion ∧ (ringAppend s x1).noz = s.noz ∧
    (ringAppend s x1).hub = s.hub ∧ (ringAppend s x1).cal = s.cal ∧ (ringAppend s x1).seq = s.seq ∧ (ringAppend s
    x1).otp = s.otp ∧ (ringAppend s x1).dbg = s.dbg ∧ (ringAppend s x1).pending = s.pending := by
  simp [ringAppend]

@[simp] theorem ringPut_frame (x0 : Nat) (s : State) (x2 : List Event) : (ringPut x0 s x2).rst = s.rst ∧ (ringPut x0 s
    x2).clk = s.clk ∧ (ringPut x0 s x2).pwr = s.pwr ∧ (ringPut x0 s x2).reed = s.reed ∧ (ringPut x0 s x2).port =
    s.port ∧ (ringPut x0 s x2).uart = s.uart ∧ (ringPut x0 s x2).usb = s.usb ∧ (ringPut x0 s x2).net = s.net ∧
    (ringPut x0 s x2).ctxs = s.ctxs ∧ (ringPut x0 s x2).params = s.params ∧ (ringPut x0 s x2).jobs = s.jobs ∧ (ringPut
    x0 s x2).saf = s.saf ∧ (ringPut x0 s x2).fife = s.fife ∧ (ringPut x0 s x2).motion = s.motion ∧ (ringPut x0 s
    x2).noz = s.noz ∧ (ringPut x0 s x2).hub = s.hub ∧ (ringPut x0 s x2).cal = s.cal ∧ (ringPut x0 s x2).seq = s.seq ∧
    (ringPut x0 s x2).otp = s.otp ∧ (ringPut x0 s x2).dbg = s.dbg ∧ (ringPut x0 s x2).pending = s.pending := by
  induction x0 generalizing s x2 with
  | zero => cases x2 <;> simp [ringPut]
  | succ k ih =>
    cases x2 with
    | nil => simp [ringPut]
    | cons e es =>
      have h := writePage_frame 257 s (0xA00 + s.log.next.toNat % 16384 / 8)
      simp only [ringPut]
      split <;> rename_i hs <;> rw [hs] at h <;> simp_all

@[simp] theorem flushLog_frame (s : State) : (flushLog s).rst = s.rst ∧ (flushLog s).clk = s.clk ∧ (flushLog s).pwr =
    s.pwr ∧ (flushLog s).reed = s.reed ∧ (flushLog s).port = s.port ∧ (flushLog s).uart = s.uart ∧ (flushLog s).usb =
    s.usb ∧ (flushLog s).net = s.net ∧ (flushLog s).ctxs = s.ctxs ∧ (flushLog s).params = s.params ∧ (flushLog s).jobs
    = s.jobs ∧ (flushLog s).saf = s.saf ∧ (flushLog s).fife = s.fife ∧ (flushLog s).motion = s.motion ∧ (flushLog
    s).noz = s.noz ∧ (flushLog s).hub = s.hub ∧ (flushLog s).cal = s.cal ∧ (flushLog s).seq = s.seq ∧ (flushLog s).otp
    = s.otp ∧ (flushLog s).dbg = s.dbg ∧ (flushLog s).pending = s.pending := by
  simp [flushLog]

@[simp] theorem writeLogCtrl_frame (s : State) : (writeLogCtrl s).rst = s.rst ∧ (writeLogCtrl s).clk = s.clk ∧
    (writeLogCtrl s).pwr = s.pwr ∧ (writeLogCtrl s).reed = s.reed ∧ (writeLogCtrl s).port = s.port ∧ (writeLogCtrl
    s).uart = s.uart ∧ (writeLogCtrl s).usb = s.usb ∧ (writeLogCtrl s).net = s.net ∧ (writeLogCtrl s).ctxs = s.ctxs ∧
    (writeLogCtrl s).params = s.params ∧ (writeLogCtrl s).jobs = s.jobs ∧ (writeLogCtrl s).saf = s.saf ∧ (writeLogCtrl
    s).fife = s.fife ∧ (writeLogCtrl s).motion = s.motion ∧ (writeLogCtrl s).noz = s.noz ∧ (writeLogCtrl s).hub =
    s.hub ∧ (writeLogCtrl s).cal = s.cal ∧ (writeLogCtrl s).seq = s.seq ∧ (writeLogCtrl s).otp = s.otp ∧ (writeLogCtrl
    s).dbg = s.dbg ∧ (writeLogCtrl s).pending = s.pending := by
  simp [writeLogCtrl]

@[simp] theorem setPort_frame (s : State) (x1 : HostPort → HostPort) : (setPort s x1).rst = s.rst ∧ (setPort s x1).clk
    = s.clk ∧ (setPort s x1).pwr = s.pwr ∧ (setPort s x1).reed = s.reed ∧ (setPort s x1).uart = s.uart ∧ (setPort s
    x1).usb = s.usb ∧ (setPort s x1).net = s.net ∧ (setPort s x1).ctxs = s.ctxs ∧ (setPort s x1).params = s.params ∧
    (setPort s x1).nvm = s.nvm ∧ (setPort s x1).log = s.log ∧ (setPort s x1).jobs = s.jobs ∧ (setPort s x1).saf =
    s.saf ∧ (setPort s x1).fife = s.fife ∧ (setPort s x1).motion = s.motion ∧ (setPort s x1).noz = s.noz ∧ (setPort s
    x1).hub = s.hub ∧ (setPort s x1).cal = s.cal ∧ (setPort s x1).seq = s.seq ∧ (setPort s x1).otp = s.otp ∧ (setPort
    s x1).dbg = s.dbg ∧ (setPort s x1).cvu = s.cvu ∧ (setPort s x1).pending = s.pending := by
  simp [setPort]

@[simp] theorem putDataIn_frame (s : State) (x1 : Sys2Proof.Byte) : (putDataIn s x1).rst = s.rst ∧ (putDataIn s
    x1).clk = s.clk ∧ (putDataIn s x1).pwr = s.pwr ∧ (putDataIn s x1).reed = s.reed ∧ (putDataIn s x1).uart = s.uart ∧
    (putDataIn s x1).usb = s.usb ∧ (putDataIn s x1).net = s.net ∧ (putDataIn s x1).ctxs = s.ctxs ∧ (putDataIn s
    x1).params = s.params ∧ (putDataIn s x1).nvm = s.nvm ∧ (putDataIn s x1).log = s.log ∧ (putDataIn s x1).jobs =
    s.jobs ∧ (putDataIn s x1).saf = s.saf ∧ (putDataIn s x1).fife = s.fife ∧ (putDataIn s x1).motion = s.motion ∧
    (putDataIn s x1).noz = s.noz ∧ (putDataIn s x1).hub = s.hub ∧ (putDataIn s x1).cal = s.cal ∧ (putDataIn s x1).seq
    = s.seq ∧ (putDataIn s x1).otp = s.otp ∧ (putDataIn s x1).dbg = s.dbg ∧ (putDataIn s x1).cvu = s.cvu ∧ (putDataIn
    s x1).pending = s.pending := by
  simp [putDataIn]

@[simp] theorem clearIrq_frame (s : State) (x1 : Sys2Proof.Byte) : (clearIrq s x1).rst = s.rst ∧ (clearIrq s x1).clk =
    s.clk ∧ (clearIrq s x1).pwr = s.pwr ∧ (clearIrq s x1).reed = s.reed ∧ (clearIrq s x1).uart = s.uart ∧ (clearIrq s
    x1).usb = s.usb ∧ (clearIrq s x1).net = s.net ∧ (clearIrq s x1).ctxs = s.ctxs ∧ (clearIrq s x1).params = s.params
    ∧ (clearIrq s x1).nvm = s.nvm ∧ (clearIrq s x1).log = s.log ∧ (clearIrq s x1).jobs = s.jobs ∧ (clearIrq s x1).saf
    = s.saf ∧ (clearIrq s x1).fife = s.fife ∧ (clearIrq s x1).motion = s.motion ∧ (clearIrq s x1).noz = s.noz ∧
    (clearIrq s x1).hub = s.hub ∧ (clearIrq s x1).cal = s.cal ∧ (clearIrq s x1).seq = s.seq ∧ (clearIrq s x1).otp =
    s.otp ∧ (clearIrq s x1).dbg = s.dbg ∧ (clearIrq s x1).cvu = s.cvu ∧ (clearIrq s x1).pending = s.pending := by
  simp [clearIrq]

@[simp] theorem flushIn_frame (s : State) : (flushIn s).rst = s.rst ∧ (flushIn s).clk = s.clk ∧ (flushIn s).pwr =
    s.pwr ∧ (flushIn s).reed = s.reed ∧ (flushIn s).uart = s.uart ∧ (flushIn s).usb = s.usb ∧ (flushIn s).net = s.net
    ∧ (flushIn s).ctxs = s.ctxs ∧ (flushIn s).params = s.params ∧ (flushIn s).nvm = s.nvm ∧ (flushIn s).log = s.log ∧
    (flushIn s).jobs = s.jobs ∧ (flushIn s).saf = s.saf ∧ (flushIn s).fife = s.fife ∧ (flushIn s).motion = s.motion ∧
    (flushIn s).noz = s.noz ∧ (flushIn s).hub = s.hub ∧ (flushIn s).cal = s.cal ∧ (flushIn s).seq = s.seq ∧ (flushIn
    s).otp = s.otp ∧ (flushIn s).dbg = s.dbg ∧ (flushIn s).cvu = s.cvu ∧ (flushIn s).pending = s.pending := by
  simp [flushIn]

@[simp] theorem rewindOut_frame (s : State) : (rewindOut s).rst = s.rst ∧ (rewindOut s).clk = s.clk ∧ (rewindOut
    s).pwr = s.pwr ∧ (rewindOut s).reed = s.reed ∧ (rewindOut s).uart = s.uart ∧ (rewindOut s).usb = s.usb ∧
    (rewindOut s).net = s.net ∧ (rewindOut s).ctxs = s.ctxs ∧ (rewindOut s).params = s.params ∧ (rewindOut s).nvm =
    s.nvm ∧ (rewindOut s).log = s.log ∧ (rewindOut s).jobs = s.jobs ∧ (rewindOut s).saf = s.saf ∧ (rewindOut s).fife =
    s.fife ∧ (rewindOut s).motion = s.motion ∧ (rewindOut s).noz = s.noz ∧ (rewindOut s).hub = s.hub ∧ (rewindOut
    s).cal = s.cal ∧ (rewindOut s).seq = s.seq ∧ (rewindOut s).otp = s.otp ∧ (rewindOut s).dbg = s.dbg ∧ (rewindOut
    s).cvu = s.cvu ∧ (rewindOut s).pending = s.pending := by
  simp [rewindOut]

@[simp] theorem ringDoorbell_frame (s : State) (x1 : Sys2Proof.Byte) : (ringDoorbell s x1).rst = s.rst ∧ (ringDoorbell
    s x1).clk = s.clk ∧ (ringDoorbell s x1).pwr = s.pwr ∧ (ringDoorbell s x1).reed = s.reed ∧ (ringDoorbell s x1).uart
    = s.uart ∧ (ringDoorbell s x1).usb = s.usb ∧ (ringDoorbell s x1).net = s.net ∧ (ringDoorbell s x1).ctxs = s.ctxs ∧
    (ringDoorbell s x1).params = s.params ∧ (ringDoorbell s x1).nvm = s.nvm ∧ (ringDoorbell s x1).log = s.log ∧
    (ringDoorbell s x1).jobs = s.jobs ∧ (ringDoorbell s x1).saf = s.saf ∧ (ringDoorbell s x1).fife = s.fife ∧
    (ringDoorbell s x1).motion = s.motion ∧ (ringDoorbell s x1).noz = s.noz ∧ (ringDoorbell s x1).hub = s.hub ∧
    (ringDoorbell s x1).cal = s.cal ∧ (ringDoorbell s x1).seq = s.seq ∧ (ringDoorbell s x1).otp = s.otp ∧
    (ringDoorbell s x1).dbg = s.dbg ∧ (ringDoorbell s x1).cvu = s.cvu ∧ (ringDoorbell s x1).pending = s.pending := by
  simp [ringDoorbell]

@[simp] theorem reedRead_frame (s : State) (x1 : Sys2Proof.Byte) (x2 : Sys2Proof.Byte) (x3 : List Sys2Proof.Byte) (x4
    : Nat) : (reedRead s x1 x2 x3 x4).pending = s.pending := by
  simp [reedRead]

@[simp] theorem uartTaken_frame (s : State) : (uartTaken s).rst = s.rst ∧ (uartTaken s).clk = s.clk ∧ (uartTaken
    s).pwr = s.pwr ∧ (uartTaken s).reed = s.reed ∧ (uartTaken s).port = s.port ∧ (uartTaken s).usb = s.usb ∧
    (uartTaken s).net = s.net ∧ (uartTaken s).ctxs = s.ctxs ∧ (uartTaken s).params = s.params ∧ (uartTaken s).nvm =
    s.nvm ∧ (uartTaken s).log = s.log ∧ (uartTaken s).jobs = s.jobs ∧ (uartTaken s).saf = s.saf ∧ (uartTaken s).fife =
    s.fife ∧ (uartTaken s).motion = s.motion ∧ (uartTaken s).noz = s.noz ∧ (uartTaken s).hub = s.hub ∧ (uartTaken
    s).cal = s.cal ∧ (uartTaken s).seq = s.seq ∧ (uartTaken s).otp = s.otp ∧ (uartTaken s).dbg = s.dbg ∧ (uartTaken
    s).cvu = s.cvu ∧ (uartTaken s).pending = s.pending := by
  simp [uartTaken]

@[simp] theorem setUsb_frame (s : State) (x1 : Usb → Usb) : (setUsb s x1).rst = s.rst ∧ (setUsb s x1).clk = s.clk ∧
    (setUsb s x1).pwr = s.pwr ∧ (setUsb s x1).reed = s.reed ∧ (setUsb s x1).port = s.port ∧ (setUsb s x1).uart =
    s.uart ∧ (setUsb s x1).net = s.net ∧ (setUsb s x1).ctxs = s.ctxs ∧ (setUsb s x1).params = s.params ∧ (setUsb s
    x1).nvm = s.nvm ∧ (setUsb s x1).log = s.log ∧ (setUsb s x1).jobs = s.jobs ∧ (setUsb s x1).saf = s.saf ∧ (setUsb s
    x1).fife = s.fife ∧ (setUsb s x1).motion = s.motion ∧ (setUsb s x1).noz = s.noz ∧ (setUsb s x1).hub = s.hub ∧
    (setUsb s x1).cal = s.cal ∧ (setUsb s x1).seq = s.seq ∧ (setUsb s x1).otp = s.otp ∧ (setUsb s x1).dbg = s.dbg ∧
    (setUsb s x1).cvu = s.cvu ∧ (setUsb s x1).pending = s.pending := by
  simp [setUsb]

@[simp] theorem usbEvent_frame (s : State) : (usbEvent s).clk = s.clk ∧ (usbEvent s).reed = s.reed ∧ (usbEvent s).port
    = s.port ∧ (usbEvent s).uart = s.uart ∧ (usbEvent s).usb = s.usb ∧ (usbEvent s).net = s.net ∧ (usbEvent s).ctxs =
    s.ctxs ∧ (usbEvent s).params = s.params ∧ (usbEvent s).nvm = s.nvm ∧ (usbEvent s).jobs = s.jobs ∧ (usbEvent s).saf
    = s.saf ∧ (usbEvent s).fife = s.fife ∧ (usbEvent s).noz = s.noz ∧ (usbEvent s).hub = s.hub ∧ (usbEvent s).cal =
    s.cal ∧ (usbEvent s).seq = s.seq ∧ (usbEvent s).otp = s.otp ∧ (usbEvent s).dbg = s.dbg ∧ (usbEvent s).cvu = s.cvu
    ∧ (usbEvent s).pending = s.pending := by
  simp [usbEvent]

@[simp] theorem setNet_frame (s : State) (x1 : Net → Net) : (setNet s x1).rst = s.rst ∧ (setNet s x1).clk = s.clk ∧
    (setNet s x1).pwr = s.pwr ∧ (setNet s x1).reed = s.reed ∧ (setNet s x1).port = s.port ∧ (setNet s x1).uart =
    s.uart ∧ (setNet s x1).usb = s.usb ∧ (setNet s x1).ctxs = s.ctxs ∧ (setNet s x1).params = s.params ∧ (setNet s
    x1).nvm = s.nvm ∧ (setNet s x1).log = s.log ∧ (setNet s x1).jobs = s.jobs ∧ (setNet s x1).saf = s.saf ∧ (setNet s
    x1).fife = s.fife ∧ (setNet s x1).motion = s.motion ∧ (setNet s x1).noz = s.noz ∧ (setNet s x1).hub = s.hub ∧
    (setNet s x1).cal = s.cal ∧ (setNet s x1).seq = s.seq ∧ (setNet s x1).otp = s.otp ∧ (setNet s x1).dbg = s.dbg ∧
    (setNet s x1).cvu = s.cvu ∧ (setNet s x1).pending = s.pending := by
  simp [setNet]

@[simp] theorem endOnAddress_frame (s : State) (x1 : Sys2Proof.IpAddr) : (endOnAddress s x1).rst = s.rst ∧
    (endOnAddress s x1).clk = s.clk ∧ (endOnAddress s x1).pwr = s.pwr ∧ (endOnAddress s x1).reed = s.reed ∧
    (endOnAddress s x1).uart = s.uart ∧ (endOnAddress s x1).params = s.params ∧ (endOnAddress s x1).log = s.log ∧
    (endOnAddress s x1).saf = s.saf ∧ (endOnAddress s x1).fife = s.fife ∧ (endOnAddress s x1).motion = s.motion ∧
    (endOnAddress s x1).hub = s.hub ∧ (endOnAddress s x1).cal = s.cal ∧ (endOnAddress s x1).seq = s.seq ∧
    (endOnAddress s x1).otp = s.otp ∧ (endOnAddress s x1).dbg = s.dbg ∧ (endOnAddress s x1).cvu = s.cvu ∧
    (endOnAddress s x1).pending = s.pending := by
  simp [endOnAddress]

@[simp] theorem bindAddress_frame (s : State) (x1 : Sys2Proof.AddrEvent) : (bindAddress s x1).rst = s.rst ∧
    (bindAddress s x1).clk = s.clk ∧ (bindAddress s x1).pwr = s.pwr ∧ (bindAddress s x1).reed = s.reed ∧ (bindAddress
    s x1).port = s.port ∧ (bindAddress s x1).uart = s.uart ∧ (bindAddress s x1).usb = s.usb ∧ (bindAddress s x1).ctxs
    = s.ctxs ∧ (bindAddress s x1).params = s.params ∧ (bindAddress s x1).nvm = s.nvm ∧ (bindAddress s x1).log = s.log
    ∧ (bindAddress s x1).jobs = s.jobs ∧ (bindAddress s x1).saf = s.saf ∧ (bindAddress s x1).fife = s.fife ∧
    (bindAddress s x1).motion = s.motion ∧ (bindAddress s x1).noz = s.noz ∧ (bindAddress s x1).hub = s.hub ∧
    (bindAddress s x1).cal = s.cal ∧ (bindAddress s x1).seq = s.seq ∧ (bindAddress s x1).otp = s.otp ∧ (bindAddress s
    x1).dbg = s.dbg ∧ (bindAddress s x1).cvu = s.cvu ∧ (bindAddress s x1).pending = s.pending := by
  simp [bindAddress]

@[simp] theorem lldpGone_frame (s : State) : (lldpGone s).rst = s.rst ∧ (lldpGone s).clk = s.clk ∧ (lldpGone s).pwr =
    s.pwr ∧ (lldpGone s).reed = s.reed ∧ (lldpGone s).uart = s.uart ∧ (lldpGone s).params = s.params ∧ (lldpGone
    s).nvm = s.nvm ∧ (lldpGone s).jobs = s.jobs ∧ (lldpGone s).fife = s.fife ∧ (lldpGone s).motion = s.motion ∧
    (lldpGone s).noz = s.noz ∧ (lldpGone s).hub = s.hub ∧ (lldpGone s).cal = s.cal ∧ (lldpGone s).seq = s.seq ∧
    (lldpGone s).otp = s.otp ∧ (lldpGone s).dbg = s.dbg ∧ (lldpGone s).cvu = s.cvu ∧ (lldpGone s).pending = s.pending
    := by
  simp [lldpGone]

@[simp] theorem modConn_frame (s : State) (x1 : Nat) (x2 : Conn → Conn) : (modConn s x1 x2).rst = s.rst ∧ (modConn s
    x1 x2).clk = s.clk ∧ (modConn s x1 x2).pwr = s.pwr ∧ (modConn s x1 x2).reed = s.reed ∧ (modConn s x1 x2).port =
    s.port ∧ (modConn s x1 x2).uart = s.uart ∧ (modConn s x1 x2).usb = s.usb ∧ (modConn s x1 x2).ctxs = s.ctxs ∧
    (modConn s x1 x2).params = s.params ∧ (modConn s x1 x2).nvm = s.nvm ∧ (modConn s x1 x2).log = s.log ∧ (modConn s
    x1 x2).jobs = s.jobs ∧ (modConn s x1 x2).saf = s.saf ∧ (modConn s x1 x2).fife = s.fife ∧ (modConn s x1 x2).motion
    = s.motion ∧ (modConn s x1 x2).noz = s.noz ∧ (modConn s x1 x2).hub = s.hub ∧ (modConn s x1 x2).cal = s.cal ∧
    (modConn s x1 x2).seq = s.seq ∧ (modConn s x1 x2).otp = s.otp ∧ (modConn s x1 x2).dbg = s.dbg ∧ (modConn s x1
    x2).cvu = s.cvu ∧ (modConn s x1 x2).pending = s.pending := by
  simp [modConn]

@[simp] theorem sessionOpened_frame (x0 : Sys2Proof.Req) (x1 : Option Conn) (x2 : Session) (s : State) :
    (sessionOpened x0 x1 x2 s).rst = s.rst ∧ (sessionOpened x0 x1 x2 s).clk = s.clk ∧ (sessionOpened x0 x1 x2 s).pwr =
    s.pwr ∧ (sessionOpened x0 x1 x2 s).reed = s.reed ∧ (sessionOpened x0 x1 x2 s).uart = s.uart ∧ (sessionOpened x0 x1
    x2 s).params = s.params ∧ (sessionOpened x0 x1 x2 s).log = s.log ∧ (sessionOpened x0 x1 x2 s).saf = s.saf ∧
    (sessionOpened x0 x1 x2 s).fife = s.fife ∧ (sessionOpened x0 x1 x2 s).motion = s.motion ∧ (sessionOpened x0 x1 x2
    s).hub = s.hub ∧ (sessionOpened x0 x1 x2 s).cal = s.cal ∧ (sessionOpened x0 x1 x2 s).seq = s.seq ∧ (sessionOpened
    x0 x1 x2 s).otp = s.otp ∧ (sessionOpened x0 x1 x2 s).dbg = s.dbg ∧ (sessionOpened x0 x1 x2 s).cvu = s.cvu ∧
    (sessionOpened x0 x1 x2 s).pending = s.pending := by
  simp only [sessionOpened]; (repeat' split) <;> simp

@[simp] theorem eeeActive_frame (s : State) : (eeeActive s).2.rst = s.rst ∧ (eeeActive s).2.pwr = s.pwr ∧ (eeeActive
    s).2.reed = s.reed ∧ (eeeActive s).2.port = s.port ∧ (eeeActive s).2.uart = s.uart ∧ (eeeActive s).2.usb = s.usb ∧
    (eeeActive s).2.net = s.net ∧ (eeeActive s).2.ctxs = s.ctxs ∧ (eeeActive s).2.params = s.params ∧ (eeeActive
    s).2.nvm = s.nvm ∧ (eeeActive s).2.log = s.log ∧ (eeeActive s).2.jobs = s.jobs ∧ (eeeActive s).2.saf = s.saf ∧
    (eeeActive s).2.fife = s.fife ∧ (eeeActive s).2.motion = s.motion ∧ (eeeActive s).2.noz = s.noz ∧ (eeeActive
    s).2.hub = s.hub ∧ (eeeActive s).2.cal = s.cal ∧ (eeeActive s).2.seq = s.seq ∧ (eeeActive s).2.otp = s.otp ∧
    (eeeActive s).2.dbg = s.dbg ∧ (eeeActive s).2.cvu = s.cvu ∧ (eeeActive s).2.pending = s.pending := by
  simp [eeeActive]

@[simp] theorem addAction_frame (s : State) (x1 : Sys2Proof.Half) (x2 : Sys2Proof.Req) : (addAction s x1 x2).rst =
    s.rst ∧ (addAction s x1 x2).clk = s.clk ∧ (addAction s x1 x2).pwr = s.pwr ∧ (addAction s x1 x2).reed = s.reed ∧
    (addAction s x1 x2).port = s.port ∧ (addAction s x1 x2).uart = s.uart ∧ (addAction s x1 x2).usb = s.usb ∧
    (addAction s x1 x2).net = s.net ∧ (addAction s x1 x2).ctxs = s.ctxs ∧ (addAction s x1 x2).params = s.params ∧
    (addAction s x1 x2).nvm = s.nvm ∧ (addAction s x1 x2).log = s.log ∧ (addAction s x1 x2).jobs = s.jobs ∧ (addAction
    s x1 x2).fife = s.fife ∧ (addAction s x1 x2).motion = s.motion ∧ (addAction s x1 x2).noz = s.noz ∧ (addAction s x1
    x2).hub = s.hub ∧ (addAction s x1 x2).cal = s.cal ∧ (addAction s x1 x2).seq = s.seq ∧ (addAction s x1 x2).otp =
    s.otp ∧ (addAction s x1 x2).dbg = s.dbg ∧ (addAction s x1 x2).cvu = s.cvu ∧ (addAction s x1 x2).pending =
    s.pending := by
  simp [addAction]

@[simp] theorem programCopy_frame (s : State) (x1 : Nat) (x2 : Nat) : (programCopy s x1 x2).2.rst = s.rst ∧
    (programCopy s x1 x2).2.clk = s.clk ∧ (programCopy s x1 x2).2.pwr = s.pwr ∧ (programCopy s x1 x2).2.reed = s.reed
    ∧ (programCopy s x1 x2).2.uart = s.uart ∧ (programCopy s x1 x2).2.params = s.params ∧ (programCopy s x1 x2).2.nvm
    = s.nvm ∧ (programCopy s x1 x2).2.jobs = s.jobs ∧ (programCopy s x1 x2).2.fife = s.fife ∧ (programCopy s x1
    x2).2.motion = s.motion ∧ (programCopy s x1 x2).2.noz = s.noz ∧ (programCopy s x1 x2).2.hub = s.hub ∧ (programCopy
    s x1 x2).2.seq = s.seq ∧ (programCopy s x1 x2).2.dbg = s.dbg ∧ (programCopy s x1 x2).2.cvu = s.cvu ∧ (programCopy
    s x1 x2).2.pending = s.pending := by
  simp only [programCopy]; (repeat' split) <;> (first | rfl | (simp; done) | (rename_i hs; have h := congrArg Prod.snd hs; simp only at h; subst h; simp; done))

@[simp] theorem programEntry_frame (s : State) (x1 : Nat) (x2 : Sys2Proof.Byte) (x3 : Sys2Proof.Byte) : (programEntry
    s x1 x2 x3).2.rst = s.rst ∧ (programEntry s x1 x2 x3).2.clk = s.clk ∧ (programEntry s x1 x2 x3).2.pwr = s.pwr ∧
    (programEntry s x1 x2 x3).2.reed = s.reed ∧ (programEntry s x1 x2 x3).2.uart = s.uart ∧ (programEntry s x1 x2
    x3).2.params = s.params ∧ (programEntry s x1 x2 x3).2.nvm = s.nvm ∧ (programEntry s x1 x2 x3).2.jobs = s.jobs ∧
    (programEntry s x1 x2 x3).2.fife = s.fife ∧ (programEntry s x1 x2 x3).2.motion = s.motion ∧ (programEntry s x1 x2
    x3).2.noz = s.noz ∧ (programEntry s x1 x2 x3).2.hub = s.hub ∧ (programEntry s x1 x2 x3).2.seq = s.seq ∧
    (programEntry s x1 x2 x3).2.dbg = s.dbg ∧ (programEntry s x1 x2 x3).2.cvu = s.cvu ∧ (programEntry s x1 x2
    x3).2.pending = s.pending := by
  simp [programEntry]

@[simp] theorem advanceTo_frame (s : State) (x1 : Nat) (x2 : Sys2Proof.Byte) (x3 : Sys2Proof.Byte) : (advanceTo s x1
    x2 x3).2.rst = s.rst ∧ (advanceTo s x1 x2 x3).2.clk = s.clk ∧ (advanceTo s x1 x2 x3).2.pwr = s.pwr ∧ (advanceTo s
    x1 x2 x3).2.reed = s.reed ∧ (advanceTo s x1 x2 x3).2.uart = s.uart ∧ (advanceTo s x1 x2 x3).2.params = s.params ∧
    (advanceTo s x1 x2 x3).2.nvm = s.nvm ∧ (advanceTo s x1 x2 x3).2.jobs = s.jobs ∧ (advanceTo s x1 x2 x3).2.fife =
    s.fife ∧ (advanceTo s x1 x2 x3).2.motion = s.motion ∧ (advanceTo s x1 x2 x3).2.noz = s.noz ∧ (advanceTo s x1 x2
    x3).2.hub = s.hub ∧ (advanceTo s x1 x2 x3).2.seq = s.seq ∧ (advanceTo s x1 x2 x3).2.dbg = s.dbg ∧ (advanceTo s x1
    x2 x3).2.cvu = s.cvu ∧ (advanceTo s x1 x2 x3).2.pending = s.pending := by
  simp only [advanceTo]; (repeat' split) <;> simp

@[simp] theorem addWaiter_frame (s : State) (x1 : Sys2Proof.Half) (x2 : Sys2Proof.Req) : (addWaiter s x1 x2).rst =
    s.rst ∧ (addWaiter s x1 x2).clk = s.clk ∧ (addWaiter s x1 x2).pwr = s.pwr ∧ (addWaiter s x1 x2).reed = s.reed ∧
    (addWaiter s x1 x2).port = s.port ∧ (addWaiter s x1 x2).uart = s.uart ∧ (addWaiter s x1 x2).usb = s.usb ∧
    (addWaiter s x1 x2).net = s.net ∧ (addWaiter s x1 x2).ctxs = s.ctxs ∧ (addWaiter s x1 x2).params = s.params ∧
    (addWaiter s x1 x2).nvm = s.nvm ∧ (addWaiter s x1 x2).log = s.log ∧ (addWaiter s x1 x2).jobs = s.jobs ∧ (addWaiter
    s x1 x2).saf = s.saf ∧ (addWaiter s x1 x2).fife = s.fife ∧ (addWaiter s x1 x2).motion = s.motion ∧ (addWaiter s x1
    x2).noz = s.noz ∧ (addWaiter s x1 x2).hub = s.hub ∧ (addWaiter s x1 x2).cal = s.cal ∧ (addWaiter s x1 x2).otp =
    s.otp ∧ (addWaiter s x1 x2).dbg = s.dbg ∧ (addWaiter s x1 x2).cvu = s.cvu ∧ (addWaiter s x1 x2).pending =
    s.pending := by
  simp [addWaiter]

@[simp] theorem reenable_frame (s : State) (x1 : Nat) : (reenable s x1).rst = s.rst ∧ (reenable s x1).clk = s.clk ∧
    (reenable s x1).pwr = s.pwr ∧ (reenable s x1).reed = s.reed ∧ (reenable s x1).port = s.port ∧ (reenable s x1).uart
    = s.uart ∧ (reenable s x1).usb = s.usb ∧ (reenable s x1).net = s.net ∧ (reenable s x1).ctxs = s.ctxs ∧ (reenable s
    x1).params = s.params ∧ (reenable s x1).nvm = s.nvm ∧ (reenable s x1).log = s.log ∧ (reenable s x1).jobs = s.jobs
    ∧ (reenable s x1).saf = s.saf ∧ (reenable s x1).motion = s.motion ∧ (reenable s x1).noz = s.noz ∧ (reenable s
    x1).hub = s.hub ∧ (reenable s x1).cal = s.cal ∧ (reenable s x1).otp = s.otp ∧ (reenable s x1).dbg = s.dbg ∧
    (reenable s x1).cvu = s.cvu ∧ (reenable s x1).pending = s.pending := by
  simp [reenable]

@[simp] theorem outcomeStands_frame (s : State) : (outcomeStands s).rst = s.rst ∧ (outcomeStands s).clk = s.clk ∧
    (outcomeStands s).pwr = s.pwr ∧ (outcomeStands s).reed = s.reed ∧ (outcomeStands s).uart = s.uart ∧ (outcomeStands
    s).net = s.net ∧ (outcomeStands s).params = s.params ∧ (outcomeStands s).nvm = s.nvm ∧ (outcomeStands s).log =
    s.log ∧ (outcomeStands s).jobs = s.jobs ∧ (outcomeStands s).saf = s.saf ∧ (outcomeStands s).fife = s.fife ∧
    (outcomeStands s).motion = s.motion ∧ (outcomeStands s).noz = s.noz ∧ (outcomeStands s).hub = s.hub ∧
    (outcomeStands s).cal = s.cal ∧ (outcomeStands s).otp = s.otp ∧ (outcomeStands s).dbg = s.dbg ∧ (outcomeStands
    s).cvu = s.cvu ∧ (outcomeStands s).pending = s.pending := by
  simp [outcomeStands]

@[simp] theorem putProfile_frame (s : State) (x1 : Nat) (x2 : List Sys2Proof.Byte) (x3 : Option Nat) : (putProfile s
    x1 x2 x3).2.rst = s.rst ∧ (putProfile s x1 x2 x3).2.clk = s.clk ∧ (putProfile s x1 x2 x3).2.pwr = s.pwr ∧
    (putProfile s x1 x2 x3).2.reed = s.reed ∧ (putProfile s x1 x2 x3).2.port = s.port ∧ (putProfile s x1 x2 x3).2.uart
    = s.uart ∧ (putProfile s x1 x2 x3).2.usb = s.usb ∧ (putProfile s x1 x2 x3).2.net = s.net ∧ (putProfile s x1 x2
    x3).2.ctxs = s.ctxs ∧ (putProfile s x1 x2 x3).2.params = s.params ∧ (putProfile s x1 x2 x3).2.jobs = s.jobs ∧
    (putProfile s x1 x2 x3).2.saf = s.saf ∧ (putProfile s x1 x2 x3).2.fife = s.fife ∧ (putProfile s x1 x2 x3).2.motion
    = s.motion ∧ (putProfile s x1 x2 x3).2.noz = s.noz ∧ (putProfile s x1 x2 x3).2.hub = s.hub ∧ (putProfile s x1 x2
    x3).2.cal = s.cal ∧ (putProfile s x1 x2 x3).2.seq = s.seq ∧ (putProfile s x1 x2 x3).2.otp = s.otp ∧ (putProfile s
    x1 x2 x3).2.dbg = s.dbg ∧ (putProfile s x1 x2 x3).2.pending = s.pending := by
  simp only [putProfile]; (repeat' split) <;> (first | rfl | (simp; done) | (rename_i hs; have h := congrArg Prod.snd hs; simp only at h; subst h; simp; done))

@[simp] theorem keepStream_frame (x0 : Sys2Proof.Req) (s : State) (x2 : Nat) (x3 : List Sys2Proof.Byte) (x4 : List
    Sys2Proof.Byte) (x5 : Nat) (x6 : Nat) (x7 : Option OpenMsg) : (keepStream x0 s x2 x3 x4 x5 x6 x7).2.rst = s.rst ∧
    (keepStream x0 s x2 x3 x4 x5 x6 x7).2.clk = s.clk ∧ (keepStream x0 s x2 x3 x4 x5 x6 x7).2.pwr = s.pwr ∧
    (keepStream x0 s x2 x3 x4 x5 x6 x7).2.reed = s.reed ∧ (keepStream x0 s x2 x3 x4 x5 x6 x7).2.port = s.port ∧
    (keepStream x0 s x2 x3 x4 x5 x6 x7).2.uart = s.uart ∧ (keepStream x0 s x2 x3 x4 x5 x6 x7).2.usb = s.usb ∧
    (keepStream x0 s x2 x3 x4 x5 x6 x7).2.params = s.params ∧ (keepStream x0 s x2 x3 x4 x5 x6 x7).2.nvm = s.nvm ∧
    (keepStream x0 s x2 x3 x4 x5 x6 x7).2.log = s.log ∧ (keepStream x0 s x2 x3 x4 x5 x6 x7).2.jobs = s.jobs ∧
    (keepStream x0 s x2 x3 x4 x5 x6 x7).2.saf = s.saf ∧ (keepStream x0 s x2 x3 x4 x5 x6 x7).2.fife = s.fife ∧
    (keepStream x0 s x2 x3 x4 x5 x6 x7).2.motion = s.motion ∧ (keepStream x0 s x2 x3 x4 x5 x6 x7).2.noz = s.noz ∧
    (keepStream x0 s x2 x3 x4 x5 x6 x7).2.hub = s.hub ∧ (keepStream x0 s x2 x3 x4 x5 x6 x7).2.cal = s.cal ∧
    (keepStream x0 s x2 x3 x4 x5 x6 x7).2.seq = s.seq ∧ (keepStream x0 s x2 x3 x4 x5 x6 x7).2.otp = s.otp ∧
    (keepStream x0 s x2 x3 x4 x5 x6 x7).2.dbg = s.dbg ∧ (keepStream x0 s x2 x3 x4 x5 x6 x7).2.cvu = s.cvu ∧
    (keepStream x0 s x2 x3 x4 x5 x6 x7).2.pending = s.pending := by
  simp [keepStream]

@[simp] theorem dueMove_frame (s : State) : (dueMove s).pending = s.pending := by
  simp [dueMove]

@[simp] theorem modSlotRun_frame (s : State) (x1 : Nat) (x2 : SlotRun → SlotRun) : (modSlotRun s x1 x2).rst = s.rst ∧
    (modSlotRun s x1 x2).clk = s.clk ∧ (modSlotRun s x1 x2).pwr = s.pwr ∧ (modSlotRun s x1 x2).reed = s.reed ∧
    (modSlotRun s x1 x2).port = s.port ∧ (modSlotRun s x1 x2).uart = s.uart ∧ (modSlotRun s x1 x2).usb = s.usb ∧
    (modSlotRun s x1 x2).net = s.net ∧ (modSlotRun s x1 x2).ctxs = s.ctxs ∧ (modSlotRun s x1 x2).params = s.params ∧
    (modSlotRun s x1 x2).nvm = s.nvm ∧ (modSlotRun s x1 x2).log = s.log ∧ (modSlotRun s x1 x2).jobs = s.jobs ∧
    (modSlotRun s x1 x2).saf = s.saf ∧ (modSlotRun s x1 x2).fife = s.fife ∧ (modSlotRun s x1 x2).motion = s.motion ∧
    (modSlotRun s x1 x2).noz = s.noz ∧ (modSlotRun s x1 x2).cal = s.cal ∧ (modSlotRun s x1 x2).seq = s.seq ∧
    (modSlotRun s x1 x2).otp = s.otp ∧ (modSlotRun s x1 x2).dbg = s.dbg ∧ (modSlotRun s x1 x2).cvu = s.cvu ∧
    (modSlotRun s x1 x2).pending = s.pending := by
  simp [modSlotRun]

@[simp] theorem modDet_frame (s : State) (x1 : Nat) (x2 : DetRun → DetRun) : (modDet s x1 x2).rst = s.rst ∧ (modDet s
    x1 x2).clk = s.clk ∧ (modDet s x1 x2).pwr = s.pwr ∧ (modDet s x1 x2).reed = s.reed ∧ (modDet s x1 x2).port =
    s.port ∧ (modDet s x1 x2).uart = s.uart ∧ (modDet s x1 x2).usb = s.usb ∧ (modDet s x1 x2).net = s.net ∧ (modDet s
    x1 x2).ctxs = s.ctxs ∧ (modDet s x1 x2).params = s.params ∧ (modDet s x1 x2).nvm = s.nvm ∧ (modDet s x1 x2).log =
    s.log ∧ (modDet s x1 x2).jobs = s.jobs ∧ (modDet s x1 x2).saf = s.saf ∧ (modDet s x1 x2).fife = s.fife ∧ (modDet s
    x1 x2).motion = s.motion ∧ (modDet s x1 x2).noz = s.noz ∧ (modDet s x1 x2).cal = s.cal ∧ (modDet s x1 x2).seq =
    s.seq ∧ (modDet s x1 x2).otp = s.otp ∧ (modDet s x1 x2).dbg = s.dbg ∧ (modDet s x1 x2).cvu = s.cvu ∧ (modDet s x1
    x2).pending = s.pending := by
  simp [modDet]

@[simp] theorem pushRecord_frame (s : State) (x1 : Sys2Proof.Time) (x2 : Nat) (x3 : Nat) (x4 : Int) (x5 : Nat) :
    (pushRecord s x1 x2 x3 x4 x5).rst = s.rst ∧ (pushRecord s x1 x2 x3 x4 x5).clk = s.clk ∧ (pushRecord s x1 x2 x3 x4
    x5).pwr = s.pwr ∧ (pushRecord s x1 x2 x3 x4 x5).reed = s.reed ∧ (pushRecord s x1 x2 x3 x4 x5).port = s.port ∧
    (pushRecord s x1 x2 x3 x4 x5).uart = s.uart ∧ (pushRecord s x1 x2 x3 x4 x5).usb = s.usb ∧ (pushRecord s x1 x2 x3
    x4 x5).net = s.net ∧ (pushRecord s x1 x2 x3 x4 x5).ctxs = s.ctxs ∧ (pushRecord s x1 x2 x3 x4 x5).params = s.params
    ∧ (pushRecord s x1 x2 x3 x4 x5).nvm = s.nvm ∧ (pushRecord s x1 x2 x3 x4 x5).log = s.log ∧ (pushRecord s x1 x2 x3
    x4 x5).jobs = s.jobs ∧ (pushRecord s x1 x2 x3 x4 x5).saf = s.saf ∧ (pushRecord s x1 x2 x3 x4 x5).fife = s.fife ∧
    (pushRecord s x1 x2 x3 x4 x5).motion = s.motion ∧ (pushRecord s x1 x2 x3 x4 x5).noz = s.noz ∧ (pushRecord s x1 x2
    x3 x4 x5).cal = s.cal ∧ (pushRecord s x1 x2 x3 x4 x5).seq = s.seq ∧ (pushRecord s x1 x2 x3 x4 x5).otp = s.otp ∧
    (pushRecord s x1 x2 x3 x4 x5).dbg = s.dbg ∧ (pushRecord s x1 x2 x3 x4 x5).cvu = s.cvu ∧ (pushRecord s x1 x2 x3 x4
    x5).pending = s.pending := by
  simp [pushRecord]

@[simp] theorem writeRecordAt_frame (s : State) (x1 : Sys2Proof.Time) (x2 : Nat) (x3 : Nat) (x4 : Int) (x5 : Nat) :
    (writeRecordAt s x1 x2 x3 x4 x5).rst = s.rst ∧ (writeRecordAt s x1 x2 x3 x4 x5).clk = s.clk ∧ (writeRecordAt s x1
    x2 x3 x4 x5).pwr = s.pwr ∧ (writeRecordAt s x1 x2 x3 x4 x5).reed = s.reed ∧ (writeRecordAt s x1 x2 x3 x4 x5).port
    = s.port ∧ (writeRecordAt s x1 x2 x3 x4 x5).uart = s.uart ∧ (writeRecordAt s x1 x2 x3 x4 x5).usb = s.usb ∧
    (writeRecordAt s x1 x2 x3 x4 x5).net = s.net ∧ (writeRecordAt s x1 x2 x3 x4 x5).ctxs = s.ctxs ∧ (writeRecordAt s
    x1 x2 x3 x4 x5).params = s.params ∧ (writeRecordAt s x1 x2 x3 x4 x5).nvm = s.nvm ∧ (writeRecordAt s x1 x2 x3 x4
    x5).log = s.log ∧ (writeRecordAt s x1 x2 x3 x4 x5).jobs = s.jobs ∧ (writeRecordAt s x1 x2 x3 x4 x5).saf = s.saf ∧
    (writeRecordAt s x1 x2 x3 x4 x5).fife = s.fife ∧ (writeRecordAt s x1 x2 x3 x4 x5).motion = s.motion ∧
    (writeRecordAt s x1 x2 x3 x4 x5).noz = s.noz ∧ (writeRecordAt s x1 x2 x3 x4 x5).cal = s.cal ∧ (writeRecordAt s x1
    x2 x3 x4 x5).seq = s.seq ∧ (writeRecordAt s x1 x2 x3 x4 x5).otp = s.otp ∧ (writeRecordAt s x1 x2 x3 x4 x5).dbg =
    s.dbg ∧ (writeRecordAt s x1 x2 x3 x4 x5).cvu = s.cvu ∧ (writeRecordAt s x1 x2 x3 x4 x5).pending = s.pending := by
  simp [writeRecordAt]

@[simp] theorem restartRecord_frame (s : State) : (restartRecord s).rst = s.rst ∧ (restartRecord s).clk = s.clk ∧
    (restartRecord s).pwr = s.pwr ∧ (restartRecord s).reed = s.reed ∧ (restartRecord s).port = s.port ∧ (restartRecord
    s).uart = s.uart ∧ (restartRecord s).usb = s.usb ∧ (restartRecord s).net = s.net ∧ (restartRecord s).ctxs = s.ctxs
    ∧ (restartRecord s).params = s.params ∧ (restartRecord s).nvm = s.nvm ∧ (restartRecord s).log = s.log ∧
    (restartRecord s).jobs = s.jobs ∧ (restartRecord s).saf = s.saf ∧ (restartRecord s).fife = s.fife ∧ (restartRecord
    s).motion = s.motion ∧ (restartRecord s).noz = s.noz ∧ (restartRecord s).cal = s.cal ∧ (restartRecord s).seq =
    s.seq ∧ (restartRecord s).otp = s.otp ∧ (restartRecord s).dbg = s.dbg ∧ (restartRecord s).cvu = s.cvu ∧
    (restartRecord s).pending = s.pending := by
  simp [restartRecord]

@[simp] theorem loseSample_frame (s : State) (x1 : Nat) : (loseSample s x1).rst = s.rst ∧ (loseSample s x1).clk =
    s.clk ∧ (loseSample s x1).pwr = s.pwr ∧ (loseSample s x1).reed = s.reed ∧ (loseSample s x1).port = s.port ∧
    (loseSample s x1).uart = s.uart ∧ (loseSample s x1).usb = s.usb ∧ (loseSample s x1).net = s.net ∧ (loseSample s
    x1).ctxs = s.ctxs ∧ (loseSample s x1).params = s.params ∧ (loseSample s x1).nvm = s.nvm ∧ (loseSample s x1).jobs =
    s.jobs ∧ (loseSample s x1).saf = s.saf ∧ (loseSample s x1).fife = s.fife ∧ (loseSample s x1).motion = s.motion ∧
    (loseSample s x1).noz = s.noz ∧ (loseSample s x1).cal = s.cal ∧ (loseSample s x1).seq = s.seq ∧ (loseSample s
    x1).otp = s.otp ∧ (loseSample s x1).dbg = s.dbg ∧ (loseSample s x1).cvu = s.cvu ∧ (loseSample s x1).pending =
    s.pending := by
  simp [loseSample]

@[simp] theorem fit32_frame (s : State) (x1 : Int) : (fit32 s x1).2.rst = s.rst ∧ (fit32 s x1).2.pwr = s.pwr ∧ (fit32
    s x1).2.reed = s.reed ∧ (fit32 s x1).2.port = s.port ∧ (fit32 s x1).2.uart = s.uart ∧ (fit32 s x1).2.usb = s.usb ∧
    (fit32 s x1).2.net = s.net ∧ (fit32 s x1).2.ctxs = s.ctxs ∧ (fit32 s x1).2.params = s.params ∧ (fit32 s x1).2.nvm
    = s.nvm ∧ (fit32 s x1).2.log = s.log ∧ (fit32 s x1).2.jobs = s.jobs ∧ (fit32 s x1).2.saf = s.saf ∧ (fit32 s
    x1).2.fife = s.fife ∧ (fit32 s x1).2.motion = s.motion ∧ (fit32 s x1).2.noz = s.noz ∧ (fit32 s x1).2.hub = s.hub ∧
    (fit32 s x1).2.cal = s.cal ∧ (fit32 s x1).2.seq = s.seq ∧ (fit32 s x1).2.otp = s.otp ∧ (fit32 s x1).2.dbg = s.dbg
    ∧ (fit32 s x1).2.cvu = s.cvu ∧ (fit32 s x1).2.pending = s.pending := by
  simp [fit32]

@[simp] theorem medianOf_frame (s : State) (x1 : List Int) : (medianOf s x1).2.rst = s.rst ∧ (medianOf s x1).2.pwr =
    s.pwr ∧ (medianOf s x1).2.reed = s.reed ∧ (medianOf s x1).2.port = s.port ∧ (medianOf s x1).2.uart = s.uart ∧
    (medianOf s x1).2.usb = s.usb ∧ (medianOf s x1).2.net = s.net ∧ (medianOf s x1).2.ctxs = s.ctxs ∧ (medianOf s
    x1).2.params = s.params ∧ (medianOf s x1).2.nvm = s.nvm ∧ (medianOf s x1).2.log = s.log ∧ (medianOf s x1).2.jobs =
    s.jobs ∧ (medianOf s x1).2.saf = s.saf ∧ (medianOf s x1).2.fife = s.fife ∧ (medianOf s x1).2.motion = s.motion ∧
    (medianOf s x1).2.noz = s.noz ∧ (medianOf s x1).2.hub = s.hub ∧ (medianOf s x1).2.cal = s.cal ∧ (medianOf s
    x1).2.seq = s.seq ∧ (medianOf s x1).2.otp = s.otp ∧ (medianOf s x1).2.dbg = s.dbg ∧ (medianOf s x1).2.cvu = s.cvu
    ∧ (medianOf s x1).2.pending = s.pending := by
  simp [medianOf]

@[simp] theorem meanOf_frame (s : State) (x1 : List Int) : (meanOf s x1).2.rst = s.rst ∧ (meanOf s x1).2.pwr = s.pwr ∧
    (meanOf s x1).2.reed = s.reed ∧ (meanOf s x1).2.port = s.port ∧ (meanOf s x1).2.uart = s.uart ∧ (meanOf s
    x1).2.usb = s.usb ∧ (meanOf s x1).2.net = s.net ∧ (meanOf s x1).2.ctxs = s.ctxs ∧ (meanOf s x1).2.params =
    s.params ∧ (meanOf s x1).2.nvm = s.nvm ∧ (meanOf s x1).2.log = s.log ∧ (meanOf s x1).2.jobs = s.jobs ∧ (meanOf s
    x1).2.saf = s.saf ∧ (meanOf s x1).2.fife = s.fife ∧ (meanOf s x1).2.motion = s.motion ∧ (meanOf s x1).2.noz =
    s.noz ∧ (meanOf s x1).2.hub = s.hub ∧ (meanOf s x1).2.cal = s.cal ∧ (meanOf s x1).2.seq = s.seq ∧ (meanOf s
    x1).2.otp = s.otp ∧ (meanOf s x1).2.dbg = s.dbg ∧ (meanOf s x1).2.cvu = s.cvu ∧ (meanOf s x1).2.pending =
    s.pending := by
  simp [meanOf]

@[simp] theorem noteEdge_frame (s : State) (x1 : Nat) (x2 : Sys2Proof.Byte) (x3 : List Sys2Proof.Byte) : (noteEdge s
    x1 x2 x3).rst = s.rst ∧ (noteEdge s x1 x2 x3).clk = s.clk ∧ (noteEdge s x1 x2 x3).pwr = s.pwr ∧ (noteEdge s x1 x2
    x3).reed = s.reed ∧ (noteEdge s x1 x2 x3).uart = s.uart ∧ (noteEdge s x1 x2 x3).net = s.net ∧ (noteEdge s x1 x2
    x3).params = s.params ∧ (noteEdge s x1 x2 x3).nvm = s.nvm ∧ (noteEdge s x1 x2 x3).jobs = s.jobs ∧ (noteEdge s x1
    x2 x3).saf = s.saf ∧ (noteEdge s x1 x2 x3).fife = s.fife ∧ (noteEdge s x1 x2 x3).motion = s.motion ∧ (noteEdge s
    x1 x2 x3).noz = s.noz ∧ (noteEdge s x1 x2 x3).cal = s.cal ∧ (noteEdge s x1 x2 x3).seq = s.seq ∧ (noteEdge s x1 x2
    x3).otp = s.otp ∧ (noteEdge s x1 x2 x3).dbg = s.dbg ∧ (noteEdge s x1 x2 x3).cvu = s.cvu ∧ (noteEdge s x1 x2
    x3).pending = s.pending := by
  simp [noteEdge]

@[simp] theorem detDischarge_frame (s : State) (x1 : Sys2Proof.Byte) : (detDischarge s x1).rst = s.rst ∧ (detDischarge
    s x1).pwr = s.pwr ∧ (detDischarge s x1).reed = s.reed ∧ (detDischarge s x1).uart = s.uart ∧ (detDischarge s
    x1).net = s.net ∧ (detDischarge s x1).otp = s.otp ∧ (detDischarge s x1).dbg = s.dbg ∧ (detDischarge s x1).pending
    = s.pending := by
  simp [detDischarge]

@[simp] theorem edgeWork_frame (s : State) (x1 : Nat) (x2 : Bool) (x3 : Int) (x4 : Sys2Proof.Time) (x5 : Bool) :
    (edgeWork s x1 x2 x3 x4 x5).pending = s.pending := by
  simp [edgeWork]

@[simp] theorem markEdge_frame (s : State) (x1 : Nat) (x2 : Bool) : (markEdge s x1 x2).rst = s.rst ∧ (markEdge s x1
    x2).pwr = s.pwr ∧ (markEdge s x1 x2).reed = s.reed ∧ (markEdge s x1 x2).uart = s.uart ∧ (markEdge s x1 x2).net =
    s.net ∧ (markEdge s x1 x2).otp = s.otp ∧ (markEdge s x1 x2).dbg = s.dbg ∧ (markEdge s x1 x2).pending = s.pending
    := by
  simp [markEdge]

@[simp] theorem issueBus_frame (s : State) (x1 : Nat) (x2 : Bool) : (issueBus s x1 x2).rst = s.rst ∧ (issueBus s x1
    x2).clk = s.clk ∧ (issueBus s x1 x2).pwr = s.pwr ∧ (issueBus s x1 x2).reed = s.reed ∧ (issueBus s x1 x2).port =
    s.port ∧ (issueBus s x1 x2).uart = s.uart ∧ (issueBus s x1 x2).usb = s.usb ∧ (issueBus s x1 x2).net = s.net ∧
    (issueBus s x1 x2).ctxs = s.ctxs ∧ (issueBus s x1 x2).params = s.params ∧ (issueBus s x1 x2).nvm = s.nvm ∧
    (issueBus s x1 x2).jobs = s.jobs ∧ (issueBus s x1 x2).saf = s.saf ∧ (issueBus s x1 x2).fife = s.fife ∧ (issueBus s
    x1 x2).motion = s.motion ∧ (issueBus s x1 x2).noz = s.noz ∧ (issueBus s x1 x2).cal = s.cal ∧ (issueBus s x1
    x2).seq = s.seq ∧ (issueBus s x1 x2).otp = s.otp ∧ (issueBus s x1 x2).dbg = s.dbg ∧ (issueBus s x1 x2).cvu = s.cvu
    ∧ (issueBus s x1 x2).pending = s.pending := by
  simp [issueBus]

@[simp] theorem dropUnstarted_frame (s : State) (x1 : Nat) : (dropUnstarted s x1).rst = s.rst ∧ (dropUnstarted s
    x1).clk = s.clk ∧ (dropUnstarted s x1).pwr = s.pwr ∧ (dropUnstarted s x1).reed = s.reed ∧ (dropUnstarted s
    x1).port = s.port ∧ (dropUnstarted s x1).uart = s.uart ∧ (dropUnstarted s x1).usb = s.usb ∧ (dropUnstarted s
    x1).net = s.net ∧ (dropUnstarted s x1).ctxs = s.ctxs ∧ (dropUnstarted s x1).params = s.params ∧ (dropUnstarted s
    x1).nvm = s.nvm ∧ (dropUnstarted s x1).jobs = s.jobs ∧ (dropUnstarted s x1).saf = s.saf ∧ (dropUnstarted s
    x1).fife = s.fife ∧ (dropUnstarted s x1).motion = s.motion ∧ (dropUnstarted s x1).noz = s.noz ∧ (dropUnstarted s
    x1).cal = s.cal ∧ (dropUnstarted s x1).seq = s.seq ∧ (dropUnstarted s x1).otp = s.otp ∧ (dropUnstarted s x1).dbg =
    s.dbg ∧ (dropUnstarted s x1).cvu = s.cvu ∧ (dropUnstarted s x1).pending = s.pending := by
  simp [dropUnstarted]

@[simp] theorem putReading_frame (s : State) (x1 : Nat) (x2 : BitVec 12) : (putReading s x1 x2).rst = s.rst ∧
    (putReading s x1 x2).clk = s.clk ∧ (putReading s x1 x2).pwr = s.pwr ∧ (putReading s x1 x2).reed = s.reed ∧
    (putReading s x1 x2).port = s.port ∧ (putReading s x1 x2).uart = s.uart ∧ (putReading s x1 x2).usb = s.usb ∧
    (putReading s x1 x2).net = s.net ∧ (putReading s x1 x2).ctxs = s.ctxs ∧ (putReading s x1 x2).params = s.params ∧
    (putReading s x1 x2).nvm = s.nvm ∧ (putReading s x1 x2).log = s.log ∧ (putReading s x1 x2).jobs = s.jobs ∧
    (putReading s x1 x2).saf = s.saf ∧ (putReading s x1 x2).fife = s.fife ∧ (putReading s x1 x2).motion = s.motion ∧
    (putReading s x1 x2).noz = s.noz ∧ (putReading s x1 x2).cal = s.cal ∧ (putReading s x1 x2).seq = s.seq ∧
    (putReading s x1 x2).otp = s.otp ∧ (putReading s x1 x2).dbg = s.dbg ∧ (putReading s x1 x2).cvu = s.cvu ∧
    (putReading s x1 x2).pending = s.pending := by
  simp [putReading]

@[simp] theorem loseDeferred_frame (s : State) (x1 : Nat) : (loseDeferred s x1).rst = s.rst ∧ (loseDeferred s x1).clk
    = s.clk ∧ (loseDeferred s x1).pwr = s.pwr ∧ (loseDeferred s x1).reed = s.reed ∧ (loseDeferred s x1).port = s.port
    ∧ (loseDeferred s x1).uart = s.uart ∧ (loseDeferred s x1).usb = s.usb ∧ (loseDeferred s x1).net = s.net ∧
    (loseDeferred s x1).ctxs = s.ctxs ∧ (loseDeferred s x1).params = s.params ∧ (loseDeferred s x1).nvm = s.nvm ∧
    (loseDeferred s x1).jobs = s.jobs ∧ (loseDeferred s x1).saf = s.saf ∧ (loseDeferred s x1).fife = s.fife ∧
    (loseDeferred s x1).motion = s.motion ∧ (loseDeferred s x1).noz = s.noz ∧ (loseDeferred s x1).cal = s.cal ∧
    (loseDeferred s x1).seq = s.seq ∧ (loseDeferred s x1).otp = s.otp ∧ (loseDeferred s x1).dbg = s.dbg ∧
    (loseDeferred s x1).cvu = s.cvu ∧ (loseDeferred s x1).pending = s.pending := by
  simp [loseDeferred]

@[simp] theorem putOff_frame (s : State) (x1 : Nat) (x2 : Bool) : (putOff s x1 x2).rst = s.rst ∧ (putOff s x1 x2).clk
    = s.clk ∧ (putOff s x1 x2).pwr = s.pwr ∧ (putOff s x1 x2).reed = s.reed ∧ (putOff s x1 x2).port = s.port ∧ (putOff
    s x1 x2).uart = s.uart ∧ (putOff s x1 x2).usb = s.usb ∧ (putOff s x1 x2).net = s.net ∧ (putOff s x1 x2).ctxs =
    s.ctxs ∧ (putOff s x1 x2).params = s.params ∧ (putOff s x1 x2).nvm = s.nvm ∧ (putOff s x1 x2).jobs = s.jobs ∧
    (putOff s x1 x2).saf = s.saf ∧ (putOff s x1 x2).fife = s.fife ∧ (putOff s x1 x2).motion = s.motion ∧ (putOff s x1
    x2).noz = s.noz ∧ (putOff s x1 x2).cal = s.cal ∧ (putOff s x1 x2).seq = s.seq ∧ (putOff s x1 x2).otp = s.otp ∧
    (putOff s x1 x2).dbg = s.dbg ∧ (putOff s x1 x2).cvu = s.cvu ∧ (putOff s x1 x2).pending = s.pending := by
  simp [putOff]

@[simp] theorem putOffWk_frame (s : State) (x1 : Nat) (x2 : Bool) : (putOffWk s x1 x2).rst = s.rst ∧ (putOffWk s x1
    x2).clk = s.clk ∧ (putOffWk s x1 x2).pwr = s.pwr ∧ (putOffWk s x1 x2).reed = s.reed ∧ (putOffWk s x1 x2).port =
    s.port ∧ (putOffWk s x1 x2).uart = s.uart ∧ (putOffWk s x1 x2).usb = s.usb ∧ (putOffWk s x1 x2).net = s.net ∧
    (putOffWk s x1 x2).ctxs = s.ctxs ∧ (putOffWk s x1 x2).params = s.params ∧ (putOffWk s x1 x2).nvm = s.nvm ∧
    (putOffWk s x1 x2).log = s.log ∧ (putOffWk s x1 x2).jobs = s.jobs ∧ (putOffWk s x1 x2).saf = s.saf ∧ (putOffWk s
    x1 x2).fife = s.fife ∧ (putOffWk s x1 x2).motion = s.motion ∧ (putOffWk s x1 x2).noz = s.noz ∧ (putOffWk s x1
    x2).cal = s.cal ∧ (putOffWk s x1 x2).seq = s.seq ∧ (putOffWk s x1 x2).otp = s.otp ∧ (putOffWk s x1 x2).dbg = s.dbg
    ∧ (putOffWk s x1 x2).cvu = s.cvu ∧ (putOffWk s x1 x2).pending = s.pending := by
  simp only [putOffWk]; (repeat' split) <;> simp

@[simp] theorem putOffDone_frame (s : State) (x1 : BusDone) : (putOffDone s x1).rst = s.rst ∧ (putOffDone s x1).clk =
    s.clk ∧ (putOffDone s x1).pwr = s.pwr ∧ (putOffDone s x1).reed = s.reed ∧ (putOffDone s x1).port = s.port ∧
    (putOffDone s x1).uart = s.uart ∧ (putOffDone s x1).usb = s.usb ∧ (putOffDone s x1).net = s.net ∧ (putOffDone s
    x1).ctxs = s.ctxs ∧ (putOffDone s x1).params = s.params ∧ (putOffDone s x1).nvm = s.nvm ∧ (putOffDone s x1).jobs =
    s.jobs ∧ (putOffDone s x1).saf = s.saf ∧ (putOffDone s x1).fife = s.fife ∧ (putOffDone s x1).motion = s.motion ∧
    (putOffDone s x1).noz = s.noz ∧ (putOffDone s x1).cal = s.cal ∧ (putOffDone s x1).seq = s.seq ∧ (putOffDone s
    x1).otp = s.otp ∧ (putOffDone s x1).dbg = s.dbg ∧ (putOffDone s x1).cvu = s.cvu ∧ (putOffDone s x1).pending =
    s.pending := by
  simp only [putOffDone]; (repeat' split) <;> simp

@[simp] theorem setLevels_frame (s : State) (x1 : BitVec 8) : (setLevels s x1).rst = s.rst ∧ (setLevels s x1).clk =
    s.clk ∧ (setLevels s x1).pwr = s.pwr ∧ (setLevels s x1).reed = s.reed ∧ (setLevels s x1).port = s.port ∧
    (setLevels s x1).uart = s.uart ∧ (setLevels s x1).usb = s.usb ∧ (setLevels s x1).net = s.net ∧ (setLevels s
    x1).ctxs = s.ctxs ∧ (setLevels s x1).params = s.params ∧ (setLevels s x1).nvm = s.nvm ∧ (setLevels s x1).log =
    s.log ∧ (setLevels s x1).jobs = s.jobs ∧ (setLevels s x1).saf = s.saf ∧ (setLevels s x1).fife = s.fife ∧
    (setLevels s x1).motion = s.motion ∧ (setLevels s x1).noz = s.noz ∧ (setLevels s x1).hub = s.hub ∧ (setLevels s
    x1).cal = s.cal ∧ (setLevels s x1).otp = s.otp ∧ (setLevels s x1).dbg = s.dbg ∧ (setLevels s x1).cvu = s.cvu ∧
    (setLevels s x1).pending = s.pending := by
  simp [setLevels]

@[simp] theorem abandonWrite_frame (s : State) : (abandonWrite s).rst = s.rst ∧ (abandonWrite s).pwr = s.pwr ∧
    (abandonWrite s).reed = s.reed ∧ (abandonWrite s).port = s.port ∧ (abandonWrite s).uart = s.uart ∧ (abandonWrite
    s).usb = s.usb ∧ (abandonWrite s).net = s.net ∧ (abandonWrite s).ctxs = s.ctxs ∧ (abandonWrite s).params =
    s.params ∧ (abandonWrite s).jobs = s.jobs ∧ (abandonWrite s).saf = s.saf ∧ (abandonWrite s).fife = s.fife ∧
    (abandonWrite s).motion = s.motion ∧ (abandonWrite s).noz = s.noz ∧ (abandonWrite s).hub = s.hub ∧ (abandonWrite
    s).cal = s.cal ∧ (abandonWrite s).otp = s.otp ∧ (abandonWrite s).dbg = s.dbg ∧ (abandonWrite s).pending =
    s.pending := by
  simp only [abandonWrite]; (repeat' split) <;> simp

@[simp] theorem vinfailRecord_frame (s : State) : (vinfailRecord s).pending = s.pending := by
  simp [vinfailRecord]

@[simp] theorem newWindow_frame (s : State) : (newWindow s).rst = s.rst ∧ (newWindow s).clk = s.clk ∧ (newWindow
    s).pwr = s.pwr ∧ (newWindow s).reed = s.reed ∧ (newWindow s).port = s.port ∧ (newWindow s).uart = s.uart ∧
    (newWindow s).usb = s.usb ∧ (newWindow s).net = s.net ∧ (newWindow s).ctxs = s.ctxs ∧ (newWindow s).params =
    s.params ∧ (newWindow s).nvm = s.nvm ∧ (newWindow s).log = s.log ∧ (newWindow s).jobs = s.jobs ∧ (newWindow
    s).fife = s.fife ∧ (newWindow s).motion = s.motion ∧ (newWindow s).noz = s.noz ∧ (newWindow s).hub = s.hub ∧
    (newWindow s).cal = s.cal ∧ (newWindow s).seq = s.seq ∧ (newWindow s).otp = s.otp ∧ (newWindow s).dbg = s.dbg ∧
    (newWindow s).cvu = s.cvu ∧ (newWindow s).pending = s.pending := by
  simp [newWindow]

@[simp] theorem ceilingRelease_frame (s : State) : (ceilingRelease s).rst = s.rst ∧ (ceilingRelease s).clk = s.clk ∧
    (ceilingRelease s).pwr = s.pwr ∧ (ceilingRelease s).reed = s.reed ∧ (ceilingRelease s).port = s.port ∧
    (ceilingRelease s).uart = s.uart ∧ (ceilingRelease s).usb = s.usb ∧ (ceilingRelease s).net = s.net ∧
    (ceilingRelease s).ctxs = s.ctxs ∧ (ceilingRelease s).params = s.params ∧ (ceilingRelease s).nvm = s.nvm ∧
    (ceilingRelease s).log = s.log ∧ (ceilingRelease s).jobs = s.jobs ∧ (ceilingRelease s).fife = s.fife ∧
    (ceilingRelease s).motion = s.motion ∧ (ceilingRelease s).noz = s.noz ∧ (ceilingRelease s).hub = s.hub ∧
    (ceilingRelease s).cal = s.cal ∧ (ceilingRelease s).otp = s.otp ∧ (ceilingRelease s).dbg = s.dbg ∧ (ceilingRelease
    s).cvu = s.cvu ∧ (ceilingRelease s).pending = s.pending := by
  simp [ceilingRelease, modSeq]

@[simp] theorem ceilingClear_frame (s : State) : (ceilingClear s).rst = s.rst ∧ (ceilingClear s).clk = s.clk ∧
    (ceilingClear s).pwr = s.pwr ∧ (ceilingClear s).reed = s.reed ∧ (ceilingClear s).port = s.port ∧ (ceilingClear
    s).uart = s.uart ∧ (ceilingClear s).usb = s.usb ∧ (ceilingClear s).net = s.net ∧ (ceilingClear s).ctxs = s.ctxs ∧
    (ceilingClear s).params = s.params ∧ (ceilingClear s).nvm = s.nvm ∧ (ceilingClear s).log = s.log ∧ (ceilingClear
    s).jobs = s.jobs ∧ (ceilingClear s).saf = s.saf ∧ (ceilingClear s).fife = s.fife ∧ (ceilingClear s).motion =
    s.motion ∧ (ceilingClear s).noz = s.noz ∧ (ceilingClear s).hub = s.hub ∧ (ceilingClear s).cal = s.cal ∧
    (ceilingClear s).otp = s.otp ∧ (ceilingClear s).dbg = s.dbg ∧ (ceilingClear s).cvu = s.cvu ∧ (ceilingClear
    s).pending = s.pending := by
  simp [ceilingClear]

@[simp] theorem addEnergy_frame (s : State) : (addEnergy s).rst = s.rst ∧ (addEnergy s).clk = s.clk ∧ (addEnergy
    s).pwr = s.pwr ∧ (addEnergy s).reed = s.reed ∧ (addEnergy s).port = s.port ∧ (addEnergy s).uart = s.uart ∧
    (addEnergy s).usb = s.usb ∧ (addEnergy s).net = s.net ∧ (addEnergy s).ctxs = s.ctxs ∧ (addEnergy s).params =
    s.params ∧ (addEnergy s).nvm = s.nvm ∧ (addEnergy s).log = s.log ∧ (addEnergy s).jobs = s.jobs ∧ (addEnergy
    s).fife = s.fife ∧ (addEnergy s).motion = s.motion ∧ (addEnergy s).noz = s.noz ∧ (addEnergy s).hub = s.hub ∧
    (addEnergy s).cal = s.cal ∧ (addEnergy s).seq = s.seq ∧ (addEnergy s).otp = s.otp ∧ (addEnergy s).dbg = s.dbg ∧
    (addEnergy s).cvu = s.cvu ∧ (addEnergy s).pending = s.pending := by
  simp [addEnergy]

@[simp] theorem wffConvert_frame (x0 : List (BitVec 12)) (s : State) : (wffConvert x0 s).rst = s.rst ∧ (wffConvert x0
    s).clk = s.clk ∧ (wffConvert x0 s).pwr = s.pwr ∧ (wffConvert x0 s).reed = s.reed ∧ (wffConvert x0 s).uart = s.uart
    ∧ (wffConvert x0 s).net = s.net ∧ (wffConvert x0 s).params = s.params ∧ (wffConvert x0 s).nvm = s.nvm ∧
    (wffConvert x0 s).log = s.log ∧ (wffConvert x0 s).jobs = s.jobs ∧ (wffConvert x0 s).fife = s.fife ∧ (wffConvert x0
    s).motion = s.motion ∧ (wffConvert x0 s).noz = s.noz ∧ (wffConvert x0 s).cal = s.cal ∧ (wffConvert x0 s).otp =
    s.otp ∧ (wffConvert x0 s).dbg = s.dbg ∧ (wffConvert x0 s).cvu = s.cvu ∧ (wffConvert x0 s).pending = s.pending :=
    by
  simp only [wffConvert]; (repeat' split) <;> simp

@[simp] theorem decideWk_frame (s : State) (x1 : Nat) : (decideWk s x1).rst = s.rst ∧ (decideWk s x1).pwr = s.pwr ∧
    (decideWk s x1).reed = s.reed ∧ (decideWk s x1).uart = s.uart ∧ (decideWk s x1).net = s.net ∧ (decideWk s x1).otp
    = s.otp ∧ (decideWk s x1).dbg = s.dbg ∧ (decideWk s x1).pending = s.pending := by
  simp [decideWk]

@[simp] theorem busSeen_frame (x1 : Bool) (s : State) : (busSeen x1 s).rst = s.rst ∧ (busSeen x1 s).clk = s.clk ∧
    (busSeen x1 s).pwr = s.pwr ∧ (busSeen x1 s).reed = s.reed ∧ (busSeen x1 s).port = s.port ∧ (busSeen x1 s).uart =
    s.uart ∧ (busSeen x1 s).usb = s.usb ∧ (busSeen x1 s).net = s.net ∧ (busSeen x1 s).ctxs = s.ctxs ∧ (busSeen x1
    s).params = s.params ∧ (busSeen x1 s).nvm = s.nvm ∧ (busSeen x1 s).log = s.log ∧ (busSeen x1 s).jobs = s.jobs ∧
    (busSeen x1 s).saf = s.saf ∧ (busSeen x1 s).fife = s.fife ∧ (busSeen x1 s).motion = s.motion ∧ (busSeen x1 s).noz
    = s.noz ∧ (busSeen x1 s).cal = s.cal ∧ (busSeen x1 s).seq = s.seq ∧ (busSeen x1 s).otp = s.otp ∧ (busSeen x1
    s).dbg = s.dbg ∧ (busSeen x1 s).cvu = s.cvu ∧ (busSeen x1 s).pending = s.pending := by
  simp [busSeen]

@[simp] theorem setBus_frame (s : State) (x1 : Bool) (x2 : List BusTx) : (setBus s x1 x2).rst = s.rst ∧ (setBus s x1
    x2).clk = s.clk ∧ (setBus s x1 x2).pwr = s.pwr ∧ (setBus s x1 x2).reed = s.reed ∧ (setBus s x1 x2).port = s.port ∧
    (setBus s x1 x2).uart = s.uart ∧ (setBus s x1 x2).usb = s.usb ∧ (setBus s x1 x2).net = s.net ∧ (setBus s x1
    x2).ctxs = s.ctxs ∧ (setBus s x1 x2).params = s.params ∧ (setBus s x1 x2).nvm = s.nvm ∧ (setBus s x1 x2).log =
    s.log ∧ (setBus s x1 x2).jobs = s.jobs ∧ (setBus s x1 x2).saf = s.saf ∧ (setBus s x1 x2).fife = s.fife ∧ (setBus s
    x1 x2).motion = s.motion ∧ (setBus s x1 x2).noz = s.noz ∧ (setBus s x1 x2).cal = s.cal ∧ (setBus s x1 x2).seq =
    s.seq ∧ (setBus s x1 x2).otp = s.otp ∧ (setBus s x1 x2).dbg = s.dbg ∧ (setBus s x1 x2).cvu = s.cvu ∧ (setBus s x1
    x2).pending = s.pending := by
  simp [setBus]

@[simp] theorem nextOnBus_frame (s : State) (x1 : Bool) : (nextOnBus s x1).rst = s.rst ∧ (nextOnBus s x1).clk = s.clk
    ∧ (nextOnBus s x1).pwr = s.pwr ∧ (nextOnBus s x1).reed = s.reed ∧ (nextOnBus s x1).port = s.port ∧ (nextOnBus s
    x1).uart = s.uart ∧ (nextOnBus s x1).usb = s.usb ∧ (nextOnBus s x1).net = s.net ∧ (nextOnBus s x1).ctxs = s.ctxs ∧
    (nextOnBus s x1).params = s.params ∧ (nextOnBus s x1).nvm = s.nvm ∧ (nextOnBus s x1).log = s.log ∧ (nextOnBus s
    x1).jobs = s.jobs ∧ (nextOnBus s x1).saf = s.saf ∧ (nextOnBus s x1).fife = s.fife ∧ (nextOnBus s x1).motion =
    s.motion ∧ (nextOnBus s x1).noz = s.noz ∧ (nextOnBus s x1).cal = s.cal ∧ (nextOnBus s x1).seq = s.seq ∧ (nextOnBus
    s x1).otp = s.otp ∧ (nextOnBus s x1).dbg = s.dbg ∧ (nextOnBus s x1).cvu = s.cvu ∧ (nextOnBus s x1).pending =
    s.pending := by
  simp [nextOnBus]

@[simp] theorem arbLost_frame (s : State) (x1 : BusTx) (x2 : List BusTx) : (arbLost s x1 x2).rst = s.rst ∧ (arbLost s
    x1 x2).clk = s.clk ∧ (arbLost s x1 x2).pwr = s.pwr ∧ (arbLost s x1 x2).reed = s.reed ∧ (arbLost s x1 x2).port =
    s.port ∧ (arbLost s x1 x2).uart = s.uart ∧ (arbLost s x1 x2).usb = s.usb ∧ (arbLost s x1 x2).net = s.net ∧
    (arbLost s x1 x2).ctxs = s.ctxs ∧ (arbLost s x1 x2).params = s.params ∧ (arbLost s x1 x2).nvm = s.nvm ∧ (arbLost s
    x1 x2).jobs = s.jobs ∧ (arbLost s x1 x2).saf = s.saf ∧ (arbLost s x1 x2).fife = s.fife ∧ (arbLost s x1 x2).motion
    = s.motion ∧ (arbLost s x1 x2).noz = s.noz ∧ (arbLost s x1 x2).cal = s.cal ∧ (arbLost s x1 x2).seq = s.seq ∧
    (arbLost s x1 x2).otp = s.otp ∧ (arbLost s x1 x2).dbg = s.dbg ∧ (arbLost s x1 x2).cvu = s.cvu ∧ (arbLost s x1
    x2).pending = s.pending := by
  simp only [arbLost]; (repeat' split) <;> simp

@[simp] theorem modEnc_frame (s : State) (x1 : Nat) (x2 : Enc → Enc) : (modEnc s x1 x2).rst = s.rst ∧ (modEnc s x1
    x2).clk = s.clk ∧ (modEnc s x1 x2).pwr = s.pwr ∧ (modEnc s x1 x2).reed = s.reed ∧ (modEnc s x1 x2).port = s.port ∧
    (modEnc s x1 x2).uart = s.uart ∧ (modEnc s x1 x2).usb = s.usb ∧ (modEnc s x1 x2).net = s.net ∧ (modEnc s x1
    x2).ctxs = s.ctxs ∧ (modEnc s x1 x2).params = s.params ∧ (modEnc s x1 x2).nvm = s.nvm ∧ (modEnc s x1 x2).log =
    s.log ∧ (modEnc s x1 x2).jobs = s.jobs ∧ (modEnc s x1 x2).saf = s.saf ∧ (modEnc s x1 x2).fife = s.fife ∧ (modEnc s
    x1 x2).noz = s.noz ∧ (modEnc s x1 x2).hub = s.hub ∧ (modEnc s x1 x2).cal = s.cal ∧ (modEnc s x1 x2).seq = s.seq ∧
    (modEnc s x1 x2).otp = s.otp ∧ (modEnc s x1 x2).dbg = s.dbg ∧ (modEnc s x1 x2).cvu = s.cvu ∧ (modEnc s x1
    x2).pending = s.pending := by
  simp [modEnc]

@[simp] theorem writeRecord_frame (s : State) (x1 : LateLine) (x2 : Bool) : (writeRecord s x1 x2).rst = s.rst ∧
    (writeRecord s x1 x2).clk = s.clk ∧ (writeRecord s x1 x2).pwr = s.pwr ∧ (writeRecord s x1 x2).reed = s.reed ∧
    (writeRecord s x1 x2).port = s.port ∧ (writeRecord s x1 x2).uart = s.uart ∧ (writeRecord s x1 x2).usb = s.usb ∧
    (writeRecord s x1 x2).net = s.net ∧ (writeRecord s x1 x2).ctxs = s.ctxs ∧ (writeRecord s x1 x2).params = s.params
    ∧ (writeRecord s x1 x2).nvm = s.nvm ∧ (writeRecord s x1 x2).log = s.log ∧ (writeRecord s x1 x2).jobs = s.jobs ∧
    (writeRecord s x1 x2).saf = s.saf ∧ (writeRecord s x1 x2).noz = s.noz ∧ (writeRecord s x1 x2).hub = s.hub ∧
    (writeRecord s x1 x2).cal = s.cal ∧ (writeRecord s x1 x2).seq = s.seq ∧ (writeRecord s x1 x2).otp = s.otp ∧
    (writeRecord s x1 x2).dbg = s.dbg ∧ (writeRecord s x1 x2).cvu = s.cvu ∧ (writeRecord s x1 x2).pending = s.pending
    := by
  simp [writeRecord]

@[simp] theorem fireLine_frame (s : State) (x1 : LateLine) (x2 : Bool) : (fireLine s x1 x2).rst = s.rst ∧ (fireLine s
    x1 x2).clk = s.clk ∧ (fireLine s x1 x2).pwr = s.pwr ∧ (fireLine s x1 x2).reed = s.reed ∧ (fireLine s x1 x2).port =
    s.port ∧ (fireLine s x1 x2).uart = s.uart ∧ (fireLine s x1 x2).usb = s.usb ∧ (fireLine s x1 x2).net = s.net ∧
    (fireLine s x1 x2).ctxs = s.ctxs ∧ (fireLine s x1 x2).params = s.params ∧ (fireLine s x1 x2).nvm = s.nvm ∧
    (fireLine s x1 x2).log = s.log ∧ (fireLine s x1 x2).noz = s.noz ∧ (fireLine s x1 x2).hub = s.hub ∧ (fireLine s x1
    x2).cal = s.cal ∧ (fireLine s x1 x2).seq = s.seq ∧ (fireLine s x1 x2).otp = s.otp ∧ (fireLine s x1 x2).dbg = s.dbg
    ∧ (fireLine s x1 x2).cvu = s.cvu ∧ (fireLine s x1 x2).pending = s.pending := by
  simp only [fireLine]; (repeat' split) <;> simp

@[simp] theorem settleWaiting_frame (s : State) : (settleWaiting s).rst = s.rst ∧ (settleWaiting s).clk = s.clk ∧
    (settleWaiting s).pwr = s.pwr ∧ (settleWaiting s).reed = s.reed ∧ (settleWaiting s).port = s.port ∧ (settleWaiting
    s).uart = s.uart ∧ (settleWaiting s).usb = s.usb ∧ (settleWaiting s).net = s.net ∧ (settleWaiting s).ctxs = s.ctxs
    ∧ (settleWaiting s).params = s.params ∧ (settleWaiting s).nvm = s.nvm ∧ (settleWaiting s).log = s.log ∧
    (settleWaiting s).noz = s.noz ∧ (settleWaiting s).hub = s.hub ∧ (settleWaiting s).cal = s.cal ∧ (settleWaiting
    s).seq = s.seq ∧ (settleWaiting s).otp = s.otp ∧ (settleWaiting s).dbg = s.dbg ∧ (settleWaiting s).cvu = s.cvu ∧
    (settleWaiting s).pending = s.pending := by
  simp only [settleWaiting]; (repeat' split) <;> simp

@[simp] theorem settleLine_frame (s : State) (x1 : Rat) : (settleLine s x1).rst = s.rst ∧ (settleLine s x1).clk =
    s.clk ∧ (settleLine s x1).pwr = s.pwr ∧ (settleLine s x1).reed = s.reed ∧ (settleLine s x1).port = s.port ∧
    (settleLine s x1).uart = s.uart ∧ (settleLine s x1).usb = s.usb ∧ (settleLine s x1).net = s.net ∧ (settleLine s
    x1).ctxs = s.ctxs ∧ (settleLine s x1).params = s.params ∧ (settleLine s x1).nvm = s.nvm ∧ (settleLine s x1).log =
    s.log ∧ (settleLine s x1).noz = s.noz ∧ (settleLine s x1).hub = s.hub ∧ (settleLine s x1).cal = s.cal ∧
    (settleLine s x1).seq = s.seq ∧ (settleLine s x1).otp = s.otp ∧ (settleLine s x1).dbg = s.dbg ∧ (settleLine s
    x1).cvu = s.cvu ∧ (settleLine s x1).pending = s.pending := by
  simp only [settleLine]; (repeat' split) <;> simp

@[simp] theorem logTicket_frame (s : State) (x1 : Nat) (x2 : List Sys2Proof.Byte) : (logTicket s x1 x2).rst = s.rst ∧
    (logTicket s x1 x2).clk = s.clk ∧ (logTicket s x1 x2).pwr = s.pwr ∧ (logTicket s x1 x2).reed = s.reed ∧ (logTicket
    s x1 x2).port = s.port ∧ (logTicket s x1 x2).uart = s.uart ∧ (logTicket s x1 x2).usb = s.usb ∧ (logTicket s x1
    x2).net = s.net ∧ (logTicket s x1 x2).ctxs = s.ctxs ∧ (logTicket s x1 x2).params = s.params ∧ (logTicket s x1
    x2).nvm = s.nvm ∧ (logTicket s x1 x2).jobs = s.jobs ∧ (logTicket s x1 x2).saf = s.saf ∧ (logTicket s x1 x2).fife =
    s.fife ∧ (logTicket s x1 x2).motion = s.motion ∧ (logTicket s x1 x2).noz = s.noz ∧ (logTicket s x1 x2).hub = s.hub
    ∧ (logTicket s x1 x2).cal = s.cal ∧ (logTicket s x1 x2).seq = s.seq ∧ (logTicket s x1 x2).otp = s.otp ∧ (logTicket
    s x1 x2).dbg = s.dbg ∧ (logTicket s x1 x2).cvu = s.cvu ∧ (logTicket s x1 x2).pending = s.pending := by
  simp only [logTicket]; (repeat' split) <;> simp

@[simp] theorem ticketOver_frame (s : State) : (ticketOver s).rst = s.rst ∧ (ticketOver s).clk = s.clk ∧ (ticketOver
    s).pwr = s.pwr ∧ (ticketOver s).reed = s.reed ∧ (ticketOver s).port = s.port ∧ (ticketOver s).uart = s.uart ∧
    (ticketOver s).usb = s.usb ∧ (ticketOver s).net = s.net ∧ (ticketOver s).ctxs = s.ctxs ∧ (ticketOver s).params =
    s.params ∧ (ticketOver s).jobs = s.jobs ∧ (ticketOver s).motion = s.motion ∧ (ticketOver s).noz = s.noz ∧
    (ticketOver s).hub = s.hub ∧ (ticketOver s).cal = s.cal ∧ (ticketOver s).seq = s.seq ∧ (ticketOver s).otp = s.otp
    ∧ (ticketOver s).dbg = s.dbg ∧ (ticketOver s).pending = s.pending := by
  simp [ticketOver]

@[simp] theorem bladeFails_frame (s : State) (x1 : Nat) : (bladeFails s x1).rst = s.rst ∧ (bladeFails s x1).clk =
    s.clk ∧ (bladeFails s x1).pwr = s.pwr ∧ (bladeFails s x1).reed = s.reed ∧ (bladeFails s x1).uart = s.uart ∧
    (bladeFails s x1).net = s.net ∧ (bladeFails s x1).params = s.params ∧ (bladeFails s x1).hub = s.hub ∧ (bladeFails
    s x1).cal = s.cal ∧ (bladeFails s x1).seq = s.seq ∧ (bladeFails s x1).otp = s.otp ∧ (bladeFails s x1).dbg = s.dbg
    ∧ (bladeFails s x1).pending = s.pending := by
  simp only [bladeFails]; (repeat' split) <;> simp

@[simp] theorem faultFeed_frame (s : State) : (faultFeed s).rst = s.rst ∧ (faultFeed s).clk = s.clk ∧ (faultFeed
    s).pwr = s.pwr ∧ (faultFeed s).reed = s.reed ∧ (faultFeed s).uart = s.uart ∧ (faultFeed s).otp = s.otp ∧
    (faultFeed s).dbg = s.dbg ∧ (faultFeed s).pending = s.pending := by
  simp only [faultFeed]; (repeat' split) <;> simp

@[simp] theorem faultUser_frame (s : State) (x1 : Nat) : (faultUser s x1).rst = s.rst ∧ (faultUser s x1).pwr = s.pwr ∧
    (faultUser s x1).reed = s.reed ∧ (faultUser s x1).uart = s.uart ∧ (faultUser s x1).net = s.net ∧ (faultUser s
    x1).seq = s.seq ∧ (faultUser s x1).otp = s.otp ∧ (faultUser s x1).dbg = s.dbg ∧ (faultUser s x1).pending =
    s.pending := by
  simp only [faultUser]; (repeat' split) <;> simp

@[simp] theorem motorFails_frame (s : State) (x1 : Nat) : (motorFails s x1).rst = s.rst ∧ (motorFails s x1).pwr =
    s.pwr ∧ (motorFails s x1).reed = s.reed ∧ (motorFails s x1).uart = s.uart ∧ (motorFails s x1).net = s.net ∧
    (motorFails s x1).seq = s.seq ∧ (motorFails s x1).otp = s.otp ∧ (motorFails s x1).dbg = s.dbg ∧ (motorFails s
    x1).pending = s.pending := by
  simp [motorFails]

@[simp] theorem findFaults_frame (s : State) : (findFaults s).rst = s.rst ∧ (findFaults s).pwr = s.pwr ∧ (findFaults
    s).reed = s.reed ∧ (findFaults s).uart = s.uart ∧ (findFaults s).net = s.net ∧ (findFaults s).seq = s.seq ∧
    (findFaults s).otp = s.otp ∧ (findFaults s).dbg = s.dbg ∧ (findFaults s).pending = s.pending := by
  simp [findFaults]

@[simp] theorem countReject_frame (s : State) : (countReject s).rst = s.rst ∧ (countReject s).clk = s.clk ∧
    (countReject s).pwr = s.pwr ∧ (countReject s).reed = s.reed ∧ (countReject s).port = s.port ∧ (countReject s).uart
    = s.uart ∧ (countReject s).usb = s.usb ∧ (countReject s).net = s.net ∧ (countReject s).ctxs = s.ctxs ∧
    (countReject s).params = s.params ∧ (countReject s).nvm = s.nvm ∧ (countReject s).log = s.log ∧ (countReject
    s).jobs = s.jobs ∧ (countReject s).saf = s.saf ∧ (countReject s).fife = s.fife ∧ (countReject s).noz = s.noz ∧
    (countReject s).hub = s.hub ∧ (countReject s).cal = s.cal ∧ (countReject s).seq = s.seq ∧ (countReject s).otp =
    s.otp ∧ (countReject s).dbg = s.dbg ∧ (countReject s).cvu = s.cvu ∧ (countReject s).pending = s.pending := by
  simp [countReject]

@[simp] theorem beginBand_frame (s : State) (x1 : Ticket) (x2 : Job) (x3 : Nat) : (beginBand s x1 x2 x3).clk = s.clk ∧
    (beginBand s x1 x2 x3).pwr = s.pwr ∧ (beginBand s x1 x2 x3).reed = s.reed ∧ (beginBand s x1 x2 x3).port = s.port ∧
    (beginBand s x1 x2 x3).uart = s.uart ∧ (beginBand s x1 x2 x3).usb = s.usb ∧ (beginBand s x1 x2 x3).net = s.net ∧
    (beginBand s x1 x2 x3).ctxs = s.ctxs ∧ (beginBand s x1 x2 x3).nvm = s.nvm ∧ (beginBand s x1 x2 x3).fife = s.fife ∧
    (beginBand s x1 x2 x3).noz = s.noz ∧ (beginBand s x1 x2 x3).hub = s.hub ∧ (beginBand s x1 x2 x3).cal = s.cal ∧
    (beginBand s x1 x2 x3).seq = s.seq ∧ (beginBand s x1 x2 x3).otp = s.otp ∧ (beginBand s x1 x2 x3).dbg = s.dbg ∧
    (beginBand s x1 x2 x3).cvu = s.cvu ∧ (beginBand s x1 x2 x3).pending = s.pending := by
  simp [beginBand]

@[simp] theorem freeBands_frame (s : State) (x1 : Ticket) (x2 : Nat) (x3 : Nat) : (freeBands s x1 x2 x3).rst = s.rst ∧
    (freeBands s x1 x2 x3).clk = s.clk ∧ (freeBands s x1 x2 x3).pwr = s.pwr ∧ (freeBands s x1 x2 x3).reed = s.reed ∧
    (freeBands s x1 x2 x3).port = s.port ∧ (freeBands s x1 x2 x3).uart = s.uart ∧ (freeBands s x1 x2 x3).usb = s.usb ∧
    (freeBands s x1 x2 x3).net = s.net ∧ (freeBands s x1 x2 x3).ctxs = s.ctxs ∧ (freeBands s x1 x2 x3).params =
    s.params ∧ (freeBands s x1 x2 x3).nvm = s.nvm ∧ (freeBands s x1 x2 x3).log = s.log ∧ (freeBands s x1 x2 x3).fife =
    s.fife ∧ (freeBands s x1 x2 x3).motion = s.motion ∧ (freeBands s x1 x2 x3).noz = s.noz ∧ (freeBands s x1 x2
    x3).hub = s.hub ∧ (freeBands s x1 x2 x3).cal = s.cal ∧ (freeBands s x1 x2 x3).seq = s.seq ∧ (freeBands s x1 x2
    x3).otp = s.otp ∧ (freeBands s x1 x2 x3).dbg = s.dbg ∧ (freeBands s x1 x2 x3).cvu = s.cvu ∧ (freeBands s x1 x2
    x3).pending = s.pending := by
  simp [freeBands]

@[simp] theorem stopRule_frame (s : State) (x1 : Ticket) (x2 : Job) (x3 : Nat) : (stopRule s x1 x2 x3).rst = s.rst ∧
    (stopRule s x1 x2 x3).clk = s.clk ∧ (stopRule s x1 x2 x3).pwr = s.pwr ∧ (stopRule s x1 x2 x3).reed = s.reed ∧
    (stopRule s x1 x2 x3).port = s.port ∧ (stopRule s x1 x2 x3).uart = s.uart ∧ (stopRule s x1 x2 x3).usb = s.usb ∧
    (stopRule s x1 x2 x3).net = s.net ∧ (stopRule s x1 x2 x3).ctxs = s.ctxs ∧ (stopRule s x1 x2 x3).params = s.params
    ∧ (stopRule s x1 x2 x3).nvm = s.nvm ∧ (stopRule s x1 x2 x3).motion = s.motion ∧ (stopRule s x1 x2 x3).noz = s.noz
    ∧ (stopRule s x1 x2 x3).hub = s.hub ∧ (stopRule s x1 x2 x3).cal = s.cal ∧ (stopRule s x1 x2 x3).seq = s.seq ∧
    (stopRule s x1 x2 x3).otp = s.otp ∧ (stopRule s x1 x2 x3).dbg = s.dbg ∧ (stopRule s x1 x2 x3).cvu = s.cvu ∧
    (stopRule s x1 x2 x3).pending = s.pending := by
  simp only [stopRule]; (repeat' split) <;> simp

@[simp] theorem startLine_frame (s : State) (x1 : Ticket) (x2 : Nat) (x3 : Nat) : (startLine s x1 x2 x3).rst = s.rst ∧
    (startLine s x1 x2 x3).clk = s.clk ∧ (startLine s x1 x2 x3).pwr = s.pwr ∧ (startLine s x1 x2 x3).reed = s.reed ∧
    (startLine s x1 x2 x3).port = s.port ∧ (startLine s x1 x2 x3).uart = s.uart ∧ (startLine s x1 x2 x3).usb = s.usb ∧
    (startLine s x1 x2 x3).net = s.net ∧ (startLine s x1 x2 x3).ctxs = s.ctxs ∧ (startLine s x1 x2 x3).params =
    s.params ∧ (startLine s x1 x2 x3).nvm = s.nvm ∧ (startLine s x1 x2 x3).log = s.log ∧ (startLine s x1 x2 x3).jobs =
    s.jobs ∧ (startLine s x1 x2 x3).motion = s.motion ∧ (startLine s x1 x2 x3).noz = s.noz ∧ (startLine s x1 x2
    x3).hub = s.hub ∧ (startLine s x1 x2 x3).cal = s.cal ∧ (startLine s x1 x2 x3).seq = s.seq ∧ (startLine s x1 x2
    x3).otp = s.otp ∧ (startLine s x1 x2 x3).dbg = s.dbg ∧ (startLine s x1 x2 x3).cvu = s.cvu ∧ (startLine s x1 x2
    x3).pending = s.pending := by
  simp [startLine]

@[simp] theorem boundaryLine_frame (s : State) (x1 : Ticket) (x2 : Job) (x3 : Nat) (x4 : Nat) (x5 : Bool) :
    (boundaryLine s x1 x2 x3 x4 x5).rst = s.rst ∧ (boundaryLine s x1 x2 x3 x4 x5).clk = s.clk ∧ (boundaryLine s x1 x2
    x3 x4 x5).pwr = s.pwr ∧ (boundaryLine s x1 x2 x3 x4 x5).reed = s.reed ∧ (boundaryLine s x1 x2 x3 x4 x5).port =
    s.port ∧ (boundaryLine s x1 x2 x3 x4 x5).uart = s.uart ∧ (boundaryLine s x1 x2 x3 x4 x5).usb = s.usb ∧
    (boundaryLine s x1 x2 x3 x4 x5).net = s.net ∧ (boundaryLine s x1 x2 x3 x4 x5).ctxs = s.ctxs ∧ (boundaryLine s x1
    x2 x3 x4 x5).params = s.params ∧ (boundaryLine s x1 x2 x3 x4 x5).nvm = s.nvm ∧ (boundaryLine s x1 x2 x3 x4 x5).log
    = s.log ∧ (boundaryLine s x1 x2 x3 x4 x5).noz = s.noz ∧ (boundaryLine s x1 x2 x3 x4 x5).hub = s.hub ∧
    (boundaryLine s x1 x2 x3 x4 x5).cal = s.cal ∧ (boundaryLine s x1 x2 x3 x4 x5).seq = s.seq ∧ (boundaryLine s x1 x2
    x3 x4 x5).otp = s.otp ∧ (boundaryLine s x1 x2 x3 x4 x5).dbg = s.dbg ∧ (boundaryLine s x1 x2 x3 x4 x5).cvu = s.cvu
    ∧ (boundaryLine s x1 x2 x3 x4 x5).pending = s.pending := by
  simp [boundaryLine]

@[simp] theorem comeToRest_frame (s : State) (x1 : Option Nat) (x2 : Nat) : (comeToRest s x1 x2).rst = s.rst ∧
    (comeToRest s x1 x2).clk = s.clk ∧ (comeToRest s x1 x2).pwr = s.pwr ∧ (comeToRest s x1 x2).reed = s.reed ∧
    (comeToRest s x1 x2).port = s.port ∧ (comeToRest s x1 x2).uart = s.uart ∧ (comeToRest s x1 x2).usb = s.usb ∧
    (comeToRest s x1 x2).net = s.net ∧ (comeToRest s x1 x2).ctxs = s.ctxs ∧ (comeToRest s x1 x2).params = s.params ∧
    (comeToRest s x1 x2).nvm = s.nvm ∧ (comeToRest s x1 x2).log = s.log ∧ (comeToRest s x1 x2).jobs = s.jobs ∧
    (comeToRest s x1 x2).saf = s.saf ∧ (comeToRest s x1 x2).fife = s.fife ∧ (comeToRest s x1 x2).noz = s.noz ∧
    (comeToRest s x1 x2).hub = s.hub ∧ (comeToRest s x1 x2).cal = s.cal ∧ (comeToRest s x1 x2).seq = s.seq ∧
    (comeToRest s x1 x2).otp = s.otp ∧ (comeToRest s x1 x2).dbg = s.dbg ∧ (comeToRest s x1 x2).cvu = s.cvu ∧
    (comeToRest s x1 x2).pending = s.pending := by
  simp only [comeToRest]; (repeat' split) <;> simp

@[simp] theorem endPass_frame (s : State) (x1 : Ticket) (x2 : Job) : (endPass s x1 x2).rst = s.rst ∧ (endPass s x1
    x2).clk = s.clk ∧ (endPass s x1 x2).pwr = s.pwr ∧ (endPass s x1 x2).reed = s.reed ∧ (endPass s x1 x2).uart =
    s.uart ∧ (endPass s x1 x2).net = s.net ∧ (endPass s x1 x2).params = s.params ∧ (endPass s x1 x2).log = s.log ∧
    (endPass s x1 x2).fife = s.fife ∧ (endPass s x1 x2).hub = s.hub ∧ (endPass s x1 x2).cal = s.cal ∧ (endPass s x1
    x2).seq = s.seq ∧ (endPass s x1 x2).otp = s.otp ∧ (endPass s x1 x2).dbg = s.dbg ∧ (endPass s x1 x2).cvu = s.cvu ∧
    (endPass s x1 x2).pending = s.pending := by
  simp only [endPass]; (repeat' split) <;> simp

@[simp] theorem startCut_frame (s : State) (x1 : Nat) (x2 : Bool) : (startCut s x1 x2).rst = s.rst ∧ (startCut s x1
    x2).clk = s.clk ∧ (startCut s x1 x2).pwr = s.pwr ∧ (startCut s x1 x2).reed = s.reed ∧ (startCut s x1 x2).port =
    s.port ∧ (startCut s x1 x2).uart = s.uart ∧ (startCut s x1 x2).usb = s.usb ∧ (startCut s x1 x2).net = s.net ∧
    (startCut s x1 x2).ctxs = s.ctxs ∧ (startCut s x1 x2).params = s.params ∧ (startCut s x1 x2).nvm = s.nvm ∧
    (startCut s x1 x2).log = s.log ∧ (startCut s x1 x2).jobs = s.jobs ∧ (startCut s x1 x2).saf = s.saf ∧ (startCut s
    x1 x2).fife = s.fife ∧ (startCut s x1 x2).noz = s.noz ∧ (startCut s x1 x2).hub = s.hub ∧ (startCut s x1 x2).cal =
    s.cal ∧ (startCut s x1 x2).seq = s.seq ∧ (startCut s x1 x2).otp = s.otp ∧ (startCut s x1 x2).dbg = s.dbg ∧
    (startCut s x1 x2).cvu = s.cvu ∧ (startCut s x1 x2).pending = s.pending := by
  simp [startCut]

@[simp] theorem raiseAlarm_frame (s : State) (x1 : Nat) (x2 : Nat) (x3 : Nat) : (raiseAlarm s x1 x2 x3).rst = s.rst ∧
    (raiseAlarm s x1 x2 x3).clk = s.clk ∧ (raiseAlarm s x1 x2 x3).pwr = s.pwr ∧ (raiseAlarm s x1 x2 x3).reed = s.reed
    ∧ (raiseAlarm s x1 x2 x3).uart = s.uart ∧ (raiseAlarm s x1 x2 x3).net = s.net ∧ (raiseAlarm s x1 x2 x3).params =
    s.params ∧ (raiseAlarm s x1 x2 x3).nvm = s.nvm ∧ (raiseAlarm s x1 x2 x3).jobs = s.jobs ∧ (raiseAlarm s x1 x2
    x3).saf = s.saf ∧ (raiseAlarm s x1 x2 x3).fife = s.fife ∧ (raiseAlarm s x1 x2 x3).motion = s.motion ∧ (raiseAlarm
    s x1 x2 x3).noz = s.noz ∧ (raiseAlarm s x1 x2 x3).hub = s.hub ∧ (raiseAlarm s x1 x2 x3).cal = s.cal ∧ (raiseAlarm
    s x1 x2 x3).seq = s.seq ∧ (raiseAlarm s x1 x2 x3).otp = s.otp ∧ (raiseAlarm s x1 x2 x3).dbg = s.dbg ∧ (raiseAlarm
    s x1 x2 x3).cvu = s.cvu ∧ (raiseAlarm s x1 x2 x3).pending = s.pending := by
  simp [raiseAlarm]

@[simp] theorem readAlarms_frame (s : State) : (readAlarms s).rst = s.rst ∧ (readAlarms s).clk = s.clk ∧ (readAlarms
    s).pwr = s.pwr ∧ (readAlarms s).reed = s.reed ∧ (readAlarms s).uart = s.uart ∧ (readAlarms s).net = s.net ∧
    (readAlarms s).params = s.params ∧ (readAlarms s).nvm = s.nvm ∧ (readAlarms s).jobs = s.jobs ∧ (readAlarms s).fife
    = s.fife ∧ (readAlarms s).motion = s.motion ∧ (readAlarms s).noz = s.noz ∧ (readAlarms s).hub = s.hub ∧
    (readAlarms s).seq = s.seq ∧ (readAlarms s).dbg = s.dbg ∧ (readAlarms s).pending = s.pending := by
  simp [readAlarms]

@[simp] theorem selectPatch_frame (s : State) : (selectPatch s).rst = s.rst ∧ (selectPatch s).clk = s.clk ∧
    (selectPatch s).pwr = s.pwr ∧ (selectPatch s).reed = s.reed ∧ (selectPatch s).port = s.port ∧ (selectPatch s).uart
    = s.uart ∧ (selectPatch s).usb = s.usb ∧ (selectPatch s).net = s.net ∧ (selectPatch s).ctxs = s.ctxs ∧
    (selectPatch s).params = s.params ∧ (selectPatch s).log = s.log ∧ (selectPatch s).jobs = s.jobs ∧ (selectPatch
    s).saf = s.saf ∧ (selectPatch s).fife = s.fife ∧ (selectPatch s).motion = s.motion ∧ (selectPatch s).noz = s.noz ∧
    (selectPatch s).hub = s.hub ∧ (selectPatch s).cal = s.cal ∧ (selectPatch s).seq = s.seq ∧ (selectPatch s).otp =
    s.otp ∧ (selectPatch s).dbg = s.dbg ∧ (selectPatch s).cvu = s.cvu ∧ (selectPatch s).pending = s.pending := by
  simp [selectPatch]

@[simp] theorem loadImage_frame (s : State) : (loadImage s).rst = s.rst ∧ (loadImage s).pwr = s.pwr ∧ (loadImage
    s).reed = s.reed ∧ (loadImage s).uart = s.uart ∧ (loadImage s).net = s.net ∧ (loadImage s).nvm = s.nvm ∧
    (loadImage s).jobs = s.jobs ∧ (loadImage s).saf = s.saf ∧ (loadImage s).fife = s.fife ∧ (loadImage s).motion =
    s.motion ∧ (loadImage s).noz = s.noz ∧ (loadImage s).hub = s.hub ∧ (loadImage s).cal = s.cal ∧ (loadImage s).seq =
    s.seq ∧ (loadImage s).otp = s.otp ∧ (loadImage s).dbg = s.dbg ∧ (loadImage s).pending = s.pending := by
  simp only [loadImage]; (repeat' split) <;> simp

@[simp] theorem loadSeq_frame (s : State) : (loadSeq s).rst = s.rst ∧ (loadSeq s).clk = s.clk ∧ (loadSeq s).pwr =
    s.pwr ∧ (loadSeq s).reed = s.reed ∧ (loadSeq s).port = s.port ∧ (loadSeq s).uart = s.uart ∧ (loadSeq s).usb =
    s.usb ∧ (loadSeq s).net = s.net ∧ (loadSeq s).ctxs = s.ctxs ∧ (loadSeq s).nvm = s.nvm ∧ (loadSeq s).log = s.log ∧
    (loadSeq s).jobs = s.jobs ∧ (loadSeq s).saf = s.saf ∧ (loadSeq s).fife = s.fife ∧ (loadSeq s).motion = s.motion ∧
    (loadSeq s).noz = s.noz ∧ (loadSeq s).hub = s.hub ∧ (loadSeq s).cal = s.cal ∧ (loadSeq s).otp = s.otp ∧ (loadSeq
    s).dbg = s.dbg ∧ (loadSeq s).cvu = s.cvu ∧ (loadSeq s).pending = s.pending := by
  and_intros <;> (simp only [loadSeq]; (repeat' split) <;> simp_all)

@[simp] theorem loadLog_frame (s : State) : (loadLog s).rst = s.rst ∧ (loadLog s).clk = s.clk ∧ (loadLog s).pwr =
    s.pwr ∧ (loadLog s).reed = s.reed ∧ (loadLog s).port = s.port ∧ (loadLog s).uart = s.uart ∧ (loadLog s).usb =
    s.usb ∧ (loadLog s).net = s.net ∧ (loadLog s).ctxs = s.ctxs ∧ (loadLog s).params = s.params ∧ (loadLog s).jobs =
    s.jobs ∧ (loadLog s).saf = s.saf ∧ (loadLog s).fife = s.fife ∧ (loadLog s).motion = s.motion ∧ (loadLog s).noz =
    s.noz ∧ (loadLog s).hub = s.hub ∧ (loadLog s).cal = s.cal ∧ (loadLog s).seq = s.seq ∧ (loadLog s).otp = s.otp ∧
    (loadLog s).dbg = s.dbg ∧ (loadLog s).pending = s.pending := by
  simp [loadLog]

@[simp] theorem writePending_frame (x0 : List PendingRec) (s : State) : (writePending x0 s).rst = s.rst ∧
    (writePending x0 s).clk = s.clk ∧ (writePending x0 s).pwr = s.pwr ∧ (writePending x0 s).reed = s.reed ∧
    (writePending x0 s).port = s.port ∧ (writePending x0 s).uart = s.uart ∧ (writePending x0 s).usb = s.usb ∧
    (writePending x0 s).net = s.net ∧ (writePending x0 s).ctxs = s.ctxs ∧ (writePending x0 s).params = s.params ∧
    (writePending x0 s).jobs = s.jobs ∧ (writePending x0 s).saf = s.saf ∧ (writePending x0 s).fife = s.fife ∧
    (writePending x0 s).motion = s.motion ∧ (writePending x0 s).noz = s.noz ∧ (writePending x0 s).hub = s.hub ∧
    (writePending x0 s).cal = s.cal ∧ (writePending x0 s).otp = s.otp ∧ (writePending x0 s).dbg = s.dbg ∧
    (writePending x0 s).cvu = s.cvu ∧ (writePending x0 s).pending = s.pending := by
  and_intros <;> (induction x0 generalizing s with | nil => simp [writePending] | cons k ks ih => simp only [writePending]; (repeat' split) <;> (try simp_all) <;> grind)

@[simp] theorem reportSlots_frame (s : State) : (reportSlots s).rst = s.rst ∧ (reportSlots s).clk = s.clk ∧
    (reportSlots s).pwr = s.pwr ∧ (reportSlots s).reed = s.reed ∧ (reportSlots s).uart = s.uart ∧ (reportSlots s).net
    = s.net ∧ (reportSlots s).params = s.params ∧ (reportSlots s).jobs = s.jobs ∧ (reportSlots s).saf = s.saf ∧
    (reportSlots s).fife = s.fife ∧ (reportSlots s).motion = s.motion ∧ (reportSlots s).noz = s.noz ∧ (reportSlots
    s).hub = s.hub ∧ (reportSlots s).cal = s.cal ∧ (reportSlots s).otp = s.otp ∧ (reportSlots s).dbg = s.dbg ∧
    (reportSlots s).pending = s.pending := by
  simp [reportSlots]

@[simp] theorem loadMap_frame (s : State) : (loadMap s).rst = s.rst ∧ (loadMap s).clk = s.clk ∧ (loadMap s).pwr =
    s.pwr ∧ (loadMap s).reed = s.reed ∧ (loadMap s).port = s.port ∧ (loadMap s).uart = s.uart ∧ (loadMap s).usb =
    s.usb ∧ (loadMap s).net = s.net ∧ (loadMap s).ctxs = s.ctxs ∧ (loadMap s).params = s.params ∧ (loadMap s).nvm =
    s.nvm ∧ (loadMap s).log = s.log ∧ (loadMap s).jobs = s.jobs ∧ (loadMap s).saf = s.saf ∧ (loadMap s).fife = s.fife
    ∧ (loadMap s).motion = s.motion ∧ (loadMap s).hub = s.hub ∧ (loadMap s).cal = s.cal ∧ (loadMap s).seq = s.seq ∧
    (loadMap s).otp = s.otp ∧ (loadMap s).dbg = s.dbg ∧ (loadMap s).pending = s.pending := by
  simp only [loadMap]; (repeat' split) <;> simp

@[simp] theorem loadFires_frame (s : State) : (loadFires s).rst = s.rst ∧ (loadFires s).clk = s.clk ∧ (loadFires
    s).pwr = s.pwr ∧ (loadFires s).reed = s.reed ∧ (loadFires s).port = s.port ∧ (loadFires s).uart = s.uart ∧
    (loadFires s).usb = s.usb ∧ (loadFires s).net = s.net ∧ (loadFires s).ctxs = s.ctxs ∧ (loadFires s).params =
    s.params ∧ (loadFires s).nvm = s.nvm ∧ (loadFires s).jobs = s.jobs ∧ (loadFires s).saf = s.saf ∧ (loadFires
    s).motion = s.motion ∧ (loadFires s).noz = s.noz ∧ (loadFires s).hub = s.hub ∧ (loadFires s).cal = s.cal ∧
    (loadFires s).seq = s.seq ∧ (loadFires s).otp = s.otp ∧ (loadFires s).dbg = s.dbg ∧ (loadFires s).pending =
    s.pending := by
  simp [loadFires]

@[simp] theorem loadHeadCal_frame (s : State) : (loadHeadCal s).rst = s.rst ∧ (loadHeadCal s).clk = s.clk ∧
    (loadHeadCal s).pwr = s.pwr ∧ (loadHeadCal s).reed = s.reed ∧ (loadHeadCal s).port = s.port ∧ (loadHeadCal s).uart
    = s.uart ∧ (loadHeadCal s).usb = s.usb ∧ (loadHeadCal s).net = s.net ∧ (loadHeadCal s).ctxs = s.ctxs ∧
    (loadHeadCal s).params = s.params ∧ (loadHeadCal s).nvm = s.nvm ∧ (loadHeadCal s).log = s.log ∧ (loadHeadCal
    s).jobs = s.jobs ∧ (loadHeadCal s).saf = s.saf ∧ (loadHeadCal s).fife = s.fife ∧ (loadHeadCal s).motion = s.motion
    ∧ (loadHeadCal s).noz = s.noz ∧ (loadHeadCal s).hub = s.hub ∧ (loadHeadCal s).seq = s.seq ∧ (loadHeadCal s).otp =
    s.otp ∧ (loadHeadCal s).dbg = s.dbg ∧ (loadHeadCal s).pending = s.pending := by
  simp [loadHeadCal]

@[simp] theorem checkSlotWords_frame (s : State) : (checkSlotWords s).rst = s.rst ∧ (checkSlotWords s).clk = s.clk ∧
    (checkSlotWords s).pwr = s.pwr ∧ (checkSlotWords s).reed = s.reed ∧ (checkSlotWords s).port = s.port ∧
    (checkSlotWords s).uart = s.uart ∧ (checkSlotWords s).usb = s.usb ∧ (checkSlotWords s).net = s.net ∧
    (checkSlotWords s).ctxs = s.ctxs ∧ (checkSlotWords s).params = s.params ∧ (checkSlotWords s).nvm = s.nvm ∧
    (checkSlotWords s).log = s.log ∧ (checkSlotWords s).jobs = s.jobs ∧ (checkSlotWords s).saf = s.saf ∧
    (checkSlotWords s).fife = s.fife ∧ (checkSlotWords s).motion = s.motion ∧ (checkSlotWords s).noz = s.noz ∧
    (checkSlotWords s).hub = s.hub ∧ (checkSlotWords s).cal = s.cal ∧ (checkSlotWords s).seq = s.seq ∧ (checkSlotWords
    s).otp = s.otp ∧ (checkSlotWords s).dbg = s.dbg ∧ (checkSlotWords s).pending = s.pending := by
  simp [checkSlotWords]

@[simp] theorem loadSelections_frame (s : State) : (loadSelections s).rst = s.rst ∧ (loadSelections s).clk = s.clk ∧
    (loadSelections s).pwr = s.pwr ∧ (loadSelections s).reed = s.reed ∧ (loadSelections s).port = s.port ∧
    (loadSelections s).uart = s.uart ∧ (loadSelections s).usb = s.usb ∧ (loadSelections s).net = s.net ∧
    (loadSelections s).ctxs = s.ctxs ∧ (loadSelections s).params = s.params ∧ (loadSelections s).nvm = s.nvm ∧
    (loadSelections s).log = s.log ∧ (loadSelections s).jobs = s.jobs ∧ (loadSelections s).fife = s.fife ∧
    (loadSelections s).motion = s.motion ∧ (loadSelections s).noz = s.noz ∧ (loadSelections s).hub = s.hub ∧
    (loadSelections s).seq = s.seq ∧ (loadSelections s).otp = s.otp ∧ (loadSelections s).dbg = s.dbg ∧ (loadSelections
    s).pending = s.pending := by
  simp [loadSelections]

@[simp] theorem loadHub_frame (s : State) : (loadHub s).clk = s.clk ∧ (loadHub s).pwr = s.pwr ∧ (loadHub s).reed =
    s.reed ∧ (loadHub s).port = s.port ∧ (loadHub s).uart = s.uart ∧ (loadHub s).usb = s.usb ∧ (loadHub s).net = s.net
    ∧ (loadHub s).ctxs = s.ctxs ∧ (loadHub s).params = s.params ∧ (loadHub s).nvm = s.nvm ∧ (loadHub s).log = s.log ∧
    (loadHub s).jobs = s.jobs ∧ (loadHub s).fife = s.fife ∧ (loadHub s).motion = s.motion ∧ (loadHub s).noz = s.noz ∧
    (loadHub s).cal = s.cal ∧ (loadHub s).seq = s.seq ∧ (loadHub s).otp = s.otp ∧ (loadHub s).dbg = s.dbg ∧ (loadHub
    s).cvu = s.cvu ∧ (loadHub s).pending = s.pending := by
  simp [loadHub]

@[simp] theorem sendHeld_frame_clk (s : State) : (sendHeld s).clk = s.clk := by
  simp only [sendHeld, setHub]
  rw [ite_clk]
  simp only [setIrq_frame]
  rw [ite_self]
  exact foldl_clk _ (by intro s d; (repeat' split) <;> simp) _ _

@[simp] theorem sendHeld_frame_pwr (s : State) : (sendHeld s).pwr = s.pwr := by
  simp only [sendHeld, setHub]
  rw [ite_pwr]
  simp only [setIrq_frame]
  rw [ite_self]
  exact foldl_pwr _ (by intro s d; (repeat' split) <;> simp) _ _

@[simp] theorem sendHeld_frame_reed (s : State) : (sendHeld s).reed = s.reed := by
  simp only [sendHeld, setHub]
  rw [ite_reed]
  simp only [setIrq_frame]
  rw [ite_self]
  exact foldl_reed _ (by intro s d; (repeat' split) <;> simp) _ _

@[simp] theorem sendHeld_frame_uart (s : State) : (sendHeld s).uart = s.uart := by
  simp only [sendHeld, setHub]
  rw [ite_uart]
  simp only [setIrq_frame]
  rw [ite_self]
  exact foldl_uart _ (by intro s d; (repeat' split) <;> simp) _ _

@[simp] theorem sendHeld_frame_net (s : State) : (sendHeld s).net = s.net := by
  simp only [sendHeld, setHub]
  rw [ite_net]
  simp only [setIrq_frame]
  rw [ite_self]
  exact foldl_net _ (by intro s d; (repeat' split) <;> simp) _ _

@[simp] theorem sendHeld_frame_params (s : State) : (sendHeld s).params = s.params := by
  simp only [sendHeld, setHub]
  rw [ite_params]
  simp only [setIrq_frame]
  rw [ite_self]
  exact foldl_params _ (by intro s d; (repeat' split) <;> simp) _ _

@[simp] theorem sendHeld_frame_nvm (s : State) : (sendHeld s).nvm = s.nvm := by
  simp only [sendHeld, setHub]
  rw [ite_nvm]
  simp only [setIrq_frame]
  rw [ite_self]
  exact foldl_nvm _ (by intro s d; (repeat' split) <;> simp) _ _

@[simp] theorem sendHeld_frame_jobs (s : State) : (sendHeld s).jobs = s.jobs := by
  simp only [sendHeld, setHub]
  rw [ite_jobs]
  simp only [setIrq_frame]
  rw [ite_self]
  exact foldl_jobs _ (by intro s d; (repeat' split) <;> simp) _ _

@[simp] theorem sendHeld_frame_saf (s : State) : (sendHeld s).saf = s.saf := by
  simp only [sendHeld, setHub]
  rw [ite_saf]
  simp only [setIrq_frame]
  rw [ite_self]
  exact foldl_saf _ (by intro s d; (repeat' split) <;> simp) _ _

@[simp] theorem sendHeld_frame_fife (s : State) : (sendHeld s).fife = s.fife := by
  simp only [sendHeld, setHub]
  rw [ite_fife]
  simp only [setIrq_frame]
  rw [ite_self]
  exact foldl_fife _ (by intro s d; (repeat' split) <;> simp) _ _

@[simp] theorem sendHeld_frame_motion (s : State) : (sendHeld s).motion = s.motion := by
  simp only [sendHeld, setHub]
  rw [ite_motion]
  simp only [setIrq_frame]
  rw [ite_self]
  exact foldl_motion _ (by intro s d; (repeat' split) <;> simp) _ _

@[simp] theorem sendHeld_frame_noz (s : State) : (sendHeld s).noz = s.noz := by
  simp only [sendHeld, setHub]
  rw [ite_noz]
  simp only [setIrq_frame]
  rw [ite_self]
  exact foldl_noz _ (by intro s d; (repeat' split) <;> simp) _ _

@[simp] theorem sendHeld_frame_cal (s : State) : (sendHeld s).cal = s.cal := by
  simp only [sendHeld, setHub]
  rw [ite_cal]
  simp only [setIrq_frame]
  rw [ite_self]
  exact foldl_cal _ (by intro s d; (repeat' split) <;> simp) _ _

@[simp] theorem sendHeld_frame_seq (s : State) : (sendHeld s).seq = s.seq := by
  simp only [sendHeld, setHub]
  rw [ite_seq]
  simp only [setIrq_frame]
  rw [ite_self]
  exact foldl_seq _ (by intro s d; (repeat' split) <;> simp) _ _

@[simp] theorem sendHeld_frame_otp (s : State) : (sendHeld s).otp = s.otp := by
  simp only [sendHeld, setHub]
  rw [ite_otp]
  simp only [setIrq_frame]
  rw [ite_self]
  exact foldl_otp _ (by intro s d; (repeat' split) <;> simp) _ _

@[simp] theorem sendHeld_frame_dbg (s : State) : (sendHeld s).dbg = s.dbg := by
  simp only [sendHeld, setHub]
  rw [ite_dbg]
  simp only [setIrq_frame]
  rw [ite_self]
  exact foldl_dbg _ (by intro s d; (repeat' split) <;> simp) _ _

@[simp] theorem sendHeld_frame_cvu (s : State) : (sendHeld s).cvu = s.cvu := by
  simp only [sendHeld, setHub]
  rw [ite_cvu]
  simp only [setIrq_frame]
  rw [ite_self]
  exact foldl_cvu _ (by intro s d; (repeat' split) <;> simp) _ _

@[simp] theorem sendHeld_frame_pending (s : State) : (sendHeld s).pending = s.pending := by
  simp only [sendHeld, setHub]
  rw [ite_pending]
  simp only [setIrq_frame]
  rw [ite_self]
  exact foldl_pending _ (by intro s d; (repeat' split) <;> simp) _ _

@[simp] theorem sendHello_frame (s : State) (x1 : Sys2Proof.Byte) : (sendHello s x1).rst = s.rst ∧ (sendHello s
    x1).clk = s.clk ∧ (sendHello s x1).pwr = s.pwr ∧ (sendHello s x1).reed = s.reed ∧ (sendHello s x1).uart = s.uart ∧
    (sendHello s x1).net = s.net ∧ (sendHello s x1).params = s.params ∧ (sendHello s x1).nvm = s.nvm ∧ (sendHello s
    x1).log = s.log ∧ (sendHello s x1).jobs = s.jobs ∧ (sendHello s x1).saf = s.saf ∧ (sendHello s x1).fife = s.fife ∧
    (sendHello s x1).motion = s.motion ∧ (sendHello s x1).noz = s.noz ∧ (sendHello s x1).hub = s.hub ∧ (sendHello s
    x1).cal = s.cal ∧ (sendHello s x1).seq = s.seq ∧ (sendHello s x1).otp = s.otp ∧ (sendHello s x1).dbg = s.dbg ∧
    (sendHello s x1).cvu = s.cvu ∧ (sendHello s x1).pending = s.pending := by
  simp [sendHello]

@[simp] theorem openLinks_frame (s : State) (x1 : Sys2Proof.Byte) : (openLinks s x1).rst = s.rst ∧ (openLinks s
    x1).clk = s.clk ∧ (openLinks s x1).pwr = s.pwr ∧ (openLinks s x1).net = s.net ∧ (openLinks s x1).params = s.params
    ∧ (openLinks s x1).nvm = s.nvm ∧ (openLinks s x1).log = s.log ∧ (openLinks s x1).jobs = s.jobs ∧ (openLinks s
    x1).saf = s.saf ∧ (openLinks s x1).fife = s.fife ∧ (openLinks s x1).motion = s.motion ∧ (openLinks s x1).noz =
    s.noz ∧ (openLinks s x1).hub = s.hub ∧ (openLinks s x1).cal = s.cal ∧ (openLinks s x1).seq = s.seq ∧ (openLinks s
    x1).otp = s.otp ∧ (openLinks s x1).dbg = s.dbg ∧ (openLinks s x1).cvu = s.cvu ∧ (openLinks s x1).pending =
    s.pending := by
  simp [openLinks]

@[simp] theorem joinLost_frame (s : State) : (joinLost s).rst = s.rst ∧ (joinLost s).clk = s.clk ∧ (joinLost s).pwr =
    s.pwr ∧ (joinLost s).reed = s.reed ∧ (joinLost s).port = s.port ∧ (joinLost s).uart = s.uart ∧ (joinLost s).usb =
    s.usb ∧ (joinLost s).net = s.net ∧ (joinLost s).ctxs = s.ctxs ∧ (joinLost s).params = s.params ∧ (joinLost s).nvm
    = s.nvm ∧ (joinLost s).jobs = s.jobs ∧ (joinLost s).saf = s.saf ∧ (joinLost s).fife = s.fife ∧ (joinLost s).motion
    = s.motion ∧ (joinLost s).noz = s.noz ∧ (joinLost s).hub = s.hub ∧ (joinLost s).cal = s.cal ∧ (joinLost s).seq =
    s.seq ∧ (joinLost s).otp = s.otp ∧ (joinLost s).dbg = s.dbg ∧ (joinLost s).cvu = s.cvu ∧ (joinLost s).pending =
    s.pending := by
  simp [joinLost]

@[simp] theorem openWindow_frame (s : State) : (openWindow s).rst = s.rst ∧ (openWindow s).clk = s.clk ∧ (openWindow
    s).pwr = s.pwr ∧ (openWindow s).reed = s.reed ∧ (openWindow s).port = s.port ∧ (openWindow s).uart = s.uart ∧
    (openWindow s).usb = s.usb ∧ (openWindow s).net = s.net ∧ (openWindow s).ctxs = s.ctxs ∧ (openWindow s).params =
    s.params ∧ (openWindow s).nvm = s.nvm ∧ (openWindow s).log = s.log ∧ (openWindow s).jobs = s.jobs ∧ (openWindow
    s).fife = s.fife ∧ (openWindow s).motion = s.motion ∧ (openWindow s).noz = s.noz ∧ (openWindow s).hub = s.hub ∧
    (openWindow s).cal = s.cal ∧ (openWindow s).seq = s.seq ∧ (openWindow s).otp = s.otp ∧ (openWindow s).dbg = s.dbg
    ∧ (openWindow s).cvu = s.cvu ∧ (openWindow s).pending = s.pending := by
  simp [openWindow]

@[simp] theorem beginRender_frame (s : State) (x1 : Job) : (beginRender s x1).net = s.net ∧ (beginRender s x1).otp =
    s.otp ∧ (beginRender s x1).dbg = s.dbg ∧ (beginRender s x1).pending = s.pending := by
  simp only [beginRender]; (repeat' split) <;> simp

@[simp] theorem cutFires_frame (s : State) (x1 : Option Sys2Proof.NozTest) : (cutFires s x1).rst = s.rst ∧ (cutFires s
    x1).clk = s.clk ∧ (cutFires s x1).pwr = s.pwr ∧ (cutFires s x1).reed = s.reed ∧ (cutFires s x1).port = s.port ∧
    (cutFires s x1).uart = s.uart ∧ (cutFires s x1).usb = s.usb ∧ (cutFires s x1).net = s.net ∧ (cutFires s x1).ctxs =
    s.ctxs ∧ (cutFires s x1).params = s.params ∧ (cutFires s x1).nvm = s.nvm ∧ (cutFires s x1).log = s.log ∧ (cutFires
    s x1).jobs = s.jobs ∧ (cutFires s x1).saf = s.saf ∧ (cutFires s x1).motion = s.motion ∧ (cutFires s x1).noz =
    s.noz ∧ (cutFires s x1).hub = s.hub ∧ (cutFires s x1).cal = s.cal ∧ (cutFires s x1).seq = s.seq ∧ (cutFires s
    x1).otp = s.otp ∧ (cutFires s x1).dbg = s.dbg ∧ (cutFires s x1).cvu = s.cvu ∧ (cutFires s x1).pending = s.pending
    := by
  simp only [cutFires]; (repeat' split) <;> simp

@[simp] theorem homeSled_frame (s : State) : (homeSled s).rst = s.rst ∧ (homeSled s).clk = s.clk ∧ (homeSled s).pwr =
    s.pwr ∧ (homeSled s).reed = s.reed ∧ (homeSled s).port = s.port ∧ (homeSled s).uart = s.uart ∧ (homeSled s).usb =
    s.usb ∧ (homeSled s).net = s.net ∧ (homeSled s).ctxs = s.ctxs ∧ (homeSled s).params = s.params ∧ (homeSled s).nvm
    = s.nvm ∧ (homeSled s).log = s.log ∧ (homeSled s).jobs = s.jobs ∧ (homeSled s).saf = s.saf ∧ (homeSled s).fife =
    s.fife ∧ (homeSled s).noz = s.noz ∧ (homeSled s).hub = s.hub ∧ (homeSled s).cal = s.cal ∧ (homeSled s).seq = s.seq
    ∧ (homeSled s).otp = s.otp ∧ (homeSled s).dbg = s.dbg ∧ (homeSled s).cvu = s.cvu ∧ (homeSled s).pending =
    s.pending := by
  simp [homeSled]

@[simp] theorem sledAfter_frame (s : State) (x1 : Sys2Proof.MechEnd) : (sledAfter s x1).rst = s.rst ∧ (sledAfter s
    x1).clk = s.clk ∧ (sledAfter s x1).pwr = s.pwr ∧ (sledAfter s x1).reed = s.reed ∧ (sledAfter s x1).port = s.port ∧
    (sledAfter s x1).uart = s.uart ∧ (sledAfter s x1).usb = s.usb ∧ (sledAfter s x1).net = s.net ∧ (sledAfter s
    x1).ctxs = s.ctxs ∧ (sledAfter s x1).params = s.params ∧ (sledAfter s x1).nvm = s.nvm ∧ (sledAfter s x1).log =
    s.log ∧ (sledAfter s x1).jobs = s.jobs ∧ (sledAfter s x1).saf = s.saf ∧ (sledAfter s x1).fife = s.fife ∧
    (sledAfter s x1).noz = s.noz ∧ (sledAfter s x1).hub = s.hub ∧ (sledAfter s x1).cal = s.cal ∧ (sledAfter s x1).seq
    = s.seq ∧ (sledAfter s x1).otp = s.otp ∧ (sledAfter s x1).dbg = s.dbg ∧ (sledAfter s x1).cvu = s.cvu ∧ (sledAfter
    s x1).pending = s.pending := by
  simp only [sledAfter]; (repeat' split) <;> simp

@[simp] theorem endScan_frame (s : State) (x1 : ScanRun) (x2 : List Sys2Proof.NozTest) (x3 : List Nat) (x4 : Option
    (Nat × Nat)) : (endScan s x1 x2 x3 x4).rst = s.rst ∧ (endScan s x1 x2 x3 x4).clk = s.clk ∧ (endScan s x1 x2 x3
    x4).pwr = s.pwr ∧ (endScan s x1 x2 x3 x4).reed = s.reed ∧ (endScan s x1 x2 x3 x4).uart = s.uart ∧ (endScan s x1 x2
    x3 x4).net = s.net ∧ (endScan s x1 x2 x3 x4).nvm = s.nvm ∧ (endScan s x1 x2 x3 x4).jobs = s.jobs ∧ (endScan s x1
    x2 x3 x4).hub = s.hub ∧ (endScan s x1 x2 x3 x4).cal = s.cal ∧ (endScan s x1 x2 x3 x4).seq = s.seq ∧ (endScan s x1
    x2 x3 x4).otp = s.otp ∧ (endScan s x1 x2 x3 x4).dbg = s.dbg ∧ (endScan s x1 x2 x3 x4).cvu = s.cvu ∧ (endScan s x1
    x2 x3 x4).pending = s.pending := by
  simp only [endScan]; (repeat' split) <;> simp

@[simp] theorem endService_frame (s : State) (x1 : SvcRun) (x2 : Nat) (x3 : Option (Nat × Nat)) : (endService s x1 x2
    x3).rst = s.rst ∧ (endService s x1 x2 x3).clk = s.clk ∧ (endService s x1 x2 x3).pwr = s.pwr ∧ (endService s x1 x2
    x3).reed = s.reed ∧ (endService s x1 x2 x3).uart = s.uart ∧ (endService s x1 x2 x3).net = s.net ∧ (endService s x1
    x2 x3).params = s.params ∧ (endService s x1 x2 x3).nvm = s.nvm ∧ (endService s x1 x2 x3).log = s.log ∧ (endService
    s x1 x2 x3).jobs = s.jobs ∧ (endService s x1 x2 x3).hub = s.hub ∧ (endService s x1 x2 x3).cal = s.cal ∧
    (endService s x1 x2 x3).seq = s.seq ∧ (endService s x1 x2 x3).otp = s.otp ∧ (endService s x1 x2 x3).dbg = s.dbg ∧
    (endService s x1 x2 x3).cvu = s.cvu ∧ (endService s x1 x2 x3).pending = s.pending := by
  simp only [endService]; (repeat' split) <;> simp

/-! ### A request to the sequencer, the charger, and what runs after a ticket -/

@[simp] theorem seqReq_frame (s : State) (op : Nat) (f : State → State) : (seqReq s op f).clk = (f s).clk ∧ (seqReq s
    op f).pwr = (f s).pwr ∧ (seqReq s op f).reed = (f s).reed ∧ (seqReq s op f).port = (f s).port ∧ (seqReq s op
    f).uart = (f s).uart ∧ (seqReq s op f).usb = (f s).usb ∧ (seqReq s op f).net = (f s).net ∧ (seqReq s op f).ctxs =
    (f s).ctxs ∧ (seqReq s op f).params = (f s).params ∧ (seqReq s op f).nvm = (f s).nvm ∧ (seqReq s op f).log = (f
    s).log ∧ (seqReq s op f).jobs = (f s).jobs ∧ (seqReq s op f).saf = (f s).saf ∧ (seqReq s op f).fife = (f s).fife ∧
    (seqReq s op f).motion = (f s).motion ∧ (seqReq s op f).noz = (f s).noz ∧ (seqReq s op f).hub = (f s).hub ∧
    (seqReq s op f).cal = (f s).cal ∧ (seqReq s op f).seq = (f s).seq ∧ (seqReq s op f).otp = (f s).otp ∧ (seqReq s op
    f).dbg = (f s).dbg ∧ (seqReq s op f).cvu = (f s).cvu ∧ (seqReq s op f).pending = (f s).pending := by
  simp [seqReq]

@[simp] theorem updateCharger_frame (s : State) : (updateCharger s).pwr = s.pwr ∧ (updateCharger s).reed = s.reed ∧
    (updateCharger s).port = s.port ∧ (updateCharger s).uart = s.uart ∧ (updateCharger s).usb = s.usb ∧ (updateCharger
    s).net = s.net ∧ (updateCharger s).ctxs = s.ctxs ∧ (updateCharger s).params = s.params ∧ (updateCharger s).nvm =
    s.nvm ∧ (updateCharger s).log = s.log ∧ (updateCharger s).jobs = s.jobs ∧ (updateCharger s).motion = s.motion ∧
    (updateCharger s).noz = s.noz ∧ (updateCharger s).hub = s.hub ∧ (updateCharger s).cal = s.cal ∧ (updateCharger
    s).otp = s.otp ∧ (updateCharger s).dbg = s.dbg ∧ (updateCharger s).cvu = s.cvu ∧ (updateCharger s).pending =
    s.pending := by
  simp only [updateCharger, energyRun]; (repeat' split) <;> simp

@[simp] theorem ceilingCheck_frame (s : State) (x1 : Nat) : (ceilingCheck s x1).pwr = s.pwr ∧ (ceilingCheck s x1).reed
    = s.reed ∧ (ceilingCheck s x1).uart = s.uart ∧ (ceilingCheck s x1).net = s.net ∧ (ceilingCheck s x1).otp = s.otp ∧
    (ceilingCheck s x1).dbg = s.dbg ∧ (ceilingCheck s x1).pending = s.pending := by
  simp only [ceilingCheck]; (repeat' split) <;> simp

@[simp] theorem systemSlots_frame (x0 : List (BitVec 12)) (s : State) : (systemSlots x0 s).pwr = s.pwr ∧ (systemSlots
    x0 s).reed = s.reed ∧ (systemSlots x0 s).uart = s.uart ∧ (systemSlots x0 s).net = s.net ∧ (systemSlots x0 s).otp =
    s.otp ∧ (systemSlots x0 s).dbg = s.dbg ∧ (systemSlots x0 s).pending = s.pending := by
  simp [systemSlots]

@[simp] theorem takeRaster_pending (s : State) (id : Nat) (bs : List Byte) : (takeRaster s id bs).1.pending = s.pending := by
  simp only [takeRaster]; (repeat' split) <;> simp

theorem rawStep_pending {s t : State} {w v : RawIn} (h : rawStep s w = some (t, v)) : t.pending = s.pending := by
  simp only [rawStep] at h
  (repeat' split at h) <;> simp_all
  all_goals (obtain ⟨rfl, -⟩ := h; simp)

@[simp] theorem pump_pending (l : Link) (n : Nat) (s : State) : (pump l n s).pending = s.pending := by
  induction n generalizing s with
  | zero => rfl
  | succ n ih =>
    simp only [pump]
    (repeat' split) <;> simp_all
    exact rawStep_pending ‹_›

@[simp] theorem cancelStreamed_pending (s : State) (id : Nat) : (cancelStreamed s id).pending = s.pending := by
  simp [cancelStreamed]

@[simp] theorem cancelJob_pending (s : State) (j : Job) : (cancelJob s j).pending = s.pending := by
  simp only [cancelJob]; split <;> simp [markCancelled]

@[simp] theorem applyReset_frame (s : State) : (applyReset s).pending = s.pending := by
  first
  | (simp [applyReset]; done)
  | (simp only [applyReset]; (repeat' split) <;> simp; done)
  | (simp only [applyReset]; (try simp); (repeat' split) <;> (try simp); done)

@[simp] theorem afterDelivery_frame (s : State) (x1 : Box) (x2 : OutFrame) : (afterDelivery s x1 x2).pending =
    s.pending := by
  first
  | (simp [afterDelivery]; done)
  | (simp only [afterDelivery]; (repeat' split) <;> simp; done)
  | (simp only [afterDelivery]; (try simp); (repeat' split) <;> (try simp); done)

@[simp] theorem deliverHead_frame (s : State) (x1 : Box) : (deliverHead s x1).pending = s.pending := by
  first
  | (simp [deliverHead]; done)
  | (simp only [deliverHead]; (repeat' split) <;> simp; done)
  | (simp only [deliverHead]; (try simp); (repeat' split) <;> (try simp); done)

@[simp] theorem deferredOff_frame (s : State) : (deferredOff s).pending = s.pending := by
  first
  | (simp [deferredOff]; done)
  | (simp only [deferredOff]; (repeat' split) <;> simp; done)
  | (simp only [deferredOff]; (try simp); (repeat' split) <;> (try simp); done)

@[simp] theorem afterTicket_frame (s : State) : (afterTicket s).pending = s.pending := by
  first
  | (simp [afterTicket]; done)
  | (simp only [afterTicket]; (repeat' split) <;> simp; done)
  | (simp only [afterTicket]; (try simp); (repeat' split) <;> (try simp); done)

@[simp] theorem feedTick_frame (s : State) : (feedTick s).pending = s.pending := by
  first
  | (simp [feedTick]; done)
  | (simp only [feedTick]; (repeat' split) <;> simp; done)
  | (simp only [feedTick]; (try simp); (repeat' split) <;> (try simp); done)

@[simp] theorem calEnds_frame (s : State) (x1 : Action) (x2 : Nat) (x3 : Sys2Proof.Byte) (x4 : Sys2Proof.Word) (x5 :
    List Sys2Proof.Byte) : (calEnds s x1 x2 x3 x4 x5).pending = s.pending := by
  first
  | (simp [calEnds]; done)
  | (simp only [calEnds]; (repeat' split) <;> simp; done)
  | (simp only [calEnds]; (try simp); (repeat' split) <;> (try simp); done)

@[simp] theorem calDisagrees_frame (s : State) (x1 : Action) (x2 : Sys2Proof.Word) : (calDisagrees s x1 x2).pending =
    s.pending := by
  first
  | (simp [calDisagrees]; done)
  | (simp only [calDisagrees]; (repeat' split) <;> simp; done)
  | (simp only [calDisagrees]; (try simp); (repeat' split) <;> (try simp); done)

@[simp] theorem applyHead_frame (s : State) (x1 : Action) (x2 : Nat) (x3 : HeadEntry) : (applyHead s x1 x2 x3).pending
    = s.pending := by
  simp only [applyHead]
  split <;> rename_i hs <;> (have h := congrArg (fun x => x.2.pending) hs; simp at h; simp_all)

@[simp] theorem applyResult_frame (s : State) (x1 : Action) (x2 : Nat) (x3 : List Nat) (x4 : Sys2Proof.Word) (x5 :
    Int) : (applyResult s x1 x2 x3 x4 x5).pending = s.pending := by
  first
  | (simp [applyResult]; done)
  | (simp only [applyResult]; (repeat' split) <;> simp; done)
  | (simp only [applyResult]; (try simp); (repeat' split) <;> (try simp); done)

@[simp] theorem endCalRuns_frame (s : State) (x1 : Action) (x2 : Nat) (x3 : Sys2Proof.CalMeas) : (endCalRuns s x1 x2
    x3).pending = s.pending := by
  first
  | (simp [endCalRuns]; done)
  | (simp only [endCalRuns]; (repeat' split) <;> simp; done)
  | (simp only [endCalRuns]; (try simp); (repeat' split) <;> (try simp); done)

@[simp] theorem skipOut_frame (s : State) : (skipOut s).pending = s.pending := by
  first
  | (simp [skipOut]; done)
  | (simp only [skipOut]; (repeat' split) <;> simp; done)
  | (simp only [skipOut]; (try simp); (repeat' split) <;> (try simp); done)

@[simp] theorem writeCtrl_frame (s : State) (x1 : Sys2Proof.Byte) : (writeCtrl s x1).pending = s.pending := by
  first
  | (simp [writeCtrl]; done)
  | (simp only [writeCtrl]; (repeat' split) <;> simp; done)
  | (simp only [writeCtrl]; (try simp); (repeat' split) <;> (try simp); done)

@[simp] theorem takeOut_frame (s : State) : (takeOut s).2.pending = s.pending := by
  first
  | (simp [takeOut]; done)
  | (simp only [takeOut]; (repeat' split) <;> simp; done)
  | (simp only [takeOut]; (try simp); (repeat' split) <;> (try simp); done)

@[simp] theorem toReturn_frame (r : Req) (a : Reply × State) : (toReturn r a).2.pending = a.2.pending := by
  simp only [toReturn]
  split
  · rfl
  · exact foldl_pending _ (by intros; (repeat' split) <;> simp) _ _

@[simp] theorem seqDone_frame (s : State) : (seqDone s).pending = s.pending := by
  first
  | (simp [seqDone]; done)
  | (simp only [seqDone]; (repeat' split) <;> simp; done)
  | (simp only [seqDone]; (try simp); (repeat' split) <;> (try simp); done)

@[simp] theorem seqOn_frame (s : State) : (seqOn s).pending = s.pending := by
  first
  | (simp [seqOn]; done)
  | (simp only [seqOn]; (repeat' split) <;> simp; done)
  | (simp only [seqOn]; (try simp); (repeat' split) <;> (try simp); done)

@[simp] theorem yank_frame (s : State) (x1 : Nat) : (yank s x1).pending = s.pending := by
  first
  | (simp [yank]; done)
  | (simp only [yank]; (repeat' split) <;> simp; done)
  | (simp only [yank]; (try simp); (repeat' split) <;> (try simp); done)

@[simp] theorem positionFault_frame (s : State) : (positionFault s).pending = s.pending := by
  first
  | (simp [positionFault]; done)
  | (simp only [positionFault]; (repeat' split) <;> simp; done)
  | (simp only [positionFault]; (try simp); (repeat' split) <;> (try simp); done)

@[simp] theorem legalEdge_frame (s : State) (x1 : Nat) (x2 : Enc) (x3 : Bool) (x4 : Rat) : (legalEdge s x1 x2 x3
    x4).pending = s.pending := by
  first
  | (simp [legalEdge]; done)
  | (simp only [legalEdge]; (repeat' split) <;> simp; done)
  | (simp only [legalEdge]; (try simp); (repeat' split) <;> (try simp); done)

@[simp] theorem endTicketJob_frame (s : State) (x1 : Job) : (endTicketJob s x1).pending = s.pending := by
  first
  | (simp [endTicketJob]; done)
  | (simp only [endTicketJob]; (repeat' split) <;> simp; done)
  | (simp only [endTicketJob]; (try simp); (repeat' split) <;> (try simp); done)

@[simp] theorem endCut_frame (s : State) : (endCut s).pending = s.pending := by
  first
  | (simp [endCut]; done)
  | (simp only [endCut]; (repeat' split) <;> simp; done)
  | (simp only [endCut]; (try simp); (repeat' split) <;> (try simp); done)

@[simp] theorem endCutHoming_frame (s : State) : (endCutHoming s).pending = s.pending := by
  first
  | (simp [endCutHoming]; done)
  | (simp only [endCutHoming]; (repeat' split) <;> simp; done)
  | (simp only [endCutHoming]; (try simp); (repeat' split) <;> (try simp); done)

@[simp] theorem endSledHoming_frame (s : State) : (endSledHoming s).pending = s.pending := by
  first
  | (simp [endSledHoming]; done)
  | (simp only [endSledHoming]; (repeat' split) <;> simp; done)
  | (simp only [endSledHoming]; (try simp); (repeat' split) <;> (try simp); done)

@[simp] theorem homesNow_frame (s : State) : (homesNow s).pending = s.pending := by
  first
  | (simp [homesNow]; done)
  | (simp only [homesNow]; (repeat' split) <;> simp; done)
  | (simp only [homesNow]; (try simp); (repeat' split) <;> (try simp); done)

end Sys2Proof.Machine
end

