-- ==== Sys2Proof/Laws/Mailbox.lean ====
section
/-! SUPPORT. What serving a request comes to: an admitted request runs its command, and its answer is queued. -/

namespace Sys2Proof.Laws
open Sys2Proof.Machine

/-- Waking from DOZE leaves the main domain as it is. -/
theorem wakeDoze_main (s : State) : (wakeDoze s).rst.main = s.rst.main := by
  simp only [wakeDoze, enterPstate, logEvent, logFor, logAt, countLost]
  (repeat' split) <;> rfl

theorem modBox_main (s : State) (b : Box) (f : Ctx → Ctx) : (modBox s b f).rst.main = s.rst.main := by
  cases b <;> rfl

/-- Accepting a request leaves the main domain as it is. -/
theorem accepted_main (r : Req) (s : State) : (accepted r s).rst.main = s.rst.main := by
  rw [accepted, wakeDoze_main, modBox_main]

/-- An admitted request runs its command on the accepted state, and the command's reply is queued as its answer. -/
theorem serve_admitted (op : Nat) (h : Handler) (r : Req) (s : State) (adm : admitted op r s = true) :
    serve op h r s = answered op r (h r (accepted r s)).1 (h r (accepted r s)).2 := by
  simp only [admitted, Bool.and_eq_true, Bool.not_eq_true', decide_eq_true_eq, Option.isNone_iff_eq_none] at adm
  obtain ⟨⟨⟨⟨⟨⟨hc, hm⟩, hmsg⟩, hslot⟩, hk⟩, hroom⟩, hr⟩ := adm
  have hmain : s.rst.main = .ready := by simpa [coreRuns] using hc
  have hcore : coreRuns (accepted r s) = true := by simp [coreRuns, accepted_main, hmain]
  have hroom' : ¬((op = 0x0301 ∨ op = 0x0302) ∧ (!jobRoom (accepted r s) r.ctx.val) = true) := by
    rintro ⟨ho, hj⟩
    rcases ho with rfl | rfl <;> simp_all
  rw [accepted] at hcore hmsg hslot hk hr hroom'
  unfold serve
  simp only [hmain, hcore, hmsg, ne_eq, not_true_eq_false, false_and, if_false, Bool.not_true, Bool.false_eq_true]
  cases ho : opRight op with
  | none => simp [ho] at hr
  | some right =>
    simp only [ho] at hr ⊢
    have hr' := Option.isNone_iff_eq_none.mp hr
    simp only [hr', beginMsg, hk, hm, Nat.not_le.mpr hslot, hroom', decide_false, if_false, Bool.not_false, or_true,
      if_true, Bool.false_eq_true, false_and, answered, accepted]

/-- A reading of the state that mailbox bookkeeping and waking leave alone, and that the command leaves alone, is left
alone by serving the request. -/
theorem serve_keeps {α : Type} (g : State → α) (hb : ∀ s b f, g (modBox s b f) = g s) (hw : ∀ s, g (wakeDoze s) = g s)
    (op : Nat) (h : Handler) (hh : ∀ r s, g (h r s).2 = g s) (r : Req) (s : State) : g (serve op h r s) = g s := by
  have ha : ∀ s b op q fl rep, g (answer s b op q fl rep) = g s := by
    intro s b op q fl rep
    simp only [answer, cacheResponse, refuseVia, queueResponse, modCnt]
    (repeat' split) <;> simp only [hb]
  have hbeg : ∀ r b s, g (beginMsg h op r b s).2 = g s := by
    intro r b s
    simp only [beginMsg]
    (repeat' split) <;> simp only [hb, hh]
  have hcon : ∀ r b m s, g (continueMsg h op r b m s).2 = g s := by
    intro r b m s
    simp only [continueMsg]
    (repeat' split) <;> simp only [hb, hh]
  simp only [serve]
  split
  · rfl
  · split
    · rw [ha, hw, hb]
    · split
      · rw [ha, hcon, hw, hb]
      · split
        · rw [ha, hw, hb]
        · split
          · rw [ha, hw, hb]
          · split
            · rw [ha, hw, hb]
            · rw [ha, hbeg, hw, hb]

/-- A judged command that keeps a reading keeps it whether or not its fields pass. -/
theorem judge_keeps {α : Type} (g : State → α) (s : State) (l : Bool) (cs : List (Nat × Bool))
    (go : State → Reply × State) (hg : ∀ s, g (go s).2 = g s) : g (judge s l cs go).2 = g s := by
  simp only [judge]
  (repeat' split) <;> simp [hg]

end Sys2Proof.Laws
end

