-- ==== Sys2Proof/Laws/Requests.lean ====
section
/-! SUPPORT. What accepting a request leaves as it is, and where the boxes of the links stand after it. -/

namespace Sys2Proof.Machine

/-- Entering RUN from DOZE changes the power state and the watchdog alone of their records, and of the log what it stages. -/
@[simp] theorem wakeDoze_rst (s : State) : (wakeDoze s).rst.vaoGood = s.rst.vaoGood ∧
    (wakeDoze s).rst.vioGood = s.rst.vioGood ∧ (wakeDoze s).rst.vddaGood = s.rst.vddaGood ∧
    (wakeDoze s).rst.main = s.rst.main ∧ (wakeDoze s).rst.otpClean = s.rst.otpClean ∧
    (wakeDoze s).rst.otpHold = s.rst.otpHold ∧ (wakeDoze s).rst.testHold = s.rst.testHold ∧
    (wakeDoze s).rst.clockHold = s.rst.clockHold ∧ (wakeDoze s).rst.rstoutHigh = s.rst.rstoutHigh ∧
    (wakeDoze s).rst.rstoutMin = s.rst.rstoutMin ∧ (wakeDoze s).rst.cause = s.rst.cause ∧
    (wakeDoze s).rst.causeOpen = s.rst.causeOpen ∧ (wakeDoze s).rst.hibWake = s.rst.hibWake ∧
    (wakeDoze s).rst.xo25Run = s.rst.xo25Run ∧ (wakeDoze s).rst.hostAddr = s.rst.hostAddr ∧
    (wakeDoze s).rst.abHubCfg = s.rst.abHubCfg ∧ (wakeDoze s).rst.abSeqReq = s.rst.abSeqReq ∧
    (wakeDoze s).rst.abSeqNvm = s.rst.abSeqNvm ∧ (wakeDoze s).rst.abOtpRd = s.rst.abOtpRd ∧ (wakeDoze s).rst.raHub = s.rst.raHub ∧
    (wakeDoze s).rst.raSeq = s.rst.raSeq ∧ (wakeDoze s).rst.raOtp = s.rst.raOtp ∧
    (wakeDoze s).rst.hubEvt = s.rst.hubEvt ∧ (wakeDoze s).rst.wkEvt = s.rst.wkEvt ∧
    (wakeDoze s).rst.fresh = s.rst.fresh ∧
    (wakeDoze s).rst.resetPend = s.rst.resetPend ∧ (wakeDoze s).rst.fullPend = s.rst.fullPend ∧
    (wakeDoze s).rst.firstReadyDone = s.rst.firstReadyDone := by
  simp only [wakeDoze, enterPstate, logEvent, logFor, logAt, countLost]
  (repeat' split) <;> simp

@[simp] theorem wakeDoze_pwr (s : State) : (wakeDoze s).pwr.entry = s.pwr.entry ∧
    (wakeDoze s).pwr.wakeCause = s.pwr.wakeCause ∧ (wakeDoze s).pwr.wakeTime = s.pwr.wakeTime ∧
    (wakeDoze s).pwr.wakeSeen = s.pwr.wakeSeen ∧ (wakeDoze s).pwr.reedCap = s.pwr.reedCap ∧
    (wakeDoze s).pwr.reedRefused = s.pwr.reedRefused ∧ (wakeDoze s).pwr.entryState = s.pwr.entryState ∧
    (wakeDoze s).pwr.napJobs = s.pwr.napJobs ∧ (wakeDoze s).pwr.napDiscard = s.pwr.napDiscard ∧
    (wakeDoze s).pwr.napLimit = s.pwr.napLimit ∧ (wakeDoze s).pwr.wkLevel = s.pwr.wkLevel ∧
    (wakeDoze s).pwr.lastCause = s.pwr.lastCause ∧ (wakeDoze s).pwr.moving = s.pwr.moving ∧
    (wakeDoze s).pwr.railsFull = s.pwr.railsFull ∧ (wakeDoze s).pwr.collect = s.pwr.collect ∧
    (wakeDoze s).pwr.moveDue = s.pwr.moveDue := by
  simp only [wakeDoze, enterPstate, logEvent, logFor, logAt, countLost]
  (repeat' split) <;> simp

@[simp] theorem wakeDoze_log (s : State) : (wakeDoze s).log.next = s.log.next ∧ (wakeDoze s).log.lowest = s.log.lowest
    ∧ (wakeDoze s).log.checked = s.log.checked ∧ (wakeDoze s).log.lossSeen = s.log.lossSeen ∧
    (wakeDoze s).log.bootCount = s.log.bootCount ∧ (wakeDoze s).log.newestRec = s.log.newestRec ∧
    (wakeDoze s).log.ctrlAt = s.log.ctrlAt := by
  simp only [wakeDoze, enterPstate, logEvent, logFor, logAt, countLost]
  (repeat' split) <;> simp

/-- A wake from DOZE gives the motors of what is still to finish their enables back, and leaves all else of motion. -/
theorem wakeDoze_motion (s : State) : (wakeDoze s).motion = { s.motion with en := (wakeDoze s).motion.en } := by
  simp only [wakeDoze, enterPstate]
  (repeat' split) <;> simp

/-- Of the network a box change reaches the connections alone. -/
@[simp] theorem modBox_net (s : State) (b : Box) (f : Ctx → Ctx) : (modBox s b f).net.up = s.net.up ∧
    (modBox s b f).net.hundred = s.net.hundred ∧ (modBox s b f).net.full = s.net.full ∧
    (modBox s b f).net.ip4 = s.net.ip4 ∧ (modBox s b f).net.byDhcp = s.net.byDhcp ∧
    (modBox s b f).net.linkLocal = s.net.linkLocal ∧ (modBox s b f).net.ip6 = s.net.ip6 ∧ (modBox s b f).net.ip6Local = s.net.ip6Local ∧
    (modBox s b f).net.rxOctets = s.net.rxOctets ∧ (modBox s b f).net.txOctets = s.net.txOctets ∧
    (modBox s b f).net.backoffs = s.net.backoffs ∧ (modBox s b f).net.lldpAlloc = s.net.lldpAlloc ∧
    (modBox s b f).net.lldpOn = s.net.lldpOn ∧ (modBox s b f).net.lldpBurst = s.net.lldpBurst ∧
    (modBox s b f).net.lldpEcho = s.net.lldpEcho ∧ (modBox s b f).net.lldpSent = s.net.lldpSent ∧
    (modBox s b f).net.echoSec = s.net.echoSec ∧ (modBox s b f).net.echoes = s.net.echoes ∧
    (modBox s b f).net.unreach = s.net.unreach ∧ (modBox s b f).net.phyOn = s.net.phyOn ∧
    (modBox s b f).net.lldpLast = s.net.lldpLast := by
  cases b <;> simp [modBox, modCtx]

/-- Accepting a request changes the expected sequence of one box and, where the part was in DOZE, its power state, the
watchdog, the motors' enables and what the log stages. Everything else reads as before. -/
@[simp] theorem accepted_frame (r : Req) (s : State) : (accepted r s).clk = s.clk ∧ (accepted r s).reed = s.reed ∧
    (accepted r s).port = s.port ∧ (accepted r s).uart = s.uart ∧ (accepted r s).usb = s.usb ∧
    (accepted r s).params = s.params ∧ (accepted r s).nvm = s.nvm ∧ (accepted r s).jobs = s.jobs ∧
    (accepted r s).saf = s.saf ∧ (accepted r s).fife = s.fife ∧ (accepted r s).cvu = s.cvu ∧
    (accepted r s).noz = s.noz ∧ (accepted r s).hub = s.hub ∧ (accepted r s).cal = s.cal ∧ (accepted r s).seq = s.seq
    ∧ (accepted r s).otp = s.otp ∧ (accepted r s).dbg = s.dbg ∧ (accepted r s).pending = s.pending := by
  simp [accepted]

theorem accepted_motion (r : Req) (s : State) : (accepted r s).motion = { s.motion with en := (accepted r s).motion.en } := by
  have h := wakeDoze_motion (modBox s (boxOf s r.link) (fun x => { x with e := some (r.seq + 1) }))
  simpa [accepted] using h

@[simp] theorem accepted_rst (r : Req) (s : State) : (accepted r s).rst.vaoGood = s.rst.vaoGood ∧
    (accepted r s).rst.vioGood = s.rst.vioGood ∧ (accepted r s).rst.vddaGood = s.rst.vddaGood ∧
    (accepted r s).rst.main = s.rst.main ∧ (accepted r s).rst.otpClean = s.rst.otpClean ∧
    (accepted r s).rst.otpHold = s.rst.otpHold ∧ (accepted r s).rst.testHold = s.rst.testHold ∧
    (accepted r s).rst.clockHold = s.rst.clockHold ∧ (accepted r s).rst.rstoutHigh = s.rst.rstoutHigh ∧
    (accepted r s).rst.rstoutMin = s.rst.rstoutMin ∧ (accepted r s).rst.cause = s.rst.cause ∧
    (accepted r s).rst.causeOpen = s.rst.causeOpen ∧ (accepted r s).rst.hibWake = s.rst.hibWake ∧
    (accepted r s).rst.xo25Run = s.rst.xo25Run ∧ (accepted r s).rst.hostAddr = s.rst.hostAddr ∧
    (accepted r s).rst.abHubCfg = s.rst.abHubCfg ∧ (accepted r s).rst.abSeqReq = s.rst.abSeqReq ∧
    (accepted r s).rst.abSeqNvm = s.rst.abSeqNvm ∧ (accepted r s).rst.abOtpRd = s.rst.abOtpRd ∧ (accepted r s).rst.raHub = s.rst.raHub ∧
    (accepted r s).rst.raSeq = s.rst.raSeq ∧ (accepted r s).rst.raOtp = s.rst.raOtp ∧
    (accepted r s).rst.hubEvt = s.rst.hubEvt ∧ (accepted r s).rst.wkEvt = s.rst.wkEvt ∧
    (accepted r s).rst.fresh = s.rst.fresh ∧
    (accepted r s).rst.resetPend = s.rst.resetPend ∧ (accepted r s).rst.fullPend = s.rst.fullPend ∧
    (accepted r s).rst.firstReadyDone = s.rst.firstReadyDone := by
  simp [accepted]

@[simp] theorem accepted_pwr (r : Req) (s : State) : (accepted r s).pwr.entry = s.pwr.entry ∧
    (accepted r s).pwr.wakeCause = s.pwr.wakeCause ∧ (accepted r s).pwr.wakeTime = s.pwr.wakeTime ∧
    (accepted r s).pwr.wakeSeen = s.pwr.wakeSeen ∧ (accepted r s).pwr.reedCap = s.pwr.reedCap ∧
    (accepted r s).pwr.reedRefused = s.pwr.reedRefused ∧ (accepted r s).pwr.entryState = s.pwr.entryState ∧
    (accepted r s).pwr.napJobs = s.pwr.napJobs ∧ (accepted r s).pwr.napDiscard = s.pwr.napDiscard ∧
    (accepted r s).pwr.napLimit = s.pwr.napLimit ∧ (accepted r s).pwr.wkLevel = s.pwr.wkLevel ∧
    (accepted r s).pwr.lastCause = s.pwr.lastCause ∧ (accepted r s).pwr.moving = s.pwr.moving ∧
    (accepted r s).pwr.railsFull = s.pwr.railsFull ∧ (accepted r s).pwr.collect = s.pwr.collect ∧
    (accepted r s).pwr.moveDue = s.pwr.moveDue := by
  simp [accepted]

@[simp] theorem accepted_log (r : Req) (s : State) : (accepted r s).log.next = s.log.next ∧
    (accepted r s).log.lowest = s.log.lowest ∧ (accepted r s).log.checked = s.log.checked ∧
    (accepted r s).log.lossSeen = s.log.lossSeen ∧ (accepted r s).log.bootCount = s.log.bootCount ∧
    (accepted r s).log.newestRec = s.log.newestRec ∧ (accepted r s).log.ctrlAt = s.log.ctrlAt := by
  simp [accepted]

@[simp] theorem accepted_net (r : Req) (s : State) : (accepted r s).net.up = s.net.up ∧
    (accepted r s).net.hundred = s.net.hundred ∧ (accepted r s).net.full = s.net.full ∧
    (accepted r s).net.ip4 = s.net.ip4 ∧ (accepted r s).net.byDhcp = s.net.byDhcp ∧
    (accepted r s).net.linkLocal = s.net.linkLocal ∧ (accepted r s).net.ip6 = s.net.ip6 ∧ (accepted r s).net.ip6Local = s.net.ip6Local ∧
    (accepted r s).net.rxOctets = s.net.rxOctets ∧ (accepted r s).net.txOctets = s.net.txOctets ∧
    (accepted r s).net.backoffs = s.net.backoffs ∧ (accepted r s).net.lldpAlloc = s.net.lldpAlloc ∧
    (accepted r s).net.lldpOn = s.net.lldpOn ∧ (accepted r s).net.lldpBurst = s.net.lldpBurst ∧
    (accepted r s).net.lldpEcho = s.net.lldpEcho ∧ (accepted r s).net.lldpSent = s.net.lldpSent ∧
    (accepted r s).net.echoSec = s.net.echoSec ∧ (accepted r s).net.echoes = s.net.echoes ∧
    (accepted r s).net.unreach = s.net.unreach ∧ (accepted r s).net.phyOn = s.net.phyOn ∧
    (accepted r s).net.lldpLast = s.net.lldpLast := by
  simp [accepted]

@[simp] theorem accepted_now (r : Req) (s : State) : now (accepted r s) = now s := by simp [now]
@[simp] theorem accepted_coreRuns (r : Req) (s : State) : coreRuns (accepted r s) = coreRuns s := by simp [coreRuns]
@[simp] theorem accepted_fwVer (r : Req) (s : State) : fwVer (accepted r s) = fwVer s := by simp [fwVer]
@[simp] theorem accepted_reading (r : Req) (s : State) (c : Nat) : reading (accepted r s) c = reading s c := by simp [reading]
@[simp] theorem accepted_jobOf (r : Req) (s : State) (c : Nat) : jobOf (accepted r s) c = jobOf s c := by simp [jobOf]
@[simp] theorem accepted_maskInForce (r : Req) (s : State) (c : Nat) : maskInForce (accepted r s) c = maskInForce s c := by simp [maskInForce]


/-- A context after a change of one of the twelve. -/
theorem ctxOf_modCtx (s : State) (c k : Nat) (f : Ctx → Ctx) :
    ctxOf (modCtx s c f) k = if k = c ∧ c < s.ctxs.length then f (ctxOf s c) else ctxOf s k := by
  simp only [ctxOf, modCtx, modAt, List.getD_eq_getElem?_getD, List.getElem?_modify]
  by_cases h : c = k
  · subst h
    by_cases hl : c < s.ctxs.length <;> simp [hl]
  · have : ¬ (k = c) := fun e => h e.symm
    simp [h, this]

/-- A connection after a change of the box of one. -/
theorem connOf_modBox (s : State) (id k : Nat) (f : Ctx → Ctx) :
    connOf (modBox s (.conn id) f) k = (connOf s k).map (fun c => if c.id = id then { c with box := f c.box } else c) := by
  simp only [connOf, modBox, List.find?_map]
  congr 2
  funext c
  simp only [Function.comp]
  split <;> rfl

/-- Changing a box leaves the links' boxes where they are, as long as it leaves the key of the session in force. -/
theorem boxOf_modBox (s : State) (b : Box) (f : Ctx → Ctx) (h : ∀ x, (f x).keyed = x.keyed) (l : Link) :
    boxOf (modBox s b f) l = boxOf s l := by
  have hk : ∀ c, (ctxOf (modBox s b f) c).keyed = (ctxOf s c).keyed := by
    intro c
    cases b with
    | ctx d =>
      simp only [modBox, ctxOf_modCtx]
      split
      · next e => rw [h, e.1]
      · rfl
    | conn id => rfl
  cases l with
  | conn k =>
    cases b with
    | ctx d =>
      have : connOf (modBox s (.ctx d) f) k = connOf s k := rfl
      simp only [boxOf, this, connOpen, hk]
      cases connOf s k with
      | none => rfl
      | some c => obtain ⟨i, src, v, raw, cx, box, buf, sk, hu⟩ := c; cases cx <;> rfl
    | conn id =>
      simp only [boxOf, connOf_modBox]
      cases connOf s k with
      | none => rfl
      | some c =>
        obtain ⟨i, src, v, raw, cx, box, buf, sk, hu⟩ := c
        by_cases e : i = id <;> cases cx <;> simp [e, connOpen, hk]
  | _ => rfl

theorem boxOf_wakeDoze (s : State) (l : Link) : boxOf (wakeDoze s) l = boxOf s l := by
  cases l <;> simp [boxOf, connOf, connOpen, ctxOf]

@[simp] theorem accepted_boxOf (r : Req) (s : State) (l : Link) : boxOf (accepted r s) l = boxOf s l := by
  rw [accepted, boxOf_wakeDoze]
  refine boxOf_modBox s _ _ ?_ l
  intro x
  rfl
end Sys2Proof.Machine
end

