-- ==== Sys2Proof/Machine/Pins.lean ====
section
/-! DEFINITION. The output balls as the state leaves them between commands (R41, R42): a function of State. A ball whose level
no rule gives between commands is none here, or a free value (log entry 144). What the balls do within a command, as the pulses
of a line or of a step, is the command's timing. -/

namespace Sys2Proof.Machine

/-- A level, or an output that is not driven. -/
inductive Level where
  | low | high | released
deriving DecidableEq, Repr

/-- The outputs of R41, by its rows. A current sink is true where it sinks; an enable is true where it is high. -/
structure Balls where
  hpSignals : Bool           -- any HPn_D, HPn_SCK, HPn_LAT or HPn_F high
  hpEn : BitVec 4
  mStep : BitVec 3
  mDir : List Bool           -- M0 to M2
  mEn : BitVec 3
  dgLed : Bool
  en : List Bool             -- EN0 to EN7
  droneLow : Bool
  disch : Bool
  led : BitVec 4
  senReleased : Bool         -- SEN_SCL and SEN_SDA
  senClock : Bool            -- SEN_SCK or SEN_SDO high
  senCs : BitVec 3
  refout : Bool
  hstReleased : Bool         -- HST_SCL and HST_SDA
  hstIrqLow : Bool
  uartTx : Level
  uartRts : Level
  usbPullUp : Bool
  ethLines : Bool            -- the PHY drives its lines
  ethLink : Bool
  ethAct : Option Bool       -- none while the PHY runs: the 50 ms after each frame are timing (R205)
  rstoutHigh : Bool
  tdo : Level
deriving DecidableEq, Repr

/-- The drop gate is in use: by a scan, or by a calibration of its LED or of a head (R438). -/
def gateLit (s : State) : Bool :=
  s.noz.scan.isSome || s.saf.actions.any (fun a => a.started && a.opcode == 0x0601 && s.cal.store.isNone &&
    (byteAt a.payload 0 == 5 || byteAt a.payload 0 == 7))

/-- UART_RTS is asserted: while at least 64 bytes of the receive buffer are free, or with UART_FLOW at 0 (R197). -/
def rtsAsserted (s : State) : Bool := pv s.params 0x0211 != 1 || decide (s.uart.rx.length + 64 ≤ 8192)

/-- A motor may step: enabled, and M1 and M2 not while DISCH is asserted (R414, R415). -/
def mayStep (s : State) (m : Nat) : Bool := !s.motion.disabled.toNat.testBit m && (m == 0 || !s.saf.disch)

/-- The chip selects: low while a transaction of the SPI bus runs with it, that of its descriptor's TARGET (R42, R472, R473). -/
def chipSelects (h : Hub) : BitVec 3 :=
  match h.busSpi with
  | t :: _ => if t.started then 7 &&& ~~~ (BitVec.ofNat 3 (2 ^ (fieldAt t.desc 1 1 % 4))) else 7
  | [] => 7

/-- The step rates that the motors run at, in steps/s (R402, R411, R412, R416): M0 from the line rate, in 1/65,536 step; M1 through
a cut or home; M2 along its path or home, and with the carriage from the position rate as M0 does (DEDUCED, log entry 165). -/
def stepRates (s : State) : List Nat :=
  let m := s.motion
  let lines := m.rate * pv s.params 0x0712 / 65536
  let home := pv s.params 0x0730
  let pass := carriage s && m.feed == .ticket
  let rates := [if pass then 0 else lines,
   if m.cutting.isSome then pv s.params 0x0723 else if m.homingCut then home else 0,
   if pass then lines else if m.homingSled || !m.sledPath.isEmpty then home else 0]
  rates.mapIdx (fun k r => if mayStep s k then r else 0)

/-- The balls between commands. -/
def balls (s : State) : Balls :=
  { hpSignals := false, hpEn := headEnable s, mStep := 0
    mDir := (List.range 3).map (fun m => coreRuns s && Config.motorDir m)
    mEn := s.motion.en, dgLed := coreRuns s && gateLit s
    en := s.seq.ch.map (·.en), droneLow := s.seq.droneLow, disch := s.saf.disch
    led := 0, senReleased := true, senClock := false, senCs := chipSelects s.hub, refout := s.rst.vaoGood
    hstReleased := true, hstIrqLow := hstIrqLow s
    uartTx := if s.uart.driven then .high else .released
    uartRts := if !s.uart.driven then .released else if rtsAsserted s then .low else .high
    usbPullUp := s.usb.attached
    ethLines := s.net.phyOn, ethLink := s.net.up, ethAct := if s.net.phyOn then none else some false
    rstoutHigh := s.rst.rstoutHigh, tdo := .released }

end Sys2Proof.Machine
end

