-- ==== Sys2Proof/WellFormed.lean ====
section
/-! DEFINITION. Which commands can arrive: the checks on operands that their types do not make. -/

namespace Sys2Proof

/-- The context that a link's requests name: 0 to 3 for the fixed links, 4 to 11 for a connection (R207, R219). -/
def Link.carries (l : Link) (c : Nat) : Bool :=
  match l with
  | .debug => c == 0
  | .i2c => c == 1
  | .uart => c == 2
  | .usb => c == 3
  | .conn _ => decide (4 ≤ c)

/-- A request as admission hands it on: its context is its link's, and one frame carries at most 4,096 bytes (R219). -/
def Req.wf (r : Req) : Bool := r.link.carries r.ctx.val && decide (r.payload.length ≤ 4096)

/-- The codes of the TAP instructions other than BYPASS (the debug port's instruction table). -/
def tapInstruction (code : BitVec 5) : Bool :=
  [0x00, 0x01, 0x02, 0x05, 0x10, 0x11, 0x12].contains code.toNat

/-- The request of a command that is one of the mailbox's opcodes. -/
def Instr.request : Instr → Option Req
  | .sysIdent r | .sysReset r | .sysCounters r | .sysTime r | .sysRtcSet r | .sysEcho r | .paramRead r
  | .paramWrite r | .paramCommit r | .paramRevert r | .paramDefaults r | .paramInfo r | .profileApply r
  | .jobSubmit r | .jobSubmitRaster r | .jobStatus r | .jobCancel r | .jobHold r | .jobRelease r | .jobList r
  | .jobPriority r | .hubValues r | .hubRecords r | .hubSlotSet r | .hubDescSet r | .hubDetectorSet r
  | .hubConfigRead r | .hubSubscribe r | .hubStatus r | .hubStickyClear r | .hubRecordsAck r | .pwrStateSet r
  | .pwrStateQuery r | .pwrOn r | .pwrOff r | .seqStatus r | .pwrRtcAlarm r | .dischHold r | .calStart r
  | .calStatus r | .calAbort r | .nozScan r | .nozMapRead r | .nozMark r | .serviceRun r | .fireCountRead r
  | .feed r | .mechStatus r | .logInfo r | .logRead r | .faultRead r | .snapshotRead r | .logClear r
  | .otpRead r | .otpProgram r | .otpKeyProgram r | .otpSeal r | .otpLock r | .otpShadow r | .otpStatus r
  | .lifecycleAdvance r | .returnChallenge r | .storeInfo r | .profileStore r | .profileErase r
  | .profileInfo r | .objectStore r | .objectErase r | .objectList r | .nvmWear r | .patchStore r
  | .sessionOpen r | .sessionProve r | .sessionClose r | .netStatus r | .netSessionEnd r | .rightsSet r
  | .rightsGet r => some r
  | _ => none

/-- The operands of a command that is no opcode. -/
def Instr.operandsOk : Instr → Bool
  | .uartLinkFrame body _ _ => body.all (· != 0x7E)
  | .rawJobRecord link _ => match link with
    | .usb => true
    | .conn _ => true
    | _ => false
  | .usbClassRequestStall request => request != 0x01 && request != 0x02
  | .lldpduReceived ttl pse => decide (ttl < 65536 ∧ pse < 65536)
  | .responseDelivered link => link != .i2c
  | .bypass code => !tapInstruction code
  | .respond hmac => hmac.length == 16
  | .hubTick codes _ => codes.dark.length == 27 && codes.lit.length == 27
  | .hubBusComplete spi result => !spi || (match result with
    | .frame _ _ => true
    | _ => false)
  | .calDone m => m.runs.all (fun r => decide (r.length ≤ 4)) && decide (m.verify.length ≤ 4) && decide (m.head.probes.length ≤ 128) && decide (m.head.tempCode ≤ 4095) &&
      m.head.runs.all (fun r => [r.v1, r.v2, r.ref1, r.ref2].all (fun v => decide (v ≤ 65520)))
  | _ => true

/-- A command that can arrive. -/
def Instr.wf (i : Instr) : Bool := i.operandsOk && i.request.all Req.wf

end Sys2Proof
end

