-- ==== Sys2Proof/Tests/Slice0.lean ====
section
/-! SUPPORT. Small states that meet the hypotheses of each obligation, the checks of WellFormed, and a few commands run
once on values that the spec gives. -/

namespace Sys2Proof.Tests
open Sys2Proof Sys2Proof.Machine
set_option Elab.async false


/-- A part in RUN at READY, with the rails up. -/
def ready : State := { State.reset with
  rst := { State.reset.rst with vaoGood := true, vioGood := true, vddaGood := true, main := .ready, rstoutHigh := true
                                wdtRun := true, xo25Run := true, otpClean := true, causeOpen := false }
  pwr := { State.reset.pwr with st := .run }
  uart := { State.reset.uart with driven := true }
  net := { State.reset.net with phyOn := true }
  hub := { State.reset.hub with running := true } }

/-- A request on the debug port, whose context holds every right while CORE is open. -/
def req (payload : List Byte) : Req := { link := .debug, ctx := 0, seq := 7, more := false, payload }


/-! ### Small changes to a state -/

def queue (cs : List Instr) : State := { ready with pending := cs }
def withRst (f : Rst → Rst) (s : State) : State := { s with rst := f s.rst }
def withClk (f : Clk → Clk) (s : State) : State := { s with clk := f s.clk }
def withPwr (f : Pwr → Pwr) (s : State) : State := { s with pwr := f s.pwr }
def inState (st : PState) (s : State) : State := withPwr (fun p => { p with st := st }) s

/-- The main domain held with nothing left to hold it, in a lifecycle of the one-time memory that is not BLANK. -/
def held : State := withRst (fun r => { r with main := .held, rstoutHigh := false, rstoutMin := false, wdtRun := false }) ready

/-- A word as the part stores it, with its check in the top bits where its kind has one. -/
def wordOf (i v : Nat) : BitVec 64 := BitVec.ofNat 64 (if otpHasCheck i then v + otpCheck v i * 2 ^ 48 else v)

/-- One-time memory with words programmed. -/
def otpWith (ws : List (Nat × Nat)) (s : State) : State :=
  { s with otp := { s.otp with words := ws.foldl (fun m w => m.set w.1 ⟨.valid, wordOf w.1 w.2, false, false⟩) s.otp.words } }

def withSeq (f : Seq → Seq) (s : State) : State := { s with seq := f s.seq }
def withSaf (f : Saf → Saf) (s : State) : State := { s with saf := f s.saf }
def withDbg (f : Dbg → Dbg) (s : State) : State := { s with dbg := f s.dbg }
def withUsb (f : Usb → Usb) (s : State) : State := { s with usb := f s.usb }
def withHub (f : Hub → Hub) (s : State) : State := { s with hub := f s.hub }
def withPort (f : HostPort → HostPort) (s : State) : State := { s with port := f s.port }
def withReed (f : Reed → Reed) (s : State) : State := { s with reed := f s.reed }
def withLog (f : Log → Log) (s : State) : State := { s with log := f s.log }
def withNvm (f : Nvm → Nvm) (s : State) : State := { s with nvm := f s.nvm }
def withNet (f : Net → Net) (s : State) : State := { s with net := f s.net }
def withMotion (f : Motion → Motion) (s : State) : State := { s with motion := f s.motion }
def withFife (f : Fife → Fife) (s : State) : State := { s with fife := f s.fife }
def withParams (ps : ParamMap) (s : State) : State := { s with params := { s.params with committed := ps, atStart := ps, atTicket := ps } }
def withJobs (js : List Job) (s : State) : State := { s with jobs := { s.jobs with live := js, nextId := 100 } }
def withCtx (c : Nat) (f : Ctx → Ctx) (s : State) : State := modCtx s c f

/-- One-time memory in lifecycle PROVISION. -/
def provisioned (s : State) : State := otpWith [(0, 1)] s

/-- A calibration of ADC_A that runs. -/
def calAction : Action := { opcode := 0x0601, ctx := some 0, seq := 1, payload := [1, 0, 0, 0, 0, 0, 0, 0], started := true }
def calibrating : State := withSaf (fun f => { f with actions := [calAction] }) ready

/-- The part in NAP with the rails still running. -/
def napping : State := withSeq (fun q => { q with ph := .running })
  (withPwr (fun p => { p with collect := some false }) <| withRst (fun r => { r with main := .asleep }) (inState .nap ready))

/-- A notification, and a response, waiting in a context's queue. -/
def note : OutFrame :=
  { use := .notification, opcode := 0x8002, seq := 0, status := 0, payload := [1, 2], more := false, endsSession := false
    whose := none }
def response : OutFrame :=
  { use := .request, opcode := 0x0104, seq := 6, status := 0, payload := [], more := false, endsSession := false
    whose := none }

/-- A request of context c with SYS_TIME, as a frame. -/
def timeFrame (c : Nat) : List Byte := frameBytes c 1 0 0x0104 7 0 [] none

/-- A job. -/
def job (id : Nat) (st : JobSt) : Job :=
  { id, ctx := 0, raw := false, raster := false, st, prio := 1, hold := 0, hostRef := 9, reprint := 0, holdFlag := false
    lines := 0, fired := 0, desc := [], params := [], bands := [], cut := 0, dec := none, wait := false, planned := 0
    banner := false, reprintDue := false, cancelling := false, aged := false, detail := 0, rendAt := 0, rendLeft := 0 }

/-- The device attached and configured. -/
def onUsb (s : State) : State := withUsb (fun u => { u with attached := true, vbus := true, configured := true }) s

/-- The link up with an address. -/
def onNet (s : State) : State := withNet (fun n => { n with up := true, ip4 := some 0x0A000002 }) (withParams [(0x0D01, [1]), (0x0D0D, [1])] s)

/-- A connection on context 4, with its session or without. -/
def conn (c : Option (Fin 12)) : Conn :=
  { id := 5, source := .v4 3, dest := .v4 0x0A000002, raw := false, ctx := c, box := Ctx.fresh, buf := [], skip := 0, hunt := false }
def withConn (c : Option (Fin 12)) (s : State) : State := withNet (fun n => { n with conns := [conn c] }) s
def keyed (c : Nat) (s : State) : State := withCtx c (fun x => { x with keyed := some ⟨[], [], [], false⟩ }) s

/-- A stored profile, unsigned, that sets nothing. -/
def emptyProfile : Profile := { bytes := zeros 64, keySlot := none }

/-- A job header of class NORMAL, and a raster job's head of no bytes. -/
def jobHeader : List Byte := [1, 0, 0, 0, 9, 0, 0, 0]
def rasterHead : List Byte := jobHeader ++ zeros 8
def fed : State := match feedRaster (addRaster (accepted (req rasterHead) ready) 0 rasterHead false 0) 1 [] with
  | .fed s => s
  | .busy => ready
/-- The state of a job that a context other than 0 owns. -/
def foreign : Job := { job 5 .queued with ctx := 1 }

/-- Fresh readings of the junction (25 C) and of VAO (5 V), so that words can be programmed. -/
def programmable (s : State) : State := withHub (fun h => { h with
  latest := (h.latest.set 20 ⟨1556, 0, true⟩).set 21 ⟨4095, 0, true⟩ }) s

/-- In lifecycle FIELD, with the keys of context 1 and of SERVICE programmed. -/
def fielded (s : State) : State := otpWith [(0, 1), (1, 1), (44, 5), (45, 6), (50, 7), (51, 8)] s

/-- A profile of one entry (parameter 0x0401), signed with the key of KEYDIG slot 1. -/
def signedProfile : List Byte :=
  [0x4E, 0x4C, 0x50, 0x46, 1, 0, 1, 0, 6, 0, 0, 0, 5, 0, 0, 0, 1, 0, 0, 0] ++ zeros 44 ++ [1, 4, 2, 2, 200, 0] ++
  beBytes 32 0x26efcebd0ee9e34a669187e18b3a9122b2f733945b649cc9f9f921e9f9dad812 ++
  beBytes 32 0x90238bde9cc7bb330d150c67704dd25ae7055205744b6f31bf4070745872d0e6 ++
  beBytes 32 0x6b17d1f2e12c4247f8bce6e563a440f277037d812deb33a0f4a13945d898c296 ++
  beBytes 32 0xf113348407bb14177153457eb148c333503399789371fe3d8620264e4676a5a8
def keyed1 (s : State) : State := otpWith [(14, 0xe35fdcf336cfc1cb), (15, 0xb0cbc4905819aca7)] s

/-- Every rail on and good, RUNNING. -/
def onCh : ChRun := { ChRun.off with en := true, pg := true, pgSeen := true, monitored := true }
def allUp : State := withSeq (fun q => { q with ph := .running, state := 15, ch := List.replicate 8 onCh }) ready

/-- In an up-sequence or a shutdown. -/
def rising (f : Seq → Seq) : State := withSeq (fun q => f { q with ph := .up }) ready
def falling (f : Seq → Seq) : State := withSeq (fun q => f { q with ph := .down, ch := List.replicate 8 onCh }) ready

/-- DRONE in use. -/
def drone (f : Seq → Seq) (s : State) : State := withSeq (fun q => f { q with cfg := { q.cfg with drone := true } }) s

/-- A fault record that waits to be written. -/
def oneRec : PendingRec := { compact := [1], snap := none, atReady := false }

/-- Fresh readings of the channels that Saffron lives by. -/
def fresh (s : State) : State := withHub (fun h => { h with latest := List.replicate 27 ⟨4000, 0, true⟩ }) s

/-- A job of one band that prints, with the feed at speed, no die in use and DISCH released. -/
def band : Band := { black := [], red := [], lines := 64, dots := [0, 0, 0, 0], maxDots := [0, 0, 0, 0], overrides := [], blocks := 1 }
def printJob : Job := { job 5 .printing with raster := true, lines := 64, bands := [some band], cut := 1 }
def ticket : Ticket :=
  { job := 5, clockLine := 0, admitted := [], step := 100, paused := false, stopAt := none, restart := false
    lastScale := [], warm := [], maps := [], feedFrom := 0, energy := [], hot := false }
def printing (t : Ticket) (dies : Byte) : State :=
  let s := withParams [(0x0801, [dies])] (withJobs [printJob] (fresh allUp))
  withMotion (fun m => { m with feed := .ticket, rate := 1000, cutIn := homeActive ready 0 true, capped := true
                                sledPos := some (pv ready.params 0x0732) })
    (withSaf (fun f => { f with disch := false, ticket := some t }) s)

/-- A bus transaction. -/
def tx (started : Bool) : BusTx := { slot := 12, desc := [], started, time := 0, retries := 0, overrun := false }

/-- A partial scan of die 0 with nothing tested yet, so that every nozzle is its target; its gate's set-up passes and every drop
is seen. -/
def scan : ScanRun := { dies := [0], part := true, auto := false, yield := false, wait := none, ran := true }
def scanning : State := { withParams [(0x0907, [2])] allUp with noz := { ready.noz with scan := some scan } }
def drop (code : Byte) : Shadow := ⟨List.replicate 16 200, List.replicate (winSamples scanning + 3) code⟩
def gate : GateSeen := ⟨[200], List.replicate 64 (drop 200)⟩
def seen (i : Nat) : NozTest :=
  { die := 0, col := Fin.ofNat 4 (i / 528), idx := Fin.ofNat 528 i
    drops := List.replicate (pv scanning.params 0x0904) (drop 100) }
def service (routine : Nat) : SvcRun := { routine, dies := [0], left := 0, after := 0, firing := 0, due := 0, wait := some 0 }


/-- A measurement of a reference, and a calibration of it that runs. -/
def meas : CalMeas := { runs := [[640000], [640000], [640000]], verify := [640000], tCal := 25, fail := none
                        head := ⟨⟨[], []⟩, [], 0, [], []⟩ }
def calRef : State :=
  let s := withSaf (fun f => { f with actions := [{ calAction with payload := [3, 0, 0, 0, 0, 0, 0, 0] }] }) (provisioned ready)
  { s with cal := { s.cal with aoHeld := true } }
def storing : State :=
  { programmable calRef with cal := { ready.cal with store := some (2, [20], 25, 9, 0) } }
def event : Event := { code := 0x0101, time := 0, ctx := 0, pstate := 0, job := 0, data := [1], boot := 1 }

/-- The smallest logo: eight dots on one line, black alone, unsigned. -/
def tinyLogo : List Byte := [0x4E, 0x4C, 0x4C, 0x47, 1, 1, 8, 0, 1, 0] ++ zeros 7 ++ zeros 128
def storeHead : List Byte := [2, 0] ++ b16 1 ++ b32 145 ++ b32 (crc32c tinyLogo).toNat ++ zeros 4
def storedLogo : StoreObj :=
  { logo := true, id := 1, signed := false, page := 0, crc := 9, bytes := [1, 2], stale := false }
def unsignedOk (s : State) : State := withParams [(0x0E10, [0])] s

/-- A request on the host port, a session being opened on its context, and keys for both unlocks. -/
def reqI (p : List Byte) : Req := { link := .i2c, ctx := 1, seq := 7, more := false, payload := p }
def opening : Session := ⟨zeros 16, zeros 16, [], false⟩
def openI : State := withCtx 1 (fun x => { x with opening := some opening }) (fielded ready)
def provKeys : State :=
  withDbg (fun d => { d with ir := .auth, asked := .service }) (otpWith [(0, 1), (50, 7), (51, 8), (52, 5), (53, 6)] ready)

/-- Whether SESSION_PROVE is admitted does not rest on its payload. -/
theorem prove_admitted (p : List Byte) (s : State) : admitted 0x0B02 (reqI p) s = admitted 0x0B02 (reqI []) s := by
  have h : opRight 0x0B02 = some none := by decide +kernel
  simp only [admitted, h, rightCheck]; rfl

/-- A page whose header is sound is with its check a sound snapshot, whatever else it holds. -/
theorem snap_sound (bs : List Byte) (h : bs.length = 252) (hb : recordBad (withCrc32c bs) = false) :
    snapOk (withCrc32c bs) = true := by
  simp only [snapOk, hb]
  simp [withCrc32c, slice, h, b32, leBytes]

def page : List Byte := withCrc16 (zeros 30) ++ zeros 220

theorem snap_newest (bs : List Byte) (k : Nat) (h : bs.length = 252) (hb : recordBad (withCrc32c bs) = false) :
    (validSnaps { ready.nvm with snaps := [(k, withCrc32c bs)] }).getLast? = some (k, withCrc32c bs) := by
  simp [validSnaps, snap_sound bs h hb]

/-! A whole run of that scan, and one that has not begun. -/

theorem gate_passes : gatePasses scanning gate = true := by
  have zero (l : List Int) (h : ∀ x ∈ l, x ≤ 0) : l.foldl max 0 = 0 := by
    induction l with
    | nil => rfl
    | cons a l ih =>
      have ha : max 0 a = 0 := by have := h a (by simp); omega
      simp only [List.foldl_cons, ha]
      exact ih (fun x hx => h x (by simp [hx]))
  have quiet : (gate.empty.flatMap (fun d => (List.range (winSamples scanning)).map (dip d))).all (fun x => decide (x ≤ 0)) = true := by
    decide +kernel
  simp only [gatePasses, gateNoise, zero _ (fun x hx => by simpa using List.all_eq_true.mp quiet x hx)]
  decide +kernel

theorem scan_targets : scanTargets scanning true 0 = List.range 2112 := by
  have hs : scanning.noz.states = [] := rfl
  simp only [scanTargets, hs, stateIn, find?, Nat.mul_zero, Nat.add_zero, List.map_id']
  exact List.filter_eq_self.mpr (fun a _ => by simp)

theorem seen_nozzle (i : Nat) (h : i < 2112) : testNozzle (seen i) = i := by
  simp [testNozzle, seen, nozIndex, Fin.ofNat]; omega

theorem seen_whole (i : Nat) : testWhole scanning (seen i).drops = true := by
  have h : testWhole scanning (seen 0).drops = true := by decide +kernel
  exact h

theorem seen_all (l : List Nat) (h : ∀ i ∈ l, i < 2112) : completedTests scanning l (l.map seen) = (l.map seen, []) := by
  induction l with
  | nil => rfl
  | cons i l ih =>
    simp [completedTests, seen_nozzle i (h i (by simp)), seen_whole, ih (fun k hk => h k (by simp [hk]))]

theorem scan_done (s : State) (g : GateSeen) (l : List Nat) (tests : List NozTest) (hg : gatePasses s g = true)
    (h : scanTargets s true 0 = l) :
    ∃ cut, scanDone s scan [g] tests = ((completedTests s l tests).1, (completedTests s l tests).2, none, cut) := by
  subst h; simp [scanDone, scan, rowsPassed, hg]

theorem scan_whole :
    ∃ cut, scanDone scanning scan [gate] ((List.range 2112).map seen) = ((List.range 2112).map seen, [], none, cut) := by
  have ⟨c, h⟩ := scan_done _ _ _ ((List.range 2112).map seen) gate_passes scan_targets
  exact ⟨c, h.trans (by rw [seen_all (List.range 2112) (fun i h => List.mem_range.mp h)])⟩

theorem scan_left : ∃ cut, scanDone scanning scan [gate] [] = ([], 0 :: List.range' 1 2111, none, cut) := by
  have h : completedTests scanning (0 :: List.range' 1 2111) [] = ([], 0 :: List.range' 1 2111) := by
    simp only [completedTests]
  have ht : scanTargets scanning true 0 = 0 :: List.range' 1 2111 := by
    rw [scan_targets, List.range_eq_range', List.range'_succ]
  have ⟨c, k⟩ := scan_done _ _ _ [] gate_passes ht
  exact ⟨c, k.trans (by rw [h])⟩

theorem seen_distinct : (((List.range 2112).map seen).map testNozzle).Nodup := by
  have h : ((List.range 2112).map seen).map testNozzle = List.range 2112 := by
    rw [List.map_map]
    exact (List.map_congr_left (fun i hi => seen_nozzle i (by simpa using hi))).trans (List.map_id _)
  rw [h]; exact List.nodup_range

/-- An echo being put together, of the bytes so far; with one that fills the reassembly pool nothing more has room. -/
def echoMsg (bs : List Byte) : OpenMsg := ⟨0x0106, bs, bs.length, 0, false, [], 0, 1⟩
def echoing (bs cs : List Byte) : State :=
  withCtx 3 (fun x => { x with msg := some (echoMsg cs) }) (withCtx 0 (fun x => { x with msg := some (echoMsg bs) }) ready)

theorem pool_used (bs cs : List Byte) : poolUsed (accepted (req [2]) (echoing bs cs)) = bs.length + cs.length := by
  have h : poolUsed (accepted (req [2]) (echoing bs cs)) = 0 + bs.length + 0 + 0 + cs.length := rfl
  omega

theorem full_pool : 262144 < poolUsed (accepted (req [2]) (echoing [1] (zeros 262144))) + (req [2]).payload.length := by
  rw [pool_used, zeros, List.length_replicate]; decide

/-- The system slots and one detector on VHEAD alone, with the tick's time enough for every piece of work. -/
def oneDet : State := withHub (fun h => { h with
  reserve := true, slots := Hub.sysSlots, slotRun := [], dets := (1 :: zeros 15) :: List.replicate 31 (zeros 16) }) ready

theorem no_slots (n : Nat) (h : 10 ≤ n) : slotKind (hubSlot oneDet.hub n) = 0 ∧ (slotRunOf oneDet.hub n).deferred = false := by
  have hl : Hub.sysSlots.length ≤ n := h
  have h1 : hubSlot oneDet.hub n = zeros 28 := by
    show Hub.sysSlots.getD n (zeros 28) = _
    simp [List.getD, List.getElem?_eq_none hl]
  rw [h1]; exact ⟨by decide, rfl⟩

theorem no_dets (k : Nat) (h : k ≠ 0) : detKind (hubDet oneDet.hub k) = 0 := by
  obtain ⟨k, rfl⟩ := Nat.exists_eq_succ_of_ne_zero h
  have hd : hubDet oneDet.hub (k + 1) = (List.replicate 31 (zeros 16)).getD k (zeros 16) := rfl
  have hz : detKind (zeros 16) = 0 := by decide
  rw [hd, List.getD, List.getElem?_replicate]; split <;> simp [hz]

/-! ### The hypotheses of each obligation can be met -/

/-- The hypotheses of StepRunsFrontCommand can be met: clauses 1, 2. -/
theorem witness_StepRunsFrontCommand :
    (∃ (s : State) (c : Instr) (rest : List Instr), s.pending = c :: rest) ∧
    (∃ (s : State), s.pending = []) :=
  ⟨⟨queue [.vioGood, .vioLow], .vioGood, [.vioLow], by decide +kernel⟩,
   ⟨ready, by decide +kernel⟩⟩

/-- The hypotheses of ResetLeavesOutputsSafe can be met: clauses 5. -/
theorem witness_ResetLeavesOutputsSafe :
    ∃ (n : Nat), n < 8 :=
  ⟨3, by decide +kernel⟩

/-- The hypotheses of QueueOnlyShrinks can be met. -/
theorem witness_QueueOnlyShrinks :
    ∃ (s : State) (t : State), step s = Host.Outcome.next t :=
  ⟨queue [.vioGood, .vioLow], { ready with pending := [.vioLow] }, by and_intros <;> first | decide +kernel | with_reducible rfl | exact fun _ h => nomatch h | exact fun _ => nofun | rfl⟩

/-- The hypotheses of OtpShapeKept can be met. -/
theorem witness_OtpShapeKept :
    ∃ (s : State) (t : State), OtpShape s ∧ step s = Host.Outcome.next t :=
  ⟨{ queue [.vioGood] with rst := ready.rst }, ready, by and_intros <;> first | decide +kernel | with_reducible rfl | exact fun _ h => nomatch h | exact fun _ => nofun | rfl⟩

/-- The hypotheses of ValidWordsStay can be met. -/
theorem witness_ValidWordsStay :
    ∃ (s : State) (t : State) (i : Nat) (w : OtpWord), s.otp.words[i]? = some w ∧ w.cond = Cond.valid ∧ step s =
      Host.Outcome.next t :=
  ⟨provisioned (queue [.vioGood]), provisioned ready, 0, ⟨.valid, wordOf 0 1, false, false⟩, by and_intros <;> first | decide +kernel | with_reducible rfl | exact fun _ h => nomatch h | exact fun _ => nofun | rfl⟩

/-- The hypotheses of ChargerOffUnderDisch can be met. -/
theorem witness_ChargerOffUnderDisch :
    ∃ (s : State) (t : State), ChargerSafe s ∧ step s = Host.Outcome.next t :=
  ⟨queue [.vioGood], ready, by and_intros <;> first | decide +kernel | with_reducible rfl | exact fun _ h => nomatch h | exact fun _ => nofun | rfl⟩

/-- The hypotheses of HostAddressIsSampledAtVaoGood can be met: clauses 1, 2. -/
theorem witness_HostAddressIsSampledAtVaoGood :
    (∃ (_ : BitVec 2) (s : State), s.rst.vaoGood = false) ∧
    (∃ (c : Instr) (s : State) (t : State), exec c s = Host.Outcome.next t ∧ c ≠ Instr.vaoGoodClear ∧ ∀ (asel : BitVec
      2), c = Instr.vaoGoodRise asel → s.rst.vaoGood = true) :=
  ⟨⟨3, State.reset, by decide +kernel⟩,
   ⟨.vioGood, ready, ready, by and_intros <;> first | decide +kernel | with_reducible rfl | exact fun _ h => nomatch h | exact fun _ => nofun | rfl⟩⟩

/-- The hypotheses of VaoStartsAndEndsClove can be met: clauses 1, 2. -/
theorem witness_VaoStartsAndEndsClove :
    (∃ (_ : BitVec 2) (s : State), s.rst.vaoGood = false) ∧
    (∃ (s : State), s.rst.vaoGood = true) :=
  ⟨⟨3, State.reset, by decide +kernel⟩,
   ⟨ready, by decide +kernel⟩⟩

/-- The hypotheses of VioAndVddaFallAndRise can be met: clauses 1, 2, 4, 5. -/
theorem witness_VioAndVddaFallAndRise :
    (∃ (s : State), s.rst.vaoGood = true ∧ s.rst.vioGood = true ∧ s.pwr.st ≠ PState.hibernate ∧ s.rst.fullPend =
      false) ∧
    (∃ (s : State), s.rst.vaoGood = true ∧ s.rst.vioGood = true ∧ s.pwr.st = PState.hibernate) ∧
    (∃ (s : State), running s 1537 = none) ∧
    (∃ (s : State) (a : Action), running s 1537 = some a) :=
  ⟨⟨ready, by decide +kernel⟩,
   ⟨inState .hibernate ready, by decide +kernel⟩,
   ⟨ready, by decide +kernel⟩,
   ⟨calibrating, calAction, by decide +kernel⟩⟩

/-- The hypotheses of ResetsHoldMainDomain can be met: clauses 1, 2, 3, 4, 5, 6. -/
theorem witness_ResetsHoldMainDomain_1 :
    (∃ (ns : Nat) (s : State), s.rst.vaoGood = true ∧ 1000 < ns ∧ s.pwr.st ≠ PState.hibernate) ∧
    (∃ (s : State), s.rst.wdtRun = true ∧ s.pwr.st ≠ PState.hibernate) ∧
    (∃ (s : State), s.rst.vaoGood = true ∧ s.rst.vioGood = true ∧ (s.pwr.st = PState.run ∨ s.pwr.st = PState.doze)) ∧
    (∃ (s : State), s.rst.main ≠ MainState.held ∧ (s.pwr.st = PState.run ∨ s.pwr.st = PState.doze) ∧ coreOpen s =
      true) ∧
    (∃ (s : State), s.rst.resetPend = some false ∧ s.pwr.st ≠ PState.hibernate) ∧
    (∃ (ns : Nat) (s : State), s.rst.vaoGood = true ∧ 200 ≤ ns ∧ ns ≤ 1000 ∧ s.pwr.st ≠ PState.hibernate) :=
  ⟨⟨1001, ready, by decide +kernel⟩,
   ⟨ready, by decide +kernel⟩,
   ⟨ready, by decide +kernel⟩,
   ⟨ready, by decide +kernel⟩,
   ⟨withRst (fun r => { r with resetPend := some false }) ready, by decide +kernel⟩,
   ⟨200, ready, by decide +kernel⟩⟩

/-- The hypotheses of ResetsHoldMainDomain can be met: clauses 7, 8, 9.1, 9.2. -/
theorem witness_ResetsHoldMainDomain_2 :
    (∃ (s : State), s.rst.resetPend = some true ∧ s.seq.due = 0 ∧ (s.seq.ph = Phase.off ∨ s.seq.ph = Phase.minOff ∨
      s.seq.ph = Phase.faultOff)) ∧
    (∃ (s : State), s.rst.resetPend = some true ∧ (s.seq.ph = Phase.running ∨ s.seq.ph = Phase.up)) ∧
    (∃ (s : State), s.rst.fullPend = true ∧ s.seq.ph = Phase.down) ∧
    (∃ (s : State), s.rst.fullPend = true ∧ (s.seq.ph = Phase.off ∨ s.seq.ph = Phase.minOff ∨ s.seq.ph =
      Phase.faultOff) ∧ s.seq.due = 0) :=
  ⟨⟨withRst (fun r => { r with resetPend := some true }) ready, by decide +kernel⟩,
   ⟨withRst (fun r => { r with resetPend := some true }) allUp, by decide +kernel⟩,
   ⟨withRst (fun r => { r with fullPend := true }) (falling id), by decide +kernel⟩,
   ⟨withRst (fun r => { r with fullPend := true }) ready, by decide +kernel⟩⟩

/-- The hypotheses of NrstPulseWidths can be met: clauses 1, 2, 3. -/
theorem witness_NrstPulseWidths :
    (∃ (ns : Nat) (_ : State), ns < 200) ∧
    (∃ (ns : Nat) (s : State), s.rst.vaoGood = true ∧ 1000 < ns ∧ s.pwr.st ≠ PState.hibernate) ∧
    (∃ (ns : Nat) (s : State), s.rst.vaoGood = true ∧ 1000 < ns ∧ s.pwr.st = PState.hibernate) :=
  ⟨⟨199, ready, by decide +kernel⟩,
   ⟨1001, ready, by decide +kernel⟩,
   ⟨1001, inState .hibernate ready, by decide +kernel⟩⟩

/-- The hypotheses of MainDomainReleasesAndCeholeComesUp can be met: clauses 2.1, 3, 4, 5, 6, 7. -/
theorem witness_MainDomainReleasesAndCeholeComesUp_1 :
    (∃ (s : State), s.rst.clockHold = true) ∧
    (∃ (s : State), releaseReady s = true ∧ s.rst.fullPend = false) ∧
    (∃ (s : State), releaseReady s = true ∧ lifecycle s.otp ≠ 0) ∧
    (∃ (s : State), releaseReady s = true ∧ lifecycle s.otp = 0) ∧
    (∃ (_ : Bool) (s : State), releaseReady s = false) ∧
    (∃ (_ : BitVec 3) (s : State), s.rst.main = MainState.booting ∧ s.rst.hibWake = false) :=
  ⟨⟨withRst (fun r => { r with clockHold := true }) held, by decide +kernel⟩,
   ⟨otpWith [(0, 1)] held, by decide +kernel⟩,
   ⟨provisioned held, by decide +kernel⟩,
   ⟨held, by decide +kernel⟩,
   ⟨true, ready, by decide +kernel⟩,
   ⟨1, withRst (fun r => { r with main := .booting }) ready, by decide +kernel⟩⟩

/-- The hypotheses of MainDomainReleasesAndCeholeComesUp can be met: clauses 8. -/
theorem witness_MainDomainReleasesAndCeholeComesUp_2 :
    ∃ (_ : BitVec 3) (s : State), s.rst.main = MainState.waking ∧ upPending s.seq = false :=
  ⟨3, withRst (fun r => { r with main := .waking }) (inState .nap ready), by decide +kernel⟩

/-- The hypotheses of ClocksFollowTheirReferences can be met: clauses 1, 2, 3, 4, 5, 6. -/
theorem witness_ClocksFollowTheirReferences_1 :
    (∃ (s : State), s.rst.vaoGood = true ∧ s.pwr.st ≠ PState.hibernate ∧ (s.clk.rtcAlarm = 0 ∨ BitVec.toNat (s.clk.rtc
      + 1) < BitVec.toNat s.clk.rtcAlarm)) ∧
    (∃ (s : State), s.rst.vaoGood = true ∧ s.pwr.st = PState.hibernate ∧ (s.clk.rtcAlarm = 0 ∨ BitVec.toNat (s.clk.rtc
      + 1) < BitVec.toNat s.clk.rtcAlarm)) ∧
    (∃ (s : State), s.rst.vaoGood = true ∧ s.clk.rtcAlarm ≠ 0 ∧ BitVec.toNat s.clk.rtcAlarm ≤ BitVec.toNat (s.clk.rtc
      + 1) ∧ s.rst.fullPend = false) ∧
    (∃ (s : State), s.rst.vaoGood = true ∧ s.clk.xo32 ≠ Xo32.notFitted ∧ s.clk.xo32 ≠ Xo32.adopted) ∧
    (∃ (s : State), s.clk.xo32 = Xo32.adopted) ∧
    (∃ (s : State), s.rst.vaoGood = true ∧ s.clk.xo32 = Xo32.absent) :=
  ⟨⟨withClk (fun c => { c with rtcAlarm := 2 }) ready, by decide +kernel⟩,
   ⟨withClk (fun c => { c with rtcAlarm := 2 }) (inState .hibernate ready), by decide +kernel⟩,
   ⟨withClk (fun c => { c with rtcAlarm := 1 }) ready, by decide +kernel⟩,
   ⟨ready, by decide +kernel⟩,
   ⟨withClk (fun c => { c with xo32 := .adopted }) ready, by decide +kernel⟩,
   ⟨ready, by decide +kernel⟩⟩

/-- The hypotheses of ClocksFollowTheirReferences can be met: clauses 7, 8, 9, 10. -/
theorem witness_ClocksFollowTheirReferences_2 :
    (∃ (_ : Nat) (s : State), s.rst.vaoGood = true ∧ s.clk.xo32 = Xo32.adopted ∧ s.clk.trimOnXo32 = true ∧ s.cal.due =
      [] ∧ aoRcRuns s = false) ∧
    (∃ (_ : Nat) (s : State), s.rst.vaoGood = true ∧ s.clk.xo32 ≠ Xo32.adopted ∧ s.rst.xo25Run = true ∧ (s.pwr.st =
      PState.run ∨ s.pwr.st = PState.doze) ∧ s.cal.due = [] ∧ aoRcRuns s = false) ∧
    (∃ (_ : Nat) (s : State), s.rst.vaoGood = true ∧ aoRcRuns s = true) ∧
    (∃ (_ : Nat) (s : State) (c : CalSel) (rest : List (Nat × CalSel)), s.rst.vaoGood = true ∧ s.cal.due = (2, c) ::
      rest ∧ (∀ (p : Nat × CalSel), p ∈ rest → p.fst ≠ 2) ∧ 2 < s.cal.active.length) :=
  ⟨⟨250001, withClk (fun c => { c with xo32 := .adopted, trimOnXo32 := true }) ready, by decide +kernel⟩,
   ⟨9, ready, by decide +kernel⟩,
   ⟨9, calRef, by decide +kernel⟩,
   ⟨9, { ready with cal := { ready.cal with due := [(2, CalSel.rom [20]), (1, CalSel.rom [7])] } }, CalSel.rom [20], [(1, CalSel.rom [7])], by decide +kernel⟩⟩

/-- The hypotheses of WakeSources can be met: clauses 1, 2, 3, 4, 5.1, 5.2. -/
theorem witness_WakeSources :
    (∃ (_ : Fin 6) (_ : Bool) (s : State), s.rst.vaoGood = true ∧ s.pwr.collect = none ∧ s.pwr.entry = none ∧ s.seq.ph
      ≠ Phase.faultOff) ∧
    (∃ (pin : Fin 6) (level : Bool) (s : State), s.rst.vaoGood = true ∧ s.pwr.st = PState.nap ∧ s.rst.main =
      MainState.asleep ∧ s.pwr.collect = some false ∧ s.pwr.wakeSeen = false ∧ s.seq.ph = Phase.running ∧ s.seq.due =
      0 ∧ s.rst.fullPend = false ∧ (wakeMask s false).testBit ↑pin = true ∧ level ≠ (pv s.params 1031).testBit ↑pin ∧
      s.pwr.wkLevel.toNat.testBit ↑pin ≠ level) ∧
    (∃ (s : State), s.pwr.st = PState.nap ∧ s.rst.main = MainState.asleep ∧ s.pwr.collect = some false ∧
      s.pwr.wakeSeen = false ∧ s.seq.ph = Phase.running ∧ s.seq.due = 0 ∧ s.rst.fullPend = false ∧ (wakeMask s
      false).testBit 9 = true) ∧
    (∃ (s : State), s.pwr.st = PState.nap ∧ s.rst.main = MainState.asleep ∧ s.pwr.collect = some false ∧
      s.pwr.wakeSeen = false ∧ s.seq.ph = Phase.running ∧ s.seq.due = 0 ∧ s.rst.fullPend = false ∧ (wakeMask s
      false).testBit 10 = true ∧ s.usb.suspended = true) ∧
    (∃ (s : State), s.usb.suspended = true ∧ s.pwr.collect = none ∧ s.pwr.entry = none ∧ s.seq.ph ≠ Phase.faultOff ∧
      s.pwr.st ≠ PState.doze) ∧
    (∃ (s : State), s.usb.suspended = true ∧ s.pwr.collect = none ∧ s.pwr.entry = none ∧ s.seq.ph ≠ Phase.faultOff ∧
      s.pwr.st = PState.doze) :=
  ⟨⟨3, true, ready, by decide +kernel⟩,
   ⟨5, !(pv napping.params 0x0407).testBit 5, withPwr (fun p => { p with wkLevel := if (pv napping.params 0x0407).testBit 5 then 0xFF else 0 }) (withParams [(0x0404, [0xFF, 0x0F])] napping), by decide +kernel⟩,
   ⟨withParams [(0x0404, [0xFF, 0x0F])] napping, by decide +kernel⟩,
   ⟨withUsb (fun u => { u with suspended := true }) (withParams [(0x0404, [0xFF, 0x0F])] napping), by decide +kernel⟩,
   ⟨withUsb (fun u => { u with suspended := true }) ready, by decide +kernel⟩,
   ⟨withUsb (fun u => { u with suspended := true }) (inState .doze ready), by decide +kernel⟩⟩

/-- The hypotheses of LowPowerEntries can be met: clauses 1, 2, 3, 4, 5, 6.1. -/
theorem witness_LowPowerEntries_1 :
    (∃ (s : State), s.pwr.st = PState.run ∧ coreRuns s = true ∧ s.pwr.entry = none ∧ idle s = true ∧ autoSpitDue { s
      with params := { s.params with atTicket := s.params.committed } } = false ∧ autoScanDue { s with params := {
      s.params with atTicket := s.params.committed } } = false) ∧
    (∃ (s : State), napIdleOk s = true ∧ s.pwr.entry = none) ∧
    (∃ (s : State) (e : Entry), s.pwr.entry = some e ∧ (e.req.isSome = true ∨ napIdleOk s = true) ∧ e.hib = false ∧
      entryHeld s e = false) ∧
    (∃ (s : State) (e : Entry), s.pwr.entry = some e ∧ e.req.isSome = true ∧ e.hib = true ∧ entryHeld s e = false) ∧
    (∃ (s : State) (e : Entry), s.pwr.entry = some e ∧ e.req = none ∧ napIdleOk s = false) ∧
    (∃ (s : State), napQuiet s = true ∧ pv s.params 1027 ≠ 0 ∧ s.pwr.napJobs = false ∧ s.seq.ph ≠ Phase.down ∧
      s.seq.due = 0 ∧ s.rst.fullPend = false) :=
  ⟨⟨ready, by decide +kernel⟩,
   ⟨withParams [(0x0402, [5, 0, 0, 0])] (inState .doze ready), by decide +kernel⟩,
   ⟨withMotion (fun m => { m with capped := true }) (withPwr (fun p => { p with entry := some ⟨false, false, 0, some (0, 1), false⟩ }) ready), ⟨false, false, 0, some (0, 1), false⟩, by decide +kernel⟩,
   ⟨withMotion (fun m => { m with capped := true }) (withPwr (fun p => { p with entry := some ⟨true, true, 0, some (0, 1), false⟩ }) ready), ⟨true, true, 0, some (0, 1), false⟩, by decide +kernel⟩,
   ⟨withPwr (fun p => { p with entry := some ⟨false, false, 0, none, false⟩ }) ready, ⟨false, false, 0, none, false⟩, by decide +kernel⟩,
   ⟨withParams [(0x0403, [5, 0, 0, 0])] napping, by decide +kernel⟩⟩

/-- The hypotheses of LowPowerEntries can be met: clauses 6.2, 7.1, 7.2, 8, 9.1, 9.2.1. -/
theorem witness_LowPowerEntries_2 :
    (∃ (s : State), napQuiet s = true ∧ pv s.params 1027 ≠ 0 ∧ s.pwr.napJobs = false ∧ s.seq.ph = Phase.down) ∧
    (∃ (s : State), napQuiet s = true ∧ s.pwr.napLimit ≠ 0 ∧ (s.pwr.napJobs = false ∨ s.pwr.napDiscard = true) ∧
      s.seq.ph ≠ Phase.down ∧ s.seq.due = 0 ∧ s.rst.fullPend = false) ∧
    (∃ (s : State), napQuiet s = true ∧ s.pwr.napLimit ≠ 0 ∧ (s.pwr.napJobs = false ∨ s.pwr.napDiscard = true) ∧
      s.seq.ph = Phase.down) ∧
    (∃ (s : State), s.rst.hibWake = true ∧ s.rst.vioGood = false ∧ s.rst.main = MainState.held ∧ s.pwr.st =
      PState.run) ∧
    (∃ (s : State), s.pwr.moving = true ∧ s.pwr.moveDue = true ∧ s.seq.ph ≠ Phase.down ∧ s.seq.due = 0 ∧
      s.rst.fullPend = false ∧ s.hub.stopping = true) ∧
    (∃ (s : State), s.pwr.moving = true ∧ s.pwr.moveDue = true ∧ s.seq.ph ≠ Phase.down ∧ s.seq.due = 0 ∧
      s.rst.fullPend = false ∧ s.hub.stopping = false) :=
  ⟨⟨withSeq (fun q => { q with ph := .down }) (withParams [(0x0403, [5, 0, 0, 0])] napping), by decide +kernel⟩,
   ⟨withPwr (fun p => { p with napLimit := 1 }) napping, by decide +kernel⟩,
   ⟨withSeq (fun q => { q with ph := .down }) (withPwr (fun p => { p with napLimit := 1 }) napping), by decide +kernel⟩,
   ⟨withRst (fun r => { r with hibWake := true, vioGood := false }) held, by decide +kernel⟩,
   ⟨withPwr (fun p => { p with moving := true, moveDue := true }) (withHub (fun h => { h with stopping := true }) napping), by decide +kernel⟩,
   ⟨withPwr (fun p => { p with moving := true, moveDue := true }) (withHub (fun h => { h with stopping := false }) napping), by decide +kernel⟩⟩

/-- The hypotheses of ReedOwnsAndRefuses can be met: clauses 1, 2, 3, 4, 5. -/
theorem witness_ReedOwnsAndRefuses :
    (∃ (s : State), s.reed.handover = true) ∧
    (∃ (s : State), s.reed.takeback = true ∧ coreRuns s = true) ∧
    (∃ (addr : Byte) (s : State), s.reed.owns = true ∧ s.reed.boot = false ∧ BitVec.toNat addr / 2 =
      s.rst.hostAddr.toNat ∧ s.rst.fullPend = false) ∧
    (∃ (addr : Byte) (s : State), s.reed.owns = true ∧ s.reed.boot = false ∧ BitVec.toNat addr / 2 =
      s.rst.hostAddr.toNat ∧ (wakeMask s true).testBit 6 = false ∧ (wakeMask s false).testBit 6 = false) ∧
    (∃ (addr : Byte) (s : State), s.reed.owns = true ∧ s.reed.boot = false ∧ BitVec.toNat addr / 2 ≠
      s.rst.hostAddr.toNat) :=
  ⟨⟨withReed (fun r => { r with handover := true }) ready, by decide +kernel⟩,
   ⟨withReed (fun r => { r with takeback := true, owns := true }) ready, by decide +kernel⟩,
   ⟨0x98, withReed (fun r => { r with owns := true, boot := false }) ready, by decide +kernel⟩,
   ⟨0x98, withParams [(0x0404, [0, 0]), (0x0405, [0, 0])] (withReed (fun r => { r with owns := true }) ready), by decide +kernel⟩,
   ⟨0x9A, withReed (fun r => { r with owns := true }) ready, by decide +kernel⟩⟩

/-- The hypotheses of WindowWrites can be met: clauses 2.1, 2.2, 2.3, 2.4, 2.5, 2.7. -/
theorem witness_WindowWrites_1 :
    (∃ (s : State) (bytes : List Byte), s.reed.owns = false ∧ coreRuns s = true ∧ s.port.pecOn = false ∧
      s.port.dbStatus ≠ 257 ∧ s.port.inBuf.length + bytes.length ≤ 4128) ∧
    (∃ (s : State), s.reed.owns = false ∧ coreRuns s = true ∧ s.port.pecOn = false) ∧
    (∃ (s : State) (v : Byte), s.reed.owns = false ∧ coreRuns s = true ∧ s.port.pecOn = false ∧ v ≠ 1) ∧
    (∃ (s : State) (_ : Byte), s.reed.owns = false ∧ coreRuns s = true ∧ s.port.pecOn = false) ∧
    (∃ (s : State), s.reed.owns = false ∧ coreRuns s = true ∧ s.port.pecOn = false) ∧
    (∃ (s : State) (_ : Byte), s.reed.owns = false ∧ coreRuns s = true ∧ s.port.pecOn = false) :=
  ⟨⟨withPort (fun p => { p with inBuf := List.replicate 40 0 }) ready, [1, 2], by decide +kernel⟩,
   ⟨ready, by decide +kernel⟩,
   ⟨ready, 2, by decide +kernel⟩,
   ⟨ready, 5, by decide +kernel⟩,
   ⟨ready, by decide +kernel⟩,
   ⟨ready, 5, by decide +kernel⟩⟩

/-- The hypotheses of WindowWrites can be met: clauses 2.8, 3.1, 3.2. -/
theorem witness_WindowWrites_2 :
    (∃ (s : State) (ptr : Byte) (_ : List Byte), s.reed.owns = false ∧ coreRuns s = true ∧ s.port.pecOn = false ∧ 64 ≤
      BitVec.toNat ptr) ∧
    (∃ (bytes : List Byte) (pec : Byte) (s : State) (ptr : Byte), s.reed.owns = false ∧ coreRuns s = true ∧
      s.port.pecOn = true ∧ bytes.length ≤ 255 ∧ BitVec.toNat ptr < 64 ∧ pec ≠ pecOf s ptr bytes) ∧
    (∃ (bytes : List Byte) (pec : Byte) (s : State), s.reed.owns = false ∧ coreRuns s = true ∧ s.port.pecOn = true ∧
      bytes.length ≤ 255 ∧ pec = pecOf s 32 bytes ∧ s.port.dbStatus ≠ 257 ∧ s.port.inBuf.length + bytes.length ≤ 4128) :=
  ⟨⟨ready, 0x40, [1], by decide +kernel⟩,
   ⟨[1], 0, withPort (fun p => { p with pecOn := true }) ready, 0x3F, by decide +kernel⟩,
   ⟨[1], pecOf (withPort (fun p => { p with pecOn := true }) ready) 0x20 [1], withPort (fun p => { p with pecOn := true }) ready, by decide +kernel⟩⟩

/-- The hypotheses of InboundBufferOverflows can be met: clauses 1, 2. -/
theorem witness_InboundBufferOverflows :
    (∃ (s : State) (b : Byte) (pec : Option Byte), s.reed.owns = false ∧ coreRuns s = true ∧ windowByte s 16 = 0 ∧
      windowByte s 17 = 0 ∧ s.port.inBuf.length ≤ 4128 ∧ (s.port.pecOn = false ∧ pec = none ∨ s.port.pecOn = true ∧
      pec = some (pecOf s 32 [b]))) ∧
    (∃ (s : State) (pec : Option Byte), s.reed.owns = false ∧ coreRuns s = true ∧ (s.port.pecOn = false ∧ pec = none ∨
      s.port.pecOn = true ∧ pec = some (pecOf s 10 [1]))) :=
  ⟨⟨withPort (fun p => { p with dbStatus := 0x0101 }) ready, 7, none, by decide +kernel⟩,
   ⟨ready, none, by decide +kernel⟩⟩

/-- The hypotheses of WindowReads can be met: clauses 1.1, 1.2, 1.3, 1.4, 1.5, 2. -/
theorem witness_WindowReads_1 :
    (∃ (s : State) (f : OutFrame) (fs : List OutFrame) (_ : Byte), s.reed.owns = false ∧ coreRuns s = true ∧
      s.port.pecOn = false ∧ (ctxOf s 1).out = f :: fs ∧ s.port.outPos + 1 < (wireBytes 1 (ctxOf s 1) f).length) ∧
    (∃ (s : State) (f : OutFrame) (fs : List OutFrame) (_ : Byte), s.reed.owns = false ∧ coreRuns s = true ∧
      s.port.pecOn = false ∧ (ctxOf s 1).out = f :: fs ∧ f.endsSession = false ∧ s.rst.resetPend = none ∧
      s.ctxs.length = 12 ∧ s.port.outPos + 1 = (wireBytes 1 (ctxOf s 1) f).length) ∧
    (∃ (s : State) (_ : Byte), s.reed.owns = false ∧ coreRuns s = true ∧ s.port.pecOn = false ∧ (ctxOf s 1).out = []) ∧
    (∃ (s : State) (f : OutFrame) (fs : List OutFrame), s.reed.owns = false ∧ coreRuns s = true ∧ s.port.pecOn = false
      ∧ (ctxOf s 1).out = f :: fs ∧ f.endsSession = false ∧ s.rst.resetPend = none ∧ s.ctxs.length = 12) ∧
    (∃ (s : State), s.reed.owns = false ∧ coreRuns s = true ∧ s.port.pecOn = false ∧ s.ctxs.length = 12) ∧
    (∃ (s : State) (f : OutFrame) (fs : List OutFrame) (_ : Nat), s.reed.owns = false ∧ coreRuns s = true ∧
      s.port.pecOn = true ∧ (ctxOf s 1).out = f :: fs ∧ s.port.outPos + 1 < (wireBytes 1 (ctxOf s 1) f).length) :=
  ⟨⟨withCtx 1 (fun x => { x with out := [note] }) ready, note, [], 1, by decide +kernel⟩,
   ⟨withPort (fun p => { p with outPos := 21 }) (withCtx 1 (fun x => { x with out := [note] }) ready), note, [], 1, by decide +kernel⟩,
   ⟨ready, 3, by decide +kernel⟩,
   ⟨withCtx 1 (fun x => { x with out := [note, note] }) ready, note, [note], by decide +kernel⟩,
   ⟨ready, by decide +kernel⟩,
   ⟨withPort (fun p => { p with pecOn := true }) (withCtx 1 (fun x => { x with out := [note] }) ready), note, [], 3, by decide +kernel⟩⟩

/-- The hypotheses of WindowReads can be met: clauses 3, 4. -/
theorem witness_WindowReads_2 :
    (∃ (s : State), s.port.dbStatus = 257 ∧ coreRuns s = true ∧ (s.port.inBuf.length < 16 ∨ s.port.inBuf.length ≠
      (headerOf s.port.inBuf).total)) ∧
    (∃ (s : State), s.port.dbStatus = 257 ∧ coreRuns s = true ∧ 16 ≤ s.port.inBuf.length ∧ s.port.inBuf.length =
      (headerOf s.port.inBuf).total) :=
  ⟨⟨withPort (fun p => { p with dbStatus := 0x0101, inBuf := [1] }) ready, by decide +kernel⟩,
   ⟨withPort (fun p => { p with dbStatus := 0x0101, inBuf := timeFrame 1 }) ready, by decide +kernel⟩⟩

/-- The hypotheses of LinkFramesArrive can be met: clauses 2, 3, 4, 5, 6, 7.1. -/
theorem witness_LinkFramesArrive_1 :
    (∃ (s : State), coreRuns s = true) ∧
    (∃ (_ : List Byte) (_ : Bool) (s : State), coreRuns s = true) ∧
    (∃ (body : List Byte) (ok : Bool) (s : State), coreRuns s = true ∧ s.uart.rx ++ body ≠ [] ∧ (uartPayload
      (s.uart.rx ++ body) = none ∨ ok = false ∨ s.uart.rxBad = true ∨ 8192 < (s.uart.rx ++ body).length)) ∧
    (∃ (_ : Bool) (s : State), s.uart.rx = [] ∧ s.uart.rxBad = false) ∧
    (∃ (body : List Byte) (f : List Byte) (s : State), coreRuns s = true ∧ s.uart.rx ++ body ≠ [] ∧ s.uart.rxBad =
      false ∧ (s.uart.rx ++ body).length ≤ 8192 ∧ uartPayload (s.uart.rx ++ body) = some f) ∧
    (∃ (s : State), s.ctxs.length = 12) :=
  ⟨⟨ready, by decide +kernel⟩,
   ⟨[1], false, ready, by decide +kernel⟩,
   ⟨[1], true, ready, by decide +kernel⟩,
   ⟨true, ready, by decide +kernel⟩,
   ⟨(withCrc16 (timeFrame 2)).drop 9, timeFrame 2, { ready with uart := { ready.uart with rx := (withCrc16 (timeFrame 2)).take 9 } }, by decide +kernel⟩,
   ⟨ready, by decide +kernel⟩⟩

/-- The hypotheses of LinkFramesArrive can be met: clauses 7.2, 7.3, 8, 9, 10, 11. -/
theorem witness_LinkFramesArrive_2 :
    (∃ (s : State) (c : Nat), s.ctxs.length = 12 ∧ c ≠ 2) ∧
    (∃ (s : State), s.ctxs.length = 12) ∧
    (∃ (bytes : List Byte) (s : State), linkUp s Link.usb = true ∧ (4124 < bytes.length ∨ bytes.length < 16 ∨
      bytes.length < (headerOf bytes).total)) ∧
    (∃ (bytes : List Byte) (s : State), linkUp s Link.usb = true ∧ 16 ≤ bytes.length ∧ bytes.length ≤ 4124 ∧ (headerOf
      bytes).total ≤ bytes.length) ∧
    (∃ (b : Byte) (s : State), coreRuns s = true ∧ s.usb.attached = true ∧ s.usb.configured = true ∧ s.usb.raw = [] ∧
      s.usb.skip = 0 ∧ rawJob s 3 = none ∧ b ≠ 78 ∧ s.ctxs.length = 12) ∧
    (∃ (bytes : List Byte) (s : State), coreRuns s = true ∧ s.usb.attached = true ∧ s.usb.configured = true ∧
      s.usb.raw = [] ∧ s.usb.skip = 0 ∧ rawJob s 3 = none ∧ bytes.length = 16 ∧ recordHeadOk bytes = true ∧ fieldAt
      bytes 4 1 ≤ 2 ∧ fieldAt bytes 6 1 ≤ 3 ∧ jobRoom s 3 = true ∧ idsSpent s = false) :=
  ⟨⟨ready, 5, by decide +kernel⟩,
   ⟨ready, by decide +kernel⟩,
   ⟨[1], onUsb ready, by decide +kernel⟩,
   ⟨timeFrame 3, onUsb ready, by decide +kernel⟩,
   ⟨1, onUsb ready, by decide +kernel⟩,
   ⟨ascii "NLRJ" ++ jobHeader ++ [16, 0, 0, 0], onUsb ready, by decide +kernel⟩⟩

/-- The hypotheses of UsbBusAndTransfers can be met: clauses 1, 2, 5.1, 5.2, 6.1, 6.2. -/
theorem witness_UsbBusAndTransfers_1 :
    (∃ (s : State), coreRuns s = true ∧ pv s.params 544 = 1 ∧ s.pwr.collect = none ∧ s.pwr.entry = none ∧ s.seq.ph ≠
      Phase.faultOff) ∧
    (∃ (s : State), s.usb.attached = true) ∧
    (∃ (s : State), s.pwr.st = PState.doze ∧ s.usb.attached = true ∧ coreRuns s = true) ∧
    (∃ (s : State), s.usb.attached = false ∨ coreRuns s = false) ∧
    (∃ (s : State), usbAnswers s = true) ∧
    (∃ (s : State) (q : Byte), usbAnswers s = true ∧ q ≠ 1 ∧ q ≠ 2) :=
  ⟨⟨withParams [(0x0220, [1])] ready, by decide +kernel⟩,
   ⟨onUsb ready, by decide +kernel⟩,
   ⟨inState .doze (onUsb ready), by decide +kernel⟩,
   ⟨ready, .inl (by decide +kernel)⟩,
   ⟨onUsb ready, by decide +kernel⟩,
   ⟨onUsb ready, 3, by decide +kernel⟩⟩

/-- The hypotheses of UsbBusAndTransfers can be met: clauses 6.3, 6.4, 7, 8.1. -/
theorem witness_UsbBusAndTransfers_2 :
    (∃ (s : State), usbAnswers s = true) ∧
    (∃ (s : State), usbAnswers s = true ∧ s.usb.configured = true ∧ s.usb.report ≠ attention s) ∧
    (∃ (s : State) (a : BitVec 16), usbAnswers s = true ∧ a.toNat < 128) ∧
    (∃ (s : State), usbAnswers s = true) :=
  ⟨⟨onUsb ready, by decide +kernel⟩,
   ⟨onUsb ready, by decide +kernel⟩,
   ⟨onUsb ready, 127, by decide +kernel⟩,
   ⟨onUsb ready, by decide +kernel⟩⟩

/-- The hypotheses of EthernetAddressesAndLldp can be met: clauses 1, 2, 3.1, 3.2, 4, 5.1. -/
theorem witness_EthernetAddressesAndLldp_1 :
    (∃ (_ : Bool) (_ : Bool) (_ : Bool) (s : State), netRuns s = true) ∧
    (∃ (_ : Word) (s : State), netRuns s = true ∧ s.net.ip4 = none) ∧
    (∃ (s : State) (a : BitVec 128), netRuns s = true ∧ pv s.params 3337 = 1 ∧ s.net.ip6 = some a) ∧
    (∃ (s : State) (_ : BitVec 128), netRuns s = true ∧ pv s.params 3337 = 1 ∧ s.net.ip6Local = none) ∧
    (∃ (_ : Word) (s : State), netRuns s = true ∧ s.net.up = true ∧ s.net.ip4 = none ∧ pv s.params 3333 = 0) ∧
    (∃ (s : State), netRuns s = true ∧ s.net.up = true) :=
  ⟨⟨true, true, true, onNet ready, by decide +kernel⟩,
   ⟨7, withNet (fun n => { n with ip4 := none }) (onNet ready), by decide +kernel⟩,
   ⟨withParams [(0x0D01, [1]), (0x0D09, [1])] (withNet (fun n => { n with ip6 := some 1 }) ready), 1, by decide +kernel⟩,
   ⟨withParams [(0x0D01, [1]), (0x0D09, [1])] ready, 1, by decide +kernel⟩,
   ⟨7, withNet (fun n => { n with ip4 := none }) (onNet ready), by decide +kernel⟩,
   ⟨onNet ready, by decide +kernel⟩⟩

/-- The hypotheses of EthernetAddressesAndLldp can be met: clauses 6, 7, 8. -/
theorem witness_EthernetAddressesAndLldp_2 :
    (∃ (s : State), lldpRuns s = true) ∧
    (∃ (ttl : Nat) (pse : Nat) (s : State), lldpRuns s = true ∧ ttl ≠ 0 ∧ pse ≠ 0 ∧ pv s.params 1537 ≠ 0) ∧
    (∃ (s : State), s.net.lldpOn = true ∧ pv s.params 1537 ≠ 0) :=
  ⟨⟨onNet ready, by decide +kernel⟩,
   ⟨1, 130, withParams [(0x0D01, [1]), (0x0D0D, [1]), (0x0601, [1])] (onNet ready), by decide +kernel⟩,
   ⟨withNet (fun n => { n with lldpOn := true }) (withSaf (fun f => { f with classAlloc := some 120 }) (withParams [(0x0601, [1])] ready)), by decide +kernel⟩⟩

/-- The hypotheses of ConnectionsComeAndGo can be met: clauses 1.1, 1.2, 2, 3, 4, 5. -/
theorem witness_ConnectionsComeAndGo_1 :
    (∃ (id : Nat) (source : IpAddr) (dest : IpAddr) (s : State) (c : Fin 12), netRuns s = true ∧ s.net.up = true ∧
      boundAt s.net dest = true ∧ lifecycle s.otp < 3 ∧ inBackoff s source = false ∧ connOf s id = none ∧ lowestFree s
      = some c) ∧
    (∃ (id : Nat) (source : IpAddr) (dest : IpAddr) (s : State) (c : Fin 12), netRuns s = true ∧ s.net.up = true ∧
      boundAt s.net dest = true ∧ lifecycle s.otp < 3 ∧ inBackoff s source = false ∧ connOf s id = none ∧ lowestFree s
      = some c ∧ pv s.params 3332 = 1) ∧
    (∃ (_ : Bool) (_ : Nat) (source : IpAddr) (dest : IpAddr) (s : State), boundAt s.net dest = false ∨ inBackoff s
      source = true) ∧
    (∃ (id : Nat) (k : Conn) (s : State), connOf s id = some k) ∧
    (∃ (id : Nat) (k : Conn) (s : State), connOf s id = some k ∧ k.raw = false ∧ connOpen s k = false) ∧
    (∃ (c : Fin 12) (k : Conn) (s : State), s.net.conns = [k] ∧ connOpen s k = true ∧ k.ctx = some c) :=
  ⟨⟨5, .v4 3, .v4 0x0A000002, onNet ready, 4, by decide +kernel⟩,
   ⟨5, .v6 3, .v6 7, withNet (fun n => { n with ip6Local := some 7 }) (withParams [(0x0D01, [1]), (0x0D04, [1])] (onNet ready)), 4, by decide +kernel⟩,
   ⟨false, 5, .v4 3, .v4 9, onNet ready, .inl (by decide +kernel)⟩,
   ⟨5, conn none, withConn none (onNet ready), by decide +kernel⟩,
   ⟨5, conn (some 4), withConn (some 4) (onNet ready), by decide +kernel⟩,
   ⟨4, conn (some 4), keyed 4 (withConn (some 4) (onNet ready)), by decide +kernel⟩⟩

/-- The hypotheses of ConnectionsComeAndGo can be met: clauses 6. -/
theorem witness_ConnectionsComeAndGo_2 :
    ∃ (k : Conn) (s : State), s.net.conns = [k] ∧ connOpen s k = true ∧ s.net.up = false ∧ coreRuns s = true :=
  ⟨conn (some 4), withNet (fun n => { n with up := false }) (keyed 4 (withConn (some 4) (onNet ready))), by decide +kernel⟩

/-- The hypotheses of DamagedFramesAreCounted can be met: clauses 1, 2, 3, 4.1, 4.2, 4.3. -/
theorem witness_DamagedFramesAreCounted_1 :
    (∃ (l : Link) (bs : List Byte) (s : State), mailboxUp s = true ∧ linkUp s l = true ∧ (∀ (id : Nat), l ≠ Link.conn
      id) ∧ headerOk bs = false) ∧
    (∃ (l : Link) (bs : List Byte) (s : State), mailboxUp s = true ∧ linkUp s l = true ∧ headerOk bs = true ∧ (4096 <
      (headerOf bs).length ∨ bs.length ≠ (headerOf bs).total)) ∧
    (∃ (l : Link) (bs : List Byte) (s : State), mailboxUp s = true ∧ linkUp s l = true ∧ headerOk bs = true ∧
      (headerOf bs).length ≤ 4096 ∧ bs.length = (headerOf bs).total ∧ slice bs (16 + (headerOf bs).length) 4 ≠ b32
      (BitVec.toNat (crc32c (List.take (16 + (headerOf bs).length) bs)))) ∧
    (∃ (l : Link) (bs : List Byte) (s : State), mailboxUp s = true ∧ linkUp s l = true ∧ headerOk bs = true ∧
      (headerOf bs).length ≤ 4096 ∧ bs.length = (headerOf bs).total ∧ slice bs (16 + (headerOf bs).length) 4 = b32
      (BitVec.toNat (crc32c (List.take (16 + (headerOf bs).length) bs))) ∧ ((headerOf bs).version ≠ 2 ∨ (headerOf
      bs).flags &&& 243 ≠ 0)) ∧
    (∃ (l : Link) (bs : List Byte) (s : State), mailboxUp s = true ∧ linkUp s l = true ∧ headerOk bs = true ∧
      (headerOf bs).length ≤ 4096 ∧ bs.length = (headerOf bs).total ∧ slice bs (16 + (headerOf bs).length) 4 = b32
      (BitVec.toNat (crc32c (List.take (16 + (headerOf bs).length) bs))) ∧ (headerOf bs).version = 2 ∧ (headerOf
      bs).flags &&& 243 = 0 ∧ ((∃ c, linkContext s l = some c ∧ (headerOf bs).context ≠ c) ∨ linkContext s l = none ∧
      12 ≤ (headerOf bs).context ∧ (headerOf bs).opcode ≠ 2817)) ∧
    (∃ (l : Link) (bs : List Byte) (s : State), mailboxUp s = true ∧ linkUp s l = true ∧ headerOk bs = true ∧
      (headerOf bs).length ≤ 4096 ∧ bs.length = (headerOf bs).total ∧ slice bs (16 + (headerOf bs).length) 4 = b32
      (BitVec.toNat (crc32c (List.take (16 + (headerOf bs).length) bs))) ∧ (headerOf bs).version = 2 ∧ (headerOf
      bs).flags &&& 243 = 0 ∧ linkContext s l = some (headerOf bs).context ∧ ((getBox s (boxOf s l)).keyed = none ∧
      (headerOf bs).flags.testBit 3 = true ∨ ∃ k, (getBox s (boxOf s l)).keyed = some k ∧ ((headerOf bs).flags.testBit
      3 = false ∨ slice bs (20 + (headerOf bs).length) 8 ≠ List.take 8 (hmac k.key (List.take (20 + (headerOf
      bs).length) bs))))) :=
  ⟨⟨.uart, [1, 2], ready, by and_intros <;> first | decide +kernel | with_reducible rfl | exact fun _ h => nomatch h | exact fun _ => nofun | rfl⟩,
   ⟨.uart, timeFrame 2 ++ [0], ready, by decide +kernel⟩,
   ⟨.uart, (timeFrame 2).set 18 0, ready, by decide +kernel⟩,
   ⟨.uart, frameBytes 2 1 1 0x0104 7 0 [] none, ready, by decide +kernel⟩,
   ⟨.uart, timeFrame 3, ready, by and_intros <;> first | decide +kernel | exact .inl ⟨2, by decide +kernel, by decide +kernel⟩⟩,
   ⟨.uart, frameBytes 2 1 8 0x0104 7 0 [] none ++ zeros 8, ready, by and_intros <;> first | decide +kernel | exact .inl (by decide +kernel)⟩⟩

/-- The hypotheses of DamagedFramesAreCounted can be met: clauses 5.1.1, 5.2, 6.1, 6.2.1, 6.2.2. -/
theorem witness_DamagedFramesAreCounted_2 :
    (∃ (c : Nat) (_ : Header) (s : State), s.ctxs.length = 12 ∧ c < 12 ∧ connOn s c = none ∧ ((ctxOf s c).keyed = none
      ∨ (ctxOf s c).tagFails < 2)) ∧
    (∃ (c : Nat) (_ : Header) (s : State), s.ctxs.length = 12 ∧ c < 12 ∧ connOn s c = none ∧ (ctxOf s c).keyed.isSome
      = true ∧ 2 ≤ (ctxOf s c).tagFails) ∧
    (∃ (b : Box) (_ : Header) (_ : Nat) (s : State) (t : Time), (getBox s b).refusedAt = some t ∧ since s t < 1000) ∧
    (∃ (b : Box) (_ : Header) (_ : Nat) (s : State), ((getBox s b).refusedAt = none ∨ ∃ t, (getBox s b).refusedAt =
      some t ∧ 1000 ≤ since s t) ∧ refusalUsed (getBox s b) = false) ∧
    (∃ (b : Box) (_ : Header) (_ : Nat) (s : State), ((getBox s b).refusedAt = none ∨ ∃ t, (getBox s b).refusedAt =
      some t ∧ 1000 ≤ since s t) ∧ refusalUsed (getBox s b) = true) :=
  ⟨⟨2, headerOf (timeFrame 2), ready, by decide +kernel⟩,
   ⟨2, headerOf (timeFrame 2), withCtx 2 (fun x => { x with tagFails := 2 }) (keyed 2 ready), by decide +kernel⟩,
   ⟨.ctx 2, headerOf (timeFrame 2), 0, withCtx 2 (fun x => { x with refusedAt := some 0 }) ready, 0, by decide +kernel⟩,
   ⟨.ctx 2, headerOf (timeFrame 2), 0, ready, .inl (by decide +kernel), by decide +kernel⟩,
   ⟨.ctx 2, headerOf (timeFrame 2), 0, withCtx 2 (fun x => { x with out := [{ response with use := .refusal }] }) ready, .inl (by decide +kernel), by decide +kernel⟩⟩

/-- The hypotheses of SoundFramesReachTheirCommand can be met. -/
theorem witness_SoundFramesReachTheirCommand :
    ∃ (l : Link) (c : Fin 12) (bs : List Byte) (s : State), (l, c) ∈ [(Link.i2c, (1 : Fin 12)), (Link.uart, 2),
      (Link.usb, 3)] ∧ mailboxUp s = true ∧ linkUp s l = true ∧ headerOk bs = true ∧ (headerOf bs).length ≤ 4096 ∧
      bs.length = (headerOf bs).total ∧ slice bs (16 + (headerOf bs).length) 4 = b32 (BitVec.toNat (crc32c (List.take
      (16 + (headerOf bs).length) bs))) ∧ (headerOf bs).version = 2 ∧ (headerOf bs).flags &&& 243 = 0 ∧ (headerOf
      bs).flags.testBit 3 = false ∧ (headerOf bs).context = c.val ∧ (ctxOf s c.val).keyed = none ∧ s.ctxs.length = 12
      ∧ ((ctxOf s c.val).opening = none ∨ (headerOf bs).opcode = 2817 ∨ (headerOf bs).opcode = 2818) ∧ (ctxOf s
      c.val).lastAlive ≠ some (headerOf bs).alive ∧ ((ctxOf s c.val).e = none ∨ (ctxOf s c.val).e = some (headerOf
      bs).seq) :=
  ⟨.uart, 2, timeFrame 2, ready, by decide +kernel⟩

/-- The hypotheses of RepeatsAndRefusals can be met: clauses 1, 2.1, 2.3, 2.4.1, 3.1, 3.2. -/
theorem witness_RepeatsAndRefusals_1 :
    (∃ (s : State) (b : Box) (h : Header) (_ : State → State), (getBox s b).lastAlive = some h.alive) ∧
    (∃ (s : State) (c : Nat) (h : Header) (v : Half) (_ : State → State), s.ctxs.length = 12 ∧ c < 12 ∧ (ctxOf s
      c).lastAlive ≠ some h.alive ∧ (ctxOf s c).e = some v ∧ v ≠ h.seq) ∧
    (∃ (s : State) (c : Nat) (h : Header) (v : Half) (_ : State → State), s.ctxs.length = 12 ∧ c < 12 ∧ (ctxOf s
      c).lastAlive ≠ some h.alive ∧ (ctxOf s c).e = some v ∧ v ≠ h.seq ∧ List.find? (fun e => e.seq == h.seq) (ctxOf s
      c).cache = none ∧ refusalUsed (ctxOf s c) = false) ∧
    (∃ (s : State) (c : Nat) (h : Header) (v : Half) (_ : State → State) (e : CacheEntry), s.ctxs.length = 12 ∧ c < 12
      ∧ (ctxOf s c).lastAlive ≠ some h.alive ∧ (ctxOf s c).e = some v ∧ v ≠ h.seq ∧ List.find? (fun e => e.seq ==
      h.seq) (ctxOf s c).cache = some e ∧ e.complete = false) ∧
    (∃ (op : Nat) (_ : Handler) (r : Req) (s : State), coreRuns s = true ∧ continued (accepted r s) r op = none ∧
      opRight op = none) ∧
    (∃ (op : Nat) (_ : Handler) (r : Req) (s : State) (right : Option Nat) (st : Nat), coreRuns s = true ∧ continued
      (accepted r s) r op = none ∧ opRight op = some right ∧ rightCheck (accepted r s) (frameMask (accepted r s)
      (boxOf s r.link)) (isUnopened (boxOf s r.link)) op right = some st) :=
  ⟨⟨withCtx 2 (fun x => { x with lastAlive := some 1 }) ready, .ctx 2, headerOf (timeFrame 2), fun s => s, by decide +kernel⟩,
   ⟨withCtx 2 (fun x => { x with e := some 8 }) ready, 2, headerOf (timeFrame 2), 8, fun s => s, by decide +kernel⟩,
   ⟨withCtx 2 (fun x => { x with e := some 8 }) ready, 2, headerOf (timeFrame 2), 8, fun s => s, by decide +kernel⟩,
   ⟨withCtx 2 (fun x => { x with e := some 8, cache := [⟨7, 0x0104, 0, none, false⟩] }) ready, 2, headerOf (timeFrame 2), 8, fun s => s, ⟨7, 0x0104, 0, none, false⟩, by decide +kernel⟩,
   ⟨0x0999, hSysTime, req [], ready, by decide +kernel⟩,
   ⟨0x0C01, hRightsSet, { req [] with link := .uart, ctx := 2 }, ready, some rAdmin, stNoRight, by decide +kernel⟩⟩

/-- The hypotheses of RepeatsAndRefusals can be met: clauses 3.3. -/
theorem witness_RepeatsAndRefusals_2 :
    ∃ (op : Nat) (_ : Handler) (r : Req) (s : State) (right : Option Nat), coreRuns s = true ∧ continued (accepted r
      s) r op = none ∧ opRight op = some right ∧ rightCheck (accepted r s) (frameMask (accepted r s) (boxOf s r.link))
      (isUnopened (boxOf s r.link)) op right = none ∧ 8 ≤ slotsUsed (getBox (accepted r s) (boxOf s r.link)) :=
  ⟨0x0104, hSysTime, req [], withCtx 0 (fun x => { x with out := List.replicate 8 response }) ready, none, by decide +kernel⟩

/-- The hypotheses of FragmentsBecomeMessages can be met: clauses 1.1, 1.2, 2.1, 2.2, 2.3.1, 2.3.2. -/
theorem witness_FragmentsBecomeMessages_1 :
    (∃ (op : Nat) (_ : Handler) (r : Req) (s : State) (right : Option Nat), coreRuns s = true ∧ streamed op = false ∧
      r.more = true ∧ opRight op = some right ∧ continued (accepted r s) r op = none ∧ rightCheck (accepted r s)
      (frameMask (accepted r s) (boxOf s r.link)) (isUnopened (boxOf s r.link)) op right = none ∧ slotsUsed (getBox
      (accepted r s) (boxOf s r.link)) < 8 ∧ (getBox (accepted r s) (boxOf s r.link)).msg.isSome = true) ∧
    (∃ (op : Nat) (_ : Handler) (r : Req) (s : State) (right : Option Nat), coreRuns s = true ∧ streamed op = false ∧
      r.more = true ∧ opRight op = some right ∧ continued (accepted r s) r op = none ∧ rightCheck (accepted r s)
      (frameMask (accepted r s) (boxOf s r.link)) (isUnopened (boxOf s r.link)) op right = none ∧ slotsUsed (getBox
      (accepted r s) (boxOf s r.link)) < 8 ∧ (getBox (accepted r s) (boxOf s r.link)).msg = none ∧ kindBusy (accepted
      r s) op = false ∧ (op ≠ 769 ∧ op ≠ 770 ∨ jobRoom (accepted r s) ↑r.ctx = true) ∧ r.payload.length ≤ 65536 ∧
      poolUsed (accepted r s) + r.payload.length ≤ 262144) ∧
    (∃ (op : Nat) (_ : Handler) (r : Req) (s : State) (m : OpenMsg) (full : Bool), coreRuns s = true ∧ streamed op =
      false ∧ continued (accepted r s) r op = some m ∧ full = decide (8 ≤ slotsUsed (getBox (accepted r s) (boxOf s
      r.link))) ∧ 65536 < m.bytes.length + r.payload.length) ∧
    (∃ (op : Nat) (_ : Handler) (r : Req) (s : State) (m : OpenMsg) (full : Bool), coreRuns s = true ∧ streamed op =
      false ∧ continued (accepted r s) r op = some m ∧ full = decide (8 ≤ slotsUsed (getBox (accepted r s) (boxOf s
      r.link))) ∧ m.bytes.length + r.payload.length ≤ 65536 ∧ 262144 < poolUsed (accepted r s) + r.payload.length) ∧
    (∃ (op : Nat) (_ : Handler) (r : Req) (s : State) (m : OpenMsg) (full : Bool), coreRuns s = true ∧ streamed op =
      false ∧ continued (accepted r s) r op = some m ∧ full = decide (8 ≤ slotsUsed (getBox (accepted r s) (boxOf s
      r.link))) ∧ m.bytes.length + r.payload.length ≤ 65536 ∧ poolUsed (accepted r s) + r.payload.length ≤ 262144 ∧
      r.more = true) ∧
    (∃ (op : Nat) (h : Handler) (r : Req) (s : State) (m : OpenMsg) (full : Bool) (rep : Reply) (v : State), coreRuns
      s = true ∧ streamed op = false ∧ continued (accepted r s) r op = some m ∧ full = decide (8 ≤ slotsUsed (getBox
      (accepted r s) (boxOf s r.link))) ∧ m.bytes.length + r.payload.length ≤ 65536 ∧ poolUsed (accepted r s) +
      r.payload.length ≤ 262144 ∧ r.more = false ∧ h { r with payload := m.bytes ++ r.payload } (accepted r s) = (rep,
      v)) :=
  ⟨⟨0x0106, hSysTime, { req [2] with more := true }, withCtx 0 (fun x => { x with msg := some ⟨0x0301, [1], 1, 0, false, [], 0, 1⟩ }) ready, none, by decide +kernel⟩,
   ⟨0x0106, hSysTime, { req [2] with more := true }, ready, none, by decide +kernel⟩,
   ⟨0x0106, hSysTime, req [2], echoing (zeros 65536) [], echoMsg (zeros 65536), false, by decide +kernel, by decide +kernel, rfl, rfl, by rw [echoMsg, zeros, List.length_replicate]; decide⟩,
   ⟨0x0106, hSysTime, req [2], echoing [1] (zeros 262144), echoMsg [1], false, by decide +kernel, by decide +kernel, rfl, rfl, by decide +kernel, full_pool⟩,
   ⟨0x0106, hSysTime, { req [2] with more := true }, withCtx 0 (fun x => { x with msg := some (echoMsg [1]) }) ready, echoMsg [1], false, by decide +kernel⟩,
   ⟨0x0106, hSysTime, req [2], withCtx 0 (fun x => { x with msg := some (echoMsg [1]) }) ready, echoMsg [1], false, _, _, by and_intros <;> first | decide +kernel | rfl⟩⟩

/-- The hypotheses of FragmentsBecomeMessages can be met: clauses 3. -/
theorem witness_FragmentsBecomeMessages_2 :
    ∃ (r : Req) (s : State) (m : OpenMsg), coreRuns s = true ∧ continued (accepted r s) r 262 = some m ∧ r.more =
      false ∧ m.bytes.length + r.payload.length ≤ 256 ∧ poolUsed (accepted r s) + r.payload.length ≤ 262144 ∧
      slotsUsed (getBox (accepted r s) (boxOf s r.link)) < 8 ∧ lifecycle s.otp ≠ 4 :=
  ⟨req [2], withCtx 0 (fun x => { x with msg := some (echoMsg [1]) }) ready, echoMsg [1], by decide +kernel⟩

/-- The hypotheses of OpenMessagesExpire can be met: clauses 1, 2, 3. -/
theorem witness_OpenMessagesExpire :
    (∃ (p : MsgPlace) (s : State) (u : State) (m : OpenMsg), s.ctxs.length = 12 ∧ (getBox s (msgBox s p)).msg = some m
      ∧ u = logFor (wakeDoze s) 515 (b16 (BitVec.toNat m.opcode) ++ b32 m.count) (boxContext s (msgBox s p)) 0) ∧
    (∃ (p : MsgPlace) (s : State) (u : State) (m : OpenMsg), s.ctxs.length = 12 ∧ (getBox s (msgBox s p)).msg = some m
      ∧ u = logFor (wakeDoze s) 515 (b16 (BitVec.toNat m.opcode) ++ b32 m.count) (boxContext s (msgBox s p)) 0 ∧
      (m.opcode ≠ 770 ∨ jobStIs s m.job JobSt.rendering = false ∨ isUnopened (msgBox s p) = true)) ∧
    (∃ (p : MsgPlace) (s : State) (u : State) (m : OpenMsg), s.ctxs.length = 12 ∧ (getBox s (msgBox s p)).msg = some m
      ∧ u = logFor (wakeDoze s) 515 (b16 (BitVec.toNat m.opcode) ++ b32 m.count) (boxContext s (msgBox s p)) 0 ∧
      m.opcode = 770 ∧ jobStIs s m.job JobSt.rendering = true ∧ isUnopened (msgBox s p) = false) :=
  ⟨⟨.context 5, withCtx 5 (fun x => { x with msg := some ⟨0x0301, [1], 1, 0, false, [], 0, 1⟩ }) ready, _, ⟨0x0301, [1], 1, 0, false, [], 0, 1⟩, by decide +kernel, by decide +kernel, rfl⟩,
   ⟨.link (.conn 5), withNet (fun n => { n with conns := [{ conn none with box := { Ctx.fresh with msg := some ⟨0x0302, [1], 1, 5, false, [], 0, 1⟩ } }] }) ready, _, ⟨0x0302, [1], 1, 5, false, [], 0, 1⟩, by decide +kernel, by decide +kernel, rfl, .inr (.inr (by decide +kernel))⟩,
   ⟨.link .usb, withJobs [job 5 .rendering] (withCtx 3 (fun x => { x with msg := some ⟨0x0302, [1], 1, 5, false, [], 0, 1⟩ }) ready), _, ⟨0x0302, [1], 1, 5, false, [], 0, 1⟩, by decide +kernel, by decide +kernel, rfl, by decide +kernel, by decide +kernel, by decide +kernel⟩⟩

/-- The hypotheses of AnswersAndDeliveries can be met: clauses 1.2.1, 1.2.2, 1.2.3, 2. -/
theorem witness_AnswersAndDeliveries :
    (∃ (_ : Nat) (r : Req) (_ : Reply) (s : State) (c : Nat), boxOf s r.link = Box.ctx c ∧ s.ctxs.length = 12 ∧ c <
      12) ∧
    (∃ (_ : Nat) (r : Req) (_ : Reply) (s : State) (c : Nat) (k : Nat), boxOf s r.link = Box.ctx c ∧ s.ctxs.length =
      12 ∧ c < 12 ∧ k ≠ c) ∧
    (∃ (_ : Nat) (r : Req) (rep : Reply) (s : State) (c : Nat), boxOf s r.link = Box.ctx c ∧ s.ctxs.length = 12 ∧ c <
      12 ∧ rep.payload.length ≤ 4096) ∧
    (∃ (l : Link) (c : Fin 12) (s : State) (f : OutFrame) (fs : List OutFrame), (l, c) ∈ [(Link.debug, (0 : Fin 12)),
      (Link.uart, 2), (Link.usb, 3)] ∧ linkSends s l = true ∧ s.ctxs.length = 12 ∧ (ctxOf s c.val).out = f :: fs ∧
      f.endsSession = false ∧ s.rst.resetPend = none) :=
  ⟨⟨0x0104, req [], Reply.ok [], ready, 0, by decide +kernel⟩,
   ⟨0x0104, req [], (Reply.ok []), ready, 0, 5, by decide +kernel⟩,
   ⟨0x0104, req [], (Reply.ok []), ready, 0, by decide +kernel⟩,
   ⟨.uart, 2, withCtx 2 (fun x => { x with out := [response, note] }) ready, response, [note], by decide +kernel⟩⟩

/-- The hypotheses of ReadingCommandsChangeNothingElse can be met: clauses 1. -/
theorem witness_ReadingCommandsChangeNothingElse :
    ∃ (r : Req) (s t : State) (c : Instr), c ∈ [Instr.sysIdent r, .sysReset r, .sysCounters r, .sysTime r, .sysEcho r,
      .paramRead r, .paramInfo r, .jobStatus r, .jobList r, .hubValues r, .hubRecords r, .hubConfigRead r,
      .hubSubscribe r, .hubStatus r, .pwrStateQuery r, .pwrStateSet r, .seqStatus r, .calStatus r, .nozMapRead r,
      .fireCountRead r, .mechStatus r, .logInfo r, .logRead r, .faultRead r, .snapshotRead r, .logClear r, .otpRead r,
      .otpStatus r, .storeInfo r, .profileInfo r, .objectList r, .nvmWear r, .netStatus r, .rightsGet r] ∧ exec c s =
      .next t :=
  ⟨req [], ready, _, .sysTime (req []), by simp, rfl⟩

/-- The hypotheses of SettingCommandsKeepToTheirOwn can be met: clauses 1. -/
theorem witness_SettingCommandsKeepToTheirOwn :
    ∃ (r : Req) (s : State) (t : State) (c : Instr), c ∈ [Instr.paramWrite r, Instr.paramRevert r, Instr.hubSlotSet r,
      Instr.hubDescSet r, Instr.hubStickyClear r, Instr.hubRecordsAck r, Instr.jobHold r, Instr.jobPriority r,
      Instr.nozMark r, Instr.profileErase r, Instr.objectErase r, Instr.sessionClose r, Instr.netSessionEnd r] ∧ exec
      c s = Host.Outcome.next t :=
  ⟨req [], ready, serve 0x0204 hParamRevert (req []) ready, .paramRevert (req []), by and_intros <;> first | decide +kernel | with_reducible rfl | exact fun _ h => nomatch h | exact fun _ => nofun | rfl⟩

/-- The hypotheses of SystemCommands can be met: clauses 1, 2, 3, 4, 5, 6. -/
theorem witness_SystemCommands :
    (∃ (r : Req) (s : State), admitted 257 r s = true ∧ r.payload = []) ∧
    (∃ (r : Req) (s : State) (scope : Byte), admitted 258 r s = true ∧ r.payload = [scope, 0, 0, 0] ∧ BitVec.toNat
      scope ≤ 1) ∧
    (∃ (r : Req) (s : State) (clear : Byte), admitted 259 r s = true ∧ r.payload = [clear, 0, 0, 0] ∧ BitVec.toNat
      clear ≤ 1) ∧
    (∃ (r : Req) (s : State), admitted 260 r s = true ∧ r.payload = []) ∧
    (∃ (r : Req) (s : State), admitted 261 r s = true ∧ r.payload.length = 4 ∧ (s.clk.rtcAlarm = 0 ∨ (BitVec.ofNat 32
      (ofLe r.payload)).toNat < BitVec.toNat s.clk.rtcAlarm)) ∧
    (∃ (r : Req) (s : State), admitted 262 r s = true ∧ r.payload.length ≤ 256) :=
  ⟨⟨req [], ready, by decide +kernel⟩,
   ⟨req [1, 0, 0, 0], ready, 1, by decide +kernel⟩,
   ⟨req [1, 0, 0, 0], ready, 1, by decide +kernel⟩,
   ⟨req [], ready, by decide +kernel⟩,
   ⟨req [1, 0, 0, 0], withClk (fun c => { c with rtcAlarm := 2 }) ready, by decide +kernel⟩,
   ⟨req (zeros 256), ready, by decide +kernel⟩⟩

/-- The hypotheses of ParameterReadsAndWrites can be met: clauses 1, 2, 3, 4, 5. -/
theorem witness_ParameterReadsAndWrites :
    (∃ (r : Req) (s : State) (n : Byte) (ids : List Byte), admitted 513 r s = true ∧ r.payload = n :: 0 :: ids ∧ 1 ≤
      BitVec.toNat n ∧ BitVec.toNat n ≤ 64 ∧ ids.length = 2 * BitVec.toNat n ∧ ∀ (id : Nat), id ∈ idsOf ids → (descOf
      id).isSome = true) ∧
    (∃ (r : Req) (s : State) (n : Byte) (body : List Byte) (es : List Entry3), admitted 514 r s = true ∧ r.payload = n
      :: 0 :: body ∧ 1 ≤ BitVec.toNat n ∧ BitVec.toNat n ≤ 64 ∧ parseEntries (BitVec.toNat n) body = some es ∧ ∀ (e :
      Entry3), e ∈ es → entryStatus e = none ∧ entryRight (lifecycle s.otp) (admMask (accepted r s) r 514) e = none) ∧
    (∃ (r : Req) (s : State) (n : Byte) (body : List Byte) (es : List Entry3) (e : Entry3) (st : Nat), admitted 514 r
      s = true ∧ r.payload = n :: 0 :: body ∧ 1 ≤ BitVec.toNat n ∧ BitVec.toNat n ≤ 64 ∧ parseEntries (BitVec.toNat n)
      body = some es ∧ e ∈ es ∧ entryStatus e = some st) ∧
    (∃ (r : Req) (s : State), admitted 516 r s = true ∧ r.payload = []) ∧
    (∃ (r : Req) (s : State) (d : Desc), admitted 518 r s = true ∧ r.payload.length = 2 ∧ descOf (ofLe r.payload) =
      some d) :=
  ⟨⟨req [1, 0, 1, 4], ready, 1, [1, 4], by and_intros <;> first | decide +kernel | with_reducible rfl | exact fun _ h => nomatch h | exact fun _ => nofun | rfl⟩,
   ⟨req [1, 0, 1, 4, 2, 2, 200, 0], ready, 1, [1, 4, 2, 2, 200, 0], [⟨0x0401, 2, [200, 0]⟩], by and_intros <;> first | decide +kernel | with_reducible rfl | exact fun _ h => nomatch h | exact fun _ => nofun | rfl⟩,
   ⟨req [1, 0, 1, 4, 2, 2, 0, 0], ready, 1, [1, 4, 2, 2, 0, 0], [⟨0x0401, 2, [0, 0]⟩], ⟨0x0401, 2, [0, 0]⟩, ((entryStatus ⟨0x0401, 2, [0, 0]⟩).getD 0), by decide +kernel⟩,
   ⟨req [], ready, by decide +kernel⟩,
   ⟨req [1, 4], ready, ⟨0x0401, 2, 2, 100, 60000, 2000, 3, 0, [], []⟩, by decide +kernel⟩⟩

/-- The hypotheses of CommitsPutValuesInForce can be met: clauses 1, 2, 3. -/
theorem witness_CommitsPutValuesInForce :
    (∃ (r : Req) (s : State), NvmSound s ∧ s.nvm.images.length = 2 ∧ s.params.image ≤ 1 ∧ admitted 515 r s = true ∧
      r.payload = [] ∧ commitCheck (viewOf (accepted r s) (wholeSet s.params)) = none) ∧
    (∃ (r : Req) (s : State), NvmSound s ∧ s.nvm.images.length = 2 ∧ s.params.image ≤ 1 ∧ admitted 517 r s = true ∧
      r.payload = ascii "DFLT") ∧
    (∃ (r : Req) (s : State) (slot : Byte) (p : Profile), NvmSound s ∧ s.nvm.images.length = 2 ∧ s.params.image ≤ 1 ∧
      admitted 519 r s = true ∧ r.payload = [slot, 0, 0, 0] ∧ BitVec.toNat slot ≤ 7 ∧ s.nvm.profiles.getD
      (BitVec.toNat slot) none = some p ∧ profRefusal (accepted r s) (lifecycle s.otp) (admMask (accepted r s) r 519)
      p ((parseEntries (profCount p.bytes) (profBody p.bytes)).getD []) = none) :=
  ⟨⟨req [], ready, by decide +kernel⟩,
   ⟨req (ascii "DFLT"), ready, by decide +kernel⟩,
   ⟨req [7, 0, 0, 0], withNvm (fun n => { n with profiles := n.profiles.set 7 (some emptyProfile) }) ready, 7, emptyProfile, by decide +kernel⟩⟩

/-- The hypotheses of JobsAreSubmitted can be met: clauses 1.1, 1.2, 2. -/
theorem witness_JobsAreSubmitted :
    (∃ (r : Req) (s : State), admitted 769 r s = true ∧ 8 ≤ r.payload.length ∧ firstFail (headerChecks r.payload) =
      none ∧ s.jobs.nextId ≤ 4294967295 ∧ ∀ (j : Job), j ∈ s.jobs.live → j.id < s.jobs.nextId) ∧
    (∃ (r : Req) (s : State) (s' : State), admitted 770 r s = true ∧ 16 ≤ r.payload.length ∧ firstFail (headerChecks
      r.payload ++ [reservedAt r.payload 12 4]) = none ∧ fieldAt r.payload 8 4 ≤ 4194304 ∧ s.jobs.nextId ≤ 4294967295
      ∧ feedRaster (addRaster (accepted r s) r.ctx r.payload false (fieldAt r.payload 8 4)) s.jobs.nextId (List.drop
      16 r.payload) = FeedRes.fed s') ∧
    (∃ (r : Req) (s : State), admitted 769 r s = true ∧ 8 ≤ r.payload.length ∧ firstFail (headerChecks r.payload) =
      none ∧ 4294967295 < s.jobs.nextId) :=
  ⟨⟨req (jobHeader ++ [1, 2]), withJobs [job 5 .queued] ready, by and_intros <;> first | decide +kernel | with_reducible rfl | exact fun _ h => nomatch h | exact fun _ => nofun | rfl⟩,
   ⟨req rasterHead, ready, fed, by decide +kernel⟩,
   ⟨req jobHeader, { ready with jobs := { ready.jobs with nextId := 0x100000000 } }, by decide +kernel⟩⟩

/-- The hypotheses of JobCommands can be met: clauses 1.1.1, 1.1.2.1, 1.1.2.2, 1.1.3, 1.1.4.1, 1.1.4.2.1. -/
theorem witness_JobCommands_1 :
    (∃ (r : Req) (s : State) (j : Job), jobOf s (fieldAt r.payload 0 4) = some j ∧ admitted 771 r s = true ∧
      r.payload.length = 4 ∧ jobRight (accepted r s) r 771 j.ctx = true) ∧
    (∃ (r : Req) (s : State) (j : Job), jobOf s (fieldAt r.payload 0 4) = some j ∧ admitted 772 r s = true ∧
      r.payload.length = 4 ∧ jobRight (accepted r s) r 772 j.ctx = true ∧ j.st ≠ JobSt.printing ∧ j.st ≠ JobSt.cutting
      ∧ linksOf (markCancelled (accepted r s) j.id) j.id = []) ∧
    (∃ (r : Req) (s : State) (j : Job), jobOf s (fieldAt r.payload 0 4) = some j ∧ admitted 772 r s = true ∧
      r.payload.length = 4 ∧ jobRight (accepted r s) r 772 j.ctx = true ∧ j.st ≠ JobSt.printing ∧ j.st ≠ JobSt.cutting
      ∧ ∀ (k : Job), k ∈ s.jobs.live → k.id < s.jobs.nextId) ∧
    (∃ (r : Req) (s : State) (j : Job), jobOf s (fieldAt r.payload 0 4) = some j ∧ admitted 773 r s = true ∧
      r.payload.length = 4 ∧ jobRight (accepted r s) r 773 j.ctx = true ∧ (j.st = JobSt.queued ∨ j.raster = false ∧
      (j.st = JobSt.rendering ∨ j.st = JobSt.ready))) ∧
    (∃ (r : Req) (s : State) (j : Job), jobOf s (fieldAt r.payload 0 4) = some j ∧ admitted 774 r s = true ∧
      r.payload.length = 4 ∧ jobRight (accepted r s) r 774 j.ctx = true ∧ j.st = JobSt.held) ∧
    (∃ (r : Req) (s : State) (j : Job), jobOf s (fieldAt r.payload 0 4) = some j ∧ admitted 774 r s = true ∧
      r.payload.length = 4 ∧ jobRight (accepted r s) r 774 j.ctx = true ∧ j.st = JobSt.held ∧ j.raster = false) :=
  ⟨⟨req [5, 0, 0, 0], withJobs [job 5 .printing] ready, job 5 .printing, by decide +kernel⟩,
   ⟨req [5, 0, 0, 0], withJobs [job 5 .queued] ready, job 5 .queued, by decide +kernel⟩,
   ⟨req [5, 0, 0, 0], withJobs [job 5 .queued] ready, job 5 .queued, by decide +kernel⟩,
   ⟨req [5, 0, 0, 0], withJobs [job 5 .ready] ready, job 5 .ready, by decide +kernel⟩,
   ⟨req [5, 0, 0, 0], withJobs [job 5 .held] ready, job 5 .held, by decide +kernel⟩,
   ⟨req [5, 0, 0, 0], withJobs [job 5 .held] ready, job 5 .held, by decide +kernel⟩⟩

/-- The hypotheses of JobCommands can be met: clauses 1.1.4.2.2, 1.1.4.3, 1.1.5, 1.2, 2.1, 2.3. -/
theorem witness_JobCommands_2 :
    (∃ (r : Req) (s : State) (j : Job), jobOf s (fieldAt r.payload 0 4) = some j ∧ admitted 774 r s = true ∧
      r.payload.length = 4 ∧ jobRight (accepted r s) r 774 j.ctx = true ∧ j.st = JobSt.held ∧ j.raster = false ∧
      j.reprintDue = true) ∧
    (∃ (r : Req) (s : State) (j : Job), jobOf s (fieldAt r.payload 0 4) = some j ∧ admitted 774 r s = true ∧
      r.payload.length = 4 ∧ jobRight (accepted r s) r 774 j.ctx = true ∧ j.st = JobSt.held ∧ j.raster = true) ∧
    (∃ (r : Req) (s : State) (j : Job) (cls : Byte), jobOf s (fieldAt r.payload 0 4) = some j ∧ admitted 776 r s =
      true ∧ r.payload.length = 8 ∧ slice r.payload 4 4 = [cls, 0, 0, 0] ∧ BitVec.toNat cls ≤ 2 ∧ jobRight (accepted r
      s) r 776 j.ctx = true ∧ (j.st = JobSt.queued ∨ j.st = JobSt.held)) ∧
    (∃ (r : Req) (s : State), admitted 775 r s = true ∧ r.payload = []) ∧
    (∃ (s : State) (j : Job), jobOf s j.id = some j) ∧
    (∃ (s : State) (j : Job) (id : Nat), jobOf s j.id = some j ∧ id ≠ j.id) :=
  ⟨⟨req [5, 0, 0, 0], withJobs [{ job 5 .held with reprintDue := true }] ready, { job 5 .held with reprintDue := true }, by decide +kernel⟩,
   ⟨req [5, 0, 0, 0], withJobs [{ job 5 .held with raster := true }] ready, { job 5 .held with raster := true }, by decide +kernel⟩,
   ⟨req [5, 0, 0, 0, 2, 0, 0, 0], withJobs [job 5 .held] ready, job 5 .held, 2, by decide +kernel⟩,
   ⟨req [], withJobs [job 5 .held] ready, by decide +kernel⟩,
   ⟨withJobs [job 5 .held] ready, job 5 .held, by decide +kernel⟩,
   ⟨withJobs [job 5 .queued] ready, job 5 .queued, 7, by decide +kernel⟩⟩

/-- The hypotheses of JobCommands can be met: clauses 3, 4. -/
theorem witness_JobCommands_3 :
    (∃ (s : State) (j : Job) (d : Decoder), s.usb.attached = true ∧ s.usb.configured = true ∧ rawJob s 3 = some j ∧
      jobOf s j.id = some j ∧ j.dec = some d ∧ s.usb.raw = [] ∧ s.net.conns = []) ∧
    (∃ (r : Req) (s : State) (j : Job), admitted 772 r s = true ∧ r.payload.length = 4 ∧ jobOf s (fieldAt r.payload 0
      4) = some j ∧ (j.ctx ≠ r.ctx ∧ hasBit (admMask (accepted r s) r 772) rAdmin = false ∨ j.ctx = r.ctx ∧ hasBit
      (admMask (accepted r s) r 772) rPrint = false)) :=
  ⟨⟨withJobs [{ job 5 .rendering with raw := true, raster := true, ctx := 3, dec := some (Decoder.start 99) }] (onUsb ready), { job 5 .rendering with raw := true, raster := true, ctx := 3, dec := some (Decoder.start 99) }, Decoder.start 99, by decide +kernel⟩,
   ⟨{ req [5, 0, 0, 0] with link := .uart, ctx := 2 }, withParams [(0x0302, [0x1, 0])] (withJobs [foreign] ready), foreign, by decide +kernel⟩⟩

/-- The hypotheses of HubReads can be met: clauses 1, 2, 3, 4, 5. -/
theorem witness_HubReads :
    (∃ (r : Req) (s : State), admitted 1025 r s = true ∧ r.payload.length = 4 ∧ fieldAt r.payload 0 4 < 2 ^ 27) ∧
    (∃ (r : Req) (s : State), admitted 1026 r s = true ∧ r.payload.length = 2 ∧ 1 ≤ fieldAt r.payload 0 2 ∧ fieldAt
      r.payload 0 2 ≤ 340) ∧
    (∃ (r : Req) (s : State) (k : Byte) (i : Byte), admitted 1030 r s = true ∧ r.payload = [k, i, 0, 0] ∧ BitVec.toNat
      k ≤ 2 ∧ BitVec.toNat i < if k = 0 then 64 else if k = 1 then 16 else 32) ∧
    (∃ (r : Req) (s : State), admitted 1032 r s = true ∧ r.payload = []) ∧
    (∃ (r : Req) (s : State), admitted 1034 r s = true ∧ r.payload.length = 2) :=
  ⟨⟨req [0xFF, 0xFF, 0xFF, 7], ready, by decide +kernel⟩,
   ⟨req [0x54, 1], withHub (fun h => { h with fifo := [zeros 12] }) ready, by decide +kernel⟩,
   ⟨req [2, 31, 0, 0], ready, 2, 31, by decide +kernel⟩,
   ⟨req [], ready, by decide +kernel⟩,
   ⟨req [1, 0], withHub (fun h => { h with fifo := [zeros 12] }) ready, by decide +kernel⟩⟩

/-- The hypotheses of HubConfiguration can be met: clauses 1, 2, 3, 4, 5. -/
theorem witness_HubConfiguration :
    (∃ (r : Req) (s : State) (n : Byte) (e : List Byte), admitted 1027 r s = true ∧ r.payload = [n, 0, 0, 0] ++ e ∧
      e.length = 28 ∧ 10 ≤ BitVec.toNat n ∧ BitVec.toNat n ≤ 63 ∧ slotCheck e = none ∧ slotNamesUnused (hubDesc s.hub)
      e = false ∧ slotHeld s.hub (BitVec.toNat n) = false ∧ s.hub.slots.length = 64) ∧
    (∃ (r : Req) (s : State) (n : Byte) (d : List Byte), admitted 1028 r s = true ∧ r.payload = [n, 0, 0, 0] ++ d ∧
      d.length = 32 ∧ BitVec.toNat n ≤ 15 ∧ descCheck d = none ∧ (descUnused d && descNamed s.hub (BitVec.toNat n)) =
      false) ∧
    (∃ (r : Req) (s : State) (n : Byte) (e : List Byte), admitted 1029 r s = true ∧ r.payload = [n, 0, 0, 0] ++ e ∧
      e.length = 16 ∧ BitVec.toNat n ≤ 31 ∧ detCheck (BitVec.toNat n) e = none ∧ detSourceOff (hubSlot s.hub) e =
      false ∧ detHeld s.hub (BitVec.toNat n) = false ∧ s.hub.dets.length = 32) ∧
    (∃ (r : Req) (s : State), admitted 1031 r s = true ∧ r.payload.length = 4) ∧
    (∃ (r : Req) (s : State), admitted 1033 r s = true ∧ r.payload.length = 4) :=
  ⟨⟨req ([63, 0, 0, 0] ++ zeros 28), ready, 63, zeros 28, by decide +kernel⟩,
   ⟨req ([15, 0, 0, 0] ++ zeros 32), ready, 15, zeros 32, by decide +kernel⟩,
   ⟨req ([31, 0, 0, 0] ++ zeros 16), ready, 31, zeros 16, by decide +kernel⟩,
   ⟨req [1, 0, 0, 0], ready, by decide +kernel⟩,
   ⟨req [1, 0, 0, 0], ready, by decide +kernel⟩⟩

/-- The hypotheses of PowerCommands can be met: clauses 1.1, 1.2, 1.3, 1.4, 1.5, 2.1. -/
theorem witness_PowerCommands_1 :
    (∃ (r : Req) (s : State), admitted 1281 r s = true ∧ r.payload = [1, 0, 0, 0, 0, 0, 0, 0] ∧ dozeAllowed s = true) ∧
    (∃ (r : Req) (s : State), admitted 1281 r s = true ∧ r.payload = [2, 0, 0, 0, 0, 0, 0, 0] ∧ entryRefusal (accepted
      r s) false false = none) ∧
    (∃ (r : Req) (s : State), admitted 1281 r s = true ∧ r.payload = [3, 1, 0, 0, 0, 0, 0, 0] ∧ entryRefusal (accepted
      r s) true true = none) ∧
    (∃ (r : Req) (s : State), admitted 1282 r s = true ∧ r.payload = []) ∧
    (∃ (r : Req) (s : State), admitted 1286 r s = true ∧ r.payload.length = 4 ∧ (ofLe r.payload = 0 ∨ BitVec.toNat
      s.clk.rtc < (BitVec.ofNat 32 (ofLe r.payload)).toNat)) ∧
    (∃ (r : Req) (s : State), admitted 1287 r s = true ∧ r.payload = [1, 0, 0, 0]) :=
  ⟨⟨req [1, 0, 0, 0, 0, 0, 0, 0], ready, by decide +kernel⟩,
   ⟨req [2, 0, 0, 0, 0, 0, 0, 0], ready, by decide +kernel⟩,
   ⟨req [3, 1, 0, 0, 0, 0, 0, 0], withJobs [job 5 .queued] ready, by decide +kernel⟩,
   ⟨req [], ready, by decide +kernel⟩,
   ⟨req [1, 0, 0, 0], ready, by decide +kernel⟩,
   ⟨req [1, 0, 0, 0], ready, by decide +kernel⟩⟩

/-- The hypotheses of PowerCommands can be met: clauses 2.2. -/
theorem witness_PowerCommands_2 :
    ∃ (r : Req) (s : State), admitted 1287 r s = true ∧ r.payload = [0, 0, 0, 0] :=
  ⟨req [0, 0, 0, 0], withSaf (fun f => { f with hold := true, reasons := 0x40 }) ready, by decide +kernel⟩

/-- The hypotheses of RailCommands can be met: clauses 1, 2, 3, 4. -/
theorem witness_RailCommands :
    (∃ (r : Req) (s : State), admitted 1283 r s = true ∧ r.payload = [0] ∧ s.seq.ph = Phase.off ∧ s.seq.minOffRun =
      false ∧ s.seq.frozen = false ∧ s.seq.droneAbortDue = false ∧ lifecycle s.otp ≠ 4) ∧
    (∃ (r : Req) (s : State), admitted 1284 r s = true ∧ r.payload = [0, 0, 0, 0] ∧ s.seq.ph = Phase.running) ∧
    (∃ (r : Req) (s : State), admitted 1284 r s = true ∧ r.payload = [1, 0, 0, 0] ∧ ticketActive s = true) ∧
    (∃ (r : Req) (s : State), admitted 1285 r s = true ∧ r.payload = []) :=
  ⟨⟨req [0], ready, by decide +kernel⟩,
   ⟨req [0, 0, 0, 0], withSeq (fun q => { q with ph := .running }) ready, by decide +kernel⟩,
   ⟨req [1, 0, 0, 0], withJobs [job 5 .printing] ready, by decide +kernel⟩,
   ⟨req [], ready, by decide +kernel⟩⟩

/-- The hypotheses of ActionCommands can be met: clauses 1.1, 1.2, 1.3, 1.4, 2.1, 2.2. -/
theorem witness_ActionCommands_1 :
    (∃ (r : Req) (s : State) (code : Byte) (target : Byte), admitted 1537 r s = true ∧ 3 ≤ BitVec.toNat code ∧
      BitVec.toNat code ≤ 6 ∧ (if BitVec.toNat code ≤ 5 then BitVec.toNat target = 0 else BitVec.toNat target ≤ 3) ∧
      r.payload = [code, target, 0, 0, 0, 0, 0, 0]) ∧
    (∃ (r : Req) (s : State) (code : Byte) (target : Byte), admitted 1538 r s = true ∧ 1 ≤ BitVec.toNat code ∧
      BitVec.toNat code ≤ 7 ∧ (if BitVec.toNat code ≤ 5 then BitVec.toNat target = 0 else BitVec.toNat target ≤ 3) ∧
      r.payload = [code, target, 0, 0]) ∧
    (∃ (r : Req) (s : State), admitted 1539 r s = true ∧ r.payload = [] ∧ List.find? (fun a => a.opcode == 1537)
      s.saf.actions = none) ∧
    (∃ (r : Req) (s : State) (a : Action), admitted 1539 r s = true ∧ r.payload = [] ∧ List.find? (fun a => a.opcode
      == 1537) s.saf.actions = some a ∧ a.started = true) ∧
    (∃ (r : Req) (s : State) (dies : Byte) (part : Byte), admitted 1793 r s = true ∧ r.payload = [dies, part, 0, 0] ∧
      dies ≠ 0 ∧ diesActive s (BitVec.toNat dies) = true ∧ BitVec.toNat part ≤ 1) ∧
    (∃ (r : Req) (s : State) (routine : Byte) (dies : Byte), admitted 1796 r s = true ∧ r.payload = [routine, dies, 0,
      0] ∧ 1 ≤ BitVec.toNat routine ∧ BitVec.toNat routine ≤ 5 ∧ if routine = 3 ∨ routine = 4 then BitVec.toNat dies <
      16 else dies ≠ 0 ∧ diesActive s (BitVec.toNat dies) = true) :=
  ⟨⟨req [6, 3, 0, 0, 0, 0, 0, 0], ready, 6, 3, by decide +kernel⟩,
   ⟨req [7, 3, 0, 0], ready, 7, 3, by decide +kernel⟩,
   ⟨req [], ready, by decide +kernel⟩,
   ⟨req [], calibrating, calAction, by decide +kernel⟩,
   ⟨req [1, 1, 0, 0], ready, 1, 1, by decide +kernel⟩,
   ⟨req [5, 1, 0, 0], ready, 5, 1, by decide +kernel⟩⟩

/-- The hypotheses of ActionCommands can be met: clauses 2.3, 2.4, 2.5, 2.6, 2.7. -/
theorem witness_ActionCommands_2 :
    (∃ (r : Req) (s : State) (lo : Byte) (hi : Byte) (cut : Byte), admitted 1798 r s = true ∧ r.payload = [lo, hi,
      cut, 0] ∧ BitVec.toNat cut ≤ 1) ∧
    (∃ (r : Req) (s : State) (die : Nat) (first : Nat) (n : Nat), admitted 1794 r s = true ∧ r.payload = [b8 die, 0]
      ++ b16 first ++ b16 n ∧ die ≤ 3 ∧ 1 ≤ n ∧ first + n ≤ 1056) ∧
    (∃ (r : Req) (s : State) (die : Nat) (col : Nat) (pos : Nat) (st : Byte), admitted 1795 r s = true ∧ r.payload =
      [b8 die, b8 col] ++ b16 pos ++ [st, 0, 0, 0] ∧ die ≤ 3 ∧ col ≤ 3 ∧ (pos = 65535 ∨ pos ≤ 1055 ∧ pos % 2 = col %
      2) ∧ (st = 0 ∨ st = 2 ∨ st = 4) ∧ s.noz.scan = none) ∧
    (∃ (r : Req) (s : State) (die : Nat) (col : Nat) (first : Nat) (n : Nat), admitted 1797 r s = true ∧ r.payload =
      [b8 die, b8 col] ++ b16 first ++ b16 n ++ [0, 0] ∧ die ≤ 3 ∧ col ≤ 3 ∧ first ≤ 527 ∧ 1 ≤ n ∧ first + n ≤ 528) ∧
    (∃ (r : Req) (s : State) (e : Enc), admitted 1799 r s = true ∧ r.payload = [] ∧ s.motion.enc[0]? = some e) :=
  ⟨⟨req [1, 0, 1, 0], ready, 1, 0, 1, by decide +kernel⟩,
   ⟨req [3, 0, 0x1E, 4, 2, 0], ready, 3, 1054, 2, by decide +kernel⟩,
   ⟨req [3, 3, 0x1F, 4, 4, 0, 0, 0], ready, 3, 3, 1055, 4, by decide +kernel⟩,
   ⟨req [3, 3, 0x0F, 2, 1, 0, 0, 0], ready, 3, 3, 527, 1, by decide +kernel⟩,
   ⟨req [], ready, Enc.rest, by decide +kernel⟩⟩

/-- The hypotheses of LogCommands can be met: clauses 1, 2, 3, 4, 5. -/
theorem witness_LogCommands :
    (∃ (r : Req) (s : State), admitted 2049 r s = true ∧ r.payload = []) ∧
    (∃ (r : Req) (s : State) (first : Nat) (n : Nat), admitted 2050 r s = true ∧ r.payload = b32 first ++ b16 n ++ [0,
      0] ∧ first < 2 ^ 32 ∧ 1 ≤ n ∧ n ≤ 127 ∧ lowestVisible s = BitVec.ofNat 32 first) ∧
    (∃ (r : Req) (s : State), admitted 2051 r s = true ∧ r.payload = []) ∧
    (∃ (r : Req) (s : State) (p : Nat × List Byte), admitted 2052 r s = true ∧ r.payload = [0, 0, 1, 0] ∧ (validSnaps
      s.nvm).getLast? = some p) ∧
    (∃ (r : Req) (s : State), admitted 2053 r s = true ∧ r.payload = ascii "LOGC") :=
  ⟨⟨req [], ready, by decide +kernel⟩,
   ⟨req [0, 0, 0, 0, 127, 0, 0, 0], ready, 0, 127, by decide +kernel⟩,
   ⟨req [], ready, by decide +kernel⟩,
   ⟨req [0, 0, 1, 0], withNvm (fun n => { n with snaps := [(1, withCrc32c page)] }) ready, (1, withCrc32c page), by decide +kernel, by decide, snap_newest page 1 (by decide +kernel) (by decide +kernel)⟩,
   ⟨req (ascii "LOGC"), ready, by decide +kernel⟩⟩

/-- The hypotheses of OtpReadsShadowsAndStatus can be met: clauses 1, 2, 3, 4, 5, 6. -/
theorem witness_OtpReadsShadowsAndStatus :
    (∃ (r : Req) (s : State) (i : Nat), admitted 2305 r s = true ∧ r.payload = [b8 i, 1, 0, 0] ∧ i < 256 ∧ otpRegion i
      ≠ 3 ∧ readLocked s.otp i = false) ∧
    (∃ (r : Req) (s : State) (i : Nat), admitted 2305 r s = true ∧ r.payload = [b8 i, 1, 0, 0] ∧ i < 256 ∧ otpRegion i
      = 3) ∧
    (∃ (r : Req) (s : State) (i : Nat), admitted 2305 r s = true ∧ r.payload = [b8 i, 1, 0, 0] ∧ i < 256 ∧ otpRegion i
      ≠ 3 ∧ readLocked s.otp i = true) ∧
    (∃ (r : Req) (s : State) (w : Nat) (d : BitVec 64), admitted 2310 r s = true ∧ r.payload = [b8 w, 1, 0, 0] ++ b64
      d.toNat ∧ w < 256 ∧ lifecycle s.otp ≤ 1 ∧ noShadow s.otp = false ∧ shadowable s.otp w = true ∧
      s.otp.shadows.length < 16) ∧
    (∃ (r : Req) (s : State), admitted 2311 r s = true ∧ r.payload = []) ∧
    (∃ (r : Req) (s : State), admitted 2313 r s = true ∧ r.payload = [1, 0, 0, 0] ∧ lifecycle s.otp = 2) :=
  ⟨⟨req [255, 1, 0, 0], ready, 255, by decide +kernel⟩,
   ⟨req [75, 1, 0, 0], ready, 75, by decide +kernel⟩,
   ⟨req [76, 1, 0, 0], otpWith [(8, 1)] ready, 76, by decide +kernel⟩,
   ⟨req ([76, 1, 0, 0] ++ b64 5), ready, 76, 5, by decide +kernel⟩,
   ⟨req [], ready, by decide +kernel⟩,
   ⟨{ req [1, 0, 0, 0] with link := .usb, ctx := 3 }, fielded ready, by decide +kernel⟩⟩

/-- The hypotheses of OtpProgramming can be met: clauses 1.1, 1.2, 2, 3, 4, 5. -/
theorem witness_OtpProgramming :
    (∃ (r : Req) (s : State) (i : Nat) (d : Nat), s.otp.words.length = 256 ∧ programBar (accepted r s) = none ∧
      lifecycle s.otp ≤ 1 ∧ admitted 2306 r s = true ∧ r.payload = [b8 i, 1, 0, 0] ++ b64 d ∧ d < 2 ^ 64 ∧ mayProgram
      i = true ∧ i ≠ 77 ∧ i ≠ 78 ∧ d &&& reservedBits i = 0 ∧ wordValueOk i d = true ∧ otpCond s.otp i = Cond.blank ∧
      sealed s.otp (otpRegion i) = false ∧ (otpRaw s.otp i).defective = false) ∧
    (∃ (r : Req) (s : State) (i : Nat) (d : Nat), s.otp.words.length = 256 ∧ programBar (accepted r s) = none ∧
      lifecycle s.otp ≤ 1 ∧ admitted 2306 r s = true ∧ r.payload = [b8 i, 1, 0, 0] ++ b64 d ∧ d < 2 ^ 64 ∧ mayProgram
      i = true ∧ i ≠ 77 ∧ i ≠ 78 ∧ d &&& reservedBits i = 0 ∧ wordValueOk i d = true ∧ otpCond s.otp i = Cond.blank ∧
      sealed s.otp (otpRegion i) = false ∧ (otpRaw s.otp i).defective = true) ∧
    (∃ (r : Req) (s : State) (k : Byte) (w : Nat) (key : List Byte), s.otp.words.length = 256 ∧ programBar (accepted r
      s) = none ∧ lifecycle s.otp ≤ 1 ∧ admitted 2307 r s = true ∧ r.payload = [k, 0, 0, 0] ++ key ∧ key.length = 16 ∧
      secretWord (BitVec.toNat k) = some w ∧ otpCond s.otp w = Cond.blank ∧ otpCond s.otp (w + 1) = Cond.blank ∧
      sealed s.otp 3 = false ∧ (otpRaw s.otp w).defective = false ∧ (otpRaw s.otp (w + 1)).defective = false) ∧
    (∃ (r : Req) (s : State) (g : Byte) (w : Nat), s.otp.words.length = 256 ∧ programBar (accepted r s) = none ∧
      lifecycle s.otp ≤ 1 ∧ admitted 2308 r s = true ∧ r.payload = [g, 0, 0, 0] ∧ 2 ≤ BitVec.toNat g ∧ BitVec.toNat g
      ≤ 4 ∧ digestWord (BitVec.toNat g) = some w ∧ otpCond s.otp w = Cond.blank ∧ (otpRaw s.otp w).defective = false) ∧
    (∃ (r : Req) (s : State) (v : Nat) (i : Nat), s.otp.words.length = 256 ∧ programBar (accepted r s) = none ∧
      lifecycle s.otp ≤ 1 ∧ admitted 2309 r s = true ∧ r.payload = leBytes 6 v ++ [0, 0] ∧ v < 2 ^ 48 ∧ lockReserved v
      = true ∧ lockFinal s.otp = false ∧ List.find? (fun k => decide (otpCond s.otp k = Cond.blank)) [8, 9, 10, 11] =
      some i ∧ (otpRaw s.otp i).defective = false) ∧
    (∃ (r : Req) (s : State), s.otp.words.length = 256 ∧ programBar (accepted r s) = none ∧ lifecycle s.otp ≤ 1 ∧
      admitted 2312 r s = true ∧ r.payload = [90, 0, 0, 0] ++ List.take 4 (dieId s.otp) ∧ lifecycle s.otp = 0 ∧
      otpCond s.otp 0 = Cond.blank ∧ otpCond s.otp 4 = Cond.blank ∧ (otpRaw s.otp 0).defective = false ∧ (otpRaw s.otp
      4).defective = false) :=
  ⟨⟨req ([83, 1, 0, 0] ++ b64 5), programmable ready, 83, 5, by decide +kernel⟩,
   ⟨req ([83, 1, 0, 0] ++ b64 5), { programmable ready with otp := { ready.otp with words := ready.otp.words.set 83 ⟨.blank, 0, false, true⟩ } }, 83, 5, by decide +kernel⟩,
   ⟨req ([0xF1, 0, 0, 0] ++ zeros 16), programmable ready, 0xF1, 52, zeros 16, by decide +kernel⟩,
   ⟨req [4, 0, 0, 0], programmable ready, 4, 107, by decide +kernel⟩,
   ⟨req (leBytes 6 1 ++ [0, 0]), programmable ready, 1, 8, by decide +kernel⟩,
   ⟨req [0x5A, 0, 0, 0, 0, 0, 0, 0], programmable ready, by decide +kernel⟩⟩

/-- The hypotheses of StorageCommands can be met: clauses 1.1, 1.2.1, 1.2.2, 1.3, 1.4, 2.1. -/
theorem witness_StorageCommands_1 :
    (∃ (r : Req) (s : State), admitted 2561 r s = true ∧ r.payload = []) ∧
    (∃ (r : Req) (s : State) (k : Byte), admitted 2564 r s = true ∧ r.payload = [k, 0, 0, 0] ∧ BitVec.toNat k ≤ 7 ∧
      s.nvm.profiles.getD (BitVec.toNat k) none = none) ∧
    (∃ (r : Req) (s : State) (k : Byte) (p : Profile) (slot : Nat), admitted 2564 r s = true ∧ r.payload = [k, 0, 0,
      0] ∧ BitVec.toNat k ≤ 7 ∧ s.nvm.profiles.getD (BitVec.toNat k) none = some p ∧ p.keySlot = some slot) ∧
    (∃ (r : Req) (s : State) (first : Nat), admitted 2567 r s = true ∧ r.payload = b16 first ++ [0, 0] ∧ first <
      65536) ∧
    (∃ (r : Req) (s : State) (a : Byte) (base : Nat) (n : Nat) (cs : List Nat), admitted 2568 r s = true ∧ r.payload =
      [a, 0, 0, 0] ∧ BitVec.toNat a ≤ 10 ∧ areaPages (BitVec.toNat a) = (base, n) ∧ cs = List.map (fun i => pageCycles
      s.nvm (base + i)) (List.range n)) ∧
    (∃ (r : Req) (s : State) (k : Byte) (p : List Byte) (key : Nat), NvmSound s ∧ admitted 2562 r s = true ∧ r.payload
      = [k, 0, 0, 0] ++ p ∧ BitVec.toNat k ≤ 7 ∧ profLengthOk p = true ∧ firstFail (profFields p) = none ∧ objUnsigned
      p = false ∧ profKeySlot s.otp p = some key) :=
  ⟨⟨req [], ready, by decide +kernel⟩,
   ⟨req [7, 0, 0, 0], ready, 7, by decide +kernel⟩,
   ⟨req [7, 0, 0, 0], withNvm (fun n => { n with profiles := n.profiles.set 7 (some ⟨zeros 64, some 1⟩) }) ready, 7, ⟨zeros 64, some 1⟩, 1, by decide +kernel⟩,
   ⟨req [0, 0, 0, 0], ready, 0, by decide +kernel⟩,
   ⟨req [10, 0, 0, 0], ready, 10, (areaPages 10).1, (areaPages 10).2, (List.range (areaPages 10).2).map (fun i => pageCycles ready.nvm ((areaPages 10).1 + i)), by and_intros <;> first | decide +kernel | with_reducible rfl | exact fun _ h => nomatch h | exact fun _ => nofun | rfl⟩,
   ⟨req ([7, 0, 0, 0] ++ signedProfile), keyed1 ready, 7, signedProfile, 1, by decide +kernel⟩⟩

/-- The hypotheses of StorageCommands can be met: clauses 2.2, 2.3, 2.4, 2.5. -/
theorem witness_StorageCommands_2 :
    (∃ (r : Req) (s : State) (k : Byte), NvmSound s ∧ admitted 2563 r s = true ∧ r.payload = [k, 0, 0, 0] ∧
      BitVec.toNat k ≤ 7) ∧
    (∃ (r : Req) (s : State) (logo : Bool) (id : Nat) (b : List Byte), NvmSound s ∧ admitted 2565 r s = true ∧
      r.payload = [if logo = true then 2 else 1, 0] ++ b16 id ++ b32 b.length ++ b32 (BitVec.toNat (crc32c b)) ++
      zeros 4 ++ b ∧ 1 ≤ id ∧ id ≤ 65534 ∧ b.length < 2 ^ 32 ∧ objectOk logo b = true ∧ (if objUnsigned b = true then
      pv s.params 3600 ≠ 1 else objectVerifies s.otp b = true) ∧ findObj s.nvm logo id = none ∧ objPages b.length ≤
      freePages s.nvm ∧ (directory s.nvm).length < 256) ∧
    (∃ (r : Req) (s : State) (logo : Bool) (id : Nat) (o : StoreObj), NvmSound s ∧ admitted 2566 r s = true ∧
      r.payload = [if logo = true then 2 else 1, 0] ++ b16 id ∧ id < 65536 ∧ rendering s = false ∧ findObj s.nvm logo
      id = some o) ∧
    (∃ (r : Req) (s : State) (b : List Byte), NvmSound s ∧ admitted 2569 r s = true ∧ r.payload = b32 b.length ++ b32
      (BitVec.toNat (crc32c b)) ++ zeros 8 ++ b ∧ 1 ≤ b.length ∧ b.length ≤ 131072 ∧ (keydig s.otp 0).isSome = true) :=
  ⟨⟨req [7, 0, 0, 0], ready, 7, by decide +kernel⟩,
   ⟨req (storeHead ++ tinyLogo), unsignedOk ready, true, 1, tinyLogo, by decide +kernel, by decide +kernel, rfl, by decide,
    by decide, by decide +kernel, by decide +kernel, by decide +kernel, by decide +kernel, 
    by
      have a : objPages tinyLogo.length = 1 := by decide +kernel
      have b : freePages (unsignedOk ready).nvm = 11504 := by decide +kernel
      omega, by decide +kernel⟩,
   ⟨req ([2, 0] ++ b16 1), { ready with nvm := { ready.nvm with store := [storedLogo] } }, true, 1, storedLogo, by decide +kernel⟩,
   ⟨req (b32 1 ++ b32 (crc32c [9]).toNat ++ zeros 8 ++ [9]), otpWith [(12, 1), (13, 2)] ready, [9], by decide +kernel⟩⟩

/-- The hypotheses of SessionsAndRights can be met: clauses 1.1.1, 1.1.2.1, 1.1.2.2, 1.2, 1.3, 1.4. -/
theorem witness_SessionsAndRights_1 :
    (∃ (r : Req) (s : State) (psk : List Byte), (r.link, r.ctx) ∈ [(Link.i2c, (1 : Fin 12)), (Link.uart, 2),
      (Link.usb, 3)] ∧ s.ctxs.length = 12 ∧ admitted 2817 r s = true ∧ r.payload.length = 16 ∧ secretKey s.otp
      r.ctx.val = some psk) ∧
    (∃ (r : Req) (s : State) (psk : List Byte) (o : Session), (r.link, r.ctx) ∈ [(Link.i2c, (1 : Fin 12)), (Link.uart,
      2), (Link.usb, 3)] ∧ s.ctxs.length = 12 ∧ admitted 2818 r s = true ∧ r.payload.length = 32 ∧ secretKey s.otp
      r.ctx.val = some psk ∧ (ctxOf s r.ctx.val).opening = some o ∧ hmac psk (ascii "NLH1" ++ o.nonceH ++ o.nonceP ++
      [b8 r.ctx.val]) = r.payload) ∧
    (∃ (r : Req) (s : State) (psk : List Byte) (o : Session), (r.link, r.ctx) ∈ [(Link.i2c, (1 : Fin 12)), (Link.uart,
      2), (Link.usb, 3)] ∧ s.ctxs.length = 12 ∧ admitted 2818 r s = true ∧ r.payload.length = 32 ∧ secretKey s.otp
      r.ctx.val = some psk ∧ (ctxOf s r.ctx.val).opening = some o ∧ hmac psk (ascii "NLH1" ++ o.nonceH ++ o.nonceP ++
      [b8 r.ctx.val]) ≠ r.payload) ∧
    (∃ (r : Req) (s : State), admitted 2819 r s = true ∧ r.payload = []) ∧
    (∃ (r : Req) (s : State), admitted 2820 r s = true ∧ r.payload = [] ∧ s.net.up = false ∧ s.net.ip4 = none) ∧
    (∃ (r : Req) (s : State) (c : Byte), admitted 2821 r s = true ∧ r.payload = [c, 0, 0, 0] ∧ 4 ≤ BitVec.toNat c ∧
      BitVec.toNat c ≤ 11) :=
  ⟨by
  have ⟨k, h⟩ := Option.isSome_iff_exists.mp (by decide +kernel : (secretKey (fielded ready).otp 1).isSome = true)
  exact ⟨reqI (zeros 16), fielded ready, k, by decide, by decide +kernel, by decide +kernel, by decide, h⟩,
   by
  have ⟨k, h⟩ := Option.isSome_iff_exists.mp (by decide +kernel : (secretKey openI.otp 1).isSome = true)
  exact ⟨reqI (hmac k (ascii "NLH1" ++ zeros 16 ++ zeros 16 ++ [1])), openI, k, opening, List.mem_cons_self, by decide +kernel,
    by rw [prove_admitted]; decide +kernel, hmac_length _ _, h, (by decide +kernel : (ctxOf openI 1).opening = some opening), rfl⟩,
   by
  have ⟨k, h⟩ := Option.isSome_iff_exists.mp (by decide +kernel : (secretKey openI.otp 1).isSome = true)
  have ⟨p, hp, hn⟩ : ∃ p : List Byte, p.length = 32 ∧ hmac k (ascii "NLH1" ++ zeros 16 ++ zeros 16 ++ [1]) ≠ p := by
    by_cases e : hmac k (ascii "NLH1" ++ zeros 16 ++ zeros 16 ++ [1]) = zeros 32
    · exact ⟨List.replicate 32 1, rfl, by rw [e]; decide⟩
    · exact ⟨zeros 32, rfl, e⟩
  exact ⟨reqI p, openI, k, opening, List.mem_cons_self, by decide +kernel, by rw [prove_admitted]; decide +kernel, hp, h,
    (by decide +kernel : (ctxOf openI 1).opening = some opening), hn⟩,
   ⟨{ req [] with link := .usb, ctx := 3 }, ready, by decide +kernel⟩,
   ⟨{ req [] with link := .usb, ctx := 3 }, ready, by decide +kernel⟩,
   ⟨req [4, 0, 0, 0], keyed 4 (withConn (some 4) (onNet ready)), 4, by decide +kernel⟩⟩

/-- The hypotheses of SessionsAndRights can be met: clauses 2, 3.1.1, 3.1.2, 3.2, 4.1, 4.2.1. -/
theorem witness_SessionsAndRights_2 :
    (∃ (k : Nat) (c : Nat) (f : OutFrame) (s : State), f.endsSession = true ∧ f.whose = some c ∧ f.opcode ≠ 258 ∧
      s.ctxs.length = 12 ∧ k < 12) ∧
    (∃ (c : Nat) (s : State) (k : Conn), connOn s c = some k ∧ (k.raw = true ∨ connOpen s k = true) ∧ connOf s k.id =
      some k) ∧
    (∃ (c : Nat) (s : State) (k : Conn) (x : Conn), connOn s c = some k ∧ (k.raw = true ∨ connOpen s k = true) ∧
      connOf s k.id = some k ∧ x ∈ s.net.conns ∧ x.id ≠ k.id) ∧
    (∃ (c : Nat) (s : State), connOn s c = none) ∧
    (∃ (r : Req) (s : State) (c : Byte), BitVec.toNat c ≤ 11 ∧ admitted 3074 r s = true ∧ r.payload = [c, 0, 0, 0]) ∧
    (∃ (r : Req) (s : State) (c : Byte) (purge : Byte) (mask : Half), BitVec.toNat c ≤ 11 ∧ admitted 3073 r s = true ∧
      r.payload = [c, purge] ++ b16 (BitVec.toNat mask) ∧ BitVec.toNat purge ≤ 1 ∧ BitVec.toNat mask ≤ 1023 ∧ (c = 0 →
      hasBit mask rAdmin = true) ∧ mask &&& ~~~admMask (accepted r s) r 3073 ≠ 0) :=
  ⟨⟨1, 4, { note with endsSession := true, whose := some 4 }, ready, by decide +kernel⟩,
   ⟨4, keyed 4 (withConn (some 4) (onNet ready)), conn (some 4), by decide +kernel⟩,
   ⟨4, keyed 4 (withNet (fun n => { n with conns := [{ conn none with id := 6 }, conn (some 4)] }) (onNet ready)), conn (some 4), { conn none with id := 6 }, by decide +kernel⟩,
   ⟨4, ready, by decide +kernel⟩,
   ⟨req [11, 0, 0, 0], ready, 11, by decide +kernel⟩,
   ⟨{ req [3, 0, 0xFF, 3] with link := .i2c, ctx := 1 }, withParams [(0x0301, [0, 2])] ready, 3, 0, 0x03FF, by decide +kernel⟩⟩

/-- The hypotheses of SessionsAndRights can be met: clauses 4.2.2, 4.2.3. -/
theorem witness_SessionsAndRights_3 :
    (∃ (r : Req) (s : State) (c : Byte) (purge : Byte) (mask : Half), BitVec.toNat c ≤ 11 ∧ admitted 3073 r s = true ∧
      r.payload = [c, purge] ++ b16 (BitVec.toNat mask) ∧ BitVec.toNat purge ≤ 1 ∧ BitVec.toNat mask ≤ 1023 ∧ (c = 0 →
      hasBit mask rAdmin = true) ∧ mask &&& ~~~admMask (accepted r s) r 3073 = 0 ∧ purge = 0) ∧
    (∃ (r : Req) (s : State) (c : Byte) (purge : Byte) (mask : Half), BitVec.toNat c ≤ 11 ∧ admitted 3073 r s = true ∧
      r.payload = [c, purge] ++ b16 (BitVec.toNat mask) ∧ BitVec.toNat purge ≤ 1 ∧ BitVec.toNat mask ≤ 1023 ∧ (c = 0 →
      hasBit mask rAdmin = true) ∧ mask &&& ~~~admMask (accepted r s) r 3073 = 0 ∧ purge = 1 ∧ (∀ (j : Job), j ∈
      s.jobs.live → j.id < s.jobs.nextId) ∧ hasBit (maskInForce s (BitVec.toNat c)) rPrint = true ∧ hasBit mask rPrint
      = false) :=
  ⟨⟨req [3, 0, 1, 0], ready, 3, 0, 1, by decide +kernel⟩,
   ⟨req [3, 1, 0, 0], withJobs [{ job 5 .queued with ctx := 3 }] ready, 3, 1, 0, by decide +kernel⟩⟩

/-- The hypotheses of TapAndUnlocks can be met: clauses 1.1, 1.3, 2.1, 2.2.1, 2.3.1, 2.4. -/
theorem witness_TapAndUnlocks_1 :
    (∃ (s : State), tapOn s = true) ∧
    (∃ (s : State) (code : BitVec 5), tapOn s = true ∧ tapCodes.contains code.toNat = false) ∧
    (∃ (s : State), tapOn s = true ∧ applyLocks s = s ∧ scanOpen s = true) ∧
    (∃ (s : State), tapOn s = true ∧ applyLocks s = s ∧ scanOpen s = true ∧ fireRailsReleased s.seq = true) ∧
    (∃ (s : State), tapOn s = true ∧ applyLocks s = s ∧ (scanOpen s = false ∨ fireRailsReleased s.seq = false)) ∧
    (∃ (s : State), tapOn s = true ∧ applyLocks s = s ∧ coreOpen s = true) :=
  ⟨⟨ready, by decide +kernel⟩,
   ⟨ready, 0x1F, by decide +kernel⟩,
   ⟨inState .doze ready, by decide +kernel⟩,
   ⟨ready, by decide +kernel⟩,
   ⟨fielded ready, by decide +kernel⟩,
   ⟨ready, by decide +kernel⟩⟩

/-- The hypotheses of TapAndUnlocks can be met: clauses 2.5, 2.6.1, 2.6.2, 2.7, 3.1.1, 3.1.2. -/
theorem witness_TapAndUnlocks_2 :
    (∃ (s : State), tapOn s = true ∧ applyLocks s = s ∧ coreOpen s = false) ∧
    (∃ (s : State), tapOn s = true ∧ applyLocks s = s ∧ serviceOpen s = true) ∧
    (∃ (s : State) (f : List Byte), tapOn s = true ∧ applyLocks s = s ∧ serviceOpen s = true ∧ f ≠ []) ∧
    (∃ (s : State) (_ : List Byte), tapOn s = true ∧ applyLocks s = s ∧ serviceOpen s = false) ∧
    (∃ (s : State) (key : List Byte), authOn s = true ∧ s.dbg.backoff = false ∧ serviceCell s.otp = Cell.a ∧ levelKey
      s.otp DbgLevel.service = some key) ∧
    (∃ (s : State) (key : List Byte), authOn s = true ∧ s.dbg.backoff = false ∧ coreCell s.otp = Cell.a ∧ levelKey
      s.otp DbgLevel.core = some key) :=
  ⟨⟨fielded ready, by decide +kernel⟩,
   ⟨ready, by decide +kernel⟩,
   ⟨ready, [1, 2], by decide +kernel⟩,
   ⟨fielded ready, [1], by decide +kernel⟩,
   by
  have ⟨k, h⟩ := Option.isSome_iff_exists.mp (by decide +kernel : (levelKey (fielded ready).otp .service).isSome = true)
  exact ⟨withDbg (fun d => { d with ir := .auth }) (fielded ready), k, by decide +kernel, by decide +kernel,
    by decide +kernel, h⟩,
   by
  have ⟨k, h⟩ := Option.isSome_iff_exists.mp (by decide +kernel : (levelKey provKeys.otp .core).isSome = true)
  exact ⟨provKeys, k, by decide +kernel, by decide +kernel, by decide +kernel, h⟩⟩

/-- The hypotheses of TapAndUnlocks can be met: clauses 3.1.3, 3.1.4, 3.2.1, 3.3, 3.4, 3.5. -/
theorem witness_TapAndUnlocks_3 :
    (∃ (s : State), authOn s = true ∧ s.dbg.backoff = false ∧ serviceCell s.otp = Cell.x) ∧
    (∃ (s : State), authOn s = true ∧ s.dbg.backoff = false ∧ serviceCell s.otp = Cell.o) ∧
    (∃ (s : State), authOn s = true ∧ s.dbg.backoff = true) ∧
    (∃ (s : State) (mac : List Byte), mac.length = 16 ∧ authOn s = true ∧ s.dbg.status = 1 ∧ s.dbg.asked ≠
      DbgLevel.none) ∧
    (∃ (s : State) (a : List Byte), s.dbg.answer = some a ∧ expectedResponse s s.dbg.asked = some a) ∧
    (∃ (s : State) (a : List Byte), s.dbg.answer = some a ∧ expectedResponse s s.dbg.asked ≠ some a) :=
  ⟨⟨withDbg (fun d => { d with ir := .auth }) (otpWith [(0, 1), (1, 1)] ready), by decide +kernel⟩,
   ⟨withDbg (fun d => { d with ir := .auth }) ready, by decide +kernel⟩,
   ⟨withDbg (fun d => { d with ir := .auth, backoff := true }) ready, by decide +kernel⟩,
   ⟨withDbg (fun d => { d with ir := .auth, status := 1, asked := .service }) ready, zeros 16, by decide +kernel⟩,
   by
  have ⟨a, h⟩ := Option.isSome_iff_exists.mp (by decide +kernel : (expectedResponse provKeys .service).isSome = true)
  exact ⟨withDbg (fun d => { d with answer := some a }) provKeys, a, rfl, h⟩,
   ⟨withDbg (fun d => { d with answer := some [] }) ready, [], by decide +kernel⟩⟩

/-- The hypotheses of TapAndUnlocks can be met: clauses 3.7, 3.8. -/
theorem witness_TapAndUnlocks_4 :
    (∃ (s : State), authOn s = true) ∧
    (∃ (s : State), s.dbg.level ≠ DbgLevel.none ∨ s.dbg.used = true) :=
  ⟨⟨withDbg (fun d => { d with ir := .auth, level := .service }) ready, by decide +kernel⟩,
   ⟨withDbg (fun d => { d with used := true }) ready, by decide +kernel⟩⟩

/-- The hypotheses of DebugPortKeepsToItself can be met: clauses 1, 3.1. -/
theorem witness_DebugPortKeepsToItself :
    (∃ (s t : State) (c : Instr), (c ∈ [Instr.extest, .samplePreload, .idcode, .highz, .auth, .coreDbg, .reqService,
      .reqCore, .close, .authVerifyDone, .authBackoffExpiry, .dbgIdleClose] ∨ (∃ code, c = .bypass code) ∨ (∃ mac, c =
      .respond mac)) ∧ exec c s = .next t) ∧
    (∃ (s t : State) (c : Instr), (c ∈ [Instr.extest, .samplePreload, .idcode, .highz, .auth, .coreDbg, .reqService,
      .reqCore, .close, .authVerifyDone, .authBackoffExpiry, .dbgIdleClose] ∨ (∃ code, c = .bypass code) ∨ (∃ mac, c =
      .respond mac)) ∧ exec c s = .next t ∧ c ≠ .extest ∧ c ≠ .samplePreload ∧ c ≠ .highz ∧ c ≠ .coreDbg) :=
  ⟨⟨ready, _, .auth, .inl (by decide), rfl⟩,
   ⟨ready, _, .auth, .inl (by decide), rfl, by decide, by decide, by decide, by decide⟩⟩

/-- The hypotheses of SequencesAndShutdowns can be met: clauses 1.1, 1.2, 1.3, 1.4, 2.1, 2.2. -/
theorem witness_SequencesAndShutdowns_1 :
    (∃ (s : State) (ch : Fin 8), s.seq.ch.length = 8 ∧ s.seq.ph = Phase.up ∧ s.seq.frozen = false ∧ (chCfg s.seq
      ↑ch).upState = s.seq.state ∧ inMask s.seq ↑ch = true) ∧
    (∃ (s : State) (ch : Fin 8), s.seq.ch.length = 8 ∧ s.rst.vaoGood = true ∧ pgUsed s.seq ↑ch = true ∧ (chRun s.seq
      ↑ch).pg = false ∧ s.seq.frozen = false) ∧
    (∃ (s : State) (ch : Fin 8), s.seq.ch.length = 8 ∧ pgUsed s.seq ↑ch = true ∧ (chRun s.seq ↑ch).en = true ∧ (chRun
      s.seq ↑ch).pgSeen = false ∧ (chRun s.seq ↑ch).pgFlag = false ∧ s.seq.frozen = false ∧ (s.seq.ph = Phase.up ∨
      s.seq.ph = Phase.running)) ∧
    (∃ (s : State), s.seq.ch.length = 8 ∧ s.seq.ph = Phase.running) ∧
    (∃ (s : State) (n : Nat), s.seq.ph = Phase.down ∧ s.seq.frozen = false ∧ s.seq.slotWff = false ∧ slotChannel s.seq
      s.seq.slot = some n ∧ wffEnabled s.seq n = false ∧ s.seq.ch.length = 8) ∧
    (∃ (s : State) (n : Nat), wffWaiting s.seq = some n ∧ s.seq.frozen = false ∧ s.seq.ch.length = 8) :=
  ⟨⟨rising (fun q => { q with state := 1 }), 1, by decide +kernel⟩,
   ⟨rising (fun q => { q with ch := List.replicate 8 { ChRun.off with en := true } }), 4, by decide +kernel⟩,
   ⟨rising (fun q => { q with ch := List.replicate 8 { ChRun.off with en := true } }), 4, by decide +kernel⟩,
   ⟨allUp, by decide +kernel⟩,
   ⟨falling (fun q => { q with slot := 0 }), 3, by decide +kernel⟩,
   ⟨falling (fun q => { q with slotWff := true, slot := 0, ch := List.replicate 8 ChRun.off, cfg := { q.cfg with ch := List.replicate 8 ⟨0, 0, 0, 10, 0, 0, 0x80000000, 1⟩ } }), 0, by decide +kernel⟩⟩

/-- The hypotheses of SequencesAndShutdowns can be met: clauses 2.3. -/
theorem witness_SequencesAndShutdowns_2 :
    ∃ (s : State), s.seq.ph = Phase.minOff ∧ s.seq.minOffRun = true ∧ s.seq.onLatched = false :=
  ⟨withSeq (fun q => { q with ph := .minOff, minOffRun := true }) ready, by decide +kernel⟩

/-- The hypotheses of RailFaultCutsEverything can be met. -/
theorem witness_RailFaultCutsEverything :
    ∃ (ch : Fin 8) (pgs : BitVec 8) (s : State), (chRun s.seq ↑ch).monitored = true ∧ (s.seq.ph = Phase.up ∨ s.seq.ph
      = Phase.running ∨ s.seq.ph = Phase.down) ∧ pgs.toNat.testBit ↑ch = false :=
  ⟨7, 0x7F, withSeq (fun q => { q with frozen := true }) allUp, by decide +kernel⟩

/-- The hypotheses of TripsDroneAndRecords can be met: clauses 1, 2.1, 2.2, 2.3, 2.4, 2.5.1. -/
theorem witness_TripsDroneAndRecords_1 :
    (∃ (_ : Fin 2) (_ : Bool) (s : State), (chRun s.seq s.seq.cfg.headRail).en = true ∧ s.pwr.st = PState.run ∧
      (s.rst.main = MainState.ready ∨ s.rst.main = MainState.booting)) ∧
    (∃ (s : State), s.rst.vaoGood = true ∧ s.seq.vinLow = false ∧ s.pwr.collect = none ∧ s.pwr.entry = none) ∧
    (∃ (s : State), s.seq.frozen = true) ∧
    (∃ (s : State), s.seq.vinLow = true ∧ coreRuns s = false) ∧
    (∃ (s : State), s.seq.vinLow = true ∧ coreRuns s = true) ∧
    (∃ (s : State) (p : PendingRec) (i : Nat) (is : List Nat), s.seq.holdup = some p ∧ p.snap = none ∧ p.compact ≠ []
      ∧ erasedSlots s.nvm = i :: is ∧ s.nvm.faults.length = 8 ∧ NvmSound s) :=
  ⟨⟨1, true, allUp, by decide +kernel⟩,
   ⟨allUp, by decide +kernel⟩,
   ⟨withSeq (fun q => { q with frozen := true }) allUp, by decide +kernel⟩,
   ⟨withSeq (fun q => { q with vinLow := true }) (withRst (fun r => { r with main := .booting }) ready), by decide +kernel⟩,
   ⟨withSeq (fun q => { q with vinLow := true }) ready, by decide +kernel⟩,
   ⟨withSeq (fun q => { q with holdup := some oneRec }) ready, oneRec, 0, [1, 2, 3, 4, 5, 6, 7], by decide +kernel⟩⟩

/-- The hypotheses of TripsDroneAndRecords can be met: clauses 3.1, 3.2, 3.3, 3.4, 3.5, 4. -/
theorem witness_TripsDroneAndRecords_2 :
    (∃ (s : State), s.seq.cfg.drone = true ∧ s.seq.frozen = false ∧ s.seq.partialRun = false ∧ droneListens s.seq =
      true ∧ s.seq.drone ≠ 14) ∧
    (∃ (s : State), s.seq.cfg.drone = true ∧ s.seq.frozen = false ∧ s.seq.partialRun = false ∧ droneListens s.seq =
      true ∧ s.seq.drone = 14 ∧ s.seq.ph = Phase.up) ∧
    (∃ (s : State), s.seq.cfg.drone = true ∧ s.seq.frozen = false ∧ s.seq.partialRun = false ∧ s.seq.droneLine = true
      ∧ s.seq.droneLow = false ∧ s.seq.drone ≠ 0 ∧ s.seq.drone ≠ 15 ∧ s.seq.droneAbortDue = false) ∧
    (∃ (s : State), s.seq.cfg.drone = true ∧ s.seq.frozen = false ∧ s.seq.partialRun = false ∧ s.seq.ph = Phase.up ∧
      s.seq.drone ≠ 0 ∧ s.seq.drone ≠ 15 ∧ s.seq.droneLine = false) ∧
    (∃ (s : State), s.seq.cfg.drone = true ∧ s.seq.frozen = false ∧ s.seq.partialRun = false ∧ s.seq.ph =
      Phase.running ∧ s.seq.drone = 15) ∧
    (∃ (s : State) (p : PendingRec) (i : Nat), s.seq.writing = some (p, i) ∧ p.snap = none ∧ p.compact ≠ [] ∧ coreRuns
      s = true ∧ NvmSound s) :=
  ⟨⟨drone (fun q => { q with droneLow := false, drone := 13 }) (rising id), by decide +kernel⟩,
   ⟨drone (fun q => { q with droneLow := false, drone := 14 }) (rising id), by decide +kernel⟩,
   ⟨drone (fun q => { q with droneLow := false, droneLine := true, drone := 14 }) (rising id), by decide +kernel⟩,
   ⟨drone (fun q => { q with drone := 1 }) (rising id), by decide +kernel⟩,
   ⟨drone (fun q => { q with droneLow := false, drone := 15 }) allUp, by decide +kernel⟩,
   ⟨withSeq (fun q => { q with writing := some (oneRec, 7) }) ready, oneRec, 7, by decide +kernel⟩⟩

/-- The hypotheses of SaffronAndDisch can be met: clauses 1.1.1, 1.1.2, 1.2, 1.3, 1.4, 1.5. -/
theorem witness_SaffronAndDisch_1 :
    (∃ (s : State), s.saf.disch = true ∧ s.saf.dischLate = false ∧ (s.pwr.st = PState.run ∨ s.pwr.st = PState.doze ∨
      s.pwr.st = PState.nap) ∧ below1J s = true) ∧
    (∃ (s : State), s.saf.disch = true ∧ s.saf.dischLate = false ∧ (s.pwr.st = PState.run ∨ s.pwr.st = PState.doze ∨
      s.pwr.st = PState.nap) ∧ below1J s = false) ∧
    (∃ (s : State), s.saf.disch = true ∧ dischMayRelease s = true) ∧
    (∃ (s : State), s.saf.disch = true ∧ dischMayRelease s = false) ∧
    (∃ (s : State), s.seq.frozen = true) ∧
    (∃ (s : State), s.seq.frozen = false) :=
  ⟨⟨fresh ready, by decide +kernel⟩,
   ⟨ready, by decide +kernel⟩,
   ⟨fresh allUp, by decide +kernel⟩,
   ⟨ready, by decide +kernel⟩,
   ⟨withSeq (fun q => { q with frozen := true }) ready, by decide +kernel⟩,
   ⟨ready, by decide +kernel⟩⟩

/-- The hypotheses of SaffronAndDisch can be met: clauses 1.6, 2.1, 2.2, 2.3, 2.4, 2.5. -/
theorem witness_SaffronAndDisch_2 :
    (∃ (s : State), s.saf.winOpen = true) ∧
    (∃ (s : State) (t : Ticket) (j : Job) (p : Nat), s.saf.ticket = some t ∧ jobOf s t.job = some j ∧ t.paused = true
      ∧ j.st = JobSt.printing ∧ j.cancelling = false ∧ t.admitted.length < totalBands j ∧ resumeStep s j t = some p) ∧
    (∃ (s : State) (t : Ticket) (j : Job), s.saf.ticket = some t ∧ jobOf s t.job = some j ∧ t.paused = true ∧ j.st =
      JobSt.printing ∧ totalBands j ≤ t.admitted.length ∧ admitNothing s = false ∧ diesCooled s = true ∧ energyBack s
      = true) ∧
    (∃ (s : State) (t : Ticket) (j : Job) (k : Nat), s.saf.ticket = some t ∧ jobOf s t.job = some j ∧ t.stopAt = some
      k ∧ s.motion.rate = 0 ∧ j.st = JobSt.printing ∧ s.saf.disch = false ∧ hotDies s = [] ∧ t.hot = false ∧
      s.fife.waiting = none ∧ marginOver s t j (dStop s (t.admitted.getD (nextBand s t) t.step)) = true) ∧
    (∃ (s : State) (id : Nat), s.saf.awaiting = some id) ∧
    (∃ (s : State) (j : Job), jobOf s j.id = some j ∧ j.prio = 2 ∧ j.aged = false ∧ pv s.params 1568 ≠ 0 ∧ (j.st =
      JobSt.queued ∨ j.st = JobSt.ready)) :=
  ⟨⟨withSaf (fun f => { f with winOpen := true }) ready, by decide +kernel⟩,
   ⟨printing { ticket with paused := true } 0, { ticket with paused := true }, printJob, 100, by decide +kernel⟩,
   ⟨printing { ticket with paused := true, admitted := [100] } 0, { ticket with paused := true, admitted := [100] }, printJob, by decide +kernel⟩,
   ⟨withMotion (fun m => { m with rate := 0 }) (printing { ticket with stopAt := some 5, admitted := [100] } 1), { ticket with stopAt := some 5, admitted := [100] }, printJob, 5, by decide +kernel⟩,
   ⟨withSaf (fun f => { f with awaiting := some 5 }) ready, 5, by decide +kernel⟩,
   ⟨withJobs [{ job 5 .queued with prio := 2 }] ready, { job 5 .queued with prio := 2 }, by decide +kernel⟩⟩

/-- The hypotheses of EncodersAndCounts can be met: clauses 1, 2, 3.1, 3.2, 3.3, 4. -/
theorem witness_EncodersAndCounts_1 :
    (∃ (_ : Fin 2) (_ : Bool) (_ : Bool) (t : EncSeen) (s : State), coreRuns s = true ∧ t.held < pv s.params 1796) ∧
    (∃ (enc : Fin 2) (_ : Bool) (_ : Bool) (_ : EncSeen) (s : State) (e : Enc), s.motion.enc[↑enc]? = some e ∧
      coreRuns s = false) ∧
    (∃ (a : Bool) (b : Bool) (t : EncSeen) (s : State) (e : Enc), s.motion.enc[1]? = some e ∧ coreRuns s = true ∧
      carriage s = false ∧ (pv s.params 1795).testBit 1 = false ∧ pv s.params 1796 ≤ t.held ∧ s.fife.waiting = none ∧
      (quadPlace a b + 4 - quadPlace e.a e.b) % 4 = 1) ∧
    (∃ (a : Bool) (b : Bool) (t : EncSeen) (s : State) (e : Enc), s.motion.enc[1]? = some e ∧ coreRuns s = true ∧
      carriage s = false ∧ (pv s.params 1795).testBit 1 = false ∧ pv s.params 1796 ≤ t.held ∧ s.fife.waiting = none ∧
      (quadPlace a b + 4 - quadPlace e.a e.b) % 4 = 3) ∧
    (∃ (a : Bool) (b : Bool) (t : EncSeen) (s : State) (e : Enc), s.motion.enc[1]? = some e ∧ coreRuns s = true ∧
      carriage s = false ∧ (pv s.params 1795).testBit 1 = false ∧ pv s.params 1796 ≤ t.held ∧ s.fife.waiting = none ∧
      (quadPlace a b + 4 - quadPlace e.a e.b) % 4 = 2) ∧
    (∃ (s : State) (e : Enc) (p t0 : Rat), s.motion.enc[0]? = some e ∧ carriage s = false ∧ encUsed s = true ∧
      crawling s = false ∧ pHat s e = some p ∧ e.lastT = some t0 ∧ e.synthRun < 2 ∧ s.fife.waiting = none) :=
  ⟨⟨1, true, false, ⟨0, 9⟩, ready, by decide +kernel⟩,
   ⟨1, true, false, ⟨99, 9⟩, held, Enc.rest, by decide +kernel⟩,
   ⟨true, false, ⟨99, 9⟩, ready, Enc.rest, by decide +kernel⟩,
   ⟨false, true, ⟨99, 9⟩, ready, Enc.rest, by decide +kernel⟩,
   ⟨true, true, ⟨99, 9⟩, ready, Enc.rest, by decide +kernel⟩,
   ⟨withMotion (fun m => { m with rate := 1000000, enc := [{ Enc.rest with lastT := some 9, synthRun := 1 }, Enc.rest] }) (printing ticket 0), { Enc.rest with lastT := some 9, synthRun := 1 }, ((pHat (withMotion (fun m => { m with rate := 1000000 }) (printing ticket 0)) Enc.rest).getD 0), 9, by and_intros <;> decide +kernel⟩⟩

/-- The hypotheses of EncodersAndCounts can be met: clauses 5, 6, 7, 8, 9.1, 9.2. -/
theorem witness_EncodersAndCounts_2 :
    (∃ (s : State) (e : Enc) (p t0 : Rat), s.motion.enc[0]? = some e ∧ carriage s = false ∧ encUsed s = true ∧
      crawling s = false ∧ pHat s e = some p ∧ e.lastT = some t0 ∧ e.synthRun = 2 ∧ (printingTicket s).isSome) ∧
    (∃ (_ : Fin 2) (_ : Bool) (t : EncSeen) (s : State), coreRuns s = true ∧ t.held < pv s.params 1796) ∧
    (∃ (t : EncSeen) (s : State) (e : Enc), s.motion.enc[0]? = some e ∧ coreRuns s = true ∧ pv s.params 1796 ≤ t.held
      ∧ e.i = false ∧ e.fwd = true ∧ carriage s = false ∧ encUsed s = true ∧ pv s.params 1800 ≠ 0 ∧ e.lastIndex =
      none) ∧
    (∃ (t : EncSeen) (s : State) (e : Enc) (c : Word), s.motion.enc[0]? = some e ∧ coreRuns s = true ∧ pv s.params
      1796 ≤ t.held ∧ e.i = false ∧ e.fwd = true ∧ carriage s = false ∧ encUsed s = true ∧ pv s.params 1800 ≠ 0 ∧
      e.lastIndex = some c ∧ (2 < diff32 e.count c - ↑(pv s.params 1800) ∨ diff32 e.count c - ↑(pv s.params 1800) <
      -2) ∧ (printingTicket s).isSome = true) ∧
    (∃ (s : State) (t0 : Time) (v : Nat), s.motion.slow = some (t0, v) ∧ pv s.params 1794 ≠ 0 ∧ pv s.params 1809 * 6 *
      since s t0 / 2540 < v) ∧
    (∃ (s : State) (t0 : Time) (v : Nat), s.motion.slow = some (t0, v) ∧ pv s.params 1794 ≠ 0 ∧ v ≤ pv s.params 1809 *
      6 * since s t0 / 2540) :=
  ⟨⟨withMotion (fun m => { m with rate := 1000000, enc := [{ Enc.rest with lastT := some 9, synthRun := 2 }, Enc.rest] }) (printing ticket 0), { Enc.rest with lastT := some 9, synthRun := 2 }, ((pHat (withMotion (fun m => { m with rate := 1000000 }) (printing ticket 0)) Enc.rest).getD 0), 9, by and_intros <;> decide +kernel⟩,
   ⟨0, true, ⟨0, 9⟩, ready, by decide +kernel⟩,
   ⟨⟨99, 9⟩, withParams [(0x0702, [1]), (0x0708, [1, 0, 0, 0])] (withMotion (fun m => { m with enc := [{ Enc.rest with fwd := true }, Enc.rest] }) ready), { Enc.rest with fwd := true }, by decide +kernel⟩,
   ⟨⟨99, 9⟩, withParams [(0x0708, [4, 0, 0, 0])] (withMotion (fun m => { m with enc := [{ Enc.rest with lastIndex := some 0, count := 7, fwd := true }, Enc.rest] }) (printing ticket 0)), { Enc.rest with lastIndex := some 0, count := 7, fwd := true }, 0, by decide +kernel⟩,
   ⟨withMotion (fun m => { m with slow := some (0, 1000) }) ready, 0, 1000, by decide +kernel⟩,
   ⟨withClk (fun c => { c with hubTime := 30000001 }) (withMotion (fun m => { m with slow := some (0, 1000) }) ready), 0, 1000, by decide +kernel⟩⟩

/-- The hypotheses of EncodersAndCounts can be met: clauses 10.1, 10.2, 10.3, 10.4, 11, 12. -/
theorem witness_EncodersAndCounts_3 :
    (∃ (a : Bool) (b : Bool) (t : EncSeen) (s : State) (e : Enc) (tk : Ticket) (j : Job), s.motion.enc[0]? = some e ∧
      coreRuns s = true ∧ printingTicket s = some (tk, j) ∧ pv s.params 1794 ≠ 0 ∧ (pv s.params 1795).testBit 0 =
      false ∧ pv s.params 1796 ≤ t.held ∧ s.fife.waiting = none ∧ carriage s = false ∧ s.motion.rate ≠ 0 ∧ (quadPlace
      a b + 4 - quadPlace e.a e.b) % 4 = 1 ∧ e.fastRun = 2 ∧ ∃ t0, e.lastRawT = some t0 ∧ ↑t.cycle - ↑(edgeDelay s) -
      t0 < periodNow s * 2 / 5) ∧
    (∃ (a : Bool) (b : Bool) (t : EncSeen) (s : State) (e : Enc) (tk : Ticket) (j : Job), s.motion.enc[0]? = some e ∧
      coreRuns s = true ∧ printingTicket s = some (tk, j) ∧ pv s.params 1794 ≠ 0 ∧ (pv s.params 1795).testBit 0 =
      false ∧ pv s.params 1796 ≤ t.held ∧ s.fife.waiting = none ∧ carriage s = false ∧ (quadPlace a b + 4 - quadPlace
      e.a e.b) % 4 = 3 ∧ 4 ≤ diff32 e.furthest (e.raw - 1)) ∧
    (∃ (a : Bool) (b : Bool) (t : EncSeen) (s : State) (e : Enc) (tk : Ticket) (j : Job), s.motion.enc[0]? = some e ∧
      coreRuns s = true ∧ printingTicket s = some (tk, j) ∧ pv s.params 1794 ≠ 0 ∧ (pv s.params 1795).testBit 0 =
      false ∧ pv s.params 1796 ≤ t.held ∧ s.fife.waiting = none ∧ s.motion.rate = 0 ∧ (quadPlace a b + 4 - quadPlace
      e.a e.b) % 4 = 1 ∧ 4 ≤ diff32 (e.raw + 1) e.stopPos) ∧
    (∃ (a : Bool) (b : Bool) (t : EncSeen) (s : State) (e : Enc) (tk : Ticket) (j : Job), s.motion.enc[0]? = some e ∧
      coreRuns s = true ∧ printingTicket s = some (tk, j) ∧ pv s.params 1794 ≠ 0 ∧ (pv s.params 1795).testBit 0 =
      false ∧ pv s.params 1796 ≤ t.held ∧ s.fife.waiting = none ∧ inPass s = true ∧ ((quadPlace a b + 4 - quadPlace
      e.a e.b) % 4 = 1 ∧ 4 ≤ diff32 (e.raw + 1) s.motion.passEnc ∨ (quadPlace a b + 4 - quadPlace e.a e.b) % 4 = 3 ∧ 4
      ≤ diff32 s.motion.passEnc (e.raw - 1))) ∧
    (∃ (s : State) (_ : Nat) (tk : Ticket) (j : Job), printingTicket s = some (tk, j)) ∧
    (∃ (t : EncSeen) (s : State) (e : Enc), s.motion.enc[1]? = some e ∧ coreRuns s = true ∧ pv s.params 1796 ≤ t.held
      ∧ e.i = false ∧ carriage s = true) :=
  ⟨⟨true, false, ⟨99, 9⟩, withMotion (fun m => { m with enc := [{ Enc.rest with lastRawT := some 0, fastRun := 2 }, Enc.rest] }) (printing ticket 0), { Enc.rest with lastRawT := some 0, fastRun := 2 }, ticket, printJob, by and_intros <;> first | decide +kernel | exact ⟨0, by decide +kernel, by decide +kernel⟩⟩,
   ⟨false, true, ⟨99, 9⟩, withMotion (fun m => { m with enc := [{ Enc.rest with furthest := 3 }, Enc.rest] }) (printing ticket 0), { Enc.rest with furthest := 3 }, ticket, printJob, by decide +kernel⟩,
   ⟨true, false, ⟨99, 9⟩, withMotion (fun m => { m with enc := [{ Enc.rest with raw := 3 }, Enc.rest], rate := 0 }) (printing ticket 0), { Enc.rest with raw := 3 }, ticket, printJob, by decide +kernel⟩,
   ⟨true, false, ⟨99, 9⟩, withParams [(0x0701, [1])] (withMotion (fun m => { m with enc := [{ Enc.rest with raw := 3 }, Enc.rest] }) (printing ticket 0)), { Enc.rest with raw := 3 }, ticket, printJob, by decide +kernel⟩,
   ⟨printing ticket 0, 1, ticket, printJob, by decide +kernel⟩,
   ⟨⟨99, 9⟩, withParams [(0x0701, [1])] ready, Enc.rest, by decide +kernel⟩⟩

/-- The hypotheses of EncodersAndCounts can be met: clauses 13.1, 13.2, 13.3. -/
theorem witness_EncodersAndCounts_4 :
    (∃ (s : State), coreRuns s = true ∧ 64 ≤ s.fife.linesSinceUpdate ∧ s.fife.waiting = none) ∧
    (∃ (s : State), s.motion.waitStill = true) ∧
    (∃ (s : State), s.motion.feed = FeedUse.resync) :=
  ⟨⟨withFife (fun f => { f with linesSinceUpdate := 64, deltas := [] }) ready, by decide +kernel⟩,
   ⟨withMotion (fun m => { m with waitStill := true }) ready, by decide +kernel⟩,
   ⟨withMotion (fun m => { m with feed := .resync }) ready, by decide +kernel⟩⟩

/-- The hypotheses of LinesFireAtTheirBoundaries can be met: clauses 1.1, 1.2.1, 1.2.2, 1.2.3, 2.1. -/
theorem witness_LinesFireAtTheirBoundaries :
    (∃ (_ : Nat) (_ : Nat) (s : State) (tk : Ticket) (j : Job), printingTicket s = some (tk, j) ∧ s.motion.rate = 0) ∧
    (∃ (t : Nat) (steps : Nat) (s : State) (tk : Ticket) (j : Job), printingTicket s = some (tk, j) ∧ s.motion.rate ≠
      0 ∧ s.motion.feed = FeedUse.ticket ∧ s.saf.disch = false ∧ headEnable s ≠ 0 ∧ s.fife.hisGate = false ∧
      s.fife.fault = false ∧ heldUpTo s tk j = none ∧ tk.stopAt = none ∧ tk.clockLine < clockLines s tk j ∧
      boundaryReached s tk.clockLine t steps = true ∧ s.fife.waiting = none ∧ lineStart s t = none) ∧
    (∃ (t : Nat) (steps : Nat) (s : State) (tk : Ticket) (j : Job) (start : Nat), printingTicket s = some (tk, j) ∧
      s.motion.rate ≠ 0 ∧ s.motion.feed = FeedUse.ticket ∧ s.saf.disch = false ∧ headEnable s ≠ 0 ∧ s.fife.hisGate =
      false ∧ s.fife.fault = false ∧ heldUpTo s tk j = none ∧ tk.stopAt = none ∧ tk.clockLine < clockLines s tk j ∧
      boundaryReached s tk.clockLine t steps = true ∧ s.fife.waiting = none ∧ lineStart s t = some (start, false)) ∧
    (∃ (t : Nat) (steps : Nat) (s : State) (tk : Ticket) (j : Job) (start : Nat), printingTicket s = some (tk, j) ∧
      s.motion.rate ≠ 0 ∧ s.motion.feed = FeedUse.ticket ∧ s.saf.disch = false ∧ headEnable s ≠ 0 ∧ s.fife.hisGate =
      false ∧ s.fife.fault = false ∧ heldUpTo s tk j = none ∧ tk.stopAt = none ∧ tk.clockLine < clockLines s tk j ∧
      boundaryReached s tk.clockLine t steps = true ∧ s.fife.waiting = none ∧ lineStart s t = some (start, true)) ∧
    (∃ (s : State) (w : LateLine), s.fife.waiting = some w) :=
  ⟨⟨9, 0, withMotion (fun m => { m with rate := 0 }) (printing ticket 0), ticket, printJob, by decide +kernel⟩,
   ⟨9, 99, withFife (fun f => { f with started := some 20 }) (withParams [(0x0702, [0]), (0x0801, [1])] (printing { ticket with admitted := [100] } 1)), { ticket with admitted := [100] }, printJob, by decide +kernel⟩,
   ⟨9, 99, withParams [(0x0702, [0]), (0x0801, [1])] (printing { ticket with admitted := [100] } 1), { ticket with admitted := [100] }, printJob, 9, by decide +kernel⟩,
   ⟨9, 99, withFife (fun f => { f with started := some 0, printEnd := 20, lineEnd := 25 }) (withParams [(0x0702, [0]), (0x0801, [1])] (printing { ticket with admitted := [100] } 1)), { ticket with admitted := [100] }, printJob, 25, by decide +kernel⟩,
   ⟨withFife (fun f => { f with waiting := some { n := 4, start := 9, pos := 1024, dir := 1, restart := false, step := 100, fired := [7] } }) ready, { n := 4, start := 9, pos := 1024, dir := 1, restart := false, step := 100, fired := [7] }, by decide +kernel⟩⟩

/-- The hypotheses of CutsAndMotors can be met: clauses 1.1, 1.2, 1.3, 1.4, 1.5, 1.6. -/
theorem witness_CutsAndMotors_1 :
    (∃ (s : State) (kind : Nat) (feed : Nat) (re : Bool) (rest : List (Nat × Nat × Bool)), s.saf.disch = false ∧
      s.fife.waiting = none ∧ s.motion.disabled.toNat.testBit 1 = false ∧ s.motion.cutting = none ∧ s.motion.feed =
      FeedUse.stub ∧ s.motion.stubs = (kind, feed, re) :: rest) ∧
    (∃ (s : State) (t : Ticket) (j : Job), s.saf.disch = false ∧ s.fife.waiting = none ∧
      s.motion.disabled.toNat.testBit 1 = false ∧ s.motion.cutting = none ∧ s.motion.feed = FeedUse.toBlade ∧
      s.saf.ticket = some t ∧ jobOf s t.job = some j ∧ j.cut ≠ 0) ∧
    (∃ (s : State) (level : Bool), homeActive s 0 level = false ∨ cutterStands s = true) ∧
    (∃ (s : State) (level : Bool) (kind : Nat) (n : Nat) (m : Nat) (rest : List (Nat × Nat × Bool)), homeActive s 0
      level = true ∧ cutterStands s = false ∧ s.motion.cutting = some (kind, true) ∧ s.motion.stubs = (n, m, false) ::
      rest) ∧
    (∃ (s : State) (level : Bool) (kind : Nat) (t : Ticket) (j : Job), homeActive s 0 level = true ∧ cutterStands s =
      false ∧ s.motion.cutting = some (kind, false) ∧ s.saf.ticket = some t ∧ jobOf s t.job = some j) ∧
    (∃ (s : State) (kind : Nat) (stub : Bool), s.motion.cutting = some (kind, stub)) :=
  ⟨⟨withMotion (fun m => { m with feed := .stub, stubs := [(1, 100, false)] }) (withSaf (fun f => { f with disch := false }) ready), 1, 100, false, [], by decide +kernel⟩,
   ⟨withMotion (fun m => { m with feed := .toBlade }) (printing ticket 0), ticket, printJob, by decide +kernel⟩,
   ⟨(withSaf (fun f => { f with disch := false }) ready), !homeActive ready 0 true, by decide +kernel⟩,
   ⟨withMotion (fun m => { m with cutting := some (1, true), stubs := [(1, 100, false)] }) (withSaf (fun f => { f with disch := false }) ready), homeActive ready 0 true, 1, 1, 100, [], by decide +kernel⟩,
   ⟨withMotion (fun m => { m with cutting := some (1, false) }) (printing ticket 0), homeActive ready 0 true, 1, ticket, printJob, by decide +kernel⟩,
   ⟨withMotion (fun m => { m with cutting := some (1, false) }) (printing ticket 0), 1, false, by decide +kernel⟩⟩

/-- The hypotheses of CutsAndMotors can be met: clauses 1.7, 2.1, 2.2, 2.3.1, 2.3.2, 2.4. -/
theorem witness_CutsAndMotors_2 :
    (∃ (s : State), s.motion.cutting = none ∧ s.motion.homingCut = true) ∧
    (∃ (s : State) (level : Bool), coreRuns s = true ∧ s.pwr.st = PState.run ∧ s.saf.disch = false ∧ s.motion.disabled
      = 0 ∧ s.motion.homingCut = true ∧ homeActive s 0 level = true) ∧
    (∃ (s : State) (level : Bool), coreRuns s = true ∧ s.pwr.st = PState.run ∧ s.saf.disch = false ∧ s.motion.disabled
      = 0 ∧ s.motion.homingSled = true ∧ s.motion.capped = false ∧ homeActive s 1 level = true) ∧
    (∃ (s : State) (level : Bool), homeActive s 0 level = false ∨ coreRuns s = false ∨ s.pwr.st ≠ PState.run ∨
      s.saf.disch = true ∨ s.motion.disabled.toNat.testBit 1 = true) ∧
    (∃ (s : State) (level : Bool), homeActive s 1 level = false ∨ coreRuns s = false ∨ s.pwr.st ≠ PState.run ∨
      s.saf.disch = true ∨ s.motion.disabled.toNat.testBit 2 = true) ∧
    (∃ (s : State), s.motion.homingSled = true) :=
  ⟨⟨withMotion (fun m => { m with homingCut := true }) ready, by decide +kernel⟩,
   ⟨withMotion (fun m => { m with homingCut := true }) (withSaf (fun f => { f with disch := false }) ready), homeActive ready 0 true, by decide +kernel⟩,
   ⟨withMotion (fun m => { m with homingSled := true, capped := false }) (withSaf (fun f => { f with disch := false }) ready), homeActive ready 1 true, by decide +kernel⟩,
   ⟨(withSaf (fun f => { f with disch := false }) ready), !homeActive ready 0 true, by decide +kernel⟩,
   ⟨withMotion (fun m => { m with disabled := 4 }) (withSaf (fun f => { f with disch := false }) ready), true, by decide +kernel⟩,
   ⟨withMotion (fun m => { m with homingSled := true, capped := false }) (withSaf (fun f => { f with disch := false }) ready), by decide +kernel⟩⟩

/-- The hypotheses of CutsAndMotors can be met: clauses 2.5, 2.6, 2.7, 2.8. -/
theorem witness_CutsAndMotors_3 :
    (∃ (s : State) (m : Fin 3), coreRuns s = true ∧ s.motion.disabled.toNat.testBit ↑m = false) ∧
    (∃ (s : State) (_ : Fin 3), coreRuns s = false) ∧
    (∃ (s : State) (m : Fin 3), s.motion.disabled.toNat.testBit ↑m = true) ∧
    (∃ (s : State) (m : Fin 3), motorStopped s ↑m = true) :=
  ⟨⟨ready, 0, by decide +kernel⟩,
   ⟨held, 1, by decide +kernel⟩,
   ⟨withMotion (fun m => { m with disabled := 2 }) ready, 1, by decide +kernel⟩,
   ⟨withMotion (fun m => { m with en := 7 }) ready, 0, by decide +kernel⟩⟩

/-- The hypotheses of HubTicksAndBuses can be met: clauses 1, 2, 3, 4, 5.1, 5.3. -/
theorem witness_HubTicksAndBuses_1 :
    (∃ (_ : Sampled) (_ : Bool) (s : State), s.rst.vaoGood = true ∧ s.pwr.st = PState.run ∧ s.hub.running = false ∧
      s.hub.wff = none ∧ s.cal.due = []) ∧
    (∃ (_ : Sampled) (_ : Bool) (s : State), s.rst.vaoGood = true ∧ s.rst.vddaGood = true ∧ s.pwr.st = PState.run ∧
      s.hub.running = true ∧ s.hub.reserve = false ∧ s.hub.wff = none ∧ s.hub.defer = [] ∧ List.take 10 s.hub.slots =
      Hub.sysSlots ∧ s.hub.latest.length = 27) ∧
    (∃ (_ : Sampled) (_ : Bool) (s : State) (d : Nat) (e : List Byte), s.rst.vaoGood = true ∧ s.rst.vddaGood = true ∧
      s.pwr.st = PState.run ∧ s.pwr.collect = none ∧ s.pwr.entry = none ∧ s.hub.running = true ∧ s.hub.reserve = true
      ∧ s.hub.stopping = false ∧ s.hub.wff = none ∧ s.hub.defer = [] ∧ s.hub.busI2c = [] ∧ s.hub.busSpi = [] ∧
      s.hub.done = [] ∧ List.take 10 s.hub.slots = Hub.sysSlots ∧ (∀ (n : Nat), 10 ≤ n → slotKind (hubSlot s.hub n) =
      0 ∧ (slotRunOf s.hub n).deferred = false) ∧ s.hub.dets.length = 32 ∧ s.hub.detRun.length = 32 ∧ d < 32 ∧ hubDet
      s.hub d = e ∧ detKind e = 1 ∧ detSource e = 0 ∧ (∀ (k : Nat), k ≠ d → detKind (hubDet s.hub k) = 0) ∧ (detRunOf
      s.hub d).late = false) ∧
    (∃ (spi : Bool) (_ : List Byte) (_ : Nat) (s : State) (x : BusTx) (rest : List BusTx), busOf s.hub spi = x :: rest
      ∧ x.started = true ∧ s.hub.running = true) ∧
    (∃ (s : State) (x : BusTx) (rest : List BusTx), s.hub.busI2c = x :: rest ∧ x.started = true ∧ s.hub.running =
      true) ∧
    (∃ (s : State) (x : BusTx) (rest : List BusTx), s.hub.busI2c = x :: rest ∧ x.started = true ∧ s.hub.running = true
      ∧ x.retries + 1 < pv s.params 2563) :=
  ⟨⟨⟨[], []⟩, false, withHub (fun h => { h with running := false }) ready, by decide +kernel⟩,
   ⟨⟨List.replicate 25 7, []⟩, true, ready, by decide +kernel⟩,
   ⟨⟨List.replicate 25 7, []⟩, true, oneDet, 0, 1 :: zeros 15, by and_intros <;> first | exact no_slots | exact no_dets | decide +kernel⟩,
   ⟨true, [1, 2], 0, withHub (fun h => { h with busSpi := [tx true] }) ready, tx true, [], by decide +kernel⟩,
   ⟨withHub (fun h => { h with busI2c := [tx true] }) ready, tx true, [], by decide +kernel⟩,
   ⟨withHub (fun h => { h with busI2c := [tx true] }) ready, tx true, [], by decide +kernel⟩⟩

/-- The hypotheses of HubTicksAndBuses can be met: clauses 5.4, 6. -/
theorem witness_HubTicksAndBuses_2 :
    (∃ (s : State) (x : BusTx) (rest : List BusTx), s.hub.busI2c = x :: rest ∧ x.started = true ∧ s.hub.running = true
      ∧ pv s.params 2563 ≤ x.retries + 1) ∧
    (∃ (s : State) (x : BusTx) (rest : List BusTx), s.hub.busI2c = x :: rest ∧ x.started = false ∧ x.retries ≠ 0) :=
  ⟨⟨withHub (fun h => { h with busI2c := [{ tx true with retries := 255 }] }) ready, { tx true with retries := 255 }, [], by decide +kernel⟩,
   ⟨withHub (fun h => { h with busI2c := [{ tx false with retries := 1 }] }) ready, { tx false with retries := 1 }, [], by decide +kernel⟩⟩

/-- The hypotheses of ServicesAndCalibrationsEnd can be met: clauses 1.1, 1.2, 1.3.1, 1.3.2, 1.4, 2.1. -/
theorem witness_ServicesAndCalibrationsEnd_1 :
    (∃ (s : State) (v : ScanRun) (gates : List GateSeen) (tests : List NozTest) (ts : List NozTest) (cut : Option
      NozTest), s.saf.railHit = false ∧ s.saf.dischHit = false ∧ firstBadRail s.seq = none ∧ s.noz.scan = some v ∧
      s.noz.marked = [] ∧ v.wait = none ∧ scanDone s v gates tests = (ts, [], none, cut) ∧ (List.map testNozzle
      ts).Nodup) ∧
    (∃ (s : State) (v : ScanRun) (gates : List GateSeen) (tests : List NozTest) (ts : List NozTest) (left : List Nat)
      (cut : Option NozTest), s.saf.railHit = false ∧ s.saf.dischHit = false ∧ firstBadRail s.seq = none ∧ s.noz.scan
      = some v ∧ s.noz.marked = [] ∧ scanDone s v gates tests = (ts, left, none, cut) ∧ (left ≠ [] ∨ v.wait.isSome =
      true) ∧ v.yield = false) ∧
    (∃ (s : State) (v : SvcRun), s.saf.railHit = false ∧ s.saf.dischHit = false ∧ firstBadRail s.seq = none ∧
      s.noz.service = some v ∧ v.left = 0 ∧ v.after = 0 ∧ v.firing = 0) ∧
    (∃ (s : State) (v : SvcRun), s.saf.railHit = false ∧ s.saf.dischHit = false ∧ firstBadRail s.seq = none ∧
      s.noz.service = some v ∧ (v.left ≠ 0 ∨ v.after ≠ 0 ∨ v.firing ≠ 0)) ∧
    (∃ (s : State) (a : Action) (_ : Nat), s.saf.railHit = false ∧ s.saf.dischHit = false ∧ firstBadRail s.seq = none
      ∧ running s 1798 = some a) ∧
    (∃ (s : State) (v : SvcRun) (_ : List GateSeen) (_ : List NozTest), s.noz.service = some v ∧ waitedOut s v.wait =
      true) :=
  ⟨by
  have ⟨c, h⟩ := scan_whole
  exact ⟨scanning, scan, [gate], (List.range 2112).map seen, (List.range 2112).map seen, c, rfl, rfl, by decide +kernel, rfl, rfl, rfl, h, seen_distinct⟩,
   by
  have ⟨c, h⟩ := scan_left
  exact ⟨scanning, scan, [gate], [], [], 0 :: List.range' 1 2111, c, rfl, rfl, by decide +kernel, rfl, rfl, h, .inl (List.cons_ne_nil _ _), rfl⟩,
   ⟨{ allUp with noz := { ready.noz with service := some (service 3) } }, service 3, by decide +kernel⟩,
   ⟨{ allUp with noz := { ready.noz with service := some { service 1 with left := 64 } } }, { service 1 with left := 64 }, by decide +kernel⟩,
   ⟨withSaf (fun f => { f with actions := [{ calAction with opcode := 0x0706 }] }) allUp, { calAction with opcode := 0x0706 }, 0, by decide +kernel⟩,
   ⟨withClk (fun c => { c with hubTime := 30000001 }) { allUp with noz := { ready.noz with service := some (service 1) } }, service 1, [], [], by decide +kernel⟩⟩

/-- The hypotheses of ServicesAndCalibrationsEnd can be met: clauses 2.2, 3, 4.1.1, 4.1.2, 4.1.3, 4.1.4. -/
theorem witness_ServicesAndCalibrationsEnd_2 :
    (∃ (s : State) (v : SvcRun) (_ : List GateSeen) (_ : List NozTest), s.noz.service = some v ∧ waitedOut s v.wait =
      false) ∧
    (∃ (s : State), coreRuns s = true ∧ s.noz.dirty = true ∧ s.noz.writtenAt = none ∧ s.nvm.maps.length = 2 ∧ NvmSound
      s) ∧
    (∃ (s : State) (a : Action) (m : CalMeas) (e : MechEnd), running s 1537 = some a ∧ s.cal.store = none ∧ byteAt
      a.payload 0 = 3 ∧ byteAt a.payload 1 = 0 ∧ m.fail = some e) ∧
    (∃ (s : State) (a : Action) (m : CalMeas), running s 1537 = some a ∧ s.cal.store = none ∧ byteAt a.payload 0 = 3 ∧
      byteAt a.payload 1 = 0 ∧ m.fail = none ∧ (runsWhole s 2 m = false ∨ s.cal.aoHeld = false) ∧ aoRestless s =
      false) ∧
    (∃ (s : State) (a : Action) (m : CalMeas), running s 1537 = some a ∧ s.cal.store = none ∧ byteAt a.payload 0 = 3 ∧
      byteAt a.payload 1 = 0 ∧ m.fail = none ∧ (runsWhole s 2 m = false ∨ s.cal.aoHeld = false) ∧ aoRestless s = true) ∧
    (∃ (s : State) (a : Action) (m : CalMeas), running s 1537 = some a ∧ s.cal.store = none ∧ byteAt a.payload 0 = 3 ∧
      byteAt a.payload 1 = 0 ∧ m.fail = none ∧ runsWhole s 2 m = true ∧ s.cal.aoHeld = true ∧ runsAgree s 2 (fieldAt
      a.payload 4 4) m.runs = false) :=
  ⟨⟨{ allUp with noz := { ready.noz with service := some (service 1) } }, service 1, [], [], by decide +kernel⟩,
   ⟨{ ready with noz := { ready.noz with dirty := true } }, by decide +kernel⟩,
   ⟨calRef, { calAction with payload := [3, 0, 0, 0, 0, 0, 0, 0] }, { meas with fail := some .paper }, .paper, by decide +kernel⟩,
   ⟨calRef, { calAction with payload := [3, 0, 0, 0, 0, 0, 0, 0] }, { meas with runs := [] }, by decide +kernel⟩,
   ⟨withClk (fun c => { c with hubTime := 30000001 }) { calRef with cal := { calRef.cal with aoHeld := false } }, { calAction with payload := [3, 0, 0, 0, 0, 0, 0, 0] }, meas, by decide +kernel⟩,
   ⟨calRef, { calAction with payload := [3, 0, 0, 0, 0, 0, 0, 0] }, { meas with runs := [[640000], [740000], [640000]] }, by decide +kernel⟩⟩

/-- The hypotheses of ServicesAndCalibrationsEnd can be met: clauses 4.1.5, 4.1.6, 4.2, 4.3, 4.4, 4.5. -/
theorem witness_ServicesAndCalibrationsEnd_3 :
    (∃ (s : State) (a : Action) (m : CalMeas) (ws : List Nat) (q : Word) (s1 : State) (s2 : State) (sel : List Nat),
      running s 1537 = some a ∧ s.cal.store = none ∧ byteAt a.payload 0 = 3 ∧ byteAt a.payload 1 = 0 ∧ m.fail = none ∧
      runsWhole s 2 m = true ∧ s.cal.aoHeld = true ∧ runsAgree s 2 (fieldAt a.payload 4 4) m.runs = true ∧
      (BitVec.toNat (byteAt a.payload 2)).testBit 0 = false ∧ shadowSlot s 2 = some ws ∧ calQuality s 2 (fieldAt
      a.payload 4 4) (runValues 2 m.verify) = (q, s1) ∧ selFrom s1 2 (fieldAt a.payload 4 4) (meanRun 2 m.runs) =
      (some sel, s2) ∧ verifyOk 2 (fieldAt a.payload 4 4) (runValues 2 m.verify) = true ∧ selOk 2 sel = true) ∧
    (∃ (s : State) (a : Action) (m : CalMeas), running s 1537 = some a ∧ s.cal.store = none ∧ byteAt a.payload 0 = 3 ∧
      byteAt a.payload 1 = 0 ∧ m.fail = none ∧ runsWhole s 2 m = true ∧ s.cal.aoHeld = true ∧ runsAgree s 2 (fieldAt
      a.payload 4 4) m.runs = true ∧ (BitVec.toNat (byteAt a.payload 2)).testBit 0 = false ∧ shadowSlot s 2 = none) ∧
    (∃ (s : State) (a : Action) (w : Nat) (tCal : Int) (ws : List (List Nat)) (sel : List Nat) (q : Word), running s
      1537 = some a ∧ s.cal.store = some (2, sel, tCal, q, 0) ∧ s.pwr.st = PState.run ∧ junctionOk s = true ∧ vaoOk s
      = true ∧ storeBarred s.otp = false ∧ blankSlots s.otp 2 = [w] :: ws ∧ (otpRaw s.otp w).defective = false ∧
      s.otp.words.length = 256) ∧
    (∃ (s : State) (a : Action), running s 1537 = some a ∧ s.cal.store.isSome = true ∧ s.pwr.st = PState.run ∧
      junctionOk s = true ∧ vaoOk s = true ∧ storeBarred s.otp = true) ∧
    (∃ (s : State) (a : Action), running s 1537 = some a ∧ waitedOut s s.cal.wait = false) ∧
    (∃ (s : State) (a : Action), running s 1537 = some a ∧ waitedOut s s.cal.wait = true) :=
  ⟨⟨calRef, { calAction with payload := [3, 0, 0, 0, 0, 0, 0, 0] }, meas, ((shadowSlot calRef 2).getD []), (calQuality calRef 2 0 (runValues 2 meas.verify)).1, (calQuality calRef 2 0 (runValues 2 meas.verify)).2, (calQuality calRef 2 0 (runValues 2 meas.verify)).2, [32], by decide +kernel⟩,
   ⟨otpWith [(1, 1)] calRef, { calAction with payload := [3, 0, 0, 0, 0, 0, 0, 0] }, meas, by decide +kernel⟩,
   ⟨storing, { calAction with payload := [3, 0, 0, 0, 0, 0, 0, 0] }, ((blankSlots storing.otp 2).headD [] |>.headD 0), 25, ((blankSlots storing.otp 2).drop 1), [20], 9, by decide +kernel⟩,
   ⟨otpWith [(3, 1)] storing, { calAction with payload := [3, 0, 0, 0, 0, 0, 0, 0] }, by decide +kernel⟩,
   ⟨storing, { calAction with payload := [3, 0, 0, 0, 0, 0, 0, 0] }, by decide +kernel⟩,
   ⟨withClk (fun c => { c with hubTime := 30000001 }) { storing with cal := { storing.cal with wait := some 0 } }, { calAction with payload := [3, 0, 0, 0, 0, 0, 0, 0] }, by decide +kernel⟩⟩

/-- The hypotheses of RenderingAndLogging can be met: clauses 1.1, 1.2, 1.3, 2.1.1, 2.1.2, 2.2. -/
theorem witness_RenderingAndLogging :
    (∃ (s : State) (j : Job) (js : List Job), coreRuns s = true ∧ jobOf s j.id = some j ∧ s.pwr.entry = none ∧
      rendered s = none ∧ toRender s = j :: js ∧ j.st = JobSt.queued) ∧
    (∃ (s : State) (j : Job), coreRuns s = true ∧ jobOf s j.id = some j ∧ rendered s = some j ∧ j.wait = true ∧
      blocksUsed s + j.planned ≤ storeBlocks ∧ s.usb.attached = false ∧ s.net.conns = []) ∧
    (∃ (s : State) (j : Job), coreRuns s = true ∧ jobOf s j.id = some j ∧ rendered s = some j ∧ j.wait = false) ∧
    (∃ (s : State), coreRuns s = true ∧ NvmSound s ∧ s.pwr.st ≠ PState.doze ∧ s.log.lossDue = false ∧ s.log.staging ≠
      []) ∧
    (∃ (s : State), coreRuns s = true ∧ NvmSound s ∧ s.pwr.st ≠ PState.doze ∧ s.log.lossDue = false ∧ s.log.staging ≠
      [] ∧ 8 ≤ s.log.staging.length) ∧
    (∃ (s : State), coreRuns s = true ∧ NvmSound s ∧ s.log.ctrlAt = none ∧ s.nvm.ctrl.length = 8) :=
  ⟨⟨withJobs [job 5 .queued] ready, job 5 .queued, [], by decide +kernel⟩,
   ⟨withJobs [{ job 5 .rendering with wait := true }] ready, { job 5 .rendering with wait := true }, by decide +kernel⟩,
   ⟨withJobs [job 5 .rendering] ready, job 5 .rendering, by decide +kernel⟩,
   ⟨withLog (fun l => { l with staging := [event], lossDue := false }) ready, by decide +kernel⟩,
   ⟨withLog (fun l => { l with staging := List.replicate 8 event, lossDue := false }) ready, by decide +kernel⟩,
   ⟨withLog (fun l => { l with ctrlAt := none }) ready, by decide +kernel⟩⟩

/-! ### The checks of WellFormed refuse -/

theorem ill_link : (Instr.sysTime { req [] with ctx := 1 }).wf = false := by decide
theorem ill_payload : (Instr.sysEcho (req (zeros 4097))).wf = false := by decide +kernel
theorem ill_delimiter : (Instr.uartLinkFrame [1, 0x7E] true true).wf = false := by decide
theorem ill_rawLink : (Instr.rawJobRecord .i2c [1]).wf = false := by decide
theorem ill_classRequest : (Instr.usbClassRequestStall 0x01).wf = false := by decide
theorem ill_ttl : (Instr.lldpduReceived 65536 0).wf = false := by decide
theorem ill_delivered : (Instr.responseDelivered .i2c).wf = false := by decide
theorem ill_bypass : (Instr.bypass 0x10).wf = false := by decide
theorem ill_respond : (Instr.respond [1]).wf = false := by decide
theorem ill_tick : (Instr.hubTick ⟨[], []⟩ false).wf = false := by decide
theorem ill_spi : (Instr.hubBusComplete true .nack).wf = false := by decide
theorem ill_sel : (Instr.calDone { meas with verify := [1, 2, 3, 4, 5] }).wf = false := by decide
theorem well_time : (Instr.sysTime (req [])).wf = true := by decide

/-! ### Values that the spec gives -/

/-- R516's check values, over the ASCII bytes of "123456789". -/
theorem test_crc8 : crc8 (ascii "123456789") = 0xF4 := by decide +kernel
theorem test_crc16 : crc16 (ascii "123456789") = 0x29B1 := by decide +kernel
theorem test_crc32 : crc32 (ascii "123456789") = 0xCBF43926 := by decide +kernel
theorem test_crc32c : crc32c (ascii "123456789") = 0xE3069283 := by decide +kernel

/-- R517: the check of a record is stored with its low byte first. -/
theorem test_crc16_stored : (withCrc16 (ascii "123456789")).drop 9 = [0xB1, 0x29] := by decide +kernel

/-- FIPS 180-4's first example. -/
theorem test_sha256_abc : (sha256 (ascii "abc")).take 4 = [0xBA, 0x78, 0x16, 0xBF] := by decide +kernel

/-- R200: the configuration is 0x37 bytes long, and the device's release is 0x0210. -/
theorem test_usb_configuration : (usbConfiguration).length = 0x37 := by decide +kernel
theorem test_usb_release : slice (usbDevice ready) 12 2 = [0x10, 0x02] := by decide +kernel

/-! ### Single commands -/

/-- R45: TESTMODE high at the release in BLANK. -/
theorem test_testmode : exec (.mainDomainRelease true) held = .refused .productionTestMode := by rfl

/-- R226: a request that is not expected is answered REPLAY with E. -/
theorem test_replay : (match exec (.mailboxFrame .uart (timeFrame 2)) (withCtx 2 (fun c => { c with e := some 9 }) ready) with
    | .next t => (ctxOf t 2).out.map (fun f => (f.status, f.payload))
    | _ => []) = [(0x0204, [9, 0])] := by decide +kernel

/-- SYS_TIME is answered with OK. -/
theorem test_time : (match exec (.sysTime (req [])) ready with
    | .next t => (ctxOf t 0).out.map (·.status)
    | _ => []) = [0] := by decide +kernel

end Sys2Proof.Tests
end

section
/-! SUPPORT and PROOF of O9. The host address is latched at VAO good (R44): of the model's operations none writes it but the two
commands of VAO itself. Most operations keep all of `rst`, as the frames above say; those that change other fields of it each
get one lemma here, over those before it, up to the commands and their dispatch. -/

namespace Sys2Proof.Machine

variable (r : Req) (s : State)

/-! ### Choices, folds and answers -/

@[simp] theorem rst_ite_hostAddr (c : Prop) [Decidable c] (a b : Rst) :
    (if c then a else b).hostAddr = if c then a.hostAddr else b.hostAddr := apply_ite Rst.hostAddr c a b

@[simp] theorem dite_hostAddr (c : Prop) [Decidable c] (f : c → State) (g : ¬ c → State) :
    (if h : c then f h else g h).rst.hostAddr = if h : c then (f h).rst.hostAddr else (g h).rst.hostAddr :=
  apply_dite (·.rst.hostAddr) c f g

@[simp] theorem foldl_hostAddr {α : Type} (g : State → α → State) (h : ∀ s a, (g s a).rst.hostAddr = s.rst.hostAddr)
    (l : List α) (s : State) : (l.foldl g s).rst.hostAddr = s.rst.hostAddr :=
  List.foldlRecOn l g (motive := fun t => t.rst.hostAddr = s.rst.hostAddr) rfl fun t ht a _ => (h t a).trans ht

/-- The state that an operation hands on with an answer, where a match takes the two apart. -/
theorem hostAddr_of_snd {α : Type} {p : α × State} {a : α} {t : State} (h : p = (a, t)) :
    t.rst.hostAddr = p.2.rst.hostAddr := by rw [h]

theorem hostAddr_of_fst {β : Type} {p : State × β} {t : State} {b : β} (h : p = (t, b)) :
    t.rst.hostAddr = p.1.rst.hostAddr := by rw [h]

/-! ### Requests on the crossings into Clove (R82, R85) -/

@[simp] theorem putSeqSide_hostAddr (x : SeqSide) : (putSeqSide s x).rst.hostAddr = s.rst.hostAddr := by
  simp [putSeqSide]

@[simp] theorem seqReq_hostAddr (op : Nat) (f : State → State) :
    (seqReq s op f).rst.hostAddr = (f s).rst.hostAddr := rfl

@[simp] theorem noteOtpRd_hostAddr (op : Nat) : (noteOtpRd s op).rst.hostAddr = s.rst.hostAddr := by simp [noteOtpRd]

@[simp] theorem noteHubCfg_hostAddr (op : Nat) (e : HubEntry) :
    (noteHubCfg s op e).rst.hostAddr = s.rst.hostAddr := by simp [noteHubCfg]

/-! ### Power states, resets and wakes (R19, R20, R74 to R76, R91 to R101) -/

@[simp] theorem enterPstate_hostAddr (st : PState) : (enterPstate s st).rst.hostAddr = s.rst.hostAddr := by
  simp [enterPstate]

@[simp] theorem wakeDoze_hostAddr : (wakeDoze s).rst.hostAddr = s.rst.hostAddr := by simp [wakeDoze]
@[simp] theorem mainLost_hostAddr : (mainLost s).rst.hostAddr = s.rst.hostAddr := by simp [mainLost]

@[simp] theorem abortSeqNvm_hostAddr : (abortSeqNvm s).rst.hostAddr = s.rst.hostAddr := by
  simp only [abortSeqNvm]
  (repeat' split) <;> simp

@[simp] theorem abortHubCfg_hostAddr : (abortHubCfg s).rst.hostAddr = s.rst.hostAddr := by
  simp only [abortHubCfg]
  (repeat' split) <;> simp

@[simp] theorem abortSeqReq_hostAddr : (abortSeqReq s).rst.hostAddr = s.rst.hostAddr := by
  simp only [abortSeqReq]
  (repeat' split) <;> simp

@[simp] theorem abortOtpRd_hostAddr : (abortOtpRd s).rst.hostAddr = s.rst.hostAddr := by
  simp only [abortOtpRd]
  (repeat' split) <;> simp

@[simp] theorem abortCrossings_hostAddr : (abortCrossings s).rst.hostAddr = s.rst.hostAddr := by simp [abortCrossings]

@[simp] theorem mainReset_hostAddr (cause : Byte) : (mainReset s cause).rst.hostAddr = s.rst.hostAddr := by
  simp [mainReset]

@[simp] theorem enterDoze_hostAddr : (enterDoze s).rst.hostAddr = s.rst.hostAddr := by simp [enterDoze]
@[simp] theorem napCommit_hostAddr (e : Entry) : (napCommit s e).rst.hostAddr = s.rst.hostAddr := by simp [napCommit]
@[simp] theorem unpowered_hostAddr (x : Rst) : (unpowered x).hostAddr = x.hostAddr := rfl
@[simp] theorem hibCommit_hostAddr : (hibCommit s).rst.hostAddr = s.rst.hostAddr := by simp [hibCommit]
@[simp] theorem moveCommit_hostAddr : (moveCommit s).rst.hostAddr = s.rst.hostAddr := by simp [moveCommit]

@[simp] theorem tryEnter_hostAddr : (tryEnter s).rst.hostAddr = s.rst.hostAddr := by
  simp only [tryEnter]
  (repeat' split) <;> simp

@[simp] theorem startNapWake_hostAddr : (startNapWake s).rst.hostAddr = s.rst.hostAddr := by simp [startNapWake]
@[simp] theorem startHibWake_hostAddr : (startHibWake s).rst.hostAddr = s.rst.hostAddr := by simp [startHibWake]

@[simp] theorem cloveStart_hostAddr (aux : Half) : (cloveStart s aux).rst.hostAddr = s.rst.hostAddr := by
  simp [cloveStart]

@[simp] theorem fullReset_hostAddr : (fullReset s).rst.hostAddr = s.rst.hostAddr := by simp [fullReset]
@[simp] theorem commitMove_hostAddr : (commitMove s).rst.hostAddr = s.rst.hostAddr := by simp [commitMove]
@[simp] theorem moveOn_hostAddr : (moveOn s).rst.hostAddr = s.rst.hostAddr := by simp [moveOn]
@[simp] theorem powerDue_hostAddr : (powerDue s).rst.hostAddr = s.rst.hostAddr := by simp [powerDue]
@[simp] theorem cancelEntry_hostAddr : (cancelEntry s).rst.hostAddr = s.rst.hostAddr := by simp [cancelEntry]

@[simp] theorem wakeSource_hostAddr (bit : Nat) : (wakeSource s bit).rst.hostAddr = s.rst.hostAddr := by
  simp only [wakeSource]
  (repeat' split) <;> simp

@[simp] theorem wakeWork_hostAddr (bit : Nat) : (wakeWork s bit).rst.hostAddr = s.rst.hostAddr := by simp [wakeWork]

@[simp] theorem reedHears_hostAddr (addr : Byte) : (reedHears s addr).rst.hostAddr = s.rst.hostAddr := by
  simp [reedHears]

/-! ### Judging operands -/

@[simp] theorem judge_hostAddr (l : Bool) (cs : List (Nat × Bool)) (go : State → Reply × State)
    (hg : ∀ s, (go s).2.rst.hostAddr = s.rst.hostAddr) : (judge s l cs go).2.rst.hostAddr = s.rst.hostAddr :=
  Laws.judge_keeps (·.rst.hostAddr) s l cs go hg

@[simp] theorem judgeLocked_hostAddr (lc op : Nat) (p : List Byte) (l : Bool) (cs : List (Nat × Bool))
    (go : State → Reply × State) (hg : ∀ s, (go s).2.rst.hostAddr = s.rst.hostAddr) :
    (judgeLocked s lc op p l cs go).2.rst.hostAddr = s.rst.hostAddr := by
  simp only [judgeLocked]
  (repeat' split) <;> simp [hg]

/-! ### The mailbox: serving a request, taking a frame -/

@[simp] theorem applyReset_hostAddr : (applyReset s).rst.hostAddr = s.rst.hostAddr := by
  simp only [applyReset]
  (repeat' split) <;> simp

@[simp] theorem afterDelivery_hostAddr (b : Box) (f : OutFrame) :
    (afterDelivery s b f).rst.hostAddr = s.rst.hostAddr := by
  simp only [afterDelivery]
  (repeat' split) <;> simp

@[simp] theorem deliverHead_hostAddr (b : Box) : (deliverHead s b).rst.hostAddr = s.rst.hostAddr := by
  simp only [deliverHead]
  (repeat' split) <;> simp

@[simp] theorem serve_hostAddr (op : Nat) (h : Handler) (r : Req) (s : State)
    (hh : ∀ r s, (h r s).2.rst.hostAddr = s.rst.hostAddr) : (serve op h r s).rst.hostAddr = s.rst.hostAddr :=
  Laws.serve_keeps (·.rst.hostAddr) (by simp) (by simp) op h hh r s

@[simp] theorem sequenceRules_hostAddr (b : Box) (h : Header) (go : State → State)
    (hg : ∀ s, (go s).rst.hostAddr = s.rst.hostAddr) : (sequenceRules s b h go).rst.hostAddr = s.rst.hostAddr := by
  simp only [sequenceRules]
  (repeat' split) <;> simp [hg]

@[simp] theorem takeFrame_hostAddr (run : Nat → Req → State → State) (l : Link) (bs : List Byte) (s : State)
    (hr : ∀ n r s, (run n r s).rst.hostAddr = s.rst.hostAddr) :
    (takeFrame run l bs s).rst.hostAddr = s.rst.hostAddr := by
  simp only [takeFrame]
  (repeat' split) <;> simp [hr]

/-! ### The hub's configuration -/

@[simp] theorem putSlot_hostAddr (op n : Nat) (e : List Byte) : (putSlot s op n e).rst.hostAddr = s.rst.hostAddr := by
  simp [putSlot]

@[simp] theorem putDesc_hostAddr (op n : Nat) (e : List Byte) : (putDesc s op n e).rst.hostAddr = s.rst.hostAddr := by
  simp [putDesc]

@[simp] theorem putDet_hostAddr (op n : Nat) (e : List Byte) : (putDet s op n e).rst.hostAddr = s.rst.hostAddr := by
  simp [putDet]

@[simp] theorem putHubParam_hostAddr (id : Nat) (v : List Byte) :
    (putHubParam s id v).rst.hostAddr = s.rst.hostAddr := by simp [putHubParam]

@[simp] theorem writeDeferred_hostAddr : (writeDeferred s).rst.hostAddr = s.rst.hostAddr := by simp [writeDeferred]

/-! ### Committing parameters -/

@[simp] theorem onCommit_hostAddr (changed : List Nat) : (onCommit s changed).rst.hostAddr = s.rst.hostAddr := by
  simp [onCommit]

@[simp] theorem commitValues_hostAddr (m : ParamMap) (profId profVer : Word) (data : List Byte → List Byte) :
    (commitValues s m profId profVer data).2.rst.hostAddr = s.rst.hostAddr := by
  simp only [commitValues]
  (repeat' split) <;> simp

/-! ### The scheduler -/

@[simp] theorem updateCharger_hostAddr : (updateCharger s).rst.hostAddr = s.rst.hostAddr := by simp [updateCharger]

@[simp] theorem postBand_hostAddr (step id : Nat) : (postBand s step id).rst.hostAddr = s.rst.hostAddr := by
  simp [postBand]

@[simp] theorem startTicket_hostAddr (j : Job) : (startTicket s j).rst.hostAddr = s.rst.hostAddr := by
  simp only [startTicket]
  (repeat' split) <;> simp

@[simp] theorem boundary_hostAddr : (boundary s).rst.hostAddr = s.rst.hostAddr := by
  simp only [boundary]
  (repeat' split) <;> simp

@[simp] theorem boundaries_hostAddr (n : Nat) (s : State) : (boundaries n s).rst.hostAddr = s.rst.hostAddr := by
  induction n generalizing s with
  | zero => rfl
  | succ n ih => simp [boundaries, ih]

@[simp] theorem schedule_hostAddr : (schedule s).rst.hostAddr = s.rst.hostAddr := by simp [schedule]

@[simp] theorem becomeReady_hostAddr (id : Nat) : (becomeReady s id).rst.hostAddr = s.rst.hostAddr := by
  simp [becomeReady]

@[simp] theorem startWaiting_hostAddr : (startWaiting s).rst.hostAddr = s.rst.hostAddr := by simp [startWaiting]
@[simp] theorem deferredOff_hostAddr : (deferredOff s).rst.hostAddr = s.rst.hostAddr := by simp [deferredOff]
@[simp] theorem afterTicket_hostAddr : (afterTicket s).rst.hostAddr = s.rst.hostAddr := by simp [afterTicket]

@[simp] theorem feedTick_hostAddr : (feedTick s).rst.hostAddr = s.rst.hostAddr := by
  simp only [feedTick]
  (repeat' split) <;> simp

/-! ### Programming one-time memory -/

@[simp] theorem programWords_hostAddr (ws : List (Nat × BitVec 64)) :
    (programWords s ws).2.rst.hostAddr = s.rst.hostAddr := by
  induction ws generalizing s with
  | nil => rfl
  | cons w ws ih =>
    simp only [programWords]
    split
    · next h => simpa [ih] using hostAddr_of_snd h
    · next h => simpa using hostAddr_of_snd h

/-! ### The RTC alarm -/

@[simp] theorem rtcAlarmDue_hostAddr : (rtcAlarmDue s).rst.hostAddr = s.rst.hostAddr := by simp [rtcAlarmDue]

/-! ### Calibrations -/

@[simp] theorem hCalStart_hostAddr : (hCalStart r s).2.rst.hostAddr = s.rst.hostAddr := by simp [hCalStart]
@[simp] theorem hCalStatus_hostAddr : (hCalStatus r s).2.rst.hostAddr = s.rst.hostAddr := by simp [hCalStatus]

@[simp] theorem hCalAbort_hostAddr : (hCalAbort r s).2.rst.hostAddr = s.rst.hostAddr := by
  simp only [hCalAbort]
  refine judge_hostAddr _ _ _ _ fun s => ?_
  (repeat' split) <;> simp

@[simp] theorem calEnds_hostAddr (a : Action) (status : Nat) (slot : Byte) (q : Word) (more : List Byte) :
    (calEnds s a status slot q more).rst.hostAddr = s.rst.hostAddr := by simp [calEnds]

@[simp] theorem calDisagrees_hostAddr (a : Action) (q : Word) :
    (calDisagrees s a q).rst.hostAddr = s.rst.hostAddr := by simp [calDisagrees]

@[simp] theorem countHeadFires_hostAddr (d : Nat) (m : HeadMeas) :
    (countHeadFires s d m).rst.hostAddr = s.rst.hostAddr := by simp [countHeadFires]

@[simp] theorem headResult_hostAddr (d : Nat) (m : HeadMeas) :
    (headResult s d m).2.2.rst.hostAddr = s.rst.hostAddr := by simp [headResult]

@[simp] theorem applyHead_hostAddr (a : Action) (d : Nat) (e : HeadEntry) :
    (applyHead s a d e).rst.hostAddr = s.rst.hostAddr := by
  simp only [applyHead]
  split <;> next h => simpa using hostAddr_of_snd h

@[simp] theorem applyResult_hostAddr (a : Action) (t : Nat) (sel : List Nat) (q : Word) (tCal : Int) :
    (applyResult s a t sel q tCal).rst.hostAddr = s.rst.hostAddr := by
  simp only [applyResult]
  (repeat' split) <;> simp

theorem endHeadEnergy_hostAddr {s t : State} {a : Action} {d : Nat} {m : CalMeas}
    (h : endHeadEnergy s a d m = some t) : t.rst.hostAddr = s.rst.hostAddr := by
  simp only [endHeadEnergy] at h
  split at h
  · cases h; simp
  · split at h
    · cases h; simp
    · split at h
      · cases h
      · cases h
        (repeat' split) <;> simp

@[simp] theorem endHeadEnergy_getD_hostAddr (a : Action) (d : Nat) (m : CalMeas) :
    ((endHeadEnergy s a d m).getD s).rst.hostAddr = s.rst.hostAddr := by
  cases h : endHeadEnergy s a d m with
  | none => rfl
  | some t => exact endHeadEnergy_hostAddr h

@[simp] theorem endCalRuns_hostAddr (a : Action) (t : Nat) (m : CalMeas) :
    (endCalRuns s a t m).rst.hostAddr = s.rst.hostAddr := by
  simp only [endCalRuns]
  (repeat' split) <;> simp

/-! ### The debug port -/

@[simp] theorem loadLevel_hostAddr (ir : TapIr) (accepted : State → Bool) :
    (loadLevel s ir accepted).rst.hostAddr = s.rst.hostAddr := by simp [loadLevel]

/-! ### Commands on the hub -/

@[simp] theorem hHubValues_hostAddr : (hHubValues r s).2.rst.hostAddr = s.rst.hostAddr := by simp [hHubValues]
@[simp] theorem hHubRecords_hostAddr : (hHubRecords r s).2.rst.hostAddr = s.rst.hostAddr := by simp [hHubRecords]

@[simp] theorem hHubSlotSet_hostAddr : (hHubSlotSet r s).2.rst.hostAddr = s.rst.hostAddr := by
  simp only [hHubSlotSet]
  (repeat' split) <;> simp

@[simp] theorem hHubDescSet_hostAddr : (hHubDescSet r s).2.rst.hostAddr = s.rst.hostAddr := by
  simp only [hHubDescSet]
  (repeat' split) <;> simp

@[simp] theorem hHubDetectorSet_hostAddr : (hHubDetectorSet r s).2.rst.hostAddr = s.rst.hostAddr := by
  simp only [hHubDetectorSet]
  refine judge_hostAddr _ _ _ _ fun s => ?_
  (repeat' split) <;> simp

@[simp] theorem hHubConfigRead_hostAddr : (hHubConfigRead r s).2.rst.hostAddr = s.rst.hostAddr := by
  simp [hHubConfigRead]

@[simp] theorem hHubSubscribe_hostAddr : (hHubSubscribe r s).2.rst.hostAddr = s.rst.hostAddr := by
  simp [hHubSubscribe]

@[simp] theorem hHubStatus_hostAddr : (hHubStatus r s).2.rst.hostAddr = s.rst.hostAddr := by simp [hHubStatus]

@[simp] theorem hHubStickyClear_hostAddr : (hHubStickyClear r s).2.rst.hostAddr = s.rst.hostAddr := by
  simp only [hHubStickyClear]
  exact judge_hostAddr _ _ _ _ fun s => by simp

@[simp] theorem hHubRecordsAck_hostAddr : (hHubRecordsAck r s).2.rst.hostAddr = s.rst.hostAddr := by
  simp only [hHubRecordsAck]
  exact judge_hostAddr _ _ _ _ fun s => by simp

/-! ### Rasters -/

@[simp] theorem takeRaster_hostAddr (id : Nat) (bytes : List Byte) :
    (takeRaster s id bytes).1.rst.hostAddr = s.rst.hostAddr := by
  simp only [takeRaster]
  (repeat' split) <;> simp

theorem feedRaster_hostAddr {s t : State} {id : Nat} {bytes : List Byte} (h : feedRaster s id bytes = .fed t) :
    t.rst.hostAddr = s.rst.hostAddr := by
  simp only [feedRaster] at h
  split at h
  · next hr => cases h; simpa using hostAddr_of_fst hr
  · cases h

/-! ### Raw streams -/

theorem rawStep_hostAddr {s t : State} {w v : RawIn} (h : rawStep s w = some (t, v)) :
    t.rst.hostAddr = s.rst.hostAddr := by
  simp only [rawStep] at h
  (repeat' split at h) <;> cases h <;> simp

@[simp] theorem pump_hostAddr (l : Link) (n : Nat) (s : State) : (pump l n s).rst.hostAddr = s.rst.hostAddr := by
  induction n generalizing s with
  | zero => rfl
  | succ n ih =>
    simp only [pump]
    split
    · rfl
    · split
      · next h => simpa [ih] using rawStep_hostAddr h
      · rfl

@[simp] theorem cancelStreamed_hostAddr (id : Nat) : (cancelStreamed s id).rst.hostAddr = s.rst.hostAddr := by
  simp [cancelStreamed]

@[simp] theorem pumpHead_hostAddr (l : Link) (n : Nat) (s : State) :
    (pumpHead l n s).rst.hostAddr = s.rst.hostAddr := by
  induction n generalizing s with
  | zero => rfl
  | succ n ih =>
    simp only [pumpHead]
    split
    · rfl
    · split
      · rfl
      · split
        · next h => simpa [ih] using rawStep_hostAddr h
        · rfl

/-! ### Commands on jobs -/

@[simp] theorem hJobSubmit_hostAddr : (hJobSubmit r s).2.rst.hostAddr = s.rst.hostAddr := by simp [hJobSubmit]

@[simp] theorem endRasterMsg_hostAddr (r : Req) (id : Nat) :
    (endRasterMsg s r id).2.rst.hostAddr = s.rst.hostAddr := by simp [endRasterMsg]

@[simp] theorem firstRaster_hostAddr : (firstRaster r s).2.rst.hostAddr = s.rst.hostAddr := by
  simp only [firstRaster]
  refine judge_hostAddr _ _ _ _ fun s => ?_
  split
  · rfl
  · split
    · simp
    · split
      · rfl
      · next h =>
        have ht := feedRaster_hostAddr h
        split <;> simpa using ht

@[simp] theorem nextRaster_hostAddr (r : Req) (m : OpenMsg) (s : State) :
    (nextRaster r m s).2.rst.hostAddr = s.rst.hostAddr := by
  simp only [nextRaster]
  split
  · simp
  · split
    · rfl
    · next h =>
      have ht := feedRaster_hostAddr h
      split <;> simpa using ht

@[simp] theorem hJobSubmitRaster_hostAddr : (hJobSubmitRaster r s).2.rst.hostAddr = s.rst.hostAddr := by
  simp only [hJobSubmitRaster]
  (repeat' split) <;> simp

@[simp] theorem onJob_hostAddr (r : Req) (op : Nat) (s : State) (go : Named → State → Reply × State)
    (hg : ∀ n s, (go n s).2.rst.hostAddr = s.rst.hostAddr) : (onJob r op s go).2.rst.hostAddr = s.rst.hostAddr := by
  simp only [onJob]
  (repeat' split) <;> simp [hg]

@[simp] theorem hJobStatus_hostAddr : (hJobStatus r s).2.rst.hostAddr = s.rst.hostAddr := by
  simp only [hJobStatus]
  refine judge_hostAddr _ _ _ _ fun s => onJob_hostAddr _ _ _ _ fun n s => ?_
  (repeat' split) <;> simp

@[simp] theorem cancelJob_hostAddr (j : Job) : (cancelJob s j).rst.hostAddr = s.rst.hostAddr := by
  simp only [cancelJob]
  (repeat' split) <;> simp

@[simp] theorem hJobCancel_hostAddr : (hJobCancel r s).2.rst.hostAddr = s.rst.hostAddr := by
  simp only [hJobCancel]
  refine judge_hostAddr _ _ _ _ fun s => onJob_hostAddr _ _ _ _ fun n s => ?_
  (repeat' split) <;> simp

@[simp] theorem hJobHold_hostAddr : (hJobHold r s).2.rst.hostAddr = s.rst.hostAddr := by
  simp only [hJobHold]
  refine judge_hostAddr _ _ _ _ fun s => onJob_hostAddr _ _ _ _ fun n s => ?_
  (repeat' split) <;> simp

@[simp] theorem releaseJob_hostAddr (j : Job) : (releaseJob s j).rst.hostAddr = s.rst.hostAddr := by simp [releaseJob]

@[simp] theorem hJobRelease_hostAddr : (hJobRelease r s).2.rst.hostAddr = s.rst.hostAddr := by
  simp only [hJobRelease]
  refine judge_hostAddr _ _ _ _ fun s => onJob_hostAddr _ _ _ _ fun n s => ?_
  (repeat' split) <;> simp

@[simp] theorem hJobList_hostAddr : (hJobList r s).2.rst.hostAddr = s.rst.hostAddr := by simp [hJobList]

@[simp] theorem hJobPriority_hostAddr : (hJobPriority r s).2.rst.hostAddr = s.rst.hostAddr := by
  simp only [hJobPriority]
  refine judge_hostAddr _ _ _ _ fun s => onJob_hostAddr _ _ _ _ fun n s => judge_hostAddr _ _ _ _ fun s => ?_
  (repeat' split) <;> simp

/-! ### Commands on the log -/

@[simp] theorem hLogInfo_hostAddr : (hLogInfo r s).2.rst.hostAddr = s.rst.hostAddr := by simp [hLogInfo]
@[simp] theorem hLogRead_hostAddr : (hLogRead r s).2.rst.hostAddr = s.rst.hostAddr := by simp [hLogRead]
@[simp] theorem hFaultRead_hostAddr : (hFaultRead r s).2.rst.hostAddr = s.rst.hostAddr := by simp [hFaultRead]

@[simp] theorem hSnapshotRead_hostAddr : (hSnapshotRead r s).2.rst.hostAddr = s.rst.hostAddr := by
  simp only [hSnapshotRead]
  refine judge_hostAddr _ _ _ _ fun s => ?_
  (repeat' split) <;> simp

@[simp] theorem hLogClear_hostAddr : (hLogClear r s).2.rst.hostAddr = s.rst.hostAddr := by simp [hLogClear]

/-! ### The host port's window -/

@[simp] theorem skipOut_hostAddr : (skipOut s).rst.hostAddr = s.rst.hostAddr := by
  simp only [skipOut]
  (repeat' split) <;> simp

@[simp] theorem writeCtrl_hostAddr (v : Byte) : (writeCtrl s v).rst.hostAddr = s.rst.hostAddr := by simp [writeCtrl]

@[simp] theorem writeWindow_hostAddr (off : Nat) (v : Byte) :
    (writeWindow s off v).rst.hostAddr = s.rst.hostAddr := by simp [writeWindow]

@[simp] theorem writeBytes_hostAddr (off : Nat) (vs : List Byte) :
    (writeBytes s off vs).rst.hostAddr = s.rst.hostAddr := by
  induction vs generalizing s off with
  | nil => rfl
  | cons v vs ih => simp [writeBytes, ih]

@[simp] theorem pecWrite_hostAddr (ptr : Byte) (full : List Byte) :
    (pecWrite s ptr full).rst.hostAddr = s.rst.hostAddr := by
  simp only [pecWrite]
  (repeat' split) <;> simp

@[simp] theorem i2cWrite_hostAddr (ptr : Byte) (full : List Byte) :
    (i2cWrite s ptr full).rst.hostAddr = s.rst.hostAddr := by
  simp only [i2cWrite]
  (repeat' split) <;> simp

@[simp] theorem takeOut_hostAddr : (takeOut s).2.rst.hostAddr = s.rst.hostAddr := by
  simp only [takeOut]
  (repeat' split) <;> simp

@[simp] theorem takeOuts_hostAddr (n : Nat) (s : State) : (takeOuts n s).2.rst.hostAddr = s.rst.hostAddr := by
  induction n generalizing s with
  | zero => rfl
  | succ n ih => simp [takeOuts, ih]

@[simp] theorem reedRead_hostAddr (ptr n : Byte) (data : List Byte) (count : Nat) :
    (reedRead s ptr n data count).rst.hostAddr = s.rst.hostAddr := by simp [reedRead]

/-! ### USB -/

@[simp] theorem usbEvent_hostAddr : (usbEvent s).rst.hostAddr = s.rst.hostAddr := by simp [usbEvent]

/-! ### Sessions and the network -/

@[simp] theorem hSessionOpen_hostAddr : (hSessionOpen r s).2.rst.hostAddr = s.rst.hostAddr := by
  simp only [hSessionOpen]
  refine judge_hostAddr _ _ _ _ fun s => ?_
  (repeat' split) <;> simp

@[simp] theorem addBackoff_hostAddr (source : IpAddr) : (addBackoff s source).1.rst.hostAddr = s.rst.hostAddr := by
  simp [addBackoff]

@[simp] theorem proveFailed_hostAddr (r : Req) (k : Option Conn) (s : State) :
    (proveFailed r k s).2.rst.hostAddr = s.rst.hostAddr := by
  simp only [proveFailed]
  (repeat' split) <;> simp

@[simp] theorem hSessionProve_hostAddr : (hSessionProve r s).2.rst.hostAddr = s.rst.hostAddr := by
  simp only [hSessionProve]
  refine judge_hostAddr _ _ _ _ fun s => ?_
  (repeat' split) <;> simp

@[simp] theorem hSessionClose_hostAddr : (hSessionClose r s).2.rst.hostAddr = s.rst.hostAddr := by
  simp [hSessionClose]

@[simp] theorem ip4Route_hostAddr : (ip4Route s).2.2.rst.hostAddr = s.rst.hostAddr := by
  simp only [ip4Route]
  (repeat' split) <;> simp

@[simp] theorem hNetStatus_hostAddr : (hNetStatus r s).2.rst.hostAddr = s.rst.hostAddr := by simp [hNetStatus]

@[simp] theorem hNetSessionEnd_hostAddr : (hNetSessionEnd r s).2.rst.hostAddr = s.rst.hostAddr := by
  simp [hNetSessionEnd]

/-! ### Commands of maintenance -/

@[simp] theorem hNozScan_hostAddr : (hNozScan r s).2.rst.hostAddr = s.rst.hostAddr := by simp [hNozScan]
@[simp] theorem hNozMapRead_hostAddr : (hNozMapRead r s).2.rst.hostAddr = s.rst.hostAddr := by simp [hNozMapRead]
@[simp] theorem hNozMark_hostAddr : (hNozMark r s).2.rst.hostAddr = s.rst.hostAddr := by simp [hNozMark]
@[simp] theorem hServiceRun_hostAddr : (hServiceRun r s).2.rst.hostAddr = s.rst.hostAddr := by simp [hServiceRun]

@[simp] theorem hFireCountRead_hostAddr : (hFireCountRead r s).2.rst.hostAddr = s.rst.hostAddr := by
  simp [hFireCountRead]

@[simp] theorem hFeed_hostAddr : (hFeed r s).2.rst.hostAddr = s.rst.hostAddr := by simp [hFeed]
@[simp] theorem hMechStatus_hostAddr : (hMechStatus r s).2.rst.hostAddr = s.rst.hostAddr := by simp [hMechStatus]

/-! ### Commands on one-time memory -/

@[simp] theorem whenProgrammable_hostAddr (go : State → Reply × State)
    (hg : ∀ s, (go s).2.rst.hostAddr = s.rst.hostAddr) : (whenProgrammable s go).2.rst.hostAddr = s.rst.hostAddr := by
  simp only [whenProgrammable]
  (repeat' split) <;> simp [hg]

@[simp] theorem hOtpRead_hostAddr : (hOtpRead r s).2.rst.hostAddr = s.rst.hostAddr := by simp [hOtpRead]

@[simp] theorem hOtpProgram_hostAddr : (hOtpProgram r s).2.rst.hostAddr = s.rst.hostAddr := by
  simp only [hOtpProgram]
  refine judgeLocked_hostAddr _ _ _ _ _ _ _ fun s => whenProgrammable_hostAddr _ _ fun s => ?_
  split <;> next h => simpa using hostAddr_of_snd h

@[simp] theorem hOtpKeyProgram_hostAddr : (hOtpKeyProgram r s).2.rst.hostAddr = s.rst.hostAddr := by
  simp only [hOtpKeyProgram]
  refine judgeLocked_hostAddr _ _ _ _ _ _ _ fun s => whenProgrammable_hostAddr _ _ fun s => ?_
  split <;> next h => simpa using hostAddr_of_snd h

@[simp] theorem hOtpSeal_hostAddr : (hOtpSeal r s).2.rst.hostAddr = s.rst.hostAddr := by
  simp only [hOtpSeal]
  refine judgeLocked_hostAddr _ _ _ _ _ _ _ fun s => whenProgrammable_hostAddr _ _ fun s => ?_
  split <;> next h => simpa using hostAddr_of_snd h

@[simp] theorem hOtpLock_hostAddr : (hOtpLock r s).2.rst.hostAddr = s.rst.hostAddr := by
  simp only [hOtpLock]
  refine judgeLocked_hostAddr _ _ _ _ _ _ _ fun s => whenProgrammable_hostAddr _ _ fun s => ?_
  split <;> next h => simpa using hostAddr_of_snd h

@[simp] theorem hOtpShadow_hostAddr : (hOtpShadow r s).2.rst.hostAddr = s.rst.hostAddr := by simp [hOtpShadow]
@[simp] theorem hOtpStatus_hostAddr : (hOtpStatus r s).2.rst.hostAddr = s.rst.hostAddr := by simp [hOtpStatus]

@[simp] theorem sealForField_hostAddr : (sealForField s).2.rst.hostAddr = s.rst.hostAddr := by
  refine List.foldlRecOn [2, 3, 4] _ (motive := fun p : Option Nat × State => p.2.rst.hostAddr = s.rst.hostAddr)
    rfl fun p hp r _ => ?_
  split
  · exact hp
  · split
    · next h => simpa [hp] using hostAddr_of_snd h
    · next h => simpa [hp] using hostAddr_of_snd h

@[simp] theorem freeRefusal_hostAddr (region : Nat) (s : State) :
    (freeRefusal region s).2.rst.hostAddr = s.rst.hostAddr := by simp [freeRefusal]

@[simp] theorem toReturn_hostAddr (r : Req) (a : Reply × State) :
    (toReturn r a).2.rst.hostAddr = a.2.rst.hostAddr := by
  simp only [toReturn]
  split
  · rfl
  · exact foldl_hostAddr _ (by intros; (repeat' split) <;> simp) _ _

@[simp] theorem enterReturn_hostAddr : (enterReturn r s).2.rst.hostAddr = s.rst.hostAddr := by
  simp only [enterReturn]
  (repeat' split) <;> simp

@[simp] theorem enterField_hostAddr : (enterField s).2.rst.hostAddr = s.rst.hostAddr := by
  simp only [enterField]
  split
  · rfl
  · split <;> next h => simpa using hostAddr_of_snd h

@[simp] theorem hLifecycleAdvance_hostAddr : (hLifecycleAdvance r s).2.rst.hostAddr = s.rst.hostAddr := by
  simp [hLifecycleAdvance]

@[simp] theorem hReturnChallenge_hostAddr : (hReturnChallenge r s).2.rst.hostAddr = s.rst.hostAddr := by
  simp [hReturnChallenge]

/-! ### Commands on parameters -/

@[simp] theorem hParamRead_hostAddr : (hParamRead r s).2.rst.hostAddr = s.rst.hostAddr := by
  simp only [hParamRead]
  (repeat' split) <;> simp

@[simp] theorem hParamWrite_hostAddr : (hParamWrite r s).2.rst.hostAddr = s.rst.hostAddr := by
  simp only [hParamWrite]
  split
  · rfl
  · refine judge_hostAddr _ _ _ _ fun s => ?_
    split <;> simp

@[simp] theorem hParamCommit_hostAddr : (hParamCommit r s).2.rst.hostAddr = s.rst.hostAddr := by
  simp only [hParamCommit]
  refine judge_hostAddr _ _ _ _ fun s => ?_
  (repeat' split) <;> simp

@[simp] theorem hParamRevert_hostAddr : (hParamRevert r s).2.rst.hostAddr = s.rst.hostAddr := by simp [hParamRevert]

@[simp] theorem hParamDefaults_hostAddr : (hParamDefaults r s).2.rst.hostAddr = s.rst.hostAddr := by
  simp [hParamDefaults]

@[simp] theorem hParamInfo_hostAddr : (hParamInfo r s).2.rst.hostAddr = s.rst.hostAddr := by
  simp only [hParamInfo]
  (repeat' split) <;> simp

@[simp] theorem hProfileApply_hostAddr : (hProfileApply r s).2.rst.hostAddr = s.rst.hostAddr := by
  simp only [hProfileApply]
  refine judge_hostAddr _ _ _ _ fun s => ?_
  (repeat' split) <;> simp

/-! ### Commands on power -/

@[simp] theorem hPwrStateSet_hostAddr : (hPwrStateSet r s).2.rst.hostAddr = s.rst.hostAddr := by
  simp only [hPwrStateSet]
  refine judge_hostAddr _ _ _ _ fun s => ?_
  (repeat' split) <;> simp

@[simp] theorem hPwrStateQuery_hostAddr : (hPwrStateQuery r s).2.rst.hostAddr = s.rst.hostAddr := by
  simp [hPwrStateQuery]

@[simp] theorem hPwrOn_hostAddr : (hPwrOn r s).2.rst.hostAddr = s.rst.hostAddr := by simp [hPwrOn]
@[simp] theorem hPwrOff_hostAddr : (hPwrOff r s).2.rst.hostAddr = s.rst.hostAddr := by simp [hPwrOff]
@[simp] theorem hSeqStatus_hostAddr : (hSeqStatus r s).2.rst.hostAddr = s.rst.hostAddr := by simp [hSeqStatus]
@[simp] theorem hPwrRtcAlarm_hostAddr : (hPwrRtcAlarm r s).2.rst.hostAddr = s.rst.hostAddr := by simp [hPwrRtcAlarm]
@[simp] theorem hDischHold_hostAddr : (hDischHold r s).2.rst.hostAddr = s.rst.hostAddr := by simp [hDischHold]

/-! ### Commands on rights -/

@[simp] theorem hRightsSet_hostAddr : (hRightsSet r s).2.rst.hostAddr = s.rst.hostAddr := by simp [hRightsSet]
@[simp] theorem hRightsGet_hostAddr : (hRightsGet r s).2.rst.hostAddr = s.rst.hostAddr := by simp [hRightsGet]

/-! ### Commands on storage -/

@[simp] theorem hStoreInfo_hostAddr : (hStoreInfo r s).2.rst.hostAddr = s.rst.hostAddr := by simp [hStoreInfo]

@[simp] theorem hProfileStore_hostAddr : (hProfileStore r s).2.rst.hostAddr = s.rst.hostAddr := by
  simp only [hProfileStore]
  refine judge_hostAddr _ _ _ _ fun s => ?_
  (repeat' split) <;> simp

@[simp] theorem hProfileErase_hostAddr : (hProfileErase r s).2.rst.hostAddr = s.rst.hostAddr := by
  simp only [hProfileErase]
  refine judge_hostAddr _ _ _ _ fun s => ?_
  split <;> next h => simpa using hostAddr_of_snd h

@[simp] theorem hProfileInfo_hostAddr : (hProfileInfo r s).2.rst.hostAddr = s.rst.hostAddr := by
  simp only [hProfileInfo]
  refine judge_hostAddr _ _ _ _ fun s => ?_
  (repeat' split) <;> simp

@[simp] theorem putObject_hostAddr (logo : Bool) (id crc : Nat) (b : List Byte) :
    (putObject s logo id crc b).2.rst.hostAddr = s.rst.hostAddr := by
  simp only [putObject]
  split <;> next h => simpa using hostAddr_of_snd h

@[simp] theorem endObject_hostAddr (head b : List Byte) : (endObject r s head b).2.rst.hostAddr = s.rst.hostAddr := by
  simp only [endObject]
  (repeat' split) <;> simp

@[simp] theorem firstObject_hostAddr : (firstObject r s).2.rst.hostAddr = s.rst.hostAddr := by simp [firstObject]

@[simp] theorem hObjectStore_hostAddr : (hObjectStore r s).2.rst.hostAddr = s.rst.hostAddr := by
  simp only [hObjectStore]
  (repeat' split) <;> simp

@[simp] theorem hObjectErase_hostAddr : (hObjectErase r s).2.rst.hostAddr = s.rst.hostAddr := by
  simp only [hObjectErase]
  refine judge_hostAddr _ _ _ _ fun s => ?_
  split
  · rfl
  · split
    · rfl
    · split <;> next h => simpa using hostAddr_of_snd h

@[simp] theorem hObjectList_hostAddr : (hObjectList r s).2.rst.hostAddr = s.rst.hostAddr := by simp [hObjectList]
@[simp] theorem hNvmWear_hostAddr : (hNvmWear r s).2.rst.hostAddr = s.rst.hostAddr := by simp [hNvmWear]

@[simp] theorem endPatch_hostAddr (head b : List Byte) : (endPatch r s head b).2.rst.hostAddr = s.rst.hostAddr := by
  simp only [endPatch]
  split
  · simp
  · split
    · simp
    · split <;> next h => simpa using hostAddr_of_snd h

@[simp] theorem firstPatch_hostAddr : (firstPatch r s).2.rst.hostAddr = s.rst.hostAddr := by simp [firstPatch]

@[simp] theorem hPatchStore_hostAddr : (hPatchStore r s).2.rst.hostAddr = s.rst.hostAddr := by
  simp only [hPatchStore]
  (repeat' split) <;> simp

/-! ### System commands -/

@[simp] theorem hSysIdent_hostAddr : (hSysIdent r s).2.rst.hostAddr = s.rst.hostAddr := by simp [hSysIdent]
@[simp] theorem hSysReset_hostAddr : (hSysReset r s).2.rst.hostAddr = s.rst.hostAddr := by simp [hSysReset]
@[simp] theorem hSysCounters_hostAddr : (hSysCounters r s).2.rst.hostAddr = s.rst.hostAddr := by simp [hSysCounters]
@[simp] theorem hSysTime_hostAddr : (hSysTime r s).2.rst.hostAddr = s.rst.hostAddr := by simp [hSysTime]
@[simp] theorem hSysRtcSet_hostAddr : (hSysRtcSet r s).2.rst.hostAddr = s.rst.hostAddr := by simp [hSysRtcSet]
@[simp] theorem hSysEcho_hostAddr : (hSysEcho r s).2.rst.hostAddr = s.rst.hostAddr := by simp [hSysEcho]

/-! ### Running an opcode -/

@[simp] theorem afterAnswer_hostAddr (op : Nat) (s : State) : (afterAnswer op s).rst.hostAddr = s.rst.hostAddr := by
  simp [afterAnswer]

/-- Every opcode's handler keeps the host address. -/
theorem handlers_keep_hostAddr :
    ∀ p ∈ handlers, ∀ (r : Req) (s : State), (p.2 r s).2.rst.hostAddr = s.rst.hostAddr := by simp [handlers]

theorem handlerOf_hostAddr (op : Nat) (r : Req) (s : State) :
    ((find? handlers op).getD (fun _ s => (Reply.no stBadOpcode, s)) r s).2.rst.hostAddr = s.rst.hostAddr := by
  simp only [find?]
  cases hp : handlers.find? (fun p => p.1 == op) with
  | none => rfl
  | some p => exact handlers_keep_hostAddr p (List.mem_of_find?_eq_some hp) r s

@[simp] theorem runOpcode_hostAddr (op : Nat) (r : Req) (s : State) :
    (runOpcode op r s).rst.hostAddr = s.rst.hostAddr := by
  rw [runOpcode, afterAnswer_hostAddr, serve_hostAddr _ _ _ _ (handlerOf_hostAddr op)]

/-! ### The move from NAP -/

@[simp] theorem dueMove_hostAddr : (dueMove s).rst.hostAddr = s.rst.hostAddr := by simp [dueMove]

/-! ### Slots and detectors of the hub -/

@[simp] theorem runStage_hostAddr (code a0 a1 : Nat) (m : StageMem) (v : Int) :
    (runStage s code a0 a1 m v).2.2.rst.hostAddr = s.rst.hostAddr := by
  simp only [runStage]
  (repeat' split) <;> simp

@[simp] theorem runStages_hostAddr (st : List (Nat × Nat × Nat)) (ms : List StageMem) (s : State) (v : Int) :
    (runStages st ms s v).2.2.rst.hostAddr = s.rst.hostAddr := by
  induction st generalizing ms s v with
  | nil => rfl
  | cons c st ih =>
    simp only [runStages]
    split
    · next h => simpa using congrArg (·.2.2.rst.hostAddr) h.symm
    · next h => simpa [ih] using congrArg (·.2.2.rst.hostAddr) h.symm

@[simp] theorem edgeWork_hostAddr (d : Nat) (set : Bool) (v : Int) (t : Time) (deferred : Bool) :
    (edgeWork s d set v t deferred).rst.hostAddr = s.rst.hostAddr := by simp [edgeWork]

@[simp] theorem coincidenceStep_hostAddr (c d : Nat) (set : Bool) :
    (coincidenceStep s c d set).1.rst.hostAddr = s.rst.hostAddr := by
  delta coincidenceStep -- its match on three values at once has no equation lemma for `simp only` to use
  cases set with
  | false =>
    simp only [Bool.not_false, if_true]
    (repeat' split) <;> simp
  | true =>
    simp only [Bool.not_true, Bool.false_eq_true, if_false]
    (repeat' split) <;> simp

@[simp] theorem spread_hostAddr (k : Nat) (s : State) (d : Nat) (set : Bool) (t : Time) (deferred : Bool) :
    (spread k s d set t deferred).rst.hostAddr = s.rst.hostAddr := by
  induction k generalizing s d set t deferred with
  | zero => rfl
  | succ k ih =>
    refine foldl_hostAddr _ (fun s c => ?_) _ _
    split
    · next h => simpa [ih] using hostAddr_of_fst h
    · next h => simpa using hostAddr_of_fst h

@[simp] theorem detEdge_hostAddr (d : Nat) (set : Bool) (v : Int) (t : Time) (deferred : Bool) :
    (detEdge s d set v t deferred).rst.hostAddr = s.rst.hostAddr := by simp [detEdge]

@[simp] theorem evalDet_hostAddr (v : Int) (t : Time) (deferred : Bool) (d : Nat) :
    (evalDet s v t deferred d).rst.hostAddr = s.rst.hostAddr := by simp [evalDet]

@[simp] theorem slotOutput_hostAddr (n : Nat) (v : Int) (aux flags : Nat) (t : Time) :
    (slotOutput s n v aux flags t).rst.hostAddr = s.rst.hostAddr := by
  simp only [slotOutput]
  (repeat' split) <;> simp

@[simp] theorem completeBus_hostAddr (b : BusDone) : (completeBus s b).rst.hostAddr = s.rst.hostAddr := by
  simp only [completeBus]
  (repeat' split) <;> simp

@[simp] theorem runAnalog_hostAddr (n : Nat) (late : Bool) (conv : Nat) (borrowed : Bool)
    (codes lit : List (BitVec 12)) : (runAnalog s n late conv borrowed codes lit).rst.hostAddr = s.rst.hostAddr := by
  simp [runAnalog]

@[simp] theorem runWk_hostAddr (d : Nat) (late : Bool) : (runWk s d late).rst.hostAddr = s.rst.hostAddr := by
  simp only [runWk]
  (repeat' split) <;> simp

@[simp] theorem runPiece_hostAddr (codes lit : List (BitVec 12)) (x : State × Budget) (p : Piece) :
    (runPiece codes lit x p).1.rst.hostAddr = x.1.rst.hostAddr := by
  cases p with
  | slot n late => simp only [runPiece]; (repeat' split) <;> simp
  | sys d late => simp only [runPiece]; (repeat' split) <;> simp
  | wk d late => simp only [runPiece]; (repeat' split) <;> simp
  | done t => simp only [runPiece]; (repeat' split) <;> simp

/-! ### The sequencer -/

@[simp] theorem seqDone_hostAddr : (seqDone s).rst.hostAddr = s.rst.hostAddr := by simp [seqDone]
@[simp] theorem seqOn_hostAddr : (seqOn s).rst.hostAddr = s.rst.hostAddr := by simp [seqOn]
@[simp] theorem vinfailRecord_hostAddr : (vinfailRecord s).rst.hostAddr = s.rst.hostAddr := by simp [vinfailRecord]

/-! ### The hub's tick -/

@[simp] theorem ceilingCheck_hostAddr (code : Nat) : (ceilingCheck s code).rst.hostAddr = s.rst.hostAddr := by
  simp [ceilingCheck]

@[simp] theorem systemSlots_hostAddr (codes : List (BitVec 12)) (s : State) :
    (systemSlots codes s).rst.hostAddr = s.rst.hostAddr := by simp [systemSlots]

theorem runPieces_hostAddr (codes lit : List (BitVec 12)) (ps : List Piece) (x : State × Budget) :
    (ps.foldl (runPiece codes lit) x).1.rst.hostAddr = x.1.rst.hostAddr :=
  List.foldlRecOn ps _ (motive := fun y : State × Budget => y.1.rst.hostAddr = x.1.rst.hostAddr) rfl fun y hy p _ =>
    (runPiece_hostAddr codes lit y p).trans hy

@[simp] theorem userWork_hostAddr (codes lit : List (BitVec 12)) (wff : Bool) (s : State) :
    (userWork codes lit wff s).rst.hostAddr = s.rst.hostAddr := by
  simp only [userWork]
  split
  · rfl
  · rw [runPieces_hostAddr]
    simp

@[simp] theorem runTick_hostAddr (codes lit : List (BitVec 12)) (held : Bool) (s : State) :
    (runTick codes lit held s).rst.hostAddr = s.rst.hostAddr := by simp [runTick]

/-! ### Encoders -/

@[simp] theorem yank_hostAddr (reason : Nat) : (yank s reason).rst.hostAddr = s.rst.hostAddr := by simp [yank]
@[simp] theorem positionFault_hostAddr : (positionFault s).rst.hostAddr = s.rst.hostAddr := by simp [positionFault]

/-! ### Lines, cuts and homing -/

@[simp] theorem legalEdge_hostAddr (n : Nat) (e : Enc) (forward : Bool) (t : Rat) :
    (legalEdge s n e forward t).rst.hostAddr = s.rst.hostAddr := by
  simp only [legalEdge]
  (repeat' split) <;> simp

@[simp] theorem beginBand_hostAddr (t : Ticket) (j : Job) (b : Nat) :
    (beginBand s t j b).rst.hostAddr = s.rst.hostAddr := by simp [beginBand]

@[simp] theorem endTicketJob_hostAddr (j : Job) : (endTicketJob s j).rst.hostAddr = s.rst.hostAddr := by
  simp [endTicketJob]

@[simp] theorem endCut_hostAddr : (endCut s).rst.hostAddr = s.rst.hostAddr := by
  simp only [endCut]
  (repeat' split) <;> simp

@[simp] theorem endCutHoming_hostAddr : (endCutHoming s).rst.hostAddr = s.rst.hostAddr := by simp [endCutHoming]
@[simp] theorem endSledHoming_hostAddr : (endSledHoming s).rst.hostAddr = s.rst.hostAddr := by simp [endSledHoming]

/-! ### READY -/

@[simp] theorem loadHub_hostAddr : (loadHub s).rst.hostAddr = s.rst.hostAddr := by simp [loadHub]

@[simp] theorem sendHeld_hostAddr : (sendHeld s).rst.hostAddr = s.rst.hostAddr := by
  simp only [sendHeld, setHub]
  rw [ite_rst]
  simp only [setIrq_frame]
  rw [ite_self]
  exact foldl_hostAddr _ (by intro s d; (repeat' split) <;> simp) _ _

/-! ### The renderer -/

@[simp] theorem beginRender_hostAddr (j : Job) : (beginRender s j).rst.hostAddr = s.rst.hostAddr := by
  simp only [beginRender]
  (repeat' split) <;> simp

theorem takeBlocks_hostAddr {s t : State} {j : Job} (h : takeBlocks s j = some t) :
    t.rst.hostAddr = s.rst.hostAddr := by
  simp only [takeBlocks] at h
  split at h
  · obtain ⟨l, -, hl⟩ := List.exists_of_findSome?_eq_some h
    split at hl
    · split at hl
      · obtain ⟨⟨u, v⟩, hu, rfl⟩ := Option.map_eq_some_iff.mp hl
        simpa using rawStep_hostAddr hu
      · cases hl
    · cases hl
  · (repeat' split at h) <;> cases h
    simp

@[simp] theorem giveBlocks_hostAddr (n : Nat) (s : State) : (giveBlocks n s).rst.hostAddr = s.rst.hostAddr := by
  induction n generalizing s with
  | zero => rfl
  | succ n ih =>
    simp only [giveBlocks]
    split
    · next h =>
      obtain ⟨j, -, hj⟩ := List.exists_of_findSome?_eq_some h
      split at hj
      · rw [ih, takeBlocks_hostAddr hj]
      · cases hj
    · rfl

/-! ### Homing after DISCH -/

@[simp] theorem homesNow_hostAddr : (homesNow s).rst.hostAddr = s.rst.hostAddr := by simp [homesNow]

/-! ### The commands

A request's command is a served handler; each other command has a lemma of its own. -/

/-- The outcome leaves the host address as it stands in `s`. -/
def KeepsHostAddr (s : State) (o : Out) : Prop := ∀ t, o = .next t → t.rst.hostAddr = s.rst.hostAddr

@[simp] theorem keepsHostAddr_next (t : State) : KeepsHostAddr s (.next t) ↔ t.rst.hostAddr = s.rst.hostAddr := by
  simp [KeepsHostAddr]

@[simp] theorem keepsHostAddr_refused (x : Refusal) : KeepsHostAddr s (.refused x) := by simp [KeepsHostAddr]

theorem serve_keepsHostAddr {op : Nat} {h : Handler} (hh : ∀ r s, (h r s).2.rst.hostAddr = s.rst.hostAddr) :
    KeepsHostAddr s (.next (serve op h r s)) := by
  simp [hh]

/-- With VAO good already, its rise is no event. -/
theorem execVaoGoodRise_keepsHostAddr (asel : BitVec 2) (hv : s.rst.vaoGood = true) :
    KeepsHostAddr s (execVaoGoodRise asel s) := by
  simp [execVaoGoodRise, hv]

theorem execVioLow_keepsHostAddr : KeepsHostAddr s (execVioLow s) := by
  simp only [execVioLow]
  (repeat' split) <;> simp

theorem execVioGood_keepsHostAddr : KeepsHostAddr s (execVioGood s) := by simp [execVioGood]

theorem execNrstLow_keepsHostAddr (ns : Nat) : KeepsHostAddr s (execNrstLow ns s) := by
  simp only [execNrstLow]
  (repeat' split) <;> simp

theorem execWatchdogExpiry_keepsHostAddr : KeepsHostAddr s (execWatchdogExpiry s) := by simp [execWatchdogExpiry]

theorem execClockFail_keepsHostAddr : KeepsHostAddr s (execClockFail s) := by
  simp only [execClockFail]
  (repeat' split) <;> simp

theorem execClkfailRetry_keepsHostAddr (good : Bool) : KeepsHostAddr s (execClkfailRetry good s) := by
  simp [execClkfailRetry]
theorem execRstoutMinExpiry_keepsHostAddr : KeepsHostAddr s (execRstoutMinExpiry s) := by simp [execRstoutMinExpiry]

theorem execMainDomainRelease_keepsHostAddr (testmode : Bool) : KeepsHostAddr s (execMainDomainRelease testmode s) := by
  simp only [execMainDomainRelease]
  (repeat' split) <;> simp

theorem execCeholeReady_keepsHostAddr (pdCls : BitVec 3) : KeepsHostAddr s (execCeholeReady pdCls s) := by
  simp only [execCeholeReady]
  (repeat' split) <;> simp

theorem execTrstNLow_keepsHostAddr : KeepsHostAddr s (execTrstNLow s) := by simp [execTrstNLow]

theorem execAoTrim_keepsHostAddr (cycles : Nat) : KeepsHostAddr s (execAoTrim cycles s) := by
  simp only [execAoTrim]
  (repeat' split) <;> simp

theorem execXo32Qualified_keepsHostAddr : KeepsHostAddr s (execXo32Qualified s) := by simp [execXo32Qualified]

theorem execXo32Lost_keepsHostAddr : KeepsHostAddr s (execXo32Lost s) := by
  simp only [execXo32Lost]
  (repeat' split) <;> simp

theorem execXo32QualifyTimeout_keepsHostAddr : KeepsHostAddr s (execXo32QualifyTimeout s) := by
  simp [execXo32QualifyTimeout]

theorem execRtcSecond_keepsHostAddr : KeepsHostAddr s (execRtcSecond s) := by
  simp only [execRtcSecond]
  (repeat' split) <;> simp

theorem execDozeIdleExpiry_keepsHostAddr : KeepsHostAddr s (execDozeIdleExpiry s) := by
  simp only [execDozeIdleExpiry]
  (repeat' split) <;> simp

theorem execNapIdleExpiry_keepsHostAddr : KeepsHostAddr s (execNapIdleExpiry s) := by
  simp only [execNapIdleExpiry]
  (repeat' split) <;> simp

theorem execPstateEntryBegin_keepsHostAddr : KeepsHostAddr s (execPstateEntryBegin s) := by
  simp only [execPstateEntryBegin]
  (repeat' split) <;> simp

theorem execHibIdleExpiry_keepsHostAddr : KeepsHostAddr s (execHibIdleExpiry s) := by simp [execHibIdleExpiry]
theorem execNapLimitExpiry_keepsHostAddr : KeepsHostAddr s (execNapLimitExpiry s) := by simp [execNapLimitExpiry]

theorem execWkDebounce_keepsHostAddr (pin : Fin 6) (level : Bool) : KeepsHostAddr s (execWkDebounce pin level s) := by
  simp only [execWkDebounce]
  (repeat' split) <;> simp

theorem execPhyEnergyDetect_keepsHostAddr : KeepsHostAddr s (execPhyEnergyDetect s) := by simp [execPhyEnergyDetect]
theorem execUsbResume_keepsHostAddr : KeepsHostAddr s (execUsbResume s) := by simp [execUsbResume]

theorem execWarmReady_keepsHostAddr (pdCls : BitVec 3) : KeepsHostAddr s (execWarmReady pdCls s) := by
  simp only [execWarmReady]
  (repeat' split) <;> simp

theorem execPwrVioWaitExpiry_keepsHostAddr : KeepsHostAddr s (execPwrVioWaitExpiry s) := by
  simp only [execPwrVioWaitExpiry]
  (repeat' split) <;> simp

theorem execReedRefuse_keepsHostAddr (addr : Byte) : KeepsHostAddr s (execReedRefuse addr s) := by
  simp [execReedRefuse]
theorem execHostPortHandover_keepsHostAddr : KeepsHostAddr s (execHostPortHandover s) := by simp [execHostPortHandover]
theorem execHostPortTakeback_keepsHostAddr : KeepsHostAddr s (execHostPortTakeback s) := by simp [execHostPortTakeback]

theorem execDataIn_keepsHostAddr (bytes : List Byte) (pec : Option Byte) : KeepsHostAddr s (execDataIn bytes pec s) := by
  simp [execDataIn]

theorem execDoorbell_keepsHostAddr (value : Byte) (pec : Option Byte) : KeepsHostAddr s (execDoorbell value pec s) := by
  simp [execDoorbell]

theorem execDbDone_keepsHostAddr : KeepsHostAddr s (execDbDone s) := by
  simp only [execDbDone]
  (repeat' split) <;> simp

theorem execDataOut_keepsHostAddr (read : DataRead) : KeepsHostAddr s (execDataOut read s) := by
  simp only [execDataOut]
  (repeat' split) <;> simp

theorem execIrqStatusClear_keepsHostAddr (value : Byte) (pec : Option Byte) :
    KeepsHostAddr s (execIrqStatusClear value pec s) := by
  simp [execIrqStatusClear]

theorem execInFlush_keepsHostAddr (pec : Option Byte) : KeepsHostAddr s (execInFlush pec s) := by simp [execInFlush]
theorem execOutRewind_keepsHostAddr (pec : Option Byte) : KeepsHostAddr s (execOutRewind pec s) := by
  simp [execOutRewind]
theorem execOutSkip_keepsHostAddr (pec : Option Byte) : KeepsHostAddr s (execOutSkip pec s) := by simp [execOutSkip]

theorem execNotifLostRead_keepsHostAddr : KeepsHostAddr s (execNotifLostRead s) := by
  simp only [execNotifLostRead]
  (repeat' split) <;> simp

theorem execRegisterWrite_keepsHostAddr (ptr : Byte) (bytes : List Byte) (pec : Option Byte) :
    KeepsHostAddr s (execRegisterWrite ptr bytes pec s) := by
  simp [execRegisterWrite]

theorem execUartLinkFrame_keepsHostAddr (body : List Byte) (closed stopBitsOk : Bool) :
    KeepsHostAddr s (execUartLinkFrame body closed stopBitsOk s) := by
  simp only [execUartLinkFrame]
  (repeat' split) <;> simp

theorem execUartFrameGapExpiry_keepsHostAddr : KeepsHostAddr s (execUartFrameGapExpiry s) := by
  simp [execUartFrameGapExpiry]

theorem execUartCtsChange_keepsHostAddr (high : Bool) : KeepsHostAddr s (execUartCtsChange high s) := by
  simp [execUartCtsChange]

theorem execUsbBulkOut_keepsHostAddr (bytes : List Byte) : KeepsHostAddr s (execUsbBulkOut bytes s) := by
  simp only [execUsbBulkOut]
  (repeat' split) <;> simp

theorem execUsbInterruptReport_keepsHostAddr : KeepsHostAddr s (execUsbInterruptReport s) := by
  simp only [execUsbInterruptReport]
  (repeat' split) <;> simp

theorem execGetPortStatus_keepsHostAddr : KeepsHostAddr s (execGetPortStatus s) := by simp [execGetPortStatus]

theorem execSoftReset_keepsHostAddr : KeepsHostAddr s (execSoftReset s) := by
  simp only [execSoftReset]
  (repeat' split) <;> simp

theorem execUsbClassRequestStall_keepsHostAddr (request : Byte) : KeepsHostAddr s (execUsbClassRequestStall request s) := by
  simp [execUsbClassRequestStall]

theorem execUsbBusReset_keepsHostAddr : KeepsHostAddr s (execUsbBusReset s) := by simp [execUsbBusReset]
theorem execUsbVbusFall_keepsHostAddr : KeepsHostAddr s (execUsbVbusFall s) := by simp [execUsbVbusFall]
theorem execUsbVbusRise_keepsHostAddr : KeepsHostAddr s (execUsbVbusRise s) := by simp [execUsbVbusRise]
theorem execUsbSuspend_keepsHostAddr : KeepsHostAddr s (execUsbSuspend s) := by simp [execUsbSuspend]

theorem execRawJobRecord_keepsHostAddr (link : Link) (bytes : List Byte) :
    KeepsHostAddr s (execRawJobRecord link bytes s) := by
  simp only [execRawJobRecord]
  (repeat' split) <;> simp

theorem execEthLinkChange_keepsHostAddr (up hundred full : Bool) : KeepsHostAddr s (execEthLinkChange up hundred full s) := by
  simp only [execEthLinkChange]
  (repeat' split) <;> simp

theorem execTcpConnect_keepsHostAddr (raw : Bool) (id : Nat) (source dest : IpAddr) :
    KeepsHostAddr s (execTcpConnect raw id source dest s) := by
  simp only [execTcpConnect]
  (repeat' split) <;> simp

theorem execTcpClose_keepsHostAddr (id : Nat) : KeepsHostAddr s (execTcpClose id s) := by simp [execTcpClose]

theorem execSessionProveTimeout_keepsHostAddr (id : Nat) : KeepsHostAddr s (execSessionProveTimeout id s) := by
  simp only [execSessionProveTimeout]
  (repeat' split) <;> simp

theorem execNetSessionIdleExpiry_keepsHostAddr (ctx : Fin 12) : KeepsHostAddr s (execNetSessionIdleExpiry ctx s) := by
  simp [execNetSessionIdleExpiry]

theorem execLinkLossGraceExpiry_keepsHostAddr : KeepsHostAddr s (execLinkLossGraceExpiry s) := by
  simp only [execLinkLossGraceExpiry]
  (repeat' split) <;> simp

theorem execAddressChange_keepsHostAddr (e : AddrEvent) : KeepsHostAddr s (execAddressChange e s) := by
  simp only [execAddressChange]
  (repeat' split) <;> simp

theorem execDhcpLinkLocalFallback_keepsHostAddr (addr : Word) : KeepsHostAddr s (execDhcpLinkLocalFallback addr s) := by
  simp only [execDhcpLinkLocalFallback]
  (repeat' split) <;> simp

theorem execIcmpEcho_keepsHostAddr : KeepsHostAddr s (execIcmpEcho s) := by
  simp only [execIcmpEcho]
  (repeat' split) <;> simp

theorem execUdpDatagram_keepsHostAddr : KeepsHostAddr s (execUdpDatagram s) := by
  simp only [execUdpDatagram]
  (repeat' split) <;> simp

theorem execLldpduReceived_keepsHostAddr (ttl pse : Nat) : KeepsHostAddr s (execLldpduReceived ttl pse s) := by
  simp only [execLldpduReceived]
  (repeat' split) <;> simp

theorem execLldpTx_keepsHostAddr : KeepsHostAddr s (execLldpTx s) := by simp [execLldpTx]
theorem execLldpTtlExpiry_keepsHostAddr : KeepsHostAddr s (execLldpTtlExpiry s) := by simp [execLldpTtlExpiry]

theorem execMailboxFrame_keepsHostAddr (link : Link) (bytes : List Byte) :
    KeepsHostAddr s (execMailboxFrame link bytes s) := by
  simp [execMailboxFrame]

theorem execMbxFragTimeout_keepsHostAddr (place : MsgPlace) : KeepsHostAddr s (execMbxFragTimeout place s) := by
  simp only [execMbxFragTimeout]
  (repeat' split) <;> simp

theorem execResponseDelivered_keepsHostAddr (link : Link) : KeepsHostAddr s (execResponseDelivered link s) := by
  simp only [execResponseDelivered]
  (repeat' split) <;> simp

theorem execSysResetApply_keepsHostAddr : KeepsHostAddr s (execSysResetApply s) := by simp [execSysResetApply]
theorem execPwrOn_keepsHostAddr : KeepsHostAddr s (execPwrOn r s) := by simp [execPwrOn]
theorem execPwrOff_keepsHostAddr : KeepsHostAddr s (execPwrOff r s) := by simp [execPwrOff]
theorem execCalStart_keepsHostAddr : KeepsHostAddr s (execCalStart r s) := by simp [execCalStart]
theorem execCalAbort_keepsHostAddr : KeepsHostAddr s (execCalAbort r s) := by simp [execCalAbort]
theorem execNozScan_keepsHostAddr : KeepsHostAddr s (execNozScan r s) := by simp [execNozScan]
theorem execServiceRun_keepsHostAddr : KeepsHostAddr s (execServiceRun r s) := by simp [execServiceRun]
theorem execFeed_keepsHostAddr : KeepsHostAddr s (execFeed r s) := by simp [execFeed]
theorem execReturnNonceExpiry_keepsHostAddr : KeepsHostAddr s (execReturnNonceExpiry s) := by
  simp [execReturnNonceExpiry]
theorem execExtest_keepsHostAddr : KeepsHostAddr s (execExtest s) := by simp [execExtest]
theorem execSamplePreload_keepsHostAddr : KeepsHostAddr s (execSamplePreload s) := by simp [execSamplePreload]
theorem execIdcode_keepsHostAddr : KeepsHostAddr s (execIdcode s) := by simp [execIdcode]
theorem execHighz_keepsHostAddr : KeepsHostAddr s (execHighz s) := by simp [execHighz]
theorem execAuth_keepsHostAddr : KeepsHostAddr s (execAuth s) := by simp [execAuth]
theorem execSvc_keepsHostAddr (frame : List Byte) : KeepsHostAddr s (execSvc frame s) := by simp [execSvc]
theorem execCoreDbg_keepsHostAddr : KeepsHostAddr s (execCoreDbg s) := by simp [execCoreDbg]
theorem execBypass_keepsHostAddr (code : BitVec 5) : KeepsHostAddr s (execBypass code s) := by simp [execBypass]
theorem execReqService_keepsHostAddr : KeepsHostAddr s (execReqService s) := by simp [execReqService]
theorem execReqCore_keepsHostAddr : KeepsHostAddr s (execReqCore s) := by simp [execReqCore]
theorem execRespond_keepsHostAddr (mac : List Byte) : KeepsHostAddr s (execRespond mac s) := by simp [execRespond]
theorem execClose_keepsHostAddr : KeepsHostAddr s (execClose s) := by simp [execClose]

theorem execAuthVerifyDone_keepsHostAddr : KeepsHostAddr s (execAuthVerifyDone s) := by
  simp only [execAuthVerifyDone]
  (repeat' split) <;> simp

theorem execAuthBackoffExpiry_keepsHostAddr : KeepsHostAddr s (execAuthBackoffExpiry s) := by
  simp [execAuthBackoffExpiry]
theorem execDbgIdleClose_keepsHostAddr : KeepsHostAddr s (execDbgIdleClose s) := by simp [execDbgIdleClose]

theorem execSeqOnDelayExpiry_keepsHostAddr (ch : Fin 8) : KeepsHostAddr s (execSeqOnDelayExpiry ch s) := by
  simp only [execSeqOnDelayExpiry]
  (repeat' split) <;> simp

theorem execPgGood_keepsHostAddr (ch : Fin 8) : KeepsHostAddr s (execPgGood ch s) := by
  simp only [execPgGood]
  (repeat' split) <;> simp

theorem execPgTimeout_keepsHostAddr (ch : Fin 8) : KeepsHostAddr s (execPgTimeout ch s) := by
  simp only [execPgTimeout]
  (repeat' split) <;> simp

theorem execRailFault_keepsHostAddr (ch : Fin 8) (pgLevels : BitVec 8) : KeepsHostAddr s (execRailFault ch pgLevels s) := by
  simp only [execRailFault]
  (repeat' split) <;> simp

theorem execHisTrip_keepsHostAddr (row : Fin 2) (both : Bool) : KeepsHostAddr s (execHisTrip row both s) := by
  simp only [execHisTrip]
  (repeat' split) <;> simp

theorem execSeqOffDelayExpiry_keepsHostAddr : KeepsHostAddr s (execSeqOffDelayExpiry s) := by
  simp only [execSeqOffDelayExpiry]
  (repeat' split) <;> simp

theorem execWffTimeout_keepsHostAddr : KeepsHostAddr s (execWffTimeout s) := by
  simp only [execWffTimeout]
  (repeat' split) <;> simp

theorem execMinOffExpiry_keepsHostAddr : KeepsHostAddr s (execMinOffExpiry s) := by
  simp only [execMinOffExpiry]
  (repeat' split) <;> simp

theorem execRetryCountReset_keepsHostAddr : KeepsHostAddr s (execRetryCountReset s) := by simp [execRetryCountReset]

theorem execVinfailTrip_keepsHostAddr : KeepsHostAddr s (execVinfailTrip s) := by
  simp only [execVinfailTrip]
  (repeat' split) <;> simp

theorem execVinfailRelease_keepsHostAddr : KeepsHostAddr s (execVinfailRelease s) := by
  simp only [execVinfailRelease]
  (repeat' split) <;> simp

theorem execVinfailRise_keepsHostAddr : KeepsHostAddr s (execVinfailRise s) := by
  simp only [execVinfailRise]
  (repeat' split) <;> simp

theorem execHoldupWriteDone_keepsHostAddr (complete : Bool) : KeepsHostAddr s (execHoldupWriteDone complete s) := by
  simp only [execHoldupWriteDone]
  (repeat' split) <;> simp

theorem execDroneRise_keepsHostAddr : KeepsHostAddr s (execDroneRise s) := by
  simp only [execDroneRise]
  (repeat' split) <;> simp

theorem execDroneReassert_keepsHostAddr : KeepsHostAddr s (execDroneReassert s) := by
  simp only [execDroneReassert]
  (repeat' split) <;> simp

theorem execDroneTimeout_keepsHostAddr : KeepsHostAddr s (execDroneTimeout s) := by
  simp only [execDroneTimeout]
  (repeat' split) <;> simp

theorem execDroneAbort_keepsHostAddr : KeepsHostAddr s (execDroneAbort s) := by
  simp only [execDroneAbort]
  (repeat' split) <;> simp

theorem execFaultRecordWritten_keepsHostAddr : KeepsHostAddr s (execFaultRecordWritten s) := by
  simp only [execFaultRecordWritten]
  (repeat' split) <;> simp

theorem execDischTimeout_keepsHostAddr : KeepsHostAddr s (execDischTimeout s) := by
  simp only [execDischTimeout]
  (repeat' split) <;> simp

theorem execDischRelease_keepsHostAddr : KeepsHostAddr s (execDischRelease s) := by
  simp only [execDischRelease]
  (repeat' split) <;> simp

theorem execChgGateSlot_keepsHostAddr : KeepsHostAddr s (execChgGateSlot s) := by simp [execChgGateSlot]

theorem execAccountingWindowEnd_keepsHostAddr : KeepsHostAddr s (execAccountingWindowEnd s) := by
  simp [execAccountingWindowEnd]

theorem execTicketResume_keepsHostAddr : KeepsHostAddr s (execTicketResume s) := by
  simp only [execTicketResume]
  (repeat' split) <;> simp

theorem execFeedRestart_keepsHostAddr : KeepsHostAddr s (execFeedRestart s) := by
  simp only [execFeedRestart]
  (repeat' split) <;> simp

theorem execRenderWaitExpiry_keepsHostAddr : KeepsHostAddr s (execRenderWaitExpiry s) := by
  simp only [execRenderWaitExpiry]
  (repeat' split) <;> simp

theorem execBulkAgeExpiry_keepsHostAddr (job : Nat) : KeepsHostAddr s (execBulkAgeExpiry job s) := by
  simp only [execBulkAgeExpiry]
  (repeat' split) <;> simp

theorem execEncoderEdge_keepsHostAddr (enc : Fin 2) (a b : Bool) (t : EncSeen) :
    KeepsHostAddr s (execEncoderEdge enc a b t s) := by
  simp only [execEncoderEdge]
  (repeat' split) <;> simp

theorem execLateLimitExpiry_keepsHostAddr : KeepsHostAddr s (execLateLimitExpiry s) := by
  simp only [execLateLimitExpiry]
  (repeat' split) <;> simp

theorem execIndexEdge_keepsHostAddr (enc : Fin 2) (level : Bool) (t : EncSeen) :
    KeepsHostAddr s (execIndexEdge enc level t s) := by
  simp only [execIndexEdge]
  (repeat' split) <;> simp

theorem execLineBoundary_keepsHostAddr (t steps : Nat) : KeepsHostAddr s (execLineBoundary t steps s) := by
  simp only [execLineBoundary]
  (repeat' split) <;> simp

theorem execFireCountUpdate_keepsHostAddr : KeepsHostAddr s (execFireCountUpdate s) := by simp [execFireCountUpdate]
theorem execEncStillExpiry_keepsHostAddr : KeepsHostAddr s (execEncStillExpiry s) := by simp [execEncStillExpiry]

theorem execResyncFeedDone_keepsHostAddr : KeepsHostAddr s (execResyncFeedDone s) := by
  simp only [execResyncFeedDone]
  (repeat' split) <;> simp

theorem execCutPositionReached_keepsHostAddr : KeepsHostAddr s (execCutPositionReached s) := by
  simp only [execCutPositionReached]
  (repeat' split) <;> simp

theorem execCutHomeSeen_keepsHostAddr (level : Bool) : KeepsHostAddr s (execCutHomeSeen level s) := by
  simp [execCutHomeSeen]

theorem execCutHomeTimeout_keepsHostAddr : KeepsHostAddr s (execCutHomeTimeout s) := by
  simp only [execCutHomeTimeout]
  (repeat' split) <;> simp

theorem execHomingDone_keepsHostAddr (m : Fin 2) (level : Bool) : KeepsHostAddr s (execHomingDone m level s) := by
  simp only [execHomingDone]
  (repeat' split) <;> simp

theorem execSledHomeTimeout_keepsHostAddr : KeepsHostAddr s (execSledHomeTimeout s) := by simp [execSledHomeTimeout]

theorem execMotorFault_keepsHostAddr (m : Fin 3) : KeepsHostAddr s (execMotorFault m s) := by
  simp only [execMotorFault]
  (repeat' split) <;> simp

theorem execMotorFltRelease_keepsHostAddr (m : Fin 3) : KeepsHostAddr s (execMotorFltRelease m s) := by
  simp only [execMotorFltRelease]
  (repeat' split) <;> simp

theorem execMotorEnIdleExpiry_keepsHostAddr (m : Fin 3) : KeepsHostAddr s (execMotorEnIdleExpiry m s) := by
  simp [execMotorEnIdleExpiry]

theorem execHubTick_keepsHostAddr (codes : Sampled) (held : Bool) : KeepsHostAddr s (execHubTick codes held s) := by
  simp only [execHubTick]
  (repeat' split) <;> simp

theorem execHubBusComplete_keepsHostAddr (spi : Bool) (result : BusEnd) :
    KeepsHostAddr s (execHubBusComplete spi result s) := by
  simp only [execHubBusComplete]
  (repeat' split) <;> simp

theorem execHubI2cTimeout_keepsHostAddr : KeepsHostAddr s (execHubI2cTimeout s) := by
  simp only [execHubI2cTimeout]
  (repeat' split) <;> simp

theorem execHubI2cBackoffExpiry_keepsHostAddr : KeepsHostAddr s (execHubI2cBackoffExpiry s) := by
  simp only [execHubI2cBackoffExpiry]
  (repeat' split) <;> simp

theorem execNozScanDone_keepsHostAddr (gates : List GateSeen) (tests : List NozTest) (result : MechEnd) :
    KeepsHostAddr s (execNozScanDone gates tests result s) := by
  simp only [execNozScanDone]
  (repeat' split) <;> simp

theorem execServiceRunDone_keepsHostAddr (result : MechEnd) : KeepsHostAddr s (execServiceRunDone result s) := by
  simp only [execServiceRunDone]
  (repeat' split) <;> simp

theorem execFeedDone_keepsHostAddr (fed : Nat) (result : MechEnd) : KeepsHostAddr s (execFeedDone fed result s) := by
  simp only [execFeedDone]
  (repeat' split) <;> simp

theorem execServiceWaitTimeout_keepsHostAddr (gates : List GateSeen) (tests : List NozTest) :
    KeepsHostAddr s (execServiceWaitTimeout gates tests s) := by
  simp only [execServiceWaitTimeout]
  (repeat' split) <;> simp

theorem execNozMapWrite_keepsHostAddr : KeepsHostAddr s (execNozMapWrite s) := by simp [execNozMapWrite]

theorem execCalDone_keepsHostAddr (m : CalMeas) : KeepsHostAddr s (execCalDone m s) := by
  simp only [execCalDone]
  (repeat' split) <;> simp

theorem execCalOtpStore_keepsHostAddr : KeepsHostAddr s (execCalOtpStore s) := by
  simp only [execCalOtpStore]
  split
  · split
    · simp
    · split
      · simp
      · split
        · simp
        · split <;> next h => simpa using hostAddr_of_snd h
  · simp

theorem execCalWaitTimeout_keepsHostAddr : KeepsHostAddr s (execCalWaitTimeout s) := by simp [execCalWaitTimeout]

theorem execRenderStart_keepsHostAddr : KeepsHostAddr s (execRenderStart s) := by
  simp only [execRenderStart]
  (repeat' split) <;> simp

theorem execRenderResume_keepsHostAddr : KeepsHostAddr s (execRenderResume s) := by
  simp only [execRenderResume]
  (repeat' split) <;> simp

theorem execRenderDone_keepsHostAddr : KeepsHostAddr s (execRenderDone s) := by
  simp only [execRenderDone]
  (repeat' split) <;> simp

theorem execLogFlush_keepsHostAddr : KeepsHostAddr s (execLogFlush s) := by simp [execLogFlush]

theorem execLogFlushIntervalExpiry_keepsHostAddr : KeepsHostAddr s (execLogFlushIntervalExpiry s) := by
  simp [execLogFlushIntervalExpiry]

theorem execLogCtrlWrite_keepsHostAddr : KeepsHostAddr s (execLogCtrlWrite s) := by
  simp only [execLogCtrlWrite]
  (repeat' split) <;> simp

theorem execVddaLow_keepsHostAddr : KeepsHostAddr s (execVddaLow s) := by simp [execVddaLow]
theorem execVddaReturn_keepsHostAddr : KeepsHostAddr s (execVddaReturn s) := by simp [execVddaReturn]
theorem execCoreDebugReset_keepsHostAddr : KeepsHostAddr s (execCoreDebugReset s) := by simp [execCoreDebugReset]

theorem execUsbStandardRequest_keepsHostAddr (setup : Setup) : KeepsHostAddr s (execUsbStandardRequest setup s) := by
  simp only [execUsbStandardRequest]
  (repeat' split) <;> simp

/-- Every command but the two of VAO good keeps the host address, and so does a rise of VAO that is good already. -/
theorem exec_keepsHostAddr (c : Instr) (hc : c ≠ .vaoGoodClear)
    (hr : ∀ asel, c = .vaoGoodRise asel → s.rst.vaoGood = true) : KeepsHostAddr s (exec c s) := by
  cases c with
  | vaoGoodRise asel => exact execVaoGoodRise_keepsHostAddr s asel (hr asel rfl)
  | vaoGoodClear => exact absurd rfl hc
  | vioLow => exact execVioLow_keepsHostAddr s
  | vioGood => exact execVioGood_keepsHostAddr s
  | nrstLow ns => exact execNrstLow_keepsHostAddr s ns
  | watchdogExpiry => exact execWatchdogExpiry_keepsHostAddr s
  | clockFail => exact execClockFail_keepsHostAddr s
  | clkfailRetry good => exact execClkfailRetry_keepsHostAddr s good
  | rstoutMinExpiry => exact execRstoutMinExpiry_keepsHostAddr s
  | mainDomainRelease testmode => exact execMainDomainRelease_keepsHostAddr s testmode
  | ceholeReady pdCls => exact execCeholeReady_keepsHostAddr s pdCls
  | trstNLow => exact execTrstNLow_keepsHostAddr s
  | aoTrim cycles => exact execAoTrim_keepsHostAddr s cycles
  | xo32Qualified => exact execXo32Qualified_keepsHostAddr s
  | xo32Lost => exact execXo32Lost_keepsHostAddr s
  | xo32QualifyTimeout => exact execXo32QualifyTimeout_keepsHostAddr s
  | rtcSecond => exact execRtcSecond_keepsHostAddr s
  | dozeIdleExpiry => exact execDozeIdleExpiry_keepsHostAddr s
  | napIdleExpiry => exact execNapIdleExpiry_keepsHostAddr s
  | pstateEntryBegin => exact execPstateEntryBegin_keepsHostAddr s
  | hibIdleExpiry => exact execHibIdleExpiry_keepsHostAddr s
  | napLimitExpiry => exact execNapLimitExpiry_keepsHostAddr s
  | wkDebounce pin level => exact execWkDebounce_keepsHostAddr s pin level
  | phyEnergyDetect => exact execPhyEnergyDetect_keepsHostAddr s
  | usbResume => exact execUsbResume_keepsHostAddr s
  | warmReady pdCls => exact execWarmReady_keepsHostAddr s pdCls
  | pwrVioWaitExpiry => exact execPwrVioWaitExpiry_keepsHostAddr s
  | reedRefuse addr => exact execReedRefuse_keepsHostAddr s addr
  | hostPortHandover => exact execHostPortHandover_keepsHostAddr s
  | hostPortTakeback => exact execHostPortTakeback_keepsHostAddr s
  | dataIn bytes pec => exact execDataIn_keepsHostAddr s bytes pec
  | doorbell value pec => exact execDoorbell_keepsHostAddr s value pec
  | dbDone => exact execDbDone_keepsHostAddr s
  | dataOut read => exact execDataOut_keepsHostAddr s read
  | irqStatusClear value pec => exact execIrqStatusClear_keepsHostAddr s value pec
  | inFlush pec => exact execInFlush_keepsHostAddr s pec
  | outRewind pec => exact execOutRewind_keepsHostAddr s pec
  | outSkip pec => exact execOutSkip_keepsHostAddr s pec
  | notifLostRead => exact execNotifLostRead_keepsHostAddr s
  | registerWrite ptr bytes pec => exact execRegisterWrite_keepsHostAddr s ptr bytes pec
  | uartLinkFrame body closed stopBitsOk => exact execUartLinkFrame_keepsHostAddr s body closed stopBitsOk
  | uartFrameGapExpiry => exact execUartFrameGapExpiry_keepsHostAddr s
  | uartCtsChange high => exact execUartCtsChange_keepsHostAddr s high
  | usbBulkOut bytes => exact execUsbBulkOut_keepsHostAddr s bytes
  | usbInterruptReport => exact execUsbInterruptReport_keepsHostAddr s
  | getPortStatus => exact execGetPortStatus_keepsHostAddr s
  | softReset => exact execSoftReset_keepsHostAddr s
  | usbClassRequestStall request => exact execUsbClassRequestStall_keepsHostAddr s request
  | usbBusReset => exact execUsbBusReset_keepsHostAddr s
  | usbVbusFall => exact execUsbVbusFall_keepsHostAddr s
  | usbVbusRise => exact execUsbVbusRise_keepsHostAddr s
  | usbSuspend => exact execUsbSuspend_keepsHostAddr s
  | rawJobRecord link bytes => exact execRawJobRecord_keepsHostAddr s link bytes
  | ethLinkChange up hundred full => exact execEthLinkChange_keepsHostAddr s up hundred full
  | tcpConnect raw id source dest => exact execTcpConnect_keepsHostAddr s raw id source dest
  | tcpClose id => exact execTcpClose_keepsHostAddr s id
  | sessionProveTimeout id => exact execSessionProveTimeout_keepsHostAddr s id
  | netSessionIdleExpiry ctx => exact execNetSessionIdleExpiry_keepsHostAddr s ctx
  | linkLossGraceExpiry => exact execLinkLossGraceExpiry_keepsHostAddr s
  | addressChange e => exact execAddressChange_keepsHostAddr s e
  | dhcpLinkLocalFallback addr => exact execDhcpLinkLocalFallback_keepsHostAddr s addr
  | icmpEcho => exact execIcmpEcho_keepsHostAddr s
  | udpDatagram => exact execUdpDatagram_keepsHostAddr s
  | lldpduReceived ttl pse => exact execLldpduReceived_keepsHostAddr s ttl pse
  | lldpTx => exact execLldpTx_keepsHostAddr s
  | lldpTtlExpiry => exact execLldpTtlExpiry_keepsHostAddr s
  | mailboxFrame link bytes => exact execMailboxFrame_keepsHostAddr s link bytes
  | mbxFragTimeout place => exact execMbxFragTimeout_keepsHostAddr s place
  | responseDelivered link => exact execResponseDelivered_keepsHostAddr s link
  | sysIdent r => exact serve_keepsHostAddr r s hSysIdent_hostAddr
  | sysReset r => exact serve_keepsHostAddr r s hSysReset_hostAddr
  | sysResetApply => exact execSysResetApply_keepsHostAddr s
  | sysCounters r => exact serve_keepsHostAddr r s hSysCounters_hostAddr
  | sysTime r => exact serve_keepsHostAddr r s hSysTime_hostAddr
  | sysRtcSet r => exact serve_keepsHostAddr r s hSysRtcSet_hostAddr
  | sysEcho r => exact serve_keepsHostAddr r s hSysEcho_hostAddr
  | paramRead r => exact serve_keepsHostAddr r s hParamRead_hostAddr
  | paramWrite r => exact serve_keepsHostAddr r s hParamWrite_hostAddr
  | paramCommit r => exact serve_keepsHostAddr r s hParamCommit_hostAddr
  | paramRevert r => exact serve_keepsHostAddr r s hParamRevert_hostAddr
  | paramDefaults r => exact serve_keepsHostAddr r s hParamDefaults_hostAddr
  | paramInfo r => exact serve_keepsHostAddr r s hParamInfo_hostAddr
  | profileApply r => exact serve_keepsHostAddr r s hProfileApply_hostAddr
  | jobSubmit r => exact serve_keepsHostAddr r s hJobSubmit_hostAddr
  | jobSubmitRaster r => exact serve_keepsHostAddr r s hJobSubmitRaster_hostAddr
  | jobStatus r => exact serve_keepsHostAddr r s hJobStatus_hostAddr
  | jobCancel r => exact serve_keepsHostAddr r s hJobCancel_hostAddr
  | jobHold r => exact serve_keepsHostAddr r s hJobHold_hostAddr
  | jobRelease r => exact serve_keepsHostAddr r s hJobRelease_hostAddr
  | jobList r => exact serve_keepsHostAddr r s hJobList_hostAddr
  | jobPriority r => exact serve_keepsHostAddr r s hJobPriority_hostAddr
  | hubValues r => exact serve_keepsHostAddr r s hHubValues_hostAddr
  | hubRecords r => exact serve_keepsHostAddr r s hHubRecords_hostAddr
  | hubSlotSet r => exact serve_keepsHostAddr r s hHubSlotSet_hostAddr
  | hubDescSet r => exact serve_keepsHostAddr r s hHubDescSet_hostAddr
  | hubDetectorSet r => exact serve_keepsHostAddr r s hHubDetectorSet_hostAddr
  | hubConfigRead r => exact serve_keepsHostAddr r s hHubConfigRead_hostAddr
  | hubSubscribe r => exact serve_keepsHostAddr r s hHubSubscribe_hostAddr
  | hubStatus r => exact serve_keepsHostAddr r s hHubStatus_hostAddr
  | hubStickyClear r => exact serve_keepsHostAddr r s hHubStickyClear_hostAddr
  | hubRecordsAck r => exact serve_keepsHostAddr r s hHubRecordsAck_hostAddr
  | pwrStateSet r => exact serve_keepsHostAddr r s hPwrStateSet_hostAddr
  | pwrStateQuery r => exact serve_keepsHostAddr r s hPwrStateQuery_hostAddr
  | pwrOn r => exact execPwrOn_keepsHostAddr r s
  | pwrOff r => exact execPwrOff_keepsHostAddr r s
  | seqStatus r => exact serve_keepsHostAddr r s hSeqStatus_hostAddr
  | pwrRtcAlarm r => exact serve_keepsHostAddr r s hPwrRtcAlarm_hostAddr
  | dischHold r => exact serve_keepsHostAddr r s hDischHold_hostAddr
  | calStart r => exact execCalStart_keepsHostAddr r s
  | calStatus r => exact serve_keepsHostAddr r s hCalStatus_hostAddr
  | calAbort r => exact execCalAbort_keepsHostAddr r s
  | nozScan r => exact execNozScan_keepsHostAddr r s
  | nozMapRead r => exact serve_keepsHostAddr r s hNozMapRead_hostAddr
  | nozMark r => exact serve_keepsHostAddr r s hNozMark_hostAddr
  | serviceRun r => exact execServiceRun_keepsHostAddr r s
  | fireCountRead r => exact serve_keepsHostAddr r s hFireCountRead_hostAddr
  | feed r => exact execFeed_keepsHostAddr r s
  | mechStatus r => exact serve_keepsHostAddr r s hMechStatus_hostAddr
  | logInfo r => exact serve_keepsHostAddr r s hLogInfo_hostAddr
  | logRead r => exact serve_keepsHostAddr r s hLogRead_hostAddr
  | faultRead r => exact serve_keepsHostAddr r s hFaultRead_hostAddr
  | snapshotRead r => exact serve_keepsHostAddr r s hSnapshotRead_hostAddr
  | logClear r => exact serve_keepsHostAddr r s hLogClear_hostAddr
  | otpRead r => exact serve_keepsHostAddr r s hOtpRead_hostAddr
  | otpProgram r => exact serve_keepsHostAddr r s hOtpProgram_hostAddr
  | otpKeyProgram r => exact serve_keepsHostAddr r s hOtpKeyProgram_hostAddr
  | otpSeal r => exact serve_keepsHostAddr r s hOtpSeal_hostAddr
  | otpLock r => exact serve_keepsHostAddr r s hOtpLock_hostAddr
  | otpShadow r => exact serve_keepsHostAddr r s hOtpShadow_hostAddr
  | otpStatus r => exact serve_keepsHostAddr r s hOtpStatus_hostAddr
  | lifecycleAdvance r => exact serve_keepsHostAddr r s hLifecycleAdvance_hostAddr
  | returnChallenge r => exact serve_keepsHostAddr r s hReturnChallenge_hostAddr
  | returnNonceExpiry => exact execReturnNonceExpiry_keepsHostAddr s
  | storeInfo r => exact serve_keepsHostAddr r s hStoreInfo_hostAddr
  | profileStore r => exact serve_keepsHostAddr r s hProfileStore_hostAddr
  | profileErase r => exact serve_keepsHostAddr r s hProfileErase_hostAddr
  | profileInfo r => exact serve_keepsHostAddr r s hProfileInfo_hostAddr
  | objectStore r => exact serve_keepsHostAddr r s hObjectStore_hostAddr
  | objectErase r => exact serve_keepsHostAddr r s hObjectErase_hostAddr
  | objectList r => exact serve_keepsHostAddr r s hObjectList_hostAddr
  | nvmWear r => exact serve_keepsHostAddr r s hNvmWear_hostAddr
  | patchStore r => exact serve_keepsHostAddr r s hPatchStore_hostAddr
  | sessionOpen r => exact serve_keepsHostAddr r s hSessionOpen_hostAddr
  | sessionProve r => exact serve_keepsHostAddr r s hSessionProve_hostAddr
  | sessionClose r => exact serve_keepsHostAddr r s hSessionClose_hostAddr
  | netStatus r => exact serve_keepsHostAddr r s hNetStatus_hostAddr
  | netSessionEnd r => exact serve_keepsHostAddr r s hNetSessionEnd_hostAddr
  | rightsSet r => exact serve_keepsHostAddr r s hRightsSet_hostAddr
  | rightsGet r => exact serve_keepsHostAddr r s hRightsGet_hostAddr
  | extest => exact execExtest_keepsHostAddr s
  | samplePreload => exact execSamplePreload_keepsHostAddr s
  | idcode => exact execIdcode_keepsHostAddr s
  | highz => exact execHighz_keepsHostAddr s
  | auth => exact execAuth_keepsHostAddr s
  | svc frame => exact execSvc_keepsHostAddr s frame
  | coreDbg => exact execCoreDbg_keepsHostAddr s
  | bypass code => exact execBypass_keepsHostAddr s code
  | reqService => exact execReqService_keepsHostAddr s
  | reqCore => exact execReqCore_keepsHostAddr s
  | respond hmac => exact execRespond_keepsHostAddr s hmac
  | close => exact execClose_keepsHostAddr s
  | authVerifyDone => exact execAuthVerifyDone_keepsHostAddr s
  | authBackoffExpiry => exact execAuthBackoffExpiry_keepsHostAddr s
  | dbgIdleClose => exact execDbgIdleClose_keepsHostAddr s
  | seqOnDelayExpiry ch => exact execSeqOnDelayExpiry_keepsHostAddr s ch
  | pgGood ch => exact execPgGood_keepsHostAddr s ch
  | pgTimeout ch => exact execPgTimeout_keepsHostAddr s ch
  | railFault ch pgLevels => exact execRailFault_keepsHostAddr s ch pgLevels
  | hisTrip row both => exact execHisTrip_keepsHostAddr s row both
  | seqOffDelayExpiry => exact execSeqOffDelayExpiry_keepsHostAddr s
  | wffTimeout => exact execWffTimeout_keepsHostAddr s
  | minOffExpiry => exact execMinOffExpiry_keepsHostAddr s
  | retryCountReset => exact execRetryCountReset_keepsHostAddr s
  | vinfailTrip => exact execVinfailTrip_keepsHostAddr s
  | vinfailRelease => exact execVinfailRelease_keepsHostAddr s
  | vinfailRise => exact execVinfailRise_keepsHostAddr s
  | holdupWriteDone complete => exact execHoldupWriteDone_keepsHostAddr s complete
  | droneRise => exact execDroneRise_keepsHostAddr s
  | droneReassert => exact execDroneReassert_keepsHostAddr s
  | droneTimeout => exact execDroneTimeout_keepsHostAddr s
  | droneAbort => exact execDroneAbort_keepsHostAddr s
  | faultRecordWritten => exact execFaultRecordWritten_keepsHostAddr s
  | dischTimeout => exact execDischTimeout_keepsHostAddr s
  | dischRelease => exact execDischRelease_keepsHostAddr s
  | chgGateSlot => exact execChgGateSlot_keepsHostAddr s
  | accountingWindowEnd => exact execAccountingWindowEnd_keepsHostAddr s
  | ticketResume => exact execTicketResume_keepsHostAddr s
  | feedRestart => exact execFeedRestart_keepsHostAddr s
  | renderWaitExpiry => exact execRenderWaitExpiry_keepsHostAddr s
  | bulkAgeExpiry job => exact execBulkAgeExpiry_keepsHostAddr s job
  | encoderEdge enc a b t => exact execEncoderEdge_keepsHostAddr s enc a b t
  | lateLimitExpiry => exact execLateLimitExpiry_keepsHostAddr s
  | indexEdge enc level t => exact execIndexEdge_keepsHostAddr s enc level t
  | lineBoundary t steps => exact execLineBoundary_keepsHostAddr s t steps
  | fireCountUpdate => exact execFireCountUpdate_keepsHostAddr s
  | encStillExpiry => exact execEncStillExpiry_keepsHostAddr s
  | resyncFeedDone => exact execResyncFeedDone_keepsHostAddr s
  | cutPositionReached => exact execCutPositionReached_keepsHostAddr s
  | cutHomeSeen level => exact execCutHomeSeen_keepsHostAddr s level
  | cutHomeTimeout => exact execCutHomeTimeout_keepsHostAddr s
  | homingDone m level => exact execHomingDone_keepsHostAddr s m level
  | sledHomeTimeout => exact execSledHomeTimeout_keepsHostAddr s
  | motorFault m => exact execMotorFault_keepsHostAddr s m
  | motorFltRelease m => exact execMotorFltRelease_keepsHostAddr s m
  | motorEnIdleExpiry m => exact execMotorEnIdleExpiry_keepsHostAddr s m
  | hubTick codes held => exact execHubTick_keepsHostAddr s codes held
  | hubBusComplete spi result => exact execHubBusComplete_keepsHostAddr s spi result
  | hubI2cTimeout => exact execHubI2cTimeout_keepsHostAddr s
  | hubI2cBackoffExpiry => exact execHubI2cBackoffExpiry_keepsHostAddr s
  | nozScanDone gates tests result => exact execNozScanDone_keepsHostAddr s gates tests result
  | serviceRunDone result => exact execServiceRunDone_keepsHostAddr s result
  | feedDone fed result => exact execFeedDone_keepsHostAddr s fed result
  | serviceWaitTimeout gates tests => exact execServiceWaitTimeout_keepsHostAddr s gates tests
  | nozMapWrite => exact execNozMapWrite_keepsHostAddr s
  | calDone m => exact execCalDone_keepsHostAddr s m
  | calOtpStore => exact execCalOtpStore_keepsHostAddr s
  | calWaitTimeout => exact execCalWaitTimeout_keepsHostAddr s
  | renderStart => exact execRenderStart_keepsHostAddr s
  | renderResume => exact execRenderResume_keepsHostAddr s
  | renderDone => exact execRenderDone_keepsHostAddr s
  | logFlush => exact execLogFlush_keepsHostAddr s
  | logFlushIntervalExpiry => exact execLogFlushIntervalExpiry_keepsHostAddr s
  | logCtrlWrite => exact execLogCtrlWrite_keepsHostAddr s
  | vddaLow => exact execVddaLow_keepsHostAddr s
  | vddaReturn => exact execVddaReturn_keepsHostAddr s
  | coreDebugReset => exact execCoreDebugReset_keepsHostAddr s
  | usbStandardRequest setup => exact execUsbStandardRequest_keepsHostAddr s setup

/-! ### Sampling -/

/-- 0x4C and two more bits fit in the address's seven, without a carry out. -/
theorem sampled_toNat (asel : BitVec 2) : (0x4C + BitVec.ofNat 7 asel.toNat).toNat = 0x4C + asel.toNat := by
  have h : asel.toNat < 4 := asel.isLt
  bv_omega

/-- As VAO becomes good Clove starts with the address that the balls give (R44). -/
theorem vaoGoodRise_samples (asel : BitVec 2) (hv : s.rst.vaoGood = false) :
    ∃ t, exec (.vaoGoodRise asel) s = .next t ∧ t.rst.hostAddr.toNat = 0x4C + asel.toNat := by
  refine ⟨_, if_neg (by simp [hv]), ?_⟩
  rw [cloveStart_hostAddr]
  exact sampled_toNat asel

/-- Settles O9: VAO's rise samples the balls, and no other command but VAO's loss touches the address, one lemma per operation
up to the dispatch. -/
theorem hostAddressIsSampledAtVaoGood : Obligations.HostAddressIsSampledAtVaoGood := by
  unfold Obligations.HostAddressIsSampledAtVaoGood
  exact ⟨fun asel s hv => vaoGoodRise_samples s asel hv,
    fun c s t ht hc hr => exec_keepsHostAddr s c hc hr t ht⟩

end Sys2Proof.Machine
end

section
/-! SUPPORT and PROOF of O20. A write to the host port's window, with PEC off or with the right PEC, runs through the window's
registers (R184, R186); at DATA_IN a full inbound buffer drops the byte and latches OVERFLOW, and CTRL's first bit empties the
buffer (R191). -/

namespace Sys2Proof.Machine

variable (s : State)

/-! ### Writes that reach the window -/

/-- What a host gives as the PEC of a write suits the port: none with PEC off, the transaction's own with PEC on (R186). -/
def PecSuits (ptr : Byte) (bytes : List Byte) (pec : Option Byte) : Prop :=
  s.port.pecOn = false ∧ pec = none ∨ s.port.pecOn = true ∧ pec = some (pecOf s ptr bytes)

theorem portRuns_of_coreRuns (hr : coreRuns s = true) : portRuns s = true := by simp [portRuns, hr]

/-- R184: a write to the live window by its pointer, as PEC decides it. -/
theorem i2cWrite_live {ptr : Byte} (full : List Byte) (ho : s.reed.owns = false) (hr : coreRuns s = true)
    (hp : ptr.toNat < 0x40) :
    i2cWrite s ptr full = if s.port.pecOn then pecWrite s ptr full else writeBytes s ptr.toNat full := by
  have hserved : ¬ ((!portRuns s) = true ∨ 0x40 ≤ ptr.toNat) :=
    not_or.mpr ⟨by rw [portRuns_of_coreRuns s hr]; exact Bool.false_ne_true, Nat.not_le.mpr hp⟩
  rw [i2cWrite, if_neg (by rw [ho]; exact Bool.false_ne_true), if_neg hserved]

/-- R186: a write of at most 255 bytes with its own PEC is applied. -/
theorem pecWrite_pecOf (ptr : Byte) {bytes : List Byte} (hl : bytes.length ≤ 255) :
    pecWrite s ptr (withPec bytes (some (pecOf s ptr bytes))) = writeBytes s ptr.toNat bytes := by
  simp [pecWrite, withPec, Nat.not_lt.mpr hl]

theorem i2cWrite_of_pecSuits {ptr : Byte} {bytes : List Byte} {pec : Option Byte} (ho : s.reed.owns = false)
    (hr : coreRuns s = true) (hp : ptr.toNat < 0x40) (hl : bytes.length ≤ 255) (hpec : PecSuits s ptr bytes pec) :
    i2cWrite s ptr (withPec bytes pec) = writeBytes s ptr.toNat bytes := by
  rw [i2cWrite_live s _ ho hr hp]
  obtain ⟨hoff, rfl⟩ | ⟨hon, rfl⟩ := hpec
  · simp [hoff, withPec]
  · rw [if_pos hon, pecWrite_pecOf s ptr hl]

/-! ### The inbound buffer -/

theorem execDataIn_byte {b : Byte} {pec : Option Byte} (ho : s.reed.owns = false) (hr : coreRuns s = true)
    (hpec : PecSuits s 0x20 [b] pec) : execDataIn [b] pec s = .next (putDataIn s b) :=
  congrArg Host.Outcome.next (i2cWrite_of_pecSuits s ho hr (by decide) (by simp) hpec)

theorem execInFlush_flushIn {pec : Option Byte} (ho : s.reed.owns = false) (hr : coreRuns s = true)
    (hpec : PecSuits s 0x0A [0x01] pec) : execInFlush pec s = .next (flushIn s) :=
  congrArg Host.Outcome.next (i2cWrite_of_pecSuits s ho hr (by decide) (by simp) hpec)

/-- A 16-bit register that reads 0 in both bytes holds 0. -/
theorem eq_zero_of_byteOf {v : Nat} (hv : v < 0x10000) (h0 : byteOf v 0 = 0) (h1 : byteOf v 1 = 0) : v = 0 := by
  have low : v % 256 = 0 := by simpa [byteOf, b8] using congrArg BitVec.toNat h0
  have high : v / 256 % 256 = 0 := by simpa [byteOf, b8] using congrArg BitVec.toNat h1
  omega

/-- RX_SPACE reads 0 in the live window only while a submission is being checked or the buffer is full (R188, R191). -/
theorem inbound_full_of_rxSpace (ho : s.reed.owns = false) (h0 : windowByte s 0x10 = 0) (h1 : windowByte s 0x11 = 0) :
    s.port.dbStatus = 0x0101 ∨ inCapacity ≤ s.port.inBuf.length := by
  have hspace : (if s.port.dbStatus = 0x0101 then 0 else inCapacity - s.port.inBuf.length) = 0 :=
    eq_zero_of_byteOf (by unfold inCapacity; split <;> omega) (by simpa [windowByte, ho, liveByte] using h0)
      (by simpa [windowByte, ho, liveByte] using h1)
  split at hspace
  case isTrue hbusy => exact .inl hbusy
  case isFalse => exact .inr (Nat.le_of_sub_eq_zero hspace)

/-- A latched bit, OUT_READY's aside, reads 1 in IRQ_STATUS (R188). -/
theorem irqStatus_setIrq_testBit {bit : Nat} (h1 : 1 ≤ bit) (h8 : bit < 8) :
    (irqStatus (setIrq s bit)).toNat.testBit bit = true := by
  have hlatched : ∀ i < 8, 1 ≤ i → (0xFE : Byte).getLsbD i = true := by decide
  have hmask : (0xFE : Byte).getLsbD bit = true := hlatched bit h8 h1
  have hset : (BitVec.ofNat 8 (2 ^ bit)).getLsbD bit = true := by
    rw [BitVec.getLsbD_ofNat, Nat.testBit_two_pow_self, decide_eq_true h8, Bool.and_self]
  rw [BitVec.testBit_toNat, irqStatus, BitVec.getLsbD_or, BitVec.getLsbD_and, hmask, setIrq, BitVec.getLsbD_or, hset]
  simp

/-- Settles O20: RX_SPACE of 0 makes DATA_IN's write a latch of OVERFLOW alone, and IN_FLUSH's write is the flush. -/
theorem inboundBufferOverflows : Obligations.InboundBufferOverflows := by
  unfold Obligations.InboundBufferOverflows
  intro s ho hr
  refine ⟨fun b pec h0 h1 _ hpec => ⟨setIrq s 4, ?_, rfl, ?_, rfl⟩, fun pec hpec => ?_⟩
  · have hdrop : putDataIn s b = setIrq s 4 := if_pos (inbound_full_of_rxSpace s ho h0 h1)
    rw [← hdrop]
    exact execDataIn_byte s ho hr hpec
  · exact irqStatus_setIrq_testBit s (by decide) (by decide)
  · exact execInFlush_flushIn s ho hr hpec

end Sys2Proof.Machine
end

section
/-! SUPPORT for O3, O4 and O6 to O8. What every step keeps of the state it starts from (`Keeps`), and the rules by which it passes
through choices, folds and updates of other fields. -/

namespace Sys2Proof.Machine

/-! ### What every step keeps -/

/-- At most 16 shadows, one to a word, in ascending order (R169). -/
def ShadowShape (l : List (Nat × BitVec 64)) : Prop := l.length ≤ 16 ∧ l.Pairwise (fun p q => p.1 < q.1)

/-- How one-time memory can move from `a` to `o`: no word comes or goes, a VALID word stays as it is (R155), and the shadows keep
their shape. -/
def OtpEvolves (a o : Otp) : Prop :=
  o.words.length = a.words.length ∧ (∀ (i : Nat) (w : OtpWord), a.words[i]? = some w → w.cond = .valid → o.words[i]? = some w) ∧
  (ShadowShape a.shadows → ShadowShape o.shadows)

/-- DISCH holds the charger off (R27, R367): `ChargerSafe` of Saffron's record alone. -/
def DischHolds (x : Saf) : Prop := x.disch = true → x.charger = false

/-- What every step keeps of the state it starts from: the queue's rest, programmed words, the shape of the shadows, and
DISCH's hold on the charger. -/
@[simp] abbrev Keeps (s t : State) : Prop :=
  t.pending = s.pending ∧ (∀ a, OtpEvolves a s.otp → OtpEvolves a t.otp) ∧ (DischHolds s.saf → DischHolds t.saf)

/-- As `Keeps`, by what an operation does not touch: the words, the shadows, DISCH and the charger enable. -/
@[simp] abbrev Spares (s t : State) : Prop :=
  t.pending = s.pending ∧ (∀ a, OtpEvolves a t.otp ↔ OtpEvolves a s.otp) ∧ (DischHolds t.saf ↔ DischHolds s.saf)

theorem Keeps.rfl {s : State} : Keeps s s := ⟨by trivial, fun _ h => h, id⟩

theorem Keeps.trans {s t u : State} (h : Keeps s t) (k : Keeps t u) : Keeps s u :=
  ⟨k.1.trans h.1, fun a x => k.2.1 a (h.2.1 a x), fun x => k.2.2 (h.2.2 x)⟩

/-- Where the parts that `Keeps` speaks of stay as they are, nothing else matters. -/
theorem Keeps.of_eq {s t : State} (hp : t.pending = s.pending) (ho : t.otp = s.otp) (hs : t.saf = s.saf) : Keeps s t :=
  ⟨hp, fun _ h => ho ▸ h, fun h => hs ▸ h⟩

theorem Spares.keeps {s t : State} (h : Spares s t) : Keeps s t := ⟨h.1, fun a => (h.2.1 a).mpr, h.2.2.mpr⟩

theorem Spares.trans {s t u : State} (h : Spares s t) (k : Spares t u) : Spares s u :=
  ⟨k.1.trans h.1, fun a => (k.2.1 a).trans (h.2.1 a), k.2.2.trans h.2.2⟩

theorem foldl_keeps {α : Type} {g : State → α → State} (h : ∀ s a, Keeps s (g s a)) (l : List α) (s : State) :
    Keeps s (l.foldl g s) :=
  List.foldlRecOn l g (motive := Keeps s) Keeps.rfl fun _ ht a _ => ht.trans (h _ a)

theorem foldl_spares {α : Type} {g : State → α → State} (h : ∀ s a, Spares s (g s a)) (l : List α) (s : State) :
    Spares s (l.foldl g s) :=
  List.foldlRecOn l g (motive := Spares s) ⟨rfl, fun _ => Iff.rfl, Iff.rfl⟩ fun _ ht a _ => ht.trans (h _ a)

theorem ite_keeps {s : State} {c : Prop} [Decidable c] {x y : State} (hx : Keeps s x) (hy : Keeps s y) :
    Keeps s (if c then x else y) := by split <;> assumption

/-- The state that an operation hands on with an answer, where a match takes the two apart. -/
theorem Keeps.of_snd {α : Type} {s t : State} {p : α × State} {a : α} (hk : Keeps s p.2) (h : p = (a, t)) : Keeps s t := by
  rw [h] at hk; exact hk

theorem Keeps.of_fst {α : Type} {s t : State} {p : State × α} {a : α} (hk : Keeps s p.1) (h : p = (t, a)) : Keeps s t := by
  rw [h] at hk; exact hk

theorem OtpEvolves.rfl {a : Otp} : OtpEvolves a a := ⟨Eq.refl _, fun _ _ h _ => h, id⟩

/-! ### Choices of records and their other fields -/

@[simp] theorem otpEvolves_ite {a : Otp} (c : Prop) [Decidable c] (x y : Otp) :
    OtpEvolves a (if c then x else y) ↔ if c then OtpEvolves a x else OtpEvolves a y := by split <;> exact Iff.rfl

@[simp] theorem dischHolds_ite (c : Prop) [Decidable c] (x y : Saf) :
    DischHolds (if c then x else y) ↔ if c then DischHolds x else DischHolds y := by split <;> exact Iff.rfl

/-- Only the words and the shadows count. -/
theorem OtpEvolves.congr {a o : Otp} (h : OtpEvolves a o) {o' : Otp} (hw : o'.words = o.words) (hs : o'.shadows = o.shadows) :
    OtpEvolves a o' := by rw [OtpEvolves, hw, hs]; exact h

@[simp] theorem otpEvolves_mk (a o : Otp) (c l al n m) :
    OtpEvolves a ⟨o.words, o.shadows, c, l, al, n, m⟩ ↔ OtpEvolves a o := Iff.rfl

theorem dischHolds_of_low {x : Saf} (h : x.disch = false) : DischHolds x := fun k => absurd (h.symm.trans k) (by decide)
theorem dischHolds_of_off {x : Saf} (h : x.charger = false) : DischHolds x := fun _ => h

/-- Only DISCH and the charger count. -/
theorem DischHolds.congr {x y : Saf} (h : DischHolds x) (hd : y.disch = x.disch) (hc : y.charger = x.charger) :
    DischHolds y := by
  rw [DischHolds, hd, hc]; exact h

@[simp] theorem dischHolds_mk (x : Saf) (a b c d e f g h i j k l m n o p q r t u v w y z a' b' c' d' e' f' g' h' i') :
    DischHolds ⟨a, b, c, d, e, x.disch, f, g, h, i, x.charger, j, k, l, m, n, o, p, q, r,
      t, u, v, w, y, z, a', b', c', d', e', f', g', h', i'⟩ ↔ DischHolds x := Iff.rfl

@[simp] theorem dischHolds_mk_off (x a b c d e f g h i j k l m n o p q r t u v w y z a' b' c' d' e' f' g' h' i') :
    DischHolds ⟨a, b, c, d, e, x, f, g, h, i, false, j, k, l, m, n, o, p, q, r,
      t, u, v, w, y, z, a', b', c', d', e', f', g', h', i'⟩ := fun _ => Eq.refl _

@[simp] theorem dischHolds_mk_low (x a b c d e f g h i j k l m n o p q r t u v w y z a' b' c' d' e' f' g' h' i') :
    DischHolds ⟨a, b, c, d, e, false, f, g, h, i, x, j, k, l, m, n, o, p, q, r,
      t, u, v, w, y, z, a', b', c', d', e', f', g', h', i'⟩ := fun k => Bool.noConfusion k

end Sys2Proof.Machine
end

section
/-! SUPPORT for O3, O4 and O6 to O8. What each operation of the model keeps: one lemma each, in the order of their definitions,
through the frame lemmas of Laws/Frames where the operation does not touch the queue, one-time memory or Saffron. -/

namespace Sys2Proof.Machine

variable {s : State}

@[simp] theorem haltTicket_spares (cause : Nat) : Spares s (haltTicket s cause) := by
  simp only [haltTicket]
  (repeat' split) <;> simp

@[simp] theorem deriveTrip_spares : Spares s (deriveTrip s) := by simp [deriveTrip]

@[simp] theorem endAction_spares (opcode : Nat) (status : Nat) (result : List Byte) :
    Spares s (endAction s opcode status result) := by
  simp only [endAction]
  (repeat' split) <;> simp

@[simp] theorem dropTrial_spares : Spares s (dropTrial s) := by simp [dropTrial]

@[simp] theorem refuseCal_spares (a : Action) (detail : Nat) (index : Nat) : Spares s (refuseCal s a detail index) :=
    by simp [refuseCal]

@[simp] theorem endCal_spares (detail : Nat) (index : Nat) : Spares s (endCal s detail index) := by
  simp only [endCal]
  (repeat' split) <;> simp

@[simp] theorem cutFails_spares : Spares s (cutFails s) := by
  simp only [cutFails]
  (repeat' split) <;> simp

@[simp] theorem releaseCharger_keeps : Keeps s (releaseCharger s) := by simp +contextual [releaseCharger]

theorem enableCharger_keeps (hd : s.saf.disch = false) : Keeps s (enableCharger s) := by
  simp [enableCharger, dischHolds_of_low, hd]

@[simp] theorem gateCharger_spares (on : Bool) : Spares s (gateCharger s on) := by simp [gateCharger]

@[simp] theorem releaseCharger_holds (s : State) : DischHolds (releaseCharger s).saf := by simp [releaseCharger]

@[simp] theorem assertDisch_holds (s : State) (reason : Nat) : DischHolds (assertDisch s reason).saf := by
  simp only [assertDisch]
  (repeat' split) <;> simp

@[simp] theorem assertDisch_keeps (reason : Nat) : Keeps s (assertDisch s reason) := by simp

@[simp] theorem dropReason_spares (reason : Nat) : Spares s (dropReason s reason) := by simp [dropReason]

@[simp] theorem accrueBudget_spares : Spares s (accrueBudget s) := by simp [accrueBudget]

@[simp] theorem updateAllocation_spares : Spares s (updateAllocation s) := by simp [updateAllocation]

@[simp] theorem releaseCh_keeps (n : Nat) : Keeps s (releaseCh s n) := by simp +contextual [releaseCh]

@[simp] theorem walk_keeps (k : Nat) : Keeps s (walk k s) := by
  induction k generalizing s with
  | zero => exact Keeps.rfl
  | succ k ih =>
    simp only [walk]
    (repeat' split) <;> simp -implicitDefEqProofs +contextual [(ih (s := _)).2.2]

@[simp] theorem wffEnd_keeps : Keeps s (wffEnd s) := by simp +contextual [wffEnd]

@[simp] theorem startFull_keeps : Keeps s (startFull s) := by simp +contextual [startFull]

@[simp] theorem partialToFull_keeps : Keeps s (partialToFull s) := by simp +contextual [partialToFull]

@[simp] theorem offRequest_keeps : Keeps s (offRequest s) := by
  simp only [offRequest]
  (repeat' split) <;> simp +contextual

@[simp] theorem startPartial_keeps (mask : BitVec 8) : Keeps s (startPartial s mask) := by simp +contextual [startPartial]

@[simp] theorem partialDue_keeps : Keeps s (partialDue s) := by simp -implicitDefEqProofs +contextual [partialDue]

@[simp] theorem allOff_keeps : Keeps s (allOff s) := by simp +contextual [allOff]

@[simp] theorem raiseFault_spares : Spares s (raiseFault s) := by simp [raiseFault]

@[simp] theorem railLost_spares (n : Nat) : Spares s (railLost s n) := by simp [railLost]

@[simp] theorem mainLost_holds (s : State) : DischHolds (mainLost s).saf := by simp [mainLost]

@[simp] theorem mainLost_evolves (s : State) (a : Otp) : OtpEvolves a (mainLost s).otp ↔ OtpEvolves a s.otp := by
  simp [mainLost]

@[simp] theorem mainReset_keeps (cause : Byte) : Keeps s (mainReset s cause) := by
  simp only [mainReset]
  split <;> simp

@[simp] theorem napCommit_keeps (e : Entry) : Keeps s (napCommit s e) := by simp +contextual [napCommit]

@[simp] theorem restartHub_spares (aux : Half) : Spares s (restartHub s aux) := by simp [restartHub]

@[simp] theorem hibRails_keeps : Keeps s (hibRails s) := by simp +contextual [hibRails]

@[simp] theorem hibCommit_keeps : Keeps s (hibCommit s) := by simp +contextual [hibCommit]

@[simp] theorem moveCommit_keeps : Keeps s (moveCommit s) := by simp +contextual [moveCommit]

@[simp] theorem startMove_keeps : Keeps s (startMove s) := by simp +contextual [startMove]

@[simp] theorem tryEnter_keeps : Keeps s (tryEnter s) := by
  simp only [tryEnter]
  (repeat' split) <;> simp +contextual

@[simp] theorem startHibWake_spares : Spares s (startHibWake s) := by simp [startHibWake]

@[simp] theorem noteReads_evolves (s : State) (ws : List Nat) (a : Otp) :
    OtpEvolves a (noteReads s ws).otp ↔ OtpEvolves a s.otp := by
  induction ws generalizing s with
  | nil => rfl
  | cons w ws ih =>
    have hcons : noteReads s (w :: ws) = noteReads (noteReads s [w]) ws := rfl
    rw [hcons, ih]
    simp only [noteReads, List.foldl_cons, List.foldl_nil]
    (repeat' split) <;> simp

@[simp] theorem cloveStart_spares (aux : Half) : Spares s (cloveStart s aux) := by simp [cloveStart]

@[simp] theorem fullReset_keeps : Keeps s (fullReset s) := by
  have hs (a : Otp) (h : OtpEvolves a s.otp) :
      OtpEvolves a { (mainLost s).otp with shadows := [], nonceEntry := none, nonceCore := none } := by
    obtain ⟨hl, hw, -⟩ := (mainLost_evolves s a).mpr h
    exact ⟨hl, hw, fun _ => ⟨by simp, List.Pairwise.nil⟩⟩
  have hd : DischHolds State.reset.saf := fun _ => rfl
  simp +contextual [fullReset, hs, hd]

@[simp] theorem commitMove_keeps : Keeps s (commitMove s) := by simp +contextual [commitMove]

@[simp] theorem moveOn_keeps : Keeps s (moveOn s) := by simp +contextual [moveOn]

@[simp] theorem powerDue_keeps : Keeps s (powerDue s) := by simp +contextual [powerDue]

@[simp] theorem wakeSource_keeps (bit : Nat) : Keeps s (wakeSource s bit) := by
  simp only [wakeSource]
  (repeat' split) <;> simp +contextual

@[simp] theorem wakeWork_keeps (bit : Nat) : Keeps s (wakeWork s bit) := by simp +contextual [wakeWork]

@[simp] theorem reedHears_keeps (addr : Byte) : Keeps s (reedHears s addr) := by simp +contextual [reedHears]

@[simp] theorem readClassPins_spares (pins : BitVec 3) : Spares s (readClassPins s pins) := by simp [readClassPins]

theorem judge_keeps (l : Bool) (cs : List (Nat × Bool)) (go : State → Reply × State) (hg : Keeps s (go s).2) :
    Keeps s (judge s l cs go).2 := by
  simp only [judge]
  (repeat' split)
  · exact Keeps.rfl
  · exact Keeps.rfl
  · exact hg

/-- Where no check fails every one of them passes. -/
theorem forall_of_firstFail : ∀ {cs : List (Nat × Bool)}, firstFail cs = none → ∀ c ∈ cs, c.2 = true
  | [], _ => by simp
  | (o, ok) :: cs, h => by
    cases ok with
    | false => simp [firstFail] at h
    | true => simpa using forall_of_firstFail (by simpa [firstFail] using h)

/-- What an opcode that the lifecycle or a lock may forbid does, it does where they do not and every field passes. -/
theorem judgeLocked_keeps (lc op : Nat) (p : List Byte) (l : Bool) (cs : List (Nat × Bool)) (go : State → Reply × State)
    (hg : forbidden s.otp lc op p = none → (∀ c ∈ cs, c.2 = true) → Keeps s (go s).2) :
    Keeps s (judgeLocked s lc op p l cs go).2 := by
  simp only [judgeLocked]
  (repeat' split)
  · exact Keeps.rfl
  · exact Keeps.rfl
  · next h =>
    simp only [judge]
    split
    · exact Keeps.rfl
    · split
      · exact Keeps.rfl
      · next hc => exact hg h (forall_of_firstFail hc)

@[simp] theorem applyReset_keeps : Keeps s (applyReset s) := by
  simp only [applyReset]
  (repeat' split) <;> simp +contextual

@[simp] theorem afterDelivery_keeps (b : Box) (f : OutFrame) : Keeps s (afterDelivery s b f) := by
  simp only [afterDelivery]
  (repeat' split) <;> simp +contextual

@[simp] theorem deliverHead_keeps (b : Box) : Keeps s (deliverHead s b) := by
  simp only [deliverHead]
  (repeat' split) <;> simp +contextual

theorem continueMsg_keeps {h : Handler} (hh : ∀ r s, Keeps s (h r s).2) (op : Nat) (r : Req) (b : Box) (m : OpenMsg)
    (s : State) :
    Keeps s (continueMsg h op r b m s).2 := by
  simp only [continueMsg]
  (repeat' split)
  · exact hh r s
  · simp
  · exact Keeps.rfl
  · simp
  · exact Keeps.trans (hh { r with payload := m.bytes ++ r.payload } s) (by simp)

theorem beginMsg_keeps {h : Handler} (hh : ∀ r s, Keeps s (h r s).2) (op : Nat) (r : Req) (b : Box) (s : State) :
    Keeps s (beginMsg h op r b s).2 := by
  simp only [beginMsg]
  (repeat' split)
  case' isFalse.isFalse.isFalse.isTrue => exact hh r s
  all_goals simp

theorem serve_keeps {h : Handler} (hh : ∀ r s, Keeps s (h r s).2) (op : Nat) (r : Req) (s : State) :
    Keeps s (serve op h r s) := by
  have hw (b : Box) (f : Ctx → Ctx) : Keeps s (wakeDoze (modBox s b f)) := by simp
  have ha {t u : State} (hu : Keeps t u) (b : Box) (q : Half) (full : Bool) (rep : Reply) :
      Keeps t (answer u b op q full rep) := hu.trans (by simp)
  simp only [serve]
  (repeat' split)
  · exact Keeps.rfl
  · exact ha (hw _ _) _ _ _ _
  · exact ha ((hw _ _).trans (continueMsg_keeps hh _ _ _ _ _)) _ _ _ _
  · exact ha (hw _ _) _ _ _ _
  · exact ha (hw _ _) _ _ _ _
  · exact ha (hw _ _) _ _ _ _
  · exact ha ((hw _ _).trans (beginMsg_keeps hh _ _ _ _)) _ _ _ _

theorem sequenceRules_keeps {go : State → State} (hg : ∀ s, Keeps s (go s)) (b : Box) (h : Header) (s : State) :
    Keeps s (sequenceRules s b h go) := by
  simp only [sequenceRules]
  split
  · simp
  · split
    · exact Keeps.trans (by simp) (hg _)
    · (repeat' split) <;> simp

theorem takeFrame_keeps {run : Nat → Req → State → State} (hr : ∀ n r s, Keeps s (run n r s)) (l : Link)
    (bs : List Byte) (s : State) :
    Keeps s (takeFrame run l bs s) := by
  unfold takeFrame
  extract_lets s1 b s2 s3 sx h wrongCtx s4
  have h2 : Keeps s s2 := by simp [s2, s1]
  have h3 : Keeps s s3 := h2.trans (by simp [s3])
  have h4 : Keeps s s4 := h2.trans (by simp [s4])
  have hf (n : Counters → Counters) (st : Nat) : Keeps s (refuseFrame (modCnt s2 b n) b h st) := h2.trans (by simp)
  refine ite_keeps ?_ (ite_keeps (hf _ _) (ite_keeps (hf _ _) (ite_keeps (hf _ _) (ite_keeps (hf _ _) (ite_keeps ?_ ?_)))))
  · split
    · next id =>
      refine h3.trans (Keeps.trans (t := sx) ?_ (by simp))
      cases hl : linkContext s3 (Link.conn id) <;> simp [sx, hl]
    · exact h3
  · exact h2.trans (by simp)
  · refine h4.trans (sequenceRules_keeps (fun x => ?_) b h s4)
    split
    · exact hr _ _ _
    · simp

@[simp] theorem refreshDetDisch_spares : Spares s (refreshDetDisch s) := by simp [refreshDetDisch]

@[simp] theorem putDet_spares (op : Nat) (n : Nat) (e : List Byte) : Spares s (putDet s op n e) := by simp [putDet]

@[simp] theorem putHubParam_spares (id : Nat) (v : List Byte) : Spares s (putHubParam s id v) := by simp [putHubParam]

theorem writeDeferred_keeps : Keeps s (writeDeferred s) := foldl_keeps (fun _ _ => by simp) _ _

@[simp] theorem onCommit_keeps (changed : List Nat) : Keeps s (onCommit s changed) := by
  have hf (m : ParamMap) (l : List Nat) (t : State) : Keeps t (l.foldl (fun s id => putHubParam s id (mapVal m id)) t) :=
    foldl_keeps (fun _ _ => by simp) _ _
  unfold onCommit
  extract_lets m s1 pr s2 s3
  have h1 : Keeps s s1 := ite_keeps (by simp) Keeps.rfl
  have h2 : Keeps s s2 := h1.trans (ite_keeps Keeps.rfl (by simp))
  have h3 : Keeps s s3 := h2.trans (hf _ _ _)
  refine h3.trans ?_
  split <;> simp

@[simp] theorem commitValues_keeps (m : ParamMap) (profId : Word) (profVer : Word) (data : List Byte → List Byte) :
    Keeps s (commitValues s m profId profVer data).2 := by
  simp only [commitValues]
  (repeat' split) <;> simp +contextual

@[simp] theorem energyRun_spares : Spares s (energyRun s).2 := by simp [energyRun]

theorem chargerAllowed_disch (h : chargerAllowed s = true) : s.saf.disch = false := by
  simp only [chargerAllowed, Bool.and_eq_true, Bool.not_eq_true'] at h
  simp_all

@[simp] theorem updateCharger_keeps : Keeps s (updateCharger s) := by
  have he := energyRun_spares (s := s)
  simp only [updateCharger]
  (repeat' split)
  · exact Keeps.rfl
  · exact he.keeps
  · next h =>
    have hd := chargerAllowed_disch (s := (energyRun s).2) (by simp_all)
    exact he.keeps.trans (by simp [enableCharger, hd])
  · simp
  · simp
  · exact he.keeps

@[simp] theorem failAction_spares (a : Action) (detail : Nat) (index : Nat) : Spares s (failAction s a detail index) :=
    by simp [failAction]

@[simp] theorem startCal_spares (a : Action) : Spares s (startCal s a) := by
  simp only [startCal]
  (repeat' split) <;> simp

@[simp] theorem startAction_spares (a : Action) : Spares s (startAction s a) := by
  simp only [startAction]
  (repeat' split) <;> simp

@[simp] theorem autoAction_spares (opcode : Half) (payload : List Byte) : Spares s (autoAction s opcode payload) :=
    by simp [autoAction]

@[simp] theorem autoSpit_spares : Spares s (autoSpit s) := by simp [autoSpit]

@[simp] theorem postBand_spares (step : Nat) (id : Nat) : Spares s (postBand s step id) := by simp [postBand]

@[simp] theorem startTicket_spares (j : Job) : Spares s (startTicket s j) := by
  simp only [startTicket]
  (repeat' split) <;> simp

@[simp] theorem cancelPrinting_spares (j : Job) : Spares s (cancelPrinting s j) := by
  simp only [cancelPrinting]
  (repeat' split) <;> simp

@[simp] theorem boundary_spares : Spares s (boundary s) := by
  simp only [boundary]
  (repeat' split) <;> simp

@[simp] theorem boundaries_keeps (n : Nat) : Keeps s (boundaries n s) := by
  induction n generalizing s with
  | zero => exact Keeps.rfl
  | succ n ih => exact boundary_spares.keeps.trans ih

@[simp] theorem schedule_keeps : Keeps s (schedule s) := by simp +contextual [schedule]

@[simp] theorem becomeReady_keeps (id : Nat) : Keeps s (becomeReady s id) := by simp +contextual [becomeReady]

@[simp] theorem startWaiting_keeps : Keeps s (startWaiting s) := by simp +contextual [startWaiting]

@[simp] theorem deferredOff_keeps : Keeps s (deferredOff s) := by simp +contextual [deferredOff]

@[simp] theorem afterTicket_keeps : Keeps s (afterTicket s) := by
  unfold afterTicket
  extract_lets f s1 sf s2
  have h1 : Keeps s s1 := ite_keeps (by simp) Keeps.rfl
  have h2 : Keeps s1 s2 := ite_keeps (Keeps.trans (t := { s1 with saf := sf }) (by simp [sf]) deferredOff_keeps) Keeps.rfl
  exact ite_keeps Keeps.rfl ((h1.trans h2).trans (tryEnter_keeps.trans schedule_keeps))

@[simp] theorem feedTick_keeps : Keeps s (feedTick s) := by
  simp only [feedTick]
  (repeat' split) <;> simp +contextual

@[simp] theorem followMax_spares (before : Otp) : Spares s (followMax before s) := by simp [followMax]

@[simp] theorem otpChange_otp (s : State) (o : Otp) : (otpChange s o).otp = o := by simp [otpChange]

@[simp] theorem otpChange_holds (s : State) (o : Otp) : DischHolds (otpChange s o).saf ↔ DischHolds s.saf := by
  simp [otpChange]

theorem otpCond_eq_blank {o : Otp} {i : Nat} (h : otpCond o i = .blank) : (otpRaw o i).cond = .blank := by
  simp only [otpCond] at h
  split at h
  · split at h <;> cases h
  · exact h

theorem otpRaw_of_getElem? {o : Otp} {i : Nat} {w : OtpWord} (h : o.words[i]? = some w) : otpRaw o i = w := by
  simp [otpRaw, List.getD_eq_getElem?_getD, h]

theorem ShadowShape.assocDel {l : List (Nat × BitVec 64)} (h : ShadowShape l) (k : Nat) : ShadowShape (assocDel l k) :=
  ⟨Nat.le_trans (List.length_filter_le _ _) h.1, h.2.filter _⟩

/-- A word that is not VALID may change, and a shadow go (R155, R169). -/
theorem OtpEvolves.set {a o : Otp} (h : OtpEvolves a o) {i : Nat} (hb : (otpRaw o i).cond ≠ .valid) (w : OtpWord) :
    OtpEvolves a { o with words := o.words.set i w, shadows := assocDel o.shadows i } := by
  obtain ⟨hl, hw, hs⟩ := h
  refine ⟨by simp [hl], fun j v hj hv => ?_, fun ha => (hs ha).assocDel i⟩
  have hji : i ≠ j := fun e => hb (by rw [e, otpRaw_of_getElem? (hw j v hj hv)]; exact hv)
  simpa [List.getElem?_set_ne hji] using hw j v hj hv

@[simp] theorem programWord_holds (s : State) (i : Nat) (d : BitVec 64) :
    DischHolds (programWord s i d).2.saf ↔ DischHolds s.saf := by simp [programWord]

/-- Programming a word that does not read VALID. -/
theorem programWord_keeps {i : Nat} (hb : (otpRaw s.otp i).cond = .blank) (d : BitVec 64) :
    Keeps s (programWord s i d).2 := by
  refine ⟨by simp, fun a h => ?_, (programWord_holds s i d).mpr⟩
  simpa [programWord] using h.set (i := i) (by simp [hb]) (programmed (otpRaw s.otp i) d)

theorem programWord_otpRaw {i j : Nat} (hij : i ≠ j) (d : BitVec 64) :
    otpRaw (programWord s i d).2.otp j = otpRaw s.otp j := by
  simp [programWord, otpRaw, List.getD_eq_getElem?_getD, List.getElem?_set_ne hij]

/-- Programming BLANK words, each once. -/
theorem programWords_keeps {ws : List (Nat × BitVec 64)} (hd : (ws.map (·.1)).Nodup)
    (hb : ∀ p ∈ ws, (otpRaw s.otp p.1).cond = .blank) : Keeps s (programWords s ws).2 := by
  induction ws generalizing s with
  | nil => exact Keeps.rfl
  | cons p ws ih =>
    have hk := programWord_keeps (hb p (by simp)) p.2
    obtain ⟨hp, hn⟩ := List.nodup_cons.mp hd
    have hr : ∀ q ∈ ws, (otpRaw (programWord s p.1 p.2).2.otp q.1).cond = .blank := fun q hq => by
      have hne : p.1 ≠ q.1 := fun e => hp (List.mem_map.mpr ⟨q, hq, e.symm⟩)
      rw [programWord_otpRaw hne]
      exact hb q (by simp [hq])
    simp only [programWords]
    split
    · next h =>
      rw [h] at hk hr
      exact hk.trans (ih hn hr)
    · next h => exact hk.of_snd h

theorem OtpEvolves.filter {a o : Otp} (h : OtpEvolves a o) (p : Nat × BitVec 64 → Bool) :
    OtpEvolves a { o with shadows := o.shadows.filter p } :=
  ⟨h.1, h.2.1, fun ha => ⟨Nat.le_trans (List.length_filter_le _ _) (h.2.2 ha).1, (h.2.2 ha).2.filter _⟩⟩

/-- Sealing a region whose digest is BLANK. -/
theorem sealRegion_keeps {r : Nat} (h : sealed s.otp r = false) : Keeps s (sealRegion s r).2 := by
  simp only [sealRegion]
  split
  · exact Keeps.rfl
  · next d hd =>
    have hb : otpCond s.otp d = .blank := by simpa [sealed, hd] using h
    have hk := programWord_keeps (otpCond_eq_blank hb) (digestOf s.otp r)
    refine hk.trans ⟨by simp, fun a k => ?_, fun k => by simpa using k⟩
    simpa using k.filter _

@[simp] theorem rtcAlarmDue_keeps : Keeps s (rtcAlarmDue s) := by simp +contextual [rtcAlarmDue]

@[simp] theorem calEnds_keeps (a : Action) (status : Nat) (slot : Byte) (q : Word) (more : List Byte) :
    Keeps s (calEnds s a status slot q more) := by simp +contextual [calEnds]

@[simp] theorem calDisagrees_keeps (a : Action) (q : Word) : Keeps s (calDisagrees s a q) :=
    by simp +contextual [calDisagrees]

@[simp] theorem countHeadFires_spares (d : Nat) (m : HeadMeas) : Spares s (countHeadFires s d m) := by simp [countHeadFires]

/-- What the check-value unit and the pages of a write leave. -/
theorem writePages_noteWrite_spares {x : Option Nat} {t : State} {c : CvuState} {b : List Byte} {ps : List Nat}
    (h : writePages (noteWrite s c b) ps = (x, t)) : Spares s t := by
  obtain rfl : (writePages (noteWrite s c b) ps).2 = t := by rw [h]
  simp

@[simp] theorem applyHead_keeps (a : Action) (d : Nat) (e : HeadEntry) : Keeps s (applyHead s a d e) := by
  simp only [applyHead]
  split
  · next h => exact (writePages_noteWrite_spares h).keeps.trans (calEnds_keeps _ _ _ _ _)
  · next h => exact (writePages_noteWrite_spares h).keeps.trans (Keeps.trans (by simp) (calEnds_keeps _ _ _ _ _))

theorem find?_isNone {α : Type} {l : List (Nat × α)} {j : Nat} : (find? l j).isNone = true ↔ j ∉ l.map (·.1) := by
  rw [find?, Option.isNone_map, Option.isNone_iff_eq_none, List.find?_eq_none]
  simp only [beq_iff_eq, List.mem_map, not_exists, not_and]

theorem mem_keys_assocSet {α : Type} {l : List (Nat × α)} {k j : Nat} {v : α} (h : j ∈ l.map (·.1)) :
    j ∈ (assocSet l k v).map (·.1) := by
  induction l with
  | nil => cases h
  | cons p l ih =>
    rw [List.map_cons, List.mem_cons] at h
    simp only [assocSet]
    split
    · simpa using .inr (by simpa using h)
    · split
      · next hk => rcases h with rfl | h <;> simp_all
      · rcases h with rfl | h
        · simp
        · exact List.mem_cons_of_mem _ (ih h)

theorem find?_assocSet_isNone {α : Type} {l : List (Nat × α)} {k j : Nat} {v : α} (h : (find? (assocSet l k v) j).isNone) :
    (find? l j).isNone := find?_isNone.mpr fun hj => find?_isNone.mp h (mem_keys_assocSet hj)

/-- A shadow that is set is one more only where its word has none. -/
theorem length_assocSet {l : List (Nat × BitVec 64)} (hl : l.Pairwise (fun p q => p.1 < q.1)) (k : Nat) (v : BitVec 64) :
    (assocSet l k v).length = l.length + if (find? l k).isNone then 1 else 0 := by
  induction l with
  | nil => rfl
  | cons p l ih =>
    obtain ⟨k', v'⟩ := p
    obtain ⟨hp, ht⟩ := List.pairwise_cons.mp hl
    simp only [assocSet]
    split
    · next hk =>
      have hn : find? ((k', v') :: l) k = none := by
        have : ∀ q ∈ (k', v') :: l, q.1 ≠ k := fun q hq => by
          rcases List.mem_cons.mp hq with rfl | hq
          · exact Nat.ne_of_gt hk
          · exact Nat.ne_of_gt (Nat.lt_trans hk (hp q hq))
        simpa [find?, List.find?_eq_none] using this
      simp [hn]
    · split
      · next hk => simp [find?, hk]
      · next hk =>
        have hf : find? ((k', v') :: l) k = find? l k := by simp [find?, Ne.symm hk]
        rw [List.length_cons, ih ht, hf, List.length_cons]
        omega

theorem pairwise_assocSet {l : List (Nat × BitVec 64)} (hl : l.Pairwise (fun p q => p.1 < q.1)) (k : Nat) (v : BitVec 64) :
    (assocSet l k v).Pairwise (fun p q => p.1 < q.1) ∧ ∀ q ∈ assocSet l k v, q ∈ l ∨ q = (k, v) := by
  induction l with
  | nil => simp [assocSet]
  | cons p l ih =>
    obtain ⟨hp, ht⟩ := List.pairwise_cons.mp hl
    obtain ⟨ihp, ihm⟩ := ih ht
    simp only [assocSet]
    split
    · next hk =>
      refine ⟨List.pairwise_cons.mpr ⟨fun q hq => ?_, hl⟩, fun q hq => (List.mem_cons.mp hq).symm⟩
      rcases List.mem_cons.mp hq with rfl | hq
      · exact hk
      · exact Nat.lt_trans hk (hp q hq)
    · split
      · next hk =>
        refine ⟨List.pairwise_cons.mpr ⟨fun q hq => hk ▸ hp q hq, ht⟩, fun q hq => ?_⟩
        rcases List.mem_cons.mp hq with rfl | hq
        · exact .inr rfl
        · exact .inl (List.mem_cons_of_mem _ hq)
      · next h1 h2 =>
        refine ⟨List.pairwise_cons.mpr ⟨fun q hq => ?_, ihp⟩, fun q hq => ?_⟩
        · rcases ihm q hq with hq | rfl
          · exact hp q hq
          · show p.1 < k
            omega
        · rcases List.mem_cons.mp hq with rfl | hq
          · simp
          · rcases ihm q hq with hq | rfl <;> simp_all

/-- A shadow where there is room for it keeps the shape. -/
theorem shadowShape_assocSet {l : List (Nat × BitVec 64)} (h : ShadowShape l) (k : Nat) (v : BitVec 64)
    (hr : (find? l k).isNone → l.length < 16) : ShadowShape (assocSet l k v) := by
  refine ⟨?_, (pairwise_assocSet h.2 k v).1⟩
  rw [length_assocSet h.2]
  split
  · next hn => exact hr hn
  · exact h.1

/-- The words that shadows are set for and that carry none yet. -/
def newShadows (l : List (Nat × BitVec 64)) (ws : List Nat) : Nat := (ws.filter (fun i => (find? l i).isNone)).length

theorem newShadows_assocSet_le (l : List (Nat × BitVec 64)) (k : Nat) (v : BitVec 64) (ws : List Nat) :
    newShadows (assocSet l k v) ws ≤ newShadows l ws := by
  simp only [newShadows, ← List.countP_eq_length_filter]
  exact List.countP_mono_left fun _ _ h => find?_assocSet_isNone h

theorem shadowShape_foldl_assocSet {l : List (Nat × BitVec 64)} (h : ShadowShape l) (ps : List (Nat × BitVec 64))
    (hr : l.length + newShadows l (ps.map (·.1)) ≤ 16) : ShadowShape (ps.foldl (fun l p => assocSet l p.1 p.2) l) := by
  induction ps generalizing l with
  | nil => exact h
  | cons p ps ih =>
    have hlen := length_assocSet h.2 p.1 p.2
    have hle := newShadows_assocSet_le l p.1 p.2 (ps.map (·.1))
    have hc : newShadows l ((p :: ps).map (·.1)) = (if (find? l p.1).isNone then 1 else 0) + newShadows l (ps.map (·.1)) := by
      simp only [newShadows, List.map_cons, List.filter_cons]
      split <;> simp [Nat.add_comm]
    rw [List.foldl_cons]
    refine ih (shadowShape_assocSet h p.1 p.2 fun hn => ?_) ?_
    · simp only [hn, if_true] at hc
      omega
    · omega

/-- The words that a slot's data are programmed into are the slot's, in order. -/
theorem slotWords_keys_sublist (ws : List Nat) (data : List Nat) : ((slotWords ws data).map (·.1)).Sublist ws := by
  induction ws generalizing data with
  | nil => simp [slotWords]
  | cons w ws ih =>
    cases data with
    | nil => simp [slotWords]
    | cons d data => simpa [slotWords] using ih data

theorem shadowSlot_room {t : Nat} {ws : List Nat} (h : shadowSlot s t = some ws) :
    s.otp.shadows.length + newShadows s.otp.shadows ws ≤ 16 := by
  simp only [shadowSlot] at h
  (repeat' split at h) <;> simp_all [newShadows]

theorem setShadows_keeps {ps : List (Nat × BitVec 64)}
    (hr : s.otp.shadows.length + newShadows s.otp.shadows (ps.map (·.1)) ≤ 16) :
    Keeps s { s with otp := { s.otp with shadows := ps.foldl (fun l p => assocSet l p.1 p.2) s.otp.shadows } } :=
  ⟨rfl, fun _ ⟨hl, hv, hs⟩ => ⟨hl, hv, fun hb => shadowShape_foldl_assocSet (hs hb) ps hr⟩, id⟩

@[simp] theorem applyResult_keeps (a : Action) (t : Nat) (sel : List Nat) (q : Word) (tCal : Int) :
    Keeps s (applyResult s a t sel q tCal) := by
  simp only [applyResult]
  split
  · simp
  · split
    · exact calEnds_keeps _ _ _ _ _
    · next ws hw =>
      have hk (data : List Nat) : newShadows s.otp.shadows ((slotWords ws data).map (·.1)) ≤ newShadows s.otp.shadows ws :=
        ((slotWords_keys_sublist ws data).filter _).length_le
      have hr := (Nat.add_le_add_left (hk (slotData t sel tCal q.toNat (fieldAt a.payload 4 4) s.log.bootCount.toNat)) s.otp.shadows.length)
      exact (setShadows_keeps (Nat.le_trans hr (shadowSlot_room hw))).trans
        (Keeps.trans (by simp) (calEnds_keeps a _ _ _ _))

theorem endHeadEnergy_keeps {t : State} {a : Action} {d : Nat} {m : CalMeas} (h : endHeadEnergy s a d m = some t) :
    Keeps s t := by
  have hg (g : GateSeen) : Keeps s (gateSetup s g) := by simp
  have hr {t : State} (ht : Keeps s t) : Keeps s { t with motion := { t.motion with sledPath := [] } } := ht.trans (by simp)
  have hf (d : Nat) (x : HeadMeas) : Keeps s (countHeadFires (gateSetup s x.gate) d x) := (hg x.gate).trans (by simp)
  have hh (d : Nat) (x : HeadMeas) : Keeps s (headResult (countHeadFires (gateSetup s x.gate) d x) d x).2.2 :=
    (hf d x).trans (by simp [headResult])
  simp only [endHeadEnergy] at h
  split at h
  · cases h; exact hr ((hg _).trans (calEnds_keeps _ _ _ _ _))
  · split at h
    · cases h; exact hr ((hf d m.head).trans (Keeps.trans (t := cutRunFires _ d m.head) (by simp) (calEnds_keeps _ _ _ _ _)))
    · split at h
      · cases h
      · cases h
        refine hr ((hh d m.head).trans ?_)
        (repeat' split)
        · exact applyHead_keeps _ _ _
        · exact calDisagrees_keeps _ _
        · exact calDisagrees_keeps _ _

@[simp] theorem endCalRuns_keeps (a : Action) (t : Nat) (m : CalMeas) : Keeps s (endCalRuns s a t m) := by
  have hq (u : Nat) (p : List Rat) : Keeps s (calQuality s t u p).2 := by simp
  have hs (u : Nat) (p l : List Rat) : Keeps s (selFrom (calQuality s t u p).2 t u l).2 := by simp
  simp only [endCalRuns]
  have hd {u : State} (hu : Keeps s u) (q : Word) : Keeps s (calDisagrees u a q) := hu.trans (calDisagrees_keeps a q)
  split
  · exact hd (hq _ _) _
  · split
    · exact (hq _ _).trans (calEnds_keeps a _ _ _ _)
    · split
      · split
        · exact (hs _ _ _).trans (applyResult_keeps a _ _ _ _)
        · exact hd (hs _ _ _) _
      · exact hd (hs _ _ _) _

@[simp] theorem takeRaster_spares (id : Nat) (bytes : List Byte) : Spares s (takeRaster s id bytes).1 := by
  simp only [takeRaster]
  (repeat' split) <;> simp

theorem rawStep_spares {t : State} {w v : RawIn} (h : rawStep s w = some (t, v)) : Spares s t := by
  simp only [rawStep] at h
  (repeat' split at h) <;> cases h <;> simp

@[simp] theorem pump_spares (l : Link) (n : Nat) : Spares s (pump l n s) := by
  induction n generalizing s with
  | zero => simp [pump]
  | succ n ih =>
    simp only [pump]
    (repeat' split)
    · simp
    · next h => simpa [ih] using rawStep_spares h
    · simp

@[simp] theorem cancelStreamed_spares (id : Nat) : Spares s (cancelStreamed s id) := by
  have hs : Spares s ((linksOf s id).foldl (fun s l => skipRest s id l) s) := foldl_spares (fun _ _ => by simp) _ _
  exact hs.trans (Spares.trans (t := cancelNow _ id) (by simp) (foldl_spares (fun _ _ => by simp) _ _))

@[simp] theorem pumpHead_spares (l : Link) (n : Nat) : Spares s (pumpHead l n s) := by
  induction n generalizing s with
  | zero => simp [pumpHead]
  | succ n ih =>
    simp only [pumpHead]
    (repeat' split)
    · simp
    · simp
    · next h => simpa [ih] using rawStep_spares h
    · simp

@[simp] theorem endRasterMsg_keeps (r : Req) (id : Nat) :
    Keeps s (endRasterMsg s r id).2 := by simp +contextual [endRasterMsg]

theorem feedRaster_spares {t : State} {id : Nat} {bs : List Byte} (h : feedRaster s id bs = .fed t) : Spares s t := by
  have hr := takeRaster_spares (s := s) id bs
  simp only [feedRaster] at h
  split at h
  · next he => cases h; rw [he] at hr; exact hr
  · cases h

theorem firstRaster_keeps (r : Req) : Keeps s (firstRaster r s).2 := by
  simp only [firstRaster]
  refine judge_keeps _ _ _ ?_
  (repeat' split)
  · exact Keeps.rfl
  · simp
  · exact Keeps.rfl
  · next h _ => exact Keeps.trans (by simp) ((feedRaster_spares h).keeps.trans (by simp))
  · next h _ => exact Keeps.trans (by simp) ((feedRaster_spares h).keeps.trans (endRasterMsg_keeps _ _))

theorem nextRaster_keeps (r : Req) (m : OpenMsg) : Keeps s (nextRaster r m s).2 := by
  simp only [nextRaster]
  (repeat' split)
  · exact Keeps.rfl
  · simp
  · exact Keeps.rfl
  · next h _ => exact (feedRaster_spares h).keeps.trans (by simp)
  · next h _ => exact (feedRaster_spares h).keeps.trans (endRasterMsg_keeps _ _)

theorem onJob_keeps (r : Req) (op : Nat) (go : Named → State → Reply × State) (hg : ∀ n, Keeps s (go n s).2) :
    Keeps s (onJob r op s go).2 := by
  simp only [onJob]
  (repeat' split)
  · exact Keeps.rfl
  · exact hg _
  · exact Keeps.rfl

@[simp] theorem cancelJob_spares (j : Job) : Spares s (cancelJob s j) := by
  simp only [cancelJob]
  (repeat' split) <;> simp

@[simp] theorem releaseJob_keeps (j : Job) : Keeps s (releaseJob s j) := by simp +contextual [releaseJob]

@[simp] theorem skipOut_keeps : Keeps s (skipOut s) := by
  simp only [skipOut]
  (repeat' split) <;> simp +contextual

@[simp] theorem writeCtrl_keeps (v : Byte) : Keeps s (writeCtrl s v) := by simp +contextual [writeCtrl]

@[simp] theorem writeWindow_keeps (off : Nat) (v : Byte) : Keeps s (writeWindow s off v) := by simp +contextual [writeWindow]

@[simp] theorem writeBytes_keeps (off : Nat) (vs : List Byte) : Keeps s (writeBytes s off vs) := by
  induction vs generalizing s off with
  | nil => exact Keeps.rfl
  | cons v vs ih => exact (writeWindow_keeps _ _).trans (ih _)

@[simp] theorem pecWrite_keeps (ptr : Byte) (full : List Byte) : Keeps s (pecWrite s ptr full) :=
    by simp +contextual [pecWrite]

@[simp] theorem i2cWrite_keeps (ptr : Byte) (full : List Byte) : Keeps s (i2cWrite s ptr full) :=
    by simp +contextual [i2cWrite]

@[simp] theorem takeOut_keeps : Keeps s (takeOut s).2 := by
  simp only [takeOut]
  (repeat' split) <;> simp +contextual

@[simp] theorem takeOuts_keeps (n : Nat) : Keeps s (takeOuts n s).2 := by
  induction n generalizing s with
  | zero => exact Keeps.rfl
  | succ n ih => exact takeOut_keeps.trans ih

@[simp] theorem reedRead_keeps (ptr : Byte) (n : Byte) (data : List Byte) (count : Nat) :
    Keeps s (reedRead s ptr n data count) := by simp +contextual [reedRead]

@[simp] theorem lldpGone_spares : Spares s (lldpGone s) := by simp [lldpGone]

@[simp] theorem addBackoff_spares (source : IpAddr) : Spares s (addBackoff s source).1 := by simp [addBackoff]

@[simp] theorem proveFailed_spares (r : Req) (k : Option Conn) : Spares s (proveFailed r k s).2 := by
  simp only [proveFailed]
  (repeat' split) <;> simp

@[simp] theorem ip4Route_spares : Spares s (ip4Route s).2.2 := by
  simp only [ip4Route]
  (repeat' split) <;> simp

@[simp] theorem addAction_spares (op : Half) (r : Req) : Spares s (addAction s op r) := by simp [addAction]

theorem whenProgrammable_keeps (go : State → Reply × State) (hg : Keeps s (go s).2) : Keeps s (whenProgrammable s go).2 := by
  simp only [whenProgrammable]
  (repeat' split)
  · simp
  · exact Keeps.rfl
  · exact hg

@[simp] theorem programCopy_keeps (i : Nat) (d : Nat) : Keeps s (programCopy s i d).2 := by
  simp only [programCopy]
  split
  · exact Keeps.rfl
  · next h =>
    have hk := programWord_keeps (otpCond_eq_blank (Decidable.not_not.mp h)) (stored i d)
    split <;> next hp => exact hk.of_snd hp

@[simp] theorem programEntry_keeps (k : Nat) (code : Byte) (slot : Byte) :
    Keeps s (programEntry s k code slot).2 := by simp +contextual [programEntry]

theorem sealForField_keeps : Keeps s (sealForField s).2 := by
  refine List.foldlRecOn _ _ (motive := fun p : Option Nat × State => Keeps s p.2) Keeps.rfl fun p hp r _ => ?_
  split
  · exact hp
  · next h =>
    have hs : sealed p.2.otp r = false := by simp_all
    have hk := hp.trans (sealRegion_keeps hs)
    split <;> next hq => exact hk.of_snd hq

@[simp] theorem advanceTo_keeps (k : Nat) (code : Byte) (slot : Byte) : Keeps s (advanceTo s k code slot).2 := by
  simp only [advanceTo]
  (repeat' split) <;> simp +contextual

@[simp] theorem freeRefusal_spares (region : Nat) : Spares s (freeRefusal region s).2 := by simp [freeRefusal]

@[simp] theorem toReturn_spares (r : Req) (a : Reply × State) : Spares a.2 (toReturn r a).2 := by
  simp only [toReturn]
  split
  · simp
  · refine List.foldlRecOn _ _ (motive := Spares a.2) (by simp) fun t ht c _ => ?_
    obtain ⟨hp, ho, hs⟩ := ht
    (repeat' split) <;> simp [hp, ho, hs]

@[simp] theorem enterReturn_keeps (r : Req) : Keeps s (enterReturn r s).2 := by simp +contextual [enterReturn]

@[simp] theorem enterField_keeps : Keeps s (enterField s).2 := by
  simp only [enterField]
  split
  · exact Keeps.rfl
  · split
    · next h => exact sealForField_keeps.of_snd h
    · next h => exact (sealForField_keeps.of_snd h).trans (advanceTo_keeps _ _ _)

@[simp] theorem putObject_spares (logo : Bool) (id : Nat) (crc : Nat) (b : List Byte) :
    Spares s (putObject s logo id crc b).2 := by
  have hd : Spares s (drawNonce s).2 := by simp
  simp only [putObject]
  split <;> next h => exact hd.trans ((writePages_noteWrite_spares h).trans (by simp))

@[simp] theorem endObject_spares (r : Req) (head : List Byte) (b : List Byte) : Spares s (endObject r s head b).2 := by
  simp only [endObject]
  (repeat' split) <;> simp

theorem firstObject_keeps (r : Req) : Keeps s (firstObject r s).2 := by
  simp only [firstObject]
  refine judge_keeps _ _ _ ?_
  (repeat' split) <;> simp

@[simp] theorem endPatch_spares (r : Req) (head b : List Byte) : Spares s (endPatch r s head b).2 := by
  have he : Spares s (explicit (endMsg s r 0x0A09) .crc32c b) := by simp
  unfold endPatch
  extract_lets s1
  split
  · exact he
  · split
    · exact he
    · split
      · next h => exact he.trans (writePages_noteWrite_spares h)
      · next h => exact he.trans ((writePages_noteWrite_spares h).trans (by simp))

theorem firstPatch_keeps (r : Req) : Keeps s (firstPatch r s).2 := by
  simp only [firstPatch]
  refine judge_keeps _ _ _ ?_
  split <;> simp

@[simp] theorem afterAnswer_keeps (op : Nat) : Keeps s (afterAnswer op s) := by simp +contextual [afterAnswer]

@[simp] theorem dueMove_keeps : Keeps s (dueMove s) := by simp +contextual [dueMove]

@[simp] theorem runStage_spares (code : Nat) (a0 : Nat) (a1 : Nat) (m : StageMem) (v : Int) :
    Spares s (runStage s code a0 a1 m v).2.2 := by
  simp only [runStage]
  (repeat' split) <;> simp

@[simp] theorem runStages_spares (st : List (Nat × Nat × Nat)) (ms : List StageMem) (v : Int) :
    Spares s (runStages st ms s v).2.2 := by
  induction st generalizing ms s v with
  | nil => simp [runStages]
  | cons c st ih =>
    have hr := runStage_spares (s := s) c.1 c.2.1 c.2.2 (ms.headD ⟨[], 0⟩) v
    simp only [runStages]
    split
    · next h => rw [h] at hr; exact hr
    · next h => rw [h] at hr; simpa [ih] using hr

@[simp] theorem detDischarge_keeps (acts : Byte) : Keeps s (detDischarge s acts) := by simp +contextual [detDischarge]

@[simp] theorem edgeWork_keeps (d : Nat) (set : Bool) (v : Int) (t : Time) (deferred : Bool) :
    Keeps s (edgeWork s d set v t deferred) := by
  unfold edgeWork
  extract_lets e acts aux flags own s1 rec0 s2 rs s3 s4 s5 s6
  have h1 : Keeps s s1 := ite_keeps (by simp) Keeps.rfl
  have h2 : Keeps s s2 := h1.trans (ite_keeps Keeps.rfl (by simp))
  have h3 : Keeps s s3 := h2.trans (ite_keeps Keeps.rfl (by simp))
  have h4 : Keeps s s4 := h3.trans (ite_keeps (wakeSource_keeps _) Keeps.rfl)
  have h5 : Keeps s s5 := h4.trans (ite_keeps (by simp) Keeps.rfl)
  have h6 : Keeps s s6 := h5.trans (ite_keeps Keeps.rfl (ite_keeps (by simp) (by simp)))
  exact ite_keeps h2 (h6.trans (by simp))

@[simp] theorem markEdge_keeps (d : Nat) (set : Bool) : Keeps s (markEdge s d set) :=
    by simp -implicitDefEqProofs +contextual [markEdge]

@[simp] theorem coincidenceStep_spares (c d : Nat) (set : Bool) : Spares s (coincidenceStep s c d set).1 := by
  delta coincidenceStep -- its match on three values at once has no equation lemma for `simp only` to use
  cases set with
  | false =>
    simp only [Bool.not_false, if_true]
    (repeat' split) <;> simp
  | true =>
    simp only [Bool.not_true, Bool.false_eq_true, if_false]
    (repeat' split) <;> simp

@[simp] theorem spread_keeps (k d : Nat) (set : Bool) (t : Time) (deferred : Bool) :
    Keeps s (spread k s d set t deferred) := by
  induction k generalizing s d set t deferred with
  | zero => exact Keeps.rfl
  | succ k ih =>
    refine foldl_keeps (fun s c => ?_) _ _
    have hc := (coincidenceStep_spares (s := s) c d set).keeps
    split
    · next h => exact (hc.of_fst h).trans ((markEdge_keeps _ _).trans ((edgeWork_keeps _ _ _ _ _).trans (ih _ _ _ _)))
    · next h => exact hc.of_fst h

@[simp] theorem detEdge_keeps (d : Nat) (set : Bool) (v : Int) (t : Time) (deferred : Bool) :
    Keeps s (detEdge s d set v t deferred) :=
  (markEdge_keeps _ _).trans ((edgeWork_keeps _ _ _ _ _).trans (spread_keeps _ _ _ _ _))

@[simp] theorem evalDet_keeps (v : Int) (t : Time) (deferred : Bool) (d : Nat) : Keeps s (evalDet s v t deferred d) :=
    by simp +contextual [evalDet]

@[simp] theorem slotOutput_keeps (n : Nat) (v : Int) (aux flags : Nat) (t : Time) :
    Keeps s (slotOutput s n v aux flags t) := by
  simp only [slotOutput]
  split
  · simp
  · refine Keeps.trans ?_ (foldl_keeps (fun _ _ => evalDet_keeps _ _ _ _) _ _)
    split <;> simp

@[simp] theorem completeBus_keeps (b : BusDone) : Keeps s (completeBus s b) := by
  simp only [completeBus]
  (repeat' split) <;> simp +contextual

@[simp] theorem runAnalog_keeps (n : Nat) (late : Bool) (conv : Nat) (borrowed : Bool) (codes : List (BitVec 12))
    (lit : List (BitVec 12)) : Keeps s (runAnalog s n late conv borrowed codes lit) := by simp +contextual [runAnalog]

@[simp] theorem runWk_keeps (d : Nat) (late : Bool) : Keeps s (runWk s d late) := by
  simp only [runWk]
  (repeat' split) <;> simp -implicitDefEqProofs +contextual

@[simp] theorem runPiece_keeps (codes lit : List (BitVec 12)) (x : State × Budget) (p : Piece) :
    Keeps x.1 (runPiece codes lit x p).1 := by
  cases p with
  | slot n late => simp only [runPiece]; (repeat' split) <;> simp -implicitDefEqProofs +contextual
  | sys d late => simp only [runPiece]; (repeat' split) <;> simp -implicitDefEqProofs +contextual
  | wk d late => simp only [runPiece]; (repeat' split) <;> simp +contextual
  | done t => simp only [runPiece]; (repeat' split) <;> simp +contextual

@[simp] theorem seqDone_keeps : Keeps s (seqDone s) := powerDue_keeps.trans (updateCharger_keeps.trans afterTicket_keeps)

@[simp] theorem seqOn_keeps : Keeps s (seqOn s) := by simp +contextual [seqOn]

@[simp] theorem vinfailRecord_keeps : Keeps s (vinfailRecord s) := by simp +contextual [vinfailRecord]

@[simp] theorem newWindow_spares : Spares s (newWindow s) := by simp [newWindow]

@[simp] theorem ceilingRelease_keeps : Keeps s (ceilingRelease s) := by simp +contextual [ceilingRelease]

@[simp] theorem ceilingCheck_keeps (code : Nat) : Keeps s (ceilingCheck s code) := by
  simp only [ceilingCheck]
  (repeat' split) <;> simp +contextual

@[simp] theorem addEnergy_spares : Spares s (addEnergy s) := by simp [addEnergy]

theorem systemSlots_keeps (codes : List (BitVec 12)) : Keeps s (systemSlots codes s) := by
  refine foldl_keeps (fun s n => ?_) _ _
  (repeat' split)
  · simp
  · exact Keeps.trans (by simp) (ceilingCheck_keeps _)
  · simp
  · simp

@[simp] theorem wffConvert_keeps (codes : List (BitVec 12)) : Keeps s (wffConvert codes s) := by
  simp only [wffConvert]
  (repeat' split) <;> simp +contextual

@[simp] theorem decideWk_keeps (d : Nat) : Keeps s (decideWk s d) := by simp +contextual [decideWk]

theorem userWork_keeps (codes lit : List (BitVec 12)) (wff : Bool) : Keeps s (userWork codes lit wff s) := by
  unfold userWork
  extract_lets s1 done s2
  have h1 : Keeps s s1 := foldl_keeps (fun _ _ => by simp) _ _
  have h2 : Keeps s s2 := h1.trans (by simp [s2])
  exact ite_keeps Keeps.rfl (List.foldlRecOn _ _ (motive := fun x : State × Budget => Keeps s x.1) h2
    fun x hx p _ => hx.trans (runPiece_keeps codes lit x p))

theorem runTick_keeps (codes lit : List (BitVec 12)) (held : Bool) : Keeps s (runTick codes lit held s) := by
  unfold runTick
  extract_lets s1 s2 s3 s4 s5
  have h1 : Keeps s s1 := by simp [s1]
  have h2 : Keeps s s2 := h1.trans (ite_keeps (foldl_keeps (fun _ _ => decideWk_keeps _) _ _) Keeps.rfl)
  have hr : Keeps s2 (restartRecord s2) := by simp
  have hw : Keeps s3 (wffConvert codes s3) := wffConvert_keeps codes
  have h3 : Keeps s s3 := (h2.trans hr).trans (systemSlots_keeps codes)
  have h4 : Keeps s s4 := (h3.trans hw).trans (userWork_keeps codes lit _)
  have h5 : Keeps s s5 := h4.trans (ite_keeps (by simp) Keeps.rfl)
  exact h5.trans (ite_keeps writeDeferred_keeps Keeps.rfl)

@[simp] theorem fireLine_spares (w : LateLine) (late : Bool) : Spares s (fireLine s w late) := by
  simp only [fireLine]
  (repeat' split) <;> simp

@[simp] theorem settleWaiting_spares : Spares s (settleWaiting s) := by
  simp only [settleWaiting]
  (repeat' split) <;> simp

@[simp] theorem settleLine_spares (t : Rat) : Spares s (settleLine s t) := by
  simp only [settleLine]
  (repeat' split) <;> simp

@[simp] theorem yank_keeps (reason : Nat) : Keeps s (yank s reason) := by simp +contextual [yank]

@[simp] theorem ticketOver_spares : Spares s (ticketOver s) := by simp [ticketOver]

@[simp] theorem bladeFails_spares (cause : Nat) : Spares s (bladeFails s cause) := by
  simp only [bladeFails]
  (repeat' split) <;> simp

@[simp] theorem faultFeed_spares : Spares s (faultFeed s) := by
  simp only [faultFeed]
  (repeat' split) <;> simp

@[simp] theorem positionFault_keeps : Keeps s (positionFault s) := by simp +contextual [positionFault]

@[simp] theorem faultUser_spares (m : Nat) : Spares s (faultUser s m) := by
  simp only [faultUser]
  (repeat' split) <;> simp

@[simp] theorem motorFails_spares (m : Nat) : Spares s (motorFails s m) := by simp [motorFails]

@[simp] theorem findFaults_keeps : Keeps s (findFaults s) := foldl_keeps (fun _ _ => (motorFails_spares _).keeps) _ _

@[simp] theorem legalEdge_keeps (n : Nat) (e : Enc) (forward : Bool) (t : Rat) : Keeps s (legalEdge s n e forward t) := by
  simp only [legalEdge]
  (repeat' split) <;> simp -implicitDefEqProofs +contextual

@[simp] theorem beginBand_spares (t : Ticket) (j : Job) (b : Nat) : Spares s (beginBand s t j b) := by simp [beginBand]

@[simp] theorem freeBands_spares (t : Ticket) (id : Nat) (n : Nat) : Spares s (freeBands s t id n) := by simp [freeBands]

@[simp] theorem stopRule_spares (t : Ticket) (j : Job) (n : Nat) : Spares s (stopRule s t j n) := by
  simp only [stopRule]
  (repeat' split) <;> simp

@[simp] theorem startLine_spares (t : Ticket) (n : Nat) (start : Nat) : Spares s (startLine s t n start) :=
    by simp [startLine]

@[simp] theorem boundaryLine_spares (t : Ticket) (j : Job) (n : Nat) (start : Nat) (late : Bool) :
    Spares s (boundaryLine s t j n start late) := by simp [boundaryLine]

@[simp] theorem endPass_spares (t : Ticket) (j : Job) : Spares s (endPass s t j) := by simp [endPass]

@[simp] theorem endTicketJob_keeps (j : Job) : Keeps s (endTicketJob s j) := by simp +contextual [endTicketJob]

@[simp] theorem endCut_keeps : Keeps s (endCut s) := by
  simp only [endCut]
  (repeat' split) <;> simp +contextual

@[simp] theorem endCutHoming_keeps : Keeps s (endCutHoming s) := by simp +contextual [endCutHoming]

@[simp] theorem endSledHoming_keeps : Keeps s (endSledHoming s) := by simp +contextual [endSledHoming]

@[simp] theorem readAlarms_keeps : Keeps s (readAlarms s) := by
  simp only [readAlarms]
  refine Keeps.trans (Keeps.trans (foldl_keeps (fun s w => ?_) _ _) (foldl_keeps (fun s r => ?_) _ _)) (deriveTrip_spares).keeps
  · simp
  · split <;> simp

@[simp] theorem loadSelections_spares : Spares s (loadSelections s) := by simp [loadSelections]

@[simp] theorem loadHub_keeps : Keeps s (loadHub s) := by
  unfold loadHub
  extract_lets s1
  have h1 : Keeps s s1 := foldl_keeps (fun _ _ => by simp) _ _
  exact ite_keeps Keeps.rfl (h1.trans (by simp))

@[simp] theorem sendHeld_spares : Spares s (sendHeld s) := by simp

@[simp] theorem openWindow_spares : Spares s (openWindow s) := by simp [openWindow]

@[simp] theorem beginRender_keeps (j : Job) : Keeps s (beginRender s j) := by
  simp only [beginRender]
  (repeat' split) <;> simp +contextual

theorem takeBlocks_keeps {t : State} {j : Job} (h : takeBlocks s j = some t) : Keeps s t := by
  simp only [takeBlocks] at h
  split at h
  · obtain ⟨l, -, hl⟩ := List.exists_of_findSome?_eq_some h
    split at hl
    · split at hl
      · obtain ⟨⟨u, v⟩, hu, rfl⟩ := Option.map_eq_some_iff.mp hl
        exact (rawStep_spares hu).keeps.trans (by simp)
      · cases hl
    · cases hl
  · (repeat' split at h) <;> cases h
    simp

@[simp] theorem giveBlocks_keeps (n : Nat) : Keeps s (giveBlocks n s) := by
  induction n generalizing s with
  | zero => exact Keeps.rfl
  | succ n ih =>
    simp only [giveBlocks]
    split
    · next h =>
      obtain ⟨j, -, hj⟩ := List.exists_of_findSome?_eq_some h
      split at hj
      · exact (takeBlocks_keeps hj).trans ih
      · cases hj
    · exact Keeps.rfl

@[simp] theorem homesNow_keeps : Keeps s (homesNow s) := by
  unfold homesNow
  extract_lets s1
  have h1 : Keeps s s1 := ite_keeps (endCut_keeps.trans endCutHoming_keeps) Keeps.rfl
  exact h1.trans (ite_keeps endSledHoming_keeps Keeps.rfl)

@[simp] theorem endScan_spares (v : ScanRun) (ts : List NozTest) (rest : List Nat) (fail : Option (Nat × Nat)) :
    Spares s (endScan s v ts rest fail) := by
  simp only [endScan]
  (repeat' split) <;> simp

@[simp] theorem endService_spares (v : SvcRun) (lines : Nat) (fail : Option (Nat × Nat)) :
    Spares s (endService s v lines fail) := by
  simp only [endService]
  (repeat' split) <;> simp

end Sys2Proof.Machine
end

section
/-! SUPPORT for O3, O4 and O6 to O8. What each opcode's handler keeps, each command, and so all of them. -/

namespace Sys2Proof.Machine

variable {s : State}

/-- The step goes on, and what it leaves is what every step leaves. -/
def StepKeeps (s : State) (o : Out) : Prop := ∃ t, o = .next t ∧ Keeps s t

@[simp] theorem stepKeeps_next {t : State} : StepKeeps s (.next t) ↔ Keeps s t :=
  ⟨fun ⟨_, h, hk⟩ => Host.Outcome.next.inj h ▸ hk, fun h => ⟨t, rfl, h⟩⟩

theorem serve_stepKeeps {h : Handler} (hh : ∀ {s : State} (r : Req), Keeps s (h r s).2) (op : Nat) (r : Req) :
    StepKeeps s (.next (serve op h r s)) := stepKeeps_next.mpr (serve_keeps (fun r _ => hh r) op r s)

theorem hCalStart_keeps (r : Req) : Keeps s (hCalStart r s).2 := by
  simp only [hCalStart]
  refine judgeLocked_keeps _ _ _ _ _ _ fun _ _ => ?_
  (repeat' split) <;> simp +contextual

theorem hCalStatus_keeps (r : Req) : Keeps s (hCalStatus r s).2 := by
  simp only [hCalStatus]
  exact judge_keeps _ _ _ (by simp)

theorem hCalAbort_keeps (r : Req) : Keeps s (hCalAbort r s).2 := by
  simp only [hCalAbort]
  refine judge_keeps _ _ _ ?_
  (repeat' split) <;> simp +contextual

theorem hHubValues_keeps (r : Req) : Keeps s (hHubValues r s).2 := by
  simp only [hHubValues]
  exact judge_keeps _ _ _ (by simp)

theorem hHubRecords_keeps (r : Req) : Keeps s (hHubRecords r s).2 := by
  simp only [hHubRecords]
  exact judge_keeps _ _ _ (by simp)

theorem hHubSlotSet_keeps (r : Req) : Keeps s (hHubSlotSet r s).2 := by
  simp only [hHubSlotSet]
  refine judge_keeps _ _ _ ?_
  (repeat' split) <;> simp +contextual

theorem hHubDescSet_keeps (r : Req) : Keeps s (hHubDescSet r s).2 := by
  simp only [hHubDescSet]
  refine judge_keeps _ _ _ ?_
  (repeat' split) <;> simp +contextual

theorem hHubDetectorSet_keeps (r : Req) : Keeps s (hHubDetectorSet r s).2 := by
  simp only [hHubDetectorSet]
  refine judge_keeps _ _ _ ?_
  (repeat' split) <;> simp +contextual

theorem hHubConfigRead_keeps (r : Req) : Keeps s (hHubConfigRead r s).2 := by
  simp only [hHubConfigRead]
  exact judge_keeps _ _ _ (by simp)

theorem hHubSubscribe_keeps (r : Req) : Keeps s (hHubSubscribe r s).2 := by
  simp only [hHubSubscribe]
  exact judge_keeps _ _ _ (by simp)

theorem hHubStatus_keeps (r : Req) : Keeps s (hHubStatus r s).2 := by
  simp only [hHubStatus]
  exact judge_keeps _ _ _ (by simp)

theorem hHubStickyClear_keeps (r : Req) : Keeps s (hHubStickyClear r s).2 := by
  simp only [hHubStickyClear]
  exact judge_keeps _ _ _ (by simp)

theorem hHubRecordsAck_keeps (r : Req) : Keeps s (hHubRecordsAck r s).2 := by
  simp only [hHubRecordsAck]
  exact judge_keeps _ _ _ (by simp)

theorem hJobSubmit_keeps (r : Req) : Keeps s (hJobSubmit r s).2 := by
  simp only [hJobSubmit]
  exact judge_keeps _ _ _ (by simp)

theorem hJobSubmitRaster_keeps (r : Req) : Keeps s (hJobSubmitRaster r s).2 := by
  simp only [hJobSubmitRaster]
  split
  · exact nextRaster_keeps _ _
  · exact firstRaster_keeps _

theorem hJobStatus_keeps (r : Req) : Keeps s (hJobStatus r s).2 := by
  simp only [hJobStatus]
  refine judge_keeps _ _ _ (onJob_keeps _ _ _ fun n => ?_)
  (repeat' split) <;> simp +contextual

theorem hJobCancel_keeps (r : Req) : Keeps s (hJobCancel r s).2 := by
  simp only [hJobCancel]
  refine judge_keeps _ _ _ (onJob_keeps _ _ _ fun n => ?_)
  (repeat' split) <;> simp +contextual

theorem hJobHold_keeps (r : Req) : Keeps s (hJobHold r s).2 := by
  simp only [hJobHold]
  refine judge_keeps _ _ _ (onJob_keeps _ _ _ fun n => ?_)
  (repeat' split) <;> simp +contextual

theorem hJobRelease_keeps (r : Req) : Keeps s (hJobRelease r s).2 := by
  simp only [hJobRelease]
  refine judge_keeps _ _ _ (onJob_keeps _ _ _ fun n => ?_)
  (repeat' split) <;> simp +contextual

theorem hJobList_keeps (r : Req) : Keeps s (hJobList r s).2 := by
  simp only [hJobList]
  exact judge_keeps _ _ _ (by simp)

theorem hJobPriority_keeps (r : Req) : Keeps s (hJobPriority r s).2 := by
  simp only [hJobPriority]
  refine judge_keeps _ _ _ (onJob_keeps _ _ _ fun n => judge_keeps _ _ _ ?_)
  (repeat' split) <;> simp

theorem hLogInfo_keeps (r : Req) : Keeps s (hLogInfo r s).2 := by
  simp only [hLogInfo]
  exact judge_keeps _ _ _ (by simp)

theorem hLogRead_keeps (r : Req) : Keeps s (hLogRead r s).2 := by
  simp only [hLogRead]
  exact judge_keeps _ _ _ (by simp)

theorem hFaultRead_keeps (r : Req) : Keeps s (hFaultRead r s).2 := by
  simp only [hFaultRead]
  exact judge_keeps _ _ _ (by simp)

theorem hSnapshotRead_keeps (r : Req) : Keeps s (hSnapshotRead r s).2 := by
  simp only [hSnapshotRead]
  refine judge_keeps _ _ _ ?_
  (repeat' split) <;> simp +contextual

theorem hLogClear_keeps (r : Req) : Keeps s (hLogClear r s).2 := by
  simp only [hLogClear]
  exact judge_keeps _ _ _ (by simp)

theorem hSessionOpen_keeps (r : Req) : Keeps s (hSessionOpen r s).2 := by
  simp only [hSessionOpen]
  refine judge_keeps _ _ _ ?_
  (repeat' split) <;> simp +contextual

theorem hSessionProve_keeps (r : Req) : Keeps s (hSessionProve r s).2 := by
  simp only [hSessionProve]
  refine judge_keeps _ _ _ ?_
  (repeat' split) <;> simp +contextual

theorem hSessionClose_keeps (r : Req) : Keeps s (hSessionClose r s).2 := by
  simp only [hSessionClose]
  exact judge_keeps _ _ _ (by simp)

theorem hNetStatus_keeps (r : Req) : Keeps s (hNetStatus r s).2 := by
  simp only [hNetStatus]
  exact judge_keeps _ _ _ (by simp)

theorem hNetSessionEnd_keeps (r : Req) : Keeps s (hNetSessionEnd r s).2 := by
  simp only [hNetSessionEnd]
  exact judge_keeps _ _ _ (by simp)

theorem hNozScan_keeps (r : Req) : Keeps s (hNozScan r s).2 := by
  simp only [hNozScan]
  exact judge_keeps _ _ _ (by simp)

theorem hNozMapRead_keeps (r : Req) : Keeps s (hNozMapRead r s).2 := by
  simp only [hNozMapRead]
  exact judge_keeps _ _ _ (by simp)

theorem hNozMark_keeps (r : Req) : Keeps s (hNozMark r s).2 := by
  simp only [hNozMark]
  exact judge_keeps _ _ _ (by simp)

theorem hServiceRun_keeps (r : Req) : Keeps s (hServiceRun r s).2 := by
  simp only [hServiceRun]
  exact judge_keeps _ _ _ (by simp)

theorem hFireCountRead_keeps (r : Req) : Keeps s (hFireCountRead r s).2 := by
  simp only [hFireCountRead]
  exact judge_keeps _ _ _ (by simp)

theorem hFeed_keeps (r : Req) : Keeps s (hFeed r s).2 := by
  simp only [hFeed]
  exact judge_keeps _ _ _ (by simp)

theorem hMechStatus_keeps (r : Req) : Keeps s (hMechStatus r s).2 := by
  simp only [hMechStatus]
  exact judge_keeps _ _ _ (by simp)

theorem hOtpRead_keeps (r : Req) : Keeps s (hOtpRead r s).2 := by
  simp only [hOtpRead]
  exact judge_keeps _ _ _ (by simp)

theorem lockBars_of_forbidden {o : Otp} {lc op : Nat} {p : List Byte} (h : forbidden o lc op p = none) :
    lockForbids o op = false ∧ lockBars o op p = false := by
  simp only [forbidden] at h
  (repeat' split at h) <;> simp_all

theorem raw_blank_of_not_writeLocked {o : Otp} {i : Nat} (h : writeLocked o i = false) : (otpRaw o i).cond = .blank := by
  simp only [writeLocked, Bool.or_eq_false_iff, decide_eq_false_iff_not, Decidable.not_not] at h
  exact otpCond_eq_blank h.1.1

theorem progWords_keys (p : List Byte) : (progWords p).map (·.1) = namedWords p := by
  simp [progWords, namedWords, Nat.add_comm, Function.comp_def]

theorem namedWords_nodup (p : List Byte) : (namedWords p).Nodup :=
  List.pairwise_map.mpr (List.nodup_range.imp fun h e => h (Nat.add_right_cancel e))

/-- The words that OTP_PROGRAM names are BLANK once the locks and the fields let it pass (R172, R315). -/
theorem namedWords_blank {o : Otp} {lc : Nat} {p : List Byte} (hf : forbidden o lc 0x0902 p = none)
    (hm : (progWords p).all (fun w => mayProgram w.1) = true) (hn : 1 ≤ fieldAt p 1 1 ∧ fieldAt p 1 1 ≤ 8) :
    ∀ i ∈ namedWords p, (otpRaw o i).cond = .blank := by
  have hall : (namedWords p).all mayProgram = true := by
    rw [← progWords_keys, List.all_map]; exact hm
  have hb : (namedWords p).any (writeLocked o) = false := by
    simpa [lockBars, hall, hn] using (lockBars_of_forbidden hf).2
  exact fun i hi => raw_blank_of_not_writeLocked (by simpa using List.any_eq_false.mp hb i hi)

theorem noteOtpRd_otp (s : State) (op : Nat) : (noteOtpRd s op).otp = s.otp := by simp

theorem hOtpProgram_keeps (r : Req) : Keeps s (hOtpProgram r s).2 := by
  unfold hOtpProgram
  extract_lets p n ws data boots
  refine judgeLocked_keeps _ _ _ _ _ _ fun hf hc => whenProgrammable_keeps _ ?_
  have hkeys : data.map (·.1) = namedWords p := by
    rw [← progWords_keys]; simp [data, ws, Function.comp_def]
  have hblank := namedWords_blank hf (hc (0, ws.all fun w => mayProgram w.1) (List.mem_append_left _ List.mem_cons_self))
    (of_decide_eq_true (hc (1, decide (1 ≤ n ∧ n ≤ 8)) (List.mem_append_left _ (by simp))))
  have hk : Keeps (noteOtpRd s 0x0902) (programWords (noteOtpRd s 0x0902) data).2 :=
    programWords_keeps (hkeys ▸ namedWords_nodup p) fun q hq => by
      rw [noteOtpRd_otp]
      exact hblank q.1 (hkeys ▸ List.mem_map_of_mem hq)
  have hn : Keeps s (noteOtpRd s 0x0902) := by simp
  split <;> next h => exact (hn.trans hk).of_snd h

theorem hOtpKeyProgram_keeps (r : Req) : Keeps s (hOtpKeyProgram r s).2 := by
  unfold hOtpKeyProgram
  extract_lets index key w word
  refine judgeLocked_keeps _ _ _ _ _ _ fun hf hc => ?_
  refine whenProgrammable_keeps _ ?_
  obtain ⟨v, hv⟩ := Option.isSome_iff_exists.mp (hc (0, (secretWord index).isSome) List.mem_cons_self)
  have hw : w = v := congrArg (·.getD 0) hv
  have hb : writeLocked s.otp w = false ∧ writeLocked s.otp (w + 1) = false := by
    have hl := (lockBars_of_forbidden hf).2
    simp only [lockBars] at hl
    rw [show secretWord (fieldAt r.payload 0 1) = some v from hv] at hl
    simpa [hw] using hl
  have hk (x y : BitVec 64) : Keeps s (programWords s [(w, x), (w + 1, y)]).2 :=
    programWords_keeps (by simp) (by simp [raw_blank_of_not_writeLocked hb.1, raw_blank_of_not_writeLocked hb.2])
  split <;> next h => exact (hk _ _).of_snd h

theorem hOtpSeal_keeps (r : Req) : Keeps s (hOtpSeal r s).2 := by
  unfold hOtpSeal
  extract_lets reg
  refine judgeLocked_keeps _ _ _ _ _ _ fun hf hc => whenProgrammable_keeps _ ?_
  have hreg : (reg == 2 || reg == 3 || reg == 4) = true := hc (0, reg == 2 || reg == 3 || reg == 4) List.mem_cons_self
  have hs : sealed s.otp reg = false := by
    have hb := (lockBars_of_forbidden hf).2
    rw [lockBars] at hb
    simpa [hreg, reg] using hb
  split <;> next h => exact (sealRegion_keeps hs).of_snd h

theorem nextLockSet_blank {o : Otp} {i : Nat} (h : nextLockSet o = some i) : (otpRaw o i).cond = .blank := by
  simp only [nextLockSet] at h
  split at h
  · cases h
  · exact otpCond_eq_blank (by simpa using List.find?_some h)

theorem hOtpLock_keeps (r : Req) : Keeps s (hOtpLock r s).2 := by
  unfold hOtpLock
  extract_lets v
  refine judgeLocked_keeps _ _ _ _ _ _ fun hf _ => whenProgrammable_keeps _ ?_
  obtain ⟨i, hi⟩ : ∃ i, nextLockSet s.otp = some i := by
    rw [← Option.isSome_iff_exists, ← Option.not_isNone, Bool.not_eq_true']
    simpa [lockForbids] using (lockBars_of_forbidden hf).1
  simp only [hi, Option.getD_some]
  split <;> next h => exact (programWord_keeps (nextLockSet_blank hi) _).of_snd h

theorem OtpEvolves.setShadow {a o : Otp} (h : OtpEvolves a o) {k : Nat} (v : BitVec 64)
    (hr : ¬ ((find? o.shadows k).isNone = true ∧ 16 ≤ o.shadows.length)) :
    OtpEvolves a { o with shadows := assocSet o.shadows k v } :=
  ⟨h.1, h.2.1, fun ha => shadowShape_assocSet (h.2.2 ha) k v fun hn => by
    rw [not_and, Nat.not_le] at hr
    exact hr hn⟩

theorem OtpEvolves.delShadow {a o : Otp} (h : OtpEvolves a o) (k : Nat) :
    OtpEvolves a { o with shadows := assocDel o.shadows k } :=
  ⟨h.1, h.2.1, fun ha => (h.2.2 ha).assocDel k⟩

theorem hOtpShadow_keeps (r : Req) : Keeps s (hOtpShadow r s).2 := by
  unfold hOtpShadow
  extract_lets w set
  refine judgeLocked_keeps _ _ _ _ _ _ fun _ _ => ?_
  split
  · exact Keeps.rfl
  · next hr =>
    refine ⟨by simp, fun a h => ?_, by simp⟩
    rw [otpChange_otp]
    split
    · next hset => exact h.setShadow _ (by simpa [hset] using hr)
    · exact h.delShadow _

theorem hOtpStatus_keeps (r : Req) : Keeps s (hOtpStatus r s).2 := by
  simp only [hOtpStatus]
  exact judge_keeps _ _ _ (by simp)

theorem hLifecycleAdvance_keeps (r : Req) : Keeps s (hLifecycleAdvance r s).2 := by
  simp only [hLifecycleAdvance]
  refine judgeLocked_keeps _ _ _ _ _ _ fun _ _ => whenProgrammable_keeps _ ?_
  (repeat' split)
  · exact enterField_keeps
  · exact enterReturn_keeps _
  · exact advanceTo_keeps _ _ _

theorem hReturnChallenge_keeps (r : Req) : Keeps s (hReturnChallenge r s).2 := by
  simp only [hReturnChallenge]
  refine judgeLocked_keeps _ _ _ _ _ _ fun _ _ => ?_
  (repeat' split) <;> simp +contextual

theorem hParamRead_keeps (r : Req) : Keeps s (hParamRead r s).2 := by
  simp only [hParamRead]
  refine judge_keeps _ _ _ ?_
  (repeat' split) <;> simp +contextual

theorem hParamWrite_keeps (r : Req) : Keeps s (hParamWrite r s).2 := by
  simp only [hParamWrite]
  split
  · exact Keeps.rfl
  · refine judge_keeps _ _ _ ?_
    (repeat' split) <;> simp

theorem hParamCommit_keeps (r : Req) : Keeps s (hParamCommit r s).2 := by
  simp only [hParamCommit]
  refine judge_keeps _ _ _ ?_
  (repeat' split) <;> simp +contextual

theorem hParamRevert_keeps (r : Req) : Keeps s (hParamRevert r s).2 := by
  simp only [hParamRevert]
  exact judge_keeps _ _ _ (by simp)

theorem hParamDefaults_keeps (r : Req) : Keeps s (hParamDefaults r s).2 := by
  simp only [hParamDefaults]
  refine judge_keeps _ _ _ ?_
  simp +contextual

theorem hParamInfo_keeps (r : Req) : Keeps s (hParamInfo r s).2 := by
  simp only [hParamInfo]
  refine judge_keeps _ _ _ ?_
  (repeat' split) <;> simp +contextual

theorem hProfileApply_keeps (r : Req) : Keeps s (hProfileApply r s).2 := by
  simp only [hProfileApply]
  refine judge_keeps _ _ _ ?_
  (repeat' split) <;> simp +contextual

theorem hPwrStateSet_keeps (r : Req) : Keeps s (hPwrStateSet r s).2 := by
  simp only [hPwrStateSet]
  refine judge_keeps _ _ _ ?_
  (repeat' split) <;> simp +contextual

theorem hPwrStateQuery_keeps (r : Req) : Keeps s (hPwrStateQuery r s).2 := by
  simp only [hPwrStateQuery]
  exact judge_keeps _ _ _ (by simp)

theorem hPwrOn_keeps (r : Req) : Keeps s (hPwrOn r s).2 := by
  simp only [hPwrOn]
  exact judge_keeps _ _ _ (by simp)

theorem hPwrOff_keeps (r : Req) : Keeps s (hPwrOff r s).2 := by
  simp only [hPwrOff]
  refine judge_keeps _ _ _ ?_
  (repeat' split) <;> simp +contextual

theorem hSeqStatus_keeps (r : Req) : Keeps s (hSeqStatus r s).2 := by
  simp only [hSeqStatus]
  exact judge_keeps _ _ _ (by simp)

theorem hPwrRtcAlarm_keeps (r : Req) : Keeps s (hPwrRtcAlarm r s).2 := by
  simp only [hPwrRtcAlarm]
  refine judge_keeps _ _ _ ?_
  simp +contextual

theorem hDischHold_keeps (r : Req) : Keeps s (hDischHold r s).2 := by
  simp only [hDischHold]
  refine judge_keeps _ _ _ ?_
  (repeat' split) <;> simp +contextual

theorem hRightsSet_keeps (r : Req) : Keeps s (hRightsSet r s).2 := by
  unfold hRightsSet
  extract_lets p c mask purge
  refine judge_keeps _ _ _ ?_
  split
  · exact Keeps.rfl
  · extract_lets old s1 ids s2 s3
    have h1 : Keeps s s1 := by simp [s1]
    have h2 : Keeps s s2 := h1.trans (foldl_keeps (fun _ _ => (cancelStreamed_spares _).keeps) _ _)
    have h3 : Keeps s s3 := h2.trans (ite_keeps (by simp) Keeps.rfl)
    exact h3.trans (Keeps.trans (by simp) schedule_keeps)

theorem hRightsGet_keeps (r : Req) : Keeps s (hRightsGet r s).2 := by
  simp only [hRightsGet]
  exact judge_keeps _ _ _ (by simp)

theorem hStoreInfo_keeps (r : Req) : Keeps s (hStoreInfo r s).2 := by
  simp only [hStoreInfo]
  exact judge_keeps _ _ _ (by simp)

theorem hProfileStore_keeps (r : Req) : Keeps s (hProfileStore r s).2 := by
  simp only [hProfileStore]
  refine judge_keeps _ _ _ ?_
  (repeat' split) <;> simp +contextual

theorem writePages_spares {x : Option Nat} {t : State} {ps : List Nat} (h : writePages s ps = (x, t)) : Spares s t := by
  obtain rfl : (writePages s ps).2 = t := by rw [h]
  simp

theorem hProfileErase_keeps (r : Req) : Keeps s (hProfileErase r s).2 := by
  simp only [hProfileErase]
  refine judge_keeps _ _ _ ?_
  split
  · next h => exact (writePages_spares h).keeps
  · next h => exact (writePages_spares h).keeps.trans (by simp)

theorem hProfileInfo_keeps (r : Req) : Keeps s (hProfileInfo r s).2 := by
  simp only [hProfileInfo]
  refine judge_keeps _ _ _ ?_
  (repeat' split) <;> simp +contextual

theorem hObjectStore_keeps (r : Req) : Keeps s (hObjectStore r s).2 := by
  simp only [hObjectStore]
  split
  · exact firstObject_keeps _
  · split <;> simp

theorem hObjectErase_keeps (r : Req) : Keeps s (hObjectErase r s).2 := by
  simp only [hObjectErase]
  refine judge_keeps _ _ _ ?_
  split
  · exact Keeps.rfl
  · split
    · exact Keeps.rfl
    · split
      · next h => exact (writePages_spares h).keeps
      · next h => exact (writePages_spares h).keeps.trans (by simp)

theorem hObjectList_keeps (r : Req) : Keeps s (hObjectList r s).2 := by
  simp only [hObjectList]
  exact judge_keeps _ _ _ (by simp)

theorem hNvmWear_keeps (r : Req) : Keeps s (hNvmWear r s).2 := by
  simp only [hNvmWear]
  exact judge_keeps _ _ _ (by simp)

theorem hPatchStore_keeps (r : Req) : Keeps s (hPatchStore r s).2 := by
  simp only [hPatchStore]
  split
  · exact firstPatch_keeps _
  · split <;> simp

theorem hSysIdent_keeps (r : Req) : Keeps s (hSysIdent r s).2 := by
  simp only [hSysIdent]
  exact judge_keeps _ _ _ (by simp)

theorem hSysReset_keeps (r : Req) : Keeps s (hSysReset r s).2 := by
  simp only [hSysReset]
  exact judge_keeps _ _ _ (by simp)

theorem hSysCounters_keeps (r : Req) : Keeps s (hSysCounters r s).2 := by
  simp only [hSysCounters]
  exact judge_keeps _ _ _ (by simp)

theorem hSysTime_keeps (r : Req) : Keeps s (hSysTime r s).2 := by
  simp only [hSysTime]
  exact judge_keeps _ _ _ (by simp)

theorem hSysRtcSet_keeps (r : Req) : Keeps s (hSysRtcSet r s).2 := by
  simp only [hSysRtcSet]
  refine judge_keeps _ _ _ ?_
  simp +contextual

theorem hSysEcho_keeps (r : Req) : Keeps s (hSysEcho r s).2 := by
  simp only [hSysEcho]
  exact judge_keeps _ _ _ (by simp)

/-- A handler that keeps what every step keeps. -/
def HandlerKeeps (h : Handler) : Prop := ∀ (r : Req) (s : State), Keeps s (h r s).2

theorem handlerKeeps {h : Handler} (hh : ∀ {s : State} (r : Req), Keeps s (h r s).2) : HandlerKeeps h := fun r _ => hh r

/-- Every opcode's handler. -/
theorem handlers_keep : ∀ p ∈ handlers, HandlerKeeps p.2 := by
  simp only [handlers, List.cons_append, List.nil_append, List.forall_mem_cons]
  exact
    ⟨handlerKeeps hSysIdent_keeps, handlerKeeps hSysReset_keeps, handlerKeeps hSysCounters_keeps,
      handlerKeeps hSysTime_keeps, handlerKeeps hSysRtcSet_keeps, handlerKeeps hSysEcho_keeps,
      handlerKeeps hParamRead_keeps, handlerKeeps hParamWrite_keeps, handlerKeeps hParamCommit_keeps,
      handlerKeeps hParamRevert_keeps, handlerKeeps hParamDefaults_keeps, handlerKeeps hParamInfo_keeps,
      handlerKeeps hProfileApply_keeps, handlerKeeps hJobSubmit_keeps, handlerKeeps hJobSubmitRaster_keeps,
      handlerKeeps hJobStatus_keeps, handlerKeeps hJobCancel_keeps, handlerKeeps hJobHold_keeps,
      handlerKeeps hJobRelease_keeps, handlerKeeps hJobList_keeps, handlerKeeps hJobPriority_keeps,
      handlerKeeps hHubValues_keeps, handlerKeeps hHubRecords_keeps, handlerKeeps hHubSlotSet_keeps,
      handlerKeeps hHubDescSet_keeps, handlerKeeps hHubDetectorSet_keeps, handlerKeeps hHubConfigRead_keeps,
      handlerKeeps hHubSubscribe_keeps, handlerKeeps hHubStatus_keeps, handlerKeeps hHubStickyClear_keeps,
      handlerKeeps hHubRecordsAck_keeps, handlerKeeps hPwrStateSet_keeps, handlerKeeps hPwrStateQuery_keeps,
      handlerKeeps hPwrOn_keeps, handlerKeeps hPwrOff_keeps, handlerKeeps hSeqStatus_keeps, handlerKeeps hPwrRtcAlarm_keeps,
      handlerKeeps hDischHold_keeps, handlerKeeps hCalStart_keeps, handlerKeeps hCalStatus_keeps,
      handlerKeeps hCalAbort_keeps, handlerKeeps hNozScan_keeps, handlerKeeps hNozMapRead_keeps,
      handlerKeeps hNozMark_keeps, handlerKeeps hServiceRun_keeps, handlerKeeps hFireCountRead_keeps,
      handlerKeeps hFeed_keeps, handlerKeeps hMechStatus_keeps, handlerKeeps hLogInfo_keeps, handlerKeeps hLogRead_keeps,
      handlerKeeps hFaultRead_keeps, handlerKeeps hSnapshotRead_keeps, handlerKeeps hLogClear_keeps,
      handlerKeeps hOtpRead_keeps, handlerKeeps hOtpProgram_keeps, handlerKeeps hOtpKeyProgram_keeps,
      handlerKeeps hOtpSeal_keeps, handlerKeeps hOtpLock_keeps, handlerKeeps hOtpShadow_keeps,
      handlerKeeps hOtpStatus_keeps, handlerKeeps hLifecycleAdvance_keeps, handlerKeeps hReturnChallenge_keeps,
      handlerKeeps hStoreInfo_keeps, handlerKeeps hProfileStore_keeps, handlerKeeps hProfileErase_keeps,
      handlerKeeps hProfileInfo_keeps, handlerKeeps hObjectStore_keeps, handlerKeeps hObjectErase_keeps,
      handlerKeeps hObjectList_keeps, handlerKeeps hNvmWear_keeps, handlerKeeps hPatchStore_keeps,
      handlerKeeps hSessionOpen_keeps, handlerKeeps hSessionProve_keeps, handlerKeeps hSessionClose_keeps,
      handlerKeeps hNetStatus_keeps, handlerKeeps hNetSessionEnd_keeps, handlerKeeps hRightsSet_keeps,
      handlerKeeps hRightsGet_keeps, by simp⟩

theorem handlerOf_keeps (op : Nat) (r : Req) (s : State) :
    Keeps s ((find? handlers op).getD (fun _ s => (Reply.no stBadOpcode, s)) r s).2 := by
  simp only [find?]
  cases hp : handlers.find? (fun p => p.1 == op) with
  | none => exact Keeps.rfl
  | some p => exact handlers_keep p (List.mem_of_find?_eq_some hp) r s

theorem runOpcode_keeps (op : Nat) (r : Req) (s : State) : Keeps s (runOpcode op r s) :=
  (serve_keeps (handlerOf_keeps op) op r s).trans (afterAnswer_keeps op)

@[simp] theorem startWaiting_serve_keeps (op : Nat) {h : Handler} (hh : ∀ {s : State} (r : Req), Keeps s (h r s).2)
    (r : Req) :
    StepKeeps s (.next (startWaiting (serve op h r s))) :=
  stepKeeps_next.mpr ((serve_keeps (fun r _ => hh r) op r s).trans startWaiting_keeps)

theorem execVaoGoodRise_keeps (asel : BitVec 2)  : StepKeeps s (execVaoGoodRise asel s) := by
  simp only [execVaoGoodRise]
  (repeat' split) <;> simp +contextual

theorem execVioLow_keeps : StepKeeps s (execVioLow s) := by
  simp only [execVioLow]
  (repeat' split) <;> simp +contextual

theorem execVioGood_keeps : StepKeeps s (execVioGood s) := by
  simp only [execVioGood]
  exact stepKeeps_next.mpr (by simp)

theorem execNrstLow_keeps (ns : Nat) : StepKeeps s (execNrstLow ns s) := by
  simp only [execNrstLow]
  (repeat' split) <;> simp +contextual

theorem execWatchdogExpiry_keeps : StepKeeps s (execWatchdogExpiry s) := by
  simp only [execWatchdogExpiry]
  (repeat' split) <;> simp +contextual

theorem execClockFail_keeps : StepKeeps s (execClockFail s) := by
  simp only [execClockFail]
  (repeat' split) <;> simp +contextual

theorem execClkfailRetry_keeps (good : Bool) : StepKeeps s (execClkfailRetry good s) := by
  simp only [execClkfailRetry]
  exact stepKeeps_next.mpr (by simp)

theorem execRstoutMinExpiry_keeps : StepKeeps s (execRstoutMinExpiry s) := by
  simp only [execRstoutMinExpiry]
  exact stepKeeps_next.mpr (by simp)

theorem execMainDomainRelease_keeps (testmode : Bool)
    (h : ¬ (testmode = true ∧ releaseReady s = true ∧ lifecycle s.otp = 0)) :
    StepKeeps s (execMainDomainRelease testmode s) := by
  simp only [execMainDomainRelease]
  split
  · simp
  · next hr =>
    split
    · next ht => exact absurd ⟨ht.1, by simpa using hr, ht.2⟩ h
    · split
      · simp
      · refine stepKeeps_next.mpr (Keeps.trans ?_ powerDue_keeps)
        split <;> simp

theorem execCeholeReady_keeps (pdCls : BitVec 3) : StepKeeps s (execCeholeReady pdCls s) := by
  unfold execCeholeReady
  split
  · exact stepKeeps_next.mpr Keeps.rfl
  · extract_lets rst s1 s2 s3 s4 s5 s6 pend s7 s8 s9 rst' seq s10 s11 s12 port s13 s14 s15 rst'' motion s16
    have h1 : Keeps s s1 := by simp +contextual [s1]
    have h2 : Keeps s s2 := h1.trans (by simp +contextual [s2])
    have h3 : Keeps s s3 := h2.trans (by simp +contextual [s3])
    have h4 : Keeps s s4 := h3.trans (by simp +contextual [s4])
    have h5 : Keeps s s5 := h4.trans (by simp +contextual [s5])
    have h6 : Keeps s s6 := h5.trans (by simp +contextual [s6])
    have h7 : Keeps s s7 := h6.trans (by simp +contextual [s7])
    have h8 : Keeps s s8 := h7.trans (by simp +contextual [s8])
    have h9 : Keeps s s9 := h8.trans (by simp +contextual [s9])
    have h10 : Keeps s s10 := h9.trans (by simp +contextual [s10])
    have h11 : Keeps s s11 := h10.trans (by simp +contextual [s11])
    have h12 : Keeps s s12 := h11.trans (by simp +contextual [s12])
    have h13 : Keeps s s13 := h12.trans (by simp +contextual [s13])
    have h14 : Keeps s s14 := h13.trans (by simp +contextual [s14])
    have h15 : Keeps s s15 := h14.trans (by simp +contextual [s15])
    have h16 : Keeps s s16 := h15.trans (by simp +contextual [s16])
    exact stepKeeps_next.mpr (h16.trans (by simp +contextual))

theorem execTrstNLow_keeps : StepKeeps s (execTrstNLow s) := by
  simp only [execTrstNLow]
  exact stepKeeps_next.mpr (by simp)

theorem execAoTrim_keeps (cycles : Nat) : StepKeeps s (execAoTrim cycles s) := by
  simp only [execAoTrim]
  (repeat' split) <;> simp +contextual

theorem execXo32Qualified_keeps : StepKeeps s (execXo32Qualified s) := by
  simp only [execXo32Qualified]
  exact stepKeeps_next.mpr (by simp)

theorem execXo32Lost_keeps : StepKeeps s (execXo32Lost s) := by
  simp only [execXo32Lost]
  (repeat' split) <;> simp +contextual

theorem execXo32QualifyTimeout_keeps : StepKeeps s (execXo32QualifyTimeout s) := by
  simp only [execXo32QualifyTimeout]
  exact stepKeeps_next.mpr (by simp)

theorem execRtcSecond_keeps : StepKeeps s (execRtcSecond s) := by
  simp only [execRtcSecond]
  (repeat' split) <;> simp +contextual

theorem execDozeIdleExpiry_keeps : StepKeeps s (execDozeIdleExpiry s) := by
  simp only [execDozeIdleExpiry]
  (repeat' split) <;> simp +contextual

theorem execNapIdleExpiry_keeps : StepKeeps s (execNapIdleExpiry s) := by
  simp only [execNapIdleExpiry]
  (repeat' split) <;> simp +contextual

theorem execPstateEntryBegin_keeps : StepKeeps s (execPstateEntryBegin s) := by
  simp only [execPstateEntryBegin]
  (repeat' split) <;> simp +contextual

theorem execHibIdleExpiry_keeps : StepKeeps s (execHibIdleExpiry s) := by
  simp only [execHibIdleExpiry]
  (repeat' split) <;> simp +contextual

theorem execNapLimitExpiry_keeps : StepKeeps s (execNapLimitExpiry s) := by
  simp only [execNapLimitExpiry]
  (repeat' split) <;> simp +contextual

theorem execWkDebounce_keeps (pin : Fin 6) (level : Bool) : StepKeeps s (execWkDebounce pin level s) := by
  simp only [execWkDebounce]
  (repeat' split) <;> simp +contextual

theorem execPhyEnergyDetect_keeps : StepKeeps s (execPhyEnergyDetect s) := by
  simp only [execPhyEnergyDetect]
  simp +contextual

theorem execUsbResume_keeps : StepKeeps s (execUsbResume s) := by
  simp only [execUsbResume]
  (repeat' split) <;> simp +contextual

theorem execWarmReady_keeps (pdCls : BitVec 3) : StepKeeps s (execWarmReady pdCls s) := by
  simp only [execWarmReady]
  (repeat' split) <;> simp +contextual

theorem execPwrVioWaitExpiry_keeps : StepKeeps s (execPwrVioWaitExpiry s) := by
  simp only [execPwrVioWaitExpiry]
  (repeat' split) <;> simp +contextual

theorem execReedRefuse_keeps (addr : Byte) : StepKeeps s (execReedRefuse addr s) := by
  simp only [execReedRefuse]
  simp +contextual

theorem execHostPortHandover_keeps : StepKeeps s (execHostPortHandover s) := by
  simp only [execHostPortHandover]
  exact stepKeeps_next.mpr (by simp)

theorem execHostPortTakeback_keeps : StepKeeps s (execHostPortTakeback s) := by
  simp only [execHostPortTakeback]
  exact stepKeeps_next.mpr (by simp)

theorem execDataIn_keeps (bytes : List Byte) (pec : Option Byte) : StepKeeps s (execDataIn bytes pec s) := by
  simp only [execDataIn]
  simp +contextual

theorem execDoorbell_keeps (value : Byte) (pec : Option Byte) : StepKeeps s (execDoorbell value pec s) := by
  simp only [execDoorbell]
  simp +contextual

theorem execDbDone_keeps : StepKeeps s (execDbDone s) := by
  have hs (code : Half) : Keeps s (setIrq (setPort s (fun p => { p with dbStatus := code, inBuf := [] })) 1) := by simp
  simp only [execDbDone]
  split
  · simp
  · rw [stepKeeps_next]
    (repeat' split)
    · exact hs _
    · exact hs _
    · exact (hs _).trans (takeFrame_keeps runOpcode_keeps _ _ _)

theorem execDataOut_keeps (read : DataRead) : StepKeeps s (execDataOut read s) := by
  simp only [execDataOut]
  (repeat' split) <;> simp +contextual

theorem execIrqStatusClear_keeps (value : Byte) (pec : Option Byte) : StepKeeps s (execIrqStatusClear value pec s) := by
  simp only [execIrqStatusClear]
  simp +contextual

theorem execInFlush_keeps (pec : Option Byte) : StepKeeps s (execInFlush pec s) := by
  simp only [execInFlush]
  simp +contextual

theorem execOutRewind_keeps (pec : Option Byte) : StepKeeps s (execOutRewind pec s) := by
  simp only [execOutRewind]
  simp +contextual

theorem execOutSkip_keeps (pec : Option Byte) : StepKeeps s (execOutSkip pec s) := by
  simp only [execOutSkip]
  simp +contextual

theorem execNotifLostRead_keeps : StepKeeps s (execNotifLostRead s) := by
  simp only [execNotifLostRead]
  (repeat' split) <;> simp +contextual

theorem execRegisterWrite_keeps (ptr : Byte) (bytes : List Byte) (pec : Option Byte) :
    StepKeeps s (execRegisterWrite ptr bytes pec s) := by
  simp only [execRegisterWrite]
  simp +contextual

theorem execUartLinkFrame_keeps (body : List Byte) (closed stopBitsOk : Bool) :
    StepKeeps s (execUartLinkFrame body closed stopBitsOk s) := by
  have hu : Keeps s (uartTaken s) := by simp
  simp only [execUartLinkFrame]
  (repeat' split)
  · simp
  · simp
  · simp
  · simp
  · simp
  · exact stepKeeps_next.mpr (hu.trans (takeFrame_keeps runOpcode_keeps _ _ _))

theorem execUartFrameGapExpiry_keeps : StepKeeps s (execUartFrameGapExpiry s) := by
  simp only [execUartFrameGapExpiry]
  exact stepKeeps_next.mpr (by simp)

theorem execUartCtsChange_keeps (high : Bool) : StepKeeps s (execUartCtsChange high s) := by
  simp only [execUartCtsChange]
  exact stepKeeps_next.mpr (by simp)

theorem execUsbBulkOut_keeps (bytes : List Byte) : StepKeeps s (execUsbBulkOut bytes s) := by
  simp only [execUsbBulkOut]
  (repeat' split)
  · simp
  · simp
  · exact stepKeeps_next.mpr (takeFrame_keeps runOpcode_keeps _ _ _)

theorem execUsbInterruptReport_keeps : StepKeeps s (execUsbInterruptReport s) := by
  simp only [execUsbInterruptReport]
  (repeat' split) <;> simp +contextual

theorem execGetPortStatus_keeps : StepKeeps s (execGetPortStatus s) := by
  simp only [execGetPortStatus]
  exact stepKeeps_next.mpr (by simp)

theorem execSoftReset_keeps : StepKeeps s (execSoftReset s) := by
  simp only [execSoftReset]
  (repeat' split) <;> simp +contextual

theorem execUsbClassRequestStall_keeps (request : Byte) : StepKeeps s (execUsbClassRequestStall request s) := by
  simp only [execUsbClassRequestStall]
  exact stepKeeps_next.mpr (by simp)

theorem execUsbBusReset_keeps : StepKeeps s (execUsbBusReset s) := by
  simp only [execUsbBusReset]
  exact stepKeeps_next.mpr (by simp)

theorem execUsbVbusFall_keeps : StepKeeps s (execUsbVbusFall s) := by
  simp only [execUsbVbusFall]
  exact stepKeeps_next.mpr (by simp)

theorem execUsbVbusRise_keeps : StepKeeps s (execUsbVbusRise s) := by
  simp only [execUsbVbusRise]
  (repeat' split) <;> simp -implicitDefEqProofs +contextual

theorem execUsbSuspend_keeps : StepKeeps s (execUsbSuspend s) := by
  simp only [execUsbSuspend]
  exact stepKeeps_next.mpr (by simp)

theorem execRawJobRecord_keeps (link : Link) (bytes : List Byte) : StepKeeps s (execRawJobRecord link bytes s) := by
  simp only [execRawJobRecord]
  (repeat' split) <;> simp +contextual

theorem execEthLinkChange_keeps (up hundred full : Bool) : StepKeeps s (execEthLinkChange up hundred full s) := by
  simp only [execEthLinkChange]
  (repeat' split) <;> simp +contextual

theorem execTcpConnect_keeps (raw : Bool) (id : Nat) (source dest : IpAddr) :
    StepKeeps s (execTcpConnect raw id source dest s) := by
  simp only [execTcpConnect]
  (repeat' split) <;> simp +contextual

theorem execTcpClose_keeps (id : Nat) : StepKeeps s (execTcpClose id s) := by
  simp only [execTcpClose]
  exact stepKeeps_next.mpr (by simp)

theorem execSessionProveTimeout_keeps (id : Nat) : StepKeeps s (execSessionProveTimeout id s) := by
  simp only [execSessionProveTimeout]
  (repeat' split) <;> simp +contextual

theorem execNetSessionIdleExpiry_keeps (ctx : Fin 12) : StepKeeps s (execNetSessionIdleExpiry ctx s) := by
  simp only [execNetSessionIdleExpiry]
  exact stepKeeps_next.mpr (by simp)

theorem execLinkLossGraceExpiry_keeps : StepKeeps s (execLinkLossGraceExpiry s) := by
  simp only [execLinkLossGraceExpiry]
  (repeat' split) <;> simp +contextual

theorem execAddressChange_keeps (e : AddrEvent) : StepKeeps s (execAddressChange e s) := by
  simp only [execAddressChange]
  (repeat' split) <;> simp +contextual

theorem execDhcpLinkLocalFallback_keeps (addr : Word) : StepKeeps s (execDhcpLinkLocalFallback addr s) := by
  simp only [execDhcpLinkLocalFallback]
  (repeat' split) <;> simp +contextual

theorem execIcmpEcho_keeps : StepKeeps s (execIcmpEcho s) := by
  simp only [execIcmpEcho]
  (repeat' split) <;> simp +contextual

theorem execUdpDatagram_keeps : StepKeeps s (execUdpDatagram s) := by
  simp only [execUdpDatagram]
  (repeat' split) <;> simp +contextual

theorem execLldpduReceived_keeps (ttl pse : Nat) : StepKeeps s (execLldpduReceived ttl pse s) := by
  simp only [execLldpduReceived]
  (repeat' split) <;> simp +contextual

theorem execLldpTx_keeps : StepKeeps s (execLldpTx s) := by
  simp only [execLldpTx]
  exact stepKeeps_next.mpr (by simp)

theorem execLldpTtlExpiry_keeps : StepKeeps s (execLldpTtlExpiry s) := by
  simp only [execLldpTtlExpiry]
  exact stepKeeps_next.mpr (by simp)

theorem execMailboxFrame_keeps (link : Link) (bytes : List Byte) : StepKeeps s (execMailboxFrame link bytes s) :=
  stepKeeps_next.mpr (ite_keeps (Keeps.trans (by simp) (takeFrame_keeps runOpcode_keeps _ _ _)) Keeps.rfl)

theorem execMbxFragTimeout_keeps (place : MsgPlace) : StepKeeps s (execMbxFragTimeout place s) := by
  simp only [execMbxFragTimeout]
  (repeat' split) <;> simp +contextual

theorem execResponseDelivered_keeps (link : Link) : StepKeeps s (execResponseDelivered link s) := by
  simp only [execResponseDelivered]
  (repeat' split) <;> simp +contextual

theorem execSysResetApply_keeps : StepKeeps s (execSysResetApply s) := by
  simp only [execSysResetApply]
  simp +contextual

theorem execPwrOn_keeps (r : Req) : StepKeeps s (execPwrOn r s) :=
  stepKeeps_next.mpr ((serve_keeps (fun r _ => hPwrOn_keeps r) 0x0503 r s).trans (by simp))

theorem execPwrOff_keeps (r : Req) : StepKeeps s (execPwrOff r s) :=
  stepKeeps_next.mpr ((serve_keeps (fun r _ => hPwrOff_keeps r) 0x0504 r s).trans (by simp))

theorem execCalStart_keeps (r : Req) : StepKeeps s (execCalStart r s) := startWaiting_serve_keeps _ hCalStart_keeps r

theorem execCalAbort_keeps (r : Req) : StepKeeps s (execCalAbort r s) :=
  stepKeeps_next.mpr ((serve_keeps (fun r _ => hCalAbort_keeps r) _ r s).trans schedule_keeps)

theorem execNozScan_keeps (r : Req) : StepKeeps s (execNozScan r s) := startWaiting_serve_keeps _ hNozScan_keeps r

theorem execServiceRun_keeps (r : Req) : StepKeeps s (execServiceRun r s) := startWaiting_serve_keeps _ hServiceRun_keeps r

theorem execFeed_keeps (r : Req) : StepKeeps s (execFeed r s) := startWaiting_serve_keeps _ hFeed_keeps r

theorem execReturnNonceExpiry_keeps : StepKeeps s (execReturnNonceExpiry s) := by
  simp only [execReturnNonceExpiry]
  exact stepKeeps_next.mpr (by simp)

theorem execExtest_keeps : StepKeeps s (execExtest s) := by
  simp only [execExtest]
  exact stepKeeps_next.mpr (by simp)

theorem execSamplePreload_keeps : StepKeeps s (execSamplePreload s) := by
  simp only [execSamplePreload]
  exact stepKeeps_next.mpr (by simp)

theorem execIdcode_keeps : StepKeeps s (execIdcode s) := by
  simp only [execIdcode]
  exact stepKeeps_next.mpr (by simp)

theorem execHighz_keeps : StepKeeps s (execHighz s) := by
  simp only [execHighz]
  exact stepKeeps_next.mpr (by simp)

theorem execAuth_keeps : StepKeeps s (execAuth s) := by
  simp only [execAuth]
  exact stepKeeps_next.mpr (by simp)

theorem execSvc_keeps (frame : List Byte) : StepKeeps s (execSvc frame s) := by
  have hl : Keeps s (loadLevel s .svc serviceOpen) := by simp
  simp only [execSvc]
  split
  · exact stepKeeps_next.mpr (hl.trans (takeFrame_keeps runOpcode_keeps _ _ _))
  · exact stepKeeps_next.mpr hl

theorem execCoreDbg_keeps : StepKeeps s (execCoreDbg s) := by
  simp only [execCoreDbg]
  exact stepKeeps_next.mpr (by simp)

theorem execBypass_keeps (code : BitVec 5) : StepKeeps s (execBypass code s) := by
  simp only [execBypass]
  exact stepKeeps_next.mpr (by simp)

theorem execReqService_keeps : StepKeeps s (execReqService s) := by
  simp only [execReqService]
  exact stepKeeps_next.mpr (by simp)

theorem execReqCore_keeps : StepKeeps s (execReqCore s) := by
  simp only [execReqCore]
  exact stepKeeps_next.mpr (by simp)

theorem execRespond_keeps (mac : List Byte) : StepKeeps s (execRespond mac s) := by
  simp only [execRespond]
  exact stepKeeps_next.mpr (by simp)

theorem execClose_keeps : StepKeeps s (execClose s) := by
  simp only [execClose]
  exact stepKeeps_next.mpr (by simp)

theorem execAuthVerifyDone_keeps : StepKeeps s (execAuthVerifyDone s) := by
  simp only [execAuthVerifyDone]
  (repeat' split) <;> simp +contextual

theorem execAuthBackoffExpiry_keeps : StepKeeps s (execAuthBackoffExpiry s) := by
  simp only [execAuthBackoffExpiry]
  exact stepKeeps_next.mpr (by simp)

theorem execDbgIdleClose_keeps : StepKeeps s (execDbgIdleClose s) := by
  simp only [execDbgIdleClose]
  exact stepKeeps_next.mpr (by simp)

theorem execSeqOnDelayExpiry_keeps (ch : Fin 8) : StepKeeps s (execSeqOnDelayExpiry ch s) := by
  simp only [execSeqOnDelayExpiry]
  (repeat' split) <;> simp -implicitDefEqProofs +contextual

theorem execPgGood_keeps (ch : Fin 8) : StepKeeps s (execPgGood ch s) := by
  simp only [execPgGood]
  (repeat' split) <;> simp -implicitDefEqProofs +contextual

theorem execPgTimeout_keeps (ch : Fin 8) : StepKeeps s (execPgTimeout ch s) := by
  simp only [execPgTimeout]
  (repeat' split) <;> simp +contextual

theorem execRailFault_keeps (ch : Fin 8) (pgLevels : BitVec 8) : StepKeeps s (execRailFault ch pgLevels s) := by
  unfold execRailFault
  extract_lets q s1 a
  split
  · exact stepKeeps_next.mpr Keeps.rfl
  · split
    next r s2 h =>
      extract_lets s3 s4 s5
      have h1 : Keeps s s1 := by simp [s1]
      have h2 : Keeps s s2 := h1.trans (Keeps.of_snd (by simp) h)
      have h3 : Keeps s s3 := h2.trans (by simp [s3])
      have h4 : Keeps s s4 := h3.trans (by simp [s4])
      have h5 : Keeps s s5 := h4.trans (by simp [s5])
      exact stepKeeps_next.mpr (h5.trans ((wakeSource_keeps _).trans seqDone_keeps))

theorem execHisTrip_keeps (row : Fin 2) (both : Bool) : StepKeeps s (execHisTrip row both s) := by
  simp only [execHisTrip]
  (repeat' split) <;> simp +contextual

theorem execSeqOffDelayExpiry_keeps : StepKeeps s (execSeqOffDelayExpiry s) := by
  unfold execSeqOffDelayExpiry
  extract_lets q
  split
  · exact stepKeeps_next.mpr Keeps.rfl
  · split
    · exact stepKeeps_next.mpr ((walk_keeps _).trans seqDone_keeps)
    · exact stepKeeps_next.mpr ((releaseCh_keeps _).trans ((ite_keeps (by simp) (walk_keeps _)).trans seqDone_keeps))

theorem execWffTimeout_keeps : StepKeeps s (execWffTimeout s) := by
  simp only [execWffTimeout]
  (repeat' split) <;> simp +contextual

theorem execMinOffExpiry_keeps : StepKeeps s (execMinOffExpiry s) := by
  simp only [execMinOffExpiry]
  (repeat' split) <;> simp -implicitDefEqProofs +contextual

theorem execRetryCountReset_keeps : StepKeeps s (execRetryCountReset s) := by
  simp only [execRetryCountReset]
  exact stepKeeps_next.mpr (by simp)

theorem execVinfailTrip_keeps : StepKeeps s (execVinfailTrip s) := by
  simp only [execVinfailTrip]
  (repeat' split) <;> simp +contextual

theorem execVinfailRelease_keeps : StepKeeps s (execVinfailRelease s) := by
  simp only [execVinfailRelease]
  (repeat' split) <;> simp +contextual

theorem execVinfailRise_keeps : StepKeeps s (execVinfailRise s) := by
  simp only [execVinfailRise]
  (repeat' split) <;> simp +contextual

theorem execHoldupWriteDone_keeps (complete : Bool) : StepKeeps s (execHoldupWriteDone complete s) := by
  simp only [execHoldupWriteDone]
  (repeat' split) <;> simp -implicitDefEqProofs +contextual

theorem execDroneRise_keeps : StepKeeps s (execDroneRise s) := by
  simp only [execDroneRise]
  (repeat' split) <;> simp +contextual

theorem execDroneReassert_keeps : StepKeeps s (execDroneReassert s) := by
  simp only [execDroneReassert]
  (repeat' split) <;> simp -implicitDefEqProofs +contextual

theorem execDroneTimeout_keeps : StepKeeps s (execDroneTimeout s) := by
  simp only [execDroneTimeout]
  (repeat' split) <;> simp +contextual

theorem execDroneAbort_keeps : StepKeeps s (execDroneAbort s) := by
  simp only [execDroneAbort]
  (repeat' split) <;> simp +contextual

theorem execFaultRecordWritten_keeps : StepKeeps s (execFaultRecordWritten s) := by
  simp only [execFaultRecordWritten]
  (repeat' split) <;> simp +contextual

theorem execDischTimeout_keeps : StepKeeps s (execDischTimeout s) := by
  simp only [execDischTimeout]
  (repeat' split) <;> simp +contextual

theorem execDischRelease_keeps : StepKeeps s (execDischRelease s) := by
  unfold execDischRelease
  extract_lets s1 s2 s3
  have h1 : Keeps s s1 := by simp [s1]
  have h2 : Keeps s s2 := h1.trans (Keeps.trans (by simp) updateCharger_keeps)
  have h3 : Keeps s s3 := h2.trans (ite_keeps Keeps.rfl (by simp))
  split
  · simp
  · exact stepKeeps_next.mpr (h3.trans (Keeps.trans (by simp) (homesNow_keeps.trans afterTicket_keeps)))

theorem execChgGateSlot_keeps : StepKeeps s (execChgGateSlot s) := by
  simp only [execChgGateSlot]
  exact stepKeeps_next.mpr (by simp)

theorem execAccountingWindowEnd_keeps : StepKeeps s (execAccountingWindowEnd s) := by
  simp only [execAccountingWindowEnd]
  exact stepKeeps_next.mpr (by simp)

theorem execTicketResume_keeps : StepKeeps s (execTicketResume s) := by
  simp only [execTicketResume]
  (repeat' split) <;> simp +contextual

theorem execFeedRestart_keeps : StepKeeps s (execFeedRestart s) := by
  simp only [execFeedRestart]
  (repeat' split) <;> simp +contextual

theorem execRenderWaitExpiry_keeps : StepKeeps s (execRenderWaitExpiry s) := by
  simp only [execRenderWaitExpiry]
  (repeat' split) <;> simp +contextual

theorem execBulkAgeExpiry_keeps (job : Nat) : StepKeeps s (execBulkAgeExpiry job s) := by
  simp only [execBulkAgeExpiry]
  (repeat' split) <;> simp -implicitDefEqProofs +contextual

theorem execEncoderEdge_keeps (enc : Fin 2) (a b : Bool) (t : EncSeen) : StepKeeps s (execEncoderEdge enc a b t s) := by
  simp only [execEncoderEdge]
  (repeat' split) <;> simp +contextual

theorem execLateLimitExpiry_keeps : StepKeeps s (execLateLimitExpiry s) := by
  simp only [execLateLimitExpiry]
  (repeat' split) <;> simp +contextual

theorem execIndexEdge_keeps (enc : Fin 2) (level : Bool) (t : EncSeen) : StepKeeps s (execIndexEdge enc level t s) := by
  simp only [execIndexEdge]
  (repeat' split) <;> simp +contextual

theorem execLineBoundary_keeps (t steps : Nat) : StepKeeps s (execLineBoundary t steps s) := by
  unfold execLineBoundary
  split
  · exact stepKeeps_next.mpr Keeps.rfl
  · next tk j _ =>
    extract_lets n held going s1 offset web begins s2 tk1 tk2 saf s3 tk3 motion s4
    split
    · exact stepKeeps_next.mpr Keeps.rfl
    · split
      · exact stepKeeps_next.mpr positionFault_keeps
      · extract_lets s5 tk4 j1
        have h1 : Keeps s s1 := (settleWaiting_spares).keeps
        have h2 : Keeps s s2 := h1.trans (ite_keeps (beginBand_spares _ _ _).keeps Keeps.rfl)
        have h3 : Keeps s s3 := h2.trans (Keeps.trans (by simp [saf]) (stopRule_spares _ _ _).keeps)
        have h4 : Keeps s s4 := h3.trans (by simp [s4])
        have h5 : Keeps s s5 := h4.trans (boundaryLine_spares _ _ _ _ _).keeps
        (repeat' split) <;> exact stepKeeps_next.mpr (h5.trans (by simp))

theorem execFireCountUpdate_keeps : StepKeeps s (execFireCountUpdate s) := by
  simp only [execFireCountUpdate]
  exact stepKeeps_next.mpr (by simp)

theorem execEncStillExpiry_keeps : StepKeeps s (execEncStillExpiry s) := by
  simp only [execEncStillExpiry]
  (repeat' split) <;> simp +contextual

theorem execResyncFeedDone_keeps : StepKeeps s (execResyncFeedDone s) := by
  simp only [execResyncFeedDone]
  (repeat' split) <;> simp +contextual

theorem execCutPositionReached_keeps : StepKeeps s (execCutPositionReached s) := by
  simp only [execCutPositionReached]
  (repeat' split) <;> simp +contextual

theorem execCutHomeSeen_keeps (level : Bool) : StepKeeps s (execCutHomeSeen level s) := by
  simp only [execCutHomeSeen]
  (repeat' split) <;> simp +contextual

theorem execCutHomeTimeout_keeps : StepKeeps s (execCutHomeTimeout s) := by
  simp only [execCutHomeTimeout]
  (repeat' split) <;> simp +contextual

theorem execHomingDone_keeps (m : Fin 2) (level : Bool) : StepKeeps s (execHomingDone m level s) := by
  simp only [execHomingDone]
  (repeat' split) <;> simp +contextual

theorem execSledHomeTimeout_keeps : StepKeeps s (execSledHomeTimeout s) := by
  simp only [execSledHomeTimeout]
  exact stepKeeps_next.mpr (by simp)

theorem execMotorFault_keeps (m : Fin 3) : StepKeeps s (execMotorFault m s) := by
  simp only [execMotorFault]
  (repeat' split) <;> simp +contextual

theorem execMotorFltRelease_keeps (m : Fin 3) : StepKeeps s (execMotorFltRelease m s) := by
  simp only [execMotorFltRelease]
  (repeat' split) <;> simp +contextual

theorem execMotorEnIdleExpiry_keeps (m : Fin 3) : StepKeeps s (execMotorEnIdleExpiry m s) := by
  simp only [execMotorEnIdleExpiry]
  exact stepKeeps_next.mpr (by simp)

theorem execHubTick_keeps (codes : Sampled) (held : Bool) : StepKeeps s (execHubTick codes held s) := by
  unfold execHubTick
  extract_lets s1 s2 s3
  have h1 : Keeps s s1 := ite_keeps Keeps.rfl (by simp)
  have h2 : Keeps s s2 := h1.trans (by simp [s2])
  have h3 : Keeps s s3 := h2.trans (Keeps.trans (ite_keeps (runTick_keeps _ _ _) (wffConvert_keeps _)) seqDone_keeps)
  split
  · simp
  · refine stepKeeps_next.mpr (h3.trans (ite_keeps (Keeps.trans ?_ feedTick_keeps) Keeps.rfl))
    simp

theorem execHubBusComplete_keeps (spi : Bool) (result : BusEnd) : StepKeeps s (execHubBusComplete spi result s) := by
  simp only [execHubBusComplete]
  (repeat' split) <;> simp +contextual

theorem execHubI2cTimeout_keeps : StepKeeps s (execHubI2cTimeout s) := by
  simp only [execHubI2cTimeout]
  (repeat' split) <;> simp +contextual

theorem execHubI2cBackoffExpiry_keeps : StepKeeps s (execHubI2cBackoffExpiry s) := by
  simp only [execHubI2cBackoffExpiry]
  (repeat' split) <;> simp +contextual

theorem execNozScanDone_keeps (gates : List GateSeen) (tests : List NozTest) (result : MechEnd) :
    StepKeeps s (execNozScanDone gates tests result s) := by
  simp only [execNozScanDone]
  (repeat' split) <;> simp +contextual

theorem execServiceRunDone_keeps (result : MechEnd) : StepKeeps s (execServiceRunDone result s) := by
  simp only [execServiceRunDone]
  (repeat' split) <;> simp +contextual

theorem execFeedDone_keeps (fed : Nat) (result : MechEnd) : StepKeeps s (execFeedDone fed result s) := by
  simp only [execFeedDone]
  (repeat' split) <;> simp +contextual

theorem execServiceWaitTimeout_keeps (gates : List GateSeen) (tests : List NozTest) :
    StepKeeps s (execServiceWaitTimeout gates tests s) := by
  simp only [execServiceWaitTimeout]
  (repeat' split) <;> simp +contextual

theorem execNozMapWrite_keeps : StepKeeps s (execNozMapWrite s) := by
  simp only [execNozMapWrite]
  exact stepKeeps_next.mpr (by simp)

theorem execCalDone_keeps (m : CalMeas) : StepKeeps s (execCalDone m s) := by
  simp only [execCalDone]
  (repeat' split)
  · simp +contextual
  · simp +contextual
  · refine stepKeeps_next.mpr ?_
    cases h : endHeadEnergy s _ _ m with
    | none => exact Keeps.rfl
    | some t => exact endHeadEnergy_keeps h
  · simp +contextual
  · simp +contextual
  · simp +contextual
  · simp +contextual

theorem calSlots_nodup (t : Nat) : ∀ ws ∈ calSlots t, ws.Nodup := by
  simp only [calSlots]
  (repeat' split) <;> simp

theorem execCalOtpStore_keeps : StepKeeps s (execCalOtpStore s) := by
  simp only [execCalOtpStore]
  split
  · next a t sel tCal q refin _ _ =>
    split
    · simp
    · split
      · simp +contextual
      · split
        · simp +contextual
        · next ws rest hws =>
          have hmem : ws ∈ blankSlots s.otp t := hws ▸ List.mem_cons_self
          obtain ⟨hslot, hblank⟩ := List.mem_filter.mp hmem
          have hsub := slotWords_keys_sublist ws (slotData t sel tCal q.toNat refin s.log.bootCount.toNat)
          have hk := programWords_keeps (s := s) (hsub.nodup (calSlots_nodup t ws hslot)) fun p hp =>
            otpCond_eq_blank (by simpa using List.all_eq_true.mp hblank p.1 (hsub.subset (List.mem_map_of_mem hp)))
          split
          · next i t h => exact stepKeeps_next.mpr ((hk.of_snd h).trans (by simp +contextual))
          · next t h => exact stepKeeps_next.mpr ((hk.of_snd h).trans (by simp +contextual))
  · simp

theorem execCalWaitTimeout_keeps : StepKeeps s (execCalWaitTimeout s) := by
  simp only [execCalWaitTimeout]
  (repeat' split) <;> simp +contextual

theorem execRenderStart_keeps : StepKeeps s (execRenderStart s) := by
  simp only [execRenderStart]
  (repeat' split) <;> simp +contextual

theorem execRenderResume_keeps : StepKeeps s (execRenderResume s) := by
  simp only [execRenderResume]
  (repeat' split) <;> simp +contextual

theorem execRenderDone_keeps : StepKeeps s (execRenderDone s) := by
  simp only [execRenderDone]
  (repeat' split) <;> simp +contextual

theorem execLogFlush_keeps : StepKeeps s (execLogFlush s) := by
  simp only [execLogFlush]
  exact stepKeeps_next.mpr (by simp)

theorem execLogFlushIntervalExpiry_keeps : StepKeeps s (execLogFlushIntervalExpiry s) := by
  simp only [execLogFlushIntervalExpiry]
  exact stepKeeps_next.mpr (by simp)

theorem execLogCtrlWrite_keeps : StepKeeps s (execLogCtrlWrite s) := by
  simp only [execLogCtrlWrite]
  (repeat' split) <;> simp +contextual

theorem execVddaLow_keeps : StepKeeps s (execVddaLow s) := by
  simp only [execVddaLow]
  exact stepKeeps_next.mpr (by simp)

theorem execVddaReturn_keeps : StepKeeps s (execVddaReturn s) := by
  simp only [execVddaReturn]
  exact stepKeeps_next.mpr (by simp)

theorem execCoreDebugReset_keeps : StepKeeps s (execCoreDebugReset s) := by
  simp only [execCoreDebugReset]
  (repeat' split) <;> simp +contextual

theorem execUsbStandardRequest_keeps (setup : Setup) : StepKeeps s (execUsbStandardRequest setup s) := by
  simp only [execUsbStandardRequest]
  (repeat' split) <;> simp +contextual

theorem Keeps.forget {s t : State} (hp : t.pending = s.pending) (hw : t.otp.words = s.otp.words) (hs : t.otp.shadows = [])
    (hc : t.saf.charger = false) : Keeps s t :=
  ⟨hp, fun _ h => ⟨hw ▸ h.1, hw ▸ h.2.1, fun _ => by simp [hs, ShadowShape]⟩, fun _ _ => hc⟩

theorem execVaoGoodClear_keeps : StepKeeps s (execVaoGoodClear s) := by
  simp only [execVaoGoodClear]
  split
  · exact stepKeeps_next.mpr Keeps.rfl
  · refine stepKeeps_next.mpr (.forget ?_ ?_ rfl rfl) <;> (repeat' split) <;> simp

/-- Every command but the release into the test mode goes on, and leaves what every step leaves. -/
theorem exec_keeps (c : Instr) (hc : ¬ (c = .mainDomainRelease true ∧ releaseReady s = true ∧ lifecycle s.otp = 0)) :
    StepKeeps s (exec c s) := by
  cases c with
  | vaoGoodRise asel => exact execVaoGoodRise_keeps asel
  | vaoGoodClear => exact execVaoGoodClear_keeps
  | vioLow => exact execVioLow_keeps
  | vioGood => exact execVioGood_keeps
  | nrstLow ns => exact execNrstLow_keeps ns
  | watchdogExpiry => exact execWatchdogExpiry_keeps
  | clockFail => exact execClockFail_keeps
  | clkfailRetry good => exact execClkfailRetry_keeps good
  | rstoutMinExpiry => exact execRstoutMinExpiry_keeps
  | mainDomainRelease testmode => exact execMainDomainRelease_keeps testmode fun ⟨h, k⟩ => hc ⟨h ▸ rfl, k⟩
  | ceholeReady pdCls => exact execCeholeReady_keeps pdCls
  | trstNLow => exact execTrstNLow_keeps
  | aoTrim cycles => exact execAoTrim_keeps cycles
  | xo32Qualified => exact execXo32Qualified_keeps
  | xo32Lost => exact execXo32Lost_keeps
  | xo32QualifyTimeout => exact execXo32QualifyTimeout_keeps
  | rtcSecond => exact execRtcSecond_keeps
  | dozeIdleExpiry => exact execDozeIdleExpiry_keeps
  | napIdleExpiry => exact execNapIdleExpiry_keeps
  | pstateEntryBegin => exact execPstateEntryBegin_keeps
  | hibIdleExpiry => exact execHibIdleExpiry_keeps
  | napLimitExpiry => exact execNapLimitExpiry_keeps
  | wkDebounce pin level => exact execWkDebounce_keeps pin level
  | phyEnergyDetect => exact execPhyEnergyDetect_keeps
  | usbResume => exact execUsbResume_keeps
  | warmReady pdCls => exact execWarmReady_keeps pdCls
  | pwrVioWaitExpiry => exact execPwrVioWaitExpiry_keeps
  | reedRefuse addr => exact execReedRefuse_keeps addr
  | hostPortHandover => exact execHostPortHandover_keeps
  | hostPortTakeback => exact execHostPortTakeback_keeps
  | dataIn bytes pec => exact execDataIn_keeps bytes pec
  | doorbell value pec => exact execDoorbell_keeps value pec
  | dbDone => exact execDbDone_keeps
  | dataOut read => exact execDataOut_keeps read
  | irqStatusClear value pec => exact execIrqStatusClear_keeps value pec
  | inFlush pec => exact execInFlush_keeps pec
  | outRewind pec => exact execOutRewind_keeps pec
  | outSkip pec => exact execOutSkip_keeps pec
  | notifLostRead => exact execNotifLostRead_keeps
  | registerWrite ptr bytes pec => exact execRegisterWrite_keeps ptr bytes pec
  | uartLinkFrame body closed stopBitsOk => exact execUartLinkFrame_keeps body closed stopBitsOk
  | uartFrameGapExpiry => exact execUartFrameGapExpiry_keeps
  | uartCtsChange high => exact execUartCtsChange_keeps high
  | usbBulkOut bytes => exact execUsbBulkOut_keeps bytes
  | usbInterruptReport => exact execUsbInterruptReport_keeps
  | getPortStatus => exact execGetPortStatus_keeps
  | softReset => exact execSoftReset_keeps
  | usbClassRequestStall request => exact execUsbClassRequestStall_keeps request
  | usbBusReset => exact execUsbBusReset_keeps
  | usbVbusFall => exact execUsbVbusFall_keeps
  | usbVbusRise => exact execUsbVbusRise_keeps
  | usbSuspend => exact execUsbSuspend_keeps
  | rawJobRecord link bytes => exact execRawJobRecord_keeps link bytes
  | ethLinkChange up hundred full => exact execEthLinkChange_keeps up hundred full
  | tcpConnect raw id source dest => exact execTcpConnect_keeps raw id source dest
  | tcpClose id => exact execTcpClose_keeps id
  | sessionProveTimeout id => exact execSessionProveTimeout_keeps id
  | netSessionIdleExpiry ctx => exact execNetSessionIdleExpiry_keeps ctx
  | linkLossGraceExpiry => exact execLinkLossGraceExpiry_keeps
  | addressChange e => exact execAddressChange_keeps e
  | dhcpLinkLocalFallback addr => exact execDhcpLinkLocalFallback_keeps addr
  | icmpEcho => exact execIcmpEcho_keeps
  | udpDatagram => exact execUdpDatagram_keeps
  | lldpduReceived ttl pse => exact execLldpduReceived_keeps ttl pse
  | lldpTx => exact execLldpTx_keeps
  | lldpTtlExpiry => exact execLldpTtlExpiry_keeps
  | mailboxFrame link bytes => exact execMailboxFrame_keeps link bytes
  | mbxFragTimeout place => exact execMbxFragTimeout_keeps place
  | responseDelivered link => exact execResponseDelivered_keeps link
  | sysIdent r => exact serve_stepKeeps hSysIdent_keeps _ r
  | sysReset r => exact serve_stepKeeps hSysReset_keeps _ r
  | sysResetApply => exact execSysResetApply_keeps
  | sysCounters r => exact serve_stepKeeps hSysCounters_keeps _ r
  | sysTime r => exact serve_stepKeeps hSysTime_keeps _ r
  | sysRtcSet r => exact serve_stepKeeps hSysRtcSet_keeps _ r
  | sysEcho r => exact serve_stepKeeps hSysEcho_keeps _ r
  | paramRead r => exact serve_stepKeeps hParamRead_keeps _ r
  | paramWrite r => exact serve_stepKeeps hParamWrite_keeps _ r
  | paramCommit r => exact serve_stepKeeps hParamCommit_keeps _ r
  | paramRevert r => exact serve_stepKeeps hParamRevert_keeps _ r
  | paramDefaults r => exact serve_stepKeeps hParamDefaults_keeps _ r
  | paramInfo r => exact serve_stepKeeps hParamInfo_keeps _ r
  | profileApply r => exact serve_stepKeeps hProfileApply_keeps _ r
  | jobSubmit r => exact serve_stepKeeps hJobSubmit_keeps _ r
  | jobSubmitRaster r => exact serve_stepKeeps hJobSubmitRaster_keeps _ r
  | jobStatus r => exact serve_stepKeeps hJobStatus_keeps _ r
  | jobCancel r => exact serve_stepKeeps hJobCancel_keeps _ r
  | jobHold r => exact serve_stepKeeps hJobHold_keeps _ r
  | jobRelease r => exact serve_stepKeeps hJobRelease_keeps _ r
  | jobList r => exact serve_stepKeeps hJobList_keeps _ r
  | jobPriority r => exact serve_stepKeeps hJobPriority_keeps _ r
  | hubValues r => exact serve_stepKeeps hHubValues_keeps _ r
  | hubRecords r => exact serve_stepKeeps hHubRecords_keeps _ r
  | hubSlotSet r => exact serve_stepKeeps hHubSlotSet_keeps _ r
  | hubDescSet r => exact serve_stepKeeps hHubDescSet_keeps _ r
  | hubDetectorSet r => exact serve_stepKeeps hHubDetectorSet_keeps _ r
  | hubConfigRead r => exact serve_stepKeeps hHubConfigRead_keeps _ r
  | hubSubscribe r => exact serve_stepKeeps hHubSubscribe_keeps _ r
  | hubStatus r => exact serve_stepKeeps hHubStatus_keeps _ r
  | hubStickyClear r => exact serve_stepKeeps hHubStickyClear_keeps _ r
  | hubRecordsAck r => exact serve_stepKeeps hHubRecordsAck_keeps _ r
  | pwrStateSet r => exact serve_stepKeeps hPwrStateSet_keeps _ r
  | pwrStateQuery r => exact serve_stepKeeps hPwrStateQuery_keeps _ r
  | pwrOn r => exact execPwrOn_keeps r
  | pwrOff r => exact execPwrOff_keeps r
  | seqStatus r => exact serve_stepKeeps hSeqStatus_keeps _ r
  | pwrRtcAlarm r => exact serve_stepKeeps hPwrRtcAlarm_keeps _ r
  | dischHold r => exact serve_stepKeeps hDischHold_keeps _ r
  | calStart r => exact execCalStart_keeps r
  | calStatus r => exact serve_stepKeeps hCalStatus_keeps _ r
  | calAbort r => exact execCalAbort_keeps r
  | nozScan r => exact execNozScan_keeps r
  | nozMapRead r => exact serve_stepKeeps hNozMapRead_keeps _ r
  | nozMark r => exact serve_stepKeeps hNozMark_keeps _ r
  | serviceRun r => exact execServiceRun_keeps r
  | fireCountRead r => exact serve_stepKeeps hFireCountRead_keeps _ r
  | feed r => exact execFeed_keeps r
  | mechStatus r => exact serve_stepKeeps hMechStatus_keeps _ r
  | logInfo r => exact serve_stepKeeps hLogInfo_keeps _ r
  | logRead r => exact serve_stepKeeps hLogRead_keeps _ r
  | faultRead r => exact serve_stepKeeps hFaultRead_keeps _ r
  | snapshotRead r => exact serve_stepKeeps hSnapshotRead_keeps _ r
  | logClear r => exact serve_stepKeeps hLogClear_keeps _ r
  | otpRead r => exact serve_stepKeeps hOtpRead_keeps _ r
  | otpProgram r => exact serve_stepKeeps hOtpProgram_keeps _ r
  | otpKeyProgram r => exact serve_stepKeeps hOtpKeyProgram_keeps _ r
  | otpSeal r => exact serve_stepKeeps hOtpSeal_keeps _ r
  | otpLock r => exact serve_stepKeeps hOtpLock_keeps _ r
  | otpShadow r => exact serve_stepKeeps hOtpShadow_keeps _ r
  | otpStatus r => exact serve_stepKeeps hOtpStatus_keeps _ r
  | lifecycleAdvance r => exact serve_stepKeeps hLifecycleAdvance_keeps _ r
  | returnChallenge r => exact serve_stepKeeps hReturnChallenge_keeps _ r
  | returnNonceExpiry => exact execReturnNonceExpiry_keeps
  | storeInfo r => exact serve_stepKeeps hStoreInfo_keeps _ r
  | profileStore r => exact serve_stepKeeps hProfileStore_keeps _ r
  | profileErase r => exact serve_stepKeeps hProfileErase_keeps _ r
  | profileInfo r => exact serve_stepKeeps hProfileInfo_keeps _ r
  | objectStore r => exact serve_stepKeeps hObjectStore_keeps _ r
  | objectErase r => exact serve_stepKeeps hObjectErase_keeps _ r
  | objectList r => exact serve_stepKeeps hObjectList_keeps _ r
  | nvmWear r => exact serve_stepKeeps hNvmWear_keeps _ r
  | patchStore r => exact serve_stepKeeps hPatchStore_keeps _ r
  | sessionOpen r => exact serve_stepKeeps hSessionOpen_keeps _ r
  | sessionProve r => exact serve_stepKeeps hSessionProve_keeps _ r
  | sessionClose r => exact serve_stepKeeps hSessionClose_keeps _ r
  | netStatus r => exact serve_stepKeeps hNetStatus_keeps _ r
  | netSessionEnd r => exact serve_stepKeeps hNetSessionEnd_keeps _ r
  | rightsSet r => exact serve_stepKeeps hRightsSet_keeps _ r
  | rightsGet r => exact serve_stepKeeps hRightsGet_keeps _ r
  | extest => exact execExtest_keeps
  | samplePreload => exact execSamplePreload_keeps
  | idcode => exact execIdcode_keeps
  | highz => exact execHighz_keeps
  | auth => exact execAuth_keeps
  | svc frame => exact execSvc_keeps frame
  | coreDbg => exact execCoreDbg_keeps
  | bypass code => exact execBypass_keeps code
  | reqService => exact execReqService_keeps
  | reqCore => exact execReqCore_keeps
  | respond hmac => exact execRespond_keeps hmac
  | close => exact execClose_keeps
  | authVerifyDone => exact execAuthVerifyDone_keeps
  | authBackoffExpiry => exact execAuthBackoffExpiry_keeps
  | dbgIdleClose => exact execDbgIdleClose_keeps
  | seqOnDelayExpiry ch => exact execSeqOnDelayExpiry_keeps ch
  | pgGood ch => exact execPgGood_keeps ch
  | pgTimeout ch => exact execPgTimeout_keeps ch
  | railFault ch pgLevels => exact execRailFault_keeps ch pgLevels
  | hisTrip row both => exact execHisTrip_keeps row both
  | seqOffDelayExpiry => exact execSeqOffDelayExpiry_keeps
  | wffTimeout => exact execWffTimeout_keeps
  | minOffExpiry => exact execMinOffExpiry_keeps
  | retryCountReset => exact execRetryCountReset_keeps
  | vinfailTrip => exact execVinfailTrip_keeps
  | vinfailRelease => exact execVinfailRelease_keeps
  | vinfailRise => exact execVinfailRise_keeps
  | holdupWriteDone complete => exact execHoldupWriteDone_keeps complete
  | droneRise => exact execDroneRise_keeps
  | droneReassert => exact execDroneReassert_keeps
  | droneTimeout => exact execDroneTimeout_keeps
  | droneAbort => exact execDroneAbort_keeps
  | faultRecordWritten => exact execFaultRecordWritten_keeps
  | dischTimeout => exact execDischTimeout_keeps
  | dischRelease => exact execDischRelease_keeps
  | chgGateSlot => exact execChgGateSlot_keeps
  | accountingWindowEnd => exact execAccountingWindowEnd_keeps
  | ticketResume => exact execTicketResume_keeps
  | feedRestart => exact execFeedRestart_keeps
  | renderWaitExpiry => exact execRenderWaitExpiry_keeps
  | bulkAgeExpiry job => exact execBulkAgeExpiry_keeps job
  | encoderEdge enc a b t => exact execEncoderEdge_keeps enc a b t
  | lateLimitExpiry => exact execLateLimitExpiry_keeps
  | indexEdge enc level t => exact execIndexEdge_keeps enc level t
  | lineBoundary t steps => exact execLineBoundary_keeps t steps
  | fireCountUpdate => exact execFireCountUpdate_keeps
  | encStillExpiry => exact execEncStillExpiry_keeps
  | resyncFeedDone => exact execResyncFeedDone_keeps
  | cutPositionReached => exact execCutPositionReached_keeps
  | cutHomeSeen level => exact execCutHomeSeen_keeps level
  | cutHomeTimeout => exact execCutHomeTimeout_keeps
  | homingDone m level => exact execHomingDone_keeps m level
  | sledHomeTimeout => exact execSledHomeTimeout_keeps
  | motorFault m => exact execMotorFault_keeps m
  | motorFltRelease m => exact execMotorFltRelease_keeps m
  | motorEnIdleExpiry m => exact execMotorEnIdleExpiry_keeps m
  | hubTick codes held => exact execHubTick_keeps codes held
  | hubBusComplete spi result => exact execHubBusComplete_keeps spi result
  | hubI2cTimeout => exact execHubI2cTimeout_keeps
  | hubI2cBackoffExpiry => exact execHubI2cBackoffExpiry_keeps
  | nozScanDone gates tests result => exact execNozScanDone_keeps gates tests result
  | serviceRunDone result => exact execServiceRunDone_keeps result
  | feedDone fed result => exact execFeedDone_keeps fed result
  | serviceWaitTimeout gates tests => exact execServiceWaitTimeout_keeps gates tests
  | nozMapWrite => exact execNozMapWrite_keeps
  | calDone m => exact execCalDone_keeps m
  | calOtpStore => exact execCalOtpStore_keeps
  | calWaitTimeout => exact execCalWaitTimeout_keeps
  | renderStart => exact execRenderStart_keeps
  | renderResume => exact execRenderResume_keeps
  | renderDone => exact execRenderDone_keeps
  | logFlush => exact execLogFlush_keeps
  | logFlushIntervalExpiry => exact execLogFlushIntervalExpiry_keeps
  | logCtrlWrite => exact execLogCtrlWrite_keeps
  | vddaLow => exact execVddaLow_keeps
  | vddaReturn => exact execVddaReturn_keeps
  | coreDebugReset => exact execCoreDebugReset_keeps
  | usbStandardRequest setup => exact execUsbStandardRequest_keeps setup

end Sys2Proof.Machine
end

section
/-! PROOF of O1 to O8. A step takes the front command, goes on unless it is the release into the test mode, and leaves what every
command leaves. -/

namespace Sys2Proof.Machine

/-! ### One step -/

variable {s t : State} {c : Instr} {rest : List Instr}

theorem step_of_empty (h : s.pending = []) : step s = .next s := by simp [step, h]

theorem step_of_front (h : s.pending = c :: rest) : step s = exec c { s with pending := rest } := by simp [step, h]

/-- The one step that stops: the release into the production test mode (R45). -/
def StepStops (s : State) : Prop :=
  ∃ rest, s.pending = .mainDomainRelease true :: rest ∧ releaseReady s = true ∧ lifecycle s.otp = 0

theorem step_stops (h : StepStops s) : step s = .refused .productionTestMode := by
  obtain ⟨rest, hp, hr, hl⟩ := h
  rw [step_of_front hp]
  have hr' : releaseReady { s with pending := rest } = true := hr
  show execMainDomainRelease true { s with pending := rest } = _
  simp [execMainDomainRelease, hr', hl]

/-- Every other step goes on to a state that keeps what every command keeps, with the front command off the queue. -/
theorem step_keeps (h : ¬ StepStops s) :
    ∃ t, step s = .next t ∧ t.pending = s.pending.tail ∧ (∀ a, OtpEvolves a s.otp → OtpEvolves a t.otp) ∧
      (DischHolds s.saf → DischHolds t.saf) := by
  cases hp : s.pending with
  | nil => exact ⟨s, step_of_empty hp, hp, fun _ k => k, id⟩
  | cons c rest =>
    rw [step_of_front hp]
    exact exec_keeps (s := { s with pending := rest }) c fun ⟨hc, hr, hl⟩ => h ⟨rest, by rw [hp, hc], hr, hl⟩

/-- The same of a step known to have gone on. -/
theorem step_next_keeps (h : step s = .next t) :
    t.pending = s.pending.tail ∧ (∀ a, OtpEvolves a s.otp → OtpEvolves a t.otp) ∧ (DischHolds s.saf → DischHolds t.saf) := by
  obtain ⟨u, hu, hk⟩ := step_keeps fun hs => by rw [step_stops hs] at h; cases h
  obtain rfl : t = u := by rw [h] at hu; injection hu
  exact hk

/-- Settles O1, by the two cases of the queue. -/
theorem stepRunsFrontCommand : Obligations.StepRunsFrontCommand := by
  unfold Obligations.StepRunsFrontCommand
  exact ⟨fun _ _ _ h => step_of_front h, fun _ h => step_of_empty h⟩

/-- Settles O2: the reset state is one closed term, and each part of the statement is a field of it. -/
theorem resetLeavesOutputsSafe : Obligations.ResetLeavesOutputsSafe := by
  unfold Obligations.ResetLeavesOutputsSafe
  intro s
  refine ⟨rfl, rfl, rfl, rfl, by decide, ?_⟩
  exact ⟨rfl, rfl, rfl, rfl, rfl, rfl, rfl, rfl, rfl, rfl, rfl⟩

/-- Settles O3: the release into the test mode refuses, and every other step goes on. -/
theorem onlyTestModeStops : Obligations.OnlyTestModeStops := by
  unfold Obligations.OnlyTestModeStops
  refine fun s => ⟨fun h => ?_, fun h t => ?_⟩
  · refine Classical.byContradiction fun hs => ?_
    obtain ⟨t, ht, _⟩ := step_keeps hs
    exact h t ht
  · rw [step_stops h]
    exact fun e => by cases e

/-- Settles O4: no command's effect touches the queue. -/
theorem queueOnlyShrinks : Obligations.QueueOnlyShrinks := by
  unfold Obligations.QueueOnlyShrinks
  exact fun _ _ h => (step_next_keeps h).1

/-- Settles O5, of the reset state. -/
theorem invariantsHoldAtReset : Obligations.InvariantsHoldAtReset := by
  unfold Obligations.InvariantsHoldAtReset
  exact ⟨⟨List.length_replicate, by decide, by decide⟩, fun _ => rfl⟩

/-- Settles O6: no command adds or removes a word, and each leaves the shadows in order and within R169's 16. -/
theorem otpShapeKept : Obligations.OtpShapeKept := by
  unfold Obligations.OtpShapeKept
  intro s t ⟨hw, hs⟩ h
  obtain ⟨hlen, _, hshape⟩ := (step_next_keeps h).2.1 s.otp .rfl
  exact ⟨hlen.trans hw, hshape hs⟩

/-- Settles O7: only BLANK words are written, each by `programWord`. -/
theorem validWordsStay : Obligations.ValidWordsStay := by
  unfold Obligations.ValidWordsStay
  intro s t i w hw hv h
  obtain ⟨_, hkept, _⟩ := (step_next_keeps h).2.1 s.otp .rfl
  exact hkept i w hw hv

/-- Settles O8: whatever asserts DISCH releases the charger, and the charger comes on only while DISCH is released. -/
theorem chargerOffUnderDisch : Obligations.ChargerOffUnderDisch := by
  unfold Obligations.ChargerOffUnderDisch
  exact fun _ _ hs h => (step_next_keeps h).2.2 hs

end Sys2Proof.Machine
end

section
/-! SUPPORT and PROOF of O10 and O13. What a reset of the main domain leaves (R74, R76 to R81), NRST's two bounds (R77),
Clove's start, and what stands when VAO is gone. -/

namespace Sys2Proof.Machine

variable {s : State}

/-! ### Resets of the main domain -/

/-- What an aborted crossing leaves of the reset record but the crossings' own fields. -/
def RstKept (a b : Rst) : Prop :=
  b.vaoGood = a.vaoGood ∧ b.vioGood = a.vioGood ∧ b.vddaGood = a.vddaGood ∧ b.main = a.main ∧ b.otpHold = a.otpHold ∧
  b.cause = a.cause ∧ b.causeOpen = a.causeOpen ∧ b.clockHold = a.clockHold

theorem abortSeqNvm_rstKept : RstKept s.rst (abortSeqNvm s).rst := by
  simp only [abortSeqNvm]
  (repeat' split) <;> simp [RstKept]

theorem abortHubCfg_rstKept : RstKept s.rst (abortHubCfg s).rst := by
  simp only [abortHubCfg]
  (repeat' split) <;> simp [RstKept]

theorem abortSeqReq_rstKept : RstKept s.rst (abortSeqReq s).rst := by
  simp only [abortSeqReq]
  (repeat' split) <;> simp [RstKept, putSeqSide]

theorem abortOtpRd_rstKept : RstKept s.rst (abortOtpRd s).rst := by
  simp only [abortOtpRd]
  (repeat' split) <;> simp [RstKept]

@[simp] theorem abortCrossings_rst : (abortCrossings s).rst.vaoGood = s.rst.vaoGood ∧
    (abortCrossings s).rst.vioGood = s.rst.vioGood ∧ (abortCrossings s).rst.vddaGood = s.rst.vddaGood ∧
    (abortCrossings s).rst.main = s.rst.main ∧ (abortCrossings s).rst.otpHold = s.rst.otpHold ∧
    (abortCrossings s).rst.cause = s.rst.cause ∧ (abortCrossings s).rst.causeOpen = s.rst.causeOpen ∧
    (abortCrossings s).rst.clockHold = s.rst.clockHold := by
  obtain ⟨_, _⟩ := abortSeqNvm_rstKept (s := abortOtpRd (abortSeqReq (abortHubCfg s)))
  obtain ⟨_, _⟩ := abortOtpRd_rstKept (s := abortSeqReq (abortHubCfg s))
  obtain ⟨_, _⟩ := abortSeqReq_rstKept (s := abortHubCfg s)
  obtain ⟨_, _⟩ := abortHubCfg_rstKept (s := s)
  simp_all [abortCrossings]

@[simp] theorem closeDebug_level : (closeDebug s).dbg.level = .none := rfl
@[simp] theorem releaseCharger_off : (releaseCharger s).saf.charger = false := rfl

@[simp] theorem loseJobs_live (b : Bool) : (loseJobs s b).jobs.live = [] := rfl

@[simp] theorem dropTrial_charger : (dropTrial s).saf.charger = s.saf.charger := rfl

/-- R74, R76 to R81: whatever resets the main domain out of HIBERNATE leaves the same. -/
theorem mainReset_mainDomainReset (c : Byte) (h : s.pwr.st ≠ .hibernate) : MainDomainReset (joinCause s c) (mainReset s c) := by
  simp [MainDomainReset, mainReset, mainLost, h]

theorem mainReset_hibernate (c : Byte) (h : s.pwr.st = .hibernate) :
    mainReset s c = { s with rst := { s.rst with cause := joinCause s c, causeOpen := true } } := by
  simp [mainReset, h]

/-! ### NRST -/

theorem execNrstLow_short {ns : Nat} (h : ns < 200) : exec (.nrstLow ns) s = .next s := by
  simp [exec, execNrstLow, h]

/-- Reed is reset with the part (R74). -/
def reedReset (s : State) : State := { s with reed := { s.reed with st := .idle, startFlag := false, bitCount := 0, shift := 0 } }

theorem joinCause_reedReset (c : Byte) : joinCause (reedReset s) c = joinCause s c := rfl

theorem execNrstLow_long {ns : Nat} (hv : s.rst.vaoGood = true) (h : 1000 < ns) :
    exec (.nrstLow ns) s = .next (mainReset (reedReset s) 0x03) := by
  have hs : ¬ ns < 200 := by omega
  simp [exec, execNrstLow, reedReset, hv, h, hs]

/-- Settles O13, by the two bounds of R77 and `mainReset`'s HIBERNATE case. -/
theorem nrstPulseWidths : Obligations.NrstPulseWidths := by
  unfold Obligations.NrstPulseWidths
  refine ⟨fun ns s h => execNrstLow_short h, fun ns s hv h hp => ⟨_, execNrstLow_long hv h, ?_⟩, fun ns s hv h hp => ?_⟩
  · exact joinCause_reedReset (s := s) 0x03 ▸ mainReset_mainDomainReset 0x03 hp
  · rw [execNrstLow_long hv h, mainReset_hibernate (s := reedReset s) _ hp]
    rfl

/-! ### VAO -/

theorem cloveStart_rst (aux : Half) : (cloveStart s aux).rst = { s.rst with
      otpHold := integrityFails s.otp, otpClean := !integrityFails s.otp
      cause := if integrityFails s.otp then 0x09 else s.rst.cause, main := .held
      rstoutHigh := false, rstoutMin := true, causeOpen := true, xo25Run := s.rst.vioGood } := by
  simp only [cloveStart]
  split <;> simp

theorem noteReads_words (ws : List Nat) : (noteReads s ws).otp.words = s.otp.words := by
  simp only [noteReads]
  refine List.foldlRecOn ws _ (motive := fun t : State => t.otp.words = s.otp.words) rfl fun t ht i _ => ?_
  (repeat' split) <;> simp [ht]

theorem cloveStart_parts (aux : Half) : (cloveStart s aux).pwr.st = .run ∧ (cloveStart s aux).reed.owns = true ∧
    (cloveStart s aux).reed.boot = true ∧ (cloveStart s aux).hub.running = true ∧
    (cloveStart s aux).otp.words = s.otp.words := by
  simp only [cloveStart]
  split <;> simp [restartHub, noteReads_words]

theorem execVaoGoodRise_next (asel : BitVec 2) (h : s.rst.vaoGood = false) : exec (.vaoGoodRise asel) s =
    .next (cloveStart { s with
      rst := { s.rst with vaoGood := true, hostAddr := 0x4C + BitVec.ofNat 7 asel.toNat, cause := 0x01 }
      clk := { s.clk with trimCode := startCode s.otp } } 0) := by
  simp [exec, execVaoGoodRise, h]

@[simp] theorem drawBelow_hubTime (n : Nat) : (drawBelow s n).2.clk.hubTime = s.clk.hubTime := rfl
@[simp] theorem bumpLost_vinLow : (bumpLost s).seq.vinLow = s.seq.vinLow := rfl

theorem addSnap_outside (b : List Byte) : (addSnap s b).seq.vinLow = s.seq.vinLow ∧ (addSnap s b).clk.hubTime = s.clk.hubTime := by
  simp only [addSnap]
  (repeat' split) <;> simp

theorem writeSlot_outside (i : Nat) (f : FaultSlot) :
    (writeSlot s i f).seq.vinLow = s.seq.vinLow ∧ (writeSlot s i f).clk.hubTime = s.clk.hubTime := by
  have hw := writePage_frame 257 s 0x940
  simp only [writeSlot]
  split <;> next h => rw [h] at hw; simp_all

/-- A record cut off touches neither VIN's level nor hub time. -/
theorem tornSlot_outside (i : Nat) (r : PendingRec) :
    (tornSlot s i r).seq.vinLow = s.seq.vinLow ∧ (tornSlot s i r).clk.hubTime = s.clk.hubTime := by
  simp only [tornSlot, tornBytes]
  (repeat' split) <;> simp [addSnap_outside, writeSlot_outside]

/-- A record that VAO's loss cuts off is left torn, in each of the two places that may be under way. -/
def tornByLoss (s : State) : State :=
  let s := match s.seq.writing with
    | some (r, i) => tornSlot s i r
    | none => s
  match s.seq.holdup with
    | some r => tornSlot s ((erasedSlots s.nvm).headD 8) r
    | none => s

theorem execVaoGoodClear_next (h : s.rst.vaoGood = true) : exec .vaoGoodClear s = .next { State.reset with
    rst := { State.reset.rst with vioGood := s.rst.vioGood, vddaGood := s.rst.vddaGood }
    clk := { State.reset.clk with free := (tornByLoss s).clk.free }
    usb := { State.reset.usb with vbus := s.usb.vbus }
    uart := { State.reset.uart with ctsHigh := s.uart.ctsHigh }
    seq := { State.reset.seq with vinLow := s.seq.vinLow }
    motion := motionRestarted s
    nvm := { (tornByLoss s).nvm with exhaustLogged := false }
    otp := { State.reset.otp with words := s.otp.words }
    pending := s.pending } := by
  have hf : (tornByLoss s).rst = s.rst ∧ (tornByLoss s).usb = s.usb ∧ (tornByLoss s).uart = s.uart ∧
      (tornByLoss s).seq.vinLow = s.seq.vinLow ∧ motionRestarted (tornByLoss s) = motionRestarted s ∧
      (tornByLoss s).otp = s.otp ∧ (tornByLoss s).pending = s.pending := by
    simp only [tornByLoss]
    (repeat' split) <;> simp [motionRestarted, now, tornSlot_outside]
  obtain ⟨hr, hu, ha, hq, hm, ho, hp⟩ := hf
  rw [← hr, ← hu, ← ha, ← hq, ← hm, ← ho, ← hp]
  exact if_neg (by simp [h])

/-- Settles O10: VAO good by the equation of Clove's start, VAO lost by the state it leaves, with what was under way left torn. -/
theorem vaoStartsAndEndsClove : Obligations.VaoStartsAndEndsClove := by
  unfold Obligations.VaoStartsAndEndsClove
  refine ⟨fun asel s hv => ⟨_, execVaoGoodRise_next asel hv, ?_⟩, fun s hv => ⟨_, execVaoGoodClear_next hv, ?_⟩⟩
  · simp [cloveStart_rst, cloveStart_parts]
  · refine ⟨rfl, rfl, rfl, rfl, rfl, rfl, rfl, rfl, rfl, rfl, rfl, rfl, fun hw hh => ?_⟩
    simp [tornByLoss, hw, hh]

end Sys2Proof.Machine
end

section
/-! SUPPORT and PROOF of O18. What power that is due and a wake source do, by their steps, so that what each step keeps they
keep; and Reed's refusals (R106 to R109). -/

namespace Sys2Proof.Machine

variable {s : State}

/-! ### What power that is due does -/

/-- Where no full-scope reset waits, power that is due moves the rails or the state on, or wakes the part; what each of these
keeps it keeps. -/
theorem powerDue_induct {P : State → Prop} (hf : s.rst.fullPend = false) (hd : P (partialDue s))
    (hstop : ∀ t, P t → P (stopHub { t with pwr := { t.pwr with moving := true } }))
    (hmove : ∀ t, P t → P (moveOn t)) (hnap : ∀ t, P t → P (startNapWake t)) (hhib : ∀ t, P t → P (startHibWake t)) :
    P (powerDue s) := by
  have hf' : (partialDue s).rst.fullPend = false := by simp [hf]
  unfold powerDue
  generalize partialDue s = u at *
  simp only [hf', Bool.false_eq_true, if_false]
  (repeat' split)
  · exact hd
  · exact hmove _ hd
  · exact hmove _ (hstop _ hd)
  · exact hd
  · exact hnap _ hd
  · exact hhib _ hd
  · exact hd

/-- A part that collects wakes and does not move only wakes. -/
theorem powerDue_woken {P : State → Prop} (hf : s.rst.fullPend = false) (hm : s.pwr.moving = false) (hw : s.pwr.wakeSeen = true)
    (hd : P (partialDue s)) (hnap : P (startNapWake (partialDue s))) (hhib : P (startHibWake (partialDue s))) :
    P (powerDue s) := by
  have hf' : (partialDue s).rst.fullPend = false := by simp [hf]
  have hm' : (partialDue s).pwr.moving = false := by simp [hm]
  have hw' : (partialDue s).pwr.wakeSeen = true := by simp [hw]
  unfold powerDue
  generalize partialDue s = u at *
  simp only [hf', hm', hw', Bool.false_eq_true, Bool.not_true, if_false]
  (repeat' split)
  · exact hd
  · exact hnap
  · exact hhib
  · exact hd

/-- With the rails up and no partial shutdown due, nothing else of power is due while a NAP's first wake is recorded. -/
theorem powerDue_napWake (hf : s.rst.fullPend = false) (hm : s.pwr.moving = false) (hw : s.pwr.wakeSeen = true)
    (hp : s.seq.ph = .running) (hd : s.seq.due = 0) (hn : s.pwr.st = .nap) : powerDue s = startNapWake s := by
  simp [powerDue, partialDue, hf, hm, hw, hp, hd, hn]

/-! ### Reed -/

theorem execHostPortHandover_next (h : s.reed.handover = true) :
    exec .hostPortHandover s = .next { s with reed := { s.reed with owns := true, handover := false } } := by
  simp [exec, execHostPortHandover, h]

theorem execHostPortTakeback_next (h : s.reed.takeback = true) (hr : coreRuns s = true) :
    exec .hostPortTakeback s = .next { s with reed := { s.reed with
      owns := false, boot := false, takeback := false, handover := false } } := by
  simp [exec, execHostPortTakeback, h, hr]

/-- Reed takes a START and the address byte (R108). -/
def reedByte (s : State) (addr : Byte) : State :=
  { s with reed := { s.reed with st := .idle, startFlag := false, bitCount := 8, shift := addr } }

/-- Reed counts a refused transaction, and keeps the first one's byte (R109). -/
def reedCounted (s : State) (addr : Byte) : State :=
  { reedByte s addr with pwr := { s.pwr with
      reedCap := if s.pwr.reedRefused = 0 then addr else s.pwr.reedCap
      reedRefused := if s.pwr.reedRefused = 0xFF then 0xFF else s.pwr.reedRefused + 1 } }

theorem reedHears_mine {addr : Byte} (ho : s.reed.owns = true) (hb : s.reed.boot = false)
    (ha : addr.toNat / 2 = s.rst.hostAddr.toNat) : reedHears s addr = wakeSource (reedCounted s addr) 6 := by
  simp [reedHears, reedCounted, reedByte, ho, hb, ha]

theorem reedHears_other {addr : Byte} (ho : s.reed.owns = true) (hb : s.reed.boot = false)
    (ha : addr.toNat / 2 ≠ s.rst.hostAddr.toNat) : reedHears s addr = reedByte s addr := by
  simp [reedHears, reedByte, ho, hb, ha]

/-- A source that neither mask has wakes nothing and cancels nothing. -/
theorem wakeSource_masked {bit : Nat} (h1 : (wakeMask s true).testBit bit = false)
    (h0 : (wakeMask s false).testBit bit = false) : wakeSource s bit = s := by
  have h : ∀ hib, (wakeMask s hib).testBit bit = false := fun hib => by cases hib <;> assumption
  simp only [wakeSource, h]
  (repeat' split) <;> simp_all only [Bool.false_eq_true, and_false, false_and, Bool.not_false, not_true_eq_false]

/-- What Reed keeps of a refusal. A wake moves the rails and the state on, not Reed's bytes. -/
def ReedKept (s t : State) : Prop :=
  t.reed.st = s.reed.st ∧ t.reed.shift = s.reed.shift ∧ t.pwr.reedCap = s.pwr.reedCap ∧ t.pwr.reedRefused = s.pwr.reedRefused

theorem ReedKept.trans {s t u : State} (h : ReedKept s t) (k : ReedKept t u) : ReedKept s u :=
  ⟨k.1.trans h.1, k.2.1.trans h.2.1, k.2.2.1.trans h.2.2.1, k.2.2.2.trans h.2.2.2⟩

theorem ReedKept.rfl : ReedKept s s := ⟨Eq.refl _, Eq.refl _, Eq.refl _, Eq.refl _⟩

theorem railsUp_reedKept : ReedKept s (railsUp s) := by
  simp only [railsUp]
  split <;> simp [ReedKept]

theorem startNapWake_reedKept : ReedKept s (startNapWake s) := by
  simp only [startNapWake]
  split
  · exact .rfl
  · exact ReedKept.trans (t := { s with rst := _, reed := _ }) ⟨rfl, rfl, rfl, rfl⟩ railsUp_reedKept

theorem enterPstate_reedKept (st : PState) : ReedKept s (enterPstate s st) := by
  simp only [enterPstate]
  split <;> simp [ReedKept]

theorem startHibWake_reedKept : ReedKept s (startHibWake s) := by
  simp only [startHibWake]
  have hp : ReedKept s (passPart s) := by simp [ReedKept]
  have he : ReedKept s (enterPstate (passPart s) .run) := hp.trans (enterPstate_reedKept _)
  refine he.trans (ReedKept.trans ?_ railsUp_reedKept)
  simp [ReedKept]

theorem recordWake_reedKept (bit : Nat) : ReedKept s (recordWake s bit) := by simp [ReedKept, recordWake]

theorem cancelEntry_reedKept : ReedKept s (cancelEntry s) := by
  simp only [cancelEntry, enterDoze]
  (repeat' split)
  · exact ReedKept.trans (by simp [ReedKept]) (enterPstate_reedKept _)
  · simp [ReedKept]
  · simp [ReedKept]

/-- What a source does once the rails' own request for it is made: a part that collects wakes records it, drops a move to
HIBERNATE and wakes; one that is about to enter a state drops the entry. -/
def hearSource (s : State) (bit : Nat) : State :=
  match s.pwr.collect with
  | some hib =>
    if !(wakeMask s hib).testBit bit then s else powerDue (stayInNap (recordWake s bit))
  | none =>
    match s.pwr.entry with
    | some e => if (wakeMask s e.hib).testBit bit ∧ !ticketActive s then cancelEntry s else s
    | none => s
where
  /-- A wake that comes before a move has committed takes it back. -/
  stayInNap (s : State) : State :=
    if s.pwr.moving then
      { s with pwr := { s.pwr with moving := false, moveDue := false }
               hub := { s.hub with running := true, stopping := false } } else s

theorem wakeSource_eq (bit : Nat) : wakeSource s bit =
    hearSource (if s.seq.ph = .faultOff ∧ bit ≠ 11 ∧ (wakeMask s true).testBit bit then onRequest s else s) bit := rfl

@[simp] theorem stayInNap_parts : (hearSource.stayInNap s).rst = s.rst ∧ (hearSource.stayInNap s).seq = s.seq ∧
    (hearSource.stayInNap s).pwr.moving = false ∧ (hearSource.stayInNap s).pwr.wakeSeen = s.pwr.wakeSeen ∧
    (hearSource.stayInNap s).pwr.st = s.pwr.st ∧ (hearSource.stayInNap s).reed = s.reed ∧
    (hearSource.stayInNap s).pwr.reedCap = s.pwr.reedCap ∧ (hearSource.stayInNap s).pwr.reedRefused = s.pwr.reedRefused := by
  simp only [hearSource.stayInNap]
  split <;> simp_all

/-- A source, with no full-scope reset waiting: what its steps keep it keeps. -/
theorem wakeSource_induct {P : State → Prop} {bit : Nat} (hf : s.rst.fullPend = false) (hs : P s) (hon : ∀ t, P t → P (onRequest t))
    (hrec : ∀ t, P t → P (hearSource.stayInNap (recordWake t bit))) (hpart : ∀ t, P t → P (partialDue t))
    (hnap : ∀ t, P t → P (startNapWake t)) (hhib : ∀ t, P t → P (startHibWake t)) (hcancel : ∀ t, P t → P (cancelEntry t)) :
    P (wakeSource s bit) := by
  have hear {t : State} (ht : P t) (hft : t.rst.fullPend = false) : P (hearSource t bit) := by
    have hd := hpart _ (hrec t ht)
    simp only [hearSource]
    (repeat' split)
    · exact ht
    · exact powerDue_woken (by simp [hft]) (by simp) (by simp [recordWake]) hd (hnap _ hd) (hhib _ hd)
    · exact hcancel _ ht
    · exact ht
    · exact ht
  rw [wakeSource_eq]
  split
  · exact hear (hon s hs) (by simp [hf])
  · exact hear hs hf

theorem wakeSource_reedKept (bit : Nat) (hf : s.rst.fullPend = false) : ReedKept s (wakeSource s bit) :=
  wakeSource_induct hf .rfl (fun _ h => h.trans (by simp [ReedKept]))
    (fun _ h => h.trans ((recordWake_reedKept bit).trans (by simp [ReedKept]))) (fun _ h => h.trans (by simp [ReedKept]))
    (fun _ h => h.trans startNapWake_reedKept) (fun _ h => h.trans startHibWake_reedKept) (fun _ h => h.trans cancelEntry_reedKept)

/-- Settles O18: the two hand-overs, and a refusal, whose bytes no wake that follows touches. -/
theorem reedOwnsAndRefuses : Obligations.ReedOwnsAndRefuses := by
  unfold Obligations.ReedOwnsAndRefuses
  refine ⟨fun s => execHostPortHandover_next, fun s => execHostPortTakeback_next, fun addr s ho hb ha hf => ?_,
    fun addr s ho hb ha h1 h0 => ?_, fun addr s ho hb ha => ?_⟩
  · have hk := wakeSource_reedKept (s := reedCounted s addr) 6 hf
    exact ⟨_, congrArg Host.Outcome.next (reedHears_mine ho hb ha), hk⟩
  · show Host.Outcome.next (reedHears s addr) = _
    rw [reedHears_mine ho hb ha, wakeSource_masked (s := reedCounted s addr) h1 h0]
    rfl
  · show Host.Outcome.next (reedHears s addr) = _
    rw [reedHears_other ho hb ha]
    rfl

end Sys2Proof.Machine
end

section
/-! SUPPORT and PROOF of O16. The wake sources (R99, R101, R102): the first of a NAP is recorded and wakes it. -/

namespace Sys2Proof.Machine

variable {s : State}

/-! ### USB under notifications -/

/-- Of USB, all but the count of lost notifications. -/
def usbBut (u : Usb) : Usb := { u with lost := 0 }

theorem suspended_of_usbBut {u v : Usb} (h : usbBut u = usbBut v) : u.suspended = v.suspended :=
  show (usbBut u).suspended = (usbBut v).suspended by rw [h]

theorem foldl_usbBut {α : Type} {g : State → α → State} (h : ∀ s a, usbBut (g s a).usb = usbBut s.usb) (l : List α) (s : State) :
    usbBut (l.foldl g s).usb = usbBut s.usb :=
  List.foldlRecOn l g (motive := fun t : State => usbBut t.usb = usbBut s.usb) rfl fun t ht a _ => (h t a).trans ht

@[simp] theorem countNotifLost_usbBut (c : Nat) : usbBut (countNotifLost s c).usb = usbBut s.usb := by
  simp only [countNotifLost]
  (repeat' split) <;> simp [usbBut]

@[simp] theorem notify_usbBut (c op st : Nat) (p : List Byte) : usbBut (notify s c op st p).usb = usbBut s.usb := by
  simp only [notify]
  (repeat' split) <;> simp

@[simp] theorem commandDone_usbBut (c : Nat) (op seq : Half) (st : Nat) (p : List Byte) :
    usbBut (commandDone s c op seq st p).usb = usbBut s.usb := notify_usbBut c 0x8008 st _

@[simp] theorem endWaiters_usbBut (f : Option Nat) : usbBut (endWaiters s f).usb = usbBut s.usb := by
  simp only [endWaiters]
  exact foldl_usbBut (fun s w => by cases f <;> simp) _ _

@[simp] theorem seqAdvance_usbBut : usbBut (seqAdvance s).usb = usbBut s.usb := by
  simp only [seqAdvance]
  split <;> simp

@[simp] theorem startUp_usbBut : usbBut (startUp s).usb = usbBut s.usb := by simp [startUp]

@[simp] theorem leaveFaultOff_usbBut : usbBut (leaveFaultOff s).usb = usbBut s.usb := by
  simp only [leaveFaultOff]
  (repeat' split) <;> simp

@[simp] theorem onRequest_usbBut : usbBut (onRequest s).usb = usbBut s.usb := by
  simp only [onRequest]
  (repeat' split) <;> simp

@[simp] theorem startPartialUp_usbBut : usbBut (startPartialUp s).usb = usbBut s.usb := by
  simp only [startPartialUp]
  split <;> simp

@[simp] theorem railsUp_usbBut : usbBut (railsUp s).usb = usbBut s.usb := by
  simp only [railsUp]
  split <;> simp

/-! ### Wake sources -/

theorem testBit_or_pow {n : Nat} (a : BitVec n) {i k : Nat} (hi : i < n) :
    (a ||| BitVec.ofNat n (2 ^ i)).toNat.testBit k = (a.toNat.testBit k || decide (i = k)) := by
  rw [BitVec.testBit_toNat, BitVec.testBit_toNat, BitVec.getLsbD_or, BitVec.getLsbD_ofNat, Nat.testBit_two_pow]
  by_cases h : i = k <;> simp [h]
  omega

theorem testBit_and_not_pow {n : Nat} (a : BitVec n) {i k : Nat} (hk : k < n) :
    (a &&& ~~~ BitVec.ofNat n (2 ^ i)).toNat.testBit k = (a.toNat.testBit k && decide (i ≠ k)) := by
  rw [BitVec.testBit_toNat, BitVec.testBit_toNat, BitVec.getLsbD_and, BitVec.getLsbD_not, BitVec.getLsbD_ofNat,
    Nat.testBit_two_pow]
  simp [hk]

/-- Where no wake is collected and no entry is under way, a source outside a fault leaves all as it is. -/
theorem wakeSource_quiet (bit : Nat) (hc : s.pwr.collect = none) (he : s.pwr.entry = none) (hp : s.seq.ph ≠ .faultOff) :
    wakeSource s bit = s := by
  simp [wakeSource, hc, he, hp]

theorem recordWake_awake (bit : Nat) (h : s.pwr.st ≠ .hibernate) : recordWake s bit = { s with pwr := { s.pwr with
      wakeCause := s.pwr.wakeCause ||| BitVec.ofNat 16 (2 ^ bit)
      wakeTime := if s.pwr.wakeSeen then s.pwr.wakeTime else now s
      wakeSeen := true } } := by
  simp [recordWake, passPart, h]

theorem railsUp_pwr : (railsUp s).pwr = { s.pwr with railsFull := false } := by
  simp only [railsUp]
  split <;> simp

/-- A source wakes the part from NAP: it is recorded with its time, and the core wakes (R99, R101). -/
def WakesNap (s t : State) (bit : Nat) : Prop :=
  t.pwr.wakeCause.toNat.testBit bit = true ∧ t.pwr.wakeTime = now s ∧ t.pwr.wakeSeen = true ∧ t.rst.main = .waking ∧
  t.reed.boot = true

theorem stayInNap_wake : (hearSource.stayInNap s).pwr.wakeCause = s.pwr.wakeCause ∧
    (hearSource.stayInNap s).pwr.wakeTime = s.pwr.wakeTime := by
  simp only [hearSource.stayInNap]
  split <;> exact ⟨rfl, rfl⟩

theorem recordWake_bit {bit : Nat} (hb : bit < 16) : (recordWake s bit).pwr.wakeCause.toNat.testBit bit = true := by
  show ((passPart s).pwr.wakeCause ||| _).toNat.testBit bit = true
  rw [testBit_or_pow _ hb]
  simp

theorem stayInNap_usb : (hearSource.stayInNap s).usb = s.usb := by
  simp only [hearSource.stayInNap]
  split <;> rfl

/-- The first source of a NAP that its mask has. -/
theorem wakeSource_nap {bit : Nat} (hb : bit < 16) (hn : s.pwr.st = .nap) (hm : s.rst.main = .asleep)
    (hc : s.pwr.collect = some false) (hw : s.pwr.wakeSeen = false) (hp : s.seq.ph = .running) (hd : s.seq.due = 0)
    (hf : s.rst.fullPend = false) (hk : (wakeMask s false).testBit bit = true) :
    WakesNap s (wakeSource s bit) bit ∧ (wakeSource s bit).pwr.st = .nap ∧
      (wakeSource s bit).usb.suspended = s.usb.suspended := by
  have hr := recordWake_awake bit (s := s) (by simp [hn])
  have hpd := powerDue_napWake (s := hearSource.stayInNap (recordWake s bit)) (by simp [hf]) (by simp) (by simp [hr])
    (by simp [hp]) (by simp [hd]) (by simp [hr, hn])
  have hsrc : wakeSource s bit = startNapWake (hearSource.stayInNap (recordWake s bit)) := by
    simp [wakeSource_eq, hearSource, hp, hc, hk, hpd]
  have hu : usbBut (wakeSource s bit).usb = usbBut s.usb := by
    rw [hsrc]; simp [startNapWake, hm, stayInNap_usb]
  refine ⟨?_, ?_, suspended_of_usbBut hu⟩
  · rw [hsrc]
    have hbit := recordWake_bit (s := s) hb
    simp [WakesNap, startNapWake, hm, railsUp_pwr, stayInNap_wake, hbit]
    simp [hr, hw]
  · rw [hsrc]
    simp [startNapWake, hm, railsUp_pwr, hr, hn]

/-- What a debounced level changes before it wakes anything. -/
def levelKept (s : State) (pin : Fin 6) (level : Bool) : State :=
  { s with
    pwr := { s.pwr with wkLevel := if level then s.pwr.wkLevel ||| BitVec.ofNat 6 (2 ^ pin.val)
      else s.pwr.wkLevel &&& ~~~ BitVec.ofNat 6 (2 ^ pin.val) }
    rst := { s.rst with wkEvt := s.rst.wkEvt || (s.pwr.wkLevel.toNat.testBit pin.val != level && !coreRuns s) } }

theorem execWkDebounce_next (pin : Fin 6) (level : Bool) (hv : s.rst.vaoGood = true) :
    exec (.wkDebounce pin level) s = .next
      (if level != (pv s.params 0x0407).testBit pin.val && s.pwr.wkLevel.toNat.testBit pin.val != level then
        wakeSource (levelKept s pin level) pin.val else levelKept s pin level) := by
  simp [exec, execWkDebounce, levelKept, hv]

theorem levelKept_testBit (pin k : Fin 6) (level : Bool) :
    (levelKept s pin level).pwr.wkLevel.toNat.testBit k.val =
      if k = pin then level else s.pwr.wkLevel.toNat.testBit k.val := by
  have hk : k = pin ↔ pin.val = k.val := by rw [eq_comm, Fin.ext_iff]
  cases level with
  | false =>
    refine (testBit_and_not_pow _ k.isLt).trans ?_
    by_cases h : pin.val = k.val <;> simp [hk, h]
  | true =>
    refine (testBit_or_pow _ pin.isLt).trans ?_
    by_cases h : pin.val = k.val <;> simp [hk, h]

theorem execUsbResume_next (h : s.usb.suspended = true) :
    exec .usbResume s = .next (wakeDoze (wakeSource { s with usb := { s.usb with suspended := false } } 10)) := by
  simp [exec, execUsbResume, h]

theorem wakeDoze_outside (h : s.pwr.st ≠ .doze) : wakeDoze s = { s with pwr := { s.pwr with dozeDue := false } } := by
  simp [wakeDoze, h]

theorem wakeDoze_runs (h : s.pwr.st = .doze) : (wakeDoze s).pwr.st = .run := by
  simp [wakeDoze, enterPstate, h]

/-- Settles O16: a quiet source changes nothing more, and the first source of a NAP wakes it. -/
theorem wakeSources : Obligations.WakeSources := by
  unfold Obligations.WakeSources
  refine ⟨fun pin level s hv hc he hp => ⟨_, execWkDebounce_next pin level hv, ?_⟩,
    fun pin level s hv hn hm hc hw hp hd hf hk hl hwas => ⟨_, execWkDebounce_next pin level hv, ?_⟩,
    fun s hn hm hc hw hp hd hf hk => ⟨_, rfl, (wakeSource_nap (by decide) hn hm hc hw hp hd hf hk).1⟩,
    fun s hn hm hc hw hp hd hf hk hu => ⟨_, execUsbResume_next hu, ?_⟩, fun s hu hc he hp => ⟨fun hn => ?_, fun hn => ?_⟩⟩
  · rw [wakeSource_quiet (s := levelKept s pin level) _ hc he hp, ite_self]
    refine ⟨?_, fun k hk => ?_, rfl⟩
    · simp [levelKept_testBit]
    · simp [levelKept_testBit, hk]
  · rw [if_pos (by simp_all)]
    exact (wakeSource_nap (s := levelKept s pin level) (by omega) hn hm hc hw hp hd hf hk).1
  · obtain ⟨⟨hwk, ht, hseen, hmain, hb⟩, hst, hsus⟩ :=
      wakeSource_nap (s := { s with usb := { s.usb with suspended := false } }) (bit := 10) (by decide) hn hm hc hw hp hd hf hk
    rw [wakeDoze_outside (by simp [hst])]
    exact ⟨hwk, ht, hseen, hmain, hb, hsus⟩
  · rw [execUsbResume_next hu, wakeSource_quiet _ (by exact hc) (by exact he) (by exact hp), wakeDoze_outside (by exact hn)]
  · refine ⟨_, execUsbResume_next hu, ?_⟩
    rw [wakeSource_quiet _ (by exact hc) (by exact he) (by exact hp)]
    exact ⟨wakeDoze_runs hn, by simp⟩

end Sys2Proof.Machine
end

section
/-! SUPPORT and PROOF of O15. The RTC, the trim and the references (R70 to R72, R89, R289, R498, R503). -/

namespace Sys2Proof.Machine

variable {s : State}

/-! ### The RTC -/

/-- Of the clocks, the RTC and its alarm. -/
def RtcKept (s t : State) : Prop := t.clk.rtc = s.clk.rtc ∧ t.clk.rtcAlarm = s.clk.rtcAlarm

theorem RtcKept.trans {s t u : State} (h : RtcKept s t) (k : RtcKept t u) : RtcKept s u := ⟨k.1.trans h.1, k.2.trans h.2⟩

theorem passPart_rtcKept : RtcKept s (passPart s) := by
  simp only [passPart]
  split
  · exact ⟨rfl, rfl⟩
  · exact ⟨rfl, rfl⟩

theorem recordWake_rtcKept (bit : Nat) : RtcKept s (recordWake s bit) := passPart_rtcKept

theorem stayInNap_rtcKept : RtcKept s (hearSource.stayInNap s) := by
  simp only [hearSource.stayInNap]
  split <;> exact ⟨rfl, rfl⟩

theorem startHibWake_rtcKept : RtcKept s (startHibWake s) := by
  obtain ⟨h, k⟩ := passPart_rtcKept (s := s)
  simp [RtcKept, startHibWake, h, k]

theorem startNapWake_rtcKept : RtcKept s (startNapWake s) := by simp [RtcKept]

/-- No wake moves the RTC. -/
theorem wakeSource_rtcKept (bit : Nat) (hf : s.rst.fullPend = false) : RtcKept s (wakeSource s bit) :=
  wakeSource_induct hf ⟨rfl, rfl⟩ (fun _ h => h.trans (by simp [RtcKept]))
    (fun _ h => h.trans ((recordWake_rtcKept bit).trans stayInNap_rtcKept)) (fun _ h => h.trans (by simp [RtcKept]))
    (fun _ h => h.trans startNapWake_rtcKept) (fun _ h => h.trans startHibWake_rtcKept) (fun _ h => h.trans (by simp [RtcKept]))

theorem wakeWork_rtcKept (bit : Nat) (hf : s.rst.fullPend = false) : RtcKept s (wakeWork s bit) := by
  have h := wakeSource_rtcKept bit hf
  simp only [wakeWork]
  split
  · exact h.trans (by simp [RtcKept])
  · exact h

/-- The clocks one RTC second on. -/
def secondOn (s : State) : State :=
  let c := if s.pwr.st = .hibernate then passTime s.clk (1000000 - s.clk.secUs) else s.clk
  { s with clk := { c with rtc := c.rtc + 1, rtcOnXo32 := c.rtcOnXo32 || c.rtcMove, rtcMove := false, secUs := 0 } }

theorem execRtcSecond_next (hv : s.rst.vaoGood = true) : exec .rtcSecond s = .next (rtcAlarmDue (secondOn s)) := by
  simp [exec, execRtcSecond, secondOn, hv]

theorem secondOn_rtc : (secondOn s).clk.rtc = s.clk.rtc + 1 ∧ (secondOn s).clk.rtcAlarm = s.clk.rtcAlarm := by
  simp only [secondOn]
  split <;> exact ⟨rfl, rfl⟩

theorem rtcAlarmDue_ahead (h : s.clk.rtcAlarm = 0 ∨ s.clk.rtc.toNat < s.clk.rtcAlarm.toNat) : rtcAlarmDue s = s := if_pos h

theorem rtcAlarmDue_due (h : s.clk.rtcAlarm ≠ 0) (hr : s.clk.rtcAlarm.toNat ≤ s.clk.rtc.toNat) :
    rtcAlarmDue s = wakeWork { s with clk := { s.clk with rtcAlarm := 0 } } 7 :=
  if_neg (not_or.mpr ⟨h, Nat.not_lt.mpr hr⟩)

theorem execRtcSecond_ahead (hv : s.rst.vaoGood = true)
    (h : s.clk.rtcAlarm = 0 ∨ (s.clk.rtc + 1).toNat < s.clk.rtcAlarm.toNat) : exec .rtcSecond s = .next (secondOn s) := by
  rw [execRtcSecond_next hv, rtcAlarmDue_ahead (by rw [secondOn_rtc.1, secondOn_rtc.2]; exact h)]

/-! ### The references and the trim -/

/-- Staging an event changes the log record alone. -/
theorem logEvent_eq (code : Nat) (data : List Byte) : logEvent s code data = { s with log := (logEvent s code data).log } := by
  simp only [logEvent, logFor, logAt, countLost]
  (repeat' split) <;> rfl

theorem execXo32Lost_next (h : s.clk.xo32 = .adopted) : exec .xo32Lost s = .next { s with
    clk := { s.clk with xo32 := .lost, rtcOnXo32 := false, rtcMove := false, trimOnXo32 := false, trimMove := false
                        xo32LostLogged := true }
    log := if s.clk.xo32LostLogged then s.log else (logEvent s 0x0104 []).log } := by
  simp only [exec, execXo32Lost, h, ne_eq, not_true_eq_false, if_false]
  split
  · rfl
  · rw [logEvent_eq]

/-- A calibration's switch that is not due leaves all as it is. -/
theorem switchDue_none {here : Nat → Bool} (h : s.cal.due = []) : switchDue s here = s := by
  have hc : { s.cal with due := [] } = s.cal := by rw [← h]
  simp [switchDue, h, hc]

/-- The switches that are due, one after the other, at one moment. -/
theorem foldl_activate (l : List (Nat × CalSel)) (s : State) :
    l.foldl (fun s p => activate s p.1 { p.2 with time := now s }) s = { s with cal := { s.cal with
      active := l.foldl (fun a p => a.set p.1 { p.2 with time := now s }) s.cal.active } } := by
  induction l generalizing s with
  | nil => rfl
  | cons p l ih => rw [List.foldl_cons, ih]; rfl

theorem switchDue_eq (here : Nat → Bool) : switchDue s here = { s with cal := { s.cal with
    due := s.cal.due.filter (fun p => !here p.1)
    active := (s.cal.due.filter (fun p => here p.1)).foldl (fun a p => a.set p.1 { p.2 with time := now s }) s.cal.active } } :=
  foldl_activate _ _

theorem switchDue_cal (here : Nat → Bool) : (switchDue s here).cal.due = s.cal.due.filter (fun p => !here p.1) ∧
    (switchDue s here).cal.aoHeld = s.cal.aoHeld := by
  rw [switchDue_eq]
  exact ⟨rfl, rfl⟩

/-- The one switch that is due at the trim takes effect there. -/
theorem switchDue_single {c : CalSel} {rest : List (Nat × CalSel)} (h : s.cal.due = (2, c) :: rest) (hr : ∀ p ∈ rest, p.1 ≠ 2) :
    switchDue s (· == 2) = { s with cal := { s.cal with
      due := rest, active := s.cal.active.set 2 { c with time := now s } } } := by
  have h1 : rest.filter (fun p => p.1 == 2) = [] := by simpa using hr
  have h2 : rest.filter (fun p => !(p.1 == 2)) = rest := by simpa using hr
  simp [switchDue, h, h1, h2, activate, now]

/-- The reference that a trim compares with: XO32 once adopted, else XO25 while it runs. -/
def trimOnX (s : State) : Bool := s.clk.xo32 = .adopted && (s.clk.trimOnXo32 || s.clk.trimMove)

def trimRef (s : State) : Bool :=
  trimOnX s || (s.rst.xo25Run && (decide (s.pwr.st = .run) || decide (s.pwr.st = .doze)))

def trimWant (s : State) : Nat := if trimOnX s then 250000 else 256000

/-- How the trim code moves at a trim, with the reference that runs and the free bit. -/
def trimStep (s : State) (cycles : Nat) : Int :=
  if !trimRef s || !(drawBit s).1 then 0 else if trimWant s < cycles then -1 else if cycles < trimWant s then 1 else 0

/-- The clocks after a trim. -/
def trimmedClk (s : State) (cycles : Nat) : Clk :=
  let hz := if !trimRef s then s.clk.aoHz else if trimOnX s then cycles * 32 else cycles * 125 / 4
  { (drawBit s).2.clk with
    trimOnXo32 := trimOnX s, trimMove := false, trimmed := trimRef s, deglitch := deglitchFor s (trimRef s)
    trimCode := s.clk.trimCode + trimStep s cycles, still := if trimStep s cycles = 0 then s.clk.still + 1 else 0
    aoHz := hz, inc := timeInc hz }

theorem execAoTrim_next (cycles : Nat) (hv : s.rst.vaoGood = true) :
    exec (.aoTrim cycles) s = .next (aoWait { switchDue s (· == 2) with clk := trimmedClk s cycles }) := by
  have hg : ¬ (!s.rst.vaoGood) = true := by simp [hv]
  refine (if_neg hg).trans ?_
  simp only [switchDue_eq]
  rfl

/-- A trim step is none, or one against the error. -/
theorem trimStep_cases (cycles : Nat) : trimStep s cycles = 0 ∨
    (cycles ≠ trimWant s ∧ trimStep s cycles = if trimWant s < cycles then -1 else 1) := by
  simp only [trimStep]
  (repeat' split) <;> simp_all <;> omega

theorem trimmedClk_moves (cycles : Nat) :
    ((trimmedClk s cycles).trimCode = s.clk.trimCode ∧ (trimmedClk s cycles).still = s.clk.still + 1) ∨
    (cycles ≠ trimWant s ∧ (trimmedClk s cycles).trimCode = s.clk.trimCode + (if trimWant s < cycles then -1 else 1) ∧
      (trimmedClk s cycles).still = 0) := by
  rcases trimStep_cases (s := s) cycles with h | ⟨hc, h⟩
  · exact .inl ⟨by simp [trimmedClk, h], by simp [trimmedClk, h]⟩
  · refine .inr ⟨hc, by simp only [trimmedClk, h], ?_⟩
    simp only [trimmedClk, h]
    split <;> rfl

/-- Without a switch that is due and an AO_RC that runs, a trim moves the clocks alone. -/
theorem execAoTrim_alone (cycles : Nat) (hv : s.rst.vaoGood = true) (hd : s.cal.due = []) (ha : aoRcRuns s = false) :
    exec (.aoTrim cycles) s = .next { s with clk := trimmedClk s cycles } := by
  rw [execAoTrim_next cycles hv, switchDue_none hd]
  exact congrArg _ (if_neg fun h => Bool.false_ne_true (ha.symm.trans h.1))

theorem aoWait_cal (hr : aoRcRuns s = true) : (8 ≤ s.clk.still → (aoWait s).cal.aoHeld = true ∧ (aoWait s).cal.aoSince = now s) ∧
    (s.clk.still < 8 → (aoWait s).cal.aoHeld = s.cal.aoHeld) := by
  simp only [aoWait, hr, true_and]
  split
  · next h => exact ⟨fun _ => ⟨rfl, rfl⟩, fun hlt => absurd h (Nat.not_le.2 hlt)⟩
  · next h => exact ⟨fun hle => absurd hle h, fun _ => rfl⟩

theorem aoWait_parts : (aoWait s).clk = s.clk ∧ (aoWait s).cal.due = s.cal.due ∧ (aoWait s).cal.active = s.cal.active := by
  simp only [aoWait]
  split <;> exact ⟨rfl, rfl, rfl⟩

/-- Settles O15. -/
theorem clocksFollowTheirReferences : Obligations.ClocksFollowTheirReferences := by
  unfold Obligations.ClocksFollowTheirReferences
  refine ⟨fun s hv hp ha => ?_, fun s hv hp ha => ⟨_, execRtcSecond_ahead hv ha, ?_⟩, fun s hv ha hr hf => ?_, fun s hv hn hx => ?_,
    fun s hx => ⟨_, execXo32Lost_next hx, rfl, rfl, rfl⟩, fun s hv hx => ?_, fun cycles s hv hx ht hd ha => ?_,
    fun cycles s hv hx hr hp hd ha => ?_, fun cycles s hv ha => ?_, fun cycles s c rest hv hd hr hl => ?_,
    fun s => ⟨_, rfl, rfl, rfl, rfl⟩⟩
  · rw [execRtcSecond_ahead hv ha, secondOn]
    simp [hp]
  · simp [secondOn, hp, passTime]
  · rw [execRtcSecond_next hv, rtcAlarmDue_due (by rw [secondOn_rtc.2]; exact ha) (by rw [secondOn_rtc.1, secondOn_rtc.2]; exact hr)]
    obtain ⟨h, k⟩ := wakeWork_rtcKept (s := { secondOn s with clk := { (secondOn s).clk with rtcAlarm := 0 } }) 7 hf
    obtain ⟨hrtc, _⟩ := secondOn_rtc (s := s)
    exact ⟨_, rfl, k, h.trans hrtc⟩
  · simp [exec, execXo32Qualified, hv, hn, hx]
  · simp [exec, execXo32QualifyTimeout, hv, hx]
  · have hX : trimOnX s = true := by simp [trimOnX, hx, ht]
    have hw : trimWant s = 250000 := by simp [trimWant, hX]
    refine ⟨_, execAoTrim_alone cycles hv hd ha, ?_, rfl, ?_, hw ▸ trimmedClk_moves cycles, rfl, rfl⟩
    · simp [trimmedClk, trimRef, hX]
    · simp [trimmedClk, trimRef, hX]
  · have hX : trimOnX s = false := by simp [trimOnX, hx]
    have hw : trimWant s = 256000 := by simp [trimWant, hX]
    have hR : trimRef s = true := by simp [trimRef, hr, hp]
    refine ⟨_, execAoTrim_alone cycles hv hd ha, hR, ?_, hw ▸ trimmedClk_moves cycles, rfl, rfl⟩
    simp [trimmedClk, hR, hX]
  · have h := aoWait_cal (s := { switchDue s (· == 2) with clk := trimmedClk s cycles }) (by simpa [aoRcRuns, running] using ha)
    refine ⟨_, execAoTrim_next cycles hv, ?_, ?_⟩
    · rw [aoWait_parts.1]; exact h.1
    · rw [aoWait_parts.1]
      exact fun hs => (h.2 hs).trans (switchDue_cal _).2
  · refine ⟨_, execAoTrim_next cycles hv, ?_, ?_⟩
    · rw [aoWait_parts.2.1, switchDue_single hd hr]
    · rw [aoWait_parts.2.2, switchDue_single hd hr]
      simp [hl]

end Sys2Proof.Machine
end

section
/-! SUPPORT and PROOF of O19. Writes to the host window while the part's core serves it (R183 to R192). -/

namespace Sys2Proof.Machine

variable {s : State}

/-! ### Writes to the live window -/

/-- With PEC off a write to the live window goes through its registers (R184). -/
theorem execRegisterWrite_off {ptr : Byte} {bytes : List Byte} (ho : s.reed.owns = false) (hr : coreRuns s = true)
    (hp : s.port.pecOn = false) (hptr : ptr.toNat < 0x40) :
    exec (.registerWrite ptr bytes none) s = .next (writeBytes s ptr.toNat bytes) := by
  show Host.Outcome.next (i2cWrite s ptr (withPec bytes none)) = _
  rw [i2cWrite_live s _ ho hr hptr, if_neg (by simp [hp]), withPec, Option.toList_none, List.append_nil]

/-- Beyond the window a write does nothing. -/
theorem execRegisterWrite_beyond {ptr : Byte} {bytes : List Byte} {pec : Option Byte} (ho : s.reed.owns = false)
    (hptr : 0x40 ≤ ptr.toNat) : exec (.registerWrite ptr bytes pec) s = .next s := by
  simp [exec, execRegisterWrite, i2cWrite, ho, hptr]

theorem writeBytes_one (off : Nat) (v : Byte) : writeBytes s off [v] = writeWindow s off v := rfl

/-- A byte goes into the inbound buffer while it has room and no submission is being checked (R191). -/
theorem putDataIn_room (b : Byte) (hd : s.port.dbStatus ≠ 0x0101) (hl : s.port.inBuf.length < inCapacity) :
    putDataIn s b = { s with port := { s.port with inBuf := s.port.inBuf ++ [b] } } :=
  if_neg (not_or.mpr ⟨hd, Nat.not_le.mpr hl⟩)

theorem writeBytes_dataIn {bytes : List Byte} (hd : s.port.dbStatus ≠ 0x0101)
    (hl : s.port.inBuf.length + bytes.length ≤ inCapacity) :
    writeBytes s 0x20 bytes = { s with port := { s.port with inBuf := s.port.inBuf ++ bytes } } := by
  induction bytes generalizing s with
  | nil => simp [writeBytes]
  | cons b bs ih =>
    rw [List.length_cons] at hl
    have hw : writeWindow s 0x20 b = { s with port := { s.port with inBuf := s.port.inBuf ++ [b] } } :=
      putDataIn_room b hd (by omega)
    rw [writeBytes, hw, show nextPtr 0x20 = 0x20 from rfl]
    refine (ih (by exact hd) ?_).trans (by simp)
    rw [List.length_append, List.length_singleton]
    omega

/-- R186: a write whose last byte is not its PEC changes nothing but PEC_ERR and the link error count. -/
theorem pecWrite_bad {ptr pec : Byte} {bytes : List Byte} (hl : bytes.length ≤ 255) (h : pec ≠ pecOf s ptr bytes) :
    pecWrite s ptr (withPec bytes (some pec)) = countLink (setIrq s 3) 1 := by
  simp [pecWrite, withPec, Nat.not_lt.mpr hl, h]

theorem execRegisterWrite_pec {ptr : Byte} {bytes : List Byte} {pec : Option Byte} (ho : s.reed.owns = false)
    (hr : coreRuns s = true) (hp : s.port.pecOn = true) (hptr : ptr.toNat < 0x40) :
    exec (.registerWrite ptr bytes pec) s = .next (pecWrite s ptr (withPec bytes pec)) := by
  show Host.Outcome.next (i2cWrite s ptr (withPec bytes pec)) = _
  rw [i2cWrite_live s _ ho hr hptr, if_pos hp]

/-- Settles O19: each of the window's commands is a write from its register's pointer, which PEC lets through or refuses. -/
theorem windowWrites : Obligations.WindowWrites := by
  unfold Obligations.WindowWrites
  refine ⟨fun pec s => ⟨fun _ => rfl, fun _ => ⟨rfl, rfl⟩, rfl, rfl, rfl⟩, fun s ho hr hp => ?_,
    fun bytes pec s ho hr hp hl => ⟨fun ptr hptr hpec => ?_, fun hpec hd hroom => ?_⟩⟩
  · have hw {ptr : Byte} {bytes : List Byte} (hptr : ptr.toNat < 0x40) := execRegisterWrite_off (bytes := bytes) ho hr hp hptr
    refine ⟨fun bytes hd hl => ?_, hw (ptr := 0x0B) (by decide), fun v hv => ?_, fun v => hw (ptr := 0x08) (by decide),
      hw (ptr := 0x0A) (bytes := [0x01]) (by decide), hw (ptr := 0x0A) (bytes := [0x02]) (by decide),
      fun v => hw (ptr := 0x09) (by decide), fun ptr bytes hptr => execRegisterWrite_beyond ho hptr⟩
    · exact (hw (ptr := 0x20) (by decide)).trans (congrArg _ (writeBytes_dataIn hd hl))
    · exact (hw (ptr := 0x0B) (bytes := [v]) (by decide)).trans (congrArg _ (if_neg hv))
  · rw [execRegisterWrite_pec ho hr hp hptr, pecWrite_bad hl hpec]
  · refine (execRegisterWrite_pec (ptr := 0x20) ho hr hp (by decide)).trans (congrArg _ ?_)
    rw [hpec, pecWrite_pecOf s 0x20 hl]
    exact writeBytes_dataIn hd hroom

end Sys2Proof.Machine
end

section
/-! SUPPORT and PROOF of O21. What a frame that has gone out leaves (R224, R226, R234), the reads of the window, and the
doorbell's settling (R190). -/

namespace Sys2Proof.Machine

variable {s : State}

/-! ### Delivered frames -/

/-- What a box keeps of a frame that has gone out in full (R224, R226, R234). -/
def deliveredBox (f : OutFrame) (x : Ctx) : Ctx :=
  { x with
    out := x.out.drop 1, alive := x.alive + 1
    cache := if f.use = .notification ∨ f.use = .refusal ∨ f.more then x.cache
      else x.cache.map (fun e => if e.seq = f.seq then { e with complete := true } else e) }

/-- The context whose transmit side the check-value unit notes a delivery for. -/
def noteCtx : Box → Option Nat
  | .ctx c => some c
  | .conn _ => none

theorem applyReset_none (h : s.rst.resetPend = none) : applyReset s = s := by simp [applyReset, h]

/-- A frame that ends no session, with no reset waiting for it, only leaves its box. -/
theorem afterDelivery_plain {b : Box} {f : OutFrame} (he : f.endsSession = false) (hr : s.rst.resetPend = none) :
    afterDelivery s b f = modBox (noteTx s (noteCtx b) (boxBytes s b)) b (deliveredBox f) := by
  have hm : (modBox (noteTx s (noteCtx b) (boxBytes s b)) b (deliveredBox f)).rst.resetPend = none := by simp [hr]
  have ha := applyReset_none hm
  have hd : afterDelivery s b f = if f.use = .request ∧ f.opcode = 0x0102 ∧ f.status = 0 then
      applyReset (modBox (noteTx s (noteCtx b) (boxBytes s b)) b (deliveredBox f))
    else modBox (noteTx s (noteCtx b) (boxBytes s b)) b (deliveredBox f) := by
    simp only [afterDelivery, he, Bool.not_false, if_true]
    cases b <;> rfl
  rw [hd, ha, ite_self]

theorem deliverHead_plain {b : Box} {f : OutFrame} {fs : List OutFrame} (ho : (getBox s b).out = f :: fs)
    (he : f.endsSession = false) (hr : s.rst.resetPend = none) :
    deliverHead s b = modBox (noteTx s (noteCtx b) (boxBytes s b)) b (deliveredBox f) := by
  rw [← afterDelivery_plain he hr]
  simp [deliverHead, ho]

theorem ctxOf_noteTx (c : Option Nat) (bs : List Byte) (k : Nat) : ctxOf (noteTx s c bs) k = ctxOf s k := by simp [ctxOf]

theorem ctxOf_deliverHead {f : OutFrame} {fs : List OutFrame} {c : Nat} (hc : c < s.ctxs.length) (ho : (ctxOf s c).out = f :: fs)
    (he : f.endsSession = false) (hr : s.rst.resetPend = none) :
    ctxOf (deliverHead s (.ctx c)) c = deliveredBox f (ctxOf s c) := by
  rw [deliverHead_plain (b := .ctx c) ho he hr, modBox, ctxOf_modCtx, if_pos ⟨rfl, by simpa using hc⟩, ctxOf_noteTx]

/-! ### Reads of the live window -/

theorem takeOut_empty (h : (ctxOf s 1).out = []) : takeOut s = (0xFF, s) := by simp [takeOut, h]

theorem takeOut_inside {f : OutFrame} {fs : List OutFrame} (h : (ctxOf s 1).out = f :: fs)
    (hl : s.port.outPos + 1 < (wireBytes 1 (ctxOf s 1) f).length) :
    takeOut s = (byteAt (wireBytes 1 (ctxOf s 1) f) s.port.outPos, setPort s (fun p => { p with outPos := p.outPos + 1 })) := by
  simp [takeOut, h, hl]

theorem takeOut_last {f : OutFrame} {fs : List OutFrame} (h : (ctxOf s 1).out = f :: fs)
    (hl : s.port.outPos + 1 = (wireBytes 1 (ctxOf s 1) f).length) :
    takeOut s = (byteAt (wireBytes 1 (ctxOf s 1) f) s.port.outPos, rewindOut (deliverHead s (.ctx 1))) := by
  simp [takeOut, h, hl]

/-- A read of DATA_OUT from the live window, PEC off, takes its bytes and keeps them as the last read. -/
theorem execDataOut_off {n : Byte} {k : Nat} (ho : s.reed.owns = false) (hr : coreRuns s = true) (hp : s.port.pecOn = false) :
    exec (.dataOut ⟨n, k⟩) s =
      .next (setPort (takeOuts k s).2 (fun p => { p with lastRead := (takeOuts k s).1 })) := by
  simp [exec, execDataOut, ho, portRuns_of_coreRuns s hr, hp]

theorem execDataOut_one {n : Byte} (ho : s.reed.owns = false) (hr : coreRuns s = true) (hp : s.port.pecOn = false) :
    exec (.dataOut ⟨n, 1⟩) s = .next (setPort (takeOut s).2 (fun p => { p with lastRead := [(takeOut s).1] })) :=
  execDataOut_off ho hr hp

theorem skipOut_next {f : OutFrame} {fs : List OutFrame} (h : (ctxOf s 1).out = f :: fs) :
    skipOut s = if isNotif f then countNotifLost (rewindOut (deliverHead s (.ctx 1))) 1 else rewindOut (deliverHead s (.ctx 1)) := by
  simp [skipOut, h]

theorem execOutSkip_off (ho : s.reed.owns = false) (hr : coreRuns s = true) (hp : s.port.pecOn = false) :
    exec (.outSkip none) s = .next (skipOut s) := execRegisterWrite_off (ptr := 0x0A) ho hr hp (by decide)

theorem execNotifLostRead_off (ho : s.reed.owns = false) (hr : coreRuns s = true) (hp : s.port.pecOn = false) :
    exec .notifLostRead s = .next (setPort (modCtx s 1 (fun x => { x with cnt := { x.cnt with notifLost := 0 } }))
      (fun p => { p with lastRead := [b8 (min 255 (ctxOf s 1).cnt.notifLost.toNat)] })) := by
  simp [exec, execNotifLostRead, ho, portRuns_of_coreRuns s hr, setPort, modCtx, hp, liveByte]

theorem execDbDone_bad (hd : s.port.dbStatus = 0x0101) (hr : coreRuns s = true)
    (hb : s.port.inBuf.length < 16 ∨ s.port.inBuf.length ≠ (headerOf s.port.inBuf).total) :
    exec .dbDone s = .next { s with port := { s.port with dbStatus := 0x0202, inBuf := [], irq := s.port.irq ||| 0x02 } } := by
  simp [exec, execDbDone, hd, hr, hb, setIrq, setPort]

theorem execDbDone_good (hd : s.port.dbStatus = 0x0101) (hr : coreRuns s = true) (hl : 16 ≤ s.port.inBuf.length)
    (hb : s.port.inBuf.length = (headerOf s.port.inBuf).total) :
    exec .dbDone s = .next (takeFrame runOpcode .i2c s.port.inBuf { s with port := { s.port with
      dbStatus := 0, inBuf := [], irq := s.port.irq ||| 0x02 } }) := by
  simp [exec, execDbDone, hd, hr, ← hb, Nat.not_lt.mpr hl, setIrq, setPort]

theorem ctxOf_countNotifLost {c : Nat} (hc : c < s.ctxs.length) :
    ctxOf (countNotifLost s c) c = { ctxOf s c with cnt := { (ctxOf s c).cnt with notifLost := satInc16 (ctxOf s c).cnt.notifLost } } := by
  have hm := (ctxOf_modCtx s c c (fun x => { x with cnt := { x.cnt with notifLost := satInc16 x.cnt.notifLost } })).trans
    (if_pos ⟨rfl, hc⟩)
  rw [← hm]
  simp only [countNotifLost]
  (repeat' split) <;> rfl

/-- Settles O21. -/
theorem windowReads : Obligations.WindowReads := by
  unfold Obligations.WindowReads
  refine ⟨fun s ho hr hp => ⟨fun f fs hf hl n => ?_, fun f fs hf he hpend hlen hl n => ⟨_, execDataOut_one ho hr hp, ?_⟩,
    fun hf n => ?_, fun f fs hf he hpend hlen => ⟨_, execOutSkip_off ho hr hp, ?_⟩,
    fun hlen => ⟨_, execNotifLostRead_off ho hr hp, ?_, rfl⟩⟩, fun s f fs k ho hr hp hf hl => ?_,
    fun s hd hr => execDbDone_bad hd hr, fun s hd hr => execDbDone_good hd hr⟩
  · rw [execDataOut_one ho hr hp, takeOut_inside hf hl]
    rfl
  · have hc := ctxOf_deliverHead (s := s) (c := 1) (by omega) hf he hpend
    rw [takeOut_last hf hl]
    refine ⟨?_, ?_, rfl, rfl⟩
    · show (ctxOf (deliverHead s (.ctx 1)) 1).out = fs
      rw [hc, deliveredBox, hf]; rfl
    · show (ctxOf (deliverHead s (.ctx 1)) 1).alive = _
      rw [hc]; rfl
  · rw [execDataOut_off ho hr hp]
    simp [takeOuts, takeOut_empty hf, setPort]
  · have hc := ctxOf_deliverHead (s := s) (c := 1) (by omega) hf he hpend
    have hlen' : 1 < (rewindOut (deliverHead s (.ctx 1))).ctxs.length := by
      rw [deliverHead_plain (b := .ctx 1) hf he hpend]
      simp [rewindOut, setPort, modBox, modCtx, modAt, hlen]
    have hr' : ctxOf (rewindOut (deliverHead s (.ctx 1))) 1 = deliveredBox f (ctxOf s 1) := hc
    rw [skipOut_next hf]
    by_cases hn : f.use = .notification
    · rw [if_pos (by simp [isNotif, hn]), ctxOf_countNotifLost hlen', hr']
      refine ⟨by simp [deliveredBox, hf], ?_, by simp [deliveredBox, hn]⟩
      simp [countNotifLost, setIrq, rewindOut, setPort, modCtx]
    · rw [if_neg (by simp [isNotif, hn]), hr']
      exact ⟨by simp [deliveredBox, hf], rfl, by simp [deliveredBox, hn]⟩
  · show (ctxOf (modCtx s 1 _) 1).cnt.notifLost = 0
    rw [ctxOf_modCtx, if_pos ⟨rfl, by omega⟩]
  · have hk : min (2 + k) 1 = 1 := by omega
    simp [exec, execDataOut, ho, portRuns_of_coreRuns s hr, hp, hk, takeOuts, takeOut_inside hf hl, setPort, pecRead]
    rw [Nat.add_comm 2 k, List.take_succ_cons, List.take_succ_cons, List.take_replicate, Nat.min_eq_left (by omega)]

end Sys2Proof.Machine
end

section
/-! SUPPORT and PROOF of O22. The UART's link frames, USB's bulk transfers and its raw ticket stream (R195 to R201, R336,
R337). -/

namespace Sys2Proof.Machine

variable {s : State}

/-! ### The UART and USB's bulk transfers -/

theorem countLink_ctx {c : Nat} (hc : c < s.ctxs.length) : (ctxOf (countLink s c) c).cnt.link = satAdd32 (ctxOf s c).cnt.link 1 := by
  simp only [countLink, modCnt, modBox]
  rw [ctxOf_modCtx, if_pos ⟨rfl, hc⟩]

theorem countLink_other {c k : Nat} (h : k ≠ c) : ctxOf (countLink s c) k = ctxOf s k := by
  simp only [countLink, modCnt, modBox]
  rw [ctxOf_modCtx, if_neg (fun e => h e.1)]

theorem execUartLinkFrame_open (body : List Byte) (ok : Bool) (hr : coreRuns s = true) :
    exec (.uartLinkFrame body false ok) s = .next { s with uart := { s.uart with
      rx := (s.uart.rx ++ body).take 8192
      rxBad := s.uart.rxBad || !ok || decide (8192 < (s.uart.rx ++ body).length) } } := by
  simp [exec, execUartLinkFrame, hr]

theorem execUartLinkFrame_bad {body : List Byte} {ok : Bool} (hr : coreRuns s = true) (hn : s.uart.rx ++ body ≠ [])
    (hb : uartPayload (s.uart.rx ++ body) = none ∨ ok = false ∨ s.uart.rxBad = true ∨ 8192 < (s.uart.rx ++ body).length) :
    exec (.uartLinkFrame body true ok) s = .next (countLink (uartTaken s) 2) := by
  cases h : uartPayload (s.uart.rx ++ body) with
  | none => simp [exec, execUartLinkFrame, hr, hn, h]
  | some f =>
    have hbad : (s.uart.rxBad || !ok || decide (8192 < (s.uart.rx ++ body).length)) = true := by
      rcases hb with hb | hb | hb | hb <;> simp_all
    simp only [exec, execUartLinkFrame, hr, hn, h, hbad, Bool.not_true, Bool.false_eq_true, if_false, if_true]

theorem execUartLinkFrame_good {body f : List Byte} (hr : coreRuns s = true) (hn : s.uart.rx ++ body ≠ [])
    (hb : s.uart.rxBad = false) (hl : (s.uart.rx ++ body).length ≤ 8192) (hf : uartPayload (s.uart.rx ++ body) = some f) :
    exec (.uartLinkFrame body true true) s = .next (takeFrame runOpcode .uart f (uartTaken s)) := by
  have hl' : ¬ 8192 < (s.uart.rx ++ body).length := Nat.not_lt.mpr hl
  simp [exec, execUartLinkFrame, hr, hn, hb, hf, hl', -List.length_append]

/-- Nothing between two flags is no frame (R196). -/
theorem execUartLinkFrame_empty (ok : Bool) (hx : s.uart.rx = []) (hb : s.uart.rxBad = false) :
    exec (.uartLinkFrame [] true ok) s = .next s := by
  have hu : uartTaken s = s := by
    rw [uartTaken, ← hx, ← hb]
  simp [exec, execUartLinkFrame, hx, hu]

/-! ### USB's raw ticket stream -/

/-- The stream that USB's interface 1 carries. -/
theorem rawIn_usb (ha : s.usb.attached = true) (hc : s.usb.configured = true) :
    rawIn s .usb = some ⟨3, true, s.usb.raw, s.usb.skip, s.usb.hunt⟩ := by simp [rawIn, ha, hc]

theorem pump_empty {l : Link} {w : RawIn} (k : Nat) (hw : rawIn s l = some w) (hb : w.buf = []) : pump l k s = s := by
  cases k with
  | zero => rfl
  | succ k => simp [pump, hw, rawStep, hb]

/-- One step that empties the buffer is all of the reading. -/
theorem pump_once {l : Link} {w w' : RawIn} {t : State} (k : Nat) (hw : rawIn s l = some w) (hs : rawStep s w = some (t, w'))
    (ht : rawIn (putRaw t l w') l = some w') (hb : w'.buf = []) : pump l (k + 1) s = putRaw t l w' := by
  simp [pump, hw, hs, pump_empty k ht hb]

/-- USB's raw stream is read up from bytes that come in between records (R336, R337). -/
def rawTaken (s : State) (bytes : List Byte) : State := putRaw (wakeDoze s) .usb ⟨3, true, bytes, 0, s.usb.hunt⟩

theorem execRawJobRecord_usb {bytes : List Byte} (hr : coreRuns s = true) (ha : s.usb.attached = true)
    (hc : s.usb.configured = true) (hraw : s.usb.raw = []) (hskip : s.usb.skip = 0) :
    exec (.rawJobRecord .usb bytes) s =
      .next (schedule (pump .usb (2 * bytes.length + 3 + 1) (rawTaken s bytes))) := by
  simp [exec, execRawJobRecord, hr, rawIn_usb ha hc, hraw, hskip, rawWaits, rawTaken, countIn]

theorem rawIn_rawTaken {bytes : List Byte} (ha : s.usb.attached = true) (hc : s.usb.configured = true) :
    rawIn (rawTaken s bytes) .usb = some ⟨3, true, bytes, 0, s.usb.hunt⟩ := by
  simp [rawTaken, rawIn, putRaw, ha, hc]

theorem rawTaken_open {bytes : List Byte} (ha : s.usb.attached = true) (hc : s.usb.configured = true) :
    (rawTaken s bytes).usb.attached = true ∧ (rawTaken s bytes).usb.configured = true := by
  simp [rawTaken, putRaw, ha, hc]

theorem rawJob_jobs {t : State} (c : Nat) (h : t.jobs = s.jobs) : rawJob t c = rawJob s c := by simp [rawJob, h]

/-- A byte that cannot begin a record is discarded; the first of a run counts one resynchronisation for context 3. -/
theorem rawStep_junk {t : State} {b : Byte} {hunt : Bool} (hj : rawJob t 3 = none) (hb : b ≠ 0x4E) :
    rawStep t ⟨3, true, [b], 0, hunt⟩ = some (if hunt then t else countLink t 3, ⟨3, true, [], 0, true⟩) := by
  have hs : (slice [b] 0 4 == (ascii "NLRJ").take 1) = false := by simpa [slice, ascii] using hb
  have hh : recordHeadOk [b] = false := by simp [recordHeadOk, slice, ascii]
  have hj' : rawJob t ((3 : Fin 12) : Nat) = none := hj
  simp [rawStep, hj, hj', hs, hh]

theorem rawStep_head {t : State} {bytes : List Byte} {hunt : Bool} (hj : rawJob t 3 = none) (hl : bytes.length = 16)
    (hh : recordHeadOk bytes = true) (hp : fieldAt bytes 4 1 ≤ 2) (hq : fieldAt bytes 6 1 ≤ 3) (hroom : jobRoom t 3 = true)
    (hid : idsSpent t = false) :
    rawStep t ⟨3, true, bytes, 0, hunt⟩ =
      some (addRaster t 3 (slice bytes 4 8) true (fieldAt bytes 12 4), ⟨3, true, [], 0, false⟩) := by
  have hne : bytes ≠ [] := fun h => by simp [h] at hl
  have hj' : rawJob t ((3 : Fin 12) : Nat) = none := hj
  have hroom' : jobRoom t ((3 : Fin 12) : Nat) = true := hroom
  have hdrop : bytes.drop 16 = [] := List.drop_eq_nil_of_le (Nat.le_of_eq hl)
  simp [rawStep, hj, hj', hh, hne, hl, recordTaken, hp, hq, hroom, hroom', hid, hdrop]

@[simp] theorem notifyJob_usbBut (j : Job) (p d : Nat) : usbBut (notifyJob s j p d).usb = usbBut s.usb := notify_usbBut _ _ _ _

@[simp] theorem addRaster_usbBut (c : Fin 12) (p : List Byte) (raw : Bool) (n : Nat) :
    usbBut (addRaster s c p raw n).usb = usbBut s.usb := by simp [addRaster, addJob]

theorem attached_of_usbBut {u v : Usb} (h : usbBut u = usbBut v) : u.attached = v.attached ∧ u.configured = v.configured :=
  show (usbBut u).attached = (usbBut v).attached ∧ (usbBut u).configured = (usbBut v).configured by rw [h]; exact ⟨rfl, rfl⟩

theorem addRaster_jobs (c : Fin 12) (p : List Byte) (raw : Bool) (n : Nat) :
    (addRaster s c p raw n).jobs.nextId = s.jobs.nextId + 1 ∧
    ∃ k : Job, (addRaster s c p raw n).jobs.live = s.jobs.live ++ [k] ∧ k.id = s.jobs.nextId ∧ k.ctx = c ∧ k.raw = raw ∧
      k.st = .rendering := by
  simp [addRaster, addJob, latchTicket, newJob]

/-- Settles O22. -/
theorem linkFramesArrive : Obligations.LinkFramesArrive := by
  unfold Obligations.LinkFramesArrive
  refine ⟨fun high s => rfl, fun s hr => ?_, fun body ok s hr => execUartLinkFrame_open body ok hr,
    fun body ok s hr hn hb => execUartLinkFrame_bad hr hn hb, fun ok s hx hb => execUartLinkFrame_empty ok hx hb,
    fun body f s hr hn hb hl hf => execUartLinkFrame_good hr hn hb hl hf,
    fun s hl => ⟨countLink_ctx (by omega), fun c hc => countLink_other hc, rfl⟩, fun bytes s hu hb => ?_, fun bytes s hu h16 hl ht => ?_,
    fun b s hr ha hc hraw hskip hj hb hl => ?_, fun bytes s hr ha hc hraw hskip hj hl hh hp hq hroom hid => ?_⟩
  · simp [exec, execUartFrameGapExpiry, hr]
  · simp only [exec, execUsbBulkOut, hu, hb]
    rfl
  · have hb : ¬ (4124 < bytes.length ∨ bytes.length < 16 ∨ bytes.length < (headerOf bytes).total) := by omega
    simp only [exec, execUsbBulkOut, hu, hb]
    rfl
  · refine ⟨_, execRawJobRecord_usb hr ha hc hraw hskip, ?_⟩
    have hs := rawStep_junk (t := rawTaken s [b]) (hunt := s.usb.hunt) ((rawJob_jobs 3 (by simp [rawTaken, putRaw])).trans hj) hb
    have hu := rawTaken_open (bytes := [b]) ha hc
    rw [pump_once _ (rawIn_rawTaken ha hc) hs (by split <;> simp [rawIn, putRaw, hu]) rfl]
    refine ⟨rfl, rfl, by split <;> simp [putRaw, rawTaken], ?_⟩
    have hx : ctxOf (rawTaken s [b]) 3 = ctxOf s 3 := by simp [ctxOf, rawTaken, putRaw]
    cases s.usb.hunt with
    | true => exact congrArg (·.cnt.link) hx
    | false => exact (countLink_ctx (s := rawTaken s [b]) (by simp [rawTaken, putRaw, hl])).trans (congrArg (satAdd32 ·.cnt.link 1) hx)
  · refine ⟨_, execRawJobRecord_usb hr ha hc hraw hskip, ?_⟩
    have hjobs : (rawTaken s bytes).jobs = s.jobs := by simp [rawTaken, putRaw]
    have hs := rawStep_head (t := rawTaken s bytes) (hunt := s.usb.hunt) ((rawJob_jobs 3 hjobs).trans hj) hl hh hp hq
      (by rw [jobRoom, unfinished, hjobs]; exact hroom) (by rw [idsSpent, hjobs]; exact hid)
    have ho := rawTaken_open (bytes := bytes) ha hc
    have hu := attached_of_usbBut (addRaster_usbBut (s := rawTaken s bytes) 3 (slice bytes 4 8) true (fieldAt bytes 12 4))
    rw [pump_once _ (rawIn_rawTaken ha hc) hs (by simp [rawIn, putRaw, hu.1.trans ho.1, hu.2.trans ho.2]) rfl]
    obtain ⟨hn, hk⟩ := addRaster_jobs (s := rawTaken s bytes) 3 (slice bytes 4 8) true (fieldAt bytes 12 4)
    rw [hjobs] at hn hk
    exact ⟨rfl, rfl, hn, hk⟩

end Sys2Proof.Machine
end

section
/-! SUPPORT and PROOF of O23. USB's bus events and control transfers; which jobs a cancellation leaves (R200 to R204). -/

namespace Sys2Proof.Machine

variable {s : State}

/-! ### Jobs that leave the unfinished ones -/

/-- The IDs of the unfinished jobs. -/
def liveIds (s : State) : List Nat := s.jobs.live.map (·.id)

theorem jobOf_eq_none {id : Nat} : jobOf s id = none ↔ id ∉ liveIds s := by
  simp [jobOf, liveIds]

theorem jobOf_id {id : Nat} {j : Job} (h : jobOf s id = some j) : j.id = id := by
  simpa using List.find?_some h

theorem liveIds_of_jobs {t : State} (h : t.jobs = s.jobs) : liveIds t = liveIds s := by simp [liveIds, h]

theorem liveIds_modJob {id : Nat} {f : Job → Job} (hf : ∀ j, (f j).id = j.id ∨ (f j).id = id) : liveIds (modJob s id f) = liveIds s := by
  simp only [liveIds, modJob, List.map_map]
  refine List.map_congr_left fun j _ => ?_
  simp only [Function.comp_apply]
  split
  · next h => rcases hf j with hj | hj <;> simp [hj, h]
  · rfl

theorem liveIds_setJobHeld (id : Nat) (st : JobSt) (d : Nat) (hold : Half) : liveIds (setJobHeld s id st d hold) = liveIds s := by
  simp only [setJobHeld]
  split
  · rfl
  · next j hj =>
    have hm := liveIds_modJob (s := s) (id := id) (f := fun _ => { j with st := st, hold := hold, detail := BitVec.ofNat 32 d })
      fun _ => .inr (show j.id = id from jobOf_id hj)
    rw [← hm]
    refine liveIds_of_jobs ?_
    split <;> simp [modJob]

theorem liveIds_retireJob (id : Nat) : liveIds (retireJob s id) = (liveIds s).filter (· != id) := by
  simp only [retireJob]
  split
  · next h =>
    rw [jobOf_eq_none] at h
    exact (List.filter_eq_self.mpr fun k hk => by simpa using fun e : k = id => h (e ▸ hk)).symm
  · simp [liveIds, List.filter_map, Function.comp_def]

theorem liveIds_cancelNow (id : Nat) : liveIds (cancelNow s id) = (liveIds s).filter (· != id) := by
  simp only [cancelNow, finishJob, setJobState]
  rw [liveIds_retireJob, liveIds_setJobHeld, liveIds_modJob (f := freeRaster) fun _ => .inl rfl]

theorem liveIds_foldl_cancelNow (ids : List Nat) (s : State) :
    liveIds (ids.foldl cancelNow s) = (liveIds s).filter (fun k => !ids.contains k) := by
  induction ids generalizing s with
  | nil => exact (List.filter_eq_self.mpr fun _ _ => rfl).symm
  | cons id ids ih =>
    rw [List.foldl_cons, ih, liveIds_cancelNow, List.filter_filter]
    refine List.filter_congr fun k _ => ?_
    simp [Bool.and_comm, bne, Bool.beq_eq_decide_eq]

/-! ### USB's bus and its transfers -/

/-- Leaving DOZE does not depend on USB. -/
theorem wakeDoze_setUsb (f : Usb → Usb) : wakeDoze (setUsb s f) = setUsb (wakeDoze s) f := by
  simp only [wakeDoze, enterPstate, logEvent, logFor, logAt, countLost, apply_ite (setUsb · f)]
  rfl

theorem execUsbVbusRise_attaches (hr : coreRuns s = true) (he : pv s.params 0x0220 = 1) (hc : s.pwr.collect = none)
    (hn : s.pwr.entry = none) (hp : s.seq.ph ≠ .faultOff) :
    exec .usbVbusRise s = .next { wakeDoze s with usb := { s.usb with vbus := true, attached := true } } := by
  have hw := wakeSource_quiet (s := setUsb s (fun u => { u with vbus := true })) 10 hc hn hp
  have hr' : coreRuns (setUsb s (fun u => { u with vbus := true })) = true := hr
  simp only [exec, execUsbVbusRise, hw, hr', if_true, wakeDoze_setUsb]
  simp [usbAttach, setUsb, he]

/-- The raw jobs of USB that a soft reset cancels. -/
def softResetIds (s : State) : List Nat :=
  (s.jobs.live.filter (fun j => j.raw && j.ctx.val == 3 && [JobSt.queued, .rendering, .ready, .held].contains j.st)).map (·.id)

theorem execSoftReset_next (h : usbAnswers s = true) : exec .softReset s = .next (setUsb ((softResetIds s).foldl cancelNow s)
    (fun u => { u with raw := [], skip := 0, hunt := false, control := some [] })) := by
  simp [exec, execSoftReset, h, softResetIds]

/-- Settles O23. -/
theorem usbBusAndTransfers : Obligations.UsbBusAndTransfers := by
  unfold Obligations.UsbBusAndTransfers
  refine ⟨fun s hr he hc hn hp => execUsbVbusRise_attaches hr he hc hn hp, fun s ha => ?_, fun s ha => ?_,
    fun s => ⟨_, rfl, ?_, fun hl => ?_, ?_⟩, fun s => ⟨fun hd ha hr => ?_, fun h => ?_⟩,
    fun s hu => ⟨?_, fun q h1 h2 => ?_, ⟨_, execSoftReset_next hu, rfl, rfl, rfl, rfl, fun j hj hraw hc hst => ?_, fun hno => ?_⟩,
      fun hc hrep => ?_⟩, fun s a hu ha => ?_, fun s hu => ⟨?_, ?_⟩⟩
  · simp [exec, execUsbBusReset, ha, setUsb]
  · simp [exec, execUsbSuspend, ha, setUsb]
  · simp [setUsb]
  · have hx (c : Nat) := ctxOf_modCtx (setUsb (usbEvent s) (fun u => { u with
      vbus := false, attached := false, address := 0, configured := false, suspended := false, halted := [], raw := []
      skip := 0, hunt := false })) 3 c (fun x => { x with keyed := none, opening := none })
    refine ⟨?_, fun c hc => ?_⟩
    · exact (congrArg Ctx.keyed (hx 3)).trans (by rw [if_pos ⟨rfl, by simp [setUsb, hl]⟩])
    · refine (hx c).trans ((if_neg fun h => hc h.1).trans ?_)
      simp [ctxOf, setUsb]
  · have hu : (usbEvent s).usb = s.usb := by simp
    have hc : (usbEvent s).ctxs = s.ctxs := by simp
    rw [← hu, ← hc]
    rfl
  · simp [usbEvent, ha, hr, wakeDoze_runs hd]
  · rcases h with h | h <;> simp [usbEvent, h]
  · simp [exec, execGetPortStatus, hu, setUsb]
  · exact congrArg _ (if_pos ⟨hu, h1, h2⟩)
  · rw [jobOf_eq_none]
    show j.id ∉ liveIds ((softResetIds s).foldl cancelNow s)
    rw [liveIds_foldl_cancelNow]
    have hm : j.id ∈ softResetIds s := List.mem_map_of_mem (List.mem_filter.mpr ⟨hj, by simp [hraw, hc, hst, show ((3 : Fin 12) : Nat) = 3 from rfl]⟩)
    simp [hm]
  · have hids : softResetIds s = [] := by
      rw [softResetIds, List.map_eq_nil_iff, List.filter_eq_nil_iff]
      intro j hj
      have hout : j.raw = false ∨ ¬ j.ctx.val = 3 := by simpa using List.all_eq_true.mp hno j hj
      rcases hout with h | h <;> simp [h]
    rw [hids]
    rfl
  · simp [exec, execUsbInterruptReport, hu, hc, hrep, setUsb]
  · simp [exec, execUsbStandardRequest, hu, usbStandard, ha, setUsb]
  · simp [exec, execUsbStandardRequest, hu, usbStandard, setUsb]
  · simp [exec, execUsbStandardRequest, hu, usbStandard, usbDescriptor, setUsb]

end Sys2Proof.Machine
end

section
/-! SUPPORT and PROOF of O25. Connections that come, and what one that closes leaves of the network (R207 to R214). -/

namespace Sys2Proof.Machine

variable {s : State}

/-! ### Connections that close -/

theorem connOf_eq_none {id : Nat} : connOf s id = none ↔ ∀ k ∈ s.net.conns, k.id ≠ id := by
  simp [connOf]

/-- A connection that closes is gone, and nothing else of the network changes. -/
theorem closeConn_net (id : Nat) : (closeConn s id).net = { s.net with conns := s.net.conns.filter (fun k => k.id != id) } := by
  simp only [closeConn]
  split
  · next h =>
    have hf : s.net.conns.filter (fun k => k.id != id) = s.net.conns :=
      List.filter_eq_self.mpr fun k hk => by simpa using connOf_eq_none.mp h k hk
    rw [hf]
  · (repeat' split) <;> simp

theorem closeConn_conns (id : Nat) : (closeConn s id).net.conns = s.net.conns.filter (fun k => k.id != id) := by
  rw [closeConn_net]

/-- Where a link's only connection is among those that close, none is left. -/
theorem closeConns_only {k : Conn} {p : Conn → Bool} (hk : s.net.conns = [k]) (hp : p k = true) : (closeConns s p).net.conns = [] := by
  simp [closeConns, hk, hp, closeConn_conns]

/-! ### Connections -/

theorem execTcpConnect_taken {raw : Bool} {id : Nat} {source dest : IpAddr} {c : Fin 12} (hn : netRuns s = true)
    (hu : s.net.up = true) (hb : boundAt s.net dest = true) (hl : lifecycle s.otp < 3) (hi : inBackoff s source = false)
    (hid : connOf s id = none) (hc : lowestFree s = some c) (hr : raw = true → pv s.params 0x0D04 = 1) :
    exec (.tcpConnect raw id source dest) s = .next (setNet (wakeDoze s) (fun n => { n with conns := n.conns ++
      [{ id, source, dest, raw, ctx := if raw then some c else none, box := Ctx.fresh, buf := [], skip := 0, hunt := false }] })) := by
  have hg : ¬ ((!netRuns s) = true ∨ (!s.net.up) = true ∨ (!boundAt s.net dest) = true ∨ (raw = true ∧ pv s.params 0x0D04 ≠ 1) ∨
      3 ≤ lifecycle s.otp ∨ inBackoff s source = true ∨ (connOf s id).isSome = true) := by
    simp [hn, hu, hb, hi, hid, hl]
    exact hr
  refine (if_neg hg).trans ?_
  rw [hc]

theorem execTcpConnect_refused {raw : Bool} {id : Nat} {source dest : IpAddr}
    (h : boundAt s.net dest = false ∨ inBackoff s source = true) : exec (.tcpConnect raw id source dest) s = .next s := by
  refine if_pos ?_
  rcases h with h | h <;> simp [h]

/-- Settles O25. -/
theorem connectionsComeAndGo : Obligations.ConnectionsComeAndGo := by
  unfold Obligations.ConnectionsComeAndGo
  refine ⟨fun id source dest s c hn hu hb hl hi hid hc => ⟨⟨_, execTcpConnect_taken hn hu hb hl hi hid hc fun h => absurd h (by decide), ?_⟩,
      fun hr => ⟨_, execTcpConnect_taken hn hu hb hl hi hid hc fun _ => hr, ?_⟩⟩,
    fun raw id source dest s h => execTcpConnect_refused h, fun id k s hk => ⟨closeConn (wakeDoze s) id, ?_, ?_⟩,
    fun id k s hk hr ho => ⟨closeConn (wakeDoze s) id, ?_, ?_⟩, fun c k s hk ho hc => ⟨_, rfl, ?_⟩, fun k s hk ho hu hr => ?_⟩
  · simp [setNet]
  · simp [setNet]
  · simp [exec, execTcpClose, hk]
  · simp [closeConn_conns]
  · simp [exec, execSessionProveTimeout, hk, hr, ho]
  · simp [closeConn_conns]
  · exact closeConns_only (s := wakeDoze s) (k := k) (by simp [hk]) (by simpa [hc, connOpen, ctxOf] using ho)
  · have hc := closeConns_only (s := wakeDoze s) (k := k) (p := connOpen (wakeDoze s)) (by simp [hk]) (by simpa [connOpen, ctxOf] using ho)
    refine ⟨updateAllocation (setNet (closeConns (wakeDoze s) (connOpen (wakeDoze s))) (fun n => { n with
      lldpOn := false, lldpAlloc := 0 })), ?_, ?_⟩
    · simp [exec, execLinkLossGraceExpiry, hu, hr]
    · simp [setNet, hc]

end Sys2Proof.Machine
end

section
/-! SUPPORT and REFUTATION of O24. An address that goes closes its sessions by their connections' IDs (R206, R213). -/

namespace Sys2Proof.Machine

variable {s : State}

/-! ### An address that goes -/

theorem execAddressChange_ipv6Gone {a : BitVec 128} (hn : netRuns s = true) (hs : pv s.params 0x0D09 = 1) (ha : s.net.ip6 = some a) :
    exec (.addressChange (.ipv6 none)) s =
      .next (bindAddress (logEvent (endOnAddress (wakeDoze s) (.v6 a)) 0x0D02 (addressData (.v6 a))) (.ipv6 none)) := by
  simp [exec, execAddressChange, hn, eventServed, hs, heldAddress, eventAddress, ha]

theorem bindAddress_conns (e : AddrEvent) : (bindAddress s e).net.conns = s.net.conns := by
  simp only [bindAddress, setNet]
  split <;> rfl

/-- Two connections of one ID to two of the part's IPv6 addresses, the first of which is about to go. -/
def sharedIdConn (dest : BitVec 128) : Conn :=
  { id := 5, source := .v4 3, dest := .v6 dest, raw := false, ctx := none, box := Ctx.fresh, buf := [], skip := 0, hunt := false }

def sharedId : State := { State.reset with
  rst := { State.reset.rst with main := .ready }
  params := { State.reset.params with committed := [(0x0D09, [1])], atStart := [(0x0D09, [1])] }
  net := { State.reset.net with phyOn := true, ip6 := some 1, conns := [sharedIdConn 1, sharedIdConn 2] } }

theorem sharedId_closes : (endOnAddress (wakeDoze sharedId) (.v6 1)).net.conns = [] := by
  have hc : sharedId.net.conns = [sharedIdConn 1, sharedIdConn 2] := rfl
  simp [endOnAddress, closeConns, hc, sharedIdConn, closeConn_conns]

/-- Refutes O24: a connection is closed by its ID, and where a second one to another address has the same ID, in a state that the
premises do not exclude, it goes with it. -/
theorem not_ethernetAddressesAndLldp : ¬ Obligations.EthernetAddressesAndLldp := by
  unfold Obligations.EthernetAddressesAndLldp
  rintro ⟨_, _, h6, _⟩
  obtain ⟨hgone, _⟩ := h6 sharedId 1 (by decide) (by decide)
  obtain ⟨t, ht, _, _, _, hkept⟩ := hgone rfl
  have hmem : sharedIdConn 2 ∈ t.net.conns := hkept (sharedIdConn 2) (by simp [sharedId]) (by decide)
  rw [execAddressChange_ipv6Gone (by decide) (by decide) rfl] at ht
  injection ht with ht
  rw [← ht] at hmem
  rw [bindAddress_conns, logEvent_eq] at hmem
  rw [show _ = [] from sharedId_closes] at hmem
  exact absurd hmem (by simp)

end Sys2Proof.Machine
end

section
/-! SUPPORT and PROOF of O26. Steps 2 to 6 of admission: what each check of a frame that has come in leaves (R219 to R222,
R237). -/

namespace Sys2Proof.Machine

variable {s : State}

/-! ### A frame that has come in -/

theorem boxOf_congr {t : State} (hn : t.net.conns = s.net.conns) (hc : t.ctxs = s.ctxs) (l : Link) : boxOf t l = boxOf s l := by
  cases l <;> simp [boxOf, connOf, connOpen, ctxOf, hn, hc]

theorem getBox_congr {t : State} (hn : t.net.conns = s.net.conns) (hc : t.ctxs = s.ctxs) (b : Box) : getBox t b = getBox s b := by
  cases b <;> simp [getBox, connOf, ctxOf, hn, hc]

theorem linkContext_congr {t : State} (hn : t.net.conns = s.net.conns) (l : Link) : linkContext t l = linkContext s l := by
  cases l <;> simp [linkContext, connOf, hn]

theorem countIn_conns (l : Link) (n : Nat) : (countIn s l n).net.conns = s.net.conns := by cases l <;> rfl

/-- What has come in of a frame whose link is up (R522). -/
def cameIn (l : Link) (bs : List Byte) (s : State) : State := arrived l bs (countIn s l bs.length)

theorem cameIn_parts (l : Link) (bs : List Byte) : (cameIn l bs s).net.conns = s.net.conns ∧ (cameIn l bs s).ctxs = s.ctxs ∧
    (cameIn l bs s).otp = s.otp := by
  simp [cameIn, arrived, countIn_conns]

theorem cameIn_boxOf (l k : Link) (bs : List Byte) : boxOf (cameIn l bs s) k = boxOf s k :=
  boxOf_congr (cameIn_parts l bs).1 (cameIn_parts l bs).2.1 k

theorem cameIn_getBox (l : Link) (bs : List Byte) (b : Box) : getBox (cameIn l bs s) b = getBox s b :=
  getBox_congr (cameIn_parts l bs).1 (cameIn_parts l bs).2.1 b

theorem cameIn_linkContext (l k : Link) (bs : List Byte) : linkContext (cameIn l bs s) k = linkContext s k :=
  linkContext_congr (cameIn_parts l bs).1 k

/-- A link's frame passes admission once it has come in. -/
theorem execMailboxFrame_up {l : Link} {bs : List Byte} (hm : mailboxUp s = true) (hl : linkUp s l = true) :
    exec (.mailboxFrame l bs) s = .next (takeFrame runOpcode l bs (countIn s l bs.length)) := by
  simp [exec, execMailboxFrame, hm, hl]

/-- Steps 5 and 6 of admission, of a frame whose header and check are sound. -/
def checkContext (run : Nat → Req → State → State) (l : Link) (bs : List Byte) (b : Box) (s : State) : State :=
  let h := headerOf bs
  let wrongCtx := match linkContext s l with
    | some c => decide (h.context ≠ c)
    | none => decide (12 ≤ h.context) && h.opcode != 0x0B01
  if wrongCtx then refuseFrame (modCnt s b (fun n => { n with context := satInc16 n.context })) b h stNoRight
  else if !tagOk s b h bs then tagFailure s b h
  else
  let s := modBox s b (fun x => { x with tagFails := 0 })
  sequenceRules s b h (fun s =>
    if hc : h.context < 12 then
      run h.opcode { link := l, ctx := ⟨h.context, hc⟩, seq := h.seq, more := h.flags.testBit 2, payload := slice bs 16 h.length } s
    else
      let (v, s) := drawNonce s
      answer (modBox s b (fun x => { x with e := some (h.seq + 1) })) b h.opcode h.seq (decide (8 ≤ slotsUsed (getBox s b)))
        (Reply.range v.toNat))

theorem boxOf_arriving (l : Link) (n : Nat) : boxOf (wakeDoze (countIn s l n)) l = boxOf s l :=
  boxOf_congr (by simp [countIn_conns]) (by simp) l

variable {l : Link} {bs : List Byte} {run : Nat → Req → State → State}

theorem takeFrame_badHeader (hl : ∀ id, l ≠ .conn id) (hh : headerOk bs = false) :
    takeFrame run l bs (countIn s l bs.length) =
      modCnt (cameIn l bs s) (boxOf s l) (fun n => { n with hdr := satInc16 n.hdr }) := by
  simp only [takeFrame, hh, boxOf_arriving]
  cases l with
  | conn id => exact absurd rfl (hl id)
  | _ => rfl

theorem takeFrame_badLength (hh : headerOk bs = true) (hb : 4096 < (headerOf bs).length ∨ bs.length ≠ (headerOf bs).total) :
    takeFrame run l bs (countIn s l bs.length) = refuseFrame
      (modCnt (cameIn l bs s) (boxOf s l) (fun n => { n with len := satInc16 n.len })) (boxOf s l) (headerOf bs) stBadLength := by
  rw [takeFrame, boxOf_arriving]
  simp only [hh, Bool.not_true, Bool.false_eq_true, if_false, hb, if_true]
  rfl

/-- A frame of the length that its header gives (step 2). -/
def lengthOk (bs : List Byte) : Prop := headerOk bs = true ∧ (headerOf bs).length ≤ 4096 ∧ bs.length = (headerOf bs).total

/-- The FCRC is that of the header and the payload (step 3). -/
def fcrcOk (bs : List Byte) : Prop :=
  slice bs (16 + (headerOf bs).length) 4 = b32 (crc32c (bs.take (16 + (headerOf bs).length))).toNat

/-- The version and the flags are those of the spec (step 4). -/
def formatOk (bs : List Byte) : Prop := (headerOf bs).version = 2 ∧ (headerOf bs).flags &&& 0xF3 = 0

theorem lengthOk.not_bad (h : lengthOk bs) : ¬ (4096 < (headerOf bs).length ∨ bs.length ≠ (headerOf bs).total) := by
  obtain ⟨_, hl, ht⟩ := h
  omega

theorem takeFrame_badCheck (hh : lengthOk bs) (hb : ¬ fcrcOk bs) :
    takeFrame run l bs (countIn s l bs.length) = refuseFrame
      (modCnt (cameIn l bs s) (boxOf s l) (fun n => { n with fcrc := satInc16 n.fcrc })) (boxOf s l) (headerOf bs) stBadCheck := by
  rw [takeFrame, boxOf_arriving]
  simp only [hh.1, Bool.not_true, Bool.false_eq_true, if_false, hh.not_bad]
  exact if_pos hb

theorem takeFrame_badFormat (hh : lengthOk bs) (hc : fcrcOk bs) (hb : (headerOf bs).version ≠ 2 ∨ (headerOf bs).flags &&& 0xF3 ≠ 0) :
    takeFrame run l bs (countIn s l bs.length) = refuseFrame
      (modCnt (cameIn l bs s) (boxOf s l) (fun n => { n with format := satInc16 n.format })) (boxOf s l) (headerOf bs)
      stBadOpcode := by
  rw [takeFrame, boxOf_arriving]
  simp only [hh.1, Bool.not_true, Bool.false_eq_true, if_false, hh.not_bad]
  exact (if_neg (not_not_intro hc)).trans (if_pos hb)

/-- Steps 2 to 4 let a sound frame through. -/
theorem takeFrame_sound (hh : lengthOk bs) (hc : fcrcOk bs) (hf : formatOk bs) :
    takeFrame run l bs (countIn s l bs.length) = checkContext run l bs (boxOf s l) (cameIn l bs s) := by
  rw [takeFrame, boxOf_arriving]
  simp only [hh.1, Bool.not_true, Bool.false_eq_true, if_false, hh.not_bad]
  obtain ⟨hv, hg⟩ := hf
  exact (if_neg (not_not_intro hc)).trans (if_neg (not_or.mpr ⟨not_not_intro hv, not_not_intro hg⟩))

theorem checkContext_wrong {b : Box} (h : (∃ c, linkContext s l = some c ∧ (headerOf bs).context ≠ c) ∨
      (linkContext s l = none ∧ 12 ≤ (headerOf bs).context ∧ (headerOf bs).opcode ≠ 0x0B01)) :
    checkContext run l bs b s =
      refuseFrame (modCnt s b (fun n => { n with context := satInc16 n.context })) b (headerOf bs) stNoRight := by
  rw [checkContext]
  refine if_pos ?_
  obtain ⟨c, hc, hne⟩ | ⟨hc, h12, hop⟩ := h
  · simp [hc, hne]
  · simp [hc, h12, hop]

theorem checkContext_right {b : Box} (h : linkContext s l = some (headerOf bs).context) (ht : tagOk s b (headerOf bs) bs = false) :
    checkContext run l bs b s = tagFailure s b (headerOf bs) := by
  simp [checkContext, h, ht]

/-- A tag where there is no key, or one that is missing or wrong where there is one. -/
theorem tagOk_false {b : Box} (h : ((getBox s b).keyed = none ∧ (headerOf bs).flags.testBit 3 = true) ∨
      (∃ k, (getBox s b).keyed = some k ∧ ((headerOf bs).flags.testBit 3 = false ∨
        slice bs (20 + (headerOf bs).length) 8 ≠ (hmac k.key (bs.take (20 + (headerOf bs).length))).take 8))) :
    tagOk s b (headerOf bs) bs = false := by
  obtain ⟨hk, hf⟩ | ⟨k, hk, hf | hf⟩ := h
  · simp [tagOk, hk, hf]
  · simp [tagOk, hk, hf]
  · simp [tagOk, hk, hf]

/-! ### The refusal slot and the tag's failures -/

theorem refuseFrame_soon {b : Box} {h : Header} {st : Nat} {t : Time} (ht : (getBox s b).refusedAt = some t) (hs : since s t < 1000) :
    refuseFrame s b h st = s := by
  simp [refuseFrame, ht, hs]

theorem refuseFrame_due {b : Box} {h : Header} {st : Nat}
    (hd : (getBox s b).refusedAt = none ∨ ∃ t, (getBox s b).refusedAt = some t ∧ 1000 ≤ since s t) :
    refuseFrame s b h st = refuseVia (if refusalUsed (getBox s b) then s else modBox s b (fun x => { x with
      refusedAt := some (now s) })) b .refusal h.opcode h.seq (Reply.no st) := by
  obtain hn | ⟨t, ht, hs⟩ := hd
  · simp [refuseFrame, hn]
  · simp [refuseFrame, ht, Nat.not_lt.mpr hs]

/-- A context's own checks of a tag, and its key. -/
def TagKept (s t : State) (c : Nat) : Prop :=
  (ctxOf t c).cnt.tag = (ctxOf s c).cnt.tag ∧ (ctxOf t c).tagFails = (ctxOf s c).tagFails ∧ (ctxOf t c).keyed = (ctxOf s c).keyed ∧
  t.net = s.net ∧ t.ctxs.length = s.ctxs.length

theorem TagKept.trans {s t u : State} {c : Nat} (h : TagKept s t c) (k : TagKept t u c) : TagKept s u c :=
  ⟨k.1.trans h.1, k.2.1.trans h.2.1, k.2.2.1.trans h.2.2.1, k.2.2.2.1.trans h.2.2.2.1, k.2.2.2.2.trans h.2.2.2.2⟩

theorem modCtx_tagKept {c : Nat} {f : Ctx → Ctx} (hf : ∀ x, (f x).cnt.tag = x.cnt.tag ∧ (f x).tagFails = x.tagFails ∧
    (f x).keyed = x.keyed) : TagKept s (modCtx s c f) c := by
  have hx : ctxOf (modCtx s c f) c = f (ctxOf s c) ∨ ctxOf (modCtx s c f) c = ctxOf s c := by
    rw [ctxOf_modCtx]
    split
    · exact .inl rfl
    · exact .inr rfl
  obtain ⟨h1, h2, h3⟩ := hf (ctxOf s c)
  have hl : (modCtx s c f).ctxs.length = s.ctxs.length := by simp [modCtx, modAt]
  rcases hx with hx | hx
  · exact ⟨by rw [hx, h1], by rw [hx, h2], by rw [hx, h3], rfl, hl⟩
  · exact ⟨by rw [hx], by rw [hx], by rw [hx], rfl, hl⟩

theorem TagKept.refl {c : Nat} : TagKept s s c := ⟨rfl, rfl, rfl, rfl, rfl⟩

theorem refuseVia_tagKept {c op : Nat} {use : SlotUse} {seq : Half} {r : Reply} :
    TagKept s (refuseVia s (.ctx c) use op seq r) c := by
  simp only [refuseVia]
  split
  · exact modCtx_tagKept fun _ => ⟨rfl, rfl, rfl⟩
  · exact modCtx_tagKept fun _ => ⟨rfl, rfl, rfl⟩

theorem refuseFrame_tagKept {c st : Nat} {h : Header} : TagKept s (refuseFrame s (.ctx c) h st) c := by
  unfold refuseFrame
  extract_lets soon t
  have ht : TagKept s t c := by
    by_cases hu : refusalUsed (getBox s (.ctx c)) = true
    · simp only [t, hu, if_true]
      exact TagKept.refl
    · simp only [t, hu]
      exact modCtx_tagKept fun _ => ⟨rfl, rfl, rfl⟩
  split
  · exact TagKept.refl
  · exact ht.trans refuseVia_tagKept

/-- The state in which a wrong tag has been counted. -/
def tagCounted (s : State) (c : Nat) : State :=
  modCtx (modCtx s c (fun x => { x with cnt := { x.cnt with tag := satInc16 x.cnt.tag } })) c
    (fun x => { x with tagFails := x.tagFails + 1 })

theorem ctxOf_tagCounted {c : Nat} (hc : c < s.ctxs.length) :
    ctxOf (tagCounted s c) c = { ctxOf s c with
      cnt := { (ctxOf s c).cnt with tag := satInc16 (ctxOf s c).cnt.tag }, tagFails := (ctxOf s c).tagFails + 1 } := by
  rw [tagCounted, ctxOf_modCtx, if_pos ⟨rfl, by simpa [modCtx, modAt] using hc⟩, ctxOf_modCtx, if_pos ⟨rfl, hc⟩]

theorem tagFailure_goesOn {c : Nat} {h : Header} (hc : c < s.ctxs.length)
    (hk : (ctxOf s c).keyed = none ∨ (ctxOf s c).tagFails < 2) :
    tagFailure s (.ctx c) h = refuseFrame (tagCounted s c) (.ctx c) h stBadCheck := by
  have he : ((getBox (tagCounted s c) (.ctx c)).keyed.isSome && decide (3 ≤ (getBox (tagCounted s c) (.ctx c)).tagFails)) = false := by
    simp only [getBox, ctxOf_tagCounted hc]
    rcases hk with hk | hk
    · simp [hk]
    · simp; omega
  change (if !(_ && _) then _ else _) = _
  rw [show (modBox (modCnt s (.ctx c) _) (.ctx c) _) = tagCounted s c from rfl, he]
  rfl

theorem tagFailure_ends {c : Nat} {h : Header} (hc : c < s.ctxs.length) (hk : (ctxOf s c).keyed.isSome = true)
    (hf : 2 ≤ (ctxOf s c).tagFails) (hn : connOn s c = none) : (ctxOf (tagFailure s (.ctx c) h) c).keyed = none := by
  have he : ((getBox (tagCounted s c) (.ctx c)).keyed.isSome && decide (3 ≤ (getBox (tagCounted s c) (.ctx c)).tagFails)) = true := by
    simp only [getBox, ctxOf_tagCounted hc, hk, Bool.true_and, decide_eq_true_eq]
    omega
  obtain ⟨_, _, _, hnet, hlen⟩ := (refuseFrame_tagKept (s := tagCounted s c) (c := c) (st := stBadCheck) (h := h))
  let t := refuseFrame (tagCounted s c) (.ctx c) h stBadCheck
  have ht : t = refuseFrame (tagCounted s c) (.ctx c) h stBadCheck := rfl
  have hE : tagFailure s (.ctx c) h =
      match connOn (modCtx (logFor t 0x0202 [] (b8 c) 0) c (fun x => { x with tagFails := 0 })) c with
      | some k => closeConn (modCtx (logFor t 0x0202 [] (b8 c) 0) c (fun x => { x with tagFails := 0 })) k.id
      | none => endKeyed (modCtx (logFor t 0x0202 [] (b8 c) 0) c (fun x => { x with tagFails := 0 })) c := by
    change (if !(_ && _) then _ else _) = _
    rw [show (modBox (modCnt s (.ctx c) _) (.ctx c) _) = tagCounted s c from rfl, he]
    rfl
  have hcn : connOn (modCtx (logFor t 0x0202 [] (b8 c) 0) c (fun x => { x with tagFails := 0 })) c = none := by
    have : (modCtx (logFor t 0x0202 [] (b8 c) 0) c (fun x => { x with tagFails := 0 })).net = s.net := by
      have : (logFor t 0x0202 [] (b8 c) 0).net = t.net := by simp
      exact this.trans hnet
    rw [connOn, this]
    exact hn
  rw [hE, hcn]
  have hl : c < (modCtx (logFor t 0x0202 [] (b8 c) 0) c (fun x => { x with tagFails := 0 })).ctxs.length := by
    have hs : t.ctxs.length = s.ctxs.length := by rw [hlen]; simp [tagCounted, modCtx, modAt]
    simpa [modCtx, modAt, hs] using hc
  exact congrArg Ctx.keyed (((ctxOf_modCtx ..).trans (if_pos ⟨rfl, hl⟩)) : _)

/-- Settles O26: steps 2 to 6 of admission, check by check. -/
theorem damagedFramesAreCounted : Obligations.DamagedFramesAreCounted := by
  unfold Obligations.DamagedFramesAreCounted
  refine ⟨fun l bs s hm hl hc hh => ?_, fun l bs s hm hl hh hb => ?_, fun l bs s hm hl hh h4 hn hb => ?_,
    fun l bs s hm hl hh h4 hn hf => ⟨fun hv => ?_, fun hv hg hx => ?_, fun hv hg hx ht => ?_⟩,
    fun c h s h12 hc hn => ⟨fun hk => ?_, fun hk hf => ?_⟩, fun b h st s => ⟨fun t ht hs => ?_, fun hd => ⟨fun hu => ?_, fun hu => ?_⟩⟩⟩
  · rw [execMailboxFrame_up hm hl, takeFrame_badHeader hc hh]; rfl
  · rw [execMailboxFrame_up hm hl, takeFrame_badLength hh hb]; rfl
  · rw [execMailboxFrame_up hm hl, takeFrame_badCheck ⟨hh, h4, hn⟩ hb]; rfl
  · rw [execMailboxFrame_up hm hl, takeFrame_badFormat ⟨hh, h4, hn⟩ hf hv]; rfl
  · rw [execMailboxFrame_up hm hl, takeFrame_sound ⟨hh, h4, hn⟩ hf ⟨hv, hg⟩, checkContext_wrong (by rwa [cameIn_linkContext])]; rfl
  · rw [execMailboxFrame_up hm hl, takeFrame_sound ⟨hh, h4, hn⟩ hf ⟨hv, hg⟩,
      checkContext_right (by rwa [cameIn_linkContext]) (tagOk_false (by rwa [cameIn_getBox]))]
    rfl
  · have hl : c < s.ctxs.length := h12 ▸ hc
    obtain ⟨ht, hf, hkk, -⟩ := (refuseFrame_tagKept (s := tagCounted s c) (c := c) (st := stBadCheck) (h := h))
    rw [tagFailure_goesOn hl hk, ht, hf, hkk, ctxOf_tagCounted hl]
    exact ⟨rfl, rfl, rfl⟩
  · exact tagFailure_ends (h12 ▸ hc) hk hf hn
  · exact refuseFrame_soon ht hs
  · simp [refuseFrame_due hd, hu]
  · simp [refuseFrame_due hd, hu, refuseVia]

end Sys2Proof.Machine
end

section
/-! SUPPORT and PROOF of O27 and O28. The rules of the sequence, by what touches one context alone; requests that are not
carried out (R223 to R226, R234, R243). -/

namespace Sys2Proof.Machine

variable {s t : State}

/-! ### What touches one context alone -/

/-- Nothing but one context has changed. -/
def OnlyCtx (s t : State) (c : Nat) : Prop :=
  { t with ctxs := s.ctxs } = s ∧ (∀ k : Nat, k ≠ c → ctxOf t k = ctxOf s k) ∧ t.ctxs.length = s.ctxs.length

theorem OnlyCtx.refl {c : Nat} : OnlyCtx s s c := ⟨rfl, fun _ _ => rfl, rfl⟩

theorem OnlyCtx.trans {u : State} {c : Nat} (h : OnlyCtx s t c) (k : OnlyCtx t u c) : OnlyCtx s u c := by
  obtain ⟨h1, h2, h3⟩ := h
  obtain ⟨k1, k2, k3⟩ := k
  refine ⟨?_, fun j hj => (k2 j hj).trans (h2 j hj), k3.trans h3⟩
  calc { u with ctxs := s.ctxs } = { ({ u with ctxs := t.ctxs } : State) with ctxs := s.ctxs } := rfl
    _ = { t with ctxs := s.ctxs } := by rw [k1]
    _ = s := h1

theorem modCtx_onlyCtx {c : Nat} {f : Ctx → Ctx} : OnlyCtx s (modCtx s c f) c :=
  ⟨rfl, fun k hk => by rw [ctxOf_modCtx, if_neg (fun h => hk h.1)], by simp [modCtx, modAt]⟩

theorem ctxOf_modCtx_same {c : Nat} {f : Ctx → Ctx} (h : c < s.ctxs.length) : ctxOf (modCtx s c f) c = f (ctxOf s c) := by
  rw [ctxOf_modCtx, if_pos ⟨rfl, h⟩]

theorem refuseVia_onlyCtx {c op : Nat} {use : SlotUse} {seq : Half} {r : Reply} : OnlyCtx s (refuseVia s (.ctx c) use op seq r) c := by
  unfold refuseVia
  split <;> exact modCtx_onlyCtx

/-- A response leaves the context's sequence, and its count of duplicates. -/
theorem refuseVia_e {c op : Nat} {use : SlotUse} {seq : Half} {r : Reply} (h : c < s.ctxs.length) :
    (ctxOf (refuseVia s (.ctx c) use op seq r) c).e = (ctxOf s c).e := by
  unfold refuseVia
  split
  · rw [modCnt, modBox, ctxOf_modCtx_same h]
  · rw [queueResponse, modBox, ctxOf_modCtx_same h]

/-- A short response is one frame at the end of what waits. -/
theorem queueResponse_out {c op : Nat} {use : SlotUse} {seq : Half} {r : Reply} (h : c < s.ctxs.length)
    (hl : r.payload.length ≤ 4096) : (ctxOf (queueResponse s (.ctx c) use op seq r) c).out = (ctxOf s c).out ++
      [{ use, opcode := BitVec.ofNat 16 op, seq, status := BitVec.ofNat 16 r.status, payload := r.payload, more := false
         endsSession := r.ends, whose := r.whose }] := by
  have hp : pieces (r.payload.length / 4096 + 1) r.payload = [r.payload] := by simp [pieces, hl]
  refine (congrArg Ctx.out (ctxOf_modCtx_same h)).trans ?_
  simp [hp]

/-! ### The rules of the sequence (R223 to R226) -/

/-- The ALIVE of a frame is not the one after the last (R225). -/
def aliveSkips (h : Header) (x : Ctx) : Bool :=
  match x.lastAlive with
  | some a => decide (h.alive ≠ a + 1)
  | none => false

/-- What a context keeps of a new frame's ALIVE (R223, R225). -/
def aliveTaken (h : Header) (x : Ctx) : Ctx :=
  { x with lastAlive := some h.alive
           cnt := { x.cnt with aliveGap := if aliveSkips h x then satInc16 x.cnt.aliveGap else x.cnt.aliveGap } }

/-- The state in which a context has taken a frame's ALIVE. -/
def aliveNoted (s : State) (c : Nat) (h : Header) : State :=
  let t := modBox s (.ctx c) (fun x => { x with lastAlive := some h.alive })
  if aliveSkips h (ctxOf s c) then modCnt t (.ctx c) (fun n => { n with aliveGap := satInc16 n.aliveGap }) else t

theorem aliveNoted_onlyCtx {c : Nat} {h : Header} : OnlyCtx s (aliveNoted s c h) c := by
  unfold aliveNoted
  split
  · exact modCtx_onlyCtx.trans modCtx_onlyCtx
  · exact modCtx_onlyCtx

theorem ctxOf_aliveNoted {c : Nat} {h : Header} (hc : c < s.ctxs.length) :
    ctxOf (aliveNoted s c h) c = aliveTaken h (ctxOf s c) := by
  have h1 : ctxOf (modCtx s c (fun x => { x with lastAlive := some h.alive })) c =
      { ctxOf s c with lastAlive := some h.alive } := ctxOf_modCtx_same hc
  by_cases hg : aliveSkips h (ctxOf s c) = true
  · have hl : c < (modCtx s c (fun x => { x with lastAlive := some h.alive })).ctxs.length := by simpa [modCtx, modAt] using hc
    simp only [aliveNoted, aliveTaken, hg, if_true, modCnt, modBox, ctxOf_modCtx_same hl, h1]
  · simp only [aliveNoted, aliveTaken, hg, modBox, h1, Bool.false_eq_true, if_false]

theorem sequenceRules_duplicate {b : Box} {h : Header} {go : State → State} (ha : (getBox s b).lastAlive = some h.alive) :
    sequenceRules s b h go = countDup s b := by
  simp [sequenceRules, ha]

/-- A new frame, once its ALIVE is taken: the command, a remembered answer, or REPLAY (R226). -/
theorem sequenceRules_new {c : Nat} {h : Header} {go : State → State} (ha : (ctxOf s c).lastAlive ≠ some h.alive) :
    sequenceRules s (.ctx c) h go = if (ctxOf s c).e = none ∨ (ctxOf s c).e = some h.seq then go (aliveNoted s c h) else
      match (ctxOf s c).cache.find? (fun e => e.seq == h.seq) with
      | some e =>
        if !e.complete then countDup (aliveNoted s c h) (.ctx c)
        else match e.payload with
          | some p => refuseVia (aliveNoted s c h) (.ctx c) .refusal e.opcode.toNat e.seq ⟨e.status.toNat, p, false, none⟩
          | none => replay (aliveNoted s c h) (.ctx c) h
      | none => replay (aliveNoted s c h) (.ctx c) h := by
  rw [sequenceRules, if_neg (show (getBox s (.ctx c)).lastAlive ≠ some h.alive from ha)]
  rfl

/-- The request that a frame makes on its context. -/
def frameReq (l : Link) (c : Fin 12) (bs : List Byte) : Req :=
  { link := l, ctx := c, seq := (headerOf bs).seq, more := (headerOf bs).flags.testBit 2,
    payload := slice bs 16 (headerOf bs).length }

theorem checkContext_sound {run : Nat → Req → State → State} {l : Link} {bs : List Byte} {b : Box}
    (h : linkContext s l = some (headerOf bs).context) (ht : tagOk s b (headerOf bs) bs = true)
    (hc : (headerOf bs).context < 12) :
    checkContext run l bs b s = sequenceRules (modBox s b (fun x => { x with tagFails := 0 })) b (headerOf bs)
      (run (headerOf bs).opcode (frameReq l ⟨(headerOf bs).context, hc⟩ bs)) := by
  simp [checkContext, frameReq, h, ht, hc]

/-- On a link that is no connection, a frame comes in with what leaving DOZE brings and a unit's state. -/
theorem cameIn_wired {l : Link} {bs : List Byte} (hl : ∀ id, l ≠ .conn id) :
    { cameIn l bs s with ctxs := s.ctxs, cvu := s.cvu } = wakeDoze s := by
  have hs : countIn s l bs.length = s := by
    cases l with
    | conn id => exact absurd rfl (hl id)
    | _ => rfl
  have hw : { wakeDoze s with ctxs := s.ctxs, cvu := s.cvu } = wakeDoze s := by
    have h1 : (wakeDoze s).ctxs = s.ctxs := by simp
    have h2 : (wakeDoze s).cvu = s.cvu := by simp
    rw [← h1, ← h2]
  rw [cameIn, hs]
  exact hw

/-- Settles O27: past the checks of steps 2 to 8 a frame runs its opcode, and its context alone has changed. -/
theorem soundFramesReachTheirCommand : Obligations.SoundFramesReachTheirCommand := by
  unfold Obligations.SoundFramesReachTheirCommand
  intro l c bs s hlc hm hl hh h4 hn hf hv hg h3 hx hk h12 ho ha he
  have hlink : (∀ id, l ≠ .conn id) ∧ linkContext s l = some c.val ∧ boxOf s l = .ctx c.val := by
    simp only [List.mem_cons, Prod.mk.injEq, List.not_mem_nil, or_false] at hlc
    obtain ⟨rfl, rfl⟩ | ⟨rfl, rfl⟩ | ⟨rfl, rfl⟩ := hlc <;> exact ⟨fun _ => by simp, rfl, rfl⟩
  obtain ⟨hconn, hlctx, hbox⟩ := hlink
  have hg0 : getBox (cameIn l bs s) (.ctx c.val) = ctxOf s c.val := cameIn_getBox l bs _
  have htag : tagOk (cameIn l bs s) (.ctx c.val) (headerOf bs) bs = true := by
    simp only [tagOk, hg0, hk, h3, isUnopened]
    obtain ho | ho | ho := ho <;> simp [ho]
  have hlen : (cameIn l bs s).ctxs.length = 12 := by rw [(cameIn_parts l bs).2.1, h12]
  have hlt : c.val < (cameIn l bs s).ctxs.length := by rw [hlen]; exact c.isLt
  let v := modBox (cameIn l bs s) (.ctx c.val) (fun x => { x with tagFails := 0 })
  have hvd : v = modBox (cameIn l bs s) (.ctx c.val) (fun x => { x with tagFails := 0 }) := rfl
  have hov : OnlyCtx (cameIn l bs s) v c.val := modCtx_onlyCtx
  have hcv : ctxOf v c.val = { ctxOf s c.val with tagFails := 0 } := (ctxOf_modCtx_same hlt).trans (by rw [← hg0]; rfl)
  have hltv : c.val < v.ctxs.length := by rw [hov.2.2]; exact hlt
  have hou := aliveNoted_onlyCtx (s := v) (c := c.val) (h := headerOf bs)
  have hcu := ctxOf_aliveNoted (h := headerOf bs) hltv
  have hall := hov.trans hou
  refine ⟨aliveNoted v c.val (headerOf bs), ?_, ?_, by rw [hcu]; rfl, fun k hk => (hall.2.1 k hk).trans (by simp only [ctxOf, (cameIn_parts l bs).2.1])⟩
  · rw [execMailboxFrame_up hm hl, takeFrame_sound ⟨hh, h4, hn⟩ hf ⟨hv, hg⟩,
      checkContext_sound (by rw [cameIn_linkContext, hlctx, hx]) (by rw [hbox]; exact htag) (by rw [hx]; exact c.isLt), hbox]
    simp only [hx, Fin.eta]
    rw [← hvd, sequenceRules_new (by rw [hcv]; exact ha), if_pos (by rw [hcv]; exact he)]
    rfl
  · rw [← cameIn_wired hconn]
    exact congrArg (fun w : State => { w with ctxs := s.ctxs, cvu := s.cvu }) hall.1

/-! ### What a request that is not carried out leaves -/

/-- REPLAY leaves the sequence as it is, and touches its context alone. -/
theorem replay_onlyCtx {c : Nat} {h : Header} : OnlyCtx s (replay s (.ctx c) h) c :=
  OnlyCtx.trans (t := modCnt s (.ctx c) (fun n => { n with replay := satInc16 n.replay })) modCtx_onlyCtx refuseVia_onlyCtx

theorem replay_e {c : Nat} {h : Header} (hc : c < s.ctxs.length) : (ctxOf (replay s (.ctx c) h) c).e = (ctxOf s c).e := by
  have hl : c < (modCnt s (.ctx c) (fun n => { n with replay := satInc16 n.replay })).ctxs.length := by
    rw [modCnt, modBox, modCtx_onlyCtx.2.2]; exact hc
  refine (refuseVia_e hl).trans ?_
  rw [modCnt, modBox, ctxOf_modCtx_same hc]

/-- With the refusal slot free, REPLAY queues the expected sequence. -/
theorem replay_out {c : Nat} {h : Header} {v : Half} (hc : c < s.ctxs.length) (he : (ctxOf s c).e = some v)
    (hu : refusalUsed (ctxOf s c) = false) : ∃ f : OutFrame, (ctxOf (replay s (.ctx c) h) c).out = (ctxOf s c).out ++ [f] ∧
      f.use = .refusal ∧ f.status = 0x0204 ∧ f.seq = h.seq ∧ f.payload = b16 v.toNat := by
  have hl : c < (modCnt s (.ctx c) (fun n => { n with replay := satInc16 n.replay })).ctxs.length := by
    rw [modCnt, modBox, modCtx_onlyCtx.2.2]; exact hc
  have ho : (ctxOf (modCnt s (.ctx c) (fun n => { n with replay := satInc16 n.replay })) c).out = (ctxOf s c).out := by
    rw [modCnt, modBox, ctxOf_modCtx_same hc]
  have hu' : refusalUsed (getBox (modCnt s (.ctx c) (fun n => { n with replay := satInc16 n.replay })) (.ctx c)) = false := by
    rw [refusalUsed, getBox, ho]; exact hu
  have he' : (getBox s (.ctx c)).e = some v := he
  simp only [replay, he', refuseVia, hu', Bool.false_eq_true, if_false]
  exact ⟨_, (queueResponse_out hl (by simp [b16, leBytes])).trans (by rw [ho]), rfl, rfl, rfl, rfl⟩

theorem countDup_same {c : Nat} (hc : c < s.ctxs.length) : ctxOf (countDup s (.ctx c)) c =
    { ctxOf s c with cnt := { (ctxOf s c).cnt with dup := satInc16 (ctxOf s c).cnt.dup } } :=
  ctxOf_modCtx_same hc

/-- A served request while the core runs, from the state in which it is accepted. -/
theorem serve_core {op : Nat} {h : Handler} {r : Req} (hc : coreRuns s = true) :
    serve op h r s = match continued (accepted r s) r op with
      | some m => answer (continueMsg h op r (boxOf s r.link) m (accepted r s)).2
          (boxOf (continueMsg h op r (boxOf s r.link) m (accepted r s)).2 r.link) op r.seq
          (decide (8 ≤ slotsUsed (getBox (accepted r s) (boxOf s r.link))))
          (continueMsg h op r (boxOf s r.link) m (accepted r s)).1
      | none => match opRight op with
        | none => answer (accepted r s) (boxOf s r.link) op r.seq
            (decide (8 ≤ slotsUsed (getBox (accepted r s) (boxOf s r.link)))) (Reply.no stBadOpcode)
        | some right => match rightCheck (accepted r s) (frameMask (accepted r s) (boxOf s r.link)) (isUnopened (boxOf s r.link))
            op right with
          | some st => answer (accepted r s) (boxOf s r.link) op r.seq
              (decide (8 ≤ slotsUsed (getBox (accepted r s) (boxOf s r.link)))) (Reply.no st)
          | none => if decide (8 ≤ slotsUsed (getBox (accepted r s) (boxOf s r.link))) then
              answer (accepted r s) (boxOf s r.link) op r.seq true (Reply.no stBusy)
            else answered op r (beginMsg h op r (boxOf s r.link) (accepted r s)).1
              (beginMsg h op r (boxOf s r.link) (accepted r s)).2 := by
  have hm : s.rst.main = .ready := by simpa [coreRuns] using hc
  have hcore : coreRuns (accepted r s) = true := by rw [accepted_coreRuns]; exact hc
  rw [serve, if_neg (by simp [hm])]
  rw [accepted] at hcore
  exact if_neg (by rw [hcore]; exact Bool.false_ne_true)

/-- Settles O28: duplicates, the sequence's refusals, and the refusals of steps 9 to 11. -/
theorem repeatsAndRefusals : Obligations.RepeatsAndRefusals := by
  unfold Obligations.RepeatsAndRefusals
  refine ⟨fun s b h go ha => sequenceRules_duplicate ha, fun s c h v go h12 hc ha he hne => ?_, fun op h r s hc hn => ?_⟩
  · have hl : c < s.ctxs.length := h12 ▸ hc
    have hO := aliveNoted_onlyCtx (s := s) (c := c) (h := h)
    have hC := ctxOf_aliveNoted (h := h) hl
    have hlt : c < (aliveNoted s c h).ctxs.length := by rw [hO.2.2]; exact hl
    have heq : (ctxOf (aliveNoted s c h) c).e = some v := by rw [hC]; exact he
    rw [sequenceRules_new ha, if_neg (by simp [he, hne])]
    cases hf : (ctxOf s c).cache.find? (fun e => e.seq == h.seq) with
    | none =>
      refine ⟨(replay_e hlt).trans heq, (hO.trans replay_onlyCtx).1, fun _ hu => ?_, fun e h => by simp at h⟩
      have := replay_out (h := h) hlt heq (by rw [hC]; exact hu)
      rwa [hC] at this
    | some e =>
      by_cases hcomp : e.complete = false
      · simp only [hcomp, Bool.not_false, if_true]
        have hd := countDup_same hlt
        refine ⟨by rw [hd]; exact heq, (hO.trans modCtx_onlyCtx).1, fun h => by simp at h, fun _ _ _ => ?_⟩
        rw [hd, hC]
        exact ⟨rfl, rfl⟩
      · rw [Bool.not_eq_false] at hcomp
        simp only [hcomp, Bool.not_true, Bool.false_eq_true, if_false]
        refine ⟨?_, ?_, fun h => by simp at h, fun e' h' hc' => ?_⟩
        · cases e.payload with
          | none => exact (replay_e hlt).trans heq
          | some p => exact (refuseVia_e hlt).trans heq
        · cases e.payload with
          | none => exact (hO.trans replay_onlyCtx).1
          | some p => exact (hO.trans refuseVia_onlyCtx).1
        · rw [Option.some.inj h'] at hcomp
          simp [hc'] at hcomp
  · refine ⟨fun ho => ?_, fun right st ho hr => ?_, fun right ho hr h8 => ?_⟩
    · simp only [serve_core hc, hn, ho]
    · simp only [serve_core hc, hn, ho, hr]
    · simp only [serve_core hc, hn, ho, hr, h8, decide_true, if_true]

end Sys2Proof.Machine
end

section
/-! SUPPORT and PROOF of O60. First and continuing fragments (R229 to R231). -/

namespace Sys2Proof.Machine

variable {s : State} {op : Nat} {h : Handler} {r : Req} {m : OpenMsg}

/-! ### A first fragment -/

theorem beginMsg_beside {b : Box} (hr : r.more = true) (hm : (getBox s b).msg.isSome = true) :
    beginMsg h op r b s = (Reply.no stBusy, s) := by
  simp [beginMsg, hr, hm]

/-- A first fragment with room in the pool opens its message (R229, R230). -/
theorem beginMsg_opens {b : Box} (hst : streamed op = false) (hr : r.more = true) (hm : (getBox s b).msg = none)
    (hk : kindBusy s op = false) (hj : (op ≠ 0x0301 ∧ op ≠ 0x0302) ∨ jobRoom s r.ctx.val = true)
    (hl : r.payload.length ≤ 65536) (hp : poolUsed s + r.payload.length ≤ 262144) :
    beginMsg h op r b s = (fragOk r.payload.length,
      modBox s b (fun x => { x with msg := some (openMsg s r op r.payload) })) := by
  have hj' : ¬ ((op = 0x0301 ∨ op = 0x0302) ∧ (!jobRoom s r.ctx.val) = true) := by
    rintro ⟨ho, hn⟩
    obtain ⟨h1, h2⟩ | hj := hj
    · exact ho.elim h1 h2
    · simp [hj] at hn
  rw [beginMsg, if_neg (by simp [hm]), if_neg (by simp [hk]), if_neg hj', if_neg (by simp [hst, hr]),
    if_neg (by rw [messageLimit]; omega), if_neg (by rw [reassemblyPool]; omega)]

/-! ### A fragment that continues a message -/

theorem continueMsg_tooLong {b : Box} (hst : streamed op = false) (hl : 65536 < m.bytes.length + r.payload.length) :
    continueMsg h op r b m s = (Reply.no stBadLength, modBox s b (fun x => { x with msg := none })) := by
  rw [continueMsg, if_neg (by simp [hst]), if_pos (show messageLimit < _ from hl)]

theorem continueMsg_noRoom {b : Box} (hst : streamed op = false) (hl : m.bytes.length + r.payload.length ≤ 65536)
    (hp : 262144 < poolUsed s + r.payload.length) : continueMsg h op r b m s = (Reply.no stBusy, s) := by
  rw [continueMsg, if_neg (by simp [hst]), if_neg (by rw [messageLimit]; omega), if_pos (show reassemblyPool < _ from hp)]

theorem continueMsg_joins {b : Box} (hst : streamed op = false) (hl : m.bytes.length + r.payload.length ≤ 65536)
    (hp : poolUsed s + r.payload.length ≤ 262144) (hr : r.more = true) :
    continueMsg h op r b m s = (fragOk (m.bytes.length + r.payload.length), modBox s b (fun x => { x with msg := some { m with
      bytes := m.bytes ++ r.payload, count := m.bytes.length + r.payload.length } })) := by
  rw [continueMsg, if_neg (by simp [hst]), if_neg (by rw [messageLimit]; omega), if_neg (by rw [reassemblyPool]; omega)]
  simp [hr]

theorem continueMsg_ends {b : Box} (hst : streamed op = false) (hl : m.bytes.length + r.payload.length ≤ 65536)
    (hp : poolUsed s + r.payload.length ≤ 262144) (hr : r.more = false) {rep : Reply} {v : State}
    (hh : h { r with payload := m.bytes ++ r.payload } s = (rep, v)) :
    continueMsg h op r b m s = (rep, modBox v b (fun x => { x with msg := none })) := by
  rw [continueMsg, if_neg (by simp [hst]), if_neg (by rw [messageLimit]; omega), if_neg (by rw [reassemblyPool]; omega)]
  exact (if_neg (by simp [hr])).trans
    (congrArg (fun p : Reply × State => (p.1, modBox p.2 b (fun x => { x with msg := none }))) hh)

theorem serve_continued (hc : coreRuns s = true) (hm : continued (accepted r s) r op = some m) {rep : Reply} {u : State}
    (he : continueMsg h op r (boxOf s r.link) m (accepted r s) = (rep, u)) :
    serve op h r s = answer u (boxOf u r.link) op r.seq (decide (8 ≤ slotsUsed (getBox (accepted r s) (boxOf s r.link)))) rep := by
  simp only [serve_core hc, hm, he]

theorem serve_begun (hc : coreRuns s = true) (hn : continued (accepted r s) r op = none) {right : Option Nat}
    (ho : opRight op = some right)
    (hr : rightCheck (accepted r s) (frameMask (accepted r s) (boxOf s r.link)) (isUnopened (boxOf s r.link)) op right = none)
    (h8 : slotsUsed (getBox (accepted r s) (boxOf s r.link)) < 8) {rep : Reply} {u : State}
    (he : beginMsg h op r (boxOf s r.link) (accepted r s) = (rep, u)) : serve op h r s = answered op r rep u := by
  simp only [serve_core hc, hn, ho, hr, he, Nat.not_le.mpr h8, decide_false, Bool.false_eq_true, if_false]

/-- Settles O60: what a first and a continuing fragment do, by the branches of the message's rules. -/
theorem fragmentsBecomeMessages : Obligations.FragmentsBecomeMessages := by
  unfold Obligations.FragmentsBecomeMessages
  refine ⟨fun op h r s right hc hst hr ho hn hrc h8 => ⟨fun hm => ?_, fun hm hk hj hl hp => ?_⟩,
    fun op h r s m full hc hst hm hfull => ⟨fun hl => ⟨_, rfl, ?_⟩, fun hl hp => ?_, fun hl hp => ⟨fun hr => ⟨_, rfl, ?_⟩,
      fun hr rep v hh => ⟨_, rfl, ?_⟩⟩⟩, fun r s m hc hm hr hl hp h8 hlc => ?_⟩
  · exact serve_begun hc hn ho hrc h8 (beginMsg_beside hr hm)
  · exact serve_begun hc hn ho hrc h8 (beginMsg_opens hst hr hm hk hj hl hp)
  · exact hfull ▸ serve_continued hc hm (continueMsg_tooLong hst hl)
  · exact hfull ▸ serve_continued hc hm (continueMsg_noRoom hst hl hp)
  · exact hfull ▸ serve_continued hc hm (continueMsg_joins hst hl hp hr)
  · exact hfull ▸ serve_continued hc hm (continueMsg_ends hst hl hp hr hh)
  · have hh : hSysEcho { r with payload := m.bytes ++ r.payload } (accepted r s) =
        (Reply.ok (m.bytes ++ r.payload), accepted r s) := by
      have hl' : (m.bytes ++ r.payload).length ≤ 256 := by rw [List.length_append]; exact hl
      simp only [hSysEcho, judge, hl', decide_true, Bool.not_true, Bool.false_eq_true, if_false, firstFail]
    have hs := serve_continued hc hm (continueMsg_ends (by decide) (by omega) hp hr hh)
    rw [exec, execSysEcho, hs, decide_eq_false (Nat.not_le.mpr h8)]
    rfl

end Sys2Proof.Machine
end

section
/-! SUPPORT and PROOF of O29. What an open message leaves when it is discarded (R232, R296). -/

namespace Sys2Proof.Machine

variable {s t : State}

/-! ### Open messages -/

/-- Each context's open message, its key and its count of link errors stand. -/
def MsgKept (s t : State) : Prop := ∀ c, (ctxOf t c).msg = (ctxOf s c).msg ∧ (ctxOf t c).keyed = (ctxOf s c).keyed ∧
  (ctxOf t c).cnt.link = (ctxOf s c).cnt.link

theorem modCtx_msgKept {c : Nat} {f : Ctx → Ctx} (hf : ∀ x, (f x).msg = x.msg ∧ (f x).keyed = x.keyed ∧ (f x).cnt.link = x.cnt.link) :
    MsgKept s (modCtx s c f) := by
  intro k
  rw [ctxOf_modCtx]
  split
  · rename_i h
    rw [h.1]
    exact hf _
  · exact ⟨rfl, rfl, rfl⟩

theorem msgKept_of_ctxs (h : t.ctxs = s.ctxs) : MsgKept s t := fun c => by simp [ctxOf, h]

theorem MsgKept.trans {u : State} (h : MsgKept s t) (k : MsgKept t u) : MsgKept s u := fun c =>
  ⟨(k c).1.trans (h c).1, (k c).2.1.trans (h c).2.1, (k c).2.2.trans (h c).2.2⟩

theorem countNotifLost_msgKept {c : Nat} : MsgKept s (countNotifLost s c) := by
  have h : (countNotifLost s c).ctxs =
      (modCtx s c (fun x => { x with cnt := { x.cnt with notifLost := satInc16 x.cnt.notifLost } })).ctxs := by
    unfold countNotifLost
    (repeat' split) <;> simp
  refine MsgKept.trans ?_ (msgKept_of_ctxs h)
  exact modCtx_msgKept fun _ => ⟨rfl, rfl, rfl⟩

theorem notify_msgKept {c op st : Nat} {p : List Byte} : MsgKept s (notify s c op st p) := by
  unfold notify
  split
  · exact countNotifLost_msgKept
  · extract_lets x begun full out f u
    have hu : MsgKept s u := modCtx_msgKept fun _ => ⟨rfl, rfl, rfl⟩
    split
    · exact hu.trans countNotifLost_msgKept
    · exact hu

theorem setJobHeld_msgKept {id detail : Nat} {st : JobSt} {hold : Half} : MsgKept s (setJobHeld s id st detail hold) := by
  unfold setJobHeld
  split
  · exact fun _ => ⟨rfl, rfl, rfl⟩
  · extract_lets j' u
    have hu : MsgKept s u := msgKept_of_ctxs (by simp only [u]; split <;> simp)
    exact hu.trans ((msgKept_of_ctxs (by simp)).trans (t := dropStale (modJob u id (fun _ => j'))) notify_msgKept)

theorem retireJob_msgKept {id : Nat} : MsgKept s (retireJob s id) := by
  unfold retireJob
  split
  · exact msgKept_of_ctxs rfl
  · exact msgKept_of_ctxs rfl

theorem failJob_msgKept {id detail : Nat} : MsgKept s (failJob s id detail) :=
  (setJobHeld_msgKept (s := modJob s id freeRaster)).trans retireJob_msgKept

/-- A box whose message has ended holds none. -/
theorem getBox_msgEnded {b : Box} (hb : ∀ c, b = .ctx c → c < s.ctxs.length) :
    (getBox (modBox s b (fun x => { x with msg := none })) b).msg = none := by
  cases b with
  | ctx c => rw [getBox, modBox, ctxOf_modCtx_same (hb c rfl)]
  | conn id =>
    have hp : ((fun k : Conn => k.id == id) ∘ fun k : Conn => if k.id = id then { k with box := { k.box with msg := none } } else k) =
        fun k => k.id == id := by
      funext k
      simp only [Function.comp]
      split <;> rfl
    simp only [getBox, modBox, connOf, List.find?_map, hp]
    cases hf : s.net.conns.find? (fun k => k.id == id) with
    | none => rfl
    | some k =>
      have hid : k.id = id := by simpa using List.find?_some hf
      simp [hid]

theorem boxContext_congr (h : t.net.conns = s.net.conns) (b : Box) : boxContext t b = boxContext s b := by
  cases b <;> simp [boxContext, connOf, h]

/-- What the timeout of a message does, once it is logged. -/
theorem execMbxFragTimeout_open {p : MsgPlace} {m : OpenMsg} (hm : (getBox s (msgBox s p)).msg = some m) :
    exec (.mbxFragTimeout p) s = .next (discardIn
      (logFor (wakeDoze s) 0x0203 (b16 m.opcode.toNat ++ b32 m.count) (boxContext s (msgBox s p)) 0) (msgBox s p)) := by
  simp [exec, execMbxFragTimeout, hm]

theorem msgBox_lt {p : MsgPlace} {c : Nat} (h : msgBox s p = .ctx c) : c < 12 := by
  cases p with
  | context k => 
    cases h
    exact k.isLt
  | link l =>
    cases l with
    | conn id =>
      simp only [msgBox, boxOf] at h
      (repeat' split at h) <;> cases h
      rename_i k _ _
      exact k.isLt
    | _ => cases h; decide

theorem jobStIs_congr (h : t.jobs = s.jobs) (id : Nat) (st : JobSt) : jobStIs t id st = jobStIs s id st := by
  simp [jobStIs, jobOf, h]

/-- A raster job's message fails its job, any other only goes (R296). -/
theorem discardIn_open {b : Box} {m : OpenMsg} (hm : (getBox s b).msg = some m) :
    discardIn s b = if m.opcode = 0x0302 ∧ jobStIs s m.job .rendering = true ∧ isUnopened b = false then
      failJob (modBox s b (fun x => { x with msg := none })) m.job rasterIncomplete
    else modBox s b (fun x => { x with msg := none }) := by
  cases b with
  | ctx c =>
    have hm' : (ctxOf s c).msg = some m := hm
    simp only [discardIn, discardMsg, hm', isUnopened, and_true]
    rfl
  | conn id => simp [discardIn, isUnopened]

/-- Settles O29: the timeout of a message by what it was bringing. -/
theorem openMessagesExpire : Obligations.OpenMessagesExpire := by
  unfold Obligations.OpenMessagesExpire
  intro p s u m h12 hm hu
  have hctxs : u.ctxs = s.ctxs := by simp [hu]
  have hconns : u.net.conns = s.net.conns := by simp [hu]
  have hjobs : u.jobs = s.jobs := by simp [hu]
  have hg : (getBox u (msgBox s p)).msg = some m := by rw [getBox_congr hconns hctxs]; exact hm
  have hend : (getBox (modBox u (msgBox s p) (fun x => { x with msg := none })) (msgBox s p)).msg = none := by
    refine getBox_msgEnded fun c hc => ?_
    rw [hctxs, h12]
    exact msgBox_lt hc
  have hE := (execMbxFragTimeout_open hm).trans (congrArg (fun v => Host.Outcome.next (discardIn v (msgBox s p))) hu.symm)
  rw [discardIn_open hg, jobStIs_congr hjobs] at hE
  refine ⟨?_, fun hn => ?_, fun ho hj hb => ?_⟩
  · rw [hE]
    refine ⟨_, rfl, ?_, ?_⟩
    · split
      · rename_i hr
        generalize msgBox s p = b at hend hr ⊢
        cases b with
        | ctx c => exact (failJob_msgKept c).1.trans hend
        | conn id => exact absurd hr.2.2 (by simp [isUnopened])
      · exact hend
    · split <;> simp
  · rw [hE, if_neg]
    rintro ⟨h1, h2, h3⟩
    obtain hn | hn | hn := hn
    · exact hn h1
    · simp [h2] at hn
    · simp [h3] at hn
  · rw [hE, if_pos ⟨ho, hj, hb⟩]

end Sys2Proof.Machine
end

section
/-! SUPPORT and PROOF of O30. Queued answers and delivered frames (R195, R224, R228, R234). -/

namespace Sys2Proof.Machine

variable {s t : State}

/-! ### Queued answers -/

/-- An answer touches the mailbox only. -/
def MailboxOnly (s t : State) : Prop := { t with ctxs := s.ctxs, net := s.net } = s

theorem MailboxOnly.trans {u : State} (h : MailboxOnly s t) (k : MailboxOnly t u) : MailboxOnly s u := by
  unfold MailboxOnly at *
  calc { u with ctxs := s.ctxs, net := s.net }
      = { ({ u with ctxs := t.ctxs, net := t.net } : State) with ctxs := s.ctxs, net := s.net } := rfl
    _ = { t with ctxs := s.ctxs, net := s.net } := by rw [k]
    _ = s := h

theorem modBox_mailboxOnly {b : Box} {f : Ctx → Ctx} : MailboxOnly s (modBox s b f) := by
  cases b <;> rfl

theorem answered_mailboxOnly {op : Nat} {r : Req} {rep : Reply} : MailboxOnly s (answered op r rep s) :=
  (modBox_mailboxOnly (s := s)).trans modBox_mailboxOnly

theorem answered_onlyCtx {op c : Nat} {r : Req} {rep : Reply} (hb : boxOf s r.link = .ctx c) :
    OnlyCtx s (answered op r rep s) c := by
  rw [answered, hb]
  exact (modCtx_onlyCtx (s := s)).trans modCtx_onlyCtx

theorem answered_out {op c : Nat} {r : Req} {rep : Reply} (hb : boxOf s r.link = .ctx c) (hc : c < s.ctxs.length)
    (hl : rep.payload.length ≤ 4096) : (ctxOf (answered op r rep s) c).out = (ctxOf s c).out ++
      [{ use := .request, opcode := BitVec.ofNat 16 op, seq := r.seq, status := BitVec.ofNat 16 rep.status
         payload := rep.payload, more := false, endsSession := rep.ends, whose := rep.whose }] := by
  have hcl : c < (cacheResponse s (.ctx c) op r.seq false rep).ctxs.length := by
    rw [cacheResponse, modBox, modCtx_onlyCtx.2.2]; exact hc
  have ho : (ctxOf (cacheResponse s (.ctx c) op r.seq false rep) c).out = (ctxOf s c).out := by
    rw [cacheResponse, modBox, ctxOf_modCtx_same hc]
  rw [answered, hb]
  exact (queueResponse_out hcl hl).trans (by rw [ho])

/-! ### Frames that have gone out -/

theorem deliverHead_onlyCtx {f : OutFrame} {fs : List OutFrame} {c : Nat} (ho : (ctxOf s c).out = f :: fs)
    (he : f.endsSession = false) (hr : s.rst.resetPend = none) : OnlyCtx { s with cvu := (deliverHead s (.ctx c)).cvu }
      (deliverHead s (.ctx c)) c := by
  rw [deliverHead_plain (b := .ctx c) ho he hr]
  exact modCtx_onlyCtx

theorem deliveredBox_cache {f : OutFrame} {x : Ctx} (hu : f.use = .request) (hm : f.more = false) :
    ∀ e ∈ (deliveredBox f x).cache, e.seq = f.seq → e.complete = true := by
  intro e he hs
  simp only [deliveredBox, hu, hm, reduceCtorEq, Bool.false_eq_true, or_self, if_false, List.mem_map] at he
  obtain ⟨e', _, rfl⟩ := he
  split at hs
  · simp_all
  · rename_i hn
    exact absurd hs hn

/-- The state in which the UART has sent the head frame. -/
def sentOn (l : Link) (s : State) : State :=
  if l = .uart then { s with uart := { s.uart with sent := linkFrame (headBytes s 2) } } else s

theorem execResponseDelivered_wired {l : Link} {c : Nat} {f : OutFrame} {fs : List OutFrame} (hl : linkSends s l = true)
    (hb : boxOf s l = .ctx c) (hn : ∀ id, l ≠ .conn id) (ho : (ctxOf s c).out = f :: fs) :
    exec (.responseDelivered l) s = .next (deliverHead (sentOn l s) (.ctx c)) := by
  have hc : ∀ (u : State) (n : Nat), countOut u l n = u := fun u n => by
    cases l with
    | conn id => exact absurd rfl (hn id)
    | _ => rfl
  have ho' : (getBox s (.ctx c)).out ≠ [] := by simp [getBox, ho]
  rw [exec, execResponseDelivered, if_neg (by simp [hl])]
  simp only [hb, ho', ne_eq, not_false_eq_true, and_true, hc]
  rw [sentOn]
  have hb' : boxOf { s with uart := { s.uart with sent := linkFrame (headBytes s 2) } } l = .ctx c := hb
  split
  · rw [hb']
  · rw [hb]

/-- Settles O30: an answer is one frame at the end of its box's queue, and a delivered frame frees it. -/
theorem answersAndDeliveries : Obligations.AnswersAndDeliveries := by
  unfold Obligations.AnswersAndDeliveries
  refine ⟨fun op r rep s => ⟨answered_mailboxOnly, fun c hb h12 hc => ?_⟩, fun l c s f fs hlc hl h12 ho he hr => ?_⟩
  · obtain ⟨h1, h2, -⟩ := answered_onlyCtx (op := op) (rep := rep) hb
    have hnet := congrArg State.net h1
    exact ⟨hnet, h2, answered_out hb (h12 ▸ hc)⟩
  · have hlink : (∀ id, l ≠ .conn id) ∧ boxOf s l = .ctx c.val ∧ (l = .uart → c = 2) := by
      simp only [List.mem_cons, Prod.mk.injEq, List.not_mem_nil, or_false] at hlc
      obtain ⟨rfl, rfl⟩ | ⟨rfl, rfl⟩ | ⟨rfl, rfl⟩ := hlc <;> exact ⟨fun _ => by simp, rfl, by simp⟩
    obtain ⟨hn, hb, hu2⟩ := hlink
    have hctxs : (sentOn l s).ctxs = s.ctxs := by unfold sentOn; split <;> rfl
    have hrst : (sentOn l s).rst = s.rst := by unfold sentOn; split <;> rfl
    have hctx : ctxOf (sentOn l s) c.val = ctxOf s c.val := by rw [ctxOf, hctxs, ctxOf]
    have hd := ctxOf_deliverHead (s := sentOn l s) (by rw [hctxs, h12]; exact c.isLt) (by rw [hctx]; exact ho) he
      (by rw [hrst]; exact hr)
    have hO := deliverHead_onlyCtx (s := sentOn l s) (c := c.val) (by rw [hctx]; exact ho) he (by rw [hrst]; exact hr)
    obtain ⟨h1, h2, -⟩ := hO
    refine ⟨_, execResponseDelivered_wired hl hb hn ho, ?_, ?_, fun hq hm => ?_, fun hu => ?_, fun k hk => ?_, ?_⟩
    · rw [hd, hctx, deliveredBox, ho]; rfl
    · rw [hd, hctx]; rfl
    · rw [hd]; exact deliveredBox_cache hq hm
    · obtain rfl := hu2 hu
      have hu1 := congrArg State.uart h1
      have ht : (deliverHead (sentOn l s) (.ctx 2)).uart = (sentOn l s).uart := hu1
      have ho2 : (ctxOf s 2).out = f :: fs := ho
      rw [show ((2 : Fin 12) : Nat) = 2 from rfl, ht, sentOn, if_pos hu, headBytes, ho2]
    · exact (h2 k hk).trans (congrArg (fun x : List Ctx => x.getD k _) hctxs)
    · refine (congrArg (fun w : State => { w with ctxs := s.ctxs, cvu := s.cvu, uart := { w.uart with sent := s.uart.sent } })
        h1).trans ?_
      unfold sentOn
      split <;> rfl

end Sys2Proof.Machine
end

section
/-! SUPPORT and PROOF of O33. An admitted request's answer, and the system family (R285 to R289). -/

namespace Sys2Proof.Machine

variable {s : State} {r : Req} {op : Nat} {h : Handler}

/-! ### Admitted requests -/

/-- An admitted request's answer is its command's on the accepted state. -/
theorem serve_reply {rep : Reply} {u : State} (ha : admitted op r s = true) (he : h r (accepted r s) = (rep, u)) :
    serve op h r s = answered op r rep u := by
  rw [Laws.serve_admitted op h r s ha, he]

/-- A request that its checks pass runs. -/
theorem judge_ok {l : Bool} {cs : List (Nat × Bool)} {run : State → Reply × State} (hl : l = true) (hc : firstFail cs = none) :
    judge s l cs run = run s := by
  simp [judge, hl, hc]

theorem exactly_length {p : List Byte} {n : Nat} (h : p.length = n) : exactly p n = true := by simp [exactly, h]

theorem fieldAt_one (b : Byte) (l : List Byte) : fieldAt (b :: l) 0 1 = b.toNat := by simp [fieldAt, slice, ofLe]

/-- A byte within its bound and three reserved bytes. -/
theorem scopeChecks_ok {p : List Byte} {b : Byte} {m : Nat} (hp : p = [b, 0, 0, 0]) (hb : b.toNat ≤ m) :
    firstFail [(0, decide (fieldAt p 0 1 ≤ m)), reservedAt p 1 3] = none := by
  subst hp
  simp [firstFail, fieldAt_one, hb, reservedAt, slice, zeros]

/-- Settles O33: each command of the system family by its handler on the accepted state. -/
theorem systemCommands : Obligations.SystemCommands := by
  unfold Obligations.SystemCommands
  refine fun r s => ⟨fun ha hp => ?_, fun scope ha hp hs => ?_, fun clear ha hp hs => ?_, fun ha hp => ?_, fun ha hp hl => ?_,
    fun ha hp => ?_⟩ <;> refine congrArg Host.Outcome.next (serve_reply ha ?_)
  · rw [hSysIdent, judge_ok (exactly_length (by rw [hp]; rfl)) rfl]
    simp
  · rw [hSysReset, judge_ok (exactly_length (by rw [hp]; rfl)) (scopeChecks_ok hp hs), hp]
    rfl
  · rw [hSysCounters, judge_ok (exactly_length (by rw [hp]; rfl)) (scopeChecks_ok hp hs), hp]
    rfl
  · rw [hSysTime, judge_ok (exactly_length (by rw [hp]; rfl)) rfl]
    simp
  · rw [hSysRtcSet, judge_ok (exactly_length hp) rfl, rtcAlarmDue_ahead (by simpa using hl)]
    simp
  · rw [hSysEcho, judge_ok (by simpa using hp) rfl]

end Sys2Proof.Machine
end

section
/-! SUPPORT and PROOF of O34. Parameters read, written and reverted (R250 to R256, R291, R292). -/

namespace Sys2Proof.Machine

variable {s : State} {r : Req} {op : Nat}

/-! ### Parameters -/

theorem foldl_logOnly {α : Type} {f : State → α → State} (hf : ∀ t x, f t x = { t with log := (f t x).log }) (l : List α) :
    l.foldl f s = { s with log := (l.foldl f s).log } := by
  induction l generalizing s with
  | nil => rfl
  | cons x l ih => exact (ih (s := f s x)).trans (congrArg (fun u : State => { u with log := (l.foldl f (f s x)).log }) (hf s x))

/-- What the log records of changed masks touches the log alone. -/
theorem noteMasks_eq (b : State) (p : Bool) : noteMasks b p s = { s with log := (noteMasks b p s).log } :=
  foldl_logOnly (fun t c => by
    split
    · rfl
    · exact logEvent_eq ..) _

theorem admitted_continued (ha : admitted op r s = true) : continued (accepted r s) r op = none := by
  simp only [admitted, Bool.and_eq_true, Option.isNone_iff_eq_none] at ha
  obtain ⟨⟨⟨⟨⟨⟨_, _⟩, hmsg⟩, _⟩, _⟩, _⟩, _⟩ := ha
  exact hmsg

theorem admLifecycle_admitted (ha : admitted op r s = true) : admLifecycle (accepted r s) r op = lifecycle s.otp := by
  simp [admLifecycle, admitted_continued ha]

theorem firstBadEntry_eq_none {f : Entry3 → Option Nat} {es : List Entry3} (h : ∀ e ∈ es, f e = none) :
    firstBadEntry f es = none := by
  induction es with
  | nil => rfl
  | cons e es ih => simp [firstBadEntry, h e (by simp), ih fun e' he' => h e' (by simp [he'])]

/-- An entry that fails is named with its status. -/
theorem firstBadEntry_some {f : Entry3 → Option Nat} {es : List Entry3} (h : ∃ e ∈ es, (f e).isSome = true) :
    ∃ k ∈ es, ∃ st, firstBadEntry f es = some (st, k.id) ∧ f k = some st := by
  induction es with
  | nil =>
    obtain ⟨e, he, _⟩ := h
    cases he
  | cons e es ih =>
    cases hf : f e with
    | some st => exact ⟨e, by simp, st, by simp [firstBadEntry, hf], hf⟩
    | none =>
      have h' : ∃ e' ∈ es, (f e').isSome = true := by
        obtain ⟨e', he', hs⟩ := h
        obtain rfl | he' := List.mem_cons.mp he'
        · simp [hf] at hs
        · exact ⟨e', he', hs⟩
      obtain ⟨k, hk, st, h1, h2⟩ := ih h'
      exact ⟨k, by simp [hk], st, by simp [firstBadEntry, hf, h1], h2⟩

/-- A count of entries from 1 to 64 and a reserved byte. -/
theorem countChecks_ok {p body : List Byte} {n : Byte} (hp : p = n :: 0 :: body) (h1 : 1 ≤ n.toNat) (h64 : n.toNat ≤ 64) :
    firstFail [(0, decide (1 ≤ fieldAt p 0 1 ∧ fieldAt p 0 1 ≤ 64)), reservedAt p 1 1] = none := by
  subst hp
  simp [firstFail, fieldAt_one, h1, h64, reservedAt, slice, zeros]

/-- An entry's own check, then its right. -/
def entryJudged (lc : Nat) (m : Half) (e : Entry3) : Option Nat :=
  match entryStatus e with
  | some st => some st
  | none => entryRight lc m e

theorem hParamWrite_entries {n : Byte} {body : List Byte} {es : List Entry3} (ha : admitted 0x0202 r s = true)
    (hp : r.payload = n :: 0 :: body) (h1 : 1 ≤ n.toNat) (h64 : n.toNat ≤ 64) (he : parseEntries n.toNat body = some es) :
    hParamWrite r (accepted r s) =
      match firstBadEntry (entryJudged (lifecycle s.otp) (admMask (accepted r s) r 0x0202)) es with
      | some (st, id) => (⟨st, b16 id, false, none⟩, accepted r s)
      | none => (Reply.ok [], noteMasks (accepted r s) false
          { accepted r s with params := es.foldl (fun p e => setParam p e.id e.val) s.params }) := by
  have hpar : (accepted r s).params = s.params := by simp
  have hj : hParamWrite r (accepted r s) = match parseEntries (fieldAt r.payload 0 1) (r.payload.drop 2) with
      | none => (Reply.no stBadLength, accepted r s)
      | some es => judge (accepted r s) (decide (2 ≤ r.payload.length))
          [(0, decide (1 ≤ fieldAt r.payload 0 1 ∧ fieldAt r.payload 0 1 ≤ 64)), reservedAt r.payload 1 1] fun u =>
          match firstBadEntry (entryJudged (admLifecycle u r 0x0202) (admMask u r 0x0202)) es with
          | some (st, id) => (⟨st, b16 id, false, none⟩, u)
          | none => (Reply.ok [], noteMasks u false
              { u with params := es.foldl (fun p e => setParam p e.id e.val) u.params }) := rfl
  have hd : r.payload.drop 2 = body := by rw [hp]; rfl
  have hf : fieldAt r.payload 0 1 = n.toNat := by rw [hp, fieldAt_one]
  rw [hj, hf, hd, he]
  refine (judge_ok (by simp [hp]) ?_).trans ?_
  · have := countChecks_ok hp h1 h64
    rwa [hf] at this
  · rw [admLifecycle_admitted ha, hpar]

/-- Settles O34: reads and writes by their entries. -/
theorem parameterReadsAndWrites : Obligations.ParameterReadsAndWrites := by
  unfold Obligations.ParameterReadsAndWrites
  refine fun r s => ⟨fun n ids ha hp h1 h64 hl hi => ?_, fun n body es ha hp h1 h64 he hok => ?_,
    fun n body es e st ha hp h1 h64 he hm hst => ?_, fun ha hp => ?_, fun d ha hp hd => ?_⟩
  · refine congrArg Host.Outcome.next (serve_reply ha ?_)
    have hlen : r.payload.length = 2 + 2 * fieldAt r.payload 0 1 := by rw [hp, fieldAt_one]; simp [hl]; omega
    have hdrop : r.payload.drop 2 = ids := by rw [hp]; rfl
    have hfind : (idsOf ids).find? (fun id => (descOf id).isNone) = none := by
      rw [List.find?_eq_none]
      intro id hid
      have := hi id hid
      cases hd : descOf id <;> simp [hd] at this ⊢
    rw [hParamRead, judge_ok (decide_eq_true hlen) (countChecks_ok hp h1 h64), hdrop]
    simp only [hfind]
  · have hnone : firstBadEntry (entryJudged (lifecycle s.otp) (admMask (accepted r s) r 0x0202)) es = none :=
      firstBadEntry_eq_none fun e he => by
        obtain ⟨h2, h3⟩ := hok e he
        simp [entryJudged, h2, h3]
    refine ⟨_, congrArg Host.Outcome.next (serve_reply ha ((hParamWrite_entries ha hp h1 h64 he).trans (by rw [hnone]))), ?_, ?_⟩
    · simp
    · rw [noteMasks_eq]
      simp
  · obtain ⟨k, hk, st', hb, hs⟩ := firstBadEntry_some (f := entryJudged (lifecycle s.otp) (admMask (accepted r s) r 0x0202))
      (es := es) ⟨e, hm, by simp [entryJudged, hst]⟩
    refine ⟨k, hk, st', congrArg Host.Outcome.next (serve_reply ha ((hParamWrite_entries ha hp h1 h64 he).trans (by rw [hb]))), ?_⟩
    cases hks : entryStatus k with
    | some x => left; simpa [entryJudged, hks] using hs
    | none => right; simpa [entryJudged, hks] using hs
  · refine ⟨_, congrArg Host.Outcome.next (serve_reply ha (judge_ok (exactly_length (by rw [hp]; rfl)) rfl)), ?_, ?_⟩
    · simp
    · rw [noteMasks_eq]
      simp
  · refine ⟨_, congrArg Host.Outcome.next (serve_reply ha ((judge_ok (exactly_length hp) rfl).trans (by rw [hd]))), ?_⟩
    simp [b16, leBytes]

end Sys2Proof.Machine
end

section
/-! SUPPORT and PROOF of O35. Pages of sound NVM, and what a commit leaves (R255, R256, R260, R263). -/

namespace Sys2Proof.Machine

variable {s t : State} {r : Req}

/-! ### Pages of sound NVM -/

/-- Nothing but the pages' wear has changed. -/
def WornOnly (s t : State) : Prop := ∃ w, t = { s with nvm := { s.nvm with wear := w } }

theorem writePage_sound {n p : Nat} (h : s.nvm.bad = []) : ∃ u, writePage (n + 1) s p = (true, u) ∧ WornOnly s u :=
  ⟨_, if_pos (by simp [bumpWear, h]), _, rfl⟩

/-- Every page of sound NVM takes what is written (R263). -/
theorem writePages_sound {ps : List Nat} (h : s.nvm.bad = []) : ∃ u, writePages s ps = (none, u) ∧ WornOnly s u := by
  induction ps generalizing s with
  | nil => exact ⟨s, rfl, _, rfl⟩
  | cons p ps ih =>
    obtain ⟨u, hu, w, rfl⟩ := writePage_sound (n := 256) (p := p) h
    obtain ⟨v, hv, w', rfl⟩ := ih (s := { s with nvm := { s.nvm with wear := w } }) h
    exact ⟨_, by simp only [writePages, hu, hv], w', rfl⟩

/-! ### Commits -/

/-- The parameters but those that the next ticket takes. -/
def SetKept (s t : State) : Prop := t.params = { s.params with atTicket := t.params.atTicket }

theorem SetKept.trans {u : State} (h : SetKept s t) (k : SetKept t u) : SetKept s u := by
  unfold SetKept at *
  rw [k, h]

theorem setKept_of_params (h : t.params = s.params) : SetKept s t := by simp [SetKept, h]

theorem foldl_putHubParam_params {ids : List Nat} {f : Nat → List Byte} :
    (ids.foldl (fun s id => putHubParam s id (f id)) s).params = s.params := by
  induction ids generalizing s with
  | nil => rfl
  | cons id ids ih => exact ih.trans (by simp)

theorem onCommit_setKept {ch : List Nat} : SetKept s (onCommit s ch) := by
  unfold onCommit
  extract_lets m s1 p1 s2 s3
  have h1 : SetKept s s1 := setKept_of_params (by simp only [s1]; split <;> simp)
  have h2 : SetKept s1 s2 := by
    simp only [s2]
    split <;> rfl
  have h3 : SetKept s2 s3 := setKept_of_params foldl_putHubParam_params
  refine ((h1.trans h2).trans h3).trans (setKept_of_params ?_)
  split <;> simp

/-- A commit to sound NVM: its answer, the set in force and the area that it wrote (R255, R256). -/
theorem commitValues_sound {m : ParamMap} {pid ver : Word} {data : List Byte → List Byte} (hb : NvmSound s) :
    ∃ t, commitValues s m pid ver data = (Reply.ok (data (b32 ((imageInForce s).commitSeq + 1).toNat)), t) ∧
      t.params.committed = normalise m ∧ t.params.working = [] ∧ t.params.pending = [] ∧
      t.params.image = 1 - s.params.image ∧ t.nvm.images = s.nvm.images.set (1 - s.params.image)
        (imageBytes ⟨(imageInForce s).commitSeq + 1, pid, ver, normalise m⟩) := by
  unfold commitValues
  extract_lets m' old area sq b
  obtain ⟨u, hu, w, hw⟩ := writePages_sound (s := noteWrite s (imageStream (b.length - 32)) b)
    (ps := pagesOf 1 (area * 16384) b.length) (by simpa using hb)
  rw [hu]
  have hk (v : State) (ch : List Nat) (d : List Byte) : SetKept v (logEvent (noteMasks s false (onCommit v ch)) 0x0E02 d) :=
    (onCommit_setKept (ch := ch)).trans (setKept_of_params (by simp))
  refine ⟨_, rfl, (congrArg Params.committed (hk _ _ _)).trans rfl, (congrArg Params.working (hk _ _ _)).trans rfl,
    (congrArg Params.pending (hk _ _ _)).trans rfl, (congrArg Params.image (hk _ _ _)).trans rfl, ?_⟩
  simp [hw, area, b, sq, old, m']

/-- Settles O35: three ways to one commit. -/
theorem commitsPutValuesInForce : Obligations.CommitsPutValuesInForce := by
  unfold Obligations.CommitsPutValuesInForce
  intro r s hb hl hi
  have hb' : NvmSound (accepted r s) := by simpa [NvmSound] using hb
  have hpar : (accepted r s).params = s.params := by simp
  have hnvm : (accepted r s).nvm = s.nvm := by simp
  have hforce : imageInForce (accepted r s) = imageInForce s := by rw [imageInForce, hpar, hnvm, imageInForce]
  have hne : 1 - s.params.image ≠ s.params.image := by omega
  have hlt : 1 - s.params.image < s.nvm.images.length := by omega
  refine ⟨fun ha hp hc => ?_, fun ha hp => ?_, fun slot p ha hp hs hg hr => ?_⟩
  · obtain ⟨t, ht, h1, h2, h3, h4, h5⟩ := commitValues_sound (m := wholeSet s.params) (pid := (imageInForce s).profId)
      (ver := (imageInForce s).profVer) (data := id) hb'
    rw [hforce] at ht h5
    rw [hpar] at h4 h5
    rw [hnvm] at h5
    refine ⟨t, congrArg Host.Outcome.next (serve_reply ha ?_), h1, h2, h3, h4, ?_, ?_⟩
    · rw [hParamCommit, judge_ok (exactly_length (by rw [hp]; rfl)) rfl]
      simp only [hpar, hc, hforce]
      exact ht
    · rw [h5, List.getElem?_set_self hlt]
    · rw [h5, List.getElem?_set_ne hne]
  · obtain ⟨t, ht, h1, h2, h3, h4, h5⟩ := commitValues_sound (m := []) (pid := 0) (ver := 0) (data := id) hb'
    rw [hforce] at ht h5
    rw [hpar] at h4 h5
    rw [hnvm] at h5
    refine ⟨t, congrArg Host.Outcome.next (serve_reply ha ?_), h1, h2, h3, ?_⟩
    · rw [hParamDefaults, judge_ok (exactly_length (by rw [hp]; decide)) (by simp [hp, firstFail])]
      exact ht
    · rw [h5, List.getElem?_set_self hlt]
      rfl
  · have hsl : fieldAt r.payload 0 1 = slot.toNat := by rw [hp, fieldAt_one]
    have hset (es : List Entry3) : profSet (accepted r s) p.bytes es = profSet s p.bytes es := by rw [profSet, hpar, profSet]
    let es := (parseEntries (profCount p.bytes) (profBody p.bytes)).getD []
    have hes : es = (parseEntries (profCount p.bytes) (profBody p.bytes)).getD [] := rfl
    rw [← hes] at hr
    obtain ⟨t, ht, h1, h2, h3, h4, h5⟩ := commitValues_sound (m := profSet s p.bytes es) (pid := profId p.bytes)
      (ver := profVer p.bytes) (data := (b32 (profId p.bytes).toNat ++ b32 (profVer p.bytes).toNat ++ ·)) hb'
    rw [hforce] at ht h5
    rw [hpar] at h4 h5
    rw [hnvm] at h5
    refine ⟨logEvent t 0x0E04 (b32 (profId p.bytes).toNat ++ b32 (profVer p.bytes).toNat),
      congrArg Host.Outcome.next (serve_reply ha ?_), ?_, ?_⟩
    · rw [hProfileApply, judge_ok (exactly_length (by rw [hp]; rfl)) (scopeChecks_ok hp hs)]
      simp only [hsl, hnvm, hg, admLifecycle_admitted ha, ← hes, hr, hset, ht]
      rfl
    · simpa using h1
    · simp [h5, h1, hlt]

end Sys2Proof.Machine
end

section
/-! SUPPORT and PROOF of O36. Boxes that keep their messages, jobs that a preemption leaves alone, and the submissions (R293
to R296, R355, R532). -/

namespace Sys2Proof.Machine

variable {s t : State} {r : Req}

/-! ### Boxes that keep their messages -/

theorem boxOf_of_msgKept (hn : t.net.conns = s.net.conns) (hk : MsgKept s t) (l : Link) : boxOf t l = boxOf s l := by
  have ho (k : Conn) : connOpen t k = connOpen s k := by
    unfold connOpen
    split
    · rw [(hk _).2.1]
    · rfl
  have hc (id : Nat) : connOf t id = connOf s id := by rw [connOf, hn, connOf]
  cases l with
  | conn id => simp only [boxOf, hc, ho]
  | _ => rfl

theorem continued_of_msgKept (hn : t.net.conns = s.net.conns) (hk : MsgKept s t) (op : Nat) :
    continued t r op = continued s r op := by
  have hb : (getBox t (boxOf s r.link)).msg = (getBox s (boxOf s r.link)).msg := by
    cases boxOf s r.link with
    | ctx c => exact (hk c).1
    | conn id => simp only [getBox, connOf, hn]
  rw [continued, boxOf_of_msgKept hn hk, hb, continued]

theorem takeRaster_msgKept {id : Nat} {bs : List Byte} : MsgKept s (takeRaster s id bs).1 := by
  unfold takeRaster
  (repeat' split)
  · exact msgKept_of_ctxs rfl
  · exact msgKept_of_ctxs rfl
  · exact failJob_msgKept
  all_goals exact msgKept_of_ctxs rfl

theorem takeRaster_net {id : Nat} {bs : List Byte} : (takeRaster s id bs).1.net = s.net := by
  unfold takeRaster
  (repeat' split) <;> simp [modJob]

theorem addRaster_msgKept {c : Fin 12} {p : List Byte} {raw : Bool} {total : Nat} : MsgKept s (addRaster s c p raw total) :=
  MsgKept.trans (t := addJob s { latchTicket s (newJob s c p true raw .rendering) with dec := some (Decoder.start total) })
    (msgKept_of_ctxs rfl) notify_msgKept

theorem endMsg_of_continued {op : Nat} (h : continued s r op = none) : endMsg s r op = s := by simp [endMsg, h]

theorem rasterMsg_of_continued (h : continued s r 0x0302 = none) : rasterMsg s r = none := by
  unfold rasterMsg
  unfold continued at h
  cases hm : (getBox s (boxOf s r.link)).msg with
  | none => rfl
  | some m =>
    rw [hm] at h
    have hne : m.opcode ≠ 0x0302 := by
      rintro ho
      simp [ho] at h
    exact if_neg hne

/-! ### Jobs that a preemption leaves alone -/

/-- A change of one job leaves the others, and the counter of IDs. -/
def OthersKept (s t : State) (id : Nat) : Prop :=
  (∀ k ∈ s.jobs.live, k.id ≠ id → k ∈ t.jobs.live) ∧ t.jobs.nextId = s.jobs.nextId

theorem othersKept_of_jobs {id : Nat} (h : t.jobs = s.jobs) : OthersKept s t id := by simp +contextual [OthersKept, h]

theorem OthersKept.trans {u : State} {id : Nat} (h : OthersKept s t id) (k : OthersKept t u id) : OthersKept s u id :=
  ⟨fun j hj hne => k.1 j (h.1 j hj hne) hne, k.2.trans h.2⟩

theorem modJob_othersKept {id : Nat} {f : Job → Job} : OthersKept s (modJob s id f) id := by
  refine ⟨fun k hk hne => ?_, rfl⟩
  simp only [modJob, List.mem_map]
  exact ⟨k, hk, if_neg hne⟩

theorem setJobHeld_othersKept {id d : Nat} {st : JobSt} {hold : Half} : OthersKept s (setJobHeld s id st d hold) id := by
  unfold setJobHeld
  split
  · exact othersKept_of_jobs rfl
  · extract_lets j' u
    have hu : u.jobs = s.jobs := by simp only [u]; split <;> rfl
    exact (othersKept_of_jobs hu).trans ((modJob_othersKept (f := fun _ => j')).trans (u := notifyJob _ _ _ _) (othersKept_of_jobs (by simp)))

theorem requeue_othersKept {id : Nat} : OthersKept s (requeue s id) id := modJob_othersKept.trans setJobHeld_othersKept

theorem foldl_requeue_kept {ids : List Nat} {k : Job} (hk : k ∈ s.jobs.live) (hne : ∀ id ∈ ids, k.id ≠ id) :
    k ∈ (ids.foldl requeue s).jobs.live ∧ (ids.foldl requeue s).jobs.nextId = s.jobs.nextId := by
  induction ids generalizing s with
  | nil => exact ⟨hk, rfl⟩
  | cons id ids ih =>
    obtain ⟨ho, hn⟩ := requeue_othersKept (s := s) (id := id)
    obtain ⟨h1, h2⟩ := ih (s := requeue s id) (ho k hk (hne id (by simp))) fun i hi => hne i (by simp [hi])
    exact ⟨h1, h2.trans hn⟩

/-- A job that has become QUEUED stays as it is when others give way to it (R355). -/
theorem preempt_kept {k : Job} (hk : k ∈ s.jobs.live) (hst : k.st = .queued ∨ k.st = .held)
    (hid : ∀ j ∈ s.jobs.live, j.id = k.id → j = k) :
    k ∈ (preempt s k.id).jobs.live ∧ (preempt s k.id).jobs.nextId = s.jobs.nextId := by
  unfold preempt
  split
  · exact ⟨hk, rfl⟩
  · split
    · exact ⟨hk, rfl⟩
    · split
      · exact ⟨hk, rfl⟩
      · rename_i j hj hq _ _
        refine foldl_requeue_kept hk fun id hid' hne => ?_
        simp only [List.mem_map, List.mem_filter] at hid'
        obtain ⟨w, ⟨hw, hf⟩, rfl⟩ := hid'
        rw [hid w hw hne.symm] at hf
        obtain h | h := hst <;> simp [h] at hf

/-- Settles O36: the two submissions, and the counter's end. -/
theorem jobsAreSubmitted : Obligations.JobsAreSubmitted := by
  unfold Obligations.JobsAreSubmitted
  refine ⟨fun r s => ⟨fun ha hl hc hn hlt => ?_, fun s' ha hl hc ht hn hf => ?_⟩, fun r s ha hl hc hn => ?_⟩
  · have hjobs : (accepted r s).jobs = s.jobs := by simp
    have hroom : jobRoom (accepted r s) r.ctx.val = true := by
      simp only [admitted, Bool.and_eq_true] at ha
      obtain ⟨⟨_, hj⟩, _⟩ := ha
      simpa using hj
    let st : JobSt := if (byteAt r.payload 1).toNat.testBit 0 then .held else .queued
    have hst : st = if (byteAt r.payload 1).toNat.testBit 0 then .held else .queued := rfl
    let j : Job := { newJob (accepted r s) r.ctx r.payload false false st with desc := r.payload.drop 8 }
    have hj : j = { newJob (accepted r s) r.ctx r.payload false false st with desc := r.payload.drop 8 } := rfl
    have hid : j.id = s.jobs.nextId := congrArg (fun x : Jobs => x.nextId) hjobs
    have hmem : j ∈ (addJob (accepted r s) j).jobs.live := by simp [addJob]
    have hsts : j.st = .queued ∨ j.st = .held := by
      simp only [hj, newJob, hst]
      split <;> simp
    obtain ⟨h1, h2⟩ := preempt_kept hmem hsts fun k hk he => by
      simp only [addJob, hjobs, List.mem_append, List.mem_singleton] at hk
      obtain hk | hk := hk
      · have := hlt k hk
        omega
      · exact hk
    refine ⟨preempt (addJob (accepted r s) j) j.id, congrArg Host.Outcome.next (serve_reply ha ?_), ?_, j, h1, hid, rfl, rfl,
      rfl, rfl, rfl, rfl⟩
    · rw [hJobSubmit, judge_ok (decide_eq_true hl) hc, if_neg (by simp [idsSpent, hroom, hn]), ← hid]
    · rw [h2]
      simp [addJob]
  · have hnn := admitted_continued ha
    have hjobs : (accepted r s).jobs = s.jobs := by simp
    have hmore : r.more = false := by
      simp only [admitted, Bool.and_eq_true] at ha
      simpa using ha.1.1.1.1.1.2
    have hend : endMsg s' r 0x0302 = s' := by
      have hs' : s' = (takeRaster (addRaster (accepted r s) r.ctx r.payload false (fieldAt r.payload 8 4)) s.jobs.nextId
          (r.payload.drop 16)).1 := by
        unfold feedRaster at hf
        split at hf
        · next h =>
          cases hf
          rw [h]
        · cases hf
      have hconns : s'.net.conns = (accepted r s).net.conns := by
        rw [hs', takeRaster_net]
        simp [addRaster, addJob]
      refine endMsg_of_continued ((continued_of_msgKept hconns ?_ _).trans hnn)
      rw [hs']
      exact addRaster_msgKept.trans takeRaster_msgKept
    refine congrArg Host.Outcome.next (serve_reply ha ?_)
    rw [hJobSubmitRaster, rasterMsg_of_continued hnn]
    refine (judge_ok (decide_eq_true hl) hc).trans ?_
    simp only [Nat.not_lt.mpr ht, if_false, idsSpent, hjobs, Nat.not_lt.mpr hn, decide_false, Bool.false_eq_true, hf, hmore]
    rw [endRasterMsg, hend]
  · refine ⟨endMsg (accepted r s) r 0x0301, congrArg Host.Outcome.next (serve_reply ha ?_), by simp [endMsg, setMsg]⟩
    rw [hJobSubmit, judge_ok (decide_eq_true hl) hc, if_pos (.inl (by simp [idsSpent, hn]))]
    rfl

end Sys2Proof.Machine
end

section
/-! SUPPORT and PROOF of O37. A job by its ID after each operation, and the commands on it (R294, R297 to R299, R336, R337).
-/

namespace Sys2Proof.Machine

variable {s t : State} {r : Req} {j : Job}

/-! ### A job by its ID, after each operation -/

theorem jobOf_modJob {id : Nat} {f : Job → Job} (hf : ∀ j, j.id = id → (f j).id = id) (k : Nat) :
    jobOf (modJob s id f) k = if k = id then (jobOf s id).map f else jobOf s k := by
  have hp : ((fun x : Job => x.id == k) ∘ fun x : Job => if x.id = id then f x else x) = fun x => x.id == k := by
    funext x
    by_cases hx : x.id = id
    · simp [hx, hf x hx]
    · simp [hx]
  simp only [jobOf, modJob, List.find?_map, hp]
  cases hj : s.jobs.live.find? (fun x => x.id == k) with
  | none =>
    split
    · next h => rw [← h, hj]; rfl
    · rfl
  | some x =>
    have hx : x.id = k := by simpa using List.find?_some hj
    split
    · next h => rw [← h, hj]; simp [hx, h]
    · next h => simp [hx, h]

theorem jobOf_of_jobs (h : t.jobs = s.jobs) (k : Nat) : jobOf t k = jobOf s k := by simp [jobOf, h]

theorem jobOf_of_live (h : t.jobs.live = s.jobs.live) (k : Nat) : jobOf t k = jobOf s k := by simp [jobOf, h]

/-- A job in the state that it is set to. -/
def setTo (st : JobSt) (d : Nat) (hold : Half) (j : Job) : Job := { j with st := st, hold := hold, detail := BitVec.ofNat 32 d }

/-- Setting a job's state changes that job alone. -/
theorem setJobHeld_jobs {id d : Nat} {st : JobSt} {hold : Half} (h : jobOf s id = some j) :
    (setJobHeld s id st d hold).jobs = (modJob s id (fun _ => setTo st d hold j)).jobs := by
  simp only [setJobHeld, h]
  have hy (v : State) : (if st = .ready then yieldScan v else v).jobs = v.jobs := by split <;> rfl
  simp [modJob, hy, setTo]

theorem jobOf_setJobHeld {id d : Nat} {st : JobSt} {hold : Half} (k : Nat) :
    jobOf (setJobHeld s id st d hold) k = if k = id then (jobOf s id).map (setTo st d hold) else jobOf s k := by
  cases h : jobOf s id with
  | none =>
    have hs : setJobHeld s id st d hold = s := by simp [setJobHeld, h]
    rw [hs]
    split
    · next hk => rw [hk, h]; rfl
    · rfl
  | some j =>
    rw [jobOf_of_jobs (setJobHeld_jobs h), jobOf_modJob (f := fun _ => setTo st d hold j) fun _ _ => (show j.id = id from jobOf_id h), h]
    rfl

theorem jobOf_retireJob {id : Nat} (k : Nat) : jobOf (retireJob s id) k = if k = id then none else jobOf s k := by
  cases h : jobOf s id with
  | none =>
    have hs : retireJob s id = s := by simp [retireJob, h]
    rw [hs]
    split
    · next hk => rw [hk, h]
    · rfl
  | some j =>
    simp only [retireJob, h]
    simp only [jobOf, List.find?_filter]
    split
    · next hk => simp [hk]
    · next hk =>
      refine congrArg (s.jobs.live.find? ·) (funext fun x => ?_)
      by_cases hx : x.id = k
      · simp [hx, hk]
      · simp [hx]

/-- Cancelling at once leaves the other jobs, and its own among the finished ones (R297, R298). -/
theorem jobOf_cancelNow {id : Nat} (k : Nat) : jobOf (cancelNow s id) k = if k = id then none else jobOf s k := by
  rw [cancelNow, finishJob, jobOf_retireJob]
  split
  · rfl
  · next hk => rw [setJobState, jobOf_setJobHeld, if_neg hk, jobOf_modJob (by intro _ h; exact h), if_neg hk]

theorem cancelNow_finished {id : Nat} (h : jobOf s id = some j) :
    ∃ f : Finished, (cancelNow s id).jobs.finished = (f :: s.jobs.finished).take 64 ∧ f.id = id ∧ f.st = .cancelled := by
  have hm : jobOf (modJob s id freeRaster) id = some (freeRaster j) := by
    rw [jobOf_modJob (by intro _ h; exact h), if_pos rfl, h]; rfl
  have hs : jobOf (setJobState (modJob s id freeRaster) id .cancelled 0) id = some (setTo .cancelled 0 0 (freeRaster j)) := by
    rw [setJobState, jobOf_setJobHeld, if_pos rfl, hm]; rfl
  have hf : (setJobState (modJob s id freeRaster) id .cancelled 0).jobs.finished = s.jobs.finished := by
    rw [setJobState, setJobHeld_jobs hm]; rfl
  refine ⟨⟨j.id, j.ctx, j.raster, .cancelled, j.prio, j.hostRef, j.lines, j.fired⟩, ?_, jobOf_id h, rfl⟩
  rw [cancelNow, finishJob, retireJob, hs]
  simp only [hf]
  rfl

/-! ### A request on a job -/

theorem onJob_live {op : Nat} {go : Named → State → Reply × State} (h : jobOf s (fieldAt r.payload 0 4) = some j)
    (hr : jobRight s r op j.ctx = true) : onJob r op s go = go (.live j) s := by
  simp [onJob, namedJob, h, Named.ctx, hr]

theorem onJob_refused {op : Nat} {go : Named → State → Reply × State} (h : jobOf s (fieldAt r.payload 0 4) = some j)
    (hr : jobRight s r op j.ctx = false) : onJob r op s go = (Reply.no stNoRight, s) := by
  simp [onJob, namedJob, h, Named.ctx, hr]

theorem cancelJob_unbegun (hp : j.st ≠ .printing) (hc : j.st ≠ .cutting) :
    cancelJob s j = cancelStreamed (markCancelled s j.id) j.id := by
  unfold cancelJob
  split
  · next h => exact absurd h hp
  · next h => exact absurd h hc
  · rfl

/-! ### A cancelled job stays gone -/

/-- A job has left the unfinished ones, its ID is spent, and where its status is kept it is `x`. -/
def StaysGone (x : JobSt) (id : Nat) (s : State) : Prop :=
  jobOf s id = none ∧ id < s.jobs.nextId ∧ ((s.jobs.finished.find? (fun f => f.id == id)).map (·.st)).getD x = x

variable {x : JobSt} {id : Nat}

theorem StaysGone.of_jobs (h : StaysGone x id s) (hj : t.jobs = s.jobs) : StaysGone x id t := by
  obtain ⟨h1, h2, h3⟩ := h
  exact ⟨(jobOf_of_jobs hj id).trans h1, by rw [hj]; exact h2, by rw [hj]; exact h3⟩

theorem StaysGone.modJob {k : Nat} {f : Job → Job} (h : StaysGone x id s) (hf : ∀ j, j.id = k → (f j).id = k) :
    StaysGone x id (modJob s k f) := by
  obtain ⟨h1, h2, h3⟩ := h
  refine ⟨?_, h2, h3⟩
  rw [jobOf_modJob hf]
  split
  · next hk => rw [← hk, h1]; rfl
  · exact h1

theorem StaysGone.setJobHeld {k d : Nat} {st : JobSt} {hold : Half} (h : StaysGone x id s) :
    StaysGone x id (setJobHeld s k st d hold) := by
  cases hk : jobOf s k with
  | none =>
    have hs : Machine.setJobHeld s k st d hold = s := by simp [Machine.setJobHeld, hk]
    rwa [hs]
  | some j => exact (h.modJob (f := fun _ => setTo st d hold j) fun _ _ => (show j.id = k from jobOf_id hk)).of_jobs (setJobHeld_jobs hk)

/-- What the first 64 finished jobs say of an ID, once another's is before them. -/
theorem find_finished_cons {f : Finished} {l : List Finished} (hf : f.id ≠ id)
    (h : ((l.find? (fun f => f.id == id)).map (·.st)).getD x = x) :
    ((((f :: l).take 64).find? (fun f => f.id == id)).map (·.st)).getD x = x := by
  have hl : (((f :: l).take 64).find? (fun f => f.id == id)) = (l.take 63).find? (fun f => f.id == id) := by
    simp [hf]
  rw [hl]
  cases ht : (l.take 63).find? (fun f => f.id == id) with
  | none => rfl
  | some x =>
    have hx : l.find? (fun f => f.id == id) = some x := by
      rw [← List.take_append_drop 63 l, List.find?_append, ht]
      rfl
    rwa [hx] at h

theorem StaysGone.retireJob {k : Nat} (h : StaysGone x id s) : StaysGone x id (retireJob s k) := by
  cases hk : jobOf s k with
  | none =>
    have hs : Machine.retireJob s k = s := by simp [Machine.retireJob, hk]
    rwa [hs]
  | some j =>
    obtain ⟨h1, h2, h3⟩ := h
    have hne : j.id ≠ id := by
      rintro rfl
      rw [jobOf_id hk, hk] at h1
      cases h1
    refine ⟨?_, ?_, ?_⟩
    · rw [jobOf_retireJob, h1, ite_self]
    · simpa only [Machine.retireJob, hk] using h2
    · simp only [Machine.retireJob, hk]
      exact find_finished_cons hne h3

theorem StaysGone.failJob {k d : Nat} (h : StaysGone x id s) : StaysGone x id (failJob s k d) :=
  ((h.modJob (f := freeRaster) fun _ hj => hj).setJobHeld).retireJob

theorem StaysGone.takeRaster {k : Nat} {bs : List Byte} (h : StaysGone x id s) : StaysGone x id (takeRaster s k bs).1 := by
  unfold Machine.takeRaster
  split
  · exact h
  · split
    · exact h
    · split
      · exact h.failJob
      · exact h.modJob fun _ hj => hj

theorem StaysGone.endRaster {k : Nat} (h : StaysGone x id s) : StaysGone x id (endRaster s k) := by
  unfold Machine.endRaster
  split
  · exact h
  · split
    · exact h
    · split
      · exact h.failJob
      · extract_lets u
        have hu : StaysGone x id u := h.modJob fun _ hj => hj
        split
        · exact hu.setJobHeld
        · exact hu.setJobHeld

theorem StaysGone.addRaster {c : Fin 12} {p : List Byte} {raw : Bool} {n : Nat} (h : StaysGone x id s) :
    StaysGone x id (addRaster s c p raw n) := by
  obtain ⟨h1, h2, h3⟩ := h
  refine StaysGone.of_jobs (s := addJob s { latchTicket s (newJob s c p true raw .rendering) with dec := some (Decoder.start n) })
    ⟨?_, Nat.lt_succ_of_lt h2, h3⟩ (by simp [Machine.addRaster])
  have hne : ¬ s.jobs.nextId = id := by omega
  rw [jobOf] at h1 ⊢
  simp [addJob, List.find?_append, h1, latchTicket, newJob, hne]

theorem StaysGone.rawStep {w w' : RawIn} (h : StaysGone x id s) (hs : rawStep s w = some (t, w')) : StaysGone x id t := by
  unfold Machine.rawStep at hs
  split at hs
  · cases hs
  · split at hs
    · cases hs
      exact h
    · split at hs
      · next j _ =>
        split at hs
        · cases hs
        · next d _ =>
          have ht := h.takeRaster (k := j.id) (bs := w.buf.take (d.total - d.got))
          simp only at hs
          (repeat' split at hs) <;> simp only [Option.some.injEq, Prod.mk.injEq, reduceCtorEq] at hs <;> obtain ⟨rfl, -⟩ := hs
          · exact ht
          · exact ht.endRaster
          · exact ht
      · (repeat' split at hs) <;> cases hs
        · exact h.addRaster
        · exact h
        · exact h
        · exact h.of_jobs (by simp)

theorem StaysGone.pump {l : Link} {k : Nat} (h : StaysGone x id s) : StaysGone x id (pump l k s) := by
  induction k generalizing s with
  | zero => exact h
  | succ k ih =>
    unfold Machine.pump
    split
    · exact h
    · split
      · next hs => exact ih ((h.rawStep hs).of_jobs (by cases l <;> rfl))
      · exact h

theorem cancelNow_nextId : (cancelNow s id).jobs.nextId = s.jobs.nextId := by
  have hr (u : State) : (Machine.retireJob u id).jobs.nextId = u.jobs.nextId := by
    unfold Machine.retireJob
    split <;> rfl
  rw [cancelNow, finishJob, hr, setJobState, setJobHeld_othersKept.2]
  rfl

theorem cancelNow_staysGone (h : jobOf s id = some j) (hn : id < s.jobs.nextId) : StaysGone .cancelled id (cancelNow s id) := by
  obtain ⟨f, hf, hid, hst⟩ := cancelNow_finished h
  refine ⟨by rw [jobOf_cancelNow, if_pos rfl], by rw [cancelNow_nextId]; exact hn, ?_⟩
  rw [hf]
  simp [hid, hst]

theorem skipRest_jobs {l : Link} : (skipRest s id l).jobs = s.jobs := by
  unfold skipRest
  split
  · cases l <;> rfl
  · rfl

theorem foldl_skipRest_jobs {ls : List Link} : (ls.foldl (fun s l => skipRest s id l) s).jobs = s.jobs := by
  induction ls generalizing s with
  | nil => rfl
  | cons l ls ih => exact ih.trans skipRest_jobs

theorem StaysGone.foldl_pump {ls : List Link} {n : State → Link → Nat} (h : StaysGone x id s) :
    StaysGone x id (ls.foldl (fun s l => Machine.pump l (n s l) s) s) := by
  induction ls generalizing s with
  | nil => exact h
  | cons l ls ih => exact ih h.pump

theorem cancelStreamed_staysGone (h : jobOf s id = some j) (hn : id < s.jobs.nextId) :
    StaysGone .cancelled id (cancelStreamed s id) :=
  (cancelNow_staysGone ((jobOf_of_jobs foldl_skipRest_jobs id).trans h)
    (by rw [foldl_skipRest_jobs]; exact hn)).foldl_pump (n := fun s l => 2 * rawBytes s l + 4)

theorem markCancelled_jobs : (markCancelled s id).jobs = s.jobs := rfl

/-- What JOB_CANCEL answers of a job that has not begun to print (R298). -/
theorem hJobCancel_unbegun {u : State} (hl : r.payload.length = 4) (hj : jobOf s (fieldAt r.payload 0 4) = some j)
    (hr : jobRight s r 0x0304 j.ctx = true) (hp : j.st ≠ .printing) (hc : j.st ≠ .cutting)
    (hu : cancelStreamed (markCancelled s j.id) j.id = u) (hg : jobOf u j.id = none)
    (hf : ((u.jobs.finished.find? (fun f => f.id == j.id)).map (·.st)).getD .cancelled = .cancelled) :
    hJobCancel r s = (Reply.ok [9, 0, 0, 0], schedule u) := by
  rw [hJobCancel, judge_ok (exactly_length hl) rfl, onJob_live hj hr]
  simp only [cancelJob_unbegun hp hc, hu, hg, hf]
  rfl

theorem cancelNow_usbBut : usbBut (cancelNow s id).usb = usbBut s.usb := by
  have hr (u : State) : (Machine.retireJob u id).usb = u.usb := by
    unfold Machine.retireJob
    split <;> rfl
  have hy (v : State) (st : JobSt) : (if st = .ready then yieldScan v else v).usb = v.usb := by split <;> rfl
  rw [cancelNow, finishJob, hr, setJobState, Machine.setJobHeld]
  split
  · rfl
  · simp [hy, Machine.modJob]

/-- With its stream alone and nothing waiting in it, a cancelled raw job's rest is skipped (R336, R337). -/
theorem cancelStreamed_usb {d : Decoder} (ha : s.usb.attached = true) (hc : s.usb.configured = true) (hr : rawJob s 3 = some j)
    (hj : jobOf s j.id = some j) (hd : j.dec = some d) (hraw : s.usb.raw = []) (hn : s.net.conns = []) :
    cancelStreamed s j.id = cancelNow { s with usb := { s.usb with skip := d.total - d.got } } j.id := by
  have hin : rawIn s .usb = some ⟨3, true, s.usb.raw, s.usb.skip, s.usb.hunt⟩ := by simp [rawIn, ha, hc]
  have hls : linksOf s j.id = [.usb] := by
    simp only [linksOf, rawLinks, hn, List.map_nil, List.filter_cons, List.filter_nil, hin]
    rw [show rawJob s ((3 : Fin 12) : Nat) = some j from hr]
    simp
  have hs : skipRest s j.id .usb = { s with usb := { s.usb with skip := d.total - d.got } } := by
    simp only [skipRest, hin, hj, Option.bind_some, hd]
    rfl
  have hp (u : State) (k : Nat) (hu : u.usb.raw = []) : pump .usb k u = u := by
    cases hi : rawIn u .usb with
    | none => cases k <;> simp [Machine.pump, hi]
    | some w =>
      refine pump_empty k hi ?_
      simp only [rawIn] at hi
      split at hi
      · rw [← Option.some.inj hi]
        exact hu
      · cases hi
  unfold cancelStreamed
  rw [hls]
  simp only [List.foldl_cons, List.foldl_nil, hs]
  refine hp _ _ ?_
  have hk := cancelNow_usbBut (s := { s with usb := { s.usb with skip := d.total - d.got } }) (id := j.id)
  exact (congrArg (fun u : Usb => u.raw) hk).trans hraw

/-- The state in which a HELD job is let go, and its reprint queued where it is due. -/
def heldNoMore (s : State) (j : Job) : State :=
  let s := modJob s j.id (fun j => { j with holdFlag := false, banner := j.banner || j.reprintDue })
  if j.reprintDue ∧ !s.jobs.interrupted.contains j.id then
    { s with jobs := { s.jobs with interrupted := s.jobs.interrupted ++ [j.id] } } else s

/-- A released job as it waits again (R299). -/
def queuedAgain (j : Job) : Job :=
  { j with st := .queued, hold := 0, detail := 0, holdFlag := false, banner := j.banner || j.reprintDue }

theorem releaseJob_eq : releaseJob s j = if j.raster then becomeReady (setJobState (heldNoMore s j) j.id .queued 0) j.id
    else preempt (setJobState (heldNoMore s j) j.id .queued 0) j.id := rfl

theorem jobOf_heldNoMore (hj : jobOf s j.id = some j) :
    jobOf (heldNoMore s j) j.id = some { j with holdFlag := false, banner := j.banner || j.reprintDue } := by
  have hl : (heldNoMore s j).jobs.live =
      (Machine.modJob s j.id (fun j => { j with holdFlag := false, banner := j.banner || j.reprintDue })).jobs.live := by
    simp only [heldNoMore]
    split <;> rfl
  rw [jobOf_of_live hl, jobOf_modJob (by intro _ h; exact h), if_pos rfl, hj]
  rfl

theorem heldNoMore_interrupted (hd : j.reprintDue = true) : j.id ∈ (heldNoMore s j).jobs.interrupted := by
  unfold heldNoMore
  by_cases hm : j.id ∈ s.jobs.interrupted
  · simp [Machine.modJob, hm]
  · simp [Machine.modJob, hm, hd]

/-- A released job waits, alone under its ID, and its reprint is queued where it is due. -/
theorem releaseJob_set {u : State} (hj : jobOf s j.id = some j) (hu : u = setJobState (heldNoMore s j) j.id .queued 0) :
    jobOf u j.id = some (queuedAgain j) ∧ (j.reprintDue = true → j.id ∈ u.jobs.interrupted) ∧
    (∀ w ∈ u.jobs.live, w.id = j.id → w = queuedAgain j) := by
  have hq : setTo .queued 0 0 { j with holdFlag := false, banner := j.banner || j.reprintDue } = queuedAgain j := rfl
  have hjobs := setJobHeld_jobs (d := 0) (st := .queued) (hold := 0) (jobOf_heldNoMore hj)
  rw [hu, setJobState]
  refine ⟨by rw [jobOf_setJobHeld, if_pos rfl, jobOf_heldNoMore hj]; rfl, fun hd => ?_, fun w hw hid => ?_⟩
  · rw [hjobs]
    exact heldNoMore_interrupted hd
  · rw [hjobs, hq] at hw
    simp only [Machine.modJob, List.mem_map] at hw
    obtain ⟨x, -, rfl⟩ := hw
    split at hid
    · next h => rw [if_pos h]
    · next h => exact absurd hid h

theorem jobOf_requeue {k : Nat} (h : k ≠ id) : jobOf (requeue s id) k = jobOf s k ∧
    (requeue s id).jobs.interrupted = s.jobs.interrupted := by
  refine ⟨?_, ?_⟩
  · rw [requeue, setJobState, jobOf_setJobHeld, if_neg h, jobOf_modJob (by intro _ h; exact h), if_neg h]
  · rw [requeue, setJobState]
    cases hj : jobOf (Machine.modJob s id freeRaster) id with
    | none =>
      rw [Machine.setJobHeld, hj]
      rfl
    | some j => rw [setJobHeld_jobs hj]; rfl

theorem jobOf_foldl_requeue {k : Nat} {ids : List Nat} (h : ∀ i ∈ ids, k ≠ i) : jobOf (ids.foldl requeue s) k = jobOf s k ∧
    (ids.foldl requeue s).jobs.interrupted = s.jobs.interrupted := by
  induction ids generalizing s with
  | nil => exact ⟨rfl, rfl⟩
  | cons i ids ih =>
    obtain ⟨h1, h2⟩ := ih (s := requeue s i) fun x hx => h x (by simp [hx])
    obtain ⟨h3, h4⟩ := jobOf_requeue (s := s) (h i (by simp))
    exact ⟨h1.trans h3, h2.trans h4⟩

/-- A job that alone bears its ID, and waits, stays as it is when others give way to it (R355). -/
theorem jobOf_preempt {id : Nat} {x : Job} (hx : x.st = .queued) (ha : ∀ w ∈ s.jobs.live, w.id = id → w = x) :
    jobOf (preempt s id) id = jobOf s id ∧ (preempt s id).jobs.interrupted = s.jobs.interrupted := by
  unfold preempt
  split
  · exact ⟨rfl, rfl⟩
  · split
    · exact ⟨rfl, rfl⟩
    · split
      · exact ⟨rfl, rfl⟩
      · refine jobOf_foldl_requeue fun i hi hne => ?_
        simp only [List.mem_map, List.mem_filter] at hi
        obtain ⟨w, ⟨hw, hf⟩, rfl⟩ := hi
        rw [ha w hw hne.symm] at hf
        simp [hx] at hf

/-- A class and three reserved bytes at offset 4. -/
theorem classField {p : List Byte} {c : Byte} (h : slice p 4 4 = [c, 0, 0, 0]) :
    fieldAt p 4 1 = c.toNat ∧ slice p 5 3 = [0, 0, 0] := by
  have h1 : slice p 4 1 = (slice p 4 4).take 1 := by simp [slice, List.take_take]
  have h2 : slice p 5 3 = (slice p 4 4).drop 1 := by simp [slice, List.drop_take]
  rw [fieldAt, h1, h2, h]
  simp [ofLe]

/-- Settles O37: each job command on the job that it names. -/
theorem jobCommands : Obligations.JobCommands := by
  unfold Obligations.JobCommands
  refine ⟨fun r s => ⟨fun j hj => ?_, fun ha hp => ?_⟩, fun s j hj => ⟨?_, ?_, fun id hne => ?_⟩,
    fun s j d ha hc hr hj hd hraw hn => ⟨_, cancelStreamed_usb ha hc hr hj hd hraw hn, rfl⟩, fun r s j ha hl hj hno => ?_⟩
  · have hid : j.id = fieldAt r.payload 0 4 := jobOf_id hj
    have hja : jobOf (accepted r s) (fieldAt r.payload 0 4) = some j := by simpa using hj
    have hjobs : (accepted r s).jobs = s.jobs := by simp
    refine ⟨fun ha hl hr => ?_, fun ha hl hr hp hc => ⟨fun hn => ?_, fun hn => ?_⟩, fun ha hl hr hst => ?_, fun ha hl hr hst => ?_,
      fun cls ha hl hp hcls hr hst => ?_⟩
    · refine congrArg Host.Outcome.next (serve_reply ha ?_)
      rw [hJobStatus, judge_ok (exactly_length hl) rfl, onJob_live hja hr]
    · have hl' : linksOf (markCancelled (accepted r s) j.id) j.id = [] := hn
      have hu : cancelStreamed (markCancelled (accepted r s) j.id) j.id = cancelNow (markCancelled (accepted r s) j.id) j.id := by
        simp only [cancelStreamed, hl', List.foldl_nil]
      obtain ⟨f, hf, h1, h2⟩ := cancelNow_finished (s := markCancelled (accepted r s) j.id) (id := j.id) (j := j)
        (by rw [hid]; exact hja)
      exact congrArg Host.Outcome.next (serve_reply ha (hJobCancel_unbegun hl hja hr hp hc hu
        (by rw [jobOf_cancelNow, if_pos rfl]) (by simp [hf, h1, h2])))
    · have hmem : j.id < s.jobs.nextId := hn j (List.mem_of_find?_eq_some hj)
      obtain ⟨h1, -, h3⟩ := cancelStreamed_staysGone (s := markCancelled (accepted r s) j.id) (id := j.id) (j := j)
        (by rw [hid]; exact hja) (by rw [markCancelled_jobs, hjobs]; exact hmem)
      exact congrArg Host.Outcome.next (serve_reply ha (hJobCancel_unbegun hl hja hr hp hc rfl h1 h3))
    · refine ⟨setJobState (if j.raster then accepted r s else Machine.modJob (accepted r s) j.id freeRaster) j.id .held 0,
        congrArg Host.Outcome.next (serve_reply ha ?_), ?_⟩
      · rw [hJobHold, judge_ok (exactly_length hl) rfl, onJob_live hja hr]
        exact if_pos (by simpa using hst)
      · rw [setJobState, jobOf_setJobHeld, if_pos rfl, hid]
        split
        · rw [hja]; rfl
        · rw [jobOf_modJob (by intro _ h; exact h), if_pos rfl, hja]; rfl
    · have hja' : jobOf (accepted r s) j.id = some j := by rw [hid]; exact hja
      obtain ⟨hq, hi, hal⟩ := releaseJob_set hja' rfl
      refine ⟨congrArg Host.Outcome.next (serve_reply ha ?_), fun hra => ?_, fun hra => ?_⟩
      · rw [hJobRelease, judge_ok (exactly_length hl) rfl, onJob_live hja hr]
        exact if_pos hst
      · obtain ⟨h1, h2⟩ := jobOf_preempt (x := queuedAgain j) rfl hal
        rw [releaseJob_eq, if_neg (by simp [hra])]
        exact ⟨h1.trans hq, fun hd => by rw [h2]; exact hi hd⟩
      · refine ⟨setJobHeld (setJobState (heldNoMore (accepted r s) j) j.id .queued 0) j.id .ready 0
          (readyHold (setJobState (heldNoMore (accepted r s) j) j.id .queued 0) j.id),
          readyHold (setJobState (heldNoMore (accepted r s) j) j.id .queued 0) j.id, ?_, ?_, fun hd => ?_⟩
        · rw [releaseJob_eq, if_pos hra, becomeReady]
        · rw [jobOf_setJobHeld, if_pos rfl, hq]; rfl
        · rw [setJobHeld_jobs hq]
          exact hi hd
    · refine congrArg Host.Outcome.next (serve_reply ha ?_)
      obtain ⟨hf4, h5⟩ := classField hp
      rw [hJobPriority, judge_ok (exactly_length hl) rfl, onJob_live hja hr, judge_ok rfl ?_]
      · simp only [hst, if_true, hf4]
      · simp [firstFail, hf4, hcls, reservedAt, h5, zeros]
  · refine congrArg Host.Outcome.next (serve_reply ha ?_)
    rw [hJobList, judge_ok (exactly_length (by rw [hp]; rfl)) rfl]
    simp
  · rw [jobOf_cancelNow, if_pos rfl]
  · obtain ⟨f, hf, h1, h2⟩ := cancelNow_finished hj
    exact ⟨f, by simp [hf], h1, h2⟩
  · rw [jobOf_cancelNow, if_neg hne]
  · refine congrArg Host.Outcome.next (serve_reply ha ?_)
    rw [hJobCancel, judge_ok (exactly_length hl) rfl, onJob_refused (j := j) (by simpa using hj)]
    obtain ⟨hc, hb⟩ | ⟨hc, hb⟩ := hno
    · simp [jobRight, hc, hb]
    · simp [jobRight, hc, hb]

end Sys2Proof.Machine
end

section
/-! SUPPORT and PROOF of O38 and O39. The hub's readings and its configuration (R301, R302, R469 to R493). -/

namespace Sys2Proof.Machine

variable {s : State} {r : Req}

/-! ### The hub's commands -/

/-- An index and three reserved bytes, before an entry. -/
theorem indexChecks_ok {p e : List Byte} {n : Byte} {b : Bool} (hp : p = [n, 0, 0, 0] ++ e) (hb : b = true) :
    firstFail [(0, b), reservedAt p 1 3] = none := by
  subst hp
  simp [firstFail, hb, reservedAt, slice, zeros]

theorem fieldAt_whole {p : List Byte} {n : Nat} (h : p.length = n) : fieldAt p 0 n = ofLe p := by
  simp [fieldAt, slice, ← h]

/-- Settles O38: the hub's readings by their handlers on the accepted state. -/
theorem hubReads : Obligations.HubReads := by
  unfold Obligations.HubReads
  refine fun r s => ⟨fun ha hl hm => ?_, fun ha hl h1 h2 => ?_, fun k i ha hp hk hi => ?_, fun ha hp => ?_, fun ha hl => ?_⟩ <;>
    refine congrArg Host.Outcome.next (serve_reply ha ?_) <;> have hhub : (accepted r s).hub = s.hub := by simp
  · rw [hHubValues, judge_ok (exactly_length hl) (by simp only [firstFail, hm, decide_true, if_true])]
    simp
  · rw [hHubRecords, judge_ok (exactly_length hl) (by simp [firstFail, h1, h2]), hhub]
  · have h0 : fieldAt r.payload 0 1 = k.toNat := by rw [hp, fieldAt_one]
    have h1 : fieldAt r.payload 1 1 = i.toNat := by rw [hp]; simp [fieldAt, slice, ofLe]
    have hk0 (m : Nat) (hm : m < 256) : (k.toNat = m) = (k = BitVec.ofNat 8 m) := by
      rw [← BitVec.toNat_inj, BitVec.toNat_ofNat, Nat.mod_eq_of_lt hm]
    rw [hHubConfigRead, judge_ok (exactly_length (by rw [hp]; rfl))]
    · simp only [h0, h1, hhub, hk0 0 (by omega), hk0 1 (by omega)]
      rfl
    · have h2 : reservedAt r.payload 2 2 = (2, true) := by rw [hp]; rfl
      simp only [h0, h1, h2, hk0 0 (by omega), hk0 1 (by omega), firstFail, hk, decide_true, if_true]
      exact if_pos (decide_eq_true hi)
  · rw [hHubStatus, judge_ok (exactly_length (by rw [hp]; rfl)) rfl]
    simp
  · rw [hHubRecordsAck, judge_ok (exactly_length hl) rfl]
    simp [setHub]

/-- Settles O39: what the hub's configuration commands store. -/
theorem hubConfiguration : Obligations.HubConfiguration := by
  unfold Obligations.HubConfiguration
  refine fun r s => ⟨fun n e ha hp he h10 h63 hc hu hh h64 => ?_, fun n d ha hp hd hn hc hu => ?_,
    fun n e ha hp he hn hc hu hh h32 => ?_, fun ha hl => ?_, fun ha hl => ?_⟩
  · have hhub : (accepted r s).hub = s.hub := by simp
    have hf : fieldAt r.payload 0 1 = n.toNat := by rw [hp]; exact fieldAt_one ..
    have hdr : r.payload.drop 4 = e := by rw [hp]; rfl
    refine ⟨putSlot (accepted r s) 0x0403 n.toNat e, congrArg Host.Outcome.next (serve_reply ha ?_), ?_, fun k hk => ?_, ?_, ?_, ?_, ?_⟩
    · rw [hHubSlotSet, judge_ok (exactly_length (by rw [hp]; simp [he])) (indexChecks_ok hp (by simp [hf, h10, h63]))]
      simp only [hdr, hhub, hc, hu, hf, hh, Bool.false_eq_true, if_false]
    · simp [putSlot, setHub, noteHubCfg, hubSlot, h64, show n.toNat < 64 by omega]
    · simp [putSlot, setHub, noteHubCfg, hubSlot, hk.symm]
    · simp [putSlot, setHub, noteHubCfg]
    · simp [putSlot, setHub, noteHubCfg]
    · simp [putSlot, setHub, noteHubCfg, slotRunOf]
    · have hr : (accepted r s).rst.raHub = s.rst.raHub := by simp
      rw [← hhub, ← hr]
      rfl
  · have hhub : (accepted r s).hub = s.hub := by simp
    have hf : fieldAt r.payload 0 1 = n.toNat := by rw [hp]; exact fieldAt_one ..
    have hdr : r.payload.drop 4 = d := by rw [hp]; rfl
    refine congrArg Host.Outcome.next (serve_reply ha ?_)
    rw [hHubDescSet, judge_ok (exactly_length (by rw [hp]; simp [hd])) (indexChecks_ok hp (by simp [hf, hn]))]
    simp only [hdr, hc, hhub, hf, hu, Bool.false_eq_true, if_false]
    simp [putDesc, setHub, noteHubCfg]
  · have hhub : (accepted r s).hub = s.hub := by simp
    have hf : fieldAt r.payload 0 1 = n.toNat := by rw [hp]; exact fieldAt_one ..
    have hdr : r.payload.drop 4 = e := by rw [hp]; rfl
    refine ⟨putDet (accepted r s) 0x0405 n.toNat e, congrArg Host.Outcome.next (serve_reply ha ?_), ?_, fun k hk => ?_, ?_⟩
    · rw [hHubDetectorSet, judge_ok (exactly_length (by rw [hp]; simp [he])) (indexChecks_ok hp (by simp [hf, hn]))]
      simp only [hdr, hc, hhub, hf, hu, hh, Bool.false_eq_true, if_false]
    · simp [putDet, setHub, noteHubCfg, hubDet, h32, show n.toNat < 32 by omega]
    · simp [putDet, setHub, noteHubCfg, hubDet, hk.symm]
    · simp [putDet, setHub, noteHubCfg]
  · refine congrArg Host.Outcome.next (serve_reply ha ?_)
    rw [hHubSubscribe, judge_ok (exactly_length hl) rfl]
  · refine congrArg Host.Outcome.next (serve_reply ha ?_)
    rw [hHubStickyClear, judge_ok (exactly_length hl) rfl]
    simp [setHub]

end Sys2Proof.Machine
end

section
/-! SUPPORT and PROOF of O40. What DISCH keeps in Saffron, and the power-state commands (R303 to R306, R364 to R366). -/

namespace Sys2Proof.Machine

variable {s : State}

/-! ### Saffron's side of DISCH -/

/-- What DISCH keeps in Saffron: the level, the reasons, DISCH_HOLD, and what its release waits for. -/
def dischSide (x : Saf) : Bool × Half × Bool × Bool × Bool := (x.disch, x.reasons, x.hold, x.needLow, x.dischLate)

@[simp] theorem dischSide_mk (x : Saf) (a b c d e f g h i j k l m n o p q r t u v w y z a' b' c' d' e' f') :
    dischSide ⟨a, b, c, d, e, x.disch, x.reasons, x.hold, x.needLow, x.dischLate, f, g, h, i, j, k, l, m, n, o, p, q, r,
      t, u, v, w, y, z, a', b', c', d', e', f'⟩ = dischSide x := rfl

@[simp] theorem haltTicket_dischSide (c : Nat) : dischSide (haltTicket s c).saf = dischSide s.saf := by
  simp only [haltTicket]
  (repeat' split) <;> simp

@[simp] theorem endAction_dischSide (o st : Nat) (r : List Byte) : dischSide (endAction s o st r).saf = dischSide s.saf := by
  simp only [endAction]
  (repeat' split) <;> simp

@[simp] theorem deriveTrip_dischSide : dischSide (deriveTrip s).saf = dischSide s.saf := by simp [deriveTrip]

@[simp] theorem dropTrial_dischSide : dischSide (dropTrial s).saf = dischSide s.saf := by simp [dropTrial]

@[simp] theorem endCal_dischSide (d i : Nat) : dischSide (endCal s d i).saf = dischSide s.saf := by
  simp only [endCal]
  split
  · rfl
  · simp [refuseCal]

@[simp] theorem cutFails_dischSide : dischSide (cutFails s).saf = dischSide s.saf := by
  simp only [cutFails]
  (repeat' split) <;> simp

/-- Asserting DISCH adds its reason, and nothing that follows takes it away (R364, R365). -/
theorem assertDisch_dischSide (k : Nat) : dischSide (assertDisch s k).saf =
    (true, s.saf.reasons ||| BitVec.ofNat 16 (2 ^ k), s.saf.hold, s.saf.needLow || k == 7 || k == 9,
      if s.saf.disch then s.saf.dischLate else false) := by
  unfold assertDisch
  extract_lets stands s1 wasLow s2 s3 s4 s5 s6 s7 s8 s9
  have h1 : s1.saf = s.saf := by simp only [s1]; split <;> simp
  have h4 : dischSide s4.saf = (true, s.saf.reasons ||| BitVec.ofNat 16 (2 ^ k), s.saf.hold, s.saf.needLow || k == 7 || k == 9,
      if s.saf.disch then s.saf.dischLate else false) := by
    simp only [s4, s3, releaseCharger, dischSide, s2, h1, wasLow]
    cases s.saf.disch <;> rfl
  have h7 : dischSide s7.saf = dischSide s4.saf := by simp [s7, s6, s5]
  split
  · exact h4
  · split
    · exact ((endCal_dischSide (s := s7) 8 0).trans h7).trans h4
    · exact h7.trans h4

theorem assertDisch_parts (k : Nat) : (assertDisch s k).saf.disch = true ∧
    (assertDisch s k).saf.reasons = s.saf.reasons ||| BitVec.ofNat 16 (2 ^ k) ∧ (assertDisch s k).saf.hold = s.saf.hold ∧
    (assertDisch s k).saf.charger = false := by
  have h := assertDisch_dischSide (s := s) k
  simp only [dischSide, Prod.mk.injEq] at h
  exact ⟨h.1, h.2.1, h.2.2.1, assertDisch_holds s k h.1⟩

/-- Dropping a reason leaves the level to Saffron (R366). -/
theorem dropReason_saf (k : Nat) : (dropReason s k).saf = { s.saf with
    reasons := s.saf.reasons &&& ~~~ (BitVec.ofNat 16 (2 ^ k)) } := rfl

theorem wakeDoze_st : (wakeDoze s).pwr.st ≠ .doze := by
  simp only [wakeDoze]
  split
  · next hd => simp [enterPstate, hd]
  · assumption

theorem sledTo_capped (p : Nat) : (sledTo s p).motion.capped = s.motion.capped := by
  unfold sledTo
  (repeat' split) <;> rfl

/-- Entering DOZE caps the head and stops the motors (R92). -/
theorem enterDoze_ready (hc : capReady s = true) (hs : s.pwr.st ≠ .doze) :
    (enterDoze s).pwr.st = .doze ∧ (enterDoze s).motion.capped = true ∧ (enterDoze s).motion.en = 0 := by
  have hst : (capForEntry { s with pwr := { s.pwr with dozeDue := false } }).pwr.st ≠ .doze := by
    unfold capForEntry
    split <;> simpa using hs
  have hcap : (capForEntry { s with pwr := { s.pwr with dozeDue := false } }).motion.capped = true := by
    unfold capForEntry
    split
    · assumption
    · exact sledTo_capped _
  rw [enterDoze, if_pos hc, enterPstate, if_neg hst]
  simp [hcap]

theorem capReady_accepted (r : Req) : capReady (accepted r s) = capReady s := by
  have hm := accepted_motion r s
  have h1 : (accepted r s).motion.capped = s.motion.capped := by rw [hm]
  have h2 : (accepted r s).motion.sledPos = s.motion.sledPos := by rw [hm]
  have h3 : (accepted r s).motion.disabled = s.motion.disabled := by rw [hm]
  simp [capReady, sledReady, headEnergyRuns, running, h1, h2, h3]

theorem dozeAllowed_accepted (r : Req) : dozeAllowed (accepted r s) = dozeAllowed s := by
  simp [dozeAllowed, anyJob, workRuns, running]

theorem testBit_or_ofNat (x : Half) {k : Nat} (hk : k < 16) : (x ||| BitVec.ofNat 16 (2 ^ k)).toNat.testBit k = true := by
  rw [BitVec.toNat_or, BitVec.toNat_ofNat, Nat.mod_eq_of_lt (Nat.pow_lt_pow_right (by decide) hk)]
  simp [Nat.testBit_or]

theorem accepted_clk (r : Req) : (accepted r s).clk = s.clk := by simp

/-- Settles O40: power-state commands, and both actions of DISCH_HOLD. -/
theorem powerCommands : Obligations.PowerCommands := by
  unfold Obligations.PowerCommands
  refine ⟨fun r s => ⟨fun ha hp hd => ?_, fun ha hp he => ?_, fun ha hp he => ?_, fun ha hp => ?_, fun ha hl hr => ?_⟩,
    fun r s => ⟨fun ha hp => ?_, fun ha hp => ?_⟩⟩
  · refine ⟨enterDoze (accepted r s), congrArg Host.Outcome.next (serve_reply ha ?_), fun hc => ?_, fun hc => ?_⟩
    · rw [hPwrStateSet, judge_ok (exactly_length (by rw [hp]; rfl)) (by rw [hp]; decide), hp]
      exact (if_pos (by decide)).trans (if_pos ((dozeAllowed_accepted r).trans hd))
    · exact enterDoze_ready ((capReady_accepted r).trans hc) wakeDoze_st
    · exact if_neg (by rw [capReady_accepted, hc]; decide)
  · refine congrArg Host.Outcome.next (serve_reply ha ?_)
    rw [hPwrStateSet, judge_ok (exactly_length (by rw [hp]; rfl)) (by rw [hp]; decide), hp]
    have he' : entryRefusal (accepted r s) (fieldAt [2, 0, 0, 0, 0, 0, 0, 0] 0 1 == 3)
        ((byteAt [2, 0, 0, 0, 0, 0, 0, 0] 1).toNat.testBit 0) = none := he
    exact (if_neg (by decide)).trans (by rw [he']; rfl)
  · refine congrArg Host.Outcome.next (serve_reply ha ?_)
    rw [hPwrStateSet, judge_ok (exactly_length (by rw [hp]; rfl)) (by rw [hp]; decide), hp]
    have he' : entryRefusal (accepted r s) (fieldAt [3, 1, 0, 0, 0, 0, 0, 0] 0 1 == 3)
        ((byteAt [3, 1, 0, 0, 0, 0, 0, 0] 1).toNat.testBit 0) = none := he
    exact (if_neg (by decide)).trans (by rw [he']; rfl)
  · refine congrArg Host.Outcome.next (serve_reply ha ?_)
    rw [hPwrStateQuery, judge_ok (exactly_length (by rw [hp]; rfl)) rfl]
    simp
  · refine congrArg Host.Outcome.next (serve_reply ha ?_)
    rw [hPwrRtcAlarm, judge_ok (exactly_length hl) rfl]
    rw [rtcAlarmDue_ahead (hr.imp (fun h => by rw [h]; rfl) (fun h => by rw [accepted_clk]; exact h))]
    simp
  · obtain ⟨h1, h2, h3, h4⟩ := assertDisch_parts (s := { accepted r s with saf := { (accepted r s).saf with hold := true } }) 6
    refine ⟨seqReq (accepted r s) 0x0507 (fun s => assertDisch { s with saf := { s.saf with hold := true } } 6),
      congrArg Host.Outcome.next (serve_reply ha ?_), h3, h1, ?_, h4⟩
    · rw [hDischHold, judge_ok (exactly_length (by rw [hp]; rfl)) (scopeChecks_ok hp (by decide)), hp]
      rfl
    · rw [seqReq, h2]
      exact testBit_or_ofNat _ (by decide)
  · refine congrArg Host.Outcome.next (serve_reply ha ?_)
    rw [hDischHold, judge_ok (exactly_length (by rw [hp]; rfl)) (scopeChecks_ok hp (by decide)), hp]
    have hb : decide (byteAt [0, 0, 0, 0] 0 = (1 : Byte)) = false := by decide
    simp only [hb, Bool.false_eq_true, if_false]
    simp [seqReq, seqSide, dropReason]

end Sys2Proof.Machine
end

section
/-! SUPPORT and PROOF of O41. The sequencer's phases through an up-sequence and a walk down the slots, and the rail commands
(R124, R134, R305). -/

namespace Sys2Proof.Machine

variable {s : State} {r : Req}

/-! ### The sequencer's phases -/

/-- What the end of the waiting power commands leaves of the sequencer. -/
theorem endWaiters_seq (f : Option Nat) : (endWaiters s f).seq = { s.seq with waiters := s.seq.waiters.filter (waitsOn s) } := by
  unfold endWaiters
  extract_lets s'
  have h : ∀ (l : List (Half × Fin 12 × Half)) (g : State → Half × Fin 12 × Half → State) (u : State),
      (∀ v w, (g v w).seq = v.seq) → (l.foldl g u).seq = u.seq := by
    intro l g u hg
    induction l generalizing u with
    | nil => rfl
    | cons w l ih => exact (ih _).trans (hg u w)
  refine (h _ _ _ fun v w => ?_).trans rfl
  cases f <;> simp

/-- An up-sequence that settles stays up, or reaches RUNNING. -/
theorem settle_ph {k : Nat} {q : Seq} (h : q.ph = .up) : (settle k q).ph = .up ∨ (settle k q).ph = .running := by
  induction k generalizing q with
  | zero => exact .inl h
  | succ k ih =>
    unfold settle
    split
    · exact .inl h
    · split
      · refine ih ?_
        unfold enableCh
        split <;> exact h
      · (repeat' split)
        · exact .inl h
        · exact .inl h
        · exact .inr rfl
        · exact ih h

theorem dropHisGate_seq : (dropHisGate s).seq = s.seq := by
  simp only [dropHisGate]
  split <;> rfl

theorem seqAdvance_seq : ∃ w, (seqAdvance s).seq = { settle settleFuel s.seq with waiters := w } := by
  have h : (dropHisGate (modSeq s (settle settleFuel))).seq = settle settleFuel s.seq := dropHisGate_seq
  unfold seqAdvance
  extract_lets s'
  have hs' : s'.seq = settle settleFuel s.seq := h
  split
  · exact ⟨_, (endWaiters_seq _).trans (by rw [hs'])⟩
  · exact ⟨s'.seq.waiters, by rw [hs']⟩

theorem seqAdvance_fault : (seqAdvance s).fife.fault = s.fife.fault := by
  have h : (dropHisGate (modSeq s (settle settleFuel))).fife.fault = s.fife.fault := by
    simp only [dropHisGate]
    split <;> rfl
  unfold seqAdvance
  extract_lets s'
  split
  · exact (by simp : (endWaiters s' none).fife.fault = s'.fife.fault).trans h
  · exact h

/-- An up-sequence that starts is up, or RUNNING at once, with the fault level low (R122, R126). -/
theorem startUp_parts : ((startUp s).seq.ph = .up ∨ (startUp s).seq.ph = .running) ∧ (startUp s).fife.fault = false := by
  unfold startUp
  extract_lets u f v
  refine ⟨?_, seqAdvance_fault⟩
  obtain ⟨w, hw⟩ := seqAdvance_seq (s := modSeq v (fun q => enterState q 0))
  rw [hw]
  exact settle_ph rfl

/-- Where a walk down the slots may end: where it is, RUNNING of a partial shutdown, SEQ_MIN_OFF of a full one. -/
def WalkEnds (p q : Seq) : Prop :=
  q.ph = p.ph ∨ (p.ph = .down ∧ q.ph = if p.partialRun then .running else .minOff)

theorem walk_ends (k : Nat) : WalkEnds s.seq (walk k s).seq := by
  induction k generalizing s with
  | zero => exact .inl rfl
  | succ k ih =>
    unfold walk
    split
    · exact .inl rfl
    · next h =>
      have hd : s.seq.ph = .down := by
        refine Decidable.byContradiction fun hn => ?_
        exact h (.inl hn)
      split
      · split
        · exact ih (s := modSeq s (fun q => { q with slot := 0, again := false }))
        · split
          · next hp => exact .inr ⟨hd, by rw [endWaiters_seq, if_pos hp]; rfl⟩
          · next hp => exact .inr ⟨hd, by rw [if_neg hp]; rfl⟩
      · split
        · exact ih (s := modSeq s (fun q => { q with slot := q.slot + 1 }))
        · next n _ =>
          split
          · exact .inl rfl
          · have hr : (releaseCh s n).seq.ph = s.seq.ph ∧ (releaseCh s n).seq.partialRun = s.seq.partialRun := by
              unfold releaseCh
              split <;> exact ⟨rfl, rfl⟩
            extract_lets u
            have hu : u.seq.ph = s.seq.ph ∧ u.seq.partialRun = s.seq.partialRun := hr
            split
            · exact .inl hu.1
            · have := ih (s := u)
              rwa [WalkEnds, hu.1, hu.2] at this

theorem endWaiters_dischSide (f : Option Nat) : (endWaiters s f).saf = s.saf := by simp

@[simp] theorem walk_dischSide (k : Nat) : dischSide (walk k s).saf = dischSide s.saf := by
  have hr (v : State) (n : Nat) : dischSide (releaseCh v n).saf = dischSide v.saf := by
    unfold releaseCh
    split <;> rfl
  induction k generalizing s with
  | zero => rfl
  | succ k ih =>
    unfold walk
    split
    · rfl
    · split
      · split
        · exact ih
        · split
          · rw [endWaiters_dischSide]; rfl
          · rfl
      · split
        · exact ih
        · split
          · rfl
          · extract_lets u
            split
            · exact hr _ _
            · exact ih.trans (hr _ _)

@[simp] theorem shutdownStores_seq : (shutdownStores s).seq = s.seq ∧ (shutdownStores s).saf = s.saf := by simp

/-- A full shutdown asserts DISCH for reason 5, and walks the slots down (R134). -/
theorem startFull_parts : (startFull s).saf.disch = true ∧
    (startFull s).saf.reasons = s.saf.reasons ||| BitVec.ofNat 16 (2 ^ 5) ∧
    ((startFull s).seq.ph = .down ∨ (startFull s).seq.ph = .minOff) := by
  unfold startFull
  extract_lets u v
  have hd : dischSide (walk walkFuel v).saf = dischSide (assertDisch s 5).saf := by
    rw [walk_dischSide]
    exact congrArg dischSide (shutdownStores_seq (s := assertDisch s 5)).2
  obtain ⟨h1, h2, -, -⟩ := assertDisch_parts (s := s) 5
  simp only [dischSide, Prod.mk.injEq] at hd
  refine ⟨hd.1.trans h1, hd.2.1.trans h2, ?_⟩
  have hw := walk_ends (s := v) walkFuel
  have hp : v.seq.ph = .down ∧ v.seq.partialRun = false := ⟨rfl, rfl⟩
  obtain h | ⟨-, h⟩ := hw
  · exact .inl (h.trans hp.1)
  · exact .inr (by rw [h, hp.2]; rfl)

/-- Settles O41: the rail commands. -/
theorem railCommands : Obligations.RailCommands := by
  unfold Obligations.RailCommands
  refine fun r s => ⟨fun ha hp ho hm hf hda hlc => ?_, fun ha hp hr => ?_, fun ha hp ht => ?_, fun ha hp => ?_⟩
  · have hw : onRequest (addWaiter (accepted r s) 0x0503 r) =
        startUp (modSeq (addWaiter (accepted r s) 0x0503 r) (fun q => { q with retryCancel := false })) := by
      simp [onRequest, upAllowed, addWaiter, ho, hm, hf, hda, hlc, modSeq]
    refine ⟨seqReq (addWaiter (accepted r s) 0x0503 r) 0x0503 onRequest, _, congrArg (Host.Outcome.next ∘ outcomeStands)
      (serve_reply ha ?_), rfl, ?_⟩
    · rw [hPwrOn, judge_ok (exactly_length (by rw [hp]; rfl)) (by rw [hp]; rfl), hp]
      rfl
    · rw [seqReq, hw]
      exact startUp_parts
  · let u := shutdownStores (addWaiter (accepted r s) 0x0504 r)
    have hu : u = shutdownStores (addWaiter (accepted r s) 0x0504 r) := rfl
    have hph : u.seq.ph = .running := by simp [hu, addWaiter, hr]
    have hw : offRequest u = startFull u := by simp [offRequest, hph]
    obtain ⟨h1, h2, h3⟩ := startFull_parts (s := u)
    refine ⟨seqReq u 0x0504 offRequest, _, congrArg (Host.Outcome.next ∘ outcomeStands) (serve_reply ha ?_), rfl, ?_⟩
    · rw [hPwrOff, judge_ok (exactly_length (by rw [hp]; rfl)) (scopeChecks_ok hp (by decide)), hp]
      exact if_neg (by simp [byteAt])
    · rw [seqReq, hw]
      exact ⟨h1, by rw [h2]; exact testBit_or_ofNat _ (by decide), h3⟩
  · let u := shutdownStores (addWaiter (accepted r s) 0x0504 r)
    have hu : u = shutdownStores (addWaiter (accepted r s) 0x0504 r) := rfl
    have ht' : ticketActive u = true := by
      have : ticketActive u = ticketActive s := by simp [ticketActive, anyJob, hu, addWaiter]
      rw [this, ht]
    refine ⟨{ u with saf := { u.saf with deferOff := true } },
      congrArg (Host.Outcome.next ∘ outcomeStands) (serve_reply ha ?_), ?_, ?_⟩
    · rw [hPwrOff, judge_ok (exactly_length (by rw [hp]; rfl)) (scopeChecks_ok hp (by decide)), hp]
      exact if_pos ⟨rfl, ht'⟩
    · simp [hu, addWaiter]
    · simp [hu, addWaiter]
  · refine congrArg Host.Outcome.next (serve_reply ha ?_)
    rw [hSeqStatus, judge_ok (exactly_length (by rw [hp]; rfl)) rfl]
    simp

end Sys2Proof.Machine
end

section
/-! SUPPORT and PROOF of O43. Fields of a request, and the log family (R276, R311, R312). -/

namespace Sys2Proof.Machine

variable {s : State} {r : Req}

/-! ### Fields of a request -/

theorem length_leBytes (n x : Nat) : (leBytes n x).length = n := by
  induction n generalizing x with
  | zero => rfl
  | succ n ih => simp [leBytes, ih]

theorem ofLe_leBytes {n x : Nat} (h : x < 256 ^ n) : ofLe (leBytes n x) = x := by
  induction n generalizing x with
  | zero =>
    have : x = 0 := by simpa using h
    simp [leBytes, ofLe, this]
  | succ n ih =>
    have hx : x / 256 < 256 ^ n := by
      rw [Nat.div_lt_iff_lt_mul (by decide)]
      rwa [Nat.pow_succ] at h
    simp only [leBytes, ofLe, ih hx]
    simp [b8]
    omega

theorem slice_zero {p q : List Byte} {n : Nat} (h : p.length = n) : slice (p ++ q) 0 n = p := by simp [slice, ← h]

theorem slice_skip (p q : List Byte) (i n : Nat) : slice (p ++ q) (p.length + i) n = slice q i n := by
  simp [slice, ← List.drop_drop]

theorem fieldAt_le {n x : Nat} (q : List Byte) (h : x < 256 ^ n) : fieldAt (leBytes n x ++ q) 0 n = x := by
  rw [fieldAt, slice_zero (length_leBytes n x), ofLe_leBytes h]

theorem fieldAt_skip {p q : List Byte} {k : Nat} (hk : p.length = k) (i n : Nat) : fieldAt (p ++ q) (k + i) n = fieldAt q i n := by
  subst hk
  rw [fieldAt, slice_skip, fieldAt]

theorem reservedAt_skip {p q : List Byte} {k : Nat} (hk : p.length = k) (i n : Nat) :
    (reservedAt (p ++ q) (k + i) n).2 = (reservedAt q i n).2 := by
  subst hk
  simp only [reservedAt, slice_skip]

/-! ### The log commands -/

theorem lowestVisible_accepted (r : Req) : lowestVisible (accepted r s) = lowestVisible s := by simp [lowestVisible]

/-- A first sequence, a count and two reserved bytes. -/
theorem logReadFields {p : List Byte} {first n : Nat} (hp : p = b32 first ++ b16 n ++ [0, 0]) (hf : first < 2 ^ 32) (hn : n < 65536) :
    p.length = 8 ∧ fieldAt p 0 4 = first ∧ fieldAt p 4 2 = n ∧ reservedAt p 6 2 = (6, true) := by
  subst hp
  refine ⟨by simp [b32, b16, length_leBytes], ?_, ?_, ?_⟩
  · rw [List.append_assoc]
    exact fieldAt_le _ hf
  · rw [List.append_assoc]
    exact (fieldAt_skip (k := 4) (length_leBytes 4 first) 0 2).trans (fieldAt_le _ hn)
  · exact congrArg (Prod.mk 6) (reservedAt_skip (k := 6) (by simp [b32, b16, length_leBytes]) 0 2)

/-- Settles O43: the log family by its handlers on the accepted state. -/
theorem logCommands : Obligations.LogCommands := by
  unfold Obligations.LogCommands
  refine fun r s => ⟨fun ha hp => ?_, fun first n ha hp hf h1 h127 hlow => ⟨_, rfl, ?_⟩, fun ha hp => ?_, fun p ha hp hs => ?_,
    fun ha hp => ?_⟩ <;> refine congrArg Host.Outcome.next (serve_reply ha ?_)
  · rw [hLogInfo, judge_ok (exactly_length (by rw [hp]; rfl)) rfl, lowestVisible_accepted]
    simp
  · obtain ⟨hl, h0, h4, h6⟩ := logReadFields hp hf (by omega)
    have hfn : (BitVec.ofNat 32 first).toNat = first := by rw [BitVec.toNat_ofNat, Nat.mod_eq_of_lt hf]
    rw [hLogRead, judge_ok (exactly_length hl) (by simp [firstFail, h4, h1, h127, h6])]
    simp only [h0, h4, lowestVisible_accepted, hlow, ne_eq, not_true_eq_false, and_false, decide_false, Bool.false_eq_true, if_false,
      hfn]
    simp
  · have hnvm : (accepted r s).nvm = s.nvm := by simp
    rw [hFaultRead, judge_ok (exactly_length (by rw [hp]; rfl)) rfl]
    simp only [hnvm] <;> rfl
  · have hnvm : (accepted r s).nvm = s.nvm := by simp
    rw [hSnapshotRead, judge_ok (exactly_length (by rw [hp]; rfl)) (by rw [hp]; decide), hp]
    simp only [hnvm, hs, show byteAt [0, 0, 1, 0] 2 = (1 : Byte) from rfl, if_true]
  · rw [hLogClear, judge_ok (exactly_length (by rw [hp]; decide)) (by simp [firstFail, hp])]
    simp

end Sys2Proof.Machine
end

section
/-! SUPPORT and PROOF of O42. Commands of calibration and maintenance (R283, R307 to R310, R445 to R457). -/

namespace Sys2Proof.Machine

variable {s : State} {r : Req}

/-! ### Fields of single bytes -/

theorem fieldAt_cons (a : Byte) (p : List Byte) (i n : Nat) : fieldAt (a :: p) (i + 1) n = fieldAt p i n := rfl
theorem reservedAt_cons (a : Byte) (p : List Byte) (i n : Nat) : (reservedAt (a :: p) (i + 1) n).2 = (reservedAt p i n).2 := rfl

theorem b8_toNat {n : Nat} (h : n < 256) : (b8 n).toNat = n := by
  rw [b8, BitVec.toNat_ofNat, Nat.mod_eq_of_lt h]

/-! ### Calibration commands -/

theorem calStart_forbidden {p : List Byte} (lc : Nat) (o : Otp) (h : byteAt p 2 = 0) : forbidden o lc 0x0601 p = none := by
  have h1 : lifecycleBars lc 0x0601 p = false := by
    have : (opRight 0x0601 == some (some rSecurity)) = false := by decide
    simp [lifecycleBars, this]
  have h2 : lockForbids o 0x0601 = false := rfl
  have h3 : lockBars o 0x0601 p = false := by simp [lockBars, h]
  simp [forbidden, h1, h2, h3]

theorem judgeLocked_ok {lc op : Nat} {p : List Byte} {l : Bool} {cs : List (Nat × Bool)} {run : State → Reply × State}
    (hl : l = true) (hf : forbidden s.otp lc op p = none) (hc : firstFail cs = none) : judgeLocked s lc op p l cs run = run s := by
  simp only [judgeLocked, hl, hf]
  exact judge_ok rfl hc

theorem calTargetOk_of {code target : Byte} (h0 : fieldAt r.payload 0 1 = code.toNat) (h1 : fieldAt r.payload 1 1 = target.toNat)
    (ht : if code.toNat ≤ 5 then target.toNat = 0 else target.toNat ≤ 3) : calTargetOk r = true := by
  rw [calTargetOk, calTarget, calCode, h0, h1]
  split
  · next h => rw [if_pos h] at ht; simp [ht]
  · next h => rw [if_neg h] at ht; simp [ht]

/-- Two bytes and two halves. -/
theorem twoHalves {p h q : List Byte} {a b : Nat} (hp : p = h ++ b16 a ++ b16 b ++ q) (hl : h.length = 2) (ha : a < 65536)
    (hb : b < 65536) : fieldAt p 2 2 = a ∧ fieldAt p 4 2 = b ∧ p.length = 6 + q.length ∧ fieldAt p 0 1 = fieldAt h 0 1 ∧
      fieldAt p 1 1 = fieldAt h 1 1 := by
  obtain ⟨x, y, rfl⟩ : ∃ x y, h = [x, y] := by
    match h, hl with
    | [x, y], _ => exact ⟨x, y, rfl⟩
  subst hp
  refine ⟨?_, ?_, by simp [b16, length_leBytes]; omega, rfl, rfl⟩
  · simp only [List.append_assoc]
    exact (fieldAt_skip (p := [x, y]) (k := 2) rfl 0 2).trans (fieldAt_le _ ha)
  · rw [List.append_assoc]
    exact (fieldAt_skip (k := 4) (by simp [b16, length_leBytes]) 0 2).trans (fieldAt_le _ hb)

theorem byte_eq_iff {b : Byte} {n : Nat} (h : n < 256) : b.toNat = n ↔ b = BitVec.ofNat 8 n := by
  rw [← BitVec.toNat_inj, BitVec.toNat_ofNat, Nat.mod_eq_of_lt h]

/-- Settles O42: each command that starts, reads or ends an action by its handler on the accepted state. -/
theorem actionCommands : Obligations.ActionCommands := by
  unfold Obligations.ActionCommands
  refine ⟨fun r s => ⟨fun code target ha h3 h6 ht hp => ?_, fun code target ha h1 h7 ht hp => ⟨_, rfl, ?_⟩, fun ha hp hn => ?_,
    fun a ha hp hf hst => ?_⟩, fun r s => ⟨fun dies part ha hp hd hda hpt => ?_, fun routine dies ha hp h1 h5 hd => ?_,
    fun lo hi cut ha hp hc => ?_, fun die first n ha hp hd hn hf => ?_, fun die col pos st ha hp hd hc hpos hst hsc => ?_,
    fun die col first n ha hp hd hc hf hn hfn => ?_, fun ha hp e he => ?_⟩⟩
  · refine congrArg (Host.Outcome.next ∘ startWaiting) (serve_reply ha ?_)
    have h0 : fieldAt r.payload 0 1 = code.toNat := by rw [hp, fieldAt_one]
    have h1 : fieldAt r.payload 1 1 = target.toNat := by rw [hp, fieldAt_cons, fieldAt_one]
    have h2 : fieldAt r.payload 2 1 = 0 := by rw [hp]; rfl
    have hr3 : reservedAt r.payload 3 1 = (3, true) := by rw [hp]; rfl
    have hct := calTargetOk_of h0 h1 ht
    have hco : calCodeOk r = true := by simp only [calCodeOk, calCode, h0, decide_eq_true_eq]; omega
    have hc7 : (calCode r != 7) = true := by simp only [calCode, h0, bne_iff_ne]; omega
    have hc2 : decide (calCode r ≤ 2) = false := by simp only [calCode, h0, decide_eq_false_iff_not]; omega
    rw [hCalStart, judgeLocked_ok (exactly_length (by rw [hp]; rfl)) (calStart_forbidden _ _ (by rw [hp]; rfl))]
    · simp [h2]
    · simp [firstFail, hco, hct, hc7, h2, hc2, hr3]
  · refine congrArg Host.Outcome.next (serve_reply ha ?_)
    have h0 : fieldAt r.payload 0 1 = code.toNat := by rw [hp, fieldAt_one]
    have h1' : fieldAt r.payload 1 1 = target.toNat := by rw [hp, fieldAt_cons, fieldAt_one]
    have hr2 : reservedAt r.payload 2 2 = (2, true) := by rw [hp]; rfl
    have hct := calTargetOk_of h0 h1' ht
    have hco : calCodeOk r = true := by simp only [calCodeOk, calCode, h0, decide_eq_true_eq]; omega
    rw [hCalStatus, judge_ok (exactly_length (by rw [hp]; rfl)) (by simp [firstFail, hco, hct, hr2])]
    simp [calCode, calTarget, h0, h1']
  · refine congrArg (Host.Outcome.next ∘ schedule) (serve_reply ha ?_)
    have hsaf : (accepted r s).saf = s.saf := by simp
    rw [hCalAbort, judge_ok (exactly_length (by rw [hp]; rfl)) rfl, hsaf, hn]
  · refine congrArg (Host.Outcome.next ∘ schedule) (serve_reply ha ?_)
    have hsaf : (accepted r s).saf = s.saf := by simp
    rw [hCalAbort, judge_ok (exactly_length (by rw [hp]; rfl)) rfl, hsaf, hf]
    exact if_pos hst
  · refine congrArg (Host.Outcome.next ∘ startWaiting) (serve_reply ha ?_)
    have h0 : fieldAt r.payload 0 1 = dies.toNat := by rw [hp, fieldAt_one]
    have h1 : fieldAt r.payload 1 1 = part.toNat := by rw [hp, fieldAt_cons, fieldAt_one]
    have hr2 : reservedAt r.payload 2 2 = (2, true) := by rw [hp]; rfl
    have hda' : diesActive (accepted r s) dies.toNat = true := by simpa [diesActive, activeDies] using hda
    have hne : (dies.toNat != 0) = true := by simpa [← BitVec.toNat_inj] using hd
    rw [hNozScan, judge_ok (exactly_length (by rw [hp]; rfl)) (by simp [firstFail, h0, h1, hpt, hda', hne, hr2])]
  · refine congrArg (Host.Outcome.next ∘ startWaiting) (serve_reply ha ?_)
    have h0 : fieldAt r.payload 0 1 = routine.toNat := by rw [hp, fieldAt_one]
    have h1' : fieldAt r.payload 1 1 = dies.toNat := by rw [hp, fieldAt_cons, fieldAt_one]
    have hr2 : reservedAt r.payload 2 2 = (2, true) := by rw [hp]; rfl
    have h34 : (routine.toNat = 3 ∨ routine.toNat = 4) ↔ (routine = 3 ∨ routine = 4) :=
      or_congr (byte_eq_iff (by decide)) (byte_eq_iff (by decide))
    have hm : (if routine.toNat = 3 ∨ routine.toNat = 4 then decide (dies.toNat < 16)
        else dies.toNat != 0 && diesActive (accepted r s) dies.toNat) = true := by
      simp only [h34]
      split
      · next h => rw [if_pos h] at hd; exact decide_eq_true hd
      · next h =>
        rw [if_neg h] at hd
        obtain ⟨hne, hda⟩ := hd
        have hda' : diesActive (accepted r s) dies.toNat = true := by simpa [diesActive, activeDies] using hda
        have hne' : (dies.toNat != 0) = true := by simpa [← BitVec.toNat_inj] using hne
        rw [hda', hne']
        rfl
    rw [hServiceRun, judge_ok (exactly_length (by rw [hp]; rfl))]
    simp only [firstFail, h0, h1', hm, hr2, h1, h5, and_self, decide_true, if_true]
  · refine congrArg (Host.Outcome.next ∘ startWaiting) (serve_reply ha ?_)
    have h2 : fieldAt r.payload 2 1 = cut.toNat := by rw [hp, fieldAt_cons, fieldAt_cons, fieldAt_one]
    have hr3 : reservedAt r.payload 3 1 = (3, true) := by rw [hp]; rfl
    rw [hFeed, judge_ok (exactly_length (by rw [hp]; rfl)) (by simp [firstFail, h2, hc, hr3])]
  · refine congrArg Host.Outcome.next (serve_reply ha ?_)
    obtain ⟨h2, h4, hl, h0, -⟩ := twoHalves (q := []) (hp.trans (List.append_nil _).symm) rfl (a := first) (b := n) (by omega) (by omega)
    have h0' : fieldAt r.payload 0 1 = die := h0.trans ((fieldAt_one _ _).trans (b8_toNat (by omega)))
    have hr1 : reservedAt r.payload 1 1 = (1, true) := by rw [hp]; rfl
    rw [hNozMapRead, judge_ok (exactly_length (show r.payload.length = 6 from hl))]
    · simp [h0', h2, h4]
    · simp only [firstFail, h0', h2, h4, hd, hr1, hn, hf, and_self, decide_true, if_true]
      exact if_pos (decide_eq_true (by omega))
  · refine congrArg Host.Outcome.next (serve_reply ha ?_)
    have hps : pos < 256 ^ 2 := by omega
    have h0 : fieldAt r.payload 0 1 = die := by rw [hp]; exact (fieldAt_one _ _).trans (b8_toNat (by omega))
    have h1 : fieldAt r.payload 1 1 = col := by rw [hp]; exact (fieldAt_one _ _).trans (b8_toNat (by omega))
    have h2 : fieldAt r.payload 2 2 = pos := by
      rw [hp, List.append_assoc]
      exact (fieldAt_skip (p := [b8 die, b8 col]) (k := 2) rfl 0 2).trans (fieldAt_le _ hps)
    have h4 : fieldAt r.payload 4 1 = st.toNat := by
      rw [hp]
      exact (fieldAt_skip (k := 4) (by simp [b16, length_leBytes]) 0 1).trans (fieldAt_one _ _)
    have hr5 : reservedAt r.payload 5 3 = (5, true) := by rw [hp]; rfl
    have hnone : (accepted r s).noz.scan = none := by simpa using hsc
    have hcol : (decide (1055 < pos) || pos % 2 == col % 2) = true := by
      obtain h | ⟨-, h⟩ := hpos
      · simp [h]
      · simp [h]
    have hpos' : (pos == 0xFFFF || decide (pos ≤ 1055)) = true := by
      obtain h | ⟨h, -⟩ := hpos
      · simp [h]
      · simp [h]
    have hst' : (st.toNat == 0 || st.toNat == 2 || st.toNat == 4) = true := by
      obtain rfl | rfl | rfl := hst <;> rfl
    rw [hNozMark, judge_ok (exactly_length (by rw [hp]; rfl))]
    · simp [h0, h1, h2, h4, hsc]
    · simp only [firstFail, h0, h1, h2, h4, hd, hc, hcol, hpos', hst', hr5, decide_true, Bool.and_true, if_true]
  · refine congrArg Host.Outcome.next (serve_reply ha ?_)
    obtain ⟨h2, h4, hl, h0, h1⟩ := twoHalves hp rfl (a := first) (b := n) (by omega) (by omega)
    have h0' : fieldAt r.payload 0 1 = die := h0.trans ((fieldAt_one _ _).trans (b8_toNat (by omega)))
    have h1' : fieldAt r.payload 1 1 = col := h1.trans ((fieldAt_one _ _).trans (b8_toNat (by omega)))
    have hr6 : reservedAt r.payload 6 2 = (6, true) := by rw [hp]; rfl
    rw [hFireCountRead, judge_ok (exactly_length (show r.payload.length = 8 from hl))]
    · simp [h0', h1', h2, h4, liveCount]
    · simp only [firstFail, h0', h1', h2, h4, hd, hc, hf, hn, hfn, hr6, and_self, decide_true, if_true]
  · refine congrArg Host.Outcome.next (serve_reply ha ?_)
    rw [hMechStatus, judge_ok (exactly_length (by rw [hp]; rfl)) rfl]
    have hm := accepted_motion r s
    have h1 : (accepted r s).motion.enc = s.motion.enc := by rw [hm]
    have h2 : (accepted r s).motion.cutIn = s.motion.cutIn := by rw [hm]
    have h3 : (accepted r s).motion.sledIn = s.motion.sledIn := by rw [hm]
    have h4 : (accepted r s).motion.capped = s.motion.capped := by rw [hm]
    have h5 : (accepted r s).motion.disabled = s.motion.disabled := by rw [hm]
    simp [h1, h2, h3, h4, h5, he, cutHome, sledHome, homeActive, paperOut, coverOpen, roleActive]

end Sys2Proof.Machine
end

section
/-! SUPPORT and PROOF of O44. One-time memory is read and shadowed (R158 to R176, R314, R316). -/

namespace Sys2Proof.Machine

variable {s : State} {r : Req}

/-! ### Shadows by their word -/

theorem find?_assocSet_same {α : Type} (m : List (Nat × α)) (k : Nat) (v : α) : find? (assocSet m k v) k = some v := by
  induction m with
  | nil => simp [assocSet, find?]
  | cons p m ih =>
    obtain ⟨k', v'⟩ := p
    simp only [assocSet]
    split
    · simp [find?]
    · split
      · simp [find?]
      · next hne =>
        rw [← ih]
        simp [find?, List.find?_cons, beq_eq_false_iff_ne.mpr (Ne.symm hne)]

theorem find?_assocSet_other {α : Type} (m : List (Nat × α)) {k j : Nat} (v : α) (h : j ≠ k) :
    find? (assocSet m k v) j = find? m j := by
  have hk : (k == j) = false := beq_eq_false_iff_ne.mpr (Ne.symm h)
  induction m with
  | nil => simp [assocSet, find?, hk]
  | cons p m ih =>
    obtain ⟨k', v'⟩ := p
    simp only [assocSet]
    split
    · simp [find?, List.find?_cons, hk]
    · split
      · next he => simp [find?, List.find?_cons, hk, ← he]
      · simp only [find?, List.find?_cons] at ih ⊢
        split
        · rfl
        · exact ih

/-! ### What a change of one-time memory leaves -/

/-- Without a change of the most that may be allocated, a change of the words or shadows reaches the trip code alone. -/
theorem otpChange_sameMax {o : Otp} (h : maxAlloc o = maxAlloc s.otp) :
    otpChange s o = { s with otp := o, saf := { s.saf with tripCode := ceilingCode { s with otp := o } } } := by
  simp [otpChange, followMax, deriveTrip, h]

theorem shadowOf_setShadow {o : Otp} {w i : Nat} (v : BitVec 64) (h : i ≠ w) :
    shadowOf { o with shadows := assocSet o.shadows w v } i = shadowOf o i := by
  simp only [shadowOf, find?_assocSet_other _ _ h]
  rfl

theorem maxAlloc_setShadow {o : Otp} {w : Nat} (v : BitVec 64) (h : w ≠ 79) :
    maxAlloc { o with shadows := assocSet o.shadows w v } = maxAlloc o := by
  simp only [maxAlloc, otpField, otpData, shadowOf_setShadow v (Ne.symm h)]
  rfl

/-- The read of a word notes a correction in the array's counts and the log only. -/
theorem noteReads_one (s : State) (i : Nat) : ∃ c l g, noteReads s [i] =
    { s with otp := { s.otp with corrected := c, corrLogged := l }, log := g } := by
  simp only [noteReads, List.foldl_cons, List.foldl_nil]
  split
  · exact ⟨_, _, _, rfl⟩
  · split
    · exact ⟨_, _, _, rfl⟩
    · rw [logEvent_eq]
      exact ⟨_, _, _, rfl⟩

theorem noteReads_atMost (s : State) (i : Nat) (p : Nat → Bool) : ∃ c l g, noteReads s ([i].filter p) =
    { s with otp := { s.otp with corrected := c, corrLogged := l }, log := g } := by
  cases h : p i
  · rw [List.filter_cons_of_neg (by simp [h])]
    exact ⟨_, _, _, rfl⟩
  · rw [List.filter_cons_of_pos h]
    exact noteReads_one s i

/-- OTP_READ of one word. -/
theorem hOtpRead_one {i : Nat} (hp : r.payload = [b8 i, 1, 0, 0]) (hi : i < 256) : hOtpRead r s =
    if otpRegion i = 3 then (Reply.no stLocked, s)
    else if readLocked s.otp i then (Reply.no stLocked, noteOtpRd s 0x0901)
    else (Reply.ok (otpEntry s.otp i),
      noteReads (noteOtpRd s 0x0901) ([i].filter (fun i => (shadowOf s.otp i).isNone))) := by
  have h0 : fieldAt r.payload 0 1 = i := by rw [hp, fieldAt_one, b8_toNat hi]
  have h1 : fieldAt r.payload 1 1 = 1 := by rw [hp]; rfl
  have hc : firstFail [(0, decide (fieldAt r.payload 0 1 + fieldAt r.payload 1 1 ≤ 256)),
      (1, decide (1 ≤ fieldAt r.payload 1 1 ∧ fieldAt r.payload 1 1 ≤ 32)), reservedAt r.payload 2 2] = none := by
    have hr : reservedAt r.payload 2 2 = (2, true) := by rw [hp]; rfl
    simp [firstFail, h0, h1, hr]
    omega
  simp only [hOtpRead]
  rw [judge_ok (exactly_length (by rw [hp]; rfl)) hc]
  by_cases hg : otpRegion i = 3
  · simp [h0, h1, hg]
  · cases hl : readLocked s.otp i <;> simp [h0, h1, hg, hl, Reply.no, noteReads] <;> rfl

/-- A shadow that is to be set, of a word that takes one. -/
theorem shadow_notForbidden {o : Otp} {lc w : Nat} {p : List Byte} (h0 : fieldAt p 0 1 = w) (hlc : lc ≤ 1) (hn : noShadow o = false)
    (hs : shadowable o w = true) : forbidden o lc 0x0906 p = none := by
  have h1 : lifecycleBars lc 0x0906 p = false := by
    have : (lc == 3) = false := by simp; omega
    simp [lifecycleBars, this]
  simp [forbidden, h1, lockForbids, lockBars, hn, hs, h0]

theorem nonce_notForbidden {o : Otp} {p : List Byte} (h0 : byteAt p 0 = 1) : forbidden o 2 0x0909 p = none := by
  have h1 : lifecycleBars 2 0x0909 p = false := by simp [lifecycleBars, h0]
  have h2 : lockForbids o 0x0909 = false := rfl
  have h3 : lockBars o 0x0909 p = false := rfl
  simp [forbidden, h1, h2, h3]

/-- Settles O44: reads, shadows, status and nonce by their handlers on the accepted state. -/
theorem otpReadsShadowsAndStatus : Obligations.OtpReadsShadowsAndStatus := by
  unfold Obligations.OtpReadsShadowsAndStatus
  refine fun r s => ⟨fun i ha hp hi hg hl => ?_, fun i ha hp hi hg => ?_, fun i ha hp hi hg hl => ?_,
    fun w d ha hp hw hlc hn hs hlen => ?_, fun ha hp => ?_, fun ha hp hlc => ?_, rfl⟩
  · have he := hOtpRead_one (s := accepted r s) hp hi
    simp only [hg, accepted_frame, hl, if_false, Bool.false_eq_true] at he
    refine ⟨_, congrArg Host.Outcome.next (serve_reply ha he), ?_⟩
    have hw : now (accepted r s) = now s := by simp [now]
    have ho : s.otp = (accepted r s).otp := by simp
    have hr : s.rst.raOtp = (accepted r s).rst.raOtp := by simp
    rw [← hw, hr, ho]
    rcases noteReads_atMost (noteOtpRd (accepted r s) 0x0901) i (fun i => (shadowOf (accepted r s).otp i).isNone) with ⟨c, l, g, h⟩
    rw [h]
    exact ⟨rfl, rfl, rfl, rfl⟩
  · refine congrArg Host.Outcome.next (serve_reply ha ?_)
    rw [hOtpRead_one hp hi, if_pos hg]
  · refine congrArg Host.Outcome.next (serve_reply ha ?_)
    rw [hOtpRead_one hp hi, if_neg hg, if_pos (by simpa using hl)]
    simp [noteOtpRd, now]
  · have h0 : fieldAt r.payload 0 1 = w := by rw [hp]; exact (fieldAt_one _ _).trans (b8_toNat hw)
    have h4 : fieldAt r.payload 4 8 = d.toNat := by
      rw [hp, ← List.append_nil (b64 d.toNat)]
      exact (fieldAt_skip (p := [b8 w, 1, 0, 0]) rfl 0 8).trans (fieldAt_le [] d.isLt)
    have hset : (byteAt r.payload 1 == 1) = true := by rw [hp]; rfl
    have hotp : (accepted r s).otp = s.otp := by simp
    have he : hOtpShadow r (accepted r s) = (Reply.ok [b8 (assocSet s.otp.shadows w d).length, 0, 0, 0],
        otpChange (accepted r s) { s.otp with shadows := assocSet s.otp.shadows w d }) := by
      simp only [hOtpShadow]
      rw [judgeLocked_ok (exactly_length (by rw [hp]; simp [b64, length_leBytes]))
        (by rw [admLifecycle_admitted ha, hotp]; exact shadow_notForbidden h0 hlc hn hs)
        (by
          have h1 : fieldAt r.payload 1 1 = 1 := by rw [hp]; rfl
          have hr : reservedAt r.payload 2 2 = (2, true) := by rw [hp]; rfl
          simp [firstFail, h1, hr])]
      simp only [hotp, hset, h0, h4, if_true, BitVec.ofNat_toNat, BitVec.setWidth_eq, Bool.true_and, Nat.not_le.mpr hlen, decide_false,
        Bool.and_false, Bool.false_eq_true, if_false]
    refine ⟨otpChange (accepted r s) { s.otp with shadows := assocSet s.otp.shadows w d },
      congrArg Host.Outcome.next ((serve_reply ha he).trans ?_), ?_, fun k hk => ?_, ?_, fun h79 => ?_⟩
    · rw [otpChange_otp]
    · rw [otpChange_otp]
      exact find?_assocSet_same _ _ _
    · rw [otpChange_otp]
      exact find?_assocSet_other _ _ hk
    · rw [otpChange_otp]
    · have hsaf : s.saf = (accepted r s).saf := by simp
      rw [otpChange_sameMax (by rw [hotp]; exact maxAlloc_setShadow d h79), hsaf, ← hotp]
  · refine congrArg Host.Outcome.next (serve_reply ha ?_)
    rw [hOtpStatus, judge_ok (exactly_length (by rw [hp]; rfl)) rfl]
    simp
  · have he : hReturnChallenge r (accepted r s) = (Reply.ok (leBytes 16 (drawNonce (accepted r s)).1.toNat ++ dieId s.otp),
        { (drawNonce (accepted r s)).2 with otp := { s.otp with nonceEntry := some (drawNonce (accepted r s)).1 } }) := by
      have hb : fieldAt r.payload 0 1 = 1 := by rw [hp]; rfl
      simp only [hReturnChallenge]
      rw [judgeLocked_ok (exactly_length (by rw [hp]; rfl))
        (by rw [admLifecycle_admitted ha, hlc]; exact nonce_notForbidden (by rw [hp]; rfl)) (by rw [hp]; rfl)]
      simp [hb]
    refine ⟨_, _, congrArg Host.Outcome.next (serve_reply ha he), rfl, ?_⟩
    have hc : s.clk = (accepted r s).clk := by simp
    have ho : s.otp = (accepted r s).otp := by simp
    rw [hc, ho]
    rfl

end Sys2Proof.Machine
end

section
/-! SUPPORT and PROOF of O45. Programming words of one-time memory (R155 to R175, R315 to R317). -/

namespace Sys2Proof.Machine

variable {s : State} {r : Req}

/-! ### Programming a word -/

theorem whenProgrammable_free {go : State → Reply × State} (h : programBar s = none) : whenProgrammable s go = go s := by
  simp only [whenProgrammable, h]

theorem programWord_words (i : Nat) (d : BitVec 64) :
    (programWord s i d).2.otp.words = s.otp.words.set i (programmed (otpRaw s.otp i) d) := by simp [programWord]

theorem programWord_verified {i : Nat} (h : (otpRaw s.otp i).defective = false) (d : BitVec 64) :
    programWord s i d = (true, (programWord s i d).2) := by simp [programWord, h]

theorem programWord_fails {i : Nat} (h : (otpRaw s.otp i).defective = true) (d : BitVec 64) :
    programWord s i d = (false, (programWord s i d).2) := by simp [programWord, h]

theorem programWords_one (i : Nat) (d : BitVec 64) :
    programWords s [(i, d)] = (if (otpRaw s.otp i).defective then some i else none, (programWord s i d).2) := by
  cases h : (otpRaw s.otp i).defective <;> simp only [programWords]
  · rw [programWord_verified h]
    rfl
  · rw [programWord_fails h]
    rfl

theorem otpRaw_of_words {o u : Otp} {i : Nat} (h : o.words[i]? = u.words[i]?) : otpRaw o i = otpRaw u i := by
  simp [otpRaw, List.getD_eq_getElem?_getD, h]

theorem otpCond_of_raw {o u : Otp} {i : Nat} (h : otpRaw o i = otpRaw u i) : otpCond o i = otpCond u i := by
  simp only [otpCond, h]

theorem lt_of_mayProgram {i : Nat} (h : mayProgram i = true) : i < 256 := by
  simp only [mayProgram, Bool.or_eq_true, decide_eq_true_eq] at h
  omega

/-! ### No lock and no lifecycle forbids the operation -/

theorem writeLocked_blank {o : Otp} {i : Nat} (hc : otpCond o i = .blank) (hs : sealed o (otpRegion i) = false)
    (hl : lifecycle o ≤ 1) : writeLocked o i = false := by
  have : (lifecycle o == 2) = false := by simp; omega
  simp [writeLocked, hc, hs, this]

theorem forbidden_none {o : Otp} {lc op : Nat} {p : List Byte} (h1 : lifecycleBars lc op p = false)
    (h2 : lockForbids o op = false) (h3 : lockBars o op p = false) : forbidden o lc op p = none := by
  simp [forbidden, h1, h2, h3]

theorem lifecycleBars_early {lc op : Nat} {p : List Byte} (hl : lc ≤ 1) (h8 : op ≠ 0x0908) (h9 : op ≠ 0x0909) :
    lifecycleBars lc op p = false := by
  have h3 : (lc == 3) = false := by simp; omega
  have h2 : (lc == 2) = false := by simp; omega
  simp [lifecycleBars, h3, h2, h8, h9]

/-- OTP_PROGRAM of one word on a part where nothing bars it. -/
theorem hOtpProgram_one {i d : Nat} (ha : admitted 0x0902 r s = true) (hp : r.payload = [b8 i, 1, 0, 0] ++ b64 d)
    (hb : programBar (accepted r s) = none) (hl : lifecycle s.otp ≤ 1) (hd : d < 2 ^ 64) (hm : mayProgram i = true)
    (h77 : i ≠ 77) (h78 : i ≠ 78) (hr : d &&& reservedBits i = 0) (hv : wordValueOk i d = true)
    (hc : otpCond s.otp i = .blank) (hs : sealed s.otp (otpRegion i) = false) : hOtpProgram r (accepted r s) =
    (if (otpRaw s.otp i).defective then Reply.fault 0x0001 i else Reply.ok [1, 0, 0, 0],
      (programWord (noteOtpRd (accepted r s) 0x0902) i (stored i d)).2) := by
  have h0 : fieldAt r.payload 0 1 = i := by rw [hp]; exact (fieldAt_one _ _).trans (b8_toNat (lt_of_mayProgram hm))
  have h1 : fieldAt r.payload 1 1 = 1 := by rw [hp]; rfl
  have h4 : fieldAt r.payload 4 8 = d := by
    rw [hp, ← List.append_nil (b64 d)]
    exact (fieldAt_skip (p := [b8 i, 1, 0, 0]) rfl 0 8).trans (fieldAt_le [] hd)
  have hn : namedWords r.payload = [i] := by simp [namedWords, h0, h1]
  have hw : progWords r.payload = [(i, 4, d)] := by simp [progWords, h0, h1, h4]
  have hlen : r.payload.length = 12 := by rw [hp]; simp [b64, length_leBytes]
  have hr2 : reservedAt r.payload 2 2 = (2, true) := by rw [hp]; rfl
  have ho : (accepted r s).otp = s.otp := by simp
  simp only [hOtpProgram]
  rw [judgeLocked_ok (by simp [h1, hlen]) ?_ ?_, whenProgrammable_free hb]
  · simp only [hw, h1, List.map_cons, List.map_nil, programWords_one]
    simp only [noteOtpRd, ho]
    cases (otpRaw s.otp i).defective <;> rfl
  · rw [admLifecycle_admitted ha, ho]
    exact forbidden_none (lifecycleBars_early hl (by decide) (by decide)) rfl
      (by simp [lockBars, hn, writeLocked_blank hc hs hl])
  · simp [firstFail, hw, hm, h1, hr2, hr, hv, h77, h78]

/-- The two words of a secret lie in its region. -/
theorem secretWord_region {k w : Nat} (h : secretWord k = some w) : otpRegion w = 3 ∧ otpRegion (w + 1) = 3 := by
  have hw : 28 ≤ w ∧ w + 1 < 76 := by
    simp only [secretWord] at h
    (repeat' split at h) <;> cases h <;> omega
  have hr {i : Nat} (h1 : 28 ≤ i) (h2 : i < 76) : otpRegion i = 3 := by
    simp only [otpRegion]
    (repeat' split) <;> omega
  exact ⟨hr hw.1 (by omega), hr (by omega) hw.2⟩

/-- OTP_KEY_PROGRAM on a part where nothing bars it and both words verify. -/
theorem hOtpKeyProgram_ok {k : Byte} {w : Nat} {key : List Byte} (ha : admitted 0x0903 r s = true)
    (hp : r.payload = [k, 0, 0, 0] ++ key) (hb : programBar (accepted r s) = none) (hl : lifecycle s.otp ≤ 1)
    (hk : key.length = 16) (hw : secretWord k.toNat = some w) (hc : otpCond s.otp w = .blank)
    (hc' : otpCond s.otp (w + 1) = .blank) (hs : sealed s.otp 3 = false) (hd : (otpRaw s.otp w).defective = false)
    (hd' : (otpRaw s.otp (w + 1)).defective = false) : hOtpKeyProgram r (accepted r s) = (Reply.ok (kcv key k.toNat),
      (programWord (programWord (accepted r s) w (descramble w (BitVec.ofNat 64 (fieldAt key 0 8)))).2 (w + 1)
        (descramble (w + 1) (BitVec.ofNat 64 (fieldAt key 8 8)))).2) := by
  have h0 : fieldAt r.payload 0 1 = k.toNat := by rw [hp]; exact fieldAt_one _ _
  have hsl : slice r.payload 4 16 = key := by
    rw [hp]
    simp [slice, ← hk]
  have ho : (accepted r s).otp = s.otp := by simp
  have hlen : r.payload.length = 20 := by rw [hp]; simp [hk]
  have hr1 : reservedAt r.payload 1 3 = (1, true) := by rw [hp]; rfl
  obtain ⟨hg, hg'⟩ := secretWord_region hw
  simp only [hOtpKeyProgram]
  rw [judgeLocked_ok (exactly_length hlen) ?_ ?_, whenProgrammable_free hb]
  · simp only [h0, hw, hsl, Option.getD_some, programWords]
    rw [programWord_verified (by rw [ho]; exact hd)]
    simp only
    rw [programWord_verified (by rw [programWord_otpRaw (by omega), ho]; exact hd')]
  · rw [admLifecycle_admitted ha, ho]
    exact forbidden_none (lifecycleBars_early hl (by decide) (by decide)) rfl
      (by simp [lockBars, h0, hw, writeLocked_blank hc (hg ▸ hs) hl, writeLocked_blank hc' (hg' ▸ hs) hl])
  · simp [firstFail, h0, hw, hr1]

/-- OTP_SEAL on a part where nothing bars it and the digest word verifies. -/
theorem hOtpSeal_ok {g : Byte} {w : Nat} (ha : admitted 0x0904 r s = true) (hp : r.payload = [g, 0, 0, 0])
    (hb : programBar (accepted r s) = none) (hl : lifecycle s.otp ≤ 1) (h2 : 2 ≤ g.toNat) (h4 : g.toNat ≤ 4)
    (hw : digestWord g.toNat = some w) (hc : otpCond s.otp w = .blank) (hd : (otpRaw s.otp w).defective = false) :
    hOtpSeal r (accepted r s) = (Reply.ok (b64 (digestOf s.otp g.toNat).toNat), (sealRegion (accepted r s) g.toNat).2) := by
  have h0 : fieldAt r.payload 0 1 = g.toNat := by rw [hp]; exact fieldAt_one _ _
  have ho : (accepted r s).otp = s.otp := by simp
  have hr1 : reservedAt r.payload 1 3 = (1, true) := by rw [hp]; rfl
  have hns : sealed s.otp g.toNat = false := by simp [sealed, hw, hc]
  have hok : sealRegion (accepted r s) g.toNat = (true, (sealRegion (accepted r s) g.toNat).2) := by
    simp [sealRegion, hw, programWord, ho, hd]
  simp only [hOtpSeal]
  rw [judgeLocked_ok (exactly_length (by rw [hp]; rfl)) ?_ ?_, whenProgrammable_free hb]
  · rw [h0, hok, ho]
  · rw [admLifecycle_admitted ha, ho]
    exact forbidden_none (lifecycleBars_early hl (by decide) (by decide)) rfl (by simp [lockBars, h0, hns])
  · have : g.toNat = 2 ∨ g.toNat = 3 ∨ g.toNat = 4 := by omega
    simp [firstFail, h0, hr1, or_assoc, this]

theorem sealRegion_words {g w : Nat} (hw : digestWord g = some w) :
    (sealRegion s g).2.otp.words = s.otp.words.set w (programmed (otpRaw s.otp w) (digestOf s.otp g)) ∧
    ∀ p ∈ (sealRegion s g).2.otp.shadows, otpRegion p.1 ≠ g := by
  simp only [sealRegion, hw, otpChange_otp]
  exact ⟨programWord_words _ _, fun p hp => by simpa using (List.mem_filter.mp hp).2⟩

/-- OTP_LOCK on a part where nothing bars it and the lock set's word verifies. -/
theorem hOtpLock_ok {v i : Nat} (ha : admitted 0x0905 r s = true) (hp : r.payload = leBytes 6 v ++ [0, 0])
    (hb : programBar (accepted r s) = none) (hl : lifecycle s.otp ≤ 1) (hv : v < 2 ^ 48) (hr : lockReserved v = true)
    (hn : nextLockSet s.otp = some i) (hd : (otpRaw s.otp i).defective = false) :
    hOtpLock r (accepted r s) = (Reply.ok [b8 i, 0, 0, 0], (programWord (accepted r s) i (stored i v)).2) := by
  have h0 : fieldAt r.payload 0 6 = v := by rw [hp]; exact fieldAt_le _ hv
  have ho : (accepted r s).otp = s.otp := by simp
  have hr6 : (reservedAt r.payload 6 2).2 = true := by
    rw [hp]
    exact reservedAt_skip (k := 6) (length_leBytes 6 v) 0 2
  simp only [hOtpLock]
  rw [judgeLocked_ok (exactly_length (by rw [hp]; simp [length_leBytes])) ?_ ?_, whenProgrammable_free hb]
  · simp only [h0, ho, hn, Option.getD_some]
    rw [programWord_verified (by rw [ho]; exact hd)]
  · rw [admLifecycle_admitted ha, ho]
    exact forbidden_none (lifecycleBars_early hl (by decide) (by decide)) (by simp [lockForbids, hn]) rfl
  · simp [firstFail, h0, hr, hr6]

/-! ### BLANK advances to PROVISION -/

theorem programCopy_ok {k d : Nat} (hc : otpCond s.otp k = .blank) (hd : (otpRaw s.otp k).defective = false) :
    programCopy s k d = (none, (programWord s k (stored k d)).2) := by
  rw [programCopy, if_neg (by simp [hc]), programWord_verified hd]

theorem logEvent_otp (code : Nat) (data : List Byte) : (logEvent s code data).otp = s.otp := by simp

/-- The first entry reads VALID once it has been programmed, and it is the only one. -/
theorem lifecycle_entered {o u : Otp} (h0 : lifecycle o = 0)
    (hw : otpRaw u 0 = programmed (otpRaw o 0) (stored 0 (0x5A + 256 * 0xFF))) (hd : (otpRaw o 0).defective = false)
    (hk : ∀ k, k ≠ 0 → k ≠ 4 → otpRaw u k = otpRaw o k) : lifecycle u = 1 := by
  have hp (k : Nat) (h : k ≠ 0) (h4 : k ≠ 4) (h40 : k + 4 ≠ 4) : entryPresent u k = entryPresent o k := by
    simp only [entryPresent, otpCond_of_raw (hk k h h4), otpCond_of_raw (hk (k + 4) (by omega) h40)]
  have hv : otpCond u 0 = .valid := by
    have hne : stored 0 (0x5A + 256 * 0xFF) ≠ 0 := by decide +kernel
    have hck : ((stored 0 (0x5A + 256 * 0xFF)).toNat / 2 ^ 48 != otpCheck (stored 0 (0x5A + 256 * 0xFF)).toNat 0) = false := by
      decide +kernel
    rw [programmed, hd, if_neg Bool.false_ne_true, if_neg hne] at hw
    simp only [otpCond, hw, hck, Bool.and_false, Bool.false_eq_true, if_false]
  have he : entryPresent u 0 = true := by simp [entryPresent, hv]
  have hno (k : Nat) (hk1 : 1 ≤ k) (hk3 : k ≤ 3) : entryPresent o k = false := by
    cases h : entryPresent o k
    · rfl
    · simp only [lifecycle] at h0
      obtain rfl | rfl | rfl : k = 1 ∨ k = 2 ∨ k = 3 := by omega
      all_goals simp only [h, if_true] at h0 <;> ((repeat' split at h0) <;> omega)
  simp only [lifecycle, hp 3 (by decide) (by decide) (by decide), hp 2 (by decide) (by decide) (by decide),
    hp 1 (by decide) (by decide) (by decide), hno 3 (by decide) (by decide), hno 2 (by decide) (by decide),
    hno 1 (by decide) (by decide), he]
  rfl

/-- Where the entry of PROVISION verifies in both copies, nothing but its two words changes. -/
theorem advanceTo_provision (hl : 0 < s.otp.words.length) (h0 : lifecycle s.otp = 0) (hc : otpCond s.otp 0 = .blank) (hc' : otpCond s.otp 4 = .blank)
    (hd : (otpRaw s.otp 0).defective = false) (hd' : (otpRaw s.otp 4).defective = false) :
    ∃ t, advanceTo s 0 0x5A 0xFF = (Reply.ok [0x5A, 0, 0, 0], t) ∧ lifecycle t.otp = 1 ∧
      ∀ k : Nat, k ≠ 0 → k ≠ 4 → t.otp.words[k]? = s.otp.words[k]? := by
  have h4 : otpRaw (programWord s 0 (stored 0 (0x5A + 256 * 0xFF))).2.otp 4 = otpRaw s.otp 4 := programWord_otpRaw (by decide) _
  have he : programEntry s 0 0x5A 0xFF = (none, (programWord (programWord s 0 (stored 0 (0x5A + 256 * 0xFF))).2 4
      (stored 4 (0x5A + 256 * 0xFF))).2) := by
    rw [programEntry]
    simp only [show (0x5A : Byte).toNat + 256 * (0xFF : Byte).toNat = 0x5A + 256 * 0xFF from rfl, programCopy_ok hc hd, Nat.zero_add]
    rw [programCopy_ok (by rw [otpCond_of_raw h4]; exact hc') (by rw [h4]; exact hd')]
    rfl
  have hwords (k : Nat) (hk : k ≠ 0) (hk' : k ≠ 4) : (programEntry s 0 0x5A 0xFF).2.otp.words[k]? = s.otp.words[k]? := by
    rw [he, programWord_words, programWord_words, List.getElem?_set_ne (Ne.symm hk'), List.getElem?_set_ne (Ne.symm hk)]
  have hraw : otpRaw (programEntry s 0 0x5A 0xFF).2.otp 0 = programmed (otpRaw s.otp 0) (stored 0 (0x5A + 256 * 0xFF)) := by
    rw [he, programWord_otpRaw (by decide), otpRaw_of_getElem? (by rw [programWord_words, List.getElem?_set_self hl])]
  have hlc := lifecycle_entered h0 hraw hd fun k hk hk' => otpRaw_of_words (hwords k hk hk')
  have hotp : (advanceTo s 0 0x5A 0xFF).2.otp = (programEntry s 0 0x5A 0xFF).2.otp := by
    simp only [advanceTo, he]
    split <;> simp
  refine ⟨(advanceTo s 0 0x5A 0xFF).2, Prod.ext ?_ rfl, by rw [hotp]; exact hlc, by rw [hotp]; exact hwords⟩
  have hfst : (advanceTo s 0 0x5A 0xFF).1 = Reply.ok [lcCode (advanceTo s 0 0x5A 0xFF).2.otp, 0, 0, 0] := by
    simp only [advanceTo, he]
  rw [hfst, hotp, lcCode, hlc]
  rfl

theorem length_dieId (o : Otp) : (dieId o).length = 16 := by
  have hw (i : Nat) : (match otpValid o i with
      | some d => leBytes 8 d.toNat
      | none => zeros 8).length = 8 := by
    split
    · exact length_leBytes _ _
    · rfl
  simp only [dieId]
  split
  · rfl
  · rw [List.length_append]
    exact congr (congrArg (· + ·) (hw 236)) (hw 237)

/-- LIFECYCLE_ADVANCE to PROVISION from BLANK, on a part where nothing bars it. -/
theorem hLifecycleAdvance_provision (ha : admitted 0x0908 r s = true) (hp : r.payload = [0x5A, 0, 0, 0] ++ (dieId s.otp).take 4)
    (hb : programBar (accepted r s) = none) (h0 : lifecycle s.otp = 0) (hc : otpCond s.otp 0 = .blank) :
    hLifecycleAdvance r (accepted r s) = advanceTo (accepted r s) 0 0x5A 0xFF := by
  have ho : (accepted r s).otp = s.otp := by simp
  have hlen : ((dieId s.otp).take 4).length = 4 := by simp [length_dieId]
  have hcode : byteAt r.payload 0 = 0x5A := by rw [hp]; rfl
  have hr1 : reservedAt r.payload 1 3 = (1, true) := by rw [hp]; rfl
  have hid : slice r.payload 4 4 = (dieId s.otp).take 4 := by
    rw [hp]
    simp [slice, List.take_take]
  simp only [hLifecycleAdvance]
  rw [judgeLocked_ok (by rw [hcode]; exact exactly_length (by rw [hp, List.length_append, hlen]; rfl)) ?_ ?_, whenProgrammable_free hb]
  · rw [hcode]
    rfl
  · rw [admLifecycle_admitted ha, ho, h0]
    refine forbidden_none ?_ rfl ?_
    · simp [lifecycleBars, hcode]
      rfl
    · simp [lockBars, hcode, entryOf, hc]
  · have he : (entryOf 0x5A).isSome = true := rfl
    simp only [firstFail, hcode, hr1, hid, ho, he, beq_self_eq_true]
    rfl

/-- Settles O45: each command that programs words, once nothing bars it, programs those that it names and no other. -/
theorem otpProgramming : Obligations.OtpProgramming := by
  unfold Obligations.OtpProgramming
  intro r s hlen hb hl
  have ho : (accepted r s).otp = s.otp := by simp
  refine ⟨fun i d ha hp hd hm h77 h78 hr hv hc hs => ?_, fun k w key ha hp hk hw hc hc' hs hd hd' => ?_,
    fun g w ha hp h2 h4 hw hc hd => ?_, fun v i ha hp hv hr hf hi hd => ?_, fun ha hp hlc hc hc' hd hd' => ?_⟩
  · have he := hOtpProgram_one ha hp hb hl hd hm h77 h78 hr hv hc hs
    have hw : (programWord (noteOtpRd (accepted r s) 0x0902) i (stored i d)).2.otp.words =
        s.otp.words.set i (programmed (otpRaw s.otp i) (stored i d)) := by
      rw [programWord_words, noteOtpRd_otp, ho]
    refine ⟨fun hdef => ⟨_, congrArg Host.Outcome.next (serve_reply ha (he.trans (by rw [hdef]; rfl))), hw⟩,
      fun hdef => ⟨_, congrArg Host.Outcome.next (serve_reply ha (he.trans (by rw [hdef]; rfl))), ?_, fun k hk => ?_⟩⟩
    · have hlt : i < s.otp.words.length := by rw [hlen]; exact lt_of_mayProgram hm
      rw [otpRaw_of_getElem? (by rw [hw, List.getElem?_set_self hlt])]
      simp [programmed, hdef]
    · rw [hw, List.getElem?_set_ne (Ne.symm hk)]
  · refine ⟨_, congrArg Host.Outcome.next (serve_reply ha (hOtpKeyProgram_ok ha hp hb hl hk hw hc hc' hs hd hd')), ?_⟩
    rw [programWord_words, programWord_words, programWord_otpRaw (by omega), ho]
  · have hwords := sealRegion_words (s := accepted r s) hw
    rw [ho] at hwords
    exact ⟨_, congrArg Host.Outcome.next (serve_reply ha (hOtpSeal_ok ha hp hb hl h2 h4 hw hc hd)), hwords⟩
  · have hn : nextLockSet s.otp = some i := by rw [nextLockSet, if_neg (by simp [hf]), hi]
    refine ⟨_, congrArg Host.Outcome.next (serve_reply ha (hOtpLock_ok ha hp hb hl hv hr hn hd)), ?_⟩
    rw [programWord_words, ho]
  · obtain ⟨t, he, hlc', hwords⟩ := advanceTo_provision (s := accepted r s) (by rw [ho, hlen]; decide)
      (by rw [ho]; exact hlc) (by rw [ho]; exact hc)
      (by rw [ho]; exact hc') (by rw [ho]; exact hd) (by rw [ho]; exact hd')
    refine ⟨t, congrArg Host.Outcome.next (serve_reply ha ((hLifecycleAdvance_provision ha hp hb hlc hc).trans he)), hlc', ?_⟩
    rw [ho] at hwords
    exact hwords

end Sys2Proof.Machine
end

section
/-! SUPPORT and PROOF of O46. What storage holds and what it is given (R258 to R264, R318 to R321, R350 to R352). -/

namespace Sys2Proof.Machine

variable {s : State} {r : Req}

/-! ### What storage holds -/

theorem streamMsg_admitted {op : Nat} (ha : admitted op r s = true) : streamMsg (accepted r s) r op = none := by
  have h := admitted_continued ha
  rw [continued, Option.filter_eq_none_iff] at h
  rw [streamMsg]
  split
  · next m hm => rw [if_neg (by simpa using h m hm)]
  · rfl

theorem more_of_admitted {op : Nat} (ha : admitted op r s = true) : r.more = false := by
  simp only [admitted, Bool.and_eq_true, Bool.not_eq_true'] at ha
  obtain ⟨⟨⟨⟨⟨⟨_, hm⟩, _⟩, _⟩, _⟩, _⟩, _⟩ := ha
  exact hm

/-! ### What storage is given -/

/-- A profile that sound NVM takes. -/
theorem putProfile_sound {slot : Nat} {p : List Byte} {key : Option Nat} (hb : NvmSound s) : ∃ t,
    putProfile s slot p key = (Reply.ok [], t) ∧ t.nvm.profiles = s.nvm.profiles.set slot (some ⟨p, key⟩) ∧
    t.nvm.store = s.nvm.store ∧ t.nvm.images = s.nvm.images ∧ t.params = s.params := by
  obtain ⟨u, hu, w, rfl⟩ := writePages_sound (s := noteWrite s (objectStream p) p)
    (ps := pagesOf 2 (slot * 16384) p.length) (by simpa using hb)
  rw [putProfile, hu]
  exact ⟨_, rfl, by simp, by simp, by simp, by simp⟩

/-- Moving objects leaves what each of them is. -/
theorem no_sameObj_of_findObj {n : Nvm} {logo : Bool} {id : Nat} (h : findObj n logo id = none) :
    ∀ o ∈ n.store, sameObj logo id o = false := by
  simpa [findObj] using h

/-- An object that none in the directory has the type and the ID of joins it, on sound NVM with the room for it. -/
theorem putObject_sound {logo : Bool} {id crc : Nat} {b : List Byte} (hb : NvmSound s) (hf : findObj s.nvm logo id = none) :
    ∃ t, putObject s logo id crc b = (Reply.ok (b16 id ++ b16 (objPages b.length)), t) ∧
      ∃ o ∈ directory t.nvm, o.logo = logo ∧ o.id = id ∧ o.bytes = b ∧ o.crc = BitVec.ofNat 32 crc ∧ o.signed = !objUnsigned b := by
  unfold putObject
  generalize (!objUnsigned b) = sg
  extract_lets keep others
  rcases hd : drawNonce s with ⟨pick, v⟩
  simp only
  rcases hp : placeObject pick.toNat others (objPages b.length) with ⟨objs, page⟩
  simp only
  have hv : v.nvm = s.nvm := by
    have h : (drawNonce s).2 = v := by rw [hd]
    rw [← h]
    simp
  have hw : (noteWrite v (objectStream b) b).nvm = s.nvm := by
    rw [← hv]
    simp
  obtain ⟨u, hu, w, rfl⟩ := writePages_sound (s := noteWrite v (objectStream b) b)
    (ps := objectWrites v.nvm (movedObjs others objs) logo id page (objPages b.length)) (by rw [hw]; exact hb)
  have hno := no_sameObj_of_findObj hf
  rw [hu]
  refine ⟨_, rfl, ⟨logo, id, sg, page, BitVec.ofNat 32 crc, b, false⟩, List.mem_filter.mpr ⟨?_, rfl⟩, rfl, rfl, rfl,
    rfl, rfl⟩
  simp only [hw]
  rw [replaceObj, if_neg]
  · exact List.mem_append_right _ (List.mem_singleton.mpr rfl)
  · simp only [List.any_eq_true, List.mem_map, not_exists, not_and]
    rintro _ ⟨o, ho, rfl⟩
    have := hno o ho
    split <;> simpa [sameObj] using this

/-- An object whose bytes are sound and whose signature is right, or missing where that is allowed, is not refused. -/
theorem objectRefusal_none {logo : Bool} {b : List Byte} (hok : objectOk logo b = true) :
    (if objUnsigned b then pv s.params 0x0E10 ≠ 1 else objectVerifies s.otp b = true) →
      objectRefusal s logo b.length (crc32c b).toNat b = none := by
  cases h : objUnsigned b <;> simp [objectRefusal, hok, h]

/-- The fields of an OBJECT_STORE that brings its object in one fragment. -/
theorem objectFields {p b : List Byte} {ty : Byte} {id crc : Nat}
    (hp : p = [ty, 0] ++ b16 id ++ b32 b.length ++ b32 crc ++ zeros 4 ++ b) (hid : id < 65536) (hlen : b.length < 2 ^ 32)
    (hcrc : crc < 2 ^ 32) : 16 ≤ p.length ∧ byteAt p 0 = ty ∧ reservedAt p 1 1 = (1, true) ∧ fieldAt p 2 2 = id ∧
      fieldAt p 4 4 = b.length ∧ (reservedAt p 12 4).2 = true ∧ fieldAt (p.take 16) 2 2 = id ∧ fieldAt (p.take 16) 4 4 = b.length ∧
      fieldAt (p.take 16) 8 4 = crc ∧ byteAt (p.take 16) 0 = ty ∧ p.drop 16 = b := by
  let head := [ty, 0] ++ b16 id ++ b32 b.length ++ b32 crc ++ zeros 4
  have hhead : head = [ty, 0] ++ b16 id ++ b32 b.length ++ b32 crc ++ zeros 4 := rfl
  have h2 (q : List Byte) : fieldAt ([ty, 0] ++ b16 id ++ b32 b.length ++ b32 crc ++ zeros 4 ++ q) 2 2 = id := by
    simp only [List.append_assoc]
    exact (fieldAt_skip (p := [ty, 0]) rfl 0 2).trans (fieldAt_le _ hid)
  have h4 (q : List Byte) : fieldAt ([ty, 0] ++ b16 id ++ b32 b.length ++ b32 crc ++ zeros 4 ++ q) 4 4 = b.length := by
    simp only [List.append_assoc]
    rw [← List.append_assoc]
    exact (fieldAt_skip (p := [ty, 0] ++ b16 id) (by simp [b16, length_leBytes]) 0 4).trans (fieldAt_le _ hlen)
  have h8 (q : List Byte) : fieldAt ([ty, 0] ++ b16 id ++ b32 b.length ++ b32 crc ++ zeros 4 ++ q) 8 4 = crc := by
    simp only [List.append_assoc]
    rw [← List.append_assoc, ← List.append_assoc]
    exact (fieldAt_skip (p := [ty, 0] ++ b16 id ++ b32 b.length) (by simp [b16, b32, length_leBytes]) 0 4).trans (fieldAt_le _ hcrc)
  have hl : head.length = 16 := by simp [hhead, b16, b32, length_leBytes, zeros]
  have ht : p.take 16 = head := by rw [hp, List.take_left' hl]
  have hle : 16 ≤ p.length := by
    rw [hp, ← hhead, List.length_append, hl]
    exact Nat.le_add_right 16 _
  subst hp
  refine ⟨hle, rfl, rfl, h2 b, h4 b, ?_, ?_, ?_, ?_, ?_, List.drop_left' hl⟩
  · rw [List.append_assoc]
    exact reservedAt_skip (k := 12) (by simp [b16, b32, length_leBytes]) 0 4
  all_goals rw [ht]
  · exact (congrArg (fieldAt · 2 2) (List.append_nil head).symm).trans (h2 [])
  · exact (congrArg (fieldAt · 4 4) (List.append_nil head).symm).trans (h4 [])
  · exact (congrArg (fieldAt · 8 4) (List.append_nil head).symm).trans (h8 [])
  · rfl

theorem roomFor_new {logo : Bool} {id : Nat} (h : findObj s.nvm logo id = none) : roomFor s logo id = freePages s.nvm := by
  simp [roomFor, h]

/-- OBJECT_STORE of a new object in one fragment, on sound NVM with the room for it. -/
theorem hObjectStore_new {logo : Bool} {id : Nat} {b : List Byte} (ha : admitted 0x0A05 r s = true) (hb : NvmSound s)
    (hp : r.payload = [if logo then 2 else 1, 0] ++ b16 id ++ b32 b.length ++ b32 (crc32c b).toNat ++ zeros 4 ++ b)
    (h1 : 1 ≤ id) (h2 : id ≤ 65534) (hlen : b.length < 2 ^ 32) (href : objectRefusal s logo b.length (crc32c b).toNat b = none)
    (hf : findObj s.nvm logo id = none) (hroom : objPages b.length ≤ freePages s.nvm) (hdir : (directory s.nvm).length < 256) :
    ∃ t, hObjectStore r (accepted r s) = (Reply.ok (b16 id ++ b16 (objPages b.length)), t) ∧
      ∃ o ∈ directory t.nvm, o.logo = logo ∧ o.id = id ∧ o.bytes = b ∧ o.crc = crc32c b ∧ o.signed = !objUnsigned b := by
  obtain ⟨hl, hty, hr1, hid, hsz, hr12, hid', hsz', hcrc', hty', hd⟩ := objectFields hp (by omega) hlen (crc32c b).isLt
  have hn : (accepted r s).nvm = s.nvm := by simp
  have hmore : r.more = false := more_of_admitted ha
  have hlogo : (byteAt (r.payload.take 16) 0 == 2) = logo := by rw [hty']; cases logo <;> rfl
  have hlogo' : (byteAt r.payload 0 == 2) = logo := by rw [hty]; cases logo <;> rfl
  have h0 : fieldAt r.payload 0 1 = if logo then 2 else 1 := by rw [hp]; cases logo <;> rfl
  have hroom' : ¬ freePages s.nvm < objPages b.length := by omega
  have he : (explicit (accepted r s) .crc32c b).nvm = s.nvm := by simp
  have href' : objectRefusal (explicit (accepted r s) .crc32c b) logo b.length (crc32c b).toNat b = none := by
    rw [← href]
    simp [objectRefusal]
  obtain ⟨t, ht, ho⟩ := putObject_sound (s := explicit (accepted r s) .crc32c b) (logo := logo) (id := id) (crc := (crc32c b).toNat) (b := b)
    (by rw [NvmSound, he]; exact hb) (by rw [he]; exact hf)
  refine ⟨t, ?_, by simpa using ho⟩
  have hend : endObject r (accepted r s) (r.payload.take 16) b = (Reply.ok (b16 id ++ b16 (objPages b.length)), t) := by
    simp only [endObject, endMsg_of_continued (admitted_continued ha), hlogo, hid', hsz', hcrc', href']
    rw [roomFor_new (by rw [he]; exact hf), he, if_neg hroom', ht]
  simp only [hObjectStore, streamMsg_admitted ha, firstObject]
  rw [judge_ok (by simpa using hl) ?_]
  · rw [hlogo', hid, hsz, hd, hn, hmore, roomFor_new (by rw [hn]; exact hf), hn, hend]
    simp [hroom', hdir, Nat.not_le.mpr hdir]
  · have hnum : fieldAt r.payload 0 1 = 1 ∨ fieldAt r.payload 0 1 = 2 := by rw [h0]; cases logo <;> simp
    simp [firstFail, hnum, hr1, hid, h1, h2, hr12]

/-- The fields of a PATCH_STORE that brings its patch in one fragment. -/
theorem patchFields {p b : List Byte} {crc : Nat} (hp : p = b32 b.length ++ b32 crc ++ zeros 8 ++ b) (hlen : b.length < 2 ^ 32)
    (hcrc : crc < 2 ^ 32) : 16 ≤ p.length ∧ fieldAt p 0 4 = b.length ∧ (reservedAt p 8 8).2 = true ∧
      fieldAt (p.take 16) 0 4 = b.length ∧ fieldAt (p.take 16) 4 4 = crc ∧ p.drop 16 = b := by
  let head := b32 b.length ++ b32 crc ++ zeros 8
  have hhead : head = b32 b.length ++ b32 crc ++ zeros 8 := rfl
  have h0 (q : List Byte) : fieldAt (b32 b.length ++ b32 crc ++ zeros 8 ++ q) 0 4 = b.length := by
    simp only [List.append_assoc]
    exact fieldAt_le _ hlen
  have h4 (q : List Byte) : fieldAt (b32 b.length ++ b32 crc ++ zeros 8 ++ q) 4 4 = crc := by
    simp only [List.append_assoc]
    exact (fieldAt_skip (p := b32 b.length) (length_leBytes 4 _) 0 4).trans (fieldAt_le _ hcrc)
  have hl : head.length = 16 := by simp [hhead, b32, length_leBytes, zeros]
  have ht : p.take 16 = head := by rw [hp, List.take_left' hl]
  have hle : 16 ≤ p.length := by
    rw [hp, ← hhead, List.length_append, hl]
    exact Nat.le_add_right 16 _
  subst hp
  refine ⟨hle, h0 b, ?_, ?_, ?_, List.drop_left' hl⟩
  · rw [List.append_assoc]
    exact reservedAt_skip (k := 8) (by simp [b32, length_leBytes]) 0 8
  all_goals rw [ht]
  · exact (congrArg (fieldAt · 0 4) (List.append_nil head).symm).trans (h0 [])
  · exact (congrArg (fieldAt · 4 4) (List.append_nil head).symm).trans (h4 [])

/-- PATCH_STORE of one fragment goes to the end of the patch. -/
theorem hPatchStore_whole {b : List Byte} (ha : admitted 0x0A09 r s = true)
    (hp : r.payload = b32 b.length ++ b32 (crc32c b).toNat ++ zeros 8 ++ b) (h1 : 1 ≤ b.length) (h2 : b.length ≤ 131072) :
    hPatchStore r (accepted r s) = endPatch r (accepted r s) (r.payload.take 16) b := by
  obtain ⟨hl, hsz, hr8, -, -, hd⟩ := patchFields hp (by omega) (crc32c b).isLt
  simp only [hPatchStore, streamMsg_admitted ha, firstPatch]
  rw [judge_ok (by simpa using hl) (by simp [firstFail, hsz, h1, h2, hr8]), more_of_admitted ha, if_neg Bool.false_ne_true, hd]

/-- The end of a patch on sound NVM: one that verifies waits in the inactive area, another leaves NVM as it is. -/
theorem endPatch_sound {b head : List Byte} (hb : NvmSound s) (hc : continued s r 0x0A09 = none)
    (h0 : fieldAt head 0 4 = b.length) (h4 : fieldAt head 4 4 = (crc32c b).toNat) :
    ∃ t, endPatch r s head b = (if patchOk s.otp b then Reply.ok [Config.patchLevel b, 0, 0, 0] else Reply.no stBadCheck, t) ∧
      t.nvm.patchActive = s.nvm.patchActive ∧ t.nvm.patchLevel = s.nvm.patchLevel ∧
      (patchOk s.otp b = true → t.nvm.patchA = (if s.nvm.patchActive = 1 then s.nvm.patchA else some b) ∧
        t.nvm.patchB = (if s.nvm.patchActive = 1 then some b else s.nvm.patchB) ∧ t.nvm.patchDue = true) ∧
      (patchOk s.otp b = false → t.nvm = s.nvm) := by
  have hn : (explicit s .crc32c b).nvm = s.nvm := by simp
  have ho : (explicit s .crc32c b).otp = s.otp := by simp
  obtain ⟨u, hu, w, rfl⟩ := writePages_sound (s := noteWrite (explicit s .crc32c b) (objectStream b) b)
    (ps := (List.range (objPages b.length)).map (· + patchBase s.nvm)) (by simpa using hb)
  simp only [endPatch, endMsg_of_continued hc, h0, h4, ho, hn, ne_eq, not_true_eq_false, if_false, false_or]
  cases hok : patchOk s.otp b
  · exact ⟨_, rfl, by rw [hn], by rw [hn], fun h => (Bool.false_ne_true h).elim, fun _ => hn⟩
  · rw [hu]
    refine ⟨_, rfl, ?_⟩
    by_cases h : s.nvm.patchActive = 1 <;> simp [h]

/-- Settles O46: what storage holds by its handlers, and what it is given on sound NVM. -/
theorem storageCommands : Obligations.StorageCommands := by
  unfold Obligations.StorageCommands
  refine ⟨fun r s => ?_, fun r s hb => ?_⟩
  · have hn : (accepted r s).nvm = s.nvm := by simp
    have ho : (accepted r s).otp = s.otp := by simp
    refine ⟨fun ha hp => ?_, fun k ha hp hk => ⟨fun hg => ?_, fun p slot hg hs => ?_⟩, fun first ha hp hf => ⟨_, rfl, ?_⟩,
      fun a base n cs ha hp h10 harea hcs => ?_⟩ <;> refine congrArg Host.Outcome.next (serve_reply ha ?_)
    · rw [hStoreInfo, judge_ok (exactly_length (by rw [hp]; rfl)) rfl]
      simp only [hn]
    · have h0 : fieldAt r.payload 0 1 = k.toNat := by rw [hp]; exact fieldAt_one _ _
      rw [hProfileInfo, judge_ok (exactly_length (by rw [hp]; rfl)) (by simp [firstFail, h0, hk]; simp [hp]; rfl)]
      simp only [hn, h0, hg]
    · have h0 : fieldAt r.payload 0 1 = k.toNat := by rw [hp]; exact fieldAt_one _ _
      rw [hProfileInfo, judge_ok (exactly_length (by rw [hp]; rfl)) (by simp [firstFail, h0, hk]; simp [hp]; rfl)]
      simp only [hn, h0, hg, hs]
    · have h0 : fieldAt r.payload 0 2 = first := by rw [hp]; exact fieldAt_le _ hf
      have hr : (reservedAt r.payload 2 2).2 = true := by
        rw [hp]
        exact reservedAt_skip (k := 2) (length_leBytes 2 first) 0 2
      have hcs : countsSigned (accepted r s) = countsSigned s := by
        funext o
        simp [countsSigned]
      rw [hObjectList, judge_ok (exactly_length (by rw [hp]; simp [b16, length_leBytes])) (by simp [firstFail, hr])]
      simp only [hn, h0, hcs]
    · have h0 : fieldAt r.payload 0 1 = a.toNat := by rw [hp]; exact fieldAt_one _ _
      rw [hNvmWear, judge_ok (exactly_length (by rw [hp]; rfl)) (by simp [firstFail, h0, h10]; simp [hp]; rfl)]
      simp only [hn, h0, harea, hcs]
  · have hn : (accepted r s).nvm = s.nvm := by simp
    have ho : (accepted r s).otp = s.otp := by simp
    have hb' : NvmSound (accepted r s) := by simpa [NvmSound] using hb
    refine ⟨fun k p key ha hp hk hl hf hu hkey => ?_, fun k ha hp hk => ?_, fun logo id b ha hp h1 h2 hlen hok =>
        (fun href hf hroom hdir => ?_) ∘ objectRefusal_none hok,
      fun logo id o ha hp hid hr hf => ?_, fun b ha hp h1 h2 hk => ?_⟩
    · have h0 : fieldAt r.payload 0 1 = k.toNat := by rw [hp]; exact fieldAt_one _ _
      have hd : r.payload.drop 4 = p := by rw [hp]; rfl
      have hr1 : reservedAt r.payload 1 3 = (1, true) := by rw [hp]; rfl
      obtain ⟨t, ht, h1, h2, h3, h4⟩ := putProfile_sound (slot := k.toNat) (p := p) (key := some key) hb'
      refine ⟨t, congrArg Host.Outcome.next (serve_reply ha ?_), ?_⟩
      · simp only [hProfileStore]
        rw [judge_ok (by rw [hd, hl, hp]; simp) (by rw [h0, hr1, hd]; simp [firstFail, hk] at hf ⊢; exact hf)]
        simp only [hd, hu, ho, hkey, h0, Bool.false_and, Bool.false_eq_true, if_false, ht]
      · rw [h1, h2, h3, h4, hn]
        simp
    · have h0 : fieldAt r.payload 0 1 = k.toNat := by rw [hp]; exact fieldAt_one _ _
      obtain ⟨u, hu, hw⟩ := writePages_sound (ps := [0x480 + 64 * k.toNat]) hb'
      refine ⟨{ u with nvm := { u.nvm with profiles := u.nvm.profiles.set k.toNat none } },
        congrArg Host.Outcome.next (serve_reply ha ?_), ?_⟩
      · simp only [hProfileErase]
        rw [judge_ok (exactly_length (by rw [hp]; rfl)) (by simp [firstFail, h0, hk]; simp [hp]; rfl)]
        simp only [h0, hu]
      · obtain ⟨w, rfl⟩ := hw
        simp
    · obtain ⟨t, ht, hobj⟩ := hObjectStore_new ha hb hp h1 h2 hlen href hf hroom hdir
      exact ⟨t, congrArg Host.Outcome.next (serve_reply ha ht), hobj⟩
    · have h0 : fieldAt r.payload 0 1 = if logo then 2 else 1 := by rw [hp]; cases logo <;> rfl
      have hlogo : (byteAt r.payload 0 == 2) = logo := by rw [hp]; cases logo <;> rfl
      have h2 : fieldAt r.payload 2 2 = id := by
        rw [hp, ← List.append_nil (b16 id)]
        exact (fieldAt_skip (p := [if logo then 2 else 1, 0]) rfl 0 2).trans (fieldAt_le [] hid)
      have hr' : rendering (accepted r s) = false := by rw [← hr]; simp [rendering, anyJob]
      obtain ⟨u, hu, hw⟩ := writePages_sound
        (ps := dirPagesFrom s.nvm ((directory s.nvm).findIdx (· == o))) hb'
      refine ⟨{ u with nvm := { u.nvm with store := u.nvm.store.filter (· != o) } }, congrArg Host.Outcome.next (serve_reply ha ?_), ?_⟩
      · simp only [hObjectErase]
        rw [judge_ok (exactly_length (by rw [hp]; simp [b16, length_leBytes])) (by cases logo <;> simp [firstFail, h0] <;> simp [hp] <;> rfl)]
        simp only [h2, hlogo, hr', hn, hf, hu, Bool.false_eq_true, if_false]
      · obtain ⟨w, rfl⟩ := hw
        simp
    · obtain ⟨-, -, -, h0, h4, -⟩ := patchFields hp (by omega) (crc32c b).isLt
      obtain ⟨t, ht, hpatch⟩ := endPatch_sound hb' (admitted_continued ha) h0 h4
      rw [ho] at ht hpatch
      rw [hn] at hpatch
      exact ⟨t, congrArg Host.Outcome.next (serve_reply ha ((hPatchStore_whole ha hp h1 h2).trans ht)), hpatch⟩

end Sys2Proof.Machine
end

section
/-! SUPPORT and PROOF of O48. Instructions of the TAP and what opens and closes a level (R163, R179 to R182). -/

namespace Sys2Proof.Machine

variable {s : State} {r : Req}

/-! ### Instructions of the TAP -/

theorem loadLevel_taken {ir : TapIr} {acc : State → Bool} (ht : tapOn s = true) (hl : applyLocks s = s)
    (ha : acc (wakeDoze s) = true) (u : Bool) (hu : (s.dbg.used || ir == .svc || ir == .coreDbg) = u) :
    loadLevel s ir acc = { wakeDoze s with dbg := { s.dbg with ir := ir, used := u } } := by
  subst hu
  have hd : (wakeDoze s).dbg = s.dbg := by simp
  simp only [loadLevel, ht, hl, ha, setDbg, hd]
  rfl

theorem loadLevel_refused {ir : TapIr} {acc : State → Bool} (ht : tapOn s = true) (hl : applyLocks s = s)
    (ha : acc (wakeDoze s) = false) : loadLevel s ir acc = { wakeDoze s with dbg := { s.dbg with ir := .bypass, status := 6 } } := by
  have hd : (wakeDoze s).dbg = s.dbg := by simp
  simp only [loadLevel, ht, hl, ha, setDbg, hd]
  rfl

/-- What opens a level, and the rails of the head, are as they were when the part leaves DOZE. -/
theorem wakeDoze_levels : scanOpen (wakeDoze s) = scanOpen s ∧ coreOpen (wakeDoze s) = coreOpen s ∧
    serviceOpen (wakeDoze s) = serviceOpen s ∧ (wakeDoze s).seq = s.seq := by
  simp [scanOpen, coreOpen, serviceOpen]

theorem wakeDoze_tapOn : tapOn (wakeDoze s) = tapOn s := by
  by_cases h : s.pwr.st = .doze
  · simp [tapOn, wakeDoze, h, enterPstate]
  · simp [tapOn, wakeDoze, h]

/-- The debug link carries frames while SVC is selected, the TAP is there and its level is open. -/
theorem linkUp_debug {d : Dbg} (ht : tapOn s = true) (hl : d.level = s.dbg.level) :
    linkUp { wakeDoze s with dbg := d } .debug = (decide (d.ir = .svc) && serviceOpen s) := by
  have h1 : tapOn { wakeDoze s with dbg := d } = tapOn s := wakeDoze_tapOn
  have h2 : serviceOpen { wakeDoze s with dbg := d } = serviceOpen s := by simp [serviceOpen, hl]
  rw [linkUp, h1, h2, ht, Bool.true_and]

/-! ### AUTH -/

theorem requestLevel_nonce {l : DbgLevel} (ha : authOn s = true) (hb : s.dbg.backoff = false) :
    ∃ (n : BitVec 128) (t : State), requestLevel s l .a true = t ∧
      t.dbg = { s.dbg with status := 1, nonce := n, asked := l, answer := none } ∧ { t with dbg := s.dbg, clk := s.clk } = s :=
  ⟨(drawNonce s).1, _, rfl, by simp [requestLevel, ha, hb, setDbg], by simp [requestLevel, ha, hb, setDbg, drawNonce]⟩

theorem openLevel_parts (l : DbgLevel) : (openLevel s l).dbg =
    { s.dbg with level := l, status := 3, fails := 0, backoff := false, asked := .none, answer := none } ∧
    { openLevel s l with dbg := s.dbg, log := s.log } = s := by
  simp only [openLevel]
  rw [logEvent_eq]
  exact ⟨rfl, rfl⟩

theorem unlockFailed_parts (l : DbgLevel) : (unlockFailed s l).dbg = { s.dbg with fails := s.dbg.fails + 1, backoff := true } ∧
    { unlockFailed s l with dbg := s.dbg, log := s.log } = s := by
  simp only [unlockFailed]
  rw [logEvent_eq]
  exact ⟨rfl, rfl⟩

/-- Settles O48: instructions by `loadLevel`, requests by their cell, and what ends a verification. -/
theorem tapAndUnlocks : Obligations.TapAndUnlocks := by
  unfold Obligations.TapAndUnlocks
  refine ⟨fun s ht => ⟨?_, ?_, fun code hc => ?_⟩, fun s ht hl => ?_, fun s => ⟨fun ha hb => ⟨fun key hc hk => ?_, fun key hc hk => ?_,
    fun hc => ?_, fun hc => ?_⟩, fun ha hb => ⟨?_, ?_⟩, fun mac hm ha hst hasked => ?_, fun a ha he => ?_, fun a ha he => ?_, rfl,
    fun ha => ?_, fun hu => ?_⟩⟩
  · simp [exec, execIdcode, loadFree, ht, setDbg]
  · simp [exec, execAuth, loadFree, ht, setDbg]
  · simp only [exec, execBypass, hc, loadFree, ht, setDbg]
    rfl
  · obtain ⟨hscan, hcore, hserv, hseq⟩ := wakeDoze_levels (s := s)
    refine ⟨fun h => ?_, fun h hf => ⟨?_, ?_⟩, fun h => ?_, fun h => ?_, fun h => ?_, fun h => ⟨?_, fun f hf => ?_⟩, fun h f => ?_⟩
    · exact congrArg Host.Outcome.next (loadLevel_taken ht hl (by rw [hscan]; exact h) s.dbg.used (by cases s.dbg.used <;> rfl))
    · exact congrArg Host.Outcome.next (loadLevel_taken ht hl (by rw [hscan, hseq, h, hf]; rfl) s.dbg.used (by cases s.dbg.used <;> rfl))
    · exact congrArg Host.Outcome.next (loadLevel_taken ht hl (by rw [hscan, hseq, h, hf]; rfl) s.dbg.used (by cases s.dbg.used <;> rfl))
    · have hno : (fun s => scanOpen s && fireRailsReleased s.seq) (wakeDoze s) = false := by
        simp only [hscan, hseq]
        rcases h with h | h <;> simp [h]
      exact ⟨congrArg Host.Outcome.next (loadLevel_refused ht hl hno), congrArg Host.Outcome.next (loadLevel_refused ht hl hno)⟩
    · exact congrArg Host.Outcome.next (loadLevel_taken ht hl (by rw [hcore]; exact h) true (by cases s.dbg.used <;> rfl))
    · exact congrArg Host.Outcome.next (loadLevel_refused ht hl (by rw [hcore]; exact h))
    · exact congrArg Host.Outcome.next ((if_neg (by simp)).trans
        (loadLevel_taken ht hl (by rw [hserv]; exact h) true (by cases s.dbg.used <;> rfl)))
    · have hld := loadLevel_taken (ir := .svc) (acc := serviceOpen) ht hl (by rw [hserv]; exact h) true (by cases s.dbg.used <;> rfl)
      have hup : linkUp (loadLevel s .svc serviceOpen) .debug = true := by
        rw [hld, linkUp_debug (d := { s.dbg with ir := .svc, used := true }) ht rfl, h]
        rfl
      exact congrArg Host.Outcome.next ((if_pos ⟨hf, hup⟩).trans (congrArg (takeFrame runOpcode .debug f) hld))
    · have hld := loadLevel_refused (ir := .svc) (acc := serviceOpen) ht hl (by rw [hserv]; exact h)
      have hdown : linkUp (loadLevel s .svc serviceOpen) .debug = false := by
        rw [hld, linkUp_debug (d := { s.dbg with ir := .bypass, status := 6 }) ht rfl, h, Bool.and_false]
      exact congrArg Host.Outcome.next ((if_neg (by simp [hdown])).trans hld)
  · simp only [exec, execReqService, hc, hk]
    obtain ⟨n, t, ht, hdbg, hrest⟩ := requestLevel_nonce (l := .service) ha hb
    exact ⟨n, t, congrArg Host.Outcome.next ht, hdbg, hrest⟩
  · simp only [exec, execReqCore, hc, hk]
    obtain ⟨n, t, ht, hdbg, hrest⟩ := requestLevel_nonce (l := .core) ha hb
    exact ⟨n, t, congrArg Host.Outcome.next ht, hdbg, hrest⟩
  · simp [exec, execReqService, requestLevel, ha, hb, hc, setDbg]
  · simp [exec, execReqService, requestLevel, ha, hb, hc, setDbg]
  · simp [exec, execReqService, requestLevel, ha, hb, setDbg]
  · simp [exec, execReqCore, requestLevel, ha, hb, setDbg]
  · have hpad : padTo 16 mac = mac := by simp [padTo, hm, zeros, List.take_of_length_le]
    simp [exec, execRespond, ha, hst, hasked, setDbg, hpad]
  · obtain ⟨hdbg, hrest⟩ := openLevel_parts (s := s) s.dbg.asked
    refine ⟨openLevel s s.dbg.asked, ?_, by rw [hdbg], by rw [hdbg], by rw [hdbg], by rw [hdbg], hrest⟩
    simp [exec, execAuthVerifyDone, ha, he]
  · obtain ⟨hdbg, hrest⟩ := unlockFailed_parts
      (s := setDbg s (fun d => { d with status := 4, asked := .none, answer := none, nonce := 0 })) s.dbg.asked
    refine ⟨unlockFailed (setDbg s (fun d => { d with status := 4, asked := .none, answer := none, nonce := 0 })) s.dbg.asked, ?_,
      by rw [hdbg]; rfl, by rw [hdbg]; rfl, by rw [hdbg]; rfl, by rw [hdbg], ?_⟩
    · simp [exec, execAuthVerifyDone, ha, he]
    · exact congrArg (fun t : State => { t with dbg := s.dbg }) hrest
  · simp [exec, execClose, ha, closeDebug]
  · rcases hu with h | h <;> simp [exec, execDbgIdleClose, h, closeDebug]

end Sys2Proof.Machine
end

section
/-! SUPPORT and PROOF of O49. What leaving DOZE brings, set aside, and what the debug port leaves alone (R179 to R182). -/

namespace Sys2Proof.Machine

variable {s t : State} {r : Req}

/-! ### What leaving DOZE brings, set aside -/

/-- The state but for what leaving DOZE brings, what the log stages, and the free values. -/
def undisturbed (s : State) : State := { s with
  clk := { s.clk with free := 0 }, rst := { s.rst with wdtRun := false }, pwr := { s.pwr with st := .run, dozeDue := false }
  log := stagedOnly s.log State.reset.log, motion := { s.motion with en := 0 } }

theorem stagedOnly_logAt (code : Nat) (data : List Byte) (ctx : Byte) (job : Nat) (at' : Time) (b : Log) :
    stagedOnly (logAt s code data ctx job at').log b = stagedOnly s.log b := by
  simp only [logAt, countLost]
  (repeat' split) <;> rfl

theorem undisturbed_logEvent (code : Nat) (data : List Byte) : undisturbed (logEvent s code data) = undisturbed s := by
  rw [logEvent_eq, undisturbed]
  simp only [logEvent, logFor, stagedOnly_logAt]
  rfl

theorem undisturbed_enterPstate (st : PState) : undisturbed (enterPstate s st) = undisturbed s := by
  simp only [enterPstate]
  split
  · rfl
  · rw [undisturbed_logEvent]
    rfl

theorem undisturbed_wakeDoze : undisturbed (wakeDoze s) = undisturbed s := by
  simp only [wakeDoze]
  split
  · rw [undisturbed_enterPstate]
    rfl
  · rfl

/-! ### The debug port -/

/-- The state but for the debug port's own, and what its commands may bring along. -/
def debugErased (s : State) : State := { undisturbed s with dbg := State.reset.dbg }

/-- Where the rest of two states is one, they differ in what was set aside alone. -/
theorem eq_of_debugErased (h : debugErased t = debugErased s) : t = { s with
    dbg := t.dbg, clk := { s.clk with free := t.clk.free }, rst := { s.rst with wdtRun := t.rst.wdtRun }
    pwr := { s.pwr with st := t.pwr.st, dozeDue := t.pwr.dozeDue }, log := stagedOnly s.log t.log
    motion := { s.motion with en := t.motion.en } } := by
  have ht : t = { debugErased t with
      dbg := t.dbg, clk := { (debugErased t).clk with free := t.clk.free }
      rst := { (debugErased t).rst with wdtRun := t.rst.wdtRun }
      pwr := { (debugErased t).pwr with st := t.pwr.st, dozeDue := t.pwr.dozeDue }
      log := stagedOnly (debugErased t).log t.log, motion := { (debugErased t).motion with en := t.motion.en } } := rfl
  rw [h] at ht
  exact ht

theorem setDbg_debugErased (f : Dbg → Dbg) : debugErased (setDbg s f) = debugErased s := rfl

theorem logEvent_debugErased (code : Nat) (data : List Byte) : debugErased (logEvent s code data) = debugErased s := by
  rw [debugErased, undisturbed_logEvent, debugErased]

theorem loadLevel_debugErased {ir : TapIr} {acc : State → Bool} : debugErased (loadLevel s ir acc) = debugErased s := by
  have hw : debugErased (wakeDoze (applyLocks s)) = debugErased s := by
    rw [debugErased, undisturbed_wakeDoze, applyLocks]
    split <;> rfl
  simp only [loadLevel]
  split
  · rfl
  · split <;> exact hw

/-- What each AUTH command and each instruction that needs no level leaves as it is. -/
def QuietDebug (s t : State) : Prop := debugErased t = debugErased s ∧ t.pwr = s.pwr ∧ t.rst = s.rst ∧ t.motion = s.motion

theorem QuietDebug.refl : QuietDebug s s := ⟨rfl, rfl, rfl, rfl⟩
theorem setDbg_quiet (f : Dbg → Dbg) : QuietDebug s (setDbg s f) := ⟨rfl, rfl, rfl, rfl⟩

theorem loadFree_quiet (ir : TapIr) : QuietDebug s (loadFree s ir) := by
  rw [loadFree]
  split
  · exact setDbg_quiet _
  · exact .refl

theorem requestLevel_quiet (l : DbgLevel) (cell : Cell) (key : Bool) : QuietDebug s (requestLevel s l cell key) := by
  simp only [requestLevel]
  split
  · exact .refl
  · split
    · exact setDbg_quiet _
    · split
      · exact setDbg_quiet _
      · exact setDbg_quiet _
      · split
        · exact setDbg_quiet _
        · exact ⟨rfl, rfl, rfl, rfl⟩

theorem openLevel_quiet (l : DbgLevel) : QuietDebug s (openLevel s l) := by
  rw [openLevel]
  exact ⟨logEvent_debugErased _ _, by simp, by simp, by simp⟩

theorem unlockFailed_quiet (l : DbgLevel) (f : Dbg → Dbg) : QuietDebug s (unlockFailed (setDbg s f) l) := by
  simp only [unlockFailed, setDbg]
  exact ⟨logEvent_debugErased _ _, by simp, by simp, by simp⟩

theorem authVerifyDone_quiet (h : exec .authVerifyDone s = .next t) : QuietDebug s t := by
  simp only [exec, execAuthVerifyDone] at h
  split at h
  · cases h
    exact .refl
  · split at h <;> cases h
    · exact openLevel_quiet _
    · exact unlockFailed_quiet _ _

/-- The commands that need no level. -/
theorem quietDebug_of_exec {c : Instr} (hc : c ∈ [Instr.idcode, .auth, .reqService, .reqCore, .close, .authVerifyDone,
      .authBackoffExpiry, .dbgIdleClose] ∨ (∃ code, c = .bypass code) ∨ (∃ mac, c = .respond mac))
    (he : exec c s = .next t) : QuietDebug s t := by
  simp only [List.mem_cons, List.not_mem_nil, or_false] at hc
  rcases hc with (rfl | rfl | rfl | rfl | rfl | rfl | rfl | rfl) | ⟨code, rfl⟩ | ⟨mac, rfl⟩
  case inl.inr.inr.inr.inr.inr.inl => exact authVerifyDone_quiet he
  all_goals cases he
  · exact loadFree_quiet _
  · exact loadFree_quiet _
  · exact requestLevel_quiet _ _ _
  · exact requestLevel_quiet _ _ _
  · split
    · exact ⟨rfl, rfl, rfl, rfl⟩
    · exact .refl
  · exact setDbg_quiet _
  · split
    · exact .refl
    · exact ⟨rfl, rfl, rfl, rfl⟩
  · split
    · exact .refl
    · exact loadFree_quiet _
  · split
    · exact setDbg_quiet _
    · exact .refl

/-- A command that is none of the four with a level is one of the eight that need none. -/
theorem restOfDebug {c : Instr} (hl : c ∉ [Instr.extest, .samplePreload, .highz, .coreDbg])
    (hc : c ∈ [Instr.extest, .samplePreload, .idcode, .highz, .auth, .coreDbg, .reqService, .reqCore, .close, .authVerifyDone,
      .authBackoffExpiry, .dbgIdleClose]) :
    c ∈ [Instr.idcode, .auth, .reqService, .reqCore, .close, .authVerifyDone, .authBackoffExpiry, .dbgIdleClose] := by
  simp only [List.mem_cons, List.not_mem_nil, or_false, not_or] at hc hl ⊢
  obtain ⟨h1, h2, h3, h4⟩ := hl
  simpa only [h1, h2, h3, h4, false_or] using hc

/-- Settles O49: a command that needs a level changes what `loadLevel` does, and every other is quiet. -/
theorem debugPortKeepsToItself : Obligations.DebugPortKeepsToItself := by
  unfold Obligations.DebugPortKeepsToItself
  intro s t c hc he
  by_cases hl : c ∈ [Instr.extest, .samplePreload, .highz, .coreDbg]
  · have ht : debugErased t = debugErased s := by
      simp only [List.mem_cons, List.not_mem_nil, or_false] at hl
      rcases hl with rfl | rfl | rfl | rfl <;> cases he <;> exact loadLevel_debugErased
    refine ⟨eq_of_debugErased ht, (congrArg (fun u : State => u.rst.main) ht :), fun h1 h2 h3 h4 => ?_⟩
    simp [h1, h2, h3, h4] at hl
  · obtain ⟨ht, hp, hr, hm⟩ := quietDebug_of_exec (c := c) (hc.imp_left (restOfDebug hl)) he
    exact ⟨eq_of_debugErased ht, by rw [hr], fun _ _ _ _ => ⟨hp, hr, hm⟩⟩

end Sys2Proof.Machine
end

section
/-! SUPPORT and PROOF of O31. The reading commands, by the state but for the boxes and what is their own (R113, R285 to
R324). -/

namespace Sys2Proof.Machine

variable {s t : State} {r : Req}

/-! ### Commands that only read -/

/-- The state but for the boxes as well. -/
def readErased (s : State) : State := { undisturbed s with ctxs := [], net := { s.net with conns := [] } }

/-- What some of the reading commands change of their own, set aside for those. -/
def ownErased (r : Req) (c : Instr) (s : State) : State := { s with
  rst := { s.rst with
    resetPend := if c = .sysReset r then none else s.rst.resetPend
    abHubCfg := if c = .hubStatus r then none else s.rst.abHubCfg
    raOtp := if c = .otpRead r then none else s.rst.raOtp }
  pwr := { s.pwr with entry := if c = .pwrStateSet r then none else s.pwr.entry }
  log := { s.log with lowest := if c = .logClear r then 0 else s.log.lowest }
  motion := if c = .pwrStateSet r then State.reset.motion else s.motion
  cvu := if c ∈ [Instr.hubRecords r, .logRead r, .faultRead r, .snapshotRead r] then State.reset.cvu else s.cvu
  otp := if c = .otpRead r then { s.otp with corrected := 0, corrLogged := [] } else s.otp }

/-- A state with what was set aside taken from another. -/
def refilled (r : Req) (c : Instr) (t s : State) : State := { s with
  ctxs := t.ctxs, net := { s.net with conns := t.net.conns }, clk := { s.clk with free := t.clk.free }
  rst := { s.rst with
    wdtRun := t.rst.wdtRun
    resetPend := if c = .sysReset r then t.rst.resetPend else s.rst.resetPend
    abHubCfg := if c = .hubStatus r then t.rst.abHubCfg else s.rst.abHubCfg
    raOtp := if c = .otpRead r then t.rst.raOtp else s.rst.raOtp }
  pwr := { s.pwr with
    st := t.pwr.st, dozeDue := t.pwr.dozeDue, entry := if c = .pwrStateSet r then t.pwr.entry else s.pwr.entry }
  log := { stagedOnly s.log t.log with lowest := if c = .logClear r then t.log.lowest else s.log.lowest }
  motion := if c = .pwrStateSet r then t.motion else { s.motion with en := t.motion.en }
  cvu := if c ∈ [Instr.hubRecords r, .logRead r, .faultRead r, .snapshotRead r] then t.cvu else s.cvu
  otp := if c = .otpRead r then { s.otp with corrected := t.otp.corrected, corrLogged := t.otp.corrLogged } else s.otp }

theorem refilled_erased (r : Req) (c : Instr) (t s : State) : refilled r c t (ownErased r c (readErased s)) = refilled r c t s := by
  simp only [refilled, ownErased]
  congr 1
  · congr 1 <;> split <;> rfl
  · congr 1
    split <;> rfl
  · congr 1
    split <;> rfl
  · split <;> rfl
  · split <;> rfl
  · split <;> rfl

theorem refilled_self (r : Req) (c : Instr) (t : State) : refilled r c t t = t := by
  simp only [refilled, ite_self]
  rfl

/-- Where the rest of two states is one, they differ in what was set aside alone. -/
theorem eq_of_readErased {c : Instr} (h : ownErased r c (readErased t) = ownErased r c (readErased s)) : t = refilled r c t s :=
  calc t = refilled r c t (ownErased r c (readErased t)) := by rw [refilled_erased, refilled_self]
    _ = refilled r c t s := by rw [h, refilled_erased]

theorem readErased_modBox (b : Box) (f : Ctx → Ctx) : readErased (modBox s b f) = readErased s := by
  cases b <;> rfl

theorem readErased_wakeDoze : readErased (wakeDoze s) = readErased s := by
  have h := undisturbed_wakeDoze (s := s)
  have hn : (wakeDoze s).net = s.net := by simp
  rw [readErased, h, hn, readErased]

theorem readErased_logEvent (code : Nat) (data : List Byte) : readErased (logEvent s code data) = readErased s := by
  have hn : (logEvent s code data).net = s.net := by simp
  rw [readErased, undisturbed_logEvent, hn, readErased]

/-- A command that reads: it changes nothing but the boxes and what leaving DOZE brings. -/
def Reads (h : Handler) : Prop := ∀ r s, readErased (h r s).2 = readErased s

theorem serve_own {c : Instr} {h : Handler} (op : Nat)
    (hh : ∀ r' s, ownErased r c (readErased (h r' s).2) = ownErased r c (readErased s)) :
    ownErased r c (readErased (serve op h r s)) = ownErased r c (readErased s) :=
  Laws.serve_keeps (fun s => ownErased r c (readErased s)) (fun s b f => congrArg (ownErased r c) (readErased_modBox b f))
    (fun s => congrArg (ownErased r c) readErased_wakeDoze) op h hh r s

theorem judge_reads {l : Bool} {cs : List (Nat × Bool)} {go : State → Reply × State} (hg : ∀ s, readErased (go s).2 = readErased s) :
    readErased (judge s l cs go).2 = readErased s := Laws.judge_keeps readErased s l cs go hg

theorem hSysCounters_reads : Reads hSysCounters := fun _ _ => judge_reads fun s => by
  simp only
  split
  · exact readErased_modBox _ _
  · rfl
theorem hParamRead_reads : Reads hParamRead := fun _ _ => judge_reads fun _ => by simp only; split <;> rfl
theorem hParamInfo_reads : Reads hParamInfo := fun _ _ => judge_reads fun _ => by split <;> rfl
theorem hJobStatus_reads : Reads hJobStatus := fun _ _ => judge_reads fun _ => by
  simp only [onJob]
  split
  · rfl
  · split
    · split <;> rfl
    · rfl
theorem hHubSubscribe_reads : Reads hHubSubscribe := fun _ _ => judge_reads fun _ => readErased_modBox _ _
theorem hProfileInfo_reads : Reads hProfileInfo := fun _ _ => judge_reads fun _ => by split <;> rfl

theorem hRightsGet_reads : Reads hRightsGet := fun r s => by
  rw [hRightsGet]
  exact judge_reads fun _ => rfl

theorem eeeActive_reads : readErased (eeeActive s).2 = readErased s := by
  rw [eeeActive]
  split <;> rfl

theorem ip4Route_reads : readErased (ip4Route s).2.2 = readErased s := by
  rw [ip4Route]
  split
  · rfl
  · split
    · rfl
    · split
      · rfl
      · exact (rfl : readErased (drawNonce s).2 = readErased s)

theorem hNetStatus_reads : Reads hNetStatus := fun _ _ => judge_reads fun _ => ip4Route_reads.trans eeeActive_reads

/-! ### Commands that read and change one thing of their own -/

theorem judge_own {c : Instr} {l : Bool} {cs : List (Nat × Bool)} {go : State → Reply × State}
    (hg : ∀ s, ownErased r c (readErased (go s).2) = ownErased r c (readErased s)) :
    ownErased r c (readErased (judge s l cs go).2) = ownErased r c (readErased s) :=
  Laws.judge_keeps (fun s => ownErased r c (readErased s)) s l cs go hg

theorem setReset_own (p : Option Bool) : ownErased r (.sysReset r) (readErased { s with rst := { s.rst with resetPend := p } }) =
    ownErased r (.sysReset r) (readErased s) := by
  simp only [ownErased, if_true]
  rfl

theorem clearAbort_own : ownErased r (.hubStatus r) (readErased { s with rst := { s.rst with abHubCfg := none } }) =
    ownErased r (.hubStatus r) (readErased s) := by
  simp only [ownErased, if_true]
  rfl

theorem setLowest_own (w : Word) : ownErased r (.logClear r) (readErased { s with log := { s.log with lowest := w } }) =
    ownErased r (.logClear r) (readErased s) := by
  simp only [ownErased, if_true]
  rfl

theorem setEntry_own (e : Option Entry) : ownErased r (.pwrStateSet r) (readErased { s with pwr := { s.pwr with entry := e } }) =
    ownErased r (.pwrStateSet r) (readErased s) := by
  simp only [ownErased, if_true]
  rfl

/-- A stream of the check-value unit is its reader's own. -/
theorem setCvu_own {c : Instr} (hc : c ∈ [Instr.hubRecords r, .logRead r, .faultRead r, .snapshotRead r]) (v : Cvu) :
    ownErased r c (readErased { s with cvu := v }) = ownErased r c (readErased s) := by
  simp only [ownErased, if_pos hc]
  rfl

theorem readAll_own {c : Instr} (hc : c ∈ [Instr.hubRecords r, .logRead r, .faultRead r, .snapshotRead r]) (u : CvuState)
    (bs : List (List Byte)) : ownErased r c (readErased (readAll s u bs)) = ownErased r c (readErased s) := by
  induction bs generalizing s with
  | nil => rfl
  | cons b bs ih => exact ih.trans (setCvu_own hc _)

theorem capForEntry_own : ownErased r (.pwrStateSet r) (readErased (capForEntry s)) = ownErased r (.pwrStateSet r) (readErased s) := by
  rw [capForEntry]
  split
  · rfl
  · simp only [sledTo, ownErased, if_true]
    split <;> rfl

theorem enterDoze_own : ownErased r (.pwrStateSet r) (readErased (enterDoze s)) = ownErased r (.pwrStateSet r) (readErased s) := by
  rw [enterDoze]
  split
  · have h (u : State) : readErased (enterPstate u .doze) = readErased u := by
      have hn : (enterPstate u .doze).net = u.net := by simp
      rw [readErased, undisturbed_enterPstate, hn, readErased]
    rw [h]
    exact capForEntry_own
  · rfl

theorem hPwrStateSet_own (r' : Req) : ownErased r (.pwrStateSet r) (readErased (hPwrStateSet r' s).2) =
    ownErased r (.pwrStateSet r) (readErased s) := by
  simp only [hPwrStateSet]
  refine judge_own fun s => ?_
  split
  · split
    · exact enterDoze_own
    · rfl
  · split
    · rfl
    · exact setEntry_own _

theorem noteRead_own (w : Nat) : ownErased r (.otpRead r) (readErased (noteReads s [w])) =
    ownErased r (.otpRead r) (readErased s) := by
  have h (o : Otp) (ho : { o with corrected := 0, corrLogged := [] } = { s.otp with corrected := 0, corrLogged := [] }) :
      ownErased r (.otpRead r) (readErased { s with otp := o }) = ownErased r (.otpRead r) (readErased s) := by
    simp only [ownErased, if_true]
    congr 1
  simp only [noteReads, List.foldl_cons, List.foldl_nil]
  split
  · rfl
  · split
    · exact h _ rfl
    · rw [readErased_logEvent]
      exact h _ rfl

theorem noteReads_own (ws : List Nat) : ownErased r (.otpRead r) (readErased (noteReads s ws)) =
    ownErased r (.otpRead r) (readErased s) := by
  induction ws generalizing s with
  | nil => rfl
  | cons w ws ih => exact ih.trans (noteRead_own w)

theorem hOtpRead_own (r' : Req) : ownErased r (.otpRead r) (readErased (hOtpRead r' s).2) =
    ownErased r (.otpRead r) (readErased s) := by
  simp only [hOtpRead]
  refine judge_own fun s => ?_
  split
  · rfl
  · refine (noteReads_own _).trans ?_
    simp only [ownErased, if_true]
    rfl

theorem hSnapshotRead_own (r' : Req) : ownErased r (.snapshotRead r) (readErased (hSnapshotRead r' s).2) =
    ownErased r (.snapshotRead r) (readErased s) := by
  simp only [hSnapshotRead]
  refine judge_own fun s => ?_
  split
  · exact setCvu_own (by simp) _
  · rfl

/-- What a reading command leaves of the rest, from the next state that it gives. -/
theorem frame_of_own {c : Instr} (h : ownErased r c (readErased t) = ownErased r c (readErased s)) : t = refilled r c t s ∧
    t.rst.main = s.rst.main ∧ t.rst.cause = s.rst.cause ∧ t.net.up = s.net.up ∧ t.net.ip4 = s.net.ip4 :=
  ⟨eq_of_readErased h, (congrArg (fun u : State => u.rst.main) h :), (congrArg (fun u : State => u.rst.cause) h :),
    (congrArg (fun u : State => u.net.up) h :), (congrArg (fun u : State => u.net.ip4) h :)⟩

theorem frame_of_reads {c : Instr} {op : Nat} {h : Handler} (hh : Reads h) (he : (.next (serve op h r s) : Out) = .next t) :
    t = refilled r c t s ∧
    t.rst.main = s.rst.main ∧ t.rst.cause = s.rst.cause ∧ t.net.up = s.net.up ∧ t.net.ip4 = s.net.ip4 := by
  cases he
  exact frame_of_own (serve_own op fun r' s => congrArg (ownErased r c) (hh r' s))

/-- Settles O31: each command serves a handler that changes nothing but its box, or one thing of its own. -/
theorem readingCommandsChangeNothingElse : Obligations.ReadingCommandsChangeNothingElse := by
  unfold Obligations.ReadingCommandsChangeNothingElse
  intro r s t c hc he
  show t = refilled r c t s ∧ _
  simp only [List.mem_cons, List.not_mem_nil, or_false] at hc
  rcases hc with rfl | rfl | rfl | rfl | rfl | rfl | rfl | rfl | rfl | rfl | rfl | rfl | rfl | rfl | rfl | rfl | rfl | rfl | rfl |
    rfl | rfl | rfl | rfl | rfl | rfl | rfl | rfl | rfl | rfl | rfl | rfl | rfl | rfl | rfl
  · exact frame_of_reads (fun _ _ => judge_reads fun _ => rfl) he
  · cases he
    exact frame_of_own (serve_own _ fun _ _ => judge_own fun _ => setReset_own _)
  · exact frame_of_reads hSysCounters_reads he
  · exact frame_of_reads (fun _ _ => judge_reads fun _ => rfl) he
  · exact frame_of_reads (fun _ _ => judge_reads fun _ => rfl) he
  · exact frame_of_reads hParamRead_reads he
  · exact frame_of_reads hParamInfo_reads he
  · exact frame_of_reads hJobStatus_reads he
  · exact frame_of_reads (fun _ _ => judge_reads fun _ => rfl) he
  · exact frame_of_reads (fun _ _ => judge_reads fun _ => rfl) he
  · cases he
    exact frame_of_own (serve_own _ fun _ _ => judge_own fun _ => setCvu_own (by simp) _)
  · exact frame_of_reads (fun _ _ => judge_reads fun _ => rfl) he
  · exact frame_of_reads hHubSubscribe_reads he
  · cases he
    exact frame_of_own (serve_own _ fun _ _ => judge_own fun _ => clearAbort_own)
  · exact frame_of_reads (fun _ _ => judge_reads fun _ => rfl) he
  · cases he
    exact frame_of_own (serve_own _ fun r' _ => hPwrStateSet_own r')
  · exact frame_of_reads (fun _ _ => judge_reads fun _ => rfl) he
  · exact frame_of_reads (fun _ _ => judge_reads fun _ => rfl) he
  · exact frame_of_reads (fun _ _ => judge_reads fun _ => rfl) he
  · exact frame_of_reads (fun _ _ => judge_reads fun _ => rfl) he
  · exact frame_of_reads (fun _ _ => judge_reads fun _ => rfl) he
  · exact frame_of_reads (fun _ _ => judge_reads fun _ => rfl) he
  · cases he
    exact frame_of_own (serve_own _ fun _ _ => judge_own fun _ => readAll_own (by simp) _ _)
  · cases he
    exact frame_of_own (serve_own _ fun _ _ => judge_own fun _ => readAll_own (by simp) _ _)
  · cases he
    exact frame_of_own (serve_own _ fun r' _ => hSnapshotRead_own r')
  · cases he
    exact frame_of_own (serve_own _ fun _ _ => judge_own fun _ => setLowest_own _)
  · cases he
    exact frame_of_own (serve_own _ fun r' _ => hOtpRead_own r')
  · exact frame_of_reads (fun _ _ => judge_reads fun _ => rfl) he
  · exact frame_of_reads (fun _ _ => judge_reads fun _ => rfl) he
  · exact frame_of_reads hProfileInfo_reads he
  · exact frame_of_reads (fun _ _ => judge_reads fun _ => rfl) he
  · exact frame_of_reads (fun _ _ => judge_reads fun _ => rfl) he
  · exact frame_of_reads hNetStatus_reads he
  · exact frame_of_reads hRightsGet_reads he

end Sys2Proof.Machine
end

section
/-! SUPPORT and PROOF of O32. The setting commands, by what they leave alone. -/

namespace Sys2Proof.Machine

variable {s t : State} {r : Req}

/-! ### Commands that set values, entries or states -/

/-- What the setting commands leave alone. -/
def notTheirs (s : State) : Seq × Saf × Fife × Motion × Otp × Dbg × Cal × Clk × Reed × Uart × List Instr :=
  (s.seq, s.saf, s.fife, { s.motion with en := 0 }, s.otp, s.dbg, s.cal, s.clk, s.reed, s.uart, s.pending)

/-- A command that sets what is its own. -/
def SetsOwn (h : Handler) : Prop := ∀ r s, notTheirs (h r s).2 = notTheirs s

theorem notTheirs_modBox (b : Box) (f : Ctx → Ctx) : notTheirs (modBox s b f) = notTheirs s := by cases b <;> rfl

theorem notTheirs_wakeDoze : notTheirs (wakeDoze s) = notTheirs s := by
  have hm : { (wakeDoze s).motion with en := 0 } = { s.motion with en := 0 } := by rw [wakeDoze_motion]
  simp only [notTheirs, hm, wakeDoze_frame]

theorem judge_setsOwn {l : Bool} {cs : List (Nat × Bool)} {go : State → Reply × State} (hg : ∀ s, notTheirs (go s).2 = notTheirs s) :
    notTheirs (judge s l cs go).2 = notTheirs s := Laws.judge_keeps notTheirs s l cs go hg

theorem onJob_setsOwn {op : Nat} {go : Named → State → Reply × State} (hg : ∀ n, notTheirs (go n s).2 = notTheirs s) :
    notTheirs (onJob r op s go).2 = notTheirs s := by
  simp only [onJob]
  split
  · rfl
  · split
    · exact hg _
    · rfl

theorem setJobState_notTheirs (id d : Nat) : notTheirs (setJobState s id .held d) = notTheirs s := by
  simp [notTheirs]

theorem hParamWrite_setsOwn : SetsOwn hParamWrite := fun r s => by
  simp only [hParamWrite]
  split
  · rfl
  · refine judge_setsOwn fun s => ?_
    split
    · rfl
    · simp [notTheirs]

theorem hParamRevert_setsOwn : SetsOwn hParamRevert := fun r s => judge_setsOwn fun s => by simp [notTheirs]

theorem hHubSlotSet_setsOwn : SetsOwn hHubSlotSet := fun r s => by
  simp only [hHubSlotSet]
  refine judge_setsOwn fun s => ?_
  split
  · rfl
  · split
    · rfl
    · split
      · rfl
      · simp [notTheirs]

theorem hHubDescSet_setsOwn : SetsOwn hHubDescSet := fun r s => by
  simp only [hHubDescSet]
  refine judge_setsOwn fun s => ?_
  split
  · rfl
  · split
    · rfl
    · simp [notTheirs]

theorem hHubStickyClear_setsOwn : SetsOwn hHubStickyClear := fun r s => judge_setsOwn fun s => rfl
theorem hHubRecordsAck_setsOwn : SetsOwn hHubRecordsAck := fun r s => judge_setsOwn fun s => rfl

theorem hJobHold_setsOwn : SetsOwn hJobHold := fun r s => judge_setsOwn fun s => onJob_setsOwn fun n => by
  simp only
  split
  · split
    · refine (setJobState_notTheirs _ _).trans ?_
      split <;> rfl
    · rfl
  · rfl
  · rfl

theorem hJobPriority_setsOwn : SetsOwn hJobPriority := fun r s => judge_setsOwn fun s => onJob_setsOwn fun n =>
  judge_setsOwn fun s => by
    split
    · split <;> rfl
    · rfl
    · rfl

theorem hNozMark_setsOwn : SetsOwn hNozMark := fun r s => by
  simp only [hNozMark]
  refine judge_setsOwn fun s => ?_
  split <;> simp [notTheirs]

theorem writePages_notTheirs (ps : List Nat) : notTheirs (writePages s ps).2 = notTheirs s := by
  simp [notTheirs]

theorem hProfileErase_setsOwn : SetsOwn hProfileErase := fun r s => by
  simp only [hProfileErase]
  refine judge_setsOwn fun s => ?_
  have h := writePages_notTheirs (s := s) [0x480 + 64 * fieldAt r.payload 0 1]
  split <;> next hw => rw [hw] at h; exact h

theorem hObjectErase_setsOwn : SetsOwn hObjectErase := fun r s => by
  simp only [hObjectErase]
  refine judge_setsOwn fun s => ?_
  split
  · rfl
  · split
    · rfl
    · next o _ =>
      have h := writePages_notTheirs (s := s) (dirPagesFrom s.nvm ((directory s.nvm).findIdx (· == o)))
      split <;> next hw => rw [hw] at h; exact h

theorem hSessionClose_setsOwn : SetsOwn hSessionClose := fun r s => judge_setsOwn fun s => rfl
theorem hNetSessionEnd_setsOwn : SetsOwn hNetSessionEnd := fun r s => judge_setsOwn fun s => rfl

theorem frame_of_setsOwn {op : Nat} {h : Handler} (hh : SetsOwn h) (he : (.next (serve op h r s) : Out) = .next t) :
    t.seq = s.seq ∧ t.saf = s.saf ∧ t.fife = s.fife ∧ t.motion = { s.motion with en := t.motion.en } ∧
    t.otp = s.otp ∧ t.dbg = s.dbg ∧ t.cal = s.cal ∧ t.clk = s.clk ∧ t.reed = s.reed ∧ t.uart = s.uart ∧ t.pending = s.pending := by
  cases he
  have h := Laws.serve_keeps notTheirs (fun _ b f => notTheirs_modBox b f) (fun _ => notTheirs_wakeDoze) op h hh r s
  simp only [notTheirs, Prod.mk.injEq] at h
  obtain ⟨hseq, hsaf, hfife, hmot, hotp, hdbg, hcal, hclk, hreed, huart, hpend⟩ := h
  exact ⟨hseq, hsaf, hfife, 
    (congrArg (fun m : Motion => { m with en := (serve op h r s).motion.en }) hmot :), hotp, hdbg, hcal, hclk, hreed, huart, hpend⟩

/-- Settles O32: each command serves a handler that sets what is its own. -/
theorem settingCommandsKeepToTheirOwn : Obligations.SettingCommandsKeepToTheirOwn := by
  unfold Obligations.SettingCommandsKeepToTheirOwn
  intro r s t c hc he
  simp only [List.mem_cons, List.not_mem_nil, or_false] at hc
  rcases hc with rfl | rfl | rfl | rfl | rfl | rfl | rfl | rfl | rfl | rfl | rfl | rfl | rfl
  · exact frame_of_setsOwn hParamWrite_setsOwn he
  · exact frame_of_setsOwn hParamRevert_setsOwn he
  · exact frame_of_setsOwn hHubSlotSet_setsOwn he
  · exact frame_of_setsOwn hHubDescSet_setsOwn he
  · exact frame_of_setsOwn hHubStickyClear_setsOwn he
  · exact frame_of_setsOwn hHubRecordsAck_setsOwn he
  · exact frame_of_setsOwn hJobHold_setsOwn he
  · exact frame_of_setsOwn hJobPriority_setsOwn he
  · exact frame_of_setsOwn hNozMark_setsOwn he
  · exact frame_of_setsOwn hProfileErase_setsOwn he
  · exact frame_of_setsOwn hObjectErase_setsOwn he
  · exact frame_of_setsOwn hSessionClose_setsOwn he
  · exact frame_of_setsOwn hNetSessionEnd_setsOwn he

end Sys2Proof.Machine
end

section
/-! SUPPORT and PROOF of O47. Sessions, their ends, masks, and the jobs that a purge takes away (R209 to R213, R241 to R247,
R322 to R325). -/

namespace Sys2Proof.Machine

variable {s t : State} {r : Req}

/-! ### Sessions on links 1 to 3 -/

/-- The links 1 to 3 have a context of their own, and no connection. -/
theorem ownContext (h : (r.link, r.ctx) ∈ [(Link.i2c, (1 : Fin 12)), (Link.uart, 2), (Link.usb, 3)]) :
    boxOf s r.link = .ctx r.ctx.val ∧ reqConn s r = none ∧ sessionCtxOk none r.ctx.val = true := by
  simp only [List.mem_cons, Prod.mk.injEq, List.not_mem_nil, or_false] at h
  rcases h with ⟨hl, hc⟩ | ⟨hl, hc⟩ | ⟨hl, hc⟩ <;> rw [reqConn, hl, hc] <;> exact ⟨rfl, rfl, rfl⟩

/-- Accepting a request changes the expected sequence of its context alone. -/
theorem ctxOf_accepted {c : Nat} (hb : boxOf s r.link = .ctx c) (hc : c < s.ctxs.length) :
    ctxOf (accepted r s) c = { ctxOf s c with e := some (r.seq + 1) } ∧ (accepted r s).ctxs.length = s.ctxs.length := by
  have h (u : State) : (wakeDoze u).ctxs = u.ctxs := by simp
  have hcx (u : State) : ctxOf (wakeDoze u) c = ctxOf u c := by rw [ctxOf, h, ctxOf]
  rw [accepted, hcx, h, hb]
  exact ⟨ctxOf_modCtx_same hc, by simp [modBox, modCtx, modAt]⟩

/-- The end of an open message touches no context but its own, of that its message alone, and what notifications change. -/
theorem discardMsg_kept (c : Nat) : (ctxOf (discardMsg s c) c).keyed = (ctxOf s c).keyed ∧
    (ctxOf (discardMsg s c) c).cnt.link = (ctxOf s c).cnt.link := by
  have hm : (ctxOf (modCtx s c (fun x => { x with msg := none })) c).keyed = (ctxOf s c).keyed ∧
      (ctxOf (modCtx s c (fun x => { x with msg := none })) c).cnt.link = (ctxOf s c).cnt.link := by
    rw [ctxOf_modCtx]
    split <;> exact ⟨rfl, rfl⟩
  unfold discardMsg
  split
  · exact ⟨rfl, rfl⟩
  · next m _ =>
    extract_lets u
    split
    · obtain ⟨-, hk, hl⟩ := failJob_msgKept (s := u) (id := m.job) (detail := rasterIncomplete) c
      exact ⟨hk.trans hm.1, hl.trans hm.2⟩
    · exact hm

theorem modCtx_length (c : Nat) (f : Ctx → Ctx) : (modCtx s c f).ctxs.length = s.ctxs.length := by simp [modCtx, modAt]

theorem countNotifLost_length (c : Nat) : (countNotifLost s c).ctxs.length = s.ctxs.length := by
  unfold countNotifLost
  extract_lets u
  have hu : u.ctxs.length = s.ctxs.length := modCtx_length _ _
  split
  · simpa using hu
  · split <;> exact hu

theorem notify_length (c op st : Nat) (p : List Byte) : (notify s c op st p).ctxs.length = s.ctxs.length := by
  unfold notify
  split
  · exact countNotifLost_length _
  · extract_lets x begun full out f u
    have hu : u.ctxs.length = s.ctxs.length := modCtx_length _ _
    split
    · exact (countNotifLost_length _).trans hu
    · exact hu

theorem setJobHeld_length (id d : Nat) (st : JobSt) (hold : Half) : (setJobHeld s id st d hold).ctxs.length = s.ctxs.length := by
  unfold setJobHeld
  split
  · rfl
  · extract_lets j' u
    have hu : u.ctxs = s.ctxs := by simp only [u]; split <;> simp
    refine (notify_length _ _ _ _).trans ?_
    rw [← hu]
    simp

theorem discardMsg_length (c : Nat) : (discardMsg s c).ctxs.length = s.ctxs.length := by
  unfold discardMsg
  split
  · rfl
  · next m _ =>
    extract_lets u
    have hu : u.ctxs.length = s.ctxs.length := modCtx_length _ _
    have hr (v : State) (id : Nat) : (retireJob v id).ctxs = v.ctxs := by
      unfold retireJob
      split <;> rfl
    split
    · rw [failJob, finishJob, hr]
      exact (setJobHeld_length _ _ _ _).trans hu
    · exact hu

theorem sessionOpened_ctx {o : Session} (hc : r.ctx.val < s.ctxs.length) : ctxOf (sessionOpened r none o s) r.ctx.val =
    { Ctx.fresh with keyed := some { o with rekeyed := (ctxOf s r.ctx.val).keyed.isSome }
                     cnt := { Counters.zero with link := (ctxOf s r.ctx.val).cnt.link } } := by
  obtain ⟨hk, hl⟩ := discardMsg_kept (s := s) r.ctx.val
  have hm := ctxOf_modCtx_same (s := discardMsg s r.ctx.val) (c := r.ctx.val) (f := fun x => { Ctx.fresh with
    keyed := some { o with rekeyed := x.keyed.isSome }, cnt := { Counters.zero with link := x.cnt.link } })
    (by rw [discardMsg_length]; exact hc)
  rw [hk, hl] at hm
  simp only [sessionOpened]
  split <;> exact hm

/-! ### Ends of sessions -/

theorem afterDelivery_ends {k c : Nat} {f : OutFrame} (he : f.endsSession = true) (hw : f.whose = some c) (ho : f.opcode ≠ 0x0102)
    (hk : k < s.ctxs.length) : ∃ u, afterDelivery s (.ctx k) f = endSessionOn u c ∧ u.net = s.net ∧
      (ctxOf u k).out = (ctxOf s k).out.drop 1 ∧ ∀ j, (ctxOf u j).keyed = (ctxOf s j).keyed := by
  refine ⟨_, by simp only [afterDelivery, he, hw, ho, false_and, and_false, if_false]; rfl, by simp [modBox, modCtx], ?_, fun j => ?_⟩
  · rw [modBox, ctxOf_modCtx_same (by simpa using hk)]
    simp [ctxOf_noteTx]
  · rw [modBox, ctxOf_modCtx]
    split
    · next h => rw [h.1, ctxOf_noteTx]
    · rw [ctxOf_noteTx]

/-- What ends on a context: the session or raw connection that is open on it, and no other connection. -/
theorem endSessionOn_gone {c : Nat} {k : Conn} (hk : connOn s c = some k) (ho : k.raw = true ∨ connOpen s k = true) :
    connOf (endSessionOn s c) k.id = none ∧ ∀ x ∈ s.net.conns, x.id ≠ k.id → x ∈ (endSessionOn s c).net.conns := by
  have he : endSessionOn s c = closeConn s k.id := by simp [endSessionOn, hk, ho]
  rw [he, connOf, closeConn_conns]
  exact ⟨by simp, fun x hx hne => List.mem_filter.mpr ⟨hx, by simpa using hne⟩⟩

/-! ### Rights -/

/-- Each context's mask is a parameter whose new value counts at once (R244). -/
theorem descOf_rights {c : Nat} (hc : c ≤ 11) : ∃ d, descOf (0x0300 + c) = some d ∧ d.eff ≤ eTicket := by
  have h : ∀ k : Fin 12, (descOf (0x0300 + k.val)).any (fun d => decide (d.eff ≤ eTicket)) = true := by decide
  obtain ⟨d, hd, he⟩ := (Option.any_eq_true _ _).mp (h ⟨c, by omega⟩)
  exact ⟨d, hd, of_decide_eq_true he⟩

theorem setParam_rights {p : Params} {c : Nat} {v : List Byte} (hc : c ≤ 11) :
    setParam p (0x0300 + c) v = { p with working := assocSet p.working (0x0300 + c) v } := by
  obtain ⟨d, hd, he⟩ := descOf_rights hc
  simp only [setParam, hd, if_pos he]

theorem inForce_rights {p : Params} {c : Nat} (hc : c ≤ 11) :
    inForce p (0x0300 + c) = (find? p.working (0x0300 + c)).getD (committedVal p (0x0300 + c)) := by
  obtain ⟨d, hd, he⟩ := descOf_rights hc
  simp only [inForce, hd, if_pos he]

theorem ofLe_b16 (m : Half) : ofLe (b16 m.toNat) = m.toNat := ofLe_leBytes m.isLt

/-- The mask that is set is in force, and every other context's is as it was. -/
theorem maskInForce_set {c : Nat} {m : Half} (hc : c ≤ 11) (hp : t.params = setParam s.params (0x0300 + c) (b16 m.toNat)) :
    maskInForce t c = m ∧ ∀ k ≤ 11, k ≠ c → maskInForce t k = maskInForce s k := by
  rw [setParam_rights hc] at hp
  refine ⟨?_, fun k hk hne => ?_⟩
  · rw [maskInForce, pv, hp, inForce_rights hc, find?_assocSet_same, Option.getD_some, ofLe_b16]
    simp
  · rw [maskInForce, pv, hp, inForce_rights hk, find?_assocSet_other _ _ (by omega), maskInForce, pv, inForce_rights hk]
    rfl

/-! ### Purged jobs stay gone -/

variable {x : JobSt} {id k : Nat}

theorem setJobHeld_nextId {d : Nat} {st : JobSt} {hold : Half} : (setJobHeld s id st d hold).jobs.nextId = s.jobs.nextId :=
  setJobHeld_othersKept.2

theorem retireJob_nextId : (retireJob s id).jobs.nextId = s.jobs.nextId := by
  unfold retireJob
  split <;> rfl

theorem failJob_nextId {d : Nat} : (failJob s id d).jobs.nextId = s.jobs.nextId :=
  retireJob_nextId.trans setJobHeld_nextId

theorem takeRaster_nextId {bs : List Byte} : (takeRaster s id bs).1.jobs.nextId = s.jobs.nextId := by
  unfold takeRaster
  (repeat' split)
  · rfl
  · rfl
  · exact failJob_nextId
  all_goals rfl

theorem endRaster_nextId : (endRaster s id).jobs.nextId = s.jobs.nextId := by
  unfold endRaster
  split
  · rfl
  · split
    · rfl
    · split
      · exact failJob_nextId
      · extract_lets u
        split
        · exact setJobHeld_nextId
        · exact setJobHeld_nextId

/-- Taking in a raw stream spends IDs and gives none back. -/
theorem rawStep_nextId {w w' : RawIn} (hs : rawStep s w = some (t, w')) : s.jobs.nextId ≤ t.jobs.nextId := by
  unfold rawStep at hs
  split at hs
  · cases hs
  · split at hs
    · cases hs
      exact Nat.le_refl _
    · split at hs
      · next j _ =>
        split at hs
        · cases hs
        · next d _ =>
          have ht := takeRaster_nextId (s := s) (id := j.id) (bs := w.buf.take (d.total - d.got))
          simp only at hs
          (repeat' split at hs) <;> simp only [Option.some.injEq, Prod.mk.injEq, reduceCtorEq] at hs <;> obtain ⟨rfl, -⟩ := hs
          · exact Nat.le_of_eq ht.symm
          · exact Nat.le_of_eq (endRaster_nextId.trans ht).symm
          · exact Nat.le_of_eq ht.symm
      · (repeat' split at hs) <;> cases hs
        · simp [addRaster, addJob]
        · exact Nat.le_refl _
        · exact Nat.le_refl _
        · simp

theorem pump_nextId {l : Link} {n : Nat} : s.jobs.nextId ≤ (pump l n s).jobs.nextId := by
  induction n generalizing s with
  | zero => exact Nat.le_refl _
  | succ n ih =>
    unfold pump
    split
    · exact Nat.le_refl _
    · split
      · next u _ hs =>
        refine Nat.le_trans (rawStep_nextId hs) (Nat.le_trans (Nat.le_of_eq ?_) ih)
        cases l <;> rfl
      · exact Nat.le_refl _

theorem cancelStreamed_nextId : s.jobs.nextId ≤ (cancelStreamed s id).jobs.nextId := by
  have hp (ls : List Link) (u : State) : u.jobs.nextId ≤ (ls.foldl (fun s l => pump l (2 * rawBytes s l + 4) s) u).jobs.nextId := by
    induction ls generalizing u with
    | nil => exact Nat.le_refl _
    | cons l ls ih => exact Nat.le_trans pump_nextId (ih _)
  refine Nat.le_trans (Nat.le_of_eq ?_) (hp _ _)
  rw [cancelNow_nextId, foldl_skipRest_jobs]

theorem StaysGone.cancelStreamed (h : StaysGone x id s) : StaysGone x id (cancelStreamed s k) := by
  have hs := h.of_jobs (foldl_skipRest_jobs (s := s) (id := k) (ls := linksOf s k))
  exact (((hs.modJob (k := k) (f := freeRaster) fun _ hj => hj).setJobHeld).retireJob).foldl_pump
    (n := fun s l => 2 * rawBytes s l + 4)

/-- A job that is gone, by whatever it ended, stays so. -/
theorem staysGone_of_gone (hg : jobOf s id = none) (hn : id < s.jobs.nextId) : ∃ x, StaysGone x id s := by
  cases hf : (s.jobs.finished.find? (fun f => f.id == id)).map (·.st) with
  | none => exact ⟨.cancelled, hg, hn, by rw [hf]; rfl⟩
  | some y => exact ⟨y, hg, hn, by rw [hf]; rfl⟩

theorem cancelStreamed_gone (hn : id < s.jobs.nextId) : ∃ x, StaysGone x id (cancelStreamed s id) := by
  cases hj : jobOf s id with
  | some j => exact ⟨_, cancelStreamed_staysGone hj hn⟩
  | none =>
    obtain ⟨x, hx⟩ := staysGone_of_gone hj hn
    exact ⟨x, hx.cancelStreamed⟩

theorem StaysGone.foldl_cancelStreamed {ids : List Nat} (h : StaysGone x id s) : StaysGone x id (ids.foldl Machine.cancelStreamed s) := by
  induction ids generalizing s with
  | nil => exact h
  | cons k ids ih => exact ih h.cancelStreamed

/-- Every job of a purge is gone once it is over. -/
theorem purge_gone {ids : List Nat} (hn : ∀ id ∈ ids, id < s.jobs.nextId) :
    ∀ id ∈ ids, ∃ x, StaysGone x id (ids.foldl cancelStreamed s) := by
  induction ids generalizing s with
  | nil => exact fun _ h => nomatch h
  | cons k ids ih =>
    intro id hid
    rcases List.mem_cons.mp hid with rfl | hid
    · obtain ⟨x, hx⟩ := cancelStreamed_gone (hn id List.mem_cons_self)
      exact ⟨x, hx.foldl_cancelStreamed⟩
    · exact ih (fun i hi => Nat.lt_of_lt_of_le (hn i (List.mem_cons_of_mem _ hi)) cancelStreamed_nextId) id hid

theorem StaysGone.discardMsg {c : Nat} (h : StaysGone x id s) : StaysGone x id (discardMsg s c) := by
  unfold Machine.discardMsg
  split
  · exact h
  · extract_lets u
    have hu : StaysGone x id u := h.of_jobs rfl
    split
    · exact hu.failJob
    · exact hu

/-- SESSION_OPEN on a link of its own context keeps both nonces and the key of the opening (R209). -/
theorem hSessionOpen_own {psk : List Byte} (hb : ∀ u : State, boxOf u r.link = .ctx r.ctx.val)
    (hconn : reqConn s r = none) (hctx : sessionCtxOk none r.ctx.val = true) (hc : r.ctx.val < s.ctxs.length)
    (hp : r.payload.length = 16) (hk : secretKey s.otp r.ctx.val = some psk) :
    ∃ (np : List Byte) (t : State), hSessionOpen r s = (Reply.ok (np ++ dieId s.otp), t) ∧ np.length = 16 ∧
      (ctxOf t r.ctx.val).opening =
        some ⟨r.payload, np, hmac psk (ascii "NLSK" ++ r.payload ++ np ++ [b8 r.ctx.val]), false⟩ := by
  let np := leBytes 16 (drawNonce s).1.toNat
  have hnp : np = leBytes 16 (drawNonce s).1.toNat := rfl
  refine ⟨np, modCtx (drawNonce s).2 r.ctx.val (fun x => { x with
    opening := some ⟨r.payload, np, hmac psk (ascii "NLSK" ++ r.payload ++ np ++ [b8 r.ctx.val]), false⟩ }), ?_, length_leBytes _ _, ?_⟩
  · simp only [hSessionOpen, hconn]
    rw [judge_ok (exactly_length hp) rfl]
    simp only [hctx, hk, hb, Bool.not_true, Bool.false_eq_true, if_false, Option.isSome_none, Bool.false_and]
    rfl
  · rw [ctxOf_modCtx_same (by exact hc)]

/-- SESSION_PROVE on a link of its own context, by the proof that it brings (R210, R212). -/
theorem hSessionProve_own {psk : List Byte} {o : Session} (hb : boxOf s r.link = .ctx r.ctx.val) (hconn : reqConn s r = none)
    (hp : r.payload.length = 32) (hk : secretKey s.otp r.ctx.val = some psk) (ho : (ctxOf s r.ctx.val).opening = some o) :
    hSessionProve r s = if hmac psk (ascii "NLH1" ++ o.nonceH ++ o.nonceP ++ [b8 r.ctx.val]) = r.payload then
      (Reply.ok (hmac psk (ascii "NLP1" ++ o.nonceP ++ o.nonceH ++ [b8 r.ctx.val])), sessionOpened r none o s)
      else proveFailed r none s := by
  simp only [hSessionProve, hconn]
  rw [judge_ok (exactly_length hp) rfl, hb]
  simp only [getBox, ho, hk]

theorem proveFailed_own (hb : boxOf s r.link = .ctx r.ctx.val) (hc : r.ctx.val < s.ctxs.length) :
    ∃ t, proveFailed r none s = (Reply.no stBadCheck, t) ∧ (ctxOf t r.ctx.val).opening = none ∧
      (ctxOf t r.ctx.val).keyed = (ctxOf s r.ctx.val).keyed := by
  have hl (u : State) (code : Nat) (d : List Byte) (ctx : Byte) (job : Nat) : ctxOf (logFor u code d ctx job) r.ctx.val =
      ctxOf u r.ctx.val := by simp [ctxOf]
  refine ⟨_, by simp only [proveFailed, hb]; rfl, ?_⟩
  rw [hl, modBox, ctxOf_modCtx_same hc]
  exact ⟨rfl, rfl⟩

theorem takeRaster_params {bs : List Byte} : (takeRaster s id bs).1.params = s.params := by
  unfold takeRaster
  (repeat' split)
  · rfl
  · rfl
  · simp
  all_goals rfl

theorem rawStep_params {w w' : RawIn} (hs : rawStep s w = some (t, w')) : t.params = s.params := by
  unfold rawStep at hs
  split at hs
  · cases hs
  · split at hs
    · cases hs
      rfl
    · split at hs
      · next j _ =>
        split at hs
        · cases hs
        · next d _ =>
          have ht := takeRaster_params (s := s) (id := j.id) (bs := w.buf.take (d.total - d.got))
          simp only at hs
          (repeat' split at hs) <;> simp only [Option.some.injEq, Prod.mk.injEq, reduceCtorEq] at hs <;> obtain ⟨rfl, -⟩ := hs
          · exact ht
          · exact Eq.trans (by simp) ht
          · exact ht
      · (repeat' split at hs) <;> cases hs
        · simp [addRaster, addJob]
        · rfl
        · rfl
        · simp

theorem pump_params {l : Link} {n : Nat} : (pump l n s).params = s.params := by
  induction n generalizing s with
  | zero => rfl
  | succ n ih =>
    unfold pump
    split
    · rfl
    · split
      · next u _ hs =>
        refine (ih.trans ?_).trans (rawStep_params hs)
        cases l <;> rfl
      · rfl

theorem cancelStreamed_params : (cancelStreamed s id).params = s.params := by
  have hp (ls : List Link) (u : State) : (ls.foldl (fun s l => pump l (2 * rawBytes s l + 4) s) u).params = u.params := by
    induction ls generalizing u with
    | nil => rfl
    | cons l ls ih => exact (ih _).trans pump_params
  have hk (ls : List Link) (u : State) : (ls.foldl (fun s l => skipRest s id l) u).params = u.params := by
    induction ls generalizing u with
    | nil => rfl
    | cons l ls ih => exact (ih _).trans (by simp)
  rw [cancelStreamed, hp]
  simp [hk]

theorem foldl_cancelStreamed_params (ids : List Nat) : (ids.foldl cancelStreamed s).params = s.params := by
  induction ids generalizing s with
  | nil => rfl
  | cons id ids ih => exact ih.trans cancelStreamed_params

/-- The fields of a RIGHTS_SET. -/
theorem rightsFields {p : List Byte} {c purge : Byte} {mask : Half} (hp : p = [c, purge] ++ b16 mask.toNat) :
    p.length = 4 ∧ fieldAt p 0 1 = c.toNat ∧ fieldAt p 1 1 = purge.toNat ∧ BitVec.ofNat 16 (fieldAt p 2 2) = mask := by
  subst hp
  have h2 : fieldAt ([c, purge] ++ b16 mask.toNat) 2 2 = mask.toNat := by
    rw [← List.append_nil (b16 mask.toNat)]
    exact (fieldAt_skip (p := [c, purge]) rfl 0 2).trans (fieldAt_le [] mask.isLt)
  exact ⟨rfl, fieldAt_one _ _, fieldAt_one _ _, by rw [h2]; simp⟩

/-- RIGHTS_SET of a sound request, up to the mask that it may set. -/
theorem hRightsSet_judged {c purge : Byte} {mask : Half} (hp : r.payload = [c, purge] ++ b16 mask.toNat) (hc : c.toNat ≤ 11)
    (h1 : purge.toNat ≤ 1) (hm : mask.toNat ≤ 0x03FF) (hadm : c = 0 → hasBit mask rAdmin = true) : hRightsSet r s =
      if mask &&& ~~~ (admMask s r 0x0C01) ≠ 0 then (Reply.no stNoRight, s) else
      let drops := purge.toNat == 1 && hasBit (maskInForce s c.toNat) rPrint && !hasBit mask rPrint
      let u := { s with params := setParam s.params (0x0300 + c.toNat) (b16 mask.toNat) }
      let ids := if drops then purged u c.toNat else []
      let v := ids.foldl cancelStreamed u
      let w := if drops then discardMsg v c.toNat else v
      (Reply.ok (b16 (maskInForce s c.toNat).toNat ++ [b8 (min ids.length 255), 0]), schedule (logFor w 0x0301
        (b8 c.toNat :: b16 (maskInForce s c.toNat).toNat ++ b16 mask.toNat ++ [if purge.toNat == 1 then 1 else 0]) (b8 r.ctx.val) 0)) := by
  obtain ⟨hl, h0, hp1, h2⟩ := rightsFields hp
  have hz : (!(c.toNat == 0 && !hasBit mask rAdmin)) = true := by
    by_cases hcz : c.toNat = 0
    · have : c = 0 := BitVec.toNat_inj.mp hcz
      simp [hadm this]
    · simp [hcz]
  simp only [hRightsSet, h0, hp1, h2]
  rw [judge_ok (exactly_length hl) (by simp only [firstFail, hc, h1, hm, hz, decide_true, Bool.and_self, if_true])]

/-- Settles O47: sessions by their handlers on a link's own context, ends by the connection of a context, and masks by the parameter
that holds them. -/
theorem sessionsAndRights : Obligations.SessionsAndRights := by
  unfold Obligations.SessionsAndRights
  refine ⟨fun r s => ⟨fun hl h12 => ⟨fun psk ha hp hk => ?_, fun psk o ha hp hk ho => ⟨fun he => ?_, fun he => ?_⟩⟩, fun ha hp => ?_,
    fun ha hp hu hi => ?_, fun c ha hp h4 h11 => ?_⟩, fun k c f s he hw ho h12 hk => afterDelivery_ends he hw ho (by rw [h12]; exact hk),
    fun c s => ⟨fun k hk ho _ => endSessionOn_gone hk ho, fun hn => by simp [endSessionOn, hn]⟩,
    fun r s c hc => ⟨fun ha hp => ?_, fun purge mask ha hp h1 hm hadm => ⟨fun hno => ?_, fun hok hz => ?_, fun hok h1' hids hpr hlose => ?_⟩⟩⟩
  · have hlt : r.ctx.val < s.ctxs.length := by rw [h12]; exact r.ctx.isLt
    obtain ⟨hb, hconn, hctx⟩ := ownContext (s := accepted r s) hl
    obtain ⟨-, hlen⟩ := ctxOf_accepted (ownContext (s := s) hl).1 hlt
    have ho : (accepted r s).otp = s.otp := by simp
    obtain ⟨np, t, ht, hnp, hopen⟩ := hSessionOpen_own (s := accepted r s) (fun u => (ownContext (s := u) hl).1) hconn hctx (by rw [hlen]; exact hlt) hp
      (by rw [ho]; exact hk)
    rw [ho] at ht
    exact ⟨np, t, congrArg Host.Outcome.next (serve_reply ha ht), hnp, hopen⟩
  · have hlt : r.ctx.val < s.ctxs.length := by rw [h12]; exact r.ctx.isLt
    obtain ⟨hb, hconn, -⟩ := ownContext (s := accepted r s) hl
    obtain ⟨hx, hlen⟩ := ctxOf_accepted (ownContext (s := s) hl).1 hlt
    have h := hSessionProve_own (psk := psk) (o := o) hb hconn hp (by simpa using hk) (by rw [hx]; exact ho)
    rw [if_pos he] at h
    refine ⟨_, congrArg Host.Outcome.next (serve_reply ha h), ?_⟩
    rw [sessionOpened_ctx (by rw [hlen]; exact hlt), hx]
  · have hlt : r.ctx.val < s.ctxs.length := by rw [h12]; exact r.ctx.isLt
    obtain ⟨hb, hconn, -⟩ := ownContext (s := accepted r s) hl
    obtain ⟨hx, hlen⟩ := ctxOf_accepted (ownContext (s := s) hl).1 hlt
    have h := hSessionProve_own (psk := psk) (o := o) hb hconn hp (by simpa using hk) (by rw [hx]; exact ho)
    obtain ⟨t, ht, hopen, hkeyed⟩ := proveFailed_own hb (by rw [hlen]; exact hlt)
    rw [if_neg he, ht] at h
    exact ⟨t, congrArg Host.Outcome.next (serve_reply ha h), hopen, by rw [hkeyed, hx]⟩
  · refine congrArg Host.Outcome.next (serve_reply ha ?_)
    rw [hSessionClose, judge_ok (exactly_length (by rw [hp]; rfl)) rfl]
  · have he : hNetStatus r (accepted r s) = (Reply.ok ([b8 (maskOf [false, s.net.hundred, s.net.full, false]),
        b8 (maskOf [false, s.net.byDhcp, s.net.linkLocal, s.net.ip6.isSome]), netMask (netSession (accepted r s)),
        netMask (fun c => (accepted r s).net.conns.any (fun k => k.raw && decide (k.ctx.map (·.val) = some c)))] ++
        b32 0 ++ [b8 0, 0] ++ b16 s.net.lldpAlloc ++ b32 0 ++ macAddress (accepted r s) ++ zeros 2), accepted r s) := by
      rw [hNetStatus, judge_ok (exactly_length (by rw [hp]; rfl)) rfl]
      simp [eeeActive, ip4Route, hu, hi]
    refine ⟨_, congrArg Host.Outcome.next (serve_reply ha he), rfl, ?_⟩
    have hmac : macAddress (accepted r s) = macAddress s := by simp [macAddress]
    rw [hmac]
    rfl
  · have h0 : fieldAt r.payload 0 1 = c.toNat := by rw [hp]; exact fieldAt_one _ _
    refine congrArg Host.Outcome.next (serve_reply ha ?_)
    rw [hNetSessionEnd, judge_ok (exactly_length (by rw [hp]; rfl)) (by simp [firstFail, h0, h4, h11]; simp [hp]; rfl), h0]
  · have h0 : fieldAt r.payload 0 1 = c.toNat := by rw [hp]; exact fieldAt_one _ _
    refine congrArg Host.Outcome.next (serve_reply ha ?_)
    rw [hRightsGet, judge_ok (exactly_length (by rw [hp]; rfl)) (by simp [firstFail, h0, hc]; simp [hp]; rfl), h0]
    simp [limitedMask, ceiling]
  · refine congrArg Host.Outcome.next (serve_reply ha ?_)
    rw [hRightsSet_judged hp hc h1 hm hadm, if_pos hno]
  · have hq : (purge.toNat == 1) = false := by rw [hz]; rfl
    have hparams : (accepted r s).params = s.params := by simp
    have h := hRightsSet_judged (s := accepted r s) hp hc h1 hm hadm
    rw [if_neg (not_not_intro hok)] at h
    simp only [hq, Bool.false_and, Bool.false_eq_true, if_false, List.foldl_nil, accepted_maskInForce] at h
    refine ⟨_, congrArg Host.Outcome.next (serve_reply ha h), ?_⟩
    obtain ⟨hmask, hother⟩ := maskInForce_set (s := s) (m := mask) hc (t := logFor
      { accepted r s with params := setParam (accepted r s).params (0x0300 + c.toNat) (b16 mask.toNat) } 0x0301
      (b8 c.toNat :: b16 (maskInForce s c.toNat).toNat ++ b16 mask.toNat ++ [0]) (b8 r.ctx.val) 0) (by simp)
    exact ⟨hmask, by simp, hother⟩
  · have hq : (purge.toNat == 1) = true := by rw [h1']; rfl
    have hpar : (accepted r s).params = s.params := by simp
    have hjobs : (accepted r s).jobs = s.jobs := by simp
    have h := hRightsSet_judged (s := accepted r s) hp hc h1 hm hadm
    rw [if_neg (not_not_intro hok)] at h
    simp only [hq, hpr, hlose, accepted_maskInForce, Bool.true_and, Bool.not_false, if_true] at h
    have hpurged : purged { accepted r s with params := setParam (accepted r s).params (0x0300 + c.toNat) (b16 mask.toNat) }
        c.toNat = purged s c.toNat := by simp [purged]
    rw [hpurged] at h
    refine ⟨_, congrArg Host.Outcome.next (serve_reply ha h), fun id hid => ?_, (maskInForce_set (s := s) (m := mask) hc ?_).1⟩
    · have hspent : ∀ i ∈ purged s c.toNat, i < (accepted r s).jobs.nextId := by
        intro i hi
        obtain ⟨j, hj, rfl⟩ := List.mem_map.mp hi
        rw [hjobs]
        exact hids j ((List.mem_filter.mp hj).1)
      obtain ⟨x, hx⟩ := purge_gone
        (s := { accepted r s with params := setParam (accepted r s).params (0x0300 + c.toNat) (b16 mask.toNat) }) hspent id hid
      exact ((hx.discardMsg (c := c.toNat)).of_jobs (by simp)).1
    · simp [foldl_cancelStreamed_params]

end Sys2Proof.Machine
end

section
/-! SUPPORT and PROOF of O50. The events of an up-sequence and of a shutdown (R119 to R137, R432). -/

namespace Sys2Proof.Machine

variable {s : State} {r : Req}

/-! ### A channel after a change of one -/

theorem chRun_modCh_same {q : Seq} {n : Nat} {f : ChRun → ChRun} (h : n < q.ch.length) : chRun (modCh q n f) n = f (chRun q n) := by
  simp [chRun, modCh, modAt, List.getElem?_modify, h]

theorem chRun_modCh_other {q : Seq} {n k : Nat} {f : ChRun → ChRun} (h : k ≠ n) : chRun (modCh q n f) k = chRun q k := by
  simp [chRun, modCh, modAt, List.getD_eq_getElem?_getD, List.getElem?_modify, Ne.symm h]

theorem seqOn_goesOn (h : s.seq.frozen = false) : seqOn s = seqDone (seqAdvance s) := by simp [seqOn, h]

theorem dropHisGate_rest : (dropHisGate s).seq = s.seq ∧ { dropHisGate s with fife := s.fife } = s := by
  rw [dropHisGate]
  split <;> exact ⟨rfl, rfl⟩

theorem releaseCh_parts (n : Nat) : (releaseCh s n).seq = modCh s.seq n ChRun.release ∧
    (saffronCh s.seq n = true → (releaseCh s n).saf.charger = false) ∧ { releaseCh s n with seq := s.seq, saf := s.saf } = s := by
  simp only [releaseCh]
  split
  · exact ⟨rfl, fun _ => rfl, rfl⟩
  · next h => exact ⟨rfl, fun hn => absurd hn h, rfl⟩

/-- PG good as it is noted for its channel. -/
def pgNoted (s : State) (ch : Nat) : State :=
  modSeq s (fun q => modCh q ch (fun c =>
    { c with pg := true, edge := BitVec.ofNat 32 (now s).toNat, pgSeen := c.pgSeen || c.en, monitored := c.en }))

theorem execPgGood_next {ch : Fin 8} (hv : s.rst.vaoGood = true) (hu : pgUsed s.seq ch.val = true)
    (hpg : (chRun s.seq ch.val).pg = false) (hf : s.seq.frozen = false) : exec (.pgGood ch) s = .next (seqDone (seqAdvance
      (if ch.val = s.seq.cfg.headRail then dropHisGate (pgNoted s ch.val) else pgNoted s ch.val))) := by
  have h : execPgGood ch s = .next (seqOn (if ch.val = s.seq.cfg.headRail then dropHisGate (pgNoted s ch.val) else pgNoted s ch.val)) := by
    simp [execPgGood, hv, hu, hpg, pgNoted, modSeq, modCh]
  refine h.trans (congrArg Host.Outcome.next (seqOn_goesOn ?_))
  split
  · rw [dropHisGate_seq]
    exact hf
  · exact hf

/-- PG good of the head's rail, once it is enabled, lifts the gate that an over-current has put on the fire lines (R432). -/
theorem dropHisGate_noted {ch : Nat} (hh : ch = s.seq.cfg.headRail) (hlt : ch < s.seq.ch.length) (he : (chRun s.seq ch).en = true) :
    (dropHisGate (pgNoted s ch)).fife.hisGate = false := by
  have hc : chRun (pgNoted s ch).seq ch = _ := chRun_modCh_same hlt
  have hr : (pgNoted s ch).seq.cfg.headRail = ch := hh.symm
  rw [dropHisGate]
  simp only [hr, hc, he, Bool.or_true, Bool.and_self, if_true]

theorem range8_find_lt {p : Nat → Bool} {n : Nat} (h : (List.range 8).find? p = some n) : n < 8 :=
  List.mem_range.mp (List.mem_of_find?_eq_some h)

/-- Settings that come into force in OFF: those that waited, with the shadows of words 77 and 78 laid over them (R119, R170). -/
theorem applyAtOff_parts : (applyAtOff s).seq.minOffRun = s.seq.minOffRun ∧ (applyAtOff s).seq.onLatched = s.seq.onLatched ∧
    ∀ m, s.seq.next = some m → (applyAtOff s).seq.cfg = seqCfgOf (overlay m (shadowTable s.otp)) := by
  unfold applyAtOff
  split
  · next h =>
    unfold applyNextCfg
    split
    · next hn => exact ⟨rfl, rfl, fun m hm => by rw [hn] at hm; cases hm⟩
    · next m hn =>
      refine ⟨rfl, rfl, fun m' hm => ?_⟩
      obtain rfl : m = m' := Option.some.inj (hn.symm.trans hm)
      rw [h]
      rfl
  · refine ⟨rfl, rfl, fun m hm => ?_⟩
    rw [hm]
    rfl

/-- In OFF no power command waits any more. -/
theorem endWaiters_off (h : s.seq.ph = .off) (f : Option Nat) : (endWaiters s f).seq = { s.seq with waiters := [] } := by
  have hw : s.seq.waiters.filter (waitsOn s) = [] := List.filter_eq_nil_iff.mpr fun w _ => by simp [waitsOn, h]
  rw [endWaiters_seq, hw]

/-- Settles O50: each event by the channel that it changes, and SEQ_MIN_OFF by the settings that come into force. -/
theorem sequencesAndShutdowns : Obligations.SequencesAndShutdowns := by
  unfold Obligations.SequencesAndShutdowns
  refine ⟨fun s h8 => ⟨fun ch hph hfr hst hin => ?_, fun ch hv hu hpg hfr => ?_, fun ch hu hen hseen hflag hfr hph => ?_,
    fun hph => by simp [exec, execRetryCountReset, hph, modSeq]⟩,
    fun s => ⟨fun n hph hfr hslot hn hw h8 => ?_, fun n hn hfr h8 => ?_, fun hph hrun hlat => ?_⟩⟩
  · refine ⟨modSeq s (fun q => modCh q ch.val (fun c => { c with delayed := true })), ?_, ?_, fun k hk => chRun_modCh_other hk, rfl⟩
    · have : execSeqOnDelayExpiry ch s = .next (seqOn (modSeq s (fun q => modCh q ch.val (fun c => { c with delayed := true })))) := by
        simp [execSeqOnDelayExpiry, hph, hfr, hst, hin]
      exact this.trans (congrArg Host.Outcome.next (seqOn_goesOn hfr))
    · rw [modSeq, chRun_modCh_same (by rw [h8]; exact ch.isLt)]
  · let u := if ch.val = s.seq.cfg.headRail then dropHisGate (pgNoted s ch.val) else pgNoted s ch.val
    have hu' : u = if ch.val = s.seq.cfg.headRail then dropHisGate (pgNoted s ch.val) else pgNoted s ch.val := rfl
    have hlt : ch.val < s.seq.ch.length := by rw [h8]; exact ch.isLt
    have hseq : u.seq = (pgNoted s ch.val).seq := by
      rw [hu']
      split
      · exact dropHisGate_seq
      · rfl
    have hc : chRun u.seq ch.val = _ := (congrArg (chRun · ch.val) hseq).trans (chRun_modCh_same hlt)
    refine ⟨u, execPgGood_next hv hu hpg hfr, by rw [hc], by rw [hc], by rw [hc], fun he => ?_, fun k hk => ?_, fun hh he => ?_, ?_⟩
    · simp [satisfied, hc, he]
    · rw [hseq]
      exact chRun_modCh_other hk
    · rw [hu', if_pos hh]
      exact dropHisGate_noted hh hlt he
    · rw [hu']
      split
      · exact congrArg (fun v : State => { v with seq := s.seq, fife := s.fife }) (dropHisGate_rest (s := pgNoted s ch.val)).2
      · rfl
  · let u := logEvent (modSeq s (fun q => modCh q ch.val (fun c => { c with pgFlag := true }))) 0x0502 [b8 ch.val]
    have hu' : u = logEvent (modSeq s (fun q => modCh q ch.val (fun c => { c with pgFlag := true }))) 0x0502 [b8 ch.val] := rfl
    have hlt : ch.val < s.seq.ch.length := by rw [h8]; exact ch.isLt
    have hseq : u.seq = modCh s.seq ch.val (fun c => { c with pgFlag := true }) := by simp [hu', modSeq]
    have hc : chRun u.seq ch.val = _ := (congrArg (chRun · ch.val) hseq).trans (chRun_modCh_same hlt)
    refine ⟨u, ?_, by rw [hc], by simp [satisfied, hc], fun k hk => by rw [hseq]; exact chRun_modCh_other hk, ?_⟩
    · have h : execPgTimeout ch s = .next (seqOn u) := by
        have hph' : ¬ (s.seq.ph ≠ .up ∧ s.seq.ph ≠ .running) :=
          fun ⟨h1, h2⟩ => hph.elim h1 h2
        simp only [execPgTimeout, hu, hen, hseen, hflag, hfr, hph']
        rfl
      exact h.trans (congrArg Host.Outcome.next (seqOn_goesOn (by rw [hseq]; exact hfr)))
    · rw [hu', logEvent_eq]
      rfl
  · obtain ⟨hq, hsaf, hrest⟩ := releaseCh_parts (s := s) n
    have hlt : n < s.seq.ch.length := by rw [h8]; exact range8_find_lt hn
    refine ⟨releaseCh s n, ?_, ?_, ?_, fun k hk => ?_, hsaf, hrest⟩
    · have hw' : wffEnabled (releaseCh s n).seq n = false := by rw [hq]; exact hw
      simp [exec, execSeqOffDelayExpiry, hph, hfr, hslot, hn, hw']
    · rw [hq, chRun_modCh_same hlt, ChRun.release]
    · rw [hq, chRun_modCh_same hlt, ChRun.release]
    · rw [hq]
      exact chRun_modCh_other hk
  · have hlt : n < s.seq.ch.length := by
      rw [wffWaiting] at hn
      split at hn
      · rw [h8]
        exact range8_find_lt hn
      · cases hn
    refine ⟨logEvent (modSeq s (fun q => modCh q n (fun c => { c with wffFlag := true }))) 0x0503 [b8 n], ?_, ?_, ?_⟩
    · simp [exec, execWffTimeout, hn, hfr]
    · have hs : (logEvent (modSeq s (fun q => modCh q n (fun c => { c with wffFlag := true }))) 0x0503 [b8 n]).seq =
          modCh s.seq n (fun c => { c with wffFlag := true }) := by simp [modSeq]
      rw [hs, chRun_modCh_same hlt]
    · rw [logEvent_eq]
      rfl
  · let v := modSeq (applyAtOff (modSeq s (fun q => { q with minOffRun := false }))) (fun q => { q with ph := .off })
    have hv : v = modSeq (applyAtOff (modSeq s (fun q => { q with minOffRun := false }))) (fun q => { q with ph := .off }) := rfl
    obtain ⟨hmin, hon, hcfg⟩ := applyAtOff_parts (s := modSeq s (fun q => { q with minOffRun := false }))
    have hw := endWaiters_off (s := v) rfl none
    refine ⟨endWaiters v none, ?_, by rw [hw]; rfl, by rw [hw]; exact hmin, by rw [hw], fun m hm => by rw [hw]; exact hcfg m hm⟩
    have hlat' : v.seq.onLatched = false := hon.trans hlat
    simp only [exec, execMinOffExpiry, hrun, Bool.not_true, Bool.false_eq_true, if_false]
    have hm : (modSeq s (fun q => { q with minOffRun := false })).seq.ph = .minOff := hph
    refine congrArg (Host.Outcome.next ∘ seqDone) ?_
    simp only [hm]
    exact if_neg (by simp only [← hv, hlat']; simp)

end Sys2Proof.Machine
end

section
/-! SUPPORT and PROOF of O51. The fault level, records, and every rail off (R125 to R131). -/

namespace Sys2Proof.Machine

variable {s : State} {r : Req}

/-! ### The fault level and the gate of the fire lines -/

/-- What rail faults and over-currents leave in the Fife. -/
def gates (f : Fife) : Bool × Bool := (f.fault, f.hisGate)

@[simp] theorem haltTicket_gates (c : Nat) : gates (haltTicket s c).fife = gates s.fife := by
  simp only [haltTicket]
  (repeat' split) <;> simp [gates]

@[simp] theorem addFires_gates (l : List Nat) (k : Nat) : gates (addFires s l k).fife = gates s.fife := by
  simp only [addFires]
  split <;> rfl

@[simp] theorem haltService_gates : gates (haltService s).fife = gates s.fife := by
  simp only [haltService]
  split <;> simp

@[simp] theorem cutFails_gates : gates (cutFails s).fife = gates s.fife := by
  simp only [cutFails]
  (repeat' split) <;> simp [gates]

theorem cutHeadFires_gates (a : Action) : gates (cutHeadFires s a).fife = gates s.fife := by
  have hf (d : Nat) (l : List Nat) (u : State) : gates (l.foldl (fun s i =>
      let (k, s) := drawUpTo s ((if i % 2112 < 528 then 15 else 14) * pv s.params 0x0904)
      addFires s [i] k) u).fife = gates u.fife := by
    induction l generalizing u with
    | nil => rfl
    | cons i l ih => exact (ih _).trans (by simp)
  unfold cutHeadFires
  split
  · rfl
  · exact (addFires_gates _ _).trans (hf 0 _ _)

@[simp] theorem endCal_gates (d i : Nat) : gates (endCal s d i).fife = gates s.fife := by
  simp only [endCal]
  split
  · rfl
  · simp [refuseCal, cutHeadFires_gates]

theorem assertDisch_gates (k : Nat) : gates (assertDisch s k).fife = gates s.fife := by
  unfold assertDisch
  extract_lets stands s1 wasLow s2 s3 s4 s5 s6 s7 s8 s9
  have h1 : s1.fife = s.fife := by simp only [s1]; split <;> simp
  have h4 : gates s4.fife = gates s.fife := by simp [s4, s3, s2, h1]
  have h7 : gates s7.fife = gates s4.fife := by simp [s7, s6, s5]
  split
  · exact h4
  · split
    · exact ((endCal_gates (s := s7) 8 0).trans h7).trans h4
    · exact h7.trans h4

/-! ### What a stored record leaves of the sequencer -/

/-- The sequencer but for its records. -/
def recordless (q : Seq) : Seq := { q with pend := [], lost := 0, recSeq := 0, writing := none, holdup := none }

theorem eq_of_recordless {p q : Seq} (h : recordless p = recordless q) : p.ph = q.ph ∧ p.ch = q.ch ∧ p.minOffRun = q.minOffRun ∧
    p.retryDue = q.retryDue ∧ p.droneLow = q.droneLow :=
  ⟨(congrArg Seq.ph h :), (congrArg Seq.ch h :), (congrArg Seq.minOffRun h :), (congrArg Seq.retryDue h :), (congrArg Seq.droneLow h :)⟩

theorem fitPending_recordless (p : List PendingRec) (n m : Nat) : recordless (fitPending s p n m).2.seq = recordless s.seq := by
  simp only [fitPending]
  (repeat' split) <;> rfl

theorem startSeqWrite_recordless : recordless (startSeqWrite s).seq = recordless s.seq := by
  unfold startSeqWrite
  (repeat' split) <;> rfl

theorem storePending_recordless (r : PendingRec) : recordless (storePending s r).seq = recordless s.seq := by
  have h := fitPending_recordless (s := s) s.seq.pend (if r.compact.isEmpty then 8 else 7) (if r.snap.isSome then 1 else 2)
  unfold storePending
  revert h
  rcases fitPending s s.seq.pend (if r.compact.isEmpty then 8 else 7) (if r.snap.isSome then 1 else 2) with ⟨p, u⟩
  exact id

theorem putRecord_recordless (r : PendingRec) : recordless (putRecord s r).seq = recordless s.seq := by
  rw [putRecord, startSeqWrite_recordless, storePending_recordless]

/-- With every rail off no power command waits any more. -/
theorem endWaiters_faultOff (h : s.seq.ph = .faultOff) (f : Option Nat) : (endWaiters s f).seq = { s.seq with waiters := [] } := by
  have hw : s.seq.waiters.filter (waitsOn s) = [] := List.filter_eq_nil_iff.mpr fun w _ => by simp [waitsOn, h]
  rw [endWaiters_seq, hw]

/-- Every rail off: no channel is enabled, and SEQ_MIN_OFF runs before the retry that is due (R125, R131). -/
theorem allOff_parts : (∀ n, (chRun (allOff s).seq n).en = false) ∧ (allOff s).seq.ph = .faultOff ∧ (allOff s).seq.minOffRun = true ∧
    (allOff s).seq.retryDue = true ∧ (allOff s).seq.droneLow = true := by
  refine ⟨fun n => ?_, rfl, rfl, rfl, rfl⟩
  simp only [allOff, modSeq, chRun, List.getD_eq_getElem?_getD, List.getElem?_map]
  cases (releaseCharger s).seq.ch[n]? <;> rfl

theorem allOff_saf : (allOff s).saf = { s.saf with charger := false, gate := false } := rfl

/-- What a rail fault comes to, behind the levels that it is decided on and the record of them. -/
theorem execRailFault_next {ch : Fin 8} {pgs : BitVec 8} (hm : (chRun s.seq ch.val).monitored = true)
    (hph : s.seq.ph = .up ∨ s.seq.ph = .running ∨ s.seq.ph = .down) (hpg : pgs.toNat.testBit ch.val = false) :
    ∃ (v : State) (p : PendingRec), exec (.railFault ch pgs) s = .next (seqDone (wakeSource
      (endWaiters (putRecord (allOff (assertDisch (raiseFault v) 2)) p) (some ch.val)) 11)) := by
  have hgo : ¬ ((!(chRun s.seq ch.val).monitored) = true ∨ (s.seq.ph ≠ .up ∧ s.seq.ph ≠ .running ∧ s.seq.ph ≠ .down) ∨
      pgs.toNat.testBit ch.val = true) := by
    simp only [hm, hpg]
    rcases hph with h | h | h <;> simp [h]
  show ∃ v p, execRailFault ch pgs s = _
  unfold execRailFault
  extract_lets q s1 a
  rw [if_neg hgo]
  rcases capture s1 a ⟨false, true, true, abortDriven s1.seq⟩ with ⟨p, w⟩
  exact ⟨railLost w ch.val, p, rfl⟩

theorem raiseFault_fault : (raiseFault s).fife.fault = true :=
  congrArg Prod.fst (haltTicket_gates (s := { s with fife := { s.fife with fault := true } }) 4)

/-- Settles O51: every rail is off behind the record, DISCH and the fault level. -/
theorem railFaultCutsEverything : Obligations.RailFaultCutsEverything := by
  unfold Obligations.RailFaultCutsEverything
  intro ch pgs s hmon hph hpg
  obtain ⟨v, p, hv⟩ := execRailFault_next hmon hph hpg
  obtain ⟨hen, hoff, hmin, hretry, hdrone⟩ := allOff_parts (s := assertDisch (raiseFault v) 2)
  obtain ⟨hp1, hp2, hp3, hp4, hp5⟩ := eq_of_recordless (putRecord_recordless (s := allOff (assertDisch (raiseFault v) 2)) p)
  have hoff' := hp1.trans hoff
  have hseq := endWaiters_faultOff hoff' (some ch.val)
  obtain ⟨hd, hr, -, -⟩ := assertDisch_parts (s := raiseFault v) 2
  have hsaf : (endWaiters (putRecord (allOff (assertDisch (raiseFault v) 2)) p) (some ch.val)).saf =
      { (assertDisch (raiseFault v) 2).saf with charger := false, gate := false } := by
    rw [← allOff_saf]
    simp
  have hfife : (endWaiters (putRecord (allOff (assertDisch (raiseFault v) 2)) p) (some ch.val)).fife.fault = true := by
    have h := congrArg Prod.fst (assertDisch_gates (s := raiseFault v) 2)
    simp only [gates, raiseFault_fault] at h
    simpa using h
  refine ⟨_, hv, fun n => ?_, ?_, ?_, ?_, ?_, ?_, ?_, ?_, ?_, hfife⟩
  · rw [hseq]
    have h := hen n
    simp only [chRun] at h ⊢
    rw [hp2]
    exact h
  · rw [hseq]
    exact hoff'
  · rw [hseq]
    exact hp3.trans hmin
  · rw [hseq]
    exact hp4.trans hretry
  · rw [hseq]
    exact hp5.trans hdrone
  · rw [hseq]
  · rw [hsaf]
    exact hd
  · rw [hsaf]
    show (assertDisch (raiseFault v) 2).saf.reasons.toNat.testBit 2 = true
    rw [hr]
    exact testBit_or_ofNat _ (by decide)
  · rw [hsaf]

end Sys2Proof.Machine
end

section
/-! SUPPORT and REFUTATION of O52. What moves the rails lets no power command begin to wait (R123 to R149). -/

namespace Sys2Proof.Machine

variable {s : State}

/-! ### What moves the rails lets no power command begin to wait -/

theorem endWaiters_unwaited (f : Option Nat) (h : s.seq.waiters = []) : (endWaiters s f).seq.waiters = [] := by
  rw [endWaiters_seq, h]
  rfl

@[simp] theorem assertDisch_waiters (k : Nat) : (assertDisch s k).seq.waiters = s.seq.waiters := by
  simp [assertDisch, releaseCharger]

@[simp] theorem releaseCh_waiters (n : Nat) : (releaseCh s n).seq.waiters = s.seq.waiters := by
  simp only [releaseCh]
  split <;> rfl

theorem walk_unwaited {k : Nat} (h : s.seq.waiters = []) : (walk k s).seq.waiters = [] := by
  induction k generalizing s with
  | zero => exact h
  | succ k ih =>
    simp only [walk]
    (repeat' split)
    · exact h
    · exact ih h
    · exact endWaiters_unwaited _ h
    · exact h
    · exact ih h
    · exact h
    · exact (releaseCh_waiters _).trans h
    · exact ih ((releaseCh_waiters _).trans h)

theorem droneOff_waiters (q : Seq) : (droneOff q).waiters = q.waiters := by
  simp only [droneOff]
  (repeat' split) <;> rfl

theorem startFull_unwaited (h : s.seq.waiters = []) : (startFull s).seq.waiters = [] := by
  refine walk_unwaited ?_
  simpa [modSeq, droneOff_waiters] using h

theorem partialToFull_unwaited (h : s.seq.waiters = []) : (partialToFull s).seq.waiters = [] := by
  refine walk_unwaited ?_
  simpa [modSeq, droneOff_waiters] using h

theorem offRequest_unwaited (h : s.seq.waiters = []) : (offRequest s).seq.waiters = [] := by
  simp only [offRequest]
  (repeat' split)
  · exact startFull_unwaited h
  · exact startFull_unwaited h
  · exact partialToFull_unwaited h
  all_goals exact h

theorem applyNextCfg_waiters : (applyNextCfg s).seq.waiters = s.seq.waiters := by
  simp only [applyNextCfg, applyCfg]
  split <;> simp

theorem startPartial_unwaited (m : BitVec 8) (h : s.seq.waiters = []) : (startPartial s m).seq.waiters = [] := by
  simp only [startPartial]
  (repeat' split)
  · exact h
  · exact h
  · exact walk_unwaited (applyNextCfg_waiters.trans h)

theorem partialDue_unwaited (h : s.seq.waiters = []) : (partialDue s).seq.waiters = [] := by
  simp only [partialDue]
  split
  · exact h
  · exact startPartial_unwaited _ h

theorem settle_waiters (k : Nat) (q : Seq) : (settle k q).waiters = q.waiters := by
  induction k generalizing q with
  | zero => rfl
  | succ k ih =>
    simp only [settle]
    (repeat' split)
    · rfl
    · rw [ih, enableCh]
      split <;> rfl
    · rfl
    · rfl
    · rfl
    · rw [ih, enterState]

theorem seqAdvance_unwaited (h : s.seq.waiters = []) : (seqAdvance s).seq.waiters = [] := by
  have hs : (dropHisGate (modSeq s (settle settleFuel))).seq.waiters = [] := by
    rw [dropHisGate_seq]
    exact (settle_waiters _ _).trans h
  simp only [seqAdvance]
  split
  · exact endWaiters_unwaited _ hs
  · exact hs

theorem startUp_unwaited (h : s.seq.waiters = []) : (startUp s).seq.waiters = [] := seqAdvance_unwaited h

theorem leaveFaultOff_unwaited (h : s.seq.waiters = []) : (leaveFaultOff s).seq.waiters = [] := by
  simp only [leaveFaultOff]
  (repeat' split)
  · exact h
  · exact startUp_unwaited h
  · exact startUp_unwaited h
  · exact h

theorem onRequest_unwaited (h : s.seq.waiters = []) : (onRequest s).seq.waiters = [] := by
  simp only [onRequest]
  (repeat' split)
  · exact h
  · exact h
  · exact h
  · exact startUp_unwaited h
  · exact h
  · exact h
  · exact leaveFaultOff_unwaited h
  · exact h

theorem startPartialUp_unwaited (h : s.seq.waiters = []) : (startPartialUp s).seq.waiters = [] := by
  simp only [startPartialUp]
  split
  · exact h
  · exact seqAdvance_unwaited (applyNextCfg_waiters.trans h)

theorem railsUp_unwaited (h : s.seq.waiters = []) : (railsUp s).seq.waiters = [] := by
  simp only [railsUp]
  split
  · exact onRequest_unwaited h
  · exact startPartialUp_unwaited h

/-! ### Entries, moves and resets -/

theorem hibRails_unwaited (h : s.seq.waiters = []) : (hibRails s).seq.waiters = [] := by
  simp only [hibRails]
  split
  · exact offRequest_unwaited h
  · exact startPartial_unwaited _ h

theorem mainLost_waiters : (mainLost s).seq.waiters = [] := rfl

theorem moveCommit_waiters : (moveCommit s).seq.waiters = [] := rfl

theorem cloveStart_unwaited (aux : Half) (h : s.seq.waiters = []) : (cloveStart s aux).seq.waiters = [] := by
  unfold cloveStart
  extract_lets hold trimmed r c p d q s1 s2
  have h2 : s2.seq.waiters = [] := by simpa [s2, s1, q] using h
  split
  · exact onRequest_unwaited h2
  · exact h2

theorem fullReset_waiters : (fullReset s).seq.waiters = [] := by
  unfold fullReset
  extract_lets u r
  generalize u = v
  exact cloveStart_unwaited _ rfl

theorem hibCommit_waiters : (hibCommit s).seq.waiters = [] := by
  unfold hibCommit
  extract_lets u1 u2 u3 u4 u5 u6
  have h6 : u6.seq.waiters = [] := by
    simp only [u6, stopHub]
    exact mainLost_waiters
  clear_value u6
  exact hibRails_unwaited h6

theorem napCommit_unwaited (e : Entry) (h : s.seq.waiters = []) : (napCommit s e).seq.waiters = [] := by
  unfold napCommit
  extract_lets u1 u2 u3 u4 u5 u6 u7 u8 u9
  have h3 : u3.seq = s.seq := by
    simp [u3, u2, u1]
  have h8 : u8.seq.waiters = [] := by
    have h7 : u7.seq = u3.seq := by
      simp only [u7]
      split <;> simp [u6, u5]
    simp only [u8, releaseCharger, h7, h3, h]
  have h9 : u9.seq.waiters = [] := by simpa [u9] using h8
  clear_value u9
  exact startPartial_unwaited _ h9

theorem startMove_unwaited (h : s.seq.waiters = []) : (startMove s).seq.waiters = [] :=
  hibRails_unwaited (s := { assertDisch s 4 with pwr := { (assertDisch s 4).pwr with moveDue := false } }) (by simpa using h)

theorem commitMove_unwaited (h : s.seq.waiters = []) : (commitMove s).seq.waiters = [] := by
  simp only [commitMove]
  split
  · exact h
  · exact moveCommit_waiters

theorem moveOn_unwaited (h : s.seq.waiters = []) : (moveOn s).seq.waiters = [] := by
  simp only [moveOn]
  (repeat' split)
  · exact commitMove_unwaited h
  · exact h
  · exact commitMove_unwaited (startMove_unwaited h)

theorem startNapWake_unwaited (h : s.seq.waiters = []) : (startNapWake s).seq.waiters = [] := by
  simp only [startNapWake]
  split
  · exact h
  · exact railsUp_unwaited h

theorem startHibWake_unwaited (h : s.seq.waiters = []) : (startHibWake s).seq.waiters = [] := by
  refine railsUp_unwaited ?_
  simpa using h

theorem powerDue_unwaited (h : s.seq.waiters = []) : (powerDue s).seq.waiters = [] := by
  have hd := partialDue_unwaited h
  simp only [powerDue]
  (repeat' split)
  · exact hd
  · exact fullReset_waiters
  · exact moveOn_unwaited hd
  · exact moveOn_unwaited (by simpa using hd)
  · exact hd
  · exact startNapWake_unwaited hd
  · exact startHibWake_unwaited hd
  · exact hd

theorem tryEnter_unwaited (h : s.seq.waiters = []) : (tryEnter s).seq.waiters = [] := by
  unfold tryEnter
  extract_lets u
  have hu : u.seq.waiters = [] := by
    simp only [u]
    split <;> simpa using h
  split
  · exact hu
  · split
    · exact hu
    · extract_lets u1 u2 u3
      have h3 : u3.seq.waiters = [] := by simpa [u3, u2, u1] using hu
      split
      · exact hibCommit_waiters
      · exact napCommit_unwaited _ h3

/-! ### What comes after a command -/

@[simp] theorem startCal_seq (a : Action) : (startCal s a).seq = s.seq := by
  simp only [startCal]
  (repeat' split) <;> simp

@[simp] theorem startAction_seq (a : Action) : (startAction s a).seq = s.seq := by
  simp only [startAction]
  (repeat' split) <;> simp [failAction]

@[simp] theorem autoAction_seq (o : Half) (p : List Byte) : (autoAction s o p).seq = s.seq := startAction_seq _

@[simp] theorem autoSpit_seq : (autoSpit s).seq = s.seq := autoAction_seq _ _

@[simp] theorem postBand_seq (n id : Nat) : (postBand s n id).seq = s.seq := rfl

@[simp] theorem startTicket_seq (j : Job) : (startTicket s j).seq = s.seq := by
  simp only [startTicket]
  (repeat' split) <;> simp

@[simp] theorem boundary_seq : (boundary s).seq = s.seq := by
  simp only [boundary]
  (repeat' split) <;> simp

@[simp] theorem schedule_seq : (schedule s).seq = s.seq := by
  have hb (k : Nat) (u : State) : (boundaries k u).seq = u.seq := by
    induction k generalizing u with
    | zero => rfl
    | succ k ih => exact (ih _).trans boundary_seq
  exact hb _ s

theorem deferredOff_unwaited (h : s.seq.waiters = []) : (deferredOff s).seq.waiters = [] := by
  have hp := powerDue_unwaited (s := seqReq s 0x0504 offRequest) (offRequest_unwaited h)
  simp only [deferredOff]
  split
  · exact endWaiters_unwaited _ hp
  · exact hp

theorem afterTicket_unwaited (h : s.seq.waiters = []) : (afterTicket s).seq.waiters = [] := by
  unfold afterTicket
  split
  · exact h
  · extract_lets f u x v
    have hu : u.seq.waiters = [] := by
      simp only [u]
      split <;> simpa using h
    have hv : v.seq.waiters = [] := by
      simp only [v]
      split
      · exact deferredOff_unwaited hu
      · exact hu
    rw [schedule_seq]
    exact tryEnter_unwaited hv

theorem updateCharger_unwaited (h : s.seq.waiters = []) : (updateCharger s).seq.waiters = [] := by
  have he : (energyRun s).2.seq = s.seq := by
    simp only [energyRun]
    (repeat' split) <;> rfl
  unfold updateCharger
  split
  · exact h
  · revert he
    rcases energyRun s with ⟨run, u⟩
    intro he
    have hu : u.seq.waiters = [] := (congrArg Seq.waiters he).trans h
    show (if chargerAllowed u && !run && coreRuns u then (if u.saf.charger then u else dropHisGate (seqReq u 0 enableCharger))
      else if u.saf.charger then (if coreRuns u then seqReq u 0 releaseCharger else releaseCharger u) else u).seq.waiters = []
    (repeat' split)
    · exact hu
    · rw [dropHisGate_seq]
      exact hu
    · exact hu
    · exact hu
    · exact hu

theorem seqDone_unwaited (h : s.seq.waiters = []) : (seqDone s).seq.waiters = [] :=
  afterTicket_unwaited (updateCharger_unwaited (powerDue_unwaited h))

/-! ### A deferred off request outlives an up-sequence -/

/-- A job that prints. -/
def printingJob : Job :=
  { id := 1, ctx := 1, raw := false, raster := false, st := .printing, prio := 1, hold := 0, hostRef := 0, reprint := 0, holdFlag := false,
    lines := 1, fired := 0, desc := [], params := [], bands := [], cut := 0, dec := none, wait := false, planned := 0, rendAt := 0,
    rendLeft := 0, banner := false, reprintDue := false, cancelling := false, aged := false, detail := 0 }

/-- In state 14 of DRONE mode, with the line released, a deferred PWR_OFF still waits for the ticket that prints. -/
def offDeferred : State :=
  { State.reset with
    seq := { State.reset.seq with
      cfg := { State.reset.seq.cfg with drone := true }
      ph := .up, state := 14, drone := 14, droneLow := false, waiters := [(0x0504, 1, 0)] }
    saf := { State.reset.saf with deferOff := true }
    jobs := { State.reset.jobs with live := [printingJob] } }

/-- The rising edge of state 14 leaves the deferred request waiting. -/
theorem droneRise_offDeferred : exec .droneRise offDeferred =
    .next (seqDone (endWaiters (modSeq offDeferred (fun q => reachRunning { q with droneLine := true, drone := 15, state := 15 })) none)) := rfl

/-- Refutes O52: at the rising edge of state 14 a deferred PWR_OFF still waits for the ticket that prints, and nothing that follows
ends its wait. -/
theorem not_tripsDroneAndRecords : ¬ Obligations.TripsDroneAndRecords := by
  unfold Obligations.TripsDroneAndRecords
  intro h
  obtain ⟨-, -, hd, -⟩ := h
  obtain ⟨-, hrise, -⟩ := hd offDeferred rfl rfl rfl
  obtain ⟨u, hu, -, -, hw⟩ := hrise rfl rfl rfl
  rw [droneRise_offDeferred] at hu
  have hn := seqDone_unwaited hw
  rw [← Host.Outcome.next.inj hu] at hn
  exact absurd hn (by decide)

end Sys2Proof.Machine
end

section
/-! REFUTATION of O53. -/

namespace Sys2Proof.Machine

/-- Saffron's channel stands enabled while the gate is shut. -/
def gateAstray : State :=
  { State.reset with seq := { State.reset.seq with
      cfg := { State.reset.seq.cfg with saffron := 0xFF }
      frozen := false
      ch := List.replicate 8 { ChRun.off with en := true, released := true } } }

/-- CHG_GATE's slot writes the shut gate again, which releases the channel. -/
theorem chgGateSlot_gateAstray : exec .chgGateSlot gateAstray =
    .next { gateCharger gateAstray false with saf := { (gateCharger gateAstray false).saf with slotEnergy := 0 } } := rfl

/-- Refutes O53: a gate that stays shut leaves the sequencer as it is only where its channel is released already. -/
theorem not_saffronAndDisch : ¬ Obligations.SaffronAndDisch := by
  unfold Obligations.SaffronAndDisch
  intro h
  obtain ⟨-, -, -, -, hslot, -⟩ := h.1 gateAstray
  obtain ⟨q, x, he, -, -, hkept, -⟩ := hslot rfl
  obtain ⟨rfl, -⟩ := hkept rfl
  rw [chgGateSlot_gateAstray] at he
  have hen : false = true := congrArg (fun t : State => (chRun t.seq 3).en) (Host.Outcome.next.inj he)
  exact Bool.false_ne_true hen

end Sys2Proof.Machine
end

section
/-! SUPPORT and PROOF of O56. Cuts, homing, and the faults of the motors (R88, R298, R401 to R414). -/

namespace Sys2Proof.Machine

variable {s : State}

/-! ### The motors -/

/-- The motors' levels: _EN, what is disabled, and what is faulted. -/
def motors (m : Motion) : BitVec 3 × BitVec 3 × BitVec 3 := (m.en, m.disabled, m.flt)

@[simp] theorem stopFeed_motors (u : FeedUse) : motors (stopFeed s u).motion = motors s.motion := rfl

@[simp] theorem slowDown_motors (u : FeedUse) : motors (slowDown s u).motion = motors s.motion := by
  simp only [slowDown]
  split <;> rfl

@[simp] theorem haltTicket_motors (c : Nat) : motors (haltTicket s c).motion = motors s.motion := by
  simp only [haltTicket]
  (repeat' split) <;> simp [motors, stopFeed, slowDown]
  all_goals (repeat' split) <;> simp

@[simp] theorem cutFails_motors : motors (cutFails s).motion = motors s.motion := by
  simp only [cutFails]
  (repeat' split) <;> simp [motors, setCutHome]

@[simp] theorem cutHeadFires_motors (a : Action) : motors (cutHeadFires s a).motion = motors s.motion := by
  unfold cutHeadFires
  split
  · rfl
  · simp [motors]

@[simp] theorem endCal_motors (d i : Nat) : motors (endCal s d i).motion = motors s.motion := by
  simp only [endCal]
  split
  · rfl
  · simp [refuseCal]

@[simp] theorem bladeFails_motors (c : Nat) : motors (bladeFails s c).motion = motors s.motion := by
  simp only [bladeFails]
  (repeat' split) <;> simp [motors, stopFeed, slowDown]
  all_goals (repeat' split) <;> simp

@[simp] theorem faultUser_motors (m : Nat) : motors (faultUser s m).motion = motors s.motion := by
  unfold faultUser
  split
  · simp
  · split
    · extract_lets x v
      split
      · exact endCal_motors (s := v) _ _
      · rfl
    · split
      · simp
      · split
        · (split <;> simp)
          rfl
        · rfl

/-- What else a driver's fault leaves: DISCH, and the rails. -/
@[simp] theorem bladeFails_dischSide (c : Nat) : dischSide (bladeFails s c).saf = dischSide s.saf := by
  simp only [bladeFails, ticketOver]
  (repeat' split) <;> simp [dischSide]

theorem faultUser_dischSide (m : Nat) : dischSide (faultUser s m).saf = dischSide s.saf := by
  unfold faultUser
  split
  · simp
  · split
    · extract_lets x v
      split
      · exact endCal_dischSide (s := v) _ _
      · rfl
    · split
      · simp
      · split
        · split <;> simp
        · rfl

/-! ### The ticket -/

theorem printingTicket_of_noTicket (h : s.saf.ticket = none) : printingTicket s = none := by simp [printingTicket, h]

theorem printingTicket_congr {t : State} (ht : t.saf.ticket = s.saf.ticket) (hj : t.jobs = s.jobs) : printingTicket t = printingTicket s := by
  simp only [printingTicket, ht, jobOf, hj]

theorem haltTicket_printing (c : Nat) : printingTicket (haltTicket s c) = none := by
  cases ht : s.saf.ticket with
  | none =>
    have hs : haltTicket s c = s := by simp only [haltTicket, ht]
    rw [hs]
    exact printingTicket_of_noTicket ht
  | some t =>
    cases hj : jobOf s t.job with
    | none =>
      have hs : haltTicket s c = s := by simp only [haltTicket, ht, hj]
      rw [hs]
      simp [printingTicket, ht, hj]
    | some j =>
      by_cases hp : j.st = .printing
      · refine printingTicket_of_noTicket ?_
        simp only [haltTicket, ht, hj, hp]
        rfl
      · have hs : haltTicket s c = s := by simp [haltTicket, ht, hj, hp]
        rw [hs]
        simp [printingTicket, ht, hj, hp]

theorem bladeFails_printing (c : Nat) (h : printingTicket s = none) : printingTicket (bladeFails s c) = none := by
  unfold bladeFails
  split
  · exact h
  · refine printingTicket_of_noTicket ?_
    simp only [ticketOver]
    split <;> simp

/-- A fault of the feed's driver leaves no ticket printing (R414). -/
theorem faultUser_printing : printingTicket (faultUser s 0) = none := by
  unfold faultUser
  rw [if_neg (by decide), if_neg (by simp)]
  split
  · exact haltTicket_printing _
  · next hp =>
    have hn : printingTicket s = none := by simpa using hp
    rw [if_pos rfl]
    split
    · exact bladeFails_printing _ hn
    all_goals exact hn

/-! ### Cuts -/

theorem settleWaiting_idle (h : s.fife.waiting = none) : settleWaiting s = s := by simp only [settleWaiting, h]

theorem jobOf_finishJob {id d : Nat} {st : JobSt} : jobOf (finishJob s id st d) id = none := by
  rw [finishJob, jobOf_retireJob, if_pos rfl]

theorem finishJob_finished {id d : Nat} {st : JobSt} {j : Job} (h : jobOf s id = some j) :
    ∃ f : Finished, (finishJob s id st d).jobs.finished.head? = some f ∧ f.id = id ∧ f.st = st := by
  have hj : jobOf (setJobState s id st d) id = some (setTo st d 0 j) := by
    rw [setJobState, jobOf_setJobHeld, if_pos rfl, h]
    rfl
  simp only [finishJob, retireJob, hj]
  exact ⟨_, rfl, (jobOf_id h :), rfl⟩

/-- The end of a ticket: its job is finished, and nothing of it is left in Saffron (R298). -/
theorem finishTicket_parts {t : Ticket} {j : Job} {st : JobSt} (hj : jobOf s t.job = some j) :
    jobOf (finishJob (ticketOver s) j.id st 0) j.id = none ∧ (finishJob (ticketOver s) j.id st 0).saf.ticket = none ∧
    (finishJob (ticketOver s) j.id st 0).motion = s.motion ∧
    ∃ f : Finished, (finishJob (ticketOver s) j.id st 0).jobs.finished.head? = some f ∧ f.id = j.id ∧ f.st = st := by
  have hj' : jobOf (ticketOver s) j.id = some j := by
    rw [jobOf_id hj, jobOf_of_jobs (s := s) (by simp)]
    exact hj
  exact ⟨jobOf_finishJob, by simp [ticketOver], by simp, finishJob_finished hj'⟩

theorem cutFails_parts {kind : Nat} {stub : Bool} (h : s.motion.cutting = some (kind, stub)) :
    (cutFails s).motion.cutting = none ∧ (cutFails s).motion.homingCut = true ∧ (cutFails s).motion.cutIn = homeActive s 0 false ∧
    (stub = false → (cutFails s).saf.ticket = none) := by
  cases stub with
  | true => simp [cutFails, h, setCutHome, homeActive]
  | false =>
    cases ht : s.saf.ticket <;> simp [cutFails, h, ht, setCutHome, homeActive]

/-- CUT_HOME, kept as it reads. -/
def cutSeen (s : State) (level : Bool) : State := { s with motion := { s.motion with cutIn := level } }

/-- An active CUT_HOME ends the cycle of a cutter that does not stand. -/
theorem execCutHomeSeen_ends {level : Bool} (ha : homeActive s 0 level = true) (hs : cutterStands s = false) :
    exec (.cutHomeSeen level) s = .next (endCut (cutSeen s level)) := by
  have hy : (cutHome (cutSeen s level) && !cutterStands (cutSeen s level)) = true :=
    Bool.and_eq_true_iff.mpr ⟨ha, congrArg Bool.not hs⟩
  exact congrArg Host.Outcome.next (if_pos hy)

theorem endCut_stub {kind n m : Nat} {rest : List (Nat × Nat × Bool)} (hc : s.motion.cutting = some (kind, true))
    (hst : s.motion.stubs = (n, m, false) :: rest) : endCut s = afterTicket { s with motion := { s.motion with
      cutting := none, stroke := 0, cutIn := homeActive s 0 true, stubs := rest } } := by
  simp [endCut, hc, hst, setCutHome, homeActive]

theorem endCut_ticket {kind : Nat} {t : Ticket} {j : Job} (hc : s.motion.cutting = some (kind, false)) (ht : s.saf.ticket = some t)
    (hj : jobOf s t.job = some j) : endCut s = endTicketJob { s with motion := { s.motion with
      cutting := none, stroke := 0, cutIn := homeActive s 0 true } } j := by
  have hj' : jobOf { s with motion := { s.motion with cutting := none, stroke := 0, cutIn := homeActive s 0 true } } t.job = some j := hj
  simp only [endCut, hc, setCutHome, ht]
  exact (congrArg (fun o : Option Job => match o with
    | none => afterTicket { s with motion := { s.motion with cutting := none, stroke := 0, cutIn := homeActive s 0 true } }
    | some j => endTicketJob { s with motion := { s.motion with cutting := none, stroke := 0, cutIn := homeActive s 0 true } } j) hj' :)

/-! ### Homing -/

theorem uncap_uncapped (h : s.motion.capped = false) : uncap s = s := by simp [uncap, h]

/-- A home input, kept as it reads. -/
def homeSeen (s : State) (m : Fin 2) (level : Bool) : State :=
  { s with motion := if m.val = 0 then { s.motion with cutIn := level } else { s.motion with sledIn := level } }

theorem execHomingDone_ends {m : Fin 2} {level : Bool} (hr : coreRuns s = true) (hp : s.pwr.st = .run) (hd : s.saf.disch = false)
    (hm : s.motion.disabled = 0) (ha : homeActive s m.val level = true) : exec (.homingDone m level) s =
      .next (if m.val = 0 then endCutHoming (homeSeen s m level) else endSledHoming (homeSeen s m level)) := by
  have hd' : (homeSeen s m level).motion.disabled = 0 := by
    simp only [homeSeen]
    split <;> exact hm
  refine if_neg ?_
  change ¬ ((!coreRuns s) = true ∨ s.pwr.st ≠ .run ∨ s.saf.disch = true ∨
    (homeSeen s m level).motion.disabled.toNat.testBit (m.val + 1) = true ∨ (!homeActive s m.val level) = true)
  simp [hr, hp, hd, hd', ha]

/-- Where the core does not run in RUN, or what would move stands, the input is only kept. -/
theorem execHomingDone_stands {m : Fin 2} {level : Bool}
    (h : homeActive s m.val level = false ∨ coreRuns s = false ∨ s.pwr.st ≠ .run ∨ s.saf.disch = true ∨
      s.motion.disabled.toNat.testBit (m.val + 1) = true) : exec (.homingDone m level) s = .next (homeSeen s m level) := by
  have hd' : (homeSeen s m level).motion.disabled = s.motion.disabled := by
    simp only [homeSeen]
    split <;> rfl
  refine if_pos ?_
  change (!coreRuns s) = true ∨ s.pwr.st ≠ .run ∨ s.saf.disch = true ∨
    (homeSeen s m level).motion.disabled.toNat.testBit (m.val + 1) = true ∨ (!homeActive s m.val level) = true
  rw [hd']
  rcases h with h | h | h | h | h
  · exact .inr (.inr (.inr (.inr (congrArg Bool.not h))))
  · exact .inl (congrArg Bool.not h)
  · exact .inr (.inl h)
  · exact .inr (.inr (.inl h))
  · exact .inr (.inr (.inr (.inl h)))

/-! ### A driver's fault -/

/-- A driver's fault disables its motor, and touches neither the rails nor DISCH (R414). -/
theorem motorFails_parts (m : Fin 3) : motors (motorFails s m.val).motion =
      (s.motion.en &&& ~~~ BitVec.ofNat 3 (2 ^ m.val), s.motion.disabled ||| BitVec.ofNat 3 (2 ^ m.val), s.motion.flt) ∧
    (motorFails s m.val).seq = s.seq ∧ dischSide (motorFails s m.val).saf = dischSide s.saf ∧
    (m.val = 0 → printingTicket (motorFails s m.val) = none) := by
  refine ⟨(faultUser_motors _).trans (by simp [motors]), by simp [motorFails], (faultUser_dischSide _).trans (by simp), fun h0 => ?_⟩
  rw [h0]
  exact faultUser_printing

theorem wakeDoze_motors : (wakeDoze s).motion.disabled = s.motion.disabled ∧ (wakeDoze s).motion.flt = s.motion.flt := by
  simp only [wakeDoze, enterPstate]
  (repeat' split) <;> simp

/-- A driver's fault input, kept as it reads. -/
def faultSeen (s : State) (m : Fin 3) : State := { s with motion := { s.motion with flt := s.motion.flt ||| BitVec.ofNat 3 (2 ^ m.val) } }

/-- What a fault of an enabled motor leaves, where the core runs. -/
theorem faultSeen_fails (m : Fin 3) : (motorFails (wakeDoze (faultSeen s m)) m.val).motion.disabled.toNat.testBit m.val = true ∧
    (motorFails (wakeDoze (faultSeen s m)) m.val).motion.flt.toNat.testBit m.val = true ∧
    (motorFails (wakeDoze (faultSeen s m)) m.val).motion.en.toNat.testBit m.val = false ∧
    (motorFails (wakeDoze (faultSeen s m)) m.val).saf.disch = s.saf.disch := by
  obtain ⟨hm, -, hd, -⟩ := motorFails_parts (s := wakeDoze (faultSeen s m)) m
  obtain ⟨-, hw⟩ := wakeDoze_motors (s := faultSeen s m)
  simp only [motors, Prod.mk.injEq] at hm
  obtain ⟨he, hdis, hf⟩ := hm
  refine ⟨?_, ?_, ?_, ?_⟩
  · rw [hdis, testBit_or_pow _ m.isLt]
    simp
  · rw [hf, hw, faultSeen, testBit_or_pow _ m.isLt]
    simp
  · rw [he, testBit_and_not_pow _ m.isLt]
    simp
  · exact (congrArg Prod.fst hd).trans (by simp [dischSide, faultSeen])

/-- Settles O56: the cutter by the end of its cycle, the motors by what a fault and its release leave of them. -/
theorem cutsAndMotors : Obligations.CutsAndMotors := by
  unfold Obligations.CutsAndMotors
  refine ⟨fun s => ⟨fun kind feed re rest hd hw hm hc hf hs => ?_, fun t j hd hw hm hc hf ht hj hk => ?_, fun level h => ?_,
    fun level kind n m rest ha hs hc hst => ?_, fun level kind t j ha hs hc ht hj => ?_, fun kind stub hc => ?_, fun hc hh => ?_⟩,
    fun s => ⟨fun level hr hp hd hm hh ha => ?_, fun level hr hp hd hm hh hcap ha => ?_, fun level => ⟨fun h => ?_, fun h => ?_⟩,
    fun h => ?_, fun m hr hm => ?_, fun m hr => ?_, fun m hm => ?_, fun m hm => ?_⟩⟩
  · have : execCutPositionReached s = .next (startCut s kind true) := by
      simp [execCutPositionReached, hd, hm, hc, settleWaiting_idle hw, hf, hs]
    exact this
  · have : execCutPositionReached s = .next (startCut s (stubCut j.cut) false) := by
      simp [execCutPositionReached, hd, hm, hc, settleWaiting_idle hw, hf, ht, hj, hk]
    rw [stubCut, if_neg hk] at this
    exact this
  · have hn : (cutHome { s with motion := { s.motion with cutIn := level } } &&
        !cutterStands { s with motion := { s.motion with cutIn := level } }) = false := by
      rcases h with h | h
      · exact Bool.and_eq_false_iff.mpr (.inl h)
      · exact Bool.and_eq_false_iff.mpr (.inr (congrArg Bool.not h))
    exact congrArg Host.Outcome.next (if_neg (by rw [hn]; decide))
  · exact (execCutHomeSeen_ends ha hs).trans (congrArg Host.Outcome.next (endCut_stub (s := cutSeen s level) hc hst))
  · obtain ⟨h1, h2, h3, h4⟩ := finishTicket_parts (st := if j.cancelling then .cancelled else .done)
      (s := { s with motion := { s.motion with cutting := none, stroke := 0, cutIn := homeActive s 0 true } }) hj
    refine ⟨_, (execCutHomeSeen_ends ha hs).trans (congrArg Host.Outcome.next (endCut_ticket (s := cutSeen s level) hc ht hj)),
      h1, h2, ?_, ?_, ?_, h4⟩
    · exact congrArg Motion.cutIn h3
    · exact congrArg Motion.cutting h3
    · exact congrArg Motion.stroke h3
  · obtain ⟨h1, h2, h3, h4⟩ := cutFails_parts hc
    exact ⟨cutFails s, by simp [exec, execCutHomeTimeout, hc], h1, h2, h3, h4⟩
  · simp [exec, execCutHomeTimeout, hc, hh, setCutHome, homeActive]
  · refine (execHomingDone_ends (m := 0) hr hp hd hm ha).trans (congrArg Host.Outcome.next ?_)
    exact if_pos hh
  · refine (execHomingDone_ends (m := 1) hr hp hd hm ha).trans (congrArg Host.Outcome.next ?_)
    have he : endSledHoming (homeSeen s 1 level) =
        afterTicket (sledTo { homeSeen s 1 level with motion := { (homeSeen s 1 level).motion with homingSled := false } }
          (pv s.params 0x0732)) := by
      refine (if_neg (by simpa [homeSeen] using hh)).trans ?_
      rw [uncap_uncapped (by simpa [homeSeen] using hcap)]
      rfl
    refine he.trans (congrArg afterTicket ?_)
    simp only [sledTo, homeSeen, raiseEn]
    by_cases hsp : s.motion.sledPos = some (pv s.params 0x0732) <;> simp [hsp, hm, homeActive]
  · exact execHomingDone_stands (m := 0) h
  · exact execHomingDone_stands (m := 1) h
  · simp [exec, execSledHomeTimeout, h]
  · obtain ⟨h1, h2, h3, h4⟩ := faultSeen_fails (s := s) m
    obtain ⟨-, hseq, -, hprint⟩ := motorFails_parts (s := wakeDoze (faultSeen s m)) m
    refine ⟨_, if_neg ?_, h1, h2, h3, hprint, hseq.trans (by simp [faultSeen]), h4⟩
    rintro (h | h)
    · exact Bool.noConfusion (h.symm.trans (congrArg Bool.not hr))
    · exact Bool.noConfusion (h.symm.trans hm)
  · exact if_pos (.inl (congrArg Bool.not hr))
  · have hd : ¬ ((!s.motion.disabled.toNat.testBit m.val) = true) := by simp [hm]
    exact ⟨_, rfl, fun hr => (if_neg hd).trans (congrArg Host.Outcome.next (if_pos hr)),
      fun hr => (if_neg hd).trans (congrArg Host.Outcome.next (if_neg (Bool.eq_false_iff.mp hr)))⟩
  · simp [exec, execMotorEnIdleExpiry, hm]

end Sys2Proof.Machine
end

section
/-! SUPPORT and PROOF of O54. Edges, the yank monitor, and what a position fault and a yank leave of a ticket (R387 to R416).
-/

namespace Sys2Proof.Machine

variable {s u v : State} {e : Enc}

/-! ### What an edge touches -/

/-- Nothing but motion has changed. -/
def MotionOnly (s u : State) : Prop := { u with motion := s.motion } = s

theorem MotionOnly.trans (h : MotionOnly s u) (k : MotionOnly u v) : MotionOnly s v := by
  unfold MotionOnly at h k ⊢
  rw [← h, ← k]

theorem modEnc_motionOnly (n : Nat) (f : Enc → Enc) : MotionOnly s (modEnc s n f) := rfl

theorem countReject_motionOnly : MotionOnly s (countReject s) := rfl

theorem auxFollow_motionOnly : MotionOnly s (auxFollow s) := by
  simp only [auxFollow]
  (repeat' split) <;> rfl

theorem encOf_modEnc_same {n : Nat} {f : Enc → Enc} (h : s.motion.enc[n]? = some e) : encOf (modEnc s n f) n = f e := by
  simp [encOf, modEnc, modAt, h]

theorem encOf_modEnc_other {n k : Nat} {f : Enc → Enc} (h : k ≠ n) : encOf (modEnc s n f) k = encOf s k := by
  simp [encOf, modEnc, modAt, List.getD_eq_getElem?_getD, List.getElem?_modify, Ne.symm h]

theorem encOf_of_get {n : Nat} (h : s.motion.enc[n]? = some e) : encOf s n = e := by simp [encOf, h]

/-- What the feed leaves of an encoder: its counts, and the run of synthetic edges. -/
def counts (e : Enc) : Word × Word × Nat := (e.count, e.raw, e.synthRun)

theorem auxFollow_counts (n : Nat) : counts (encOf (auxFollow s) n) = counts (encOf s n) := by
  simp only [auxFollow]
  (repeat' split)
  · rfl
  · simp only [encOf, fromHere, stopFeed, List.getD_eq_getElem?_getD, List.getElem?_map]
    cases s.motion.enc[n]? <;> rfl
  · rfl

theorem settleLine_idle {t : Rat} (h : s.fife.waiting = none) : settleLine s t = s := by simp only [settleLine, h]

/-! ### A legal edge -/

/-- The encoder at an edge: its levels, and the count of edges. -/
def edgeRaw (s : State) (n : Nat) (a b : Bool) (forward : Bool) : Enc :=
  { encOf s n with a := a, b := b, raw := (encOf s n).raw + BitVec.ofInt 32 (if forward then 1 else -1), fwd := forward }

/-- The encoder with the edge counted, where it does not clock the lines, or taken or rejected. -/
def edgeTaken (s : State) (n : Nat) (a b : Bool) (forward : Bool) (t : Rat) : Enc × Bool :=
  if decide (n = clockEnc s) && encUsed s then acceptEdge s (edgeRaw s n a b forward) (if forward then 1 else -1) t
  else (stepCount (edgeRaw s n a b forward) (if forward then 1 else -1), false)

/-- The encoder as it stands after the yank monitor, and the monitor's answer. -/
def edgeWatched (s : State) (n : Nat) (a b : Bool) (forward : Bool) (t : Rat) : Enc × Option Nat :=
  if decide (n = 0) && (printingTicket s).isSome && pv s.params 0x0702 != 0 then yankWatch s (edgeTaken s n a b forward t).1 forward t
  else ((edgeTaken s n a b forward t).1, none)

/-- The edge put into the state. -/
def edgePut (s : State) (n : Nat) (e : Enc) (rejected : Bool) : State :=
  if n = 0 then auxFollow (if rejected then countReject (modEnc s n fun _ => e) else modEnc s n fun _ => e)
  else if rejected then countReject (modEnc s n fun _ => e) else modEnc s n fun _ => e

theorem edgePut_motionOnly (n : Nat) (e : Enc) (r : Bool) : MotionOnly s (edgePut s n e r) := by
  have h : MotionOnly s (if r then countReject (modEnc s n fun _ => e) else modEnc s n fun _ => e) := by
    split
    · exact (modEnc_motionOnly _ _).trans countReject_motionOnly
    · exact modEnc_motionOnly _ _
  unfold edgePut
  split
  · exact h.trans auxFollow_motionOnly
  · exact h

theorem edgePut_counts {n : Nat} {e0 : Enc} (h : s.motion.enc[n]? = some e0) (r : Bool) :
    counts (encOf (edgePut s n e r) n) = counts e := by
  have h' : encOf (if r then countReject (modEnc s n fun _ => e) else modEnc s n fun _ => e) n = e := by
    split
    · exact encOf_modEnc_same h
    · exact encOf_modEnc_same h
  unfold edgePut
  split
  · exact (auxFollow_counts n).trans (congrArg counts h')
  · exact congrArg counts h'

theorem legalEdge_eq {n : Nat} {a b forward : Bool} {t : Rat} (hw : s.fife.waiting = none) :
    legalEdge s n { encOf s n with a := a, b := b } forward t =
      (edgeWatched s n a b forward t).2.elim (edgePut s n (edgeWatched s n a b forward t).1 (edgeTaken s n a b forward t).2)
        (yank (edgePut s n (edgeWatched s n a b forward t).1 (edgeTaken s n a b forward t).2)) := by
  unfold legalEdge
  rw [settleLine_idle hw]
  have h : ∀ (o : Option Nat) (x : State), (match o with
      | some r => yank x r
      | none => x) = o.elim x (yank x) := fun o x => by cases o <;> rfl
  exact h (edgeWatched s n a b forward t).2 (edgePut s n (edgeWatched s n a b forward t).1 (edgeTaken s n a b forward t).2)

/-! ### The yank monitor -/

/-- What the yank monitor looks at. -/
def rawSide (e : Enc) : Word × Word × Word × Nat × Option Rat := (e.raw, e.furthest, e.stopPos, e.fastRun, e.lastRawT)

theorem acceptEdge_rawSide (d : Int) (t : Rat) : rawSide (acceptEdge s e d t).1 = rawSide e := by
  simp only [acceptEdge]
  (repeat' split) <;> rfl

theorem edgeTaken_rawSide (n : Nat) (a b forward : Bool) (t : Rat) :
    rawSide (edgeTaken s n a b forward t).1 = rawSide (edgeRaw s n a b forward) := by
  unfold edgeTaken
  split
  · exact acceptEdge_rawSide _ _
  · rfl

theorem yankWatch_raw (forward : Bool) (t : Rat) : (yankWatch s e forward t).1.raw = e.raw := by
  simp only [yankWatch]
  (repeat' split) <;> rfl

theorem inPass_web (h : carriage s = false) : inPass s = false := by simp [inPass, h]

/-- The third forward edge in a row that is too fast (R406). -/
theorem yankWatch_fast {t t0 : Rat} (hc : carriage s = false) (hr : s.motion.rate ≠ 0) (hf : e.fastRun = 2)
    (ht : e.lastRawT = some t0) (hq : t - t0 < periodNow s * 2 / 5) : (yankWatch s e true t).2 = some 1 := by
  simp [yankWatch, inPass_web hc, paperStopped, hr, hf, ht, hq]

/-- Four counts back from the furthest position (R406). -/
theorem yankWatch_back {t : Rat} (hc : carriage s = false) (h : 4 ≤ diff32 e.furthest e.raw) : (yankWatch s e false t).2 = some 2 := by
  simp [yankWatch, inPass_web hc, h]

/-- Four counts forward at a stop (R406). -/
theorem yankWatch_stopped {t : Rat} (hr : s.motion.rate = 0) (h : 4 ≤ diff32 e.raw e.stopPos) : (yankWatch s e true t).2 = some 2 := by
  cases ht : e.lastRawT <;> simp [yankWatch, inPass, paperStopped, hr, h, ht]

/-- Four counts either way in a pass of the carriage (R416). -/
theorem yankWatch_pass {t : Rat} {forward : Bool} (hp : inPass s = true)
    (h : 4 ≤ diff32 e.raw s.motion.passEnc ∨ 4 ≤ diff32 s.motion.passEnc e.raw) : (yankWatch s e forward t).2 = some 2 := by
  simp [yankWatch, hp, h]

/-- When the encoder's levels changed, by the filter's delay (R387). -/
def edgeStamp (s : State) (t : EncSeen) : Rat := ((t.cycle : Nat) : Rat) - ((edgeDelay s : Nat) : Rat)

theorem execEncoderEdge_legal {enc : Fin 2} {a b : Bool} {t : EncSeen} (he : s.motion.enc[enc.val]? = some e) (hr : coreRuns s = true)
    (hh : pv s.params 0x0704 ≤ t.held) (hm : (quadPlace a b + 4 - quadPlace e.a e.b) % 4 = 1 ∨ (quadPlace a b + 4 - quadPlace e.a e.b) % 4 = 3)
    (hn : (pv s.params 0x0703).testBit enc.val = false) : exec (.encoderEdge enc a b t) s =
      .next (legalEdge s enc.val { encOf s enc.val with a := a, b := b } ((quadPlace a b + 4 - quadPlace e.a e.b) % 4 == 1)
        (edgeStamp s t)) := by
  have h1 : ¬ (!coreRuns s) = true := by simp [hr]
  have h2 : ¬ ((quadPlace a b + 4 - quadPlace (encOf s enc.val).a (encOf s enc.val).b) % 4 = 0 ∨ t.held < pv s.params 0x0704) := by
    rw [encOf_of_get he]
    omega
  have h3 : ¬ (quadPlace a b + 4 - quadPlace (encOf s enc.val).a (encOf s enc.val).b) % 4 = 2 := by
    rw [encOf_of_get he]
    omega
  refine (if_neg h1).trans ((if_neg h2).trans ((if_neg h3).trans ?_))
  simp only [hn, Bool.bne_false, encOf_of_get he]
  rfl

/-- An edge of ENC0 that the yank monitor answers, while a ticket prints. -/
theorem encoderEdge_yanks {a b forward : Bool} {t : EncSeen} {k : Nat} (he : s.motion.enc[0]? = some e) (hr : coreRuns s = true)
    (hp : (printingTicket s).isSome = true) (h2 : pv s.params 0x0702 ≠ 0) (hn : (pv s.params 0x0703).testBit 0 = false)
    (hh : pv s.params 0x0704 ≤ t.held) (hw : s.fife.waiting = none)
    (hm : (quadPlace a b + 4 - quadPlace e.a e.b) % 4 = if forward then 1 else 3)
    (hy : ∀ x : Enc, rawSide x = rawSide { e with raw := e.raw + BitVec.ofInt 32 (if forward then 1 else -1) } →
      (yankWatch s x forward (edgeStamp s t)).2 = some k) :
    ∃ u, exec (.encoderEdge 0 a b t) s = .next (yank u k) ∧ (encOf u 0).raw = e.raw + BitVec.ofInt 32 (if forward then 1 else -1) ∧
      MotionOnly s u := by
  have hf : ((quadPlace a b + 4 - quadPlace e.a e.b) % 4 == 1) = forward := by
    rw [hm]
    cases forward <;> rfl
  have hex := execEncoderEdge_legal (enc := 0) (a := a) (b := b) he hr hh (by rw [hm]; cases forward <;> simp) hn
  have hraw := (edgeTaken_rawSide (s := s) 0 a b forward (edgeStamp s t)).trans
    (show rawSide (edgeRaw s 0 a b forward) = rawSide { e with raw := e.raw + BitVec.ofInt 32 (if forward then 1 else -1) } by
      simp [rawSide, edgeRaw, encOf_of_get he])
  have hwatch : edgeWatched s 0 a b forward (edgeStamp s t) =
      yankWatch s (edgeTaken s 0 a b forward (edgeStamp s t)).1 forward (edgeStamp s t) := if_pos (by simp [hp, h2])
  have hans := (congrArg Prod.snd hwatch).trans (hy _ hraw)
  refine ⟨edgePut s 0 (edgeWatched s 0 a b forward (edgeStamp s t)).1 (edgeTaken s 0 a b forward (edgeStamp s t)).2, ?_, ?_,
    edgePut_motionOnly _ _ _⟩
  · refine hex.trans (congrArg Host.Outcome.next ?_)
    rw [hf]
    refine (legalEdge_eq (n := 0) hw).trans ?_
    rw [hans]
    rfl
  · have hc := congrArg (fun c : Word × Word × Nat => c.2.1) (edgePut_counts (e := (edgeWatched s 0 a b forward (edgeStamp s t)).1) he
      (edgeTaken s 0 a b forward (edgeStamp s t)).2)
    refine hc.trans ?_
    rw [hwatch]
    exact (yankWatch_raw _ _).trans (congrArg Prod.fst hraw)

theorem countBack (w : Word) : w + BitVec.ofInt 32 (-1) = w - 1 := by
  rw [BitVec.sub_eq_add_neg]
  rfl

/-! ### The other encoder, missing edges, and what ends a ticket -/

/-- An edge of ENC1, which in web mode clocks no lines and is not watched. -/
theorem encoderEdge_counted {a b forward : Bool} {t : EncSeen} (he : s.motion.enc[1]? = some e) (hr : coreRuns s = true)
    (hc : carriage s = false) (hn : (pv s.params 0x0703).testBit 1 = false) (hh : pv s.params 0x0704 ≤ t.held)
    (hw : s.fife.waiting = none) (hm : (quadPlace a b + 4 - quadPlace e.a e.b) % 4 = if forward then 1 else 3) :
    exec (.encoderEdge 1 a b t) s = .next (modEnc s 1 fun _ => stepCount (edgeRaw s 1 a b forward) (if forward then 1 else -1)) := by
  have hf : ((quadPlace a b + 4 - quadPlace e.a e.b) % 4 == 1) = forward := by
    rw [hm]
    cases forward <;> rfl
  have hex := execEncoderEdge_legal (enc := 1) (a := a) (b := b) he hr hh (by rw [hm]; cases forward <;> simp) hn
  have ht : edgeTaken s 1 a b forward (edgeStamp s t) = (stepCount (edgeRaw s 1 a b forward) (if forward then 1 else -1), false) :=
    if_neg (by simp [clockEnc, hc])
  have hwatch : edgeWatched s 1 a b forward (edgeStamp s t) = ((edgeTaken s 1 a b forward (edgeStamp s t)).1, none) := if_neg (by simp)
  refine hex.trans (congrArg Host.Outcome.next ?_)
  rw [hf]
  refine (legalEdge_eq (n := 1) hw).trans ?_
  rw [hwatch, ht]
  rfl

theorem fireLine_printing (w : LateLine) (late : Bool) : (printingTicket (fireLine s w late)).isSome = (printingTicket s).isSome := by
  cases ht : s.saf.ticket with
  | none => simp [fireLine, printingTicket, ht, writeRecord, modEnc]
  | some k =>
    have hs : (fireLine s w late).saf = s.saf := by
      simp only [fireLine]
      (repeat' split) <;> rfl
    have hj : (jobOf (fireLine s w late) k.job).map (·.st) = (jobOf s k.job).map (·.st) := by
      simp only [fireLine]
      split
      · rfl
      · next x _ =>
        split
        · rfl
        · rw [jobOf_modJob (f := fun j => { j with fired := max j.fired (min (w.n + 1) (ticketLines x j)) }) fun _ h => h]
          split
          · next h => rw [h, Option.map_map]; rfl
          · rfl
    simp only [printingTicket, hs, ht]
    revert hj
    cases jobOf (fireLine s w late) k.job <;> cases jobOf s k.job <;> intro hj
    · rfl
    · simp at hj
    · simp at hj
    · next x y =>
      have hxy : x.st = y.st := by simpa using hj
      by_cases hp : y.st = .printing <;> simp [hxy, hp]

theorem settleLine_printing (t : Rat) : (printingTicket (settleLine s t)).isSome = (printingTicket s).isSome := by
  unfold settleLine
  split
  · split
    · exact fireLine_printing _ _
    · rfl
  · rfl

theorem settleLine_rate (t : Rat) : (settleLine s t).motion.rate = s.motion.rate := by
  simp only [settleLine, fireLine]
  (repeat' split) <;> rfl

theorem printingTicket_some {tk : Ticket} {j : Job} (h : printingTicket s = some (tk, j)) :
    s.saf.ticket = some tk ∧ jobOf s tk.job = some j ∧ j.st = .printing := by
  revert h
  unfold printingTicket
  cases ht : s.saf.ticket with
  | none => simp
  | some k =>
    cases hj : jobOf s k.job with
    | none => simp [hj]
    | some x =>
      simp only [hj]
      split
      · next hst =>
        intro h
        obtain ⟨rfl, rfl⟩ := Prod.mk.inj (Option.some.inj h)
        exact ⟨rfl, hj, hst⟩
      · simp

/-- The feed of a ticket that is halted, and the stub that it leaves (R396, R406). -/
theorem haltTicket_motion {tk : Ticket} {j : Job} (hp : printingTicket s = some (tk, j)) (c : Nat) :
    (haltTicket s c).saf.ticket = none ∧ (haltTicket s c).motion =
      { (if c == 2 || c == 5 || (carriage s && s.motion.feed == .ticket) then stopFeed s .idle else slowDown s .halt).motion with
        waitStill := s.motion.waitStill || c == 2 || c == 3
        stubs := s.motion.stubs ++ [(stubCut j.cut, pv s.params 0x0720, c == 3)] } := by
  obtain ⟨ht, hj, hst⟩ := printingTicket_some hp
  have hcar : carriage (interruptJob s tk.job c false) = carriage s := by simp [carriage]
  simp only [haltTicket, ht, hj, hst, ne_eq, not_true_eq_false, if_false, hcar]
  refine ⟨trivial, ?_⟩
  have hm : (interruptJob s tk.job c false).motion = s.motion := by simp
  have hk : (interruptJob s tk.job c false).clk = s.clk := by simp
  have hp : (interruptJob s tk.job c false).params = s.params := by simp
  generalize interruptJob s tk.job c false = v at hm hk hp
  simp only [slowDown, stopFeed, hm, now, hk, hp]
  (repeat' split) <;> simp [hm]

/-- The feed of a web that a position fault halts. -/
theorem haltTicket_web {tk : Ticket} {j : Job} (hp : printingTicket s = some (tk, j)) (hc : carriage s = false) :
    (haltTicket s 3).motion.posFault = s.motion.posFault ∧ (haltTicket s 3).motion.rate = s.motion.rate ∧
    (haltTicket s 3).motion.feed = (if s.motion.rate = 0 then .idle else .halt) ∧
    (s.motion.rate ≠ 0 → (haltTicket s 3).motion.slow.isSome) := by
  rw [(haltTicket_motion hp 3).2, if_neg (by simp [hc])]
  simp only [slowDown, stopFeed]
  split <;> simp_all

/-- What a position fault leaves of a ticket that prints: the ticket is interrupted, and its feed decelerates (R396). -/
theorem positionFault_parts (hc : carriage s = false) (hp : (printingTicket s).isSome = true) : ∃ u, positionFault s = afterTicket u ∧
    u.motion.posFault = true ∧ printingTicket u = none ∧ u.motion.rate = s.motion.rate ∧
    u.motion.feed = (if s.motion.rate = 0 then .idle else .halt) ∧ (s.motion.rate ≠ 0 → u.motion.slow.isSome) := by
  obtain ⟨⟨tk, j⟩, hp⟩ := Option.isSome_iff_exists.mp hp
  refine ⟨_, rfl, ?_⟩
  generalize hv : logTicket s 0x0702 (b8 (clockEnc s) :: b32 s.fife.lineCnt.toNat) = v
  have hm : v.motion = s.motion := by simp [← hv]
  have hcv : carriage v = false := by simpa [← hv, carriage] using hc
  have hpv : printingTicket { v with motion := { v.motion with posFault := true }, fife := { v.fife with waiting := none } } =
      some (tk, j) := (printingTicket_congr (s := s) (by simp [← hv]) (by simp [← hv])).trans hp
  obtain ⟨h1, h2, h3, h4⟩ := haltTicket_web hpv hcv
  have hf : faultFeed { v with motion := { v.motion with posFault := true }, fife := { v.fife with waiting := none } } =
      haltTicket { v with motion := { v.motion with posFault := true }, fife := { v.fife with waiting := none } } 3 :=
    if_pos (by rw [hpv]; rfl)
  rw [hf, ← hm]
  exact ⟨h1, haltTicket_printing _, h2, h3, h4⟩

/-! ### A missing edge -/

theorem settleLine_synthRun (t : Rat) (n : Nat) : (encOf (settleLine s t) n).synthRun = (encOf s n).synthRun := by
  have hm (f : Enc → Enc) (hf : ∀ e, (f e).synthRun = e.synthRun) (k : Nat) : (encOf (modEnc s k f) n).synthRun = (encOf s n).synthRun := by
    simp only [encOf, modEnc, modAt, List.getD_eq_getElem?_getD, List.getElem?_modify]
    cases s.motion.enc[n]? with
    | none => rfl
    | some e =>
      by_cases h : k = n <;> simp [h, hf]
  have hw (w : LateLine) : (fireLine s w true).motion.enc = (writeRecord s w true).motion.enc := by
    simp only [fireLine]
    (repeat' split) <;> rfl
  have hf (w : LateLine) : (encOf (fireLine s w true) n).synthRun = (encOf s n).synthRun := by
    rw [encOf, hw]
    exact hm (fun e => { e with
      synthSince := false, rejectSince := false, confirm := none
      extrapLines := if extrapolated s w.pos w.dir then e.extrapLines + 1 else e.extrapLines }) (fun _ => rfl) (clockEnc s)
  unfold settleLine
  split
  · split
    · exact hf _
    · rfl
  · rfl

/-- The synthetic edge, counted (R394). -/
def synthPut (s : State) (e : Enc) : State :=
  { modEnc s 0 (fun _ => e) with motion := { (modEnc s 0 (fun _ => e)).motion with
      synthCount := satInc32 s.motion.synthCount, synthInResync := true } }

/-- The state in which the limit of a missing edge is reached: the line that was to fire before it has fired. -/
def lateSettled (s : State) (t0 p : Rat) : State := settleLine s (t0 + p * ((pv s.params 0x0707 : Nat) : Rat) / 100)

theorem execLateLimitExpiry_web {p t0 : Rat} (he : s.motion.enc[0]? = some e) (hc : carriage s = false) (hu : encUsed s = true)
    (hcr : crawling s = false) (hp : pHat s e = some p) (ht : e.lastT = some t0) : exec .lateLimitExpiry s =
      .next (if (encOf (lateSettled s t0 p) 0).synthRun + 1 = 3 then
        positionFault (synthPut (lateSettled s t0 p) (syntheticEdge (lateSettled s t0 p) (encOf (lateSettled s t0 p) 0) p))
      else auxFollow (synthPut (lateSettled s t0 p) (syntheticEdge (lateSettled s t0 p) (encOf (lateSettled s t0 p) 0) p))) := by
  have hk : clockEnc s = 0 := by simp [clockEnc, hc]
  simp only [exec, execLateLimitExpiry, hk, hu, hcr, encOf_of_get he, hp, ht, Bool.not_true, Bool.false_eq_true, or_self, if_false]
  rfl

theorem rate_of_pHat {p : Rat} (h : pHat s e = some p) : s.motion.rate ≠ 0 := by
  intro hr
  simp [pHat, commandedPeriod, hr] at h

/-! ### Index edges -/

/-- A rising edge of an index, and the count that it is kept at. -/
def indexMarked (s : State) (n : Nat) : State :=
  modEnc (modEnc s n fun e => { e with i := true }) n fun e => { e with lastIndex := some e.count }

theorem encOf_indexMarked {n : Nat} (he : s.motion.enc[n]? = some e) :
    encOf (indexMarked s n) n = { e with i := true, lastIndex := some e.count } :=
  encOf_modEnc_same (s := modEnc s n fun e => { e with i := true }) (e := { e with i := true })
    (f := fun e => { e with lastIndex := some e.count }) (by simp [modEnc, modAt, he])

/-- A yank halts the ticket with its feed at rest at once (R406). -/
theorem yank_parts {k : Nat} {tk : Ticket} {j : Job} (hp : printingTicket s = some (tk, j)) : ∃ u, yank s k = afterTicket u ∧
    printingTicket u = none ∧ u.saf.ticket = none ∧ u.motion.feed = .idle ∧ u.motion.rate = 0 ∧ u.motion.slow = none ∧
    u.motion.waitStill = true ∧ u.motion.posFault = s.motion.posFault ∧
    u.motion.stubs = s.motion.stubs ++ [(stubCut j.cut, pv s.params 0x0720, false)] := by
  refine ⟨_, rfl, haltTicket_printing _, ?_⟩
  generalize hv : logTicket s 0x0701 (b8 k :: b32 s.fife.lineCnt.toNat) = v
  have hm : v.motion = s.motion := by simp [← hv]
  have hpar : v.params = s.params := by simp [← hv]
  obtain ⟨ht, hmo⟩ := haltTicket_motion ((printingTicket_congr (s := s) (t := v) (by simp [← hv]) (by simp [← hv])).trans hp) 2
  simp [hmo, ht, stopFeed, hm, hpar]

/-- Settles O54: each edge by the encoder that it leaves, each fault by the ticket that it halts. -/
theorem encodersAndCounts : Obligations.EncodersAndCounts := by
  unfold Obligations.EncodersAndCounts
  refine ⟨fun enc a b t s hr hh => ?_, fun enc a b t s e he hr => ?_, fun a b t s e he hr hc hn hh hw => ⟨fun hm => ?_, fun hm => ?_, fun hm => ?_⟩,
    fun s e p t0 he hc hu hcr hp ht hy hw => ?_, fun s e p t0 he hc hu hcr hp ht hy hpr => ?_, fun enc level t s hr hh => ?_,
    fun t s e he hr hh hi hf hc hu hx hl => ?_, fun t s e c he hr hh hi hf hc hu hx hl hd hp => ?_, fun s t0 v hs hb => ⟨fun hv => ?_, fun hv => ?_⟩,
    fun a b t s e tk j he hr hp h2 hn hh hw => ⟨fun hc hrate hm hfr ⟨t0, ht0, hq⟩ => ?_, fun hc hm hd => ?_, fun hrate hm hd => ?_,
      fun hpass hm => ?_⟩, fun s reason tk j hp => ?_, fun t s e he hr hh hi hc => ?_,
    fun s => ⟨fun hr hl hw => ?_, fun hst => ?_, fun hf => ?_⟩⟩
  · simp [exec, execEncoderEdge, hr, hh]
  · refine ⟨modEnc s enc.val (fun _ => { encOf s enc.val with a := a, b := b }), by simp [exec, execEncoderEdge, hr], ?_, rfl⟩
    rw [encOf_modEnc_same he, encOf_of_get he]
  · refine ⟨_, encoderEdge_counted (forward := true) he hr hc hn hh hw hm, ?_, ?_, ?_, ?_, encOf_modEnc_other (by decide), rfl⟩
    all_goals
      rw [encOf_modEnc_same he]
      simp [stepCount, edgeRaw, encOf_of_get he]
  · refine ⟨_, encoderEdge_counted (forward := false) he hr hc hn hh hw hm, ?_, rfl⟩
    rw [encOf_modEnc_same he]
    simp only [stepCount, edgeRaw, encOf_of_get he]
    exact countBack _
  · have hd : ¬ t.held < pv s.params 0x0704 := by omega
    refine ⟨countReject (modEnc s 1 fun e => { e with a := a, b := b, rejectSince := true }), ?_, ?_, rfl, rfl⟩
    · simp [exec, execEncoderEdge, hr, encOf_of_get he, hm, hd, settleLine_idle hw]
    · exact (congrArg Enc.count (encOf_modEnc_same (s := s) he) :)
  · have hv : lateSettled s t0 p = s := settleLine_idle hw
    have hex := execLateLimitExpiry_web he hc hu hcr hp ht
    rw [hv, encOf_of_get he, if_neg (by omega)] at hex
    have hput : encOf (synthPut s (syntheticEdge s e p)) 0 = syntheticEdge s e p := encOf_modEnc_same (s := s) he
    have hcount := auxFollow_counts (s := synthPut s (syntheticEdge s e p)) 0
    rw [hput] at hcount
    simp only [counts, Prod.mk.injEq] at hcount
    obtain ⟨h1, -, h3⟩ := hcount
    have hstep : commandedStep s = 1 := by simp [commandedStep, reversePass, hc]
    refine ⟨_, hex, h1.trans ?_, h3, ?_, MotionOnly.trans (u := synthPut s (syntheticEdge s e p)) rfl auxFollow_motionOnly⟩
    · simp [syntheticEdge, stepCount, hstep]
    · simp only [auxFollow]
      (repeat' split) <;> rfl
  · have hex := execLateLimitExpiry_web he hc hu hcr hp ht
    have hrun : (encOf (lateSettled s t0 p) 0).synthRun + 1 = 3 := by
      rw [lateSettled, settleLine_synthRun, encOf_of_get he, hy]
    rw [if_pos hrun] at hex
    have hrate : (lateSettled s t0 p).motion.rate = s.motion.rate := settleLine_rate _
    have hpar : (lateSettled s t0 p).params = s.params := by simp [lateSettled]
    obtain ⟨u, hu', h1, h2, h3, h4, h5⟩ := positionFault_parts
      (s := synthPut (lateSettled s t0 p) (syntheticEdge (lateSettled s t0 p) (encOf (lateSettled s t0 p) 0) p))
      (by simpa [carriage, synthPut, modEnc, hpar] using hc) ((settleLine_printing (s := s) _).trans hpr)
    have hr' : (synthPut (lateSettled s t0 p) (syntheticEdge (lateSettled s t0 p) (encOf (lateSettled s t0 p) 0) p)).motion.rate =
      s.motion.rate := hrate
    rw [hr'] at h3 h4 h5
    rw [if_neg (rate_of_pHat hp)] at h4
    exact ⟨u, hex.trans (congrArg Host.Outcome.next hu'), h1, h2, h4, h3, h5 (rate_of_pHat hp)⟩
  · simp [exec, execIndexEdge, hr, hh]
  · have hh' : ¬ t.held < pv s.params 0x0704 := by omega
    refine ⟨indexMarked s 0, ?_, ?_, ?_, rfl⟩
    · simp [exec, execIndexEdge, hr, encOf_of_get he, hi, hf, hc, hu, hx, hl, hh', indexMarked]
    · rw [encOf_indexMarked he]
    · rw [encOf_indexMarked he]
  · have hh' : ¬ t.held < pv s.params 0x0704 := by omega
    have hex : exec (.indexEdge 0 true t) s = .next (positionFault (settleLine (indexMarked s 0) (edgeStamp s t))) := by
      simp [exec, execIndexEdge, hr, encOf_of_get he, hi, hf, hc, hu, hx, hl, hh', hd, hp, indexMarked, edgeStamp]
    obtain ⟨u, hu', h1, h2, h3, h4, -⟩ := positionFault_parts (s := settleLine (indexMarked s 0) (edgeStamp s t))
      (by simpa [carriage, indexMarked, modEnc] using hc) ((settleLine_printing (s := indexMarked s 0) _).trans hp)
    have hr' : (settleLine (indexMarked s 0) (edgeStamp s t)).motion.rate = s.motion.rate := settleLine_rate _
    rw [hr'] at h3 h4
    exact ⟨u, hex.trans (congrArg Host.Outcome.next hu'), h1, h2, h3, h4⟩
  · simp [feedTick, hb, hs, hv]
  · exact ⟨stopFeed s (if s.motion.feed = .halt then .idle else s.motion.feed), by simp [feedTick, hb, hs, Nat.not_lt.mpr hv], rfl⟩
  · exact encoderEdge_yanks (forward := true) he hr (by simp [hp]) h2 hn hh hw hm fun x hx => by
      simp only [rawSide, Prod.mk.injEq] at hx
      obtain ⟨-, -, -, hx4, hx5⟩ := hx
      exact yankWatch_fast hc hrate (hx4.trans hfr) (hx5.trans ht0) hq
  · obtain ⟨u, h1, h2, h3⟩ := encoderEdge_yanks (forward := false) (k := 2) he hr (by simp [hp]) h2 hn hh hw hm fun x hx => by
      simp only [rawSide, Prod.mk.injEq] at hx
      obtain ⟨hx1, hx2, -⟩ := hx
      refine yankWatch_back hc ?_
      rw [hx1, hx2]
      exact (countBack e.raw).symm ▸ hd
    exact ⟨u, h1, h2.trans (countBack _), h3⟩
  · refine (encoderEdge_yanks (forward := true) he hr (by simp [hp]) h2 hn hh hw hm fun x hx => ?_)
    simp only [rawSide, Prod.mk.injEq] at hx
    obtain ⟨hx1, -, hx3, -⟩ := hx
    refine yankWatch_stopped hrate ?_
    rw [hx1, hx3]
    exact hd
  · rcases hm with ⟨hm, hd⟩ | ⟨hm, hd⟩
    · obtain ⟨u, h1, -, h3⟩ := encoderEdge_yanks (forward := true) (k := 2) he hr (by simp [hp]) h2 hn hh hw hm fun x hx => by
        simp only [rawSide, Prod.mk.injEq] at hx
        refine yankWatch_pass hpass (.inl ?_)
        rw [hx.1]
        exact hd
      exact ⟨u, h1, h3⟩
    · obtain ⟨u, h1, -, h3⟩ := encoderEdge_yanks (forward := false) (k := 2) he hr (by simp [hp]) h2 hn hh hw hm fun x hx => by
        simp only [rawSide, Prod.mk.injEq] at hx
        refine yankWatch_pass hpass (.inr ?_)
        rw [hx.1]
        exact (countBack e.raw).symm ▸ hd
      exact ⟨u, h1, h3⟩
  · exact yank_parts hp
  · have hh' : ¬ t.held < pv s.params 0x0704 := by omega
    refine ⟨indexMarked s 1, ?_, ?_, rfl⟩
    · simp [exec, execIndexEdge, hr, encOf_of_get he, hi, hc, hh', indexMarked]
    · rw [encOf_indexMarked he]
  · exact ⟨{ s with fife := foldDeltas s.fife }, by simp [exec, execFireCountUpdate, settleWaiting_idle hw, hr, hl], rfl, rfl, rfl, rfl⟩
  · simp [exec, execEncStillExpiry, hst]
  · simp [exec, execResyncFeedDone, hf, stopFeed]

end Sys2Proof.Machine
end

section
/-! SUPPORT and PROOF of O55. The boundary of a line, in the order of what is done there (R389, R397 to R430). -/

namespace Sys2Proof.Machine

variable {s : State} {tk : Ticket} {j : Job}

/-! ### A line fires -/

theorem maskOf_testBit (l : List Bool) (i : Nat) : (maskOf l).testBit i = l.getD i false := by
  induction l generalizing i with
  | nil => simp [maskOf]
  | cons b l ih =>
    cases i with
    | zero => cases b <;> simp [maskOf, Nat.testBit_zero] <;> omega
    | succ i =>
      rw [maskOf, Nat.testBit_succ, List.getD_cons_succ, ← ih i]
      congr 1
      split <;> omega

/-- The record of a line that fires, and the counter that it moves on (R397). -/
theorem fireLine_parts (w : LateLine) (late : Bool) : (fireLine s w late).fife.lineCnt = s.fife.lineCnt + 1 ∧
    (fireLine s w late).fife.waiting = none ∧ (fireLine s w late).fife.started = s.fife.started ∧
    ∃ rec : LineRec, (fireLine s w late).fife.lastRec = some rec ∧ rec.line = s.fife.lineCnt ∧
      rec.tFire = BitVec.ofNat 32 w.start ∧ rec.flags.toNat.testBit 3 = late := by
  have hf (a b c d e : Bool) : (b8 (maskOf [a, b, c, late, d, e])).toNat.testBit 3 = late := by
    rw [b8, BitVec.testBit_toNat, BitVec.getLsbD_ofNat, maskOf_testBit]
    simp
  simp only [fireLine]
  (repeat' split) <;> exact ⟨rfl, rfl, rfl, _, rfl, rfl, rfl, hf _ _ _ _ _⟩

/-- A line at its boundary, which fires at once. -/
theorem boundaryLine_fires (n start : Nat) : (boundaryLine s tk j n start false).fife.lineCnt = s.fife.lineCnt + 1 ∧
    (boundaryLine s tk j n start false).fife.started = some start ∧
    ∃ rec : LineRec, (boundaryLine s tk j n start false).fife.lastRec = some rec ∧ rec.line = s.fife.lineCnt ∧
      rec.tFire = BitVec.ofNat 32 start := by
  obtain ⟨h1, -, h3, rec, h4, h5, h6, -⟩ := fireLine_parts (s := startLine s tk n start)
    { n, start, pos := boundaryAt s n, dir := commandedStep s, restart := tk.restart, step := tk.step, fired := firedNow s tk j n } false
  exact ⟨h1, h3, rec, h4, h5, h6⟩

/-- A line at its boundary, which waits for its start. -/
theorem boundaryLine_waits (n start : Nat) : (boundaryLine s tk j n start true).fife.lineCnt = s.fife.lineCnt ∧
    (boundaryLine s tk j n start true).fife.started = some start ∧
    ∃ w : LateLine, (boundaryLine s tk j n start true).fife.waiting = some w ∧ w.n = n ∧ w.start = start :=
  ⟨rfl, rfl, _, rfl, rfl, rfl⟩

/-! ### What a boundary does but for the line -/

theorem stopRule_lineCnt (n : Nat) : (stopRule s tk j n).fife.lineCnt = s.fife.lineCnt := by
  unfold stopRule
  extract_lets fresh u f v d held
  have hv : v.fife.lineCnt = s.fife.lineCnt := by
    have hu : u.fife = s.fife := by simp [u]
    exact (congrArg Fife.lineCnt hu :)
  (repeat' split)
  · exact hv
  · exact hv
  · clear_value held
    cases held with
    | none => exact hv
    | some k => exact (apply_ite (fun w : State => w.fife.lineCnt) _ _ _).trans (by split <;> exact hv)

/-- A ticket's feed stands at a boundary that its next line may fire at. -/
structure LineDue (s : State) (tk : Ticket) (j : Job) (t steps : Nat) : Prop where
  prints : printingTicket s = some (tk, j)
  moves : s.motion.rate ≠ 0
  feed : s.motion.feed = .ticket
  disch : s.saf.disch = false
  enabled : headEnable s ≠ 0
  gate : s.fife.hisGate = false
  fault : s.fife.fault = false
  held : heldUpTo s tk j = none
  goes : tk.stopAt = none
  left : tk.clockLine < clockLines s tk j
  reached : boundaryReached s tk.clockLine t steps = true
  waits : s.fife.waiting = none

theorem LineDue.not_held {t steps : Nat} (h : LineDue s tk j t steps) :
    ¬ (s.motion.rate = 0 ∨ s.motion.feed ≠ .ticket ∨ s.saf.disch = true ∨ headEnable s = 0 ∨ s.fife.hisGate = true ∨ s.fife.fault = true ∨
      (!(true : Bool)) = true ∨ (!(true : Bool)) = true ∨ clockLines s tk j ≤ tk.clockLine ∨
      (!boundaryReached s tk.clockLine t steps) = true) := by
  simp [h.moves, h.feed, h.disch, h.enabled, h.gate, h.fault, h.left, h.reached]
  exact h.enabled

/-- Where a band begins at a clock line, Saffron decides those of its lead (R375). -/
def bandBegun (s : State) (tk : Ticket) (j : Job) : State :=
  if (if !carriage s then decide (minOffset s ≤ tk.clockLine) && (tk.clockLine - minOffset s) % 64 == 0 &&
      decide ((tk.clockLine - minOffset s) / 64 < totalBands j) else tk.clockLine == 0) then
    beginBand s tk j (if !carriage s then (tk.clockLine - minOffset s) / 64 else nextBand s tk)
  else s

/-- The maps that a line takes with it. -/
def mapsTaken (s : State) (tk : Ticket) (j : Job) : Ticket :=
  snapMaps (bandBegun s tk j) ((bandBegun s tk j).saf.ticket.getD tk) tk.clockLine

/-- The stopping rule, applied at a line. -/
def lineRuled (s : State) (tk : Ticket) (j : Job) : State :=
  stopRule { bandBegun s tk j with saf := { (bandBegun s tk j).saf with ticket := some (mapsTaken s tk j) } } (mapsTaken s tk j) j tk.clockLine

/-- The ticket as its line fires. -/
def lineTicket (s : State) (tk : Ticket) (j : Job) : Ticket := (lineRuled s tk j).saf.ticket.getD (mapsTaken s tk j)

/-- The feed's rate at a line. -/
def lineReady (s : State) (tk : Ticket) (j : Job) (steps : Nat) : State :=
  { lineRuled s tk j with motion := { (lineRuled s tk j).motion with
      rate := lineRate (lineRuled s tk j) (lineTicket s tk j) tk.clockLine
      feedSteps := if encUsed (lineRuled s tk j) then (lineRuled s tk j).motion.feedSteps else steps } }

/-- What follows a line: the end of the ticket's firing or of the pass, or the next line. -/
def lineOver (s : State) (tk : Ticket) (j : Job) (n : Nat) (web : Bool) : State :=
  if clockLines s (s.saf.ticket.getD tk) ((jobOf s j.id).getD j) ≤ n + 1 then
    if web then endFiring s ((jobOf s j.id).getD j) else endPass s (s.saf.ticket.getD tk) ((jobOf s j.id).getD j)
  else comeToRest (freeBands s (s.saf.ticket.getD tk) ((jobOf s j.id).getD j).id n) (s.saf.ticket.getD tk).stopAt n

theorem lineOver_fife (n : Nat) (web : Bool) : (lineOver s tk j n web).fife = s.fife := by
  unfold lineOver
  (repeat' split) <;> simp

theorem lineReady_lineCnt (steps : Nat) : (lineReady s tk j steps).fife.lineCnt = s.fife.lineCnt := by
  have hb : (bandBegun s tk j).fife = s.fife := by
    unfold bandBegun
    split <;> simp
  exact (stopRule_lineCnt (s := { bandBegun s tk j with saf := { (bandBegun s tk j).saf with ticket := some (mapsTaken s tk j) } }) _).trans
    (congrArg Fife.lineCnt hb)

theorem execLineBoundary_tooLate {t steps : Nat} (h : LineDue s tk j t steps) (hl : lineStart s t = none) :
    exec (.lineBoundary t steps) s = .next (positionFault s) := by
  show execLineBoundary t steps s = _
  unfold execLineBoundary
  rw [h.prints]
  simp only [h.held, h.goes]
  rw [if_neg h.not_held, hl]

theorem execLineBoundary_line {t steps start : Nat} {late : Bool} (h : LineDue s tk j t steps) (hl : lineStart s t = some (start, late)) :
    exec (.lineBoundary t steps) s = .next (lineOver
      (boundaryLine (lineReady s tk j steps) (lineTicket s tk j) j tk.clockLine start late) (lineTicket s tk j) j tk.clockLine
      (!carriage s)) := by
  show execLineBoundary t steps s = _
  unfold execLineBoundary
  rw [h.prints, settleWaiting_idle h.waits]
  dsimp -zeta only
  extract_lets n held going
  have hheld : held = true := by simp only [held, h.held]
  have hgoing : going = true := by simp only [going, h.goes]
  rw [hheld, hgoing]
  refine (if_neg h.not_held).trans ?_
  rw [hl]
  exact (apply_ite Host.Outcome.next _ _ _).symm

/-- Settles O55: a line by what its firing, or its waiting, leaves in the Fife. -/
theorem linesFireAtTheirBoundaries : Obligations.LinesFireAtTheirBoundaries := by
  unfold Obligations.LinesFireAtTheirBoundaries
  refine ⟨fun t steps s tk j hp => ⟨fun hr => ?_, fun hr hf hd he hg hfa hh hs hl hb hw => ?_⟩, fun s w hw => ?_⟩
  · simp [exec, execLineBoundary, hp, hr]
  · have h : LineDue s tk j t steps := ⟨hp, hr, hf, hd, he, hg, hfa, hh, hs, hl, hb, hw⟩
    have hcnt := lineReady_lineCnt (s := s) (tk := tk) (j := j) steps
    refine ⟨execLineBoundary_tooLate h, fun start hst => ?_, fun start hst => ?_⟩
    · obtain ⟨h1, h2, rec, h3, h4, h5⟩ := boundaryLine_fires (s := lineReady s tk j steps) (tk := lineTicket s tk j) (j := j) tk.clockLine start
      refine ⟨_, rec, execLineBoundary_line h hst, ?_, ?_, ?_, h5, ?_⟩
      · rw [lineOver_fife, h1, hcnt]
      · rw [lineOver_fife, h3]
      · rw [h4, hcnt]
      · rw [lineOver_fife, h2]
    · obtain ⟨h1, h2, w, h3, h4, h5⟩ := boundaryLine_waits (s := lineReady s tk j steps) (tk := lineTicket s tk j) (j := j) tk.clockLine start
      refine ⟨_, w, execLineBoundary_line h hst, ?_, ?_, h4, h5, ?_⟩
      · rw [lineOver_fife, h1, hcnt]
      · rw [lineOver_fife, h3]
      · rw [lineOver_fife, h2]
  · have hs : settleWaiting s = fireLine s w true := by simp only [settleWaiting, hw]
    rw [hs]
    obtain ⟨h1, h2, -, rec, h3⟩ := fireLine_parts (s := s) w true
    exact ⟨h1, h2, rec, h3⟩

end Sys2Proof.Machine
end

section
/-! SUPPORT of O58. The ends of scans, services and feeds, and the copy of the map (R408, R440 to R460). -/

namespace Sys2Proof.Machine

variable {s : State}

/-! ### The end of a running action -/

/-- An action that ends is off the list, and no other like it runs (R283). -/
theorem endAction_ends {v : State} {a : Action} {o st : Nat} {res : List Byte} (hr : running s o = some a)
    (ha : v.saf.actions = s.saf.actions) (hc : v.ctxs = s.ctxs) (hn : v.net = s.net) :
    ActionEnds s (endAction v o st res) a st res := by
  have ho : a.opcode.toNat = o := by
    have := List.find?_some hr
    simpa using (Bool.and_eq_true_iff.mp this).2
  have hf : v.saf.actions.find? (fun a => a.started && a.opcode.toNat == o) = some a := by rw [ha]; exact hr
  have hu : (endAction v o st res).saf.actions = s.saf.actions.filter (fun b => b ≠ a) := by
    rw [← ha]
    simp only [endAction, hf]
    split <;> simp
  refine ⟨⟨v, by rw [ho], ha, hc, hn⟩, hu, fun hone => ?_⟩
  rw [running, hu, List.find?_eq_none]
  intro b hb hk
  obtain ⟨hmem, hne⟩ := List.mem_filter.mp hb
  obtain ⟨hstart, hop⟩ := Bool.and_eq_true_iff.mp hk
  exact (by simpa using hne : b ≠ a) (hone b hmem hstart (BitVec.eq_of_toNat_eq (by simpa using hop)))

/-! ### What a scan leaves of the map -/

/-- The map, and what NOZ_MARK has touched. -/
def mapSide (n : Noz) : List (Nat × Nat) × List Nat := (n.states, n.marked)

theorem gateSetup_mapSide (g : GateSeen) : mapSide (gateSetup s g).noz = mapSide s.noz := by
  simp only [gateSetup]
  split
  · rfl
  · simp [mapSide]

theorem gateSetups_kept (gs : List GateSeen) : mapSide (gs.foldl gateSetup s).noz = mapSide s.noz ∧
    (gs.foldl gateSetup s).params = s.params := by
  induction gs generalizing s with
  | nil => exact ⟨rfl, rfl⟩
  | cons g gs ih =>
    obtain ⟨h1, h2⟩ := ih (s := gateSetup s g)
    exact ⟨h1.trans (gateSetup_mapSide g), h2.trans (by simp)⟩

theorem cutFires_kept (c : Option NozTest) : (cutFires s c).noz = s.noz ∧ (cutFires s c).params = s.params := by
  unfold cutFires
  split <;> simp

theorem verdict_of_params {u : State} (h : u.params = s.params) (d : List Shadow) : verdict u d = verdict s d := by
  calc verdict u d = verdict { s with params := u.params } d := rfl
    _ = verdict s d := by rw [h]

theorem applyMap_states (ch : List (Nat × Nat)) : (applyMap s ch).noz.states =
    (ch.filter (fun c => stateIn s.noz.states c.1 != c.2)).foldl (fun m c => assocSet m c.1 c.2) s.noz.states := by
  unfold applyMap
  extract_lets real old new n u v solo
  have hv : v.noz.states = new := by
    exact congrArg Noz.states (foldl_noz (fun s (c : Nat × Nat) => notifyNozzle s c.1 c.2) (fun s c => by simp) real u)
  split
  · next h =>
    show s.noz.states = real.foldl (fun m c => assocSet m c.1 c.2) s.noz.states
    rw [show real = [] from List.isEmpty_iff.mp h]
    rfl
  · simpa using hv

theorem stateIn_foldl_notMem {l : List (Nat × Nat)} {m : List (Nat × Nat)} {i : Nat} (h : ∀ c ∈ l, c.1 ≠ i) :
    stateIn (l.foldl (fun m c => assocSet m c.1 c.2) m) i = stateIn m i := by
  induction l generalizing m with
  | nil => rfl
  | cons c l ih =>
    refine (ih fun x hx => h x (List.mem_cons_of_mem _ hx)).trans ?_
    exact congrArg (fun o => Option.getD o 2) (find?_assocSet_other m c.2 (Ne.symm (h c List.mem_cons_self)))

theorem stateIn_foldl_mem {l : List (Nat × Nat)} {m : List (Nat × Nat)} {i v : Nat} (hn : (l.map (·.1)).Nodup) (h : (i, v) ∈ l) :
    stateIn (l.foldl (fun m c => assocSet m c.1 c.2) m) i = v := by
  induction l generalizing m with
  | nil => simp at h
  | cons c l ih =>
    obtain ⟨hc, hl⟩ := List.nodup_cons.mp hn
    rcases List.mem_cons.mp h with h | h
    · rw [← h] at hc ⊢
      refine (stateIn_foldl_notMem (m := assocSet m i v) fun x hx he => hc ?_).trans
        (congrArg (fun o => Option.getD o 2) (find?_assocSet_same m i v))
      exact List.mem_map.mpr ⟨x, hx, he⟩
    · exact ih hl h

theorem eq_of_nodup_fst {ch : List (Nat × Nat)} {p q : Nat × Nat} (hn : (ch.map (·.1)).Nodup) (hp : p ∈ ch) (hq : q ∈ ch)
    (he : p.1 = q.1) : p = q := by
  induction ch with
  | nil => cases hp
  | cons c l ih =>
    obtain ⟨hnot, hl⟩ := List.nodup_cons.mp hn
    rcases List.mem_cons.mp hp with rfl | hpl <;> rcases List.mem_cons.mp hq with rfl | hql
    · rfl
    · exact absurd (List.mem_map.mpr ⟨q, hql, he.symm⟩) hnot
    · exact absurd (List.mem_map.mpr ⟨p, hpl, he⟩) hnot
    · exact ih hl hpl hql

/-- A change of the map, nozzle by nozzle. -/
theorem applyMap_mem {ch : List (Nat × Nat)} {i v : Nat} (hn : (ch.map (·.1)).Nodup) (h : (i, v) ∈ ch) :
    stateIn (applyMap s ch).noz.states i = v := by
  rw [applyMap_states]
  by_cases hs : stateIn s.noz.states i = v
  · refine (stateIn_foldl_notMem fun c hc he => ?_).trans hs
    obtain ⟨hmem, hne⟩ := List.mem_filter.mp hc
    have hcv : c = (i, v) := eq_of_nodup_fst hn hmem h he
    rw [hcv] at hne
    simp [hs] at hne
  · exact stateIn_foldl_mem (hn.sublist (List.filter_sublist.map _)) (List.mem_filter.mpr ⟨h, by simpa using hs⟩)

theorem applyMap_notMem {ch : List (Nat × Nat)} {i : Nat} (h : ∀ c ∈ ch, c.1 ≠ i) :
    stateIn (applyMap s ch).noz.states i = stateIn s.noz.states i := by
  rw [applyMap_states]
  exact stateIn_foldl_notMem fun c hc => h c (List.mem_filter.mp hc).1

/-- What a scan that has ended leaves of the map: the verdicts on what it tested (R442, R443). -/
theorem endScan_noz {v : ScanRun} {ts : List NozTest} {rest : List Nat} (hm : s.noz.marked = []) (hn : (ts.map testNozzle).Nodup) :
    (endScan s v ts rest none).noz.scan = none ∧
    (∀ x ∈ ts, stateIn (endScan s v ts rest none).noz.states (testNozzle x) =
      verdictOn (stateIn s.noz.states (testNozzle x)) (verdict s x.drops)) ∧
    (∀ i, (∀ x ∈ ts, testNozzle x ≠ i) → stateIn (endScan s v ts rest none).noz.states i = stateIn s.noz.states i) := by
  unfold endScan
  extract_lets done old counted changes bad eyes rot s1 s2 new p n s3 m s4 res
  have h4 : s4.noz = s3.noz := by
    simp only [s4]
    split <;> rfl
  have h1 : s1.noz.states = s.noz.states := by simp [s1]
  have hcount : counted = ts := by simp [counted, hm]
  have hkeys : changes.map (·.1) = ts.map testNozzle := by
    simp only [changes, hcount, List.map_map]
    rfl
  have hend : (endAction s4 0x0701 stOk res).noz = s3.noz := by simpa using h4
  refine ⟨congrArg Noz.scan hend, fun x hx => ?_, fun i hi => ?_⟩
  · rw [show (endAction s4 0x0701 stOk res).noz.states = s2.noz.states from (congrArg Noz.states hend).trans rfl]
    refine applyMap_mem (by rw [hkeys]; exact hn) ?_
    exact List.mem_map.mpr ⟨x, by rwa [hcount], rfl⟩
  · rw [show (endAction s4 0x0701 stOk res).noz.states = s2.noz.states from (congrArg Noz.states hend).trans rfl]
    refine (applyMap_notMem fun c hc he => ?_).trans (congrArg (stateIn · i) h1)
    obtain ⟨x, hx, rfl⟩ := List.mem_map.mp hc
    exact hi x (by rwa [hcount] at hx) he

/-! ### Services and feeds -/

/-- Where and since when the head is capped. -/
def capMarks (m : Motion) : Bool × Time := (m.capped, m.capTime)

theorem sledTo_capMarks (p : Nat) : capMarks (sledTo s p).motion = capMarks s.motion := by
  unfold sledTo
  extract_lets u
  have hu : capMarks u.motion = capMarks s.motion := by
    simp only [u]
    split <;> rfl
  exact hu

theorem endService_noz {v : SvcRun} {n : Nat} {f : Option (Nat × Nat)} :
    (endService s v n f).noz = { s.noz with service := none } := by
  simp only [endService]
  (repeat' split) <;> simp

/-- A cap that a routine has ended is in place (R457). -/
theorem endService_capped {v : SvcRun} (h : v.routine = 3) : capMarks (endService s v 0 none).motion =
    (true, if s.motion.capped then s.motion.capTime else now s) := by
  unfold endService
  extract_lets s1 n s2 res cap spat m s3 s4
  have h4 : s4 = sledTo s3 (pv s3.params 0x0733) := if_pos (by simp [cap, h])
  have h3 : capMarks s3.motion = (true, if s.motion.capped then s.motion.capTime else now s) := by
    cases hc : s.motion.capped <;> simp [s3, m, s2, s1, capMarks, cap, h, hc, now]
  show capMarks (endAction s4 0x0704 stOk res).motion = _
  rw [h4]
  simpa using (sledTo_capMarks _).trans h3

theorem sledAfter_capped (h : s.motion.capped = true) : capMarks (sledAfter s .ok).motion = capMarks s.motion := by
  simp [sledAfter, h, capMarks]

theorem countNotifLost_motion (c : Nat) (m : Motion) :
    countNotifLost { s with motion := m } c = { countNotifLost s c with motion := m } := by
  simp only [countNotifLost]
  (repeat' split) <;> rfl

theorem notify_motion (c o st : Nat) (p : List Byte) (m : Motion) :
    notify { s with motion := m } c o st p = { notify s c o st p with motion := m } := by
  have ha : attached { s with motion := m } c = attached s c := rfl
  unfold notify
  rw [ha]
  split
  · exact countNotifLost_motion c m
  · extract_lets x begun full out f u x' begun' full' out' f' v w
    have huv : u = { v with motion := m } := rfl
    have hf : full = full' := rfl
    have hw : w = if full' then countNotifLost v c else v := rfl
    clear_value w u v full full'
    rw [huv, hf, hw]
    split
    · exact countNotifLost_motion c m
    · rfl

theorem endAction_motion (o st : Nat) (res : List Byte) (m : Motion) :
    endAction { s with motion := m } o st res = { endAction s o st res with motion := m } := by
  simp only [endAction]
  split
  · rfl
  · next a _ =>
    split
    · exact notify_motion (s := { s with saf := { s.saf with actions := s.saf.actions.filter (fun b => b ≠ a) } }) _ _ _ _ m
    · rfl

/-- A FEED's feed and cut, over without a fault: the feed and the cutter at rest (R310, R401, R408). -/
def feedOver (s : State) (cut : Bool) : Motion :=
  { s.motion with
      feed := .idle, rate := 0, slow := none, cutting := none, stroke := 0
      en := if cut then (raiseEn s 2).motion.en else s.motion.en
      cutIn := if cut then homeActive s 0 true else s.motion.cutIn
      posFault := s.motion.posFault && s.motion.synthInResync }

theorem execFeedDone_ok {a : Action} {fed : Nat} (hr : running s 0x0706 = some a) (hok : railEnd s .ok = .ok) : exec (.feedDone fed .ok) s =
    .next (afterTicket (endAction { s with motion := feedOver s ((byteAt a.payload 2).toNat.testBit 0) } 0x0706 stOk
      (b16 fed ++ [if (byteAt a.payload 2).toNat.testBit 0 then 1 else 0, 0]))) := by
  cases hc : (byteAt a.payload 2).toNat.testBit 0 <;>
    simp [exec, execFeedDone, hr, hok, hc, feedOver, stopFeed, raiseEn, setCutHome, homeActive]

/-! ### The map's copy -/

theorem olderMap_lt {n : Nvm} : olderMap n < 2 := by
  simp only [olderMap, olderCopy]
  (repeat' split) <;> omega

theorem writeMap_sound (hn : NvmSound s) : (writeMap s).noz = { s.noz with mapSeq := s.noz.mapSeq + 1, dirty := false, writtenAt := some (now s) } ∧
    (writeMap s).nvm.maps = s.nvm.maps.set (olderMap s.nvm) (mapBytes (mapNow s)) := by
  unfold writeMap
  extract_lets i new
  obtain ⟨u, hu, w, hw⟩ := writePages_sound (s := noteWrite s (imageStream 12672) new) (ps := pagesOf 3 (i * 32768) 12708) (by simpa using hn)
  rw [hu, hw]
  exact ⟨rfl, rfl⟩

theorem execNozMapWrite_sound (hr : coreRuns s = true) (hd : s.noz.dirty = true) (hw : s.noz.writtenAt = none) (hn : NvmSound s) :
    ∃ u, exec .nozMapWrite s = .next u ∧
      u.noz = { s.noz with mapSeq := s.noz.mapSeq + 1, dirty := false, writtenAt := some (now s) } ∧
      u.nvm.maps = s.nvm.maps.set (olderMap s.nvm) (mapBytes (mapNow s)) := by
  obtain ⟨h1, h2⟩ := writeMap_sound (s := wakeDoze s) (by simpa [NvmSound] using hn)
  have hm : mapNow (wakeDoze s) = mapNow s := by simp [mapNow]
  refine ⟨writeMap (wakeDoze s), by simp [exec, execNozMapWrite, hr, hd, hw], ?_, ?_⟩
  · rw [h1]
    simp [now]
  · rw [h2, hm]
    simp

/-! ### The ends of scans, services and feeds -/

/-- No rail and no DISCH has stopped what runs (R447). -/
structure Unhalted (s : State) : Prop where
  rail : s.saf.railHit = false
  disch : s.saf.dischHit = false
  good : firstBadRail s.seq = none

theorem Unhalted.ok (h : Unhalted s) : railEnd s .ok = .ok := by simp [railEnd, h.rail, h.disch, h.good]

theorem execNozScanDone_over {v : ScanRun} {gates : List GateSeen} {tests ts : List NozTest} {cut : Option NozTest} (h : Unhalted s)
    (hv : s.noz.scan = some v) (hw : v.wait = none) (hd : scanDone s v gates tests = (ts, [], none, cut)) :
    exec (.nozScanDone gates tests .ok) s =
      .next (afterTicket (sledAfter (endScan (cutFires (gates.foldl gateSetup s) cut) v ts [] none) .ok)) := by
  simp [exec, execNozScanDone, hv, h.ok, hd, hw, toTest]

theorem execNozScanDone_goesOn {v : ScanRun} {gates : List GateSeen} {tests ts : List NozTest} {left : List Nat} {cut : Option NozTest}
    (h : Unhalted s) (hv : s.noz.scan = some v) (hm : s.noz.marked = []) (hd : scanDone s v gates tests = (ts, left, none, cut))
    (hl : left ≠ [] ∨ v.wait.isSome = true) (hy : v.yield = false) : exec (.nozScanDone gates tests .ok) s = .next s := by
  have ht : toTest s left = left := by simp [toTest, hm]
  rcases hl with hl | hl <;> simp [exec, execNozScanDone, hv, h.ok, hd, ht, hl, hy]

theorem execServiceRunDone_over {v : SvcRun} (h : Unhalted s) (hv : s.noz.service = some v) (h1 : v.left = 0) (h2 : v.after = 0)
    (h3 : v.firing = 0) : exec (.serviceRunDone .ok) s = .next (afterTicket (sledAfter (endService s v 0 none) .ok)) := by
  simp [exec, execServiceRunDone, hv, h.ok, h1, h2, h3]

theorem execServiceRunDone_goesOn {v : SvcRun} (h : Unhalted s) (hv : s.noz.service = some v) (hn : v.left ≠ 0 ∨ v.after ≠ 0 ∨ v.firing ≠ 0) :
    exec (.serviceRunDone .ok) s = .next s := by
  simp [exec, execServiceRunDone, hv, h.ok, hn]

end Sys2Proof.Machine
end

section
/-! PROOF of O58. The ends of calibrations, and the store of what they found (R496 to R513). -/

namespace Sys2Proof.Machine

variable {s : State} {a : Action}

/-! ### The ends of calibrations -/

/-- A calibration as it ends: no trial, no store, the converter returned. -/
def calOver (s : State) : State :=
  deriveTrip { s with cal := { s.cal with trial := none, store := none, prev := none, wait := none },
                      hub := { s.hub with borrowed := 0 }, params := { s.params with atCal := none } }

theorem calEnds_eq (st : Nat) (slot : Byte) (q : Word) (more : List Byte) : calEnds s a st slot q more =
    afterTicket (endAction (calOver s) 0x0601 st (calResult a slot q ++ more)) := rfl

theorem calOver_parts : (calOver s).saf.actions = s.saf.actions ∧ (calOver s).ctxs = s.ctxs ∧ (calOver s).net = s.net ∧
    (calOver s).otp = s.otp ∧ (calOver s).cal = { s.cal with trial := none, store := none, prev := none, wait := none } ∧
    (calOver s).hub.borrowed = 0 := by
  simp [calOver, deriveTrip]

/-- What the end of a calibration leaves, from a state that has its action and its links. -/
theorem calEnds_parts {v : State} {st : Nat} {slot : Byte} {q : Word} {more : List Byte} (hr : running s 0x0601 = some a)
    (ha : v.saf.actions = s.saf.actions) (hc : v.ctxs = s.ctxs) (hn : v.net = s.net) :
    ∃ u, calEnds v a st slot q more = afterTicket u ∧ ActionEnds s u a st (calResult a slot q ++ more) ∧
      u.cal = { v.cal with trial := none, store := none, prev := none, wait := none } ∧ u.otp = v.otp ∧ u.hub.borrowed = 0 := by
  obtain ⟨h1, h2, h3, h4, h5, h6⟩ := calOver_parts (s := v)
  exact ⟨_, rfl, endAction_ends hr (h1.trans ha) (h2.trans hc) (h3.trans hn), by simpa using h5, by simpa using h4, by simpa using h6⟩

/-- A calibration that disagrees applies nothing (R500). -/
theorem calDisagrees_parts {v : State} {q : Word} (hr : running s 0x0601 = some a) (ha : v.saf.actions = s.saf.actions)
    (hc : v.ctxs = s.ctxs) (hn : v.net = s.net) : ∃ u, calDisagrees v a q = afterTicket u ∧
      ActionEnds s u a stCalDisagree (calResult a 0xFF q) ∧
      u.cal = { v.cal with trial := none, store := none, prev := none, wait := none } ∧ u.otp = v.otp ∧ u.hub.borrowed = 0 := by
  obtain ⟨u, h1, h2, h3, h4, h5⟩ := calEnds_parts (v := logEvent v 0x0C02 [byteAt a.payload 0]) (st := stCalDisagree) (slot := 0xFF) (q := q)
    (more := []) hr (by simpa using ha) (by simpa using hc) (by simpa using hn)
  refine ⟨u, h1, by simpa using h2, by simpa using h3, by simpa using h4, h5⟩

/-- A calibration that is ended early (R501, R513). -/
theorem endCal_parts {d i : Nat} (hr : running s 0x0601 = some a) :
    ActionEnds s (endCal s d i) a stFault (calResult a 0xFF 0 ++ faultDetail d i) ∧ (endCal s d i).cal.store = none ∧
    (endCal s d i).cal.trial = none ∧ (endCal s d i).otp = s.otp := by
  have he : endCal s d i = endAction (dropTrial (cutHeadFires s a)) 0x0601 stFault (calResult a 0xFF 0 ++ faultDetail d i) := by
    simp only [endCal, hr, refuseCal]
  refine ⟨?_, ?_, ?_, by simp⟩
  · rw [he]
    exact endAction_ends hr (by simp [dropTrial, deriveTrip]) (by simp) (by simp)
  · rw [he]
    simp [dropTrial]
  · rw [he]
    simp [dropTrial]

/-! ### AO_RC -/

theorem execCalDone_ao {m : CalMeas} (hr : running s 0x0601 = some a) (hst : s.cal.store = none) (h0 : byteAt a.payload 0 = 3)
    (hf : m.fail = none) : exec (.calDone m) s =
      .next (if runsWhole s 2 m && s.cal.aoHeld then endCalRuns s a 2 m
        else if aoRestless s then calDisagrees (drawNonce s).2 a ((drawNonce s).1.setWidth 32) else s) := by
  have h3 : ((3 : Byte).toNat) = 3 := rfl
  have hc : calIndex 3 (byteAt a.payload 1).toNat = 2 := rfl
  show execCalDone m s = _
  simp only [execCalDone, hr, hst, hf, h0, h3, hc]
  simp

theorem execCalDone_fails {m : CalMeas} {e : MechEnd} (hr : running s 0x0601 = some a) (hst : s.cal.store = none)
    (h0 : byteAt a.payload 0 = 3) (hf : m.fail = some e) : exec (.calDone m) s =
      .next (calEnds s a stFault 0xFF 0 (faultDetail (mechDetail s e).1 (mechDetail s e).2)) := by
  have h3 : ((3 : Byte).toNat) = 3 := rfl
  show execCalDone m s = _
  simp only [execCalDone, hr, hst, hf, h0, h3]
  rfl

theorem calQuality_kept {t u : Nat} {p : List Rat} {q : Word} {v : State} (h : calQuality s t u p = (q, v)) :
    v.saf = s.saf ∧ v.ctxs = s.ctxs ∧ v.net = s.net ∧ v.cal = s.cal ∧ v.otp = s.otp := by
  obtain rfl : (calQuality s t u p).2 = v := congrArg Prod.snd h
  simp

theorem selFrom_kept {t u : Nat} {p : List Rat} {sel : Option (List Nat)} {v : State} (h : selFrom s t u p = (sel, v)) :
    v.saf = s.saf ∧ v.ctxs = s.ctxs ∧ v.net = s.net ∧ v.cal = s.cal ∧ v.otp = s.otp := by
  obtain rfl : (selFrom s t u p).2 = v := congrArg Prod.snd h
  simp

/-- The reference that a calibration names. -/
def calRef (a : Action) : Nat := fieldAt a.payload 4 4

theorem endCalRuns_disagrees {m : CalMeas} {q : Word} {v : State} (hq : calQuality s 2 (calRef a) (runValues 2 m.verify) = (q, v))
    (h : runsAgree s 2 (calRef a) m.runs = false) : endCalRuns s a 2 m = calDisagrees v a q := by
  simp only [calRef] at hq h
  simp [endCalRuns, hq, h]

theorem shadowSlot_of_otp {v : State} (h : v.otp = s.otp) (t : Nat) : shadowSlot v t = shadowSlot s t := by
  simp only [shadowSlot, h]

theorem endCalRuns_reports {m : CalMeas} {q : Word} {v : State} (hq : calQuality s 2 (calRef a) (runValues 2 m.verify) = (q, v))
    (h : runsAgree s 2 (calRef a) m.runs = true) (hb : (byteAt a.payload 2).toNat.testBit 0 = false) (hs : shadowSlot s 2 = none) :
    endCalRuns s a 2 m = calEnds v a stOk 0xFF q [] := by
  have hs' := (shadowSlot_of_otp (calQuality_kept hq).2.2.2.2 2).trans hs
  simp only [calRef] at hq h
  simp [endCalRuns, hq, h, checkOnly, hb, hs']

theorem endCalRuns_applies {m : CalMeas} {q : Word} {v w : State} {ws sel : List Nat}
    (hq : calQuality s 2 (calRef a) (runValues 2 m.verify) = (q, v)) (h : runsAgree s 2 (calRef a) m.runs = true)
    (hs : shadowSlot s 2 = some ws) (hsel : selFrom v 2 (calRef a) (meanRun 2 m.runs) = (some sel, w))
    (hv : verifyOk 2 (calRef a) (runValues 2 m.verify) = true) (ho : selOk 2 sel = true) :
    endCalRuns s a 2 m = applyResult w a 2 sel q m.tCal := by
  have hs' := (shadowSlot_of_otp (calQuality_kept hq).2.2.2.2 2).trans hs
  simp only [calRef] at hq h hsel hv
  simp [endCalRuns, hq, h, checkOnly, hs', hsel, hv, ho]

/-- A result that a trial shadow takes: it is to become active at the next trim (R503). -/
theorem applyResult_trial {v : State} {ws sel : List Nat} {q : Word} {tCal : Int} (hr : running s 0x0601 = some a)
    (hsaf : v.saf = s.saf) (hctx : v.ctxs = s.ctxs) (hnet : v.net = s.net) (hcal : v.cal = s.cal) (hotp : v.otp = s.otp)
    (hb : (byteAt a.payload 2).toNat.testBit 0 = false) (hs : shadowSlot v 2 = some ws) :
    ∃ u, applyResult v a 2 sel q tCal = afterTicket u ∧ ActionEnds s u a stOk (calResult a 0xFF q) ∧
      u.cal.due = assocSet s.cal.due 2 ⟨4, b8 (slotNumber 2 ws), sel, q, 0⟩ ∧ u.cal.active = s.cal.active ∧
      u.otp.words = s.otp.words ∧ u.cal.trial = none := by
  let data := slotWords ws (slotData 2 sel tCal q.toNat (fieldAt a.payload 4 4) v.log.bootCount.toNat)
  let k : State := { v with otp := { v.otp with shadows := data.foldl (fun l p => assocSet l p.1 p.2) v.otp.shadows } }
  have happ : applyResult v a 2 sel q tCal =
      calEnds (logEvent (putSel k 2 ⟨4, b8 (slotNumber 2 ws), sel, q, 0⟩) 0x0C01 [byteAt a.payload 0, 0xFF]) a stOk 0xFF q [] := by
    simp only [applyResult, hb, hs]
    rfl
  have hput : (putSel k 2 ⟨4, b8 (slotNumber 2 ws), sel, q, 0⟩).cal =
      { s.cal with due := assocSet s.cal.due 2 ⟨4, b8 (slotNumber 2 ws), sel, q, 0⟩ } := by
    rw [← hcal]
    exact congrArg State.cal (if_pos (.inl rfl))
  obtain ⟨u, h1, h2, h3, h4, -⟩ := calEnds_parts (s := s) (st := stOk) (slot := 0xFF) (q := q) (more := [])
    (v := logEvent (putSel k 2 ⟨4, b8 (slotNumber 2 ws), sel, q, 0⟩) 0x0C01 [byteAt a.payload 0, 0xFF])
    hr (by simp [k, hsaf]) (by simp [k, hctx]) (by simp [k, hnet])
  have hcal' : (logEvent (putSel k 2 ⟨4, b8 (slotNumber 2 ws), sel, q, 0⟩) 0x0C01 [byteAt a.payload 0, 0xFF]).cal =
      { s.cal with due := assocSet s.cal.due 2 ⟨4, b8 (slotNumber 2 ws), sel, q, 0⟩ } := by simpa using hput
  rw [hcal'] at h3
  refine ⟨u, happ.trans h1, by simpa using h2, ?_, ?_, ?_, ?_⟩
  · rw [h3]
  · rw [h3]
  · rw [h4]
    simp [k, hotp]
  · rw [h3]

/-! ### The store into one-time memory -/

theorem slot_of_ao {o : Otp} {w : Nat} {ws : List (List Nat)} (h : blankSlots o 2 = [w] :: ws) : 108 ≤ w := by
  have hm : [w] ∈ calSlots 2 := (List.mem_filter.mp (h ▸ List.mem_cons_self : [w] ∈ blankSlots o 2)).1
  have hs : ∀ x ∈ calSlots 2, 108 ≤ x.headD 0 := by decide
  exact hs _ hm

/-- One-time memory with one word programmed, which ends its shadow. -/
def wordPut (o : Otp) (w : Nat) (d : OtpWord) : Otp := { o with words := o.words.set w d, shadows := assocDel o.shadows w }

theorem otpRaw_wordPut {o : Otp} {w i : Nat} (d : OtpWord) (h : i ≠ w) : otpRaw (wordPut o w d) i = otpRaw o i := by
  simp [otpRaw, wordPut, List.getD_eq_getElem?_getD, List.getElem?_set_ne (Ne.symm h)]

theorem otpValid_wordPut {o : Otp} {w i : Nat} (d : OtpWord) (h : i ≠ w) : otpValid (wordPut o w d) i = otpValid o i := by
  simp only [otpValid, otpCond_of_raw (otpRaw_wordPut d h), otpRaw_wordPut d h]

theorem find?_assocDel_other {α : Type} (m : List (Nat × α)) {k j : Nat} (h : j ≠ k) : find? (assocDel m k) j = find? m j := by
  simp only [find?, assocDel, List.find?_filter]
  refine congrArg (fun f => Option.map Prod.snd (m.find? f)) (funext fun p => ?_)
  by_cases hp : p.1 = j <;> simp [hp, h]

/-- Programming a slot leaves the most that may be allocated as it is: that is word 79's, under the locks and the seal of its region. -/
theorem maxAlloc_wordPut {o : Otp} {w : Nat} (d : OtpWord) (h : 108 ≤ w) : maxAlloc (wordPut o w d) = maxAlloc o := by
  have hv (i : Nat) (hi : i < 108) : otpValid (wordPut o w d) i = otpValid o i := otpValid_wordPut d (by omega)
  have hc (i : Nat) (hi : i < 108) : otpCond (wordPut o w d) i = otpCond o i := otpCond_of_raw (otpRaw_wordPut d (by omega))
  have hl : noShadow (wordPut o w d) = noShadow o := by
    simp only [noShadow, otpLock, otpLocks, List.foldl_cons, List.foldl_nil, hv 8 (by omega), hv 9 (by omega), hv 10 (by omega),
      hv 11 (by omega)]
  have hs : shadowable (wordPut o w d) 79 = shadowable o 79 := by
    simp only [shadowable, sealed, digestWord, hc 79 (by omega), hc 107 (by omega)]
  have hsh : shadowOf (wordPut o w d) 79 = shadowOf o 79 := by
    simp only [shadowOf, hl, hs]
    rw [show (wordPut o w d).shadows = assocDel o.shadows w from rfl, find?_assocDel_other _ (by omega)]
  have hdata : otpData (wordPut o w d) 79 = otpData o 79 := by simp only [otpData, hsh, hv 79 (by omega)]
  have hfield (lo len : Nat) : otpField (wordPut o w d) 79 lo len = otpField o 79 lo len := by simp only [otpField, hdata]
  simp only [maxAlloc, hfield]

/-- Programming such a word reaches one-time memory, the trip code and the log alone. -/
theorem programWord_kept {w : Nat} (d : BitVec 64) (h : 108 ≤ w) : (programWord s w d).2.saf.actions = s.saf.actions ∧
    (programWord s w d).2.ctxs = s.ctxs ∧ (programWord s w d).2.net = s.net ∧ (programWord s w d).2.cal = s.cal := by
  have hp : (programWord s w d).2 = noteSlotsFull s.otp (otpChange s (wordPut s.otp w (programmed (otpRaw s.otp w) d))) := rfl
  rw [hp, otpChange_sameMax (maxAlloc_wordPut _ h)]
  simp

theorem execCalOtpStore_barred (hr : running s 0x0601 = some a) (hs : s.cal.store.isSome = true) (hp : s.pwr.st = .run)
    (hj : junctionOk s = true) (hv : vaoOk s = true) (hb : storeBarred s.otp = true) :
    exec .calOtpStore s = .next (afterTicket (endCal s 0x0008 0)) := by
  obtain ⟨⟨t, sel, tCal, q, refin⟩, hs⟩ := Option.isSome_iff_exists.mp hs
  simp [exec, execCalOtpStore, hr, hs, hp, hj, hv, hb]

/-- A slot of AO_RC is one word. -/
theorem slotData_ao (sel : List Nat) (tCal : Int) (q refin boot : Nat) : ∃ x, slotData 2 sel tCal q refin boot = [x] := by
  unfold slotData
  rw [if_neg (by decide), if_neg (by decide)]
  exact ⟨_, rfl⟩

/-- A selection that is stored: its word, and the slot's mark on what is in force (R501). -/
def aoStored (s : State) (w : Nat) (d : BitVec 64) : State := markSlot (programWord s w d).2 2 (b8 (slotNumber 2 [w]))

theorem execCalOtpStore_stores {w : Nat} {tCal : Int} {ws : List (List Nat)} {sel : List Nat} {q : Word} (hr : running s 0x0601 = some a)
    (hs : s.cal.store = some (2, sel, tCal, q, 0)) (hp : s.pwr.st = .run) (hj : junctionOk s = true) (hv : vaoOk s = true)
    (hb : storeBarred s.otp = false) (hw : blankSlots s.otp 2 = [w] :: ws) (hd : (otpRaw s.otp w).defective = false) :
    exec .calOtpStore s = .next (calEnds (logEvent
      (aoStored s w (otpWithCheck ((slotData 2 sel tCal q.toNat 0 s.log.bootCount.toNat).headD 0) w)) 0x0C01
        [byteAt a.payload 0, b8 (slotNumber 2 [w])]) a stOk (b8 (slotNumber 2 [w])) q []) := by
  obtain ⟨x, hx⟩ := slotData_ao sel tCal q.toNat 0 s.log.bootCount.toNat
  have hone : slotWords [w] [x] = [(w, otpWithCheck x w)] := rfl
  have hprog := programWords_one (s := s) w (otpWithCheck x w)
  rw [hd] at hprog
  rw [hx]
  show execCalOtpStore s = _
  simp only [execCalOtpStore, hr, hs, hp, hj, hv, hb, hw, hx, hone, hprog]
  simp [aoStored]

theorem sledAfter_noz (r : MechEnd) : (sledAfter s r).noz = s.noz := by simp

/-- A routine's wait that was too long ends it (R458). -/
theorem execServiceWaitTimeout_over {v : SvcRun} {gates : List GateSeen} {tests : List NozTest} (hv : s.noz.service = some v)
    (hw : waitedOut s v.wait = true) : ∃ f r, exec (.serviceWaitTimeout gates tests) s =
      .next (afterTicket (sledAfter (endService s v 0 (some f)) r)) :=
  ⟨if railEnd s .ok = .ok then (0x0005, 0) else mechDetail s (railEnd s .ok), railEnd s .ok, by
    simp only [exec, execServiceWaitTimeout, hv, hw, if_true]⟩

/-- Settles O58: each end by the action that it takes off the list, and by what it applies. -/
theorem servicesAndCalibrationsEnd : Obligations.ServicesAndCalibrationsEnd := by
  unfold Obligations.ServicesAndCalibrationsEnd
  refine ⟨fun s h1 h2 h3 => ?_, fun s v gates tests hv => ⟨fun hw => ?_, fun hw => ?_⟩, fun s hr hd hw hl hn => ?_,
    fun s a hr => ⟨fun hst h0 hb1 => ⟨fun m e hf => ?_, fun m hf hw hq => ?_, fun m hf hw hq => ?_, fun m hf hw ho hag => ?_,
      fun m ws q s1 s2 sel hf hw ho hag hb hs hq hsel hv hok => ?_, fun m hf hw ho hag hb hs => ?_⟩,
      fun w tCal ws sel q hst hp hj hv hb hbl hdef hlen => ?_, fun hst hp hj hv hb => ?_, fun hw => ?_, fun hw => ?_⟩⟩
  · have h : Unhalted s := ⟨h1, h2, h3⟩
    refine ⟨fun v gates tests ts cut hv hm hw hd hnd => ?_, fun v gates tests ts left cut hv hm hd hl hy =>
      execNozScanDone_goesOn h hv hm hd hl hy, fun v hv => ⟨fun hl ha hf => ?_, execServiceRunDone_goesOn h hv⟩, fun a fed hr => ?_⟩
    · obtain ⟨hg, hgp⟩ := gateSetups_kept (s := s) gates
      obtain ⟨hc, hcp⟩ := cutFires_kept (s := gates.foldl gateSetup s) cut
      simp only [mapSide, Prod.mk.injEq] at hg
      obtain ⟨hgs, hgm⟩ := hg
      obtain ⟨e1, e2, e3⟩ := endScan_noz (s := cutFires (gates.foldl gateSetup s) cut) (v := v) (ts := ts) (rest := [])
        (by rw [hc, hgm, hm]) hnd
      refine ⟨_, execNozScanDone_over h hv hw hd, ?_, fun x hx => ?_, fun i hi => ?_⟩
      · simpa using e1
      · rw [sledAfter_noz, e2 x hx, hc, hgs, verdict_of_params (hcp.trans hgp)]
      · rw [sledAfter_noz, e3 i hi, hc, hgs]
    · refine ⟨_, execServiceRunDone_over h hv hl ha hf, ?_, fun hr => ?_, ?_⟩
      · simp [endService_noz]
      · have hcap := endService_capped (s := s) hr
        have hmarks := (sledAfter_capped (congrArg Prod.fst hcap)).trans hcap
        exact ⟨congrArg Prod.fst hmarks, congrArg Prod.snd hmarks⟩
      · simp [endService_noz]
    · refine ⟨_, execFeedDone_ok hr h.ok, ?_, endAction_ends hr rfl rfl rfl, ?_⟩
      · simp [feedOver]
      · rw [endAction_motion]
        have hm : (endAction s 0x0706 stOk (b16 fed ++ [if (byteAt a.payload 2).toNat.testBit 0 then 1 else 0, 0])).motion = s.motion := by
          simp
        generalize endAction s 0x0706 stOk (b16 fed ++ [if (byteAt a.payload 2).toNat.testBit 0 then 1 else 0, 0]) = u at hm
        rw [← hm]
  · obtain ⟨f, r, hex⟩ := execServiceWaitTimeout_over (gates := gates) (tests := tests) hv hw
    exact ⟨_, hex, by rw [sledAfter_noz, endService_noz]⟩
  · simp [exec, execServiceWaitTimeout, hv, hw]
  · obtain ⟨u, hex, hnoz, hmaps⟩ := execNozMapWrite_sound hr hd hw hn
    have hlt := olderMap_lt (n := s.nvm)
    refine ⟨u, hex, by rw [hnoz], by rw [hnoz], by rw [hnoz], ⟨mapNow s, ?_, rfl, rfl, rfl, rfl, rfl, rfl, rfl⟩, ?_⟩
    · rw [hmaps, List.getElem?_set_self (by omega)]
    · rw [hmaps, List.getElem?_set_ne (by omega)]
  · obtain ⟨u, e1, e2, e3, e4, e5⟩ := calEnds_parts (s := s) (v := s) (st := stFault) (slot := 0xFF) (q := 0)
      (more := faultDetail (mechDetail s e).1 (mechDetail s e).2) hr rfl rfl rfl
    exact ⟨u, (execCalDone_fails hr hst h0 hf).trans (congrArg Host.Outcome.next e1), e2, by rw [e3], by rw [e3], by rw [e3], e4, e5⟩
  · have hn : (runsWhole s 2 m && s.cal.aoHeld) = false := by
      rcases hw with hw | hw <;> simp [hw]
    rw [execCalDone_ao hr hst h0 hf, hn, hq]
    rfl
  · have hn : (runsWhole s 2 m && s.cal.aoHeld) = false := by
      rcases hw with hw | hw <;> simp [hw]
    have hex := execCalDone_ao (m := m) hr hst h0 hf
    rw [hn, hq] at hex
    obtain ⟨u, e1, e2, e3, e4, e5⟩ := calDisagrees_parts (s := s) (v := (drawNonce s).2) (q := (drawNonce s).1.setWidth 32) hr rfl rfl rfl
    exact ⟨u, _, hex.trans (congrArg Host.Outcome.next e1), e2, by rw [e3]; rfl, by rw [e3]; rfl, by rw [e3], e4, e5⟩
  · obtain ⟨q, v, hq⟩ : ∃ q v, calQuality s 2 (calRef a) (runValues 2 m.verify) = (q, v) := ⟨_, _, rfl⟩
    obtain ⟨k1, k2, k3, k4, k5⟩ := calQuality_kept hq
    have hex := execCalDone_ao (m := m) hr hst h0 hf
    rw [hw, ho, endCalRuns_disagrees hq hag] at hex
    obtain ⟨u, e1, e2, e3, e4, e5⟩ := calDisagrees_parts (s := s) (v := v) (q := q) hr (congrArg Saf.actions k1) k2 k3
    exact ⟨u, q, hex.trans (congrArg Host.Outcome.next e1), e2, by rw [e3, k4], by rw [e3, k4], by rw [e3], e4.trans k5, e5⟩
  · obtain ⟨k1, k2, k3, k4, k5⟩ := calQuality_kept hq
    obtain ⟨l1, l2, l3, l4, l5⟩ := selFrom_kept hsel
    have hex := execCalDone_ao (m := m) hr hst h0 hf
    rw [hw, ho, endCalRuns_applies hq hag hs hsel hv hok] at hex
    obtain ⟨u, e1, e2⟩ := applyResult_trial (q := q) (sel := sel) (tCal := m.tCal) hr (l1.trans k1) (l2.trans k2) (l3.trans k3) (l4.trans k4)
      (l5.trans k5) hb ((shadowSlot_of_otp (l5.trans k5) 2).trans hs)
    exact ⟨u, hex.trans (congrArg Host.Outcome.next e1), e2⟩
  · obtain ⟨q, v, hq⟩ : ∃ q v, calQuality s 2 (calRef a) (runValues 2 m.verify) = (q, v) := ⟨_, _, rfl⟩
    obtain ⟨k1, k2, k3, k4, k5⟩ := calQuality_kept hq
    have hex := execCalDone_ao (m := m) hr hst h0 hf
    rw [hw, ho, endCalRuns_reports hq hag hb hs] at hex
    obtain ⟨u, e1, e2, e3, e4, e5⟩ := calEnds_parts (s := s) (v := v) (st := stOk) (slot := 0xFF) (q := q) (more := []) hr
      (congrArg Saf.actions k1) k2 k3
    exact ⟨u, q, hex.trans (congrArg Host.Outcome.next e1), by simpa using e2, by rw [e3, k4], by rw [e3, k4], by rw [e3], e4.trans k5, e5⟩
  · have hex := execCalOtpStore_stores hr hst hp hj hv hb hbl hdef
    generalize otpWithCheck ((slotData 2 sel tCal q.toNat 0 s.log.bootCount.toNat).headD 0) w = d at hex ⊢
    obtain ⟨k1, k2, k3, -⟩ := programWord_kept (s := s) d (slot_of_ao hbl)
    obtain ⟨u, e1, e2, e3, e4, -⟩ := calEnds_parts (s := s) (st := stOk) (slot := b8 (slotNumber 2 [w])) (q := q) (more := [])
      (v := logEvent (aoStored s w d) 0x0C01 [byteAt a.payload 0, b8 (slotNumber 2 [w])]) hr
      (by simpa [aoStored] using k1) (by simpa [aoStored] using k2) (by simpa [aoStored] using k3)
    refine ⟨u, hex.trans (congrArg Host.Outcome.next e1), by rw [e3], by simpa using e2, ?_⟩
    rw [e4]
    simpa [aoStored] using programWord_words w d
  · obtain ⟨e1, e2, -, e4⟩ := endCal_parts (s := s) (d := 0x0008) (i := 0) hr
    exact ⟨_, execCalOtpStore_barred hr hst hp hj hv hb, rfl, e2, e1, by rw [e4]⟩
  · simp [exec, execCalWaitTimeout, hw]
  · obtain ⟨e1, e2, e3, e4⟩ := endCal_parts (s := s) (d := 0x0005) (i := 0) hr
    exact ⟨endCal s 0x0005 0, by simp [exec, execCalWaitTimeout, hr, hw], rfl, e1, e2, e3, e4⟩

end Sys2Proof.Machine
end

section
/-! SUPPORT of O57. The ceiling detector, and the system's slots of a tick (R26, R361, R362, R469). -/

namespace Sys2Proof.Machine

variable {s t u : State} {codes : List (BitVec 12)}

/-! ### What the rest of the part leaves of the hub -/

/-- The hub, but for a converter that is lent, hub time, and what the ceiling detector holds. -/
def hubSide (s : State) : Hub × Time × Bool := ({ s.hub with borrowed := 0 }, s.clk.hubTime, s.saf.tripped)

theorem foldl_hubSide {α : Type} {g : State → α → State} (h : ∀ t x, hubSide (g t x) = hubSide t) (l : List α) (s : State) :
    hubSide (l.foldl g s) = hubSide s := by
  induction l generalizing s with
  | nil => rfl
  | cons x l ih => exact (ih _).trans (h s x)

@[simp] theorem logEvent_hubSide (code : Nat) (data : List Byte) : hubSide (logEvent s code data) = hubSide s := by simp [hubSide]

@[simp] theorem releaseCharger_hubSide : hubSide (releaseCharger s) = hubSide s := rfl

@[simp] theorem slowDown_hubSide (u : FeedUse) : hubSide (slowDown s u) = hubSide s := by simp [hubSide]

@[simp] theorem haltTicket_hubSide (c : Nat) : hubSide (haltTicket s c) = hubSide s := by
  simp only [haltTicket]
  (repeat' split) <;> simp [hubSide]

@[simp] theorem haltService_hubSide : hubSide (haltService s) = hubSide s := by
  simp only [haltService]
  split <;> simp [hubSide]

@[simp] theorem cutFails_hubSide : hubSide (cutFails s) = hubSide s := by
  simp only [cutFails]
  (repeat' split) <;> simp [hubSide]

@[simp] theorem drawUpTo_hubSide (n : Nat) : hubSide (drawUpTo s n).2 = hubSide s := rfl

@[simp] theorem addFires_hubSide (l : List Nat) (k : Nat) : hubSide (addFires s l k) = hubSide s := by simp [hubSide]

@[simp] theorem cutHeadFires_hubSide (a : Action) : hubSide (cutHeadFires s a) = hubSide s := by
  unfold cutHeadFires
  split
  · rfl
  · extract_lets d m v w
    have hw : hubSide w = hubSide v := by
      refine foldl_hubSide (fun t i => ?_) _ _
      exact (addFires_hubSide _ _).trans rfl
    exact (addFires_hubSide _ _).trans hw

@[simp] theorem endAction_hubSide (op st : Nat) (r : List Byte) : hubSide (endAction s op st r) = hubSide s := by
  simp only [endAction]
  (repeat' split) <;> simp [hubSide]

@[simp] theorem endCal_hubSide (d i : Nat) : hubSide (endCal s d i) = hubSide s := by
  simp only [endCal]
  split
  · rfl
  · next a _ =>
    have hd : ∀ t : State, hubSide (dropTrial t) = hubSide t := fun t => by simp [hubSide, dropTrial, deriveTrip]
    exact (endAction_hubSide _ _ _).trans ((hd _).trans (cutHeadFires_hubSide a))

@[simp] theorem assertDisch_hubSide (k : Nat) : hubSide (assertDisch s k) = hubSide s := by
  unfold assertDisch
  extract_lets stands s1 wasLow s2 s3 s4 s5 s6 s7 s8 s9
  have h1 : hubSide s1 = hubSide s := by simp only [s1]; split <;> simp
  have h7 : hubSide s7 = hubSide s := by
    simp only [s7, s6, s5, slowDown_hubSide, cutFails_hubSide, haltService_hubSide, haltTicket_hubSide]
    exact h1
  split
  · exact h1
  · split
    · exact (endCal_hubSide (s := s7) 8 0).trans h7
    · exact h7

theorem hub_of_hubSide (h : hubSide t = hubSide s) : t.hub = { s.hub with borrowed := t.hub.borrowed } := by
  have h1 : { t.hub with borrowed := 0 } = { s.hub with borrowed := 0 } := congrArg Prod.fst h
  exact congrArg (fun x : Hub => { x with borrowed := t.hub.borrowed }) h1

theorem hubTime_of_hubSide (h : hubSide t = hubSide s) : t.clk.hubTime = s.clk.hubTime := congrArg (fun x => x.2.1) h

theorem tripped_of_hubSide (h : hubSide t = hubSide s) : t.saf.tripped = s.saf.tripped := congrArg (fun x => x.2.2) h

/-- Asserting DISCH moves no enable but those it releases. -/
theorem assertDisch_seq (k : Nat) : (assertDisch s k).seq = (releaseCharger s).seq := by
  unfold assertDisch
  extract_lets stands s1 wasLow s2 s3 s4 s5 s6 s7 s8 s9
  have h1 : s1.seq = s.seq := by simp only [s1]; split <;> simp
  have h4 : s4.seq = (releaseCharger s).seq := by simp only [s4, s3, releaseCharger, h1]
  have h7 : s7.seq = (releaseCharger s).seq := by simpa [s7, s6, s5] using h4
  split
  · exact h4
  · split
    · exact (by simp : (endCal s7 8 0).seq = s7.seq).trans h7
    · exact h7

/-! ### What the ceiling detector does -/

theorem ceilingRelease_parts : hubSide (ceilingRelease s) = hubSide s ∧ (ceilingRelease s).saf.charger = false ∧
    (ceilingRelease s).saf.overCount = s.saf.overCount ∧
    (chRun (ceilingRelease s).seq (bootCharger s.otp)).en = false := by
  refine ⟨rfl, rfl, rfl, ?_⟩
  have ho : (releaseCharger s).otp = s.otp := rfl
  simp only [ceilingRelease, modSeq, modCh, chRun, modAt, ho, List.getD_eq_getElem?_getD, List.getElem?_modify_eq]
  cases h : (releaseCharger s).seq.ch[bootCharger s.otp]? with
  | none => rfl
  | some c =>
    cases he : c.en with
    | false => simp [he]
    | true => simp [he]

theorem ceilingClear_parts : hubSide (ceilingClear s) = hubSide s ∧ (ceilingClear s).saf = s.saf := by
  unfold ceilingClear
  split <;> exact ⟨rfl, rfl⟩

/-- A reading past the ceiling's highest code, or with more energy than the reservoir may hold (R362). -/
def overCeiling (s : State) (code : Nat) : Bool :=
  decide (code = 4095 ∨ 102 * (eMax s.otp : Rat) / 100000 < eResOf s.otp code)

/-- What the ceiling detector does with a reading, before the third one that is too high (R361). -/
def ceilingLevel (s : State) (code : Nat) : State :=
  if s.saf.tripCode ≤ code then ceilingRelease { s with saf := { s.saf with tripped := true } }
  else if code ≤ 98 * s.saf.tripCode / 100 then ceilingClear { s with saf := { s.saf with tripped := false } }
  else s

theorem ceilingLevel_kept (code : Nat) : (ceilingLevel s code).rst = s.rst ∧ (ceilingLevel s code).otp = s.otp ∧
    (ceilingLevel s code).pwr = s.pwr ∧ (ceilingLevel s code).saf.overCount = s.saf.overCount ∧
    (ceilingLevel s code).hub = s.hub ∧ (ceilingLevel s code).clk = s.clk := by
  unfold ceilingLevel
  split
  · simp [ceilingRelease, releaseCharger]
  · split
    · simp
    · simp

/-- The check's own counts, and DISCH on the third reading in a row. -/
theorem ceilingCheck_eq (code : Nat) : ∃ u, u = { ceilingLevel s code with saf := { (ceilingLevel s code).saf with
      overCount := if overCeiling s code then s.saf.overCount + 1 else 0
      needLow := (ceilingLevel s code).saf.needLow && !below1J (ceilingLevel s code) } } ∧
    ceilingCheck s code = if 3 ≤ u.saf.overCount ∧ coreRuns u ∧ u.pwr.st ≠ .nap then seqReq u 0 (fun s => assertDisch s 7) else u := by
  refine ⟨_, rfl, ?_⟩
  obtain ⟨-, ho, -, hc, -, -⟩ := ceilingLevel_kept (s := s) code
  simp only [overCeiling, ← ho, ← hc]
  rfl

theorem ceilingCheck_hubSide (code : Nat) : (ceilingCheck s code).hub = { s.hub with borrowed := (ceilingCheck s code).hub.borrowed } ∧
    (ceilingCheck s code).clk.hubTime = s.clk.hubTime ∧ (ceilingCheck s code).rst.main = s.rst.main ∧
    (ceilingCheck s code).rst.vddaGood = s.rst.vddaGood ∧
    (ceilingCheck s code).saf.tripped = (ceilingLevel s code).saf.tripped := by
  obtain ⟨u, hu, h⟩ := ceilingCheck_eq (s := s) code
  obtain ⟨hr, -, -, -, hb, hk⟩ := ceilingLevel_kept (s := s) code
  have hub : u.hub = s.hub := by rw [hu]; exact hb
  have hclk : u.clk = s.clk := by rw [hu]; exact hk
  have hrst : u.rst = s.rst := by rw [hu]; exact hr
  have htr : u.saf.tripped = (ceilingLevel s code).saf.tripped := by rw [hu]
  rw [h]
  split
  · have hd := assertDisch_hubSide (s := u) 7
    refine ⟨?_, (hubTime_of_hubSide hd).trans (congrArg _ hclk), ?_, ?_, (tripped_of_hubSide hd).trans htr⟩
    · exact (hub_of_hubSide hd).trans (by rw [hub]; rfl)
    · simp [seqReq, hrst]
    · simp [seqReq, hrst]
  · exact ⟨by rw [hub], by rw [hclk], by rw [hrst], by rw [hrst], htr⟩

/-- A reading at the trip code or above releases the charger and its channel (R26, R361). -/
theorem ceilingCheck_trips {code : Nat} (h : s.saf.tripCode ≤ code) : (ceilingCheck s code).saf.tripped = true ∧
    (ceilingCheck s code).saf.charger = false ∧ (chRun (ceilingCheck s code).seq (bootCharger s.otp)).en = false := by
  have hl : ceilingLevel s code = ceilingRelease { s with saf := { s.saf with tripped := true } } := if_pos h
  obtain ⟨hs, hc, -, he⟩ := ceilingRelease_parts (s := { s with saf := { s.saf with tripped := true } })
  refine ⟨ceilingCheck_hubSide code |>.2.2.2.2.trans
    ((congrArg (fun u : State => u.saf.tripped) hl).trans (tripped_of_hubSide hs)), ?_⟩
  obtain ⟨u, hu, h⟩ := ceilingCheck_eq (s := s) code
  have huc : u.saf.charger = false := by rw [hu, hl]; exact hc
  have hue : (chRun u.seq (bootCharger s.otp)).en = false := by rw [hu, hl]; exact he
  rw [h]
  split
  · refine ⟨(assertDisch_parts (s := u) 7).2.2.2, ?_⟩
    show (chRun (assertDisch u 7).seq _).en = false
    rw [assertDisch_seq]
    simp only [releaseCharger, chRun, List.getD_eq_getElem?_getD, List.getElem?_mapIdx] at hue ⊢
    cases hx : u.seq.ch[bootCharger s.otp]? with
    | none => rfl
    | some c =>
      rw [hx] at hue
      simp only [Option.map_some, Option.getD_some] at hue ⊢
      split
      · rfl
      · exact hue
  · exact ⟨huc, hue⟩

/-- A reading at 98 % of the trip code or below lets go (R361). -/
theorem ceilingCheck_clears {code : Nat} (h : code ≤ 98 * s.saf.tripCode / 100) (h1 : code < s.saf.tripCode) :
    (ceilingCheck s code).saf.tripped = false := by
  have hl : ceilingLevel s code = ceilingClear { s with saf := { s.saf with tripped := false } } :=
    (if_neg (by omega)).trans (if_pos h)
  exact (ceilingCheck_hubSide code).2.2.2.2.trans
    ((congrArg (fun u : State => u.saf.tripped) hl).trans (congrArg Saf.tripped (ceilingClear_parts (s := { s with saf := { s.saf with tripped := false } })).2))

/-- The third reading in a row that is too high asserts DISCH (R362). -/
theorem ceilingCheck_over {code : Nat} (h2 : 2 ≤ s.saf.overCount) (hc : coreRuns s = true) (hn : s.pwr.st ≠ .nap)
    (h : overCeiling s code = true) : (ceilingCheck s code).saf.disch = true ∧
    (ceilingCheck s code).saf.reasons.toNat.testBit 7 = true := by
  obtain ⟨u, hu, he⟩ := ceilingCheck_eq (s := s) code
  obtain ⟨hr, -, hp, -, -, -⟩ := ceilingLevel_kept (s := s) code
  have h3 : 3 ≤ u.saf.overCount ∧ coreRuns u ∧ u.pwr.st ≠ .nap := by
    rw [hu]
    refine ⟨by simp only [h, if_true]; omega, ?_, by simpa [hp] using hn⟩
    simpa [coreRuns, hr] using hc
  rw [he, if_pos h3]
  obtain ⟨h1, h4, -, -⟩ := assertDisch_parts (s := u) 7
  exact ⟨h1, (congrArg (fun r : BitVec 16 => r.toNat.testBit 7) h4).trans
    ((testBit_or_pow _ (by decide)).trans (by simp))⟩

/-! ### The system slots -/

/-- A system slot's part of a tick. -/
def sysStep (codes : List (BitVec 12)) (s : State) (n : Nat) : State :=
  if !s.rst.vddaGood then loseSample s n else
  let ch := slotSource (hubSlot s.hub n)
  let s := putReading s ch (codes.getD ch 0)
  if n = 0 then ceilingCheck s (codes.getD ch 0).toNat else if n = 2 then addEnergy s else s

theorem systemSlots_eq : systemSlots codes s = ((List.range 10).filter (slotDue s)).foldl (sysStep codes) s := rfl

/-- From one state to the other only channels other than the reservoir's were read, and energy added up. -/
def OnlyRead (s t : State) : Prop := ∃ l w e, t = { s with
    hub := { s.hub with latest := l }, saf := { s.saf with winEnergy := w, slotEnergy := e } } ∧ l[24]? = s.hub.latest[24]?

theorem OnlyRead.refl : OnlyRead s s := ⟨_, _, _, rfl, rfl⟩

theorem OnlyRead.trans (h : OnlyRead s t) (h' : OnlyRead t u) : OnlyRead s u := by
  obtain ⟨l, w, e, rfl, h1⟩ := h
  obtain ⟨l', w', e', rfl, h2⟩ := h'
  exact ⟨l', w', e', rfl, h2.trans h1⟩

theorem hubSlot_sys {n : Nat} {h : Hub} (hn : n < 10) (hs : h.slots.take 10 = Hub.sysSlots) :
    hubSlot h n = Hub.sysSlots.getD n (zeros 28) := by
  rw [hubSlot, List.getD_eq_getElem?_getD, List.getD_eq_getElem?_getD, ← hs, List.getElem?_take_of_lt hn]

theorem sysSlots_source : ∀ n < 10, n ≠ 0 → slotSource (Hub.sysSlots.getD n (zeros 28)) ≠ 24 := by decide

theorem sysStep_onlyRead {n : Nat} (hn : n < 10) (h0 : n ≠ 0) (hv : s.rst.vddaGood = true)
    (hs : s.hub.slots.take 10 = Hub.sysSlots) : OnlyRead s (sysStep codes s n) := by
  have hc : slotSource (hubSlot s.hub n) ≠ 24 := by rw [hubSlot_sys hn hs]; exact sysSlots_source n hn h0
  have hp : OnlyRead s (putReading s (slotSource (hubSlot s.hub n)) (codes.getD (slotSource (hubSlot s.hub n)) 0)) :=
    ⟨_, _, _, rfl, List.getElem?_set_ne hc⟩
  simp only [sysStep, hv, Bool.not_true, Bool.false_eq_true, if_false, h0]
  split
  · exact hp.trans ⟨_, _, _, rfl, rfl⟩
  · exact hp

theorem foldl_sysStep_onlyRead (l : List Nat) (hl : ∀ n ∈ l, n < 10 ∧ n ≠ 0) (hv : s.rst.vddaGood = true)
    (hs : s.hub.slots.take 10 = Hub.sysSlots) : OnlyRead s (l.foldl (sysStep codes) s) := by
  induction l generalizing s with
  | nil => exact .refl
  | cons n l ih =>
    obtain ⟨h10, h0⟩ := hl n List.mem_cons_self
    have h1 := sysStep_onlyRead (codes := codes) h10 h0 hv hs
    refine h1.trans (ih (fun k hk => hl k (List.mem_cons_of_mem _ hk)) ?_ ?_)
    · obtain ⟨_, _, _, h, -⟩ := h1; rw [h]; exact hv
    · obtain ⟨_, _, _, h, -⟩ := h1; rw [h]; exact hs

theorem slotDue_reservoir (hs : s.hub.slots.take 10 = Hub.sysSlots) (hp : s.pwr.st = .run) : slotDue s 0 = true := by
  have h0 := hubSlot_sys (n := 0) (h := s.hub) (by decide) hs
  have h1 : sysPeriod (decide (s.pwr.st = .nap)) 0 (hubSlot s.hub 0) = 1 := by rw [h0, hp]; rfl
  have h2 : slotKind (hubSlot s.hub 0) = 1 := by rw [h0]; rfl
  have h3 : slotPhase (hubSlot s.hub 0) = 0 := by rw [h0]; rfl
  simp only [slotDue, h2, h3]
  rw [if_pos (by decide), h1, Nat.mod_one]
  rfl

/-- The system slots read the reservoir first, and the rest after it changes nothing of what the reservoir's reading did. -/
theorem systemSlots_reservoir (hs : s.hub.slots.take 10 = Hub.sysSlots) (hp : s.pwr.st = .run) (hv : s.rst.vddaGood = true) :
    OnlyRead (ceilingCheck (putReading s 24 (codes.getD 24 0)) (codes.getD 24 0).toNat) (systemSlots codes s) := by
  have h0 : (List.range 10).filter (slotDue s) = 0 :: ((List.range' 1 9).filter (slotDue s)) := by
    show (0 :: List.range' 1 9).filter (slotDue s) = _
    exact List.filter_cons_of_pos (slotDue_reservoir hs hp)
  have h24 : slotSource (hubSlot s.hub 0) = 24 := by rw [hubSlot_sys (by decide) hs]; rfl
  have h1 : sysStep codes s 0 = ceilingCheck (putReading s 24 (codes.getD 24 0)) (codes.getD 24 0).toNat := by
    simp only [sysStep, hv, h24, Bool.not_true, Bool.false_eq_true, if_false, if_true]
  obtain ⟨hh, -, -, hd, -⟩ := ceilingCheck_hubSide (s := putReading s 24 (codes.getD 24 0)) (codes.getD 24 0).toNat
  rw [systemSlots_eq, h0, List.foldl_cons, h1]
  refine foldl_sysStep_onlyRead _ (fun n hn => ?_) (hd.trans hv) ?_
  · obtain ⟨k, hk, rfl⟩ := List.mem_range'.1 (List.mem_filter.mp hn).1
    omega
  · rw [hh]; exact hs

end Sys2Proof.Machine
end

section
/-! SUPPORT of O57. A tick of the hub: what its system work leaves (R458, R462 to R465). -/

namespace Sys2Proof.Machine

variable {s t u : State} {codes lit : List (BitVec 12)} {held : Bool} {d : Nat} {e : List Byte}

/-! ### A tick before the user's work -/

/-- From one state to the other the hub wrote up to `n` records, and nothing else. -/
def Recorded (n : Nat) (s t : State) : Prop := ∃ f a l o r h, t = { s with hub := { s.hub with
    fifo := f, alive := a, fifoLost := l, fifoOver := o, restartDue := r, lastHigh := h } } ∧ f.length ≤ s.hub.fifo.length + n

theorem pushRecord_recorded (at_ : Time) (src fl : Nat) (v : Int) (aux : Nat) : Recorded 1 s (pushRecord s at_ src fl v aux) := by
  simp only [pushRecord]
  split
  · exact ⟨_, _, _, _, _, _, rfl, by simp⟩
  · refine ⟨_, _, _, _, _, _, rfl, ?_⟩
    split <;> simp

theorem restartRecord_recorded : Recorded 1 s (restartRecord s) := by
  simp only [restartRecord]
  split
  · exact ⟨_, _, _, _, _, _, rfl, by simp⟩
  · obtain ⟨f, a, l, o, r, h, he, hf⟩ := pushRecord_recorded (s := s) (now s) 0xF1 0 ((highBits (now s)).toNat : Int) s.hub.restartAux.toNat
    rw [he]
    exact ⟨_, _, _, _, _, _, rfl, hf⟩

/-- What the tick's system work does: the bus seen, a restart record, and the system slots. -/
def systemWork (codes : List (BitVec 12)) (held : Bool) (s : State) : State := systemSlots codes (restartRecord (busSeen held s))

/-- A system that runs and converts its own slots. -/
def SystemRuns (s : State) : Prop := s.hub.slots.take 10 = Hub.sysSlots ∧ s.pwr.st = .run ∧ s.rst.vddaGood = true

/-- The system's work leaves the hub's tables, and what it has read of the reservoir stands. -/
theorem systemWork_hub (hs : SystemRuns s) : ∃ f a l o r h lat b, (systemWork codes held s).hub = { s.hub with
      i2cHeld := held, busI2c := startHead held (now s) s.hub.busI2c, fifo := f, alive := a, fifoLost := l, fifoOver := o
      restartDue := r, lastHigh := h, latest := lat, borrowed := b } ∧ f.length ≤ s.hub.fifo.length + 1 ∧
    lat[24]? = (s.hub.latest.set 24 ⟨codes.getD 24 0, now s, true⟩)[24]? ∧
    (systemWork codes held s).clk.hubTime = s.clk.hubTime ∧ (systemWork codes held s).rst.main = s.rst.main ∧
    (systemWork codes held s).rst.vddaGood = true := by
  obtain ⟨h0, hp, hv⟩ := hs
  obtain ⟨f, a, l, o, r, h, he, hf⟩ := restartRecord_recorded (s := busSeen held s)
  have hr := systemSlots_reservoir (codes := codes) (s := restartRecord (busSeen held s)) (by rw [he]; exact h0)
    (by rw [he]; exact hp) (by rw [he]; exact hv)
  have hw : ∃ z, z = ceilingCheck (putReading (restartRecord (busSeen held s)) 24 (codes.getD 24 0)) (codes.getD 24 0).toNat ∧
      OnlyRead z (systemWork codes held s) := ⟨_, rfl, hr⟩
  obtain ⟨z, hz, lat, w, en, hw, hl⟩ := hw
  obtain ⟨c1, c2, c3, c4, -⟩ := ceilingCheck_hubSide (s := putReading (restartRecord (busSeen held s)) 24 (codes.getD 24 0))
    (codes.getD 24 0).toNat
  rw [← hz, he] at c1 c2 c3 c4
  clear hr hz
  rw [hw]
  rw [c1] at hl
  refine ⟨f, a, l, o, r, h, lat, z.hub.borrowed, ?_, hf, hl, c2, c3, c4.trans hv⟩
  show { z.hub with latest := lat } = _
  rw [c1]
  rfl

/-- What the system's work does to Saffron is what the ceiling detector does with the reservoir's reading. -/
theorem systemWork_saf (hs : SystemRuns s) : ∃ v, v.saf = s.saf ∧ v.seq = s.seq ∧ v.otp = s.otp ∧ v.rst = s.rst ∧ v.pwr = s.pwr ∧
    OnlyRead (ceilingCheck v (codes.getD 24 0).toNat) (systemWork codes held s) := by
  obtain ⟨h0, hp, hv⟩ := hs
  obtain ⟨f, a, l, o, r, h, he, -⟩ := restartRecord_recorded (s := busSeen held s)
  refine ⟨putReading (restartRecord (busSeen held s)) 24 (codes.getD 24 0), ?_, ?_, ?_, ?_, ?_, systemSlots_reservoir ?_ ?_ ?_⟩
  all_goals rw [he]
  · rfl
  · rfl
  · rfl
  · rfl
  · rfl
  · exact h0
  · exact hp
  · exact hv

/-! ### A tick -/

/-- The state as a tick finds it: 100 us on, with the selections that wait for a tick. -/
def ticked (s : State) : State := switchDue { s with clk := passTime s.clk 100 } (fun t => decide (5 ≤ t))

theorem ticked_eq : ∃ c, ticked s = { s with clk := passTime s.clk 100, cal := c } := ⟨_, switchDue_eq _⟩

theorem ticked_runs (h : SystemRuns s) : SystemRuns (ticked s) := by
  obtain ⟨c, hc⟩ := ticked_eq (s := s)
  rw [hc]
  exact h

theorem execHubTick_eq (codes : Sampled) (hv : s.rst.vaoGood = true) (hp : s.pwr.st = .run) : exec (.hubTick codes held) s =
    .next (if coreRuns (seqDone (if s.hub.running then runTick codes.dark codes.lit held (ticked s) else wffConvert codes.dark (ticked s)))
      then feedTick (calTick (serviceTick (seqDone (if s.hub.running then runTick codes.dark codes.lit held (ticked s)
        else wffConvert codes.dark (ticked s)))))
      else seqDone (if s.hub.running then runTick codes.dark codes.lit held (ticked s) else wffConvert codes.dark (ticked s))) := by
  obtain ⟨c, hc⟩ := ticked_eq (s := s)
  have hr : (ticked s).hub.running = s.hub.running := by rw [hc]
  show execHubTick codes held s = _
  unfold execHubTick
  rw [if_neg (by simp [hv, hp])]
  extract_lets a b v
  have ha : a = { s with clk := passTime s.clk 100 } := if_neg (by simp [hp])
  have hb : b = ticked s := congrArg (fun u => switchDue u (fun t => decide (5 ≤ t))) ha
  have hvv : v = seqDone (if s.hub.running then runTick codes.dark codes.lit held (ticked s) else wffConvert codes.dark (ticked s)) := by
    simp only [v, hb, hr]
  rw [hvv]

theorem wffConvert_idle (h : s.hub.wff = none) : wffConvert codes s = s := by simp [wffConvert, h]

/-- A tick that has no user work. -/
theorem runTick_unready (hs : SystemRuns s) (hr : s.hub.reserve = false) (hw : s.hub.wff = none) (hd : s.hub.defer = []) :
    ∃ r p, runTick codes lit held s = { systemWork codes held s with hub := { (systemWork codes held s).hub with
      running := r, stopping := p } } := by
  obtain ⟨f, a, l, o, rr, h, lat, b, hh, -⟩ := systemWork_hub (codes := codes) (held := held) hs
  have h1 : (systemWork codes held s).hub.reserve = false := by rw [hh]; exact hr
  have h2 : (systemWork codes held s).hub.wff = none := by rw [hh]; exact hw
  have h3 : (systemWork codes held s).hub.defer = [] := by rw [hh]; exact hd
  unfold runTick
  extract_lets y z w v x
  have hz : z = y := if_neg (by simp [y, busSeen, setHub, hr])
  have hwv : w = systemWork codes held s := congrArg (fun u => systemSlots codes (restartRecord u)) hz
  have hv : v = systemWork codes held s := by
    simp only [v, hwv, wffConvert_idle h2, userWork, h1, Bool.not_false, if_true]
  have hx : ∃ r p, x = { systemWork codes held s with hub := { (systemWork codes held s).hub with running := r, stopping := p } } := by
    simp only [x, hv]
    split
    · exact ⟨_, _, rfl⟩
    · exact ⟨_, _, rfl⟩
  obtain ⟨r, p, hx⟩ := hx
  have hxd : x.hub.defer = [] := by rw [hx]; exact h3
  exact ⟨r, p, (if_neg (by simp [hxd])).trans hx⟩

/-- What a tick does with the reservoir where there is no user work. -/
theorem tick_reservoir (hs : SystemRuns s) (hr : s.hub.reserve = false) (hw : s.hub.wff = none) (hd : s.hub.defer = [])
    (h27 : s.hub.latest.length = 27) : ∃ u, runTick codes lit held s = u ∧
    u.clk.hubTime = s.clk.hubTime ∧ u.hub.i2cHeld = held ∧ u.hub.busI2c = startHead held (now s) s.hub.busI2c ∧
    reading u 24 = ⟨codes.getD 24 0, now s, true⟩ ∧
    (s.saf.tripCode ≤ (codes.getD 24 0).toNat →
      u.saf.tripped = true ∧ u.saf.charger = false ∧ (chRun u.seq (bootCharger s.otp)).en = false) ∧
    ((codes.getD 24 0).toNat ≤ 98 * s.saf.tripCode / 100 → (codes.getD 24 0).toNat < s.saf.tripCode → u.saf.tripped = false) ∧
    (2 ≤ s.saf.overCount → coreRuns s = true → overCeiling s (codes.getD 24 0).toNat = true →
      u.saf.disch = true ∧ u.saf.reasons.toNat.testBit 7 = true) := by
  obtain ⟨r, p, hu⟩ := runTick_unready (codes := codes) (lit := lit) (held := held) hs hr hw hd
  obtain ⟨f, a, l, o, rr, h, lat, b, hh, -, hl, ht, -, -⟩ := systemWork_hub (codes := codes) (held := held) hs
  obtain ⟨v, v1, v2, v3, v4, v5, hv⟩ := systemWork_saf (codes := codes) (held := held) hs
  generalize hc : ceilingCheck v (codes.getD 24 0).toNat = c at hv
  obtain ⟨lat', we, se, hw', -⟩ := hv
  refine ⟨_, hu, ht, ?_, ?_, ?_, fun h => ?_, fun h h' => ?_, fun h2 hco ho => ?_⟩
  · exact (congrArg Hub.i2cHeld hh :)
  · exact (congrArg Hub.busI2c hh :)
  · have hl' : (systemWork codes held s).hub.latest = lat := by rw [hh]
    show (systemWork codes held s).hub.latest.getD 24 Reading.none = _
    rw [hl', List.getD_eq_getElem?_getD, hl, List.getElem?_set_self (by omega)]
    rfl
  · obtain ⟨k1, k2, k3⟩ := ceilingCheck_trips (s := v) (code := (codes.getD 24 0).toNat) (by rw [v1]; exact h)
    rw [hc, v3] at k3
    rw [hc] at k1 k2
    rw [hw']
    exact ⟨k1, k2, k3⟩
  · have k1 := ceilingCheck_clears (s := v) (code := (codes.getD 24 0).toNat) (by rw [v1]; exact h) (by rw [v1]; exact h')
    rw [hc] at k1
    rw [hw']
    exact k1
  · have k1 := ceilingCheck_over (s := v) (code := (codes.getD 24 0).toNat) (by rw [v1]; exact h2)
      (by simpa [coreRuns, v4] using hco) (by rw [v5, hs.2.1]; decide) (by simpa [overCeiling, v3, eResOf, vRes] using ho)
    rw [hc] at k1
    rw [hw']
    exact k1

end Sys2Proof.Machine
end

section
/-! SUPPORT of O57. A detector's edges, and a tick with one detector (R484, R485). -/

namespace Sys2Proof.Machine

variable {s t u : State} {codes lit : List (BitVec 12)} {held : Bool} {d : Nat} {e : List Byte}

/-! ### What a detector's edge does -/

/-- The hub without what an edge's own work writes: its records, the levels that it drives, and its detectors' notes. -/
def edgeSide (s : State) : Hub × List Bool × Saf × Time := ({ s.hub with
  fifo := [], alive := 0, fifoLost := 0, fifoOver := 0, restartDue := false, lastHigh := 0, irqBy := 0, detRun := [] },
  s.hub.detRun.map DetRun.active, s.saf, s.clk.hubTime)

theorem edgeSide_recorded {n : Nat} (h : Recorded n s t) : edgeSide t = edgeSide s := by
  obtain ⟨f, a, l, o, r, hi, rfl, -⟩ := h
  rfl

theorem writeRecordAt_edgeSide (at_ : Time) (src fl : Nat) (v : Int) (aux : Nat) :
    edgeSide (writeRecordAt s at_ src fl v aux) = edgeSide s := by
  simp only [writeRecordAt]
  refine (edgeSide_recorded (pushRecord_recorded _ _ _ _ _)).trans ?_
  split
  · have h := edgeSide_recorded (pushRecord_recorded (s := s) (now s) 0xF0 0 ((highBits at_).toNat : Int) 0)
    exact h
  · rfl

theorem map_active_modify (l : List DetRun) (k : Nat) {f : DetRun → DetRun} (hf : ∀ r, (f r).active = r.active) :
    (l.modify k f).map DetRun.active = l.map DetRun.active := by
  apply List.ext_getElem?
  intro i
  simp only [List.getElem?_map, List.getElem?_modify]
  cases l[i]? with
  | none => rfl
  | some r => simp only [Option.map_some]; split <;> simp [hf]

theorem modDet_edgeSide (k : Nat) {f : DetRun → DetRun} (hf : ∀ r, (f r).active = r.active) :
    edgeSide (modDet s k f) = edgeSide s :=
  congrArg (fun l => (({ s.hub with fifo := [], alive := 0, fifoLost := 0, fifoOver := 0, restartDue := false
                                    lastHigh := 0, irqBy := 0, detRun := [] } : Hub), l, s.saf, s.clk.hubTime))
    (map_active_modify s.hub.detRun k hf)

theorem noteEdge_edgeSide (acts : Byte) (rec : List Byte) : edgeSide (noteEdge s d acts rec) = edgeSide s := by
  unfold noteEdge
  extract_lets r may notes logs v v1
  have hv : edgeSide v = edgeSide s := modDet_edgeSide d fun _ => rfl
  have h1 : edgeSide v1 = edgeSide v := by simp only [v1]; split <;> simp [edgeSide]
  split
  · rfl
  · split
    · split
      · exact (by simp [edgeSide] : edgeSide (logEvent v1 0x0B01 [b8 d, acts]) = edgeSide v1).trans (h1.trans hv)
      · exact h1.trans hv
    · refine (modDet_edgeSide d ?_).trans hv
      exact fun _ => rfl

theorem wakeSource_edgeSide (k : Nat) (hc : s.pwr.collect = none) (he : s.pwr.entry = none) :
    edgeSide (wakeSource s k) = edgeSide s ∧ (wakeSource s k).rst = s.rst ∧ (wakeSource s k).reed = s.reed ∧
      (wakeSource s k).pwr = s.pwr ∧ (wakeSource s k).hub = s.hub := by
  have h : wakeSource s k = s ∨ wakeSource s k = onRequest s := by
    unfold wakeSource
    extract_lets v
    have hp : v.pwr = s.pwr := by simp only [v]; split <;> simp
    rw [hp, hc, he]
    simp only [v]
    split
    · exact .inr rfl
    · exact .inl rfl
  rcases h with h | h <;> rw [h]
  · exact ⟨rfl, rfl, rfl, rfl, rfl⟩
  · simp [edgeSide]

/-- A part that is awake, in RUN, and no wake being collected. -/
def Awake (s : State) : Prop := s.pwr.st = .run ∧ s.pwr.collect = none ∧ s.pwr.entry = none

theorem wakeDoze_awake (h : s.pwr.st ≠ .doze) : wakeDoze s = { s with pwr := { s.pwr with dozeDue := false } } := if_neg h

theorem pushRecord_last (at_ : Time) (src fl : Nat) (v : Int) (aux : Nat) (h : s.hub.fifo.length < 2730) :
    ∃ alive, (pushRecord s at_ src fl v aux).hub.fifo.getLast? = some (hubRecord at_ src fl v aux alive) := by
  refine ⟨s.hub.alive, ?_⟩
  have hf : ¬ 2730 ≤ s.hub.fifo.length := by omega
  simp [pushRecord, hf, setHub]

theorem writeRecordAt_last (at_ : Time) (src fl : Nat) (v : Int) (aux : Nat) (h : s.hub.fifo.length < 2729) :
    ∃ alive, (writeRecordAt s at_ src fl v aux).hub.fifo.getLast? = some (hubRecord at_ src fl v aux alive) := by
  simp only [writeRecordAt]
  refine pushRecord_last _ _ _ _ _ ?_
  split
  · obtain ⟨f, a, l, o, r, hi, he, hf⟩ := pushRecord_recorded (s := s) (now s) 0xF0 0 ((highBits at_).toNat : Int) 0
    rw [he]
    exact Nat.lt_of_le_of_lt hf (by omega)
  · omega

theorem noteEdge_fifo (acts : Byte) (rec : List Byte) : (noteEdge s d acts rec).hub.fifo = s.hub.fifo := by
  unfold noteEdge
  extract_lets r may notes logs v v1
  have h1 : v1.hub.fifo = s.hub.fifo := by simp only [v1]; split <;> simp [v, modDet, setHub]
  split
  · rfl
  · split
    · split
      · exact (by simp : (logEvent v1 0x0B01 [b8 d, acts]).hub.fifo = v1.hub.fifo).trans h1
      · exact h1
    · rfl

/-- A notice never takes back what HST_IRQ shows. -/
theorem notifyWhere_irq {p : Nat → Bool} {op : Nat} {q : List Byte} {k : Nat} (h : s.port.irq.toNat.testBit k = true) :
    (notifyWhere s p op q).port.irq.toNat.testBit k = true := by
  have hcount : ∀ (t : State) (c : Nat), t.port.irq.toNat.testBit k = true → (countNotifLost t c).port.irq.toNat.testBit k = true := by
    intro t c ht
    unfold countNotifLost
    split
    · exact (testBit_or_pow _ (by decide)).trans (by simp [modCtx_port, ht])
    · split <;> simpa using ht
  have hn : ∀ (t : State) (c : Nat), t.port.irq.toNat.testBit k = true → (notify t c op 0 q).port.irq.toNat.testBit k = true := by
    intro t c ht
    unfold notify
    split
    · exact hcount t c ht
    · extract_lets x begun full out f v
      have hv : v.port.irq.toNat.testBit k = true := by simpa [v] using ht
      split
      · exact hcount v c hv
      · exact hv
  unfold notifyWhere
  generalize (List.range 12).filter p = l
  induction l generalizing s with
  | nil => exact h
  | cons c l ih => exact ih (hn s c h)

theorem noteEdge_irq (acts : Byte) (rec : List Byte) {k : Nat} (h : s.port.irq.toNat.testBit k = true) :
    (noteEdge s d acts rec).port.irq.toNat.testBit k = true := by
  unfold noteEdge
  extract_lets r may notes logs v v1
  have h1 : v1.port.irq.toNat.testBit k = true := by
    simp only [v1]
    split
    · exact notifyWhere_irq h
    · exact h
  split
  · exact h
  · split
    · split
      · simpa using h1
      · exact h1
    · exact h

theorem fieldAt_byte_lt (p : List Byte) (i : Nat) : fieldAt p i 1 < 256 := by
  unfold fieldAt slice
  cases p.drop i with
  | nil => decide
  | cons b l => simpa [ofLe] using b.isLt

/-- The work of an edge, in a part that is awake: it leaves what the edge had marked; a setting one has its record, and its level on
HST_IRQ (R485). -/
theorem edgeWork_parts (set : Bool) (v : Int) (at_ : Time) (deferred : Bool) (h : Awake s) :
    edgeSide (edgeWork s d set v at_ deferred) = edgeSide s ∧
    (set = true → detAction (hubDet s.hub d) 0 = true → s.hub.fifo.length < 2729 →
      ∃ alive, (edgeWork s d set v at_ deferred).hub.fifo.getLast? = some (hubRecord at_ (0x40 + d) (0x80 + flagBit deferred 2) v
        ((b8 (fieldAt (hubDet s.hub d) 3 1)).toNat + 256 * detRole (hubDet s.hub d)) alive)) ∧
    (set = true → detAction (hubDet s.hub d) 2 = true → coreRuns s = true → s.reed.owns = false →
      (edgeWork s d set v at_ deferred).port.irq.toNat.testBit 7 = true) := by
  obtain ⟨hp, hc, he⟩ := h
  unfold edgeWork
  extract_lets e acts aux flags own a rec0 b c c1 x y z
  have hact (i : Nat) : acts.toNat.testBit i = detAction e i := by
    exact congrArg (·.testBit i) (b8_toNat (fieldAt_byte_lt e 3))
  have ha : edgeSide a = edgeSide s ∧ a.pwr = s.pwr ∧ a.rst = s.rst ∧ a.reed = s.reed := by
    simp only [a]
    split
    · exact ⟨writeRecordAt_edgeSide _ _ _ _ _, by simp⟩
    · exact ⟨rfl, rfl, rfl, rfl⟩
  have hb : edgeSide b = edgeSide a ∧ b.pwr = a.pwr ∧ b.rst = a.rst ∧ b.reed = a.reed ∧ b.hub.fifo = a.hub.fifo := by
    simp only [b]
    split
    · exact ⟨rfl, rfl, rfl, rfl, rfl⟩
    · exact ⟨modDet_edgeSide d fun _ => rfl, rfl, rfl, rfl, rfl⟩
  have hc1 : edgeSide c1 = edgeSide b ∧ c1.pwr = b.pwr ∧ c1.rst.main = b.rst.main ∧ c1.reed = b.reed ∧ c1.hub = b.hub := by
    simp only [c1]
    split <;> exact ⟨rfl, rfl, rfl, rfl, rfl⟩
  have hpw : c1.pwr = s.pwr := hc1.2.1.trans (hb.2.1.trans ha.2.1)
  have hx : edgeSide x = edgeSide c1 ∧ x.rst = c1.rst ∧ x.reed = c1.reed ∧ x.pwr = c1.pwr ∧ x.hub = c1.hub := by
    simp only [x]
    split
    · exact wakeSource_edgeSide 8 (by rw [hpw]; exact hc) (by rw [hpw]; exact he)
    · exact ⟨rfl, rfl, rfl, rfl, rfl⟩
  have hy : edgeSide y = edgeSide x ∧ y.rst = x.rst ∧ y.reed = x.reed ∧ y.hub = x.hub := by
    simp only [y]
    split
    · rw [wakeDoze_awake (by rw [hx.2.2.2.1, hpw, hp]; decide)]
      exact ⟨rfl, rfl, rfl, rfl⟩
    · exact ⟨rfl, rfl, rfl, rfl⟩
  have hz : edgeSide z = edgeSide y ∧ z.hub.fifo = y.hub.fifo := by
    simp only [z]
    split
    · exact ⟨rfl, rfl⟩
    · split <;> exact ⟨rfl, rfl⟩
  have hbs : edgeSide b = edgeSide s := hb.1.trans ha.1
  refine ⟨?_, fun hset hown hlen => ?_, fun hset h2 hcore how => ?_⟩
  · split
    · exact hbs
    · exact (noteEdge_edgeSide acts rec0).trans (hz.1.trans (hy.1.trans (hx.1.trans (hc1.1.trans hbs))))
  · have hf : flags = 0x80 + flagBit deferred 2 := by simp only [flags, hset, if_true]
    have hw : a = writeRecordAt s at_ (0x40 + d) flags v aux := if_pos ((hact 0).trans hown)
    obtain ⟨alive, hl⟩ := writeRecordAt_last at_ (0x40 + d) flags v aux hlen
    refine ⟨alive, ?_⟩
    rw [if_neg (by simp [hset]), noteEdge_fifo, hz.2, hy.2.2.2, hx.2.2.2.2, hc1.2.2.2.2, hb.2.2.2.2, hw, hl, hf]
  · rw [if_neg (by simp [hset])]
    refine noteEdge_irq acts rec0 ?_
    have hyr : coreRuns y = true ∧ y.reed.owns = false := by
      refine ⟨?_, ?_⟩
      · simpa only [coreRuns, hy.2.1, hx.2.1, hc1.2.2.1, hb.2.2.1, ha.2.2.1] using hcore
      · rw [hy.2.2.1, hx.2.2.1, hc1.2.2.2.1, hb.2.2.2.1, ha.2.2.2]; exact how
    have hzz : z = setIrq y 7 := (if_neg (by rw [hact 2]; simp [e, h2])).trans (if_pos (by rw [hyr.1, hyr.2]; rfl))
    rw [hzz]
    exact (testBit_or_pow _ (by decide)).trans (by simp)

/-! ### The mark of an edge -/

theorem detRunOf_active (h : Hub) (k : Nat) : (detRunOf h k).active = (h.detRun.map DetRun.active).getD k false := by
  simp only [detRunOf, List.getD_eq_getElem?_getD, List.getElem?_map]
  cases h.detRun[k]? <;> rfl

theorem edgeSide_kept (h : edgeSide t = edgeSide s) : t.hub.dets = s.hub.dets ∧ t.hub.sticky = s.hub.sticky ∧
    t.hub.stopping = s.hub.stopping ∧ t.hub.defer = s.hub.defer ∧ t.saf = s.saf ∧ t.clk.hubTime = s.clk.hubTime ∧
    (∀ k, (detRunOf t.hub k).active = (detRunOf s.hub k).active) := by
  refine ⟨congrArg (fun x => x.1.dets) h, congrArg (fun x => x.1.sticky) h, congrArg (fun x => x.1.stopping) h,
    congrArg (fun x => x.1.defer) h, congrArg (fun x => x.2.2.1) h, congrArg (fun x => x.2.2.2) h, fun k => ?_⟩
  rw [detRunOf_active, detRunOf_active]
  exact congrArg (fun x => x.2.1.getD k false) h

theorem detRunOf_modDet {k : Nat} {f : DetRun → DetRun} (hk : k < s.hub.detRun.length) :
    detRunOf (modDet s k f).hub k = f (detRunOf s.hub k) := by
  simp [detRunOf, modDet, setHub, modAt, hk]

/-- A setting edge: the detector is active, its sticky bit is set, and DISCH is asserted where it has that action. -/
theorem markEdge_set (hd : d < 32) (hr : d < s.hub.detRun.length) : (detRunOf (markEdge s d true).hub d).active = true ∧
    (markEdge s d true).hub.sticky.toNat.testBit d = true ∧ (markEdge s d true).hub.dets = s.hub.dets ∧
    (markEdge s d true).hub.fifo = s.hub.fifo ∧ (markEdge s d true).hub.stopping = s.hub.stopping ∧
    (markEdge s d true).hub.defer = s.hub.defer ∧
    (detAction (hubDet s.hub d) 3 = true → (markEdge s d true).saf.disch = true ∧
      (markEdge s d true).saf.reasons.toNat.testBit 1 = true ∧ (markEdge s d true).saf.charger = false) := by
  unfold markEdge
  extract_lets v w
  have hw : w = { v with hub := { v.hub with sticky := v.hub.sticky ||| BitVec.ofNat 32 (2 ^ d) } } := if_pos rfl
  have hwa : (detRunOf w.hub d).active = true := by
    rw [hw]
    show (detRunOf v.hub d).active = true
    rw [show v = modDet s d _ from rfl, detRunOf_modDet hr]
  have hws : w.hub.sticky.toNat.testBit d = true := by rw [hw]; exact (testBit_or_pow _ hd).trans (by simp)
  have hwd : w.hub.dets = s.hub.dets ∧ w.hub.fifo = s.hub.fifo ∧ w.hub.stopping = s.hub.stopping ∧ w.hub.defer = s.hub.defer := by
    rw [hw]; exact ⟨rfl, rfl, rfl, rfl⟩
  have hdet : hubDet w.hub d = hubDet s.hub d := by rw [hubDet, hwd.1]; rfl
  rw [if_pos rfl, hdet]
  have hbit : (b8 (fieldAt (hubDet s.hub d) 3 1)).toNat.testBit 3 = detAction (hubDet s.hub d) 3 :=
    congrArg (·.testBit 3) (b8_toNat (fieldAt_byte_lt _ 3))
  unfold detDischarge
  rw [hbit]
  clear_value w
  cases h3 : detAction (hubDet s.hub d) 3 with
  | false => exact ⟨hwa, hws, hwd.1, hwd.2.1, hwd.2.2.1, hwd.2.2.2, fun h => absurd h (by decide)⟩
  | true =>
    have hh := hub_of_hubSide (assertDisch_hubSide (s := w) 1)
    obtain ⟨p1, p2, -, p4⟩ := assertDisch_parts (s := w) 1
    simp only [if_true]
    rw [hh]
    refine ⟨hwa, hws, hwd.1, hwd.2.1, hwd.2.2.1, hwd.2.2.2, fun _ => ⟨p1, ?_, p4⟩⟩
    exact (congrArg (fun r : BitVec 16 => r.toNat.testBit 1) p2).trans ((testBit_or_pow _ (by decide)).trans (by simp))

/-- A clearing edge of the one detector that is configured: it is clear, and DISCH has lost its reason (R485). -/
theorem markEdge_clear (hr : d < s.hub.detRun.length) (ho : ∀ k, k ≠ d → detKind (hubDet s.hub k) = 0) :
    (detRunOf (markEdge s d false).hub d).active = false ∧ (markEdge s d false).hub.dets = s.hub.dets ∧
    (markEdge s d false).hub.stopping = s.hub.stopping ∧ (markEdge s d false).hub.defer = s.hub.defer ∧
    (markEdge s d false).saf.reasons.toNat.testBit 1 = false := by
  unfold markEdge
  extract_lets v w
  have hw : w = v := if_neg (by decide)
  rw [if_neg (by decide), hw]
  have hva : (detRunOf v.hub d).active = false := by rw [show v = modDet s d _ from rfl, detRunOf_modDet hr]
  have hvd : v.hub.dets = s.hub.dets := rfl
  have hnone : detDisch v = false := by
    rw [detDisch, List.any_eq_false]
    intro p hp
    obtain ⟨k, hk, rfl⟩ := List.mem_iff_getElem.1 hp
    simp only [List.length_zip, Nat.lt_min] at hk
    simp only [List.getElem_zip, Bool.and_eq_true, not_and, Bool.not_eq_true]
    by_cases hkd : k = d
    · subst hkd
      intro _
      rw [← hva, detRunOf, List.getD_eq_getElem?_getD, List.getElem?_eq_getElem hk.2]
      rfl
    · have h0 := ho k hkd
      rw [hubDet, List.getD_eq_getElem?_getD, ← hvd, List.getElem?_eq_getElem hk.1] at h0
      simp only [Option.getD_some] at h0
      simp [h0]
  rw [refreshDetDisch, hnone]
  exact ⟨hva, hvd, rfl, rfl, (testBit_and_not_pow v.saf.reasons (i := 1) (k := 1) (by decide)).trans (by simp)⟩

/-! ### A tick with one detector -/

/-- The hub's only configured work beside the system's own is detector `d`, which judges the reservoir, ABOVE. -/
structure OneDetector (h : Hub) (d : Nat) (e : List Byte) : Prop where
  ready : h.reserve = true
  goesOn : h.stopping = false
  noWait : h.wff = none
  noDefer : h.defer = []
  noBus : h.busI2c = [] ∧ h.busSpi = []
  noDone : h.done = []
  system : h.slots.take 10 = Hub.sysSlots
  idle : ∀ n, 10 ≤ n → slotKind (hubSlot h n) = 0 ∧ (slotRunOf h n).deferred = false
  place : d < 32
  runs : h.detRun.length = 32
  entry : hubDet h d = e
  above : detKind e = 1
  source : detSource e = 0
  alone : ∀ k, k ≠ d → detKind (hubDet h k) = 0
  onTime : (detRunOf h d).late = false

theorem filter_range_eq : ∀ k < 32, (List.range 32).filter (fun c => c == k) = [k] := by decide

variable {h : Hub}

theorem OneDetector.kind_ne (o : OneDetector h d e) {k : Nat} (hk : detKind (hubDet h k) ≠ 0) : k = d := by
  by_cases he : k = d
  · exact he
  · exact absurd (o.alone k he) hk

theorem OneDetector.detsOn_eq (o : OneDetector h d e) (n : Nat) : detsOn h n = if n = 0 then [d] else [] := by
  have hk (k : Nat) : (decide (1 ≤ detKind (hubDet h k) ∧ detKind (hubDet h k) ≤ 3) && detSource (hubDet h k) == n) =
      (decide (n = 0) && k == d) := by
    by_cases he : k = d
    · subst he
      rw [o.entry, o.above, o.source]
      simp [eq_comm, Bool.beq_eq_decide_eq]
    · simp [o.alone k he, he]
  unfold detsOn
  simp only [hk]
  split
  · next h0 => simpa [h0] using filter_range_eq d o.place
  · next h0 => simp [h0]

theorem OneDetector.wkDets_eq (o : OneDetector h d e) : wkDets h = [] := by
  rw [wkDets, List.filter_eq_nil_iff]
  intro k _ h4
  have hk := o.kind_ne (k := k) (by rw [eq_of_beq h4]; decide)
  subst hk
  rw [o.entry, o.above] at h4
  exact absurd h4 (by decide)

theorem OneDetector.noCoincidence (o : OneDetector h d e) (k : Nat) : coincidenceOf (hubDet h k) = [] := by
  refine if_neg fun h5 => ?_
  have hk := o.kind_ne (k := k) (by rw [h5]; decide)
  subst hk
  rw [o.entry, o.above] at h5
  exact absurd h5 (by decide)

theorem OneDetector.cost (o : OneDetector h d e) : sysCost h d ≤ 624 := by
  have hw : withCoincidences h 32 [d] = [d] := by simp [withCoincidences, o.noCoincidence]
  have h5 : ([1, 2, 3, 4, 5].filter (detAction e)).length ≤ 5 := List.length_filter_le _ _
  simp only [sysCost, hw, List.map_cons, List.map_nil, List.foldl_cons, List.foldl_nil, o.entry, detCost, o.above]
  simp only [show (1 : Nat) ≠ 3 by decide, show (1 : Nat) ≠ 4 by decide, show (1 : Nat) ≠ 0 by decide, if_false]
  split <;> omega

theorem spread_alone (hs : ∀ k, coincidenceOf (hubDet s.hub k) = []) (n : Nat) (set : Bool) (at_ : Time) (late : Bool) :
    spread n s d set at_ late = s := by
  cases n with
  | zero => rfl
  | succ n =>
    have hf : (List.range 32).filter (fun c => (coincidenceOf (hubDet s.hub c)).contains d) = [] :=
      List.filter_eq_nil_iff.mpr fun c _ => by simp [hs]
    rw [spread, hf, List.foldl_nil]

/-- A slot of the user's that is not configured is never due. -/
theorem OneDetector.notDue {s : State} (o : OneDetector s.hub d e) {n : Nat} (hn : 10 ≤ n) : slotDue s n = false := by
  simp [slotDue, (o.idle n hn).1]

theorem flatMap_only {α : Type} {f : Nat → List α} (hf : ∀ n, n ≠ 0 → f n = []) : (List.range 64).flatMap f = f 0 := by
  have : (List.range' 1 63).flatMap f = [] := List.flatMap_eq_nil_iff.2 fun n hn => hf n (by
    obtain ⟨k, -, rfl⟩ := List.mem_range'.1 hn
    omega)
  show (0 :: List.range' 1 63).flatMap f = f 0
  rw [List.flatMap_cons, this, List.append_nil]

/-- The one piece of work of such a tick. -/
theorem OneDetector.tickPieces_eq {s : State} (o : OneDetector s.hub d e) (hp : s.pwr.st = .run) (hv : s.rst.vddaGood = true) :
    tickPieces s [] = [.sys d false] := by
  have hdue (b : Bool) : (List.range 64).flatMap (fun n =>
      if !slotDue s n then []
      else if n < 10 then
        (if s.rst.vddaGood then ((detsOn s.hub n).filter (fun d => detUrgent s.hub d == b)).map (fun d => Piece.sys d false) else [])
      else if slotUrgent s.hub n == b then [Piece.slot n false] else []) = if detUrgent s.hub d == b then [.sys d false] else [] := by
    rw [flatMap_only]
    · simp only [slotDue_reservoir o.system hp, hv, o.detsOn_eq, Bool.not_true, Bool.false_eq_true, if_false, if_true]
      cases hb : detUrgent s.hub d == b <;> simp [hb]
    · intro n hn
      by_cases h10 : n < 10
      · simp [h10, o.detsOn_eq, hn]
      · simp [o.notDue (Nat.le_of_not_lt h10)]
  have hlate : (List.range 64).flatMap (fun n =>
      (if n < 10 then ((detsOn s.hub n).filter (fun d => (detRunOf s.hub d).late)).map (fun d => Piece.sys d true)
       else if (slotRunOf s.hub n).deferred then [Piece.slot n true] else []) ++
      (([] : List BusDone).filter (fun b => b.late && b.tx.slot == n)).map Piece.done) = [] := by
    refine List.flatMap_eq_nil_iff.2 fun n _ => ?_
    by_cases h10 : n < 10
    · by_cases h0 : n = 0
      · simp [h0, o.detsOn_eq, o.onTime]
      · simp [h10, h0, o.detsOn_eq]
    · simp [h10, (o.idle n (Nat.le_of_not_lt h10)).2]
  simp only [tickPieces, hlate, hdue, o.wkDets_eq]
  cases detUrgent s.hub d <;> rfl

/-- The evaluation of the detector, on the reservoir's code. -/
theorem OneDetector.userWork_eq {s : State} (o : OneDetector s.hub d e) (hp : s.pwr.st = .run) (hv : s.rst.vddaGood = true) (wff : Bool) :
    userWork codes lit wff s = evalDet s ((codes.getD 24 0).toNat : Int) (now s) false d := by
  have hdrop : (List.range 64).filter (fun n => slotDue s n && slotKind (hubSlot s.hub n) == 2) = [] := by
    rw [List.filter_eq_nil_iff]
    intro n _ h2
    rw [Bool.and_eq_true] at h2
    by_cases h10 : n < 10
    · have hk : ∀ n < 10, slotKind (Hub.sysSlots.getD n (zeros 28)) = 1 := by decide
      rw [hubSlot_sys h10 o.system, hk n h10] at h2
      exact absurd h2.2 (by decide)
    · rw [o.notDue (Nat.le_of_not_lt h10)] at h2
      exact absurd h2.1 (by decide)
  have hdone : setHub s (fun h => { h with done := [] }) = s := by
    show { s with hub := { s.hub with done := [] } } = s
    rw [← o.noDone]
  have hsrc : slotSource (hubSlot s.hub 0) = 24 := by rw [hubSlot_sys (by decide) o.system]; rfl
  have hcost := o.cost
  simp only [userWork, o.ready, Bool.not_true, Bool.false_eq_true, if_false, hdrop, List.foldl_nil, hdone, o.noDone,
    o.tickPieces_eq hp hv, List.foldl_cons, runPiece, Bool.not_false, Bool.true_and, decide_eq_true hcost, if_true,
    o.entry, o.source, hsrc]

theorem OneDetector.qualifies_eq (o : OneDetector h d e) (v : Int) :
    qualifies e v = (decide (signedAt e 4 2 ≤ v), decide (v < signedAt e 6 2)) := by
  simp only [qualifies, o.above]

/-- The detector after a tick's system work: where that left its tables alone. -/
theorem OneDetector.after {g : Hub} (o : OneDetector h d e) {i a l p r w lt b} {f : List (List Byte)} {bus : List BusTx} (hb : bus = [])
    (hg : g = { h with i2cHeld := i, busI2c := bus, fifo := f, alive := a, fifoLost := l, fifoOver := p
                       restartDue := r, lastHigh := w, latest := lt, borrowed := b }) : OneDetector g d e := by
  subst hg hb
  exact ⟨o.ready, o.goesOn, o.noWait, o.noDefer, ⟨rfl, o.noBus.2⟩, o.noDone, o.system, o.idle, o.place, o.runs, o.entry, o.above,
    o.source, o.alone, o.onTime⟩

/-- A tick with one detector: the system's work, and then the detector's evaluation. -/
theorem OneDetector.runTick_eq {s w v : State} (o : OneDetector s.hub d e) (hs : SystemRuns s) (hw : w = systemWork codes held s)
    (hv : v = evalDet w ((codes.getD 24 0).toNat : Int) (now w) false d) (hst : v.hub.stopping = false) (hdf : v.hub.defer = []) :
    OneDetector w.hub d e ∧ runTick codes lit held s = v := by
  obtain ⟨f, a, l, p, rr, hi, lat, b, hh, -, -, -, -, hvd⟩ := systemWork_hub (codes := codes) (held := held) hs
  have ow : OneDetector w.hub d e := by rw [hw]; exact o.after (by rw [o.noBus.1]; rfl) hh
  have hwp : w.pwr.st = .run := by rw [hw, systemWork]; simpa using hs.2.1
  refine ⟨ow, ?_⟩
  unfold runTick
  extract_lets y z w' v' x
  have hz : z = y := by
    have hyo : wkDets y.hub = [] := o.wkDets_eq
    simp only [z, hyo, List.foldl_nil, ite_self]
  have hww : w' = w := by rw [hw]; exact congrArg (fun u => systemSlots codes (restartRecord u)) hz
  have hvv : v' = v := by
    simp only [v', hww, wffConvert_idle ow.noWait]
    rw [ow.userWork_eq hwp (by rw [hw]; exact hvd), hv]
  have hx : x = v := (if_neg (by rw [hvv, hst]; simp)).trans hvv
  rw [hx]
  exact if_neg (by simp [hdf])

/-- The sample that completes SET_COUNT makes a setting edge (R484). -/
theorem OneDetector.evalDet_sets {w : State} (o : OneDetector w.hub d e) (ha : Awake w) {v : Int} {at_ : Time}
    (hn : (detRunOf w.hub d).active = false) (hv : signedAt e 4 2 ≤ v) (hc : fieldAt e 8 1 ≤ (detRunOf w.hub d).setRun + 1) :
    evalDet w v at_ false d = edgeWork (markEdge w d true) d true v at_ false := by
  obtain ⟨-, -, hdets, -⟩ := markEdge_set (s := w) o.place (by rw [o.runs]; exact o.place)
  have hedge := (edgeWork_parts (d := d) true v at_ false (s := markEdge w d true) (by simpa [Awake] using ha)).1
  have hd := (edgeSide_kept hedge).1.trans hdets
  simp only [evalDet, o.entry, o.qualifies_eq, hn, hv, decide_true, if_true, hc, and_self, Bool.false_eq_true, if_false, detEdge]
  exact spread_alone (fun k => by rw [hubDet, hd]; exact o.noCoincidence k) _ _ _ _

/-- A sample that does not complete SET_COUNT moves the count alone (R484). -/
theorem OneDetector.evalDet_waits {w : State} (o : OneDetector w.hub d e) {v : Int} {at_ : Time}
    (hn : (detRunOf w.hub d).active = false) (hv : v < signedAt e 4 2 ∨ (detRunOf w.hub d).setRun + 1 < fieldAt e 8 1) :
    ∃ k, evalDet w v at_ false d = modDet w d (fun r => { r with setRun := k, clrRun := 0 }) := by
  refine ⟨if decide (signedAt e 4 2 ≤ v) then (detRunOf w.hub d).setRun + 1 else 0, ?_⟩
  have hno : ¬ (decide (signedAt e 4 2 ≤ v) = true ∧
      fieldAt e 8 1 ≤ if decide (signedAt e 4 2 ≤ v) then (detRunOf w.hub d).setRun + 1 else 0) := by
    rintro ⟨h1, h2⟩
    rw [if_pos h1] at h2
    have := of_decide_eq_true h1
    omega
  simp only [evalDet, o.entry, o.qualifies_eq, hn, Bool.false_eq_true, if_false]
  exact if_neg hno

/-- The sample that completes CLR_COUNT makes a clearing edge (R484). -/
theorem OneDetector.evalDet_clears {w : State} (o : OneDetector w.hub d e) (ha : Awake w) {v : Int} {at_ : Time}
    (hn : (detRunOf w.hub d).active = true) (hv : v < signedAt e 6 2) (hc : fieldAt e 9 1 ≤ (detRunOf w.hub d).clrRun + 1) :
    evalDet w v at_ false d = edgeWork (markEdge w d false) d false v at_ false := by
  obtain ⟨-, hdets, -⟩ := markEdge_clear (s := w) (d := d) (by rw [o.runs]; exact o.place) o.alone
  have hedge := (edgeWork_parts (d := d) false v at_ false (s := markEdge w d false) (by simpa [Awake] using ha)).1
  have hd := (edgeSide_kept hedge).1.trans hdets
  simp only [evalDet, o.entry, o.qualifies_eq, hn, hv, decide_true, if_true, hc, and_self, detEdge]
  exact spread_alone (fun k => by rw [hubDet, hd]; exact o.noCoincidence k) _ _ _ _

/-- A sample that does not complete CLR_COUNT moves the count alone (R484). -/
theorem OneDetector.evalDet_stays {w : State} (o : OneDetector w.hub d e) {v : Int} {at_ : Time}
    (hn : (detRunOf w.hub d).active = true) (hv : ¬ (v < signedAt e 6 2 ∧ fieldAt e 9 1 ≤ (detRunOf w.hub d).clrRun + 1)) :
    ∃ k, evalDet w v at_ false d = modDet w d (fun r => { r with clrRun := k, setRun := 0 }) := by
  refine ⟨if decide (v < signedAt e 6 2) then (detRunOf w.hub d).clrRun + 1 else 0, ?_⟩
  have hno : ¬ (decide (v < signedAt e 6 2) = true ∧
      fieldAt e 9 1 ≤ if decide (v < signedAt e 6 2) then (detRunOf w.hub d).clrRun + 1 else 0) := by
    rintro ⟨h1, h2⟩
    rw [if_pos h1] at h2
    exact hv ⟨of_decide_eq_true h1, h2⟩
  simp only [evalDet, o.entry, o.qualifies_eq, hn, if_true]
  exact if_neg hno

/-- However the evaluation goes, the hub goes on, and nothing that waits for a detector has come. -/
theorem OneDetector.evalDet_goesOn {w : State} (o : OneDetector w.hub d e) (ha : Awake w) (v : Int) (at_ : Time) :
    (evalDet w v at_ false d).hub.stopping = false ∧ (evalDet w v at_ false d).hub.defer = [] := by
  have hlt : d < w.hub.detRun.length := by rw [o.runs]; exact o.place
  have hedge (set : Bool) (h : (markEdge w d set).hub.stopping = false) (h' : (markEdge w d set).hub.defer = []) :
      (edgeWork (markEdge w d set) d set v at_ false).hub.stopping = false ∧
      (edgeWork (markEdge w d set) d set v at_ false).hub.defer = [] := by
    obtain ⟨-, -, h1, h2, -⟩ := edgeSide_kept (edgeWork_parts (d := d) set v at_ false (s := markEdge w d set) (by simpa [Awake] using ha)).1
    exact ⟨h1.trans h, h2.trans h'⟩
  cases hn : (detRunOf w.hub d).active with
  | false =>
    by_cases h : signedAt e 4 2 ≤ v ∧ fieldAt e 8 1 ≤ (detRunOf w.hub d).setRun + 1
    · obtain ⟨-, -, -, -, h1, h2, -⟩ := markEdge_set (s := w) o.place hlt
      rw [o.evalDet_sets ha hn h.1 h.2]
      exact hedge true (h1.trans o.goesOn) (h2.trans o.noDefer)
    · obtain ⟨k, hk⟩ := o.evalDet_waits (at_ := at_) hn (v := v) (by omega)
      rw [hk]
      exact ⟨o.goesOn, o.noDefer⟩
  | true =>
    by_cases h : v < signedAt e 6 2 ∧ fieldAt e 9 1 ≤ (detRunOf w.hub d).clrRun + 1
    · obtain ⟨-, -, h1, h2, -⟩ := markEdge_clear (s := w) (d := d) hlt o.alone
      rw [o.evalDet_clears ha hn h.1 h.2]
      exact hedge false (h1.trans o.goesOn) (h2.trans o.noDefer)
    · obtain ⟨k, hk⟩ := o.evalDet_stays (at_ := at_) hn h
      rw [hk]
      exact ⟨o.goesOn, o.noDefer⟩

end Sys2Proof.Machine
end

section
/-! PROOF of O57. The sensor buses and the statement (R462 to R476). -/

namespace Sys2Proof.Machine

variable {s t u : State} {codes lit : List (BitVec 12)} {held : Bool} {d : Nat} {e : List Byte} {x : BusTx} {rest : List BusTx}

/-! ### The sensor buses -/

theorem loseSample_hub (n : Nat) : ∃ r, (loseSample s n).hub = { s.hub with lost := s.hub.lost + 1, slotRun := r } := by
  unfold loseSample
  extract_lets v r w due
  have hw : ∃ r, w.hub = { s.hub with lost := s.hub.lost + 1, slotRun := r } := ⟨_, rfl⟩
  obtain ⟨q, hw⟩ := hw
  split
  · exact ⟨q, hw⟩
  · simp only [modSlotRun, setHub, logEvent_frame, hw]
    exact ⟨_, rfl⟩

theorem execHubBusComplete_frame {spi : Bool} {bytes : List Byte} {after : Nat} (hb : busOf s.hub spi = x :: rest)
    (hx : x.started = true) : ∃ u, exec (.hubBusComplete spi (.frame bytes after)) s = .next u ∧
      u.hub.done = s.hub.done ++ [⟨{ x with time := if spi then x.time else x.time + BitVec.ofNat 48 after }, bytes, false⟩] ∧
      busOf u.hub spi = startHead false (now s) rest ∧ busOf u.hub (!spi) = busOf s.hub (!spi) := by
  have hex : exec (.hubBusComplete spi (.frame bytes after)) s = .next (setHub (nextOnBus s spi) (fun h => { h with done := h.done ++
      [⟨if spi then x else { x with time := x.time + BitVec.ofNat 48 after }, bytes, false⟩] })) := by
    show execHubBusComplete spi (.frame bytes after) s = _
    simp only [execHubBusComplete, hb, hx, Bool.not_true, Bool.false_eq_true, if_false]
  refine ⟨_, hex, ?_⟩
  cases spi with
  | false => exact ⟨rfl, congrArg (fun l : List BusTx => startHead false (now s) (l.drop 1)) hb, rfl⟩
  | true => exact ⟨rfl, congrArg (fun l : List BusTx => startHead false (now s) (l.drop 1)) hb, rfl⟩

/-- A transaction that ends without its bytes loses its sample, and the next starts. -/
theorem lostOnBus (hb : s.hub.busI2c = x :: rest) : (nextOnBus (loseSample s x.slot) false).hub.busI2c = startHead false (now s) rest ∧
    (nextOnBus (loseSample s x.slot) false).hub.i2cHeld = false ∧
    (nextOnBus (loseSample s x.slot) false).hub.lost = s.hub.lost + 1 ∧
    (nextOnBus (loseSample s x.slot) false).hub.done = s.hub.done := by
  obtain ⟨r, h⟩ := loseSample_hub (s := s) x.slot
  have hn : now (loseSample s x.slot) = now s := by simp [now]
  simp only [nextOnBus, setBus, setHub, busOf, h, hn, hb]
  exact ⟨rfl, rfl, rfl, rfl⟩

theorem execHubBusComplete_nack (hb : s.hub.busI2c = x :: rest) (hx : x.started = true) :
    exec (.hubBusComplete false .nack) s = .next (nextOnBus (loseSample s x.slot) false) := by
  show execHubBusComplete false .nack s = _
  simp only [execHubBusComplete, busOf, Bool.false_eq_true, if_false, hb, hx, Bool.not_true]

theorem execHubBusComplete_arbLost (hb : s.hub.busI2c = x :: rest) (hx : x.started = true) :
    exec (.hubBusComplete false .arbLost) s = .next (arbLost s x rest) := by
  show execHubBusComplete false .arbLost s = _
  simp only [execHubBusComplete, busOf, Bool.false_eq_true, if_false, hb, hx, Bool.not_true]

theorem execHubI2cTimeout_lost (hb : s.hub.busI2c = x :: rest) (hx : x.started = true) :
    exec .hubI2cTimeout s = .next (nextOnBus (loseSample s x.slot) false) := by
  show execHubI2cTimeout s = _
  simp only [execHubI2cTimeout, hb, hx, if_true]

/-- The last loss of arbitration that HUB_I2C_RETRIES allows loses the sample (R476). -/
theorem arbLost_last (h : pv s.params 0x0A03 ≤ x.retries + 1) : (arbLost s x rest).hub.busI2c = rest ∧
    (arbLost s x rest).hub.i2cHeld = true ∧ (arbLost s x rest).hub.lost = s.hub.lost + 1 := by
  obtain ⟨r, hr⟩ := loseSample_hub (s := setHub s (fun h => { h with i2cHeld := true })) x.slot
  have ha : arbLost s x rest = setBus (loseSample (setHub s (fun h => { h with i2cHeld := true })) x.slot) false rest :=
    if_neg (by simpa [setHub] using h)
  rw [ha]
  simp only [setBus, setHub, Bool.false_eq_true, if_false] at hr ⊢
  rw [hr]
  exact ⟨trivial, rfl, rfl⟩

/-! ### The statement -/

/-- Settles O57: the tick is the system's work on the state 100 us on, the reservoir's reading goes through the ceiling detector
first and keeps what it did, the one detector is evaluated after it, and the buses by their ends. -/
theorem hubTicksAndBuses : Obligations.HubTicksAndBuses := by
  refine ⟨fun codes held s hv hp hr hw hd => ?_, fun codes held s hv hvd hp hr hres hw hdf hsl h27 => ?_,
    fun codes held s d e hv hvd hp hc hen hr hres hst hw hdf hi2c hspi hdone hsl hidle hdl hdr hd he hk hsrc halone hlate => ?_,
    fun spi bytes after s x rest hb hx _ => execHubBusComplete_frame hb hx, fun s x rest hb hx _ => ⟨?_, ?_, fun h => ?_, fun h => ?_⟩,
    fun s x rest hb hx h0 => ?_⟩
  · refine ⟨_, ?_, rfl⟩
    have ht : ticked s = { s with clk := passTime s.clk 100 } := by
      rw [ticked, switchDue_eq, hd]
      exact congrArg (fun l => ({ s with clk := passTime s.clk 100, cal := { s.cal with due := l } } : State)) hd.symm
    rw [execHubTick_eq codes hv hp, hr, ht]
    simp only [Bool.false_eq_true, if_false]
    rw [wffConvert_idle (by exact hw)]
  · have hs : SystemRuns (ticked s) := ticked_runs ⟨hsl, hp, hvd⟩
    obtain ⟨c, hc⟩ := ticked_eq (s := s)
    obtain ⟨u, hu, h1, h2, h3, h4, h5, h6, h7⟩ := tick_reservoir (codes := codes.dark) (lit := codes.lit) (held := held) hs
      (by rw [hc]; exact hres) (by rw [hc]; exact hw) (by rw [hc]; exact hdf) (by rw [hc]; exact h27)
    rw [hc] at h1 h3 h4 h5 h6 h7
    refine ⟨u, ?_, h1, h2, h3, h4, h5, h6, fun a b o => h7 a b (decide_eq_true (o.imp_left fun h => by rw [h]; rfl))⟩
    rw [execHubTick_eq codes hv hp, hr, if_pos rfl, hu]
  · have hs : SystemRuns (ticked s) := ticked_runs ⟨hsl, hp, hvd⟩
    obtain ⟨c, hcal⟩ := ticked_eq (s := s)
    have o : OneDetector (ticked s).hub d e := by
      rw [hcal]
      exact ⟨hres, hst, hw, hdf, ⟨hi2c, hspi⟩, hdone, hsl, hidle, hd, hdr, he, hk, hsrc, halone, hlate⟩
    obtain ⟨f, a, l, p, rr, hi, lat, b, hh, hf, -, ht, hm, -⟩ := systemWork_hub (codes := codes.dark) (held := held) hs
    have hwv : ∃ w, w = systemWork codes.dark held (ticked s) := ⟨_, rfl⟩
    obtain ⟨w, hww⟩ := hwv
    rw [← hww] at hh ht hm
    have ho : OneDetector w.hub d e := by rw [hh]; exact o.after (by rw [o.noBus.1]; rfl) rfl
    have ha : Awake w := by
      rw [hww, systemWork, hcal]
      simpa [Awake] using ⟨hp, hc, hen⟩
    have hrun : (detRunOf w.hub d) = detRunOf s.hub d := by rw [hh, hcal]; rfl
    have hnow : now w = s.clk.hubTime + 100 := ht.trans (by rw [hcal]; rfl)
    have hlt : d < w.hub.detRun.length := by rw [ho.runs]; exact hd
    obtain ⟨hgo, hdef⟩ := ho.evalDet_goesOn ha ((codes.dark.getD 24 0).toNat : Int) (now w)
    have htick := (o.runTick_eq (codes := codes.dark) (lit := codes.lit) hs hww rfl hgo hdef).2
    refine ⟨_, by rw [execHubTick_eq codes hv hp, hr, if_pos rfl, htick], fun hn hup hcnt => ?_, fun hn hno => ?_, fun hn hdn hcnt => ?_⟩
    · rw [ho.evalDet_sets ha (by rw [hrun]; exact hn) hup (by rw [hrun]; exact hcnt), hnow]
      obtain ⟨m1, m2, m3, m4, -, -, m7⟩ := markEdge_set (s := w) hd hlt
      have hdet : hubDet (markEdge w d true).hub d = e := by rw [hubDet, m3]; exact ho.entry
      obtain ⟨hes, hrec, hirq⟩ := edgeWork_parts (d := d) true ((codes.dark.getD 24 0).toNat : Int) (s.clk.hubTime + 100) false
        (s := markEdge w d true) (by simpa [Awake] using ha)
      obtain ⟨-, k2, -, -, k5, -, k7⟩ := edgeSide_kept hes
      rw [hdet] at hrec hirq
      refine ⟨⟨w, hww, rfl, ?_, hnow⟩, (k7 d).trans m1, by rw [k2]; exact m2, fun h0 hlen => ?_, fun h2 hco hreed => ?_, fun h3 => ?_⟩
      · rw [hh, hcal]
      · refine hrec rfl h0 ?_
        rw [m4, hh]
        rw [hcal] at hf
        exact Nat.lt_of_le_of_lt hf (Nat.lt_of_lt_of_le (Nat.succ_lt_succ hlen) (by decide))
      · refine hirq rfl h2 ?_ ?_
        · rw [hcal] at hm
          simpa [coreRuns, hm] using hco
        · rw [hww, systemWork, hcal]
          simpa using hreed
      · rw [k5]
        exact m7 (by rw [ho.entry]; exact h3)
    · obtain ⟨k, hkk⟩ := ho.evalDet_waits (at_ := now w) (by rw [hrun]; exact hn) (v := ((codes.dark.getD 24 0).toNat : Int))
        (by rw [hrun]; exact hno)
      rw [hkk]
      refine ⟨?_, ?_⟩
      · rw [detRunOf_modDet hlt, hrun]
        exact hn
      · show w.hub.sticky = s.hub.sticky
        rw [hh, hcal]
    · rw [ho.evalDet_clears ha (by rw [hrun]; exact hn) hdn (by rw [hrun]; exact hcnt)]
      obtain ⟨m1, -, -, -, m5⟩ := markEdge_clear (s := w) (d := d) hlt ho.alone
      obtain ⟨-, -, -, -, k5, -, k7⟩ := edgeSide_kept (edgeWork_parts (d := d) false ((codes.dark.getD 24 0).toNat : Int) (now w) false
        (s := markEdge w d false) (by simpa [Awake] using ha)).1
      exact ⟨(k7 d).trans m1, by rw [k5]; exact m5⟩
  · exact ⟨_, execHubBusComplete_nack hb hx, lostOnBus hb⟩
  · obtain ⟨h1, -, h2, -⟩ := lostOnBus hb
    exact ⟨_, execHubI2cTimeout_lost hb hx, h1, h2⟩
  · rw [execHubBusComplete_arbLost hb hx]
    exact congrArg Host.Outcome.next (if_pos h)
  · exact ⟨_, execHubBusComplete_arbLost hb hx, arbLost_last h⟩
  · show execHubI2cBackoffExpiry s = _
    simp [execHubI2cBackoffExpiry, hb, hx, h0, setHub, setBus]

end Sys2Proof.Machine
end

section
/-! PROOF of O11. The fall of VIO, and of VDDA (R52, R70, R79, R80, R504). -/

namespace Sys2Proof.Machine

variable {s t : State} {c : Byte} {a : Action}

/-! ### The main domain held, with VIO gone and DISCH asserted -/

/-- What a fall of VIO leaves: the domain held for this cause, and DISCH asserted with reason 8. -/
def VioGone (c : Byte) (t : State) : Prop := t.rst.vioGood = false ∧ t.rst.xo25Run = false ∧ t.rst.main = .held ∧
  t.rst.rstoutHigh = false ∧ t.rst.cause = c ∧ t.saf.disch = true ∧ t.saf.reasons.toNat.testBit 8 = true

theorem VioGone.of (h : VioGone c s) (hr : t.rst = s.rst) (hd : dischSide t.saf = dischSide s.saf) : VioGone c t := by
  simp only [dischSide, Prod.mk.injEq] at hd
  obtain ⟨d1, d2, -⟩ := hd
  simpa [VioGone, hr, d1, d2] using h

theorem VioGone.added (h : VioGone c s) (hr : t.rst = s.rst) (hd : t.saf.disch = true) {k : Nat} (hk : k < 16)
    (hs : t.saf.reasons = s.saf.reasons ||| BitVec.ofNat 16 (2 ^ k)) : VioGone c t := by
  obtain ⟨h1, h2, h3, h4, h5, -, h7⟩ := h
  refine ⟨by rw [hr]; exact h1, by rw [hr]; exact h2, by rw [hr]; exact h3, by rw [hr]; exact h4, by rw [hr]; exact h5, hd, ?_⟩
  rw [hs, testBit_or_pow _ hk, h7, Bool.true_or]

theorem VioGone.assertDisch (h : VioGone c s) {k : Nat} (hk : k < 16) : VioGone c (assertDisch s k) := by
  obtain ⟨p1, p2, -, -⟩ := assertDisch_parts (s := s) k
  exact h.added (by simp) p1 hk p2

@[simp] theorem applyNextCfg_saf : (applyNextCfg s).saf = s.saf := by
  unfold applyNextCfg
  split <;> simp

theorem VioGone.startPartial (h : VioGone c s) (m : BitVec 8) : VioGone c (startPartial s m) := by
  refine h.of (by simp) ?_
  simp only [Machine.startPartial]
  (repeat' split)
  · rfl
  · rfl
  · simp [modSeq]

theorem VioGone.partialToFull (h : VioGone c s) : VioGone c (partialToFull s) :=
  (h.assertDisch (k := 5) (by decide)).of (by simp [Machine.partialToFull, shutdownStores]) (by simp [Machine.partialToFull, shutdownStores])

theorem VioGone.offRequest (h : VioGone c s) : VioGone c (offRequest s) := by
  obtain ⟨p1, p2, -⟩ := startFull_parts (s := s)
  have hfull : VioGone c (startFull s) := h.added (by simp) p1 (by decide) p2
  unfold Machine.offRequest
  split
  · exact hfull
  · exact hfull
  · split
    · exact h.partialToFull
    · exact h.of rfl rfl
  all_goals exact h.of rfl rfl

theorem VioGone.partialDue (h : VioGone c s) : VioGone c (partialDue s) := by
  unfold Machine.partialDue
  split
  · exact h
  · exact (h.of (t := modSeq s (fun q => { q with due := 0 })) rfl rfl).startPartial _

theorem VioGone.hibRails (h : VioGone c s) : VioGone c (hibRails s) := by
  unfold Machine.hibRails
  extract_lets m
  split
  · exact (h.of (t := { s with pwr := { s.pwr with railsFull := true } }) rfl rfl).offRequest
  · exact h.startPartial _

theorem mainLost_dischSide : dischSide (mainLost s).saf = dischSide s.saf := by
  simp [mainLost, loseJobs, releaseCharger, closeDebug, dropTrial, deriveTrip, dischSide]

theorem mainLost_rst : (mainLost s).rst = { s.rst with wdtRun := false, resetPend := none } := by
  unfold mainLost
  extract_lets u v
  have h1 : u.rst = s.rst := by simp [u]
  show { v.rst with wdtRun := false, resetPend := none } = _
  rw [show v.rst = s.rst from by simpa [v] using h1]

theorem VioGone.moveCommit (h : VioGone c s) : VioGone c (moveCommit s) := by
  obtain ⟨h1, -, -, -, h5, h6, h7⟩ := h
  have he : ∃ w, (freshWake (enterPstate s .hibernate) 3).rst = { s.rst with wdtRun := w } := by
    simp only [freshWake_frame, enterPstate]
    split
    · exact ⟨s.rst.wdtRun, rfl⟩
    · exact ⟨false, by simp⟩
  obtain ⟨w, he⟩ := he
  have hs : (freshWake (enterPstate s .hibernate) 3).saf = s.saf := by simp
  unfold Machine.moveCommit
  generalize freshWake (enterPstate s .hibernate) 3 = u at he hs
  have hd := mainLost_dischSide (s := u)
  have hr := mainLost_rst (s := u)
  dsimp only
  generalize mainLost u = v at hd hr ⊢
  simp only [dischSide, Prod.mk.injEq, hs] at hd
  obtain ⟨d1, d2, -⟩ := hd
  refine ⟨?_, rfl, rfl, rfl, ?_, d1.trans h6, ?_⟩
  · show v.rst.vioGood = false
    rw [hr, he]; exact h1
  · show v.rst.cause = c
    rw [hr, he]; exact h5
  · show v.saf.reasons.toNat.testBit 8 = true
    rw [d2]; exact h7

theorem VioGone.moveOn (h : VioGone c s) : VioGone c (moveOn s) := by
  have hcommit (u : State) (hu : VioGone c u) : VioGone c (commitMove u) := by
    unfold commitMove
    split
    · exact hu
    · exact hu.moveCommit
  unfold Machine.moveOn
  split
  · exact hcommit _ h
  · split
    · exact h
    · refine hcommit _ (VioGone.hibRails ?_)
      exact (h.assertDisch (k := 4) (by decide)).of rfl rfl

theorem VioGone.startHibWake (h : VioGone c s) : VioGone c (startHibWake s) := by
  obtain ⟨h1, -, h3, h4, h5, h6, h7⟩ := h
  have he : ∃ w, (restartHub (enterPstate (passPart s) .run) 1).rst = { s.rst with wdtRun := w } := by
    simp only [restartHub_frame, enterPstate]
    split
    · exact ⟨s.rst.wdtRun, by simp⟩
    · exact ⟨true, by simp⟩
  obtain ⟨w, he⟩ := he
  have hs : (restartHub (enterPstate (passPart s) .run) 1).saf = { s.saf with
      reasons := s.saf.reasons &&& ~~~ (BitVec.ofNat 16 (2 ^ 1)) } := by
    rw [restartHub, dropReason_saf]
    simp
  unfold Machine.startHibWake
  generalize restartHub (enterPstate (passPart s) .run) 1 = u at he hs
  have hu : VioGone c { u with rst := { u.rst with hibWake := true, wdtRun := false, xo25Run := u.rst.vioGood }
                               reed := { u.reed with boot := true } } := by
    rw [he]
    refine ⟨h1, h1, h3, h4, h5, by rw [hs]; exact h6, ?_⟩
    rw [hs]
    exact (testBit_and_not_pow s.saf.reasons (i := 1) (k := 8) (by decide)).trans (by simp [h7])
  exact hu.of (by simp) (by simp)

theorem VioGone.powerDue (h : VioGone c s) (hf : s.rst.fullPend = false) : VioGone c (powerDue s) := by
  refine powerDue_induct hf h.partialDue (fun t ht => ht.of rfl rfl) (fun t ht => ht.moveOn) (fun t ht => ?_) (fun t ht => ht.startHibWake)
  have hm : t.rst.main ≠ .asleep := by rw [ht.2.2.1]; decide
  rw [show startNapWake t = t from if_pos hm]
  exact ht

/-! ### The fall of VIO -/

/-- The record of a fall of VIO is the last of the pending store while the core does not run (R80, R153). -/
theorem putRecord_pend (r : PendingRec) (h : coreRuns s = false) : r ∈ (putRecord s r).seq.pend := by
  have hs : ∃ l, (storePending s r).seq.pend = l ++ [r] := ⟨_, rfl⟩
  obtain ⟨l, hl⟩ := hs
  have hc : coreRuns (storePending s r) = false := by simpa [coreRuns] using h
  have hw : putRecord s r = storePending s r := if_pos (by simp [hc])
  rw [hw, hl]
  simp

/-- An aborted crossing leaves XO25, and makes no full-scope reset wait. -/
def ResetQuiet (s t : State) : Prop := t.rst.xo25Run = s.rst.xo25Run ∧ (s.rst.fullPend = false → t.rst.fullPend = false)

theorem ResetQuiet.trans {u : State} (h : ResetQuiet s t) (k : ResetQuiet t u) : ResetQuiet s u :=
  ⟨k.1.trans h.1, fun hf => k.2 (h.2 hf)⟩

theorem abortHubCfg_quiet : ResetQuiet s (abortHubCfg s) := by
  simp only [abortHubCfg]
  (repeat' split) <;> simp [ResetQuiet]

theorem abortSeqReq_quiet : ResetQuiet s (abortSeqReq s) := by
  simp only [abortSeqReq]
  (repeat' split) <;> simp +contextual [ResetQuiet, putSeqSide]

theorem abortOtpRd_quiet : ResetQuiet s (abortOtpRd s) := by
  simp only [abortOtpRd]
  (repeat' split) <;> simp [ResetQuiet]

theorem abortSeqNvm_quiet : ResetQuiet s (abortSeqNvm s) := by
  simp only [abortSeqNvm]
  (repeat' split) <;> simp [ResetQuiet]

theorem abortCrossings_quiet : ResetQuiet s (abortCrossings s) :=
  (abortHubCfg_quiet.trans (abortSeqReq_quiet.trans (abortOtpRd_quiet.trans abortSeqNvm_quiet))).trans ⟨rfl, id⟩

/-- What a main-domain reset out of HIBERNATE leaves of the reset record beside its own levels. -/
theorem mainReset_rst (hh : s.pwr.st ≠ .hibernate) (c : Byte) : (mainReset s c).rst.vioGood = s.rst.vioGood ∧
    ResetQuiet s (mainReset s c) := by
  have hq := abortCrossings_quiet (s := { s with rst := { s.rst with cause := joinCause s c, causeOpen := true } })
  have hv := (abortCrossings_rst (s := { s with rst := { s.rst with cause := joinCause s c, causeOpen := true } })).2.1
  simp only [mainReset, if_neg hh, ResetQuiet, mainLost_rst] at hq ⊢
  exact ⟨hv, hq⟩

theorem mainReset_vioGone (hh : s.pwr.st ≠ .hibernate) (hv : s.rst.vioGood = false) (hx : s.rst.xo25Run = false) (c : Byte) :
    VioGone (joinCause s c) (assertDisch (mainReset s c) 8) := by
  obtain ⟨m1, m2, m3, -⟩ := mainReset_mainDomainReset c hh
  obtain ⟨p1, p2, -, -⟩ := assertDisch_parts (s := mainReset s c) 8
  have hr : (assertDisch (mainReset s c) 8).rst = (mainReset s c).rst := by simp
  have hk : (mainReset s c).rst.vioGood = false ∧ (mainReset s c).rst.xo25Run = false := by
    obtain ⟨k1, k2, -⟩ := mainReset_rst hh c
    exact ⟨k1.trans hv, k2.trans hx⟩
  refine ⟨by rw [hr]; exact hk.1, by rw [hr]; exact hk.2, by rw [hr]; exact m1, by rw [hr]; exact m3, by rw [hr]; exact m2, p1, ?_⟩
  rw [p2]
  exact (testBit_or_pow _ (by decide)).trans (by simp)

/-- Settles O11: the fall of VIO by what the reset and DISCH leave, which no shutdown or move that follows takes back; VDDA's by the end of
the calibration. -/
theorem vioAndVddaFallAndRise : Obligations.VioAndVddaFallAndRise := by
  unfold Obligations.VioAndVddaFallAndRise
  refine ⟨fun s hv hg hh hf => ?_, fun s hv hg hh => ?_, fun s => ?_, fun s hr => ?_, fun s a hr => ?_, fun s => rfl⟩
  · have hcap (u : State) (x : RecAt) (fl : RecFlags) (hs : fl.snapshot = false) : capture u x fl = (⟨recordHead u 0xA1 x fl, none, false⟩, bumpRecSeq u) := by
      simp [capture, hs]
    obtain ⟨r, hr⟩ : ∃ r, r = (⟨recordHead (abortCrossings s) 0xA1 (recAt (abortCrossings s) 0x06 0xFF (pgByte (abortCrossings s).seq))
        ⟨false, false, true, abortDriven (abortCrossings s).seq⟩, none, false⟩ : PendingRec) := ⟨_, rfl⟩
    have hc := hcap (abortCrossings s) (recAt (abortCrossings s) 0x06 0xFF (pgByte (abortCrossings s).seq))
      ⟨false, false, true, abortDriven (abortCrossings s).seq⟩ rfl
    rw [← hr] at hc
    obtain ⟨u, hu⟩ : ∃ u, u = bumpRecSeq (abortCrossings s) := ⟨_, rfl⟩
    rw [← hu] at hc
    have hex : exec .vioLow s = .next (powerDue (offRequest (putRecord (assertDisch (mainReset
        { u with rst := { u.rst with vioGood := false, xo25Run := false } } 0x02) 8) r))) := by
      show execVioLow s = _
      simp only [execVioLow, hv, hg, hh, hc, Bool.not_true, Bool.false_eq_true, or_self, if_false]
    have hg := mainReset_vioGone (s := { u with rst := { u.rst with vioGood := false, xo25Run := false } }) (by rw [hu]; simpa [bumpRecSeq] using hh)
      rfl rfl 0x02
    have hj : joinCause { u with rst := { u.rst with vioGood := false, xo25Run := false } } 0x02 = joinCause s 0x02 := by
      simp [hu, joinCause, firstCause, bumpRecSeq]
    rw [hj] at hg
    have hfp : (mainReset { u with rst := { u.rst with vioGood := false, xo25Run := false } } 0x02).rst.fullPend = false := by
      refine (mainReset_rst (by rw [hu]; simpa [bumpRecSeq] using hh) 0x02).2.2 ?_
      rw [hu]
      exact abortCrossings_quiet.2 hf
    have hch := (assertDisch_parts (s := mainReset { u with rst := { u.rst with vioGood := false, xo25Run := false } } 0x02) 8).2.2.2
    generalize hx : mainReset { u with rst := { u.rst with vioGood := false, xo25Run := false } } 0x02 = x at hex hg hfp hch
    have hv : VioGone (joinCause s 0x02) (putRecord (assertDisch x 8) r) := hg.of (by simp) (by simp)
    have hkeep : DischHolds (putRecord (assertDisch x 8) r).saf := fun _ => by simpa using hch
    refine ⟨r, u, putRecord (assertDisch x 8) r, _, hc, by rw [hr], by rw [hr], by rw [hr]; rfl, by rw [hx], putRecord_pend r ?_, hex, rfl, fun hp => ?_, ?_⟩
    · simp [coreRuns, hg.2.2.1, show x.rst.main = .held from by simpa using hg.2.2.1]
    · obtain ⟨-, -, hf⟩ := startFull_parts (s := putRecord (assertDisch x 8) r)
      have : offRequest (putRecord (assertDisch x 8) r) = startFull (putRecord (assertDisch x 8) r) := by
        unfold offRequest
        rcases hp with hp | hp <;> rw [hp]
      rw [this]
      exact hf
    · have hend := hv.offRequest.powerDue (by simpa using hfp)
      obtain ⟨g1, g2, g3, g4, g5, g6, g7⟩ := hend
      exact ⟨g1, g2, g3, g4, g5, g6, g7, (powerDue_keeps (s := offRequest (putRecord (assertDisch x 8) r))).2.2 (offRequest_keeps.2.2 hkeep) g6⟩
  · show execVioLow s = _
    simp [execVioLow, hv, hg, hh]
  · show execVioGood s = _
    have : decide (s.pwr.st ≠ .hibernate ∧ s.pwr.st ≠ .off) = decide (s.pwr.st = .run ∨ s.pwr.st = .doze ∨ s.pwr.st = .nap) := by
      cases s.pwr.st <;> rfl
    rw [execVioGood, this]
  · show execVddaLow s = _
    have hr' : running { s with rst := { s.rst with vddaGood := false } } 0x0601 = none := hr
    simp [execVddaLow, endCal, hr']
  · have hr' : running { s with rst := { s.rst with vddaGood := false } } 0x0601 = some a := hr
    have he : endCal { s with rst := { s.rst with vddaGood := false } } 0x0008 0 =
        endAction (dropTrial (cutHeadFires { s with rst := { s.rst with vddaGood := false } } a)) 0x0601 stFault
        (calResult a 0xFF 0 ++ faultDetail 0x0008 0) := by
      simp only [endCal, hr', refuseCal]
    refine ⟨_, rfl, rfl, he, fun h7 => if_pos h7, ?_, ?_⟩
    · rw [he]
      exact endAction_ends hr (by simp [dropTrial, deriveTrip]) (by simp [dropTrial, deriveTrip]) (by simp [dropTrial, deriveTrip])
    · rw [he]
      simp [dropTrial, deriveTrip]

end Sys2Proof.Machine
end

section
/-! PROOF of O12. The resets of the main domain, and the full scope (R73 to R81, R287). -/

namespace Sys2Proof.Machine

variable {s t : State} {c : Byte}

/-! ### Resets of the main domain -/

theorem mainReset_clockHold (hh : s.pwr.st ≠ .hibernate) : (mainReset s c).rst.clockHold = s.rst.clockHold := by
  have h := (abortCrossings_rst (s := { s with rst := { s.rst with cause := joinCause s c, causeOpen := true } })).2.2.2.2.2.2.2
  simp only [mainReset, if_neg hh, mainLost_rst] at h ⊢
  exact h

theorem mainReset_reed (hh : s.pwr.st ≠ .hibernate) : (mainReset s c).reed.st = s.reed.st := by
  simp [mainReset, hh]

/-! ### A full-scope reset -/

/-- With nobody waiting for the rails, a start of the up-sequence leaves every mailbox as it is. -/
theorem seqAdvance_ctxs (h : s.seq.waiters = []) : (seqAdvance s).ctxs = s.ctxs := by
  have hs : (dropHisGate (modSeq s (settle settleFuel))).seq.waiters = [] := by
    rw [dropHisGate_seq]
    exact (settle_waiters _ _).trans h
  have hc : (dropHisGate (modSeq s (settle settleFuel))).ctxs = s.ctxs := by simp [modSeq]
  simp only [seqAdvance]
  split
  · generalize dropHisGate (modSeq s (settle settleFuel)) = u at hs hc
    exact (show (endWaiters u none).ctxs = u.ctxs by simp [endWaiters, hs, modSeq]).trans hc
  · exact hc

theorem startUp_ctxs (h : s.seq.waiters = []) : (startUp s).ctxs = s.ctxs := seqAdvance_ctxs h

theorem onRequest_ctxs (h : s.seq.waiters = []) : (onRequest s).ctxs = s.ctxs := by
  have hleave (u : State) (hu : u.seq.waiters = []) : (leaveFaultOff u).ctxs = u.ctxs := by
    simp only [leaveFaultOff]
    (repeat' split)
    · rfl
    · exact startUp_ctxs hu
    · exact startUp_ctxs hu
    · rfl
  simp only [onRequest]
  (repeat' split)
  · rfl
  · rfl
  · rfl
  · exact startUp_ctxs h
  · rfl
  · rfl
  · exact hleave _ h
  · rfl

theorem noteReads_shadows (ws : List Nat) : (noteReads s ws).otp.shadows = s.otp.shadows := by
  simp only [noteReads]
  refine List.foldlRecOn ws _ (motive := fun t : State => t.otp.shadows = s.otp.shadows) rfl fun t ht i _ => ?_
  (repeat' split) <;> simp [ht]

/-- What Clove's start leaves of a state in which nobody waits for the rails. -/
theorem cloveStart_kept (aux : Half) (h : s.seq.waiters = []) : (cloveStart s aux).ctxs = s.ctxs ∧
    (cloveStart s aux).params = s.params ∧ (cloveStart s aux).jobs = s.jobs ∧ (cloveStart s aux).dbg = s.dbg ∧
    (cloveStart s aux).clk.hubTime = s.clk.hubTime ∧ (cloveStart s aux).clk.rtc = s.clk.rtc ∧
    (cloveStart s aux).saf.charger = s.saf.charger ∧ (cloveStart s aux).saf.disch = s.saf.disch ∧
    (cloveStart s aux).saf.hold = s.saf.hold ∧ (cloveStart s aux).otp.shadows = s.otp.shadows := by
  unfold cloveStart
  extract_lets hold trimmed r k rd p q u v
  have hv : v.ctxs = s.ctxs ∧ v.params = s.params ∧ v.jobs = s.jobs ∧ v.dbg = s.dbg ∧ v.clk.hubTime = s.clk.hubTime ∧
      v.clk.rtc = s.clk.rtc ∧ v.saf.charger = s.saf.charger ∧ v.saf.disch = s.saf.disch ∧ v.saf.hold = s.saf.hold ∧
      v.otp.shadows = s.otp.shadows ∧ v.seq.waiters = s.seq.waiters := by
    have hu : u.ctxs = s.ctxs ∧ u.params = s.params ∧ u.jobs = s.jobs ∧ u.dbg = s.dbg ∧ u.clk.hubTime = s.clk.hubTime ∧
        u.clk.rtc = s.clk.rtc ∧ u.saf = s.saf ∧ u.otp = s.otp ∧ u.seq.waiters = s.seq.waiters :=
      ⟨rfl, rfl, rfl, rfl, rfl, rfl, rfl, rfl, rfl⟩
    clear_value u
    simp [v, restartHub, deriveTrip, noteReads_shadows, dropReason_saf, hu]
  obtain ⟨h1, h2, h3, h4, h5, h6, h7, h8, h9, h10, h11⟩ := hv
  clear_value v
  split
  · refine ⟨(onRequest_ctxs (h11.trans h)).trans h1, ?_⟩
    simp [h2, h3, h4, h5, h6, h7, h8, h9, h10]
  · exact ⟨h1, h2, h3, h4, h5, h6, h7, h8, h9, h10⟩

theorem mainLost_kept : (mainLost s).saf.hold = s.saf.hold ∧ (mainLost s).jobs.nextId = s.jobs.nextId ∧
    (mainLost s).otp.words = s.otp.words := by
  have hd := mainLost_dischSide (s := s)
  simp only [dischSide, Prod.mk.injEq] at hd
  exact ⟨hd.2.2.1, by simp [mainLost, loseJobs], by simp [mainLost]⟩

/-- A full-scope reset is Clove's start on a state that is as at reset but for what the spec keeps (R74, R75, R287). -/
theorem fullReset_start : ∃ x, fullReset s = cloveStart x 2 ∧ x.seq.waiters = [] ∧ x.ctxs = State.reset.ctxs ∧
    x.params = State.reset.params ∧ x.jobs.live = [] ∧ x.jobs.nextId = (mainLost s).jobs.nextId ∧ x.dbg.level = .none ∧
    x.clk.hubTime = 0 ∧ x.clk.rtc = 0 ∧ x.saf.charger = false ∧ x.saf.disch = true ∧ x.saf.hold = (mainLost s).saf.hold ∧
    x.otp.shadows = [] ∧ x.rst.wdtRun = false ∧ x.rst.fullPend = false ∧
    x.rst.hostAddr = (mainLost s).rst.hostAddr ∧ x.otp.words = (mainLost s).otp.words ∧
    x.rst.cause = firstCause (mainLost s) 0x07 := by
  unfold fullReset
  extract_lets u r r1 r2 r3 r4 r5 r6 r7 r8 r9
  exact ⟨_, rfl, rfl, rfl, rfl, rfl, rfl, rfl, rfl, rfl, rfl, rfl, rfl, rfl, rfl, rfl, rfl, rfl, rfl⟩

theorem fullReset_fullScope : FullScopeReset s (fullReset s) := by
  obtain ⟨k1, k2, k3⟩ := mainLost_kept (s := s)
  have hr := mainLost_rst (s := s)
  obtain ⟨x, hx, hw, hc, hp, hj, hn, hdb, ht, hrt, hch, hd, hh, hsh, hwd, hfp, hha, hwords, hcause⟩ := fullReset_start (s := s)
  have hfc : firstCause (mainLost s) 0x07 = firstCause s 0x07 := by simp only [firstCause, hr]
  obtain ⟨p1, p2, p3, p4, p5⟩ := cloveStart_parts (s := x) 2
  obtain ⟨q1, q2, q3, q4, q5, q6, q7, q8, q9, q10⟩ := cloveStart_kept (s := x) 2 hw
  have hcr := cloveStart_rst (s := x) 2
  rw [hx]
  generalize cloveStart x 2 = t at *
  refine ⟨⟨?_, ?_, ?_, ?_, ?_, q7.trans hch, by rw [q3]; exact hj, q1.trans hc, ?_, ?_, p2, p3, by rw [q4]; exact hdb⟩, ?_, ?_, p1,
    q5.trans ht, q6.trans hrt, q8.trans hd, q9.trans (hh.trans k1), by rw [q3]; exact hn.trans k2, p4, p5.trans (hwords.trans k3),
    q10.trans hsh⟩
  · rw [hcr]
  · rw [hcr, hcause, hfc]
  · rw [hcr]
  · rw [hcr]
  · rw [hcr]; exact hwd
  · rw [q2, hp]; rfl
  · rw [q2, hp]; rfl
  · rw [hcr]; exact hfp
  · rw [hcr, hha, hr]

/-- With the rails down and no partial sequence waiting, a full-scope reset that waits is made (R287). -/
theorem powerDue_fullReset (hf : s.rst.fullPend = true) (hp : s.seq.ph = .off ∨ s.seq.ph = .minOff ∨ s.seq.ph = .faultOff)
    (hd : s.seq.due = 0) : powerDue s = fullReset s := by
  have hpart : partialDue s = s := if_pos (.inr hd)
  have hnd : ¬ (s.seq.ph = .down ∨ s.seq.due ≠ 0) := by rcases hp with h | h | h <;> simp [h, hd]
  simp only [powerDue, hpart, if_neg hnd, hf, if_true]

theorem offRequest_down (hp : s.seq.ph = .off ∨ s.seq.ph = .minOff ∨ s.seq.ph = .faultOff) :
    ∃ f : Seq → Seq, offRequest s = modSeq s f ∧ (f s.seq).ph = s.seq.ph ∧ (f s.seq).due = s.seq.due := by
  rcases hp with h | h | h <;> simp only [offRequest, h] <;> exact ⟨_, rfl, h, rfl⟩

theorem execSysResetApply_core (hh : s.pwr.st ≠ .hibernate) (hr : s.rst.resetPend = some false) :
    ∃ t, exec .sysResetApply s = .next t ∧ MainDomainReset (joinCause s 0x06) t := by
  have he : applyReset s = mainReset { s with rst := { s.rst with resetPend := none } } 0x06 := by simp only [applyReset, hr]
  exact ⟨_, congrArg Host.Outcome.next he, mainReset_mainDomainReset (s := { s with rst := { s.rst with resetPend := none } }) 0x06 hh⟩

theorem applyReset_full (hr : s.rst.resetPend = some true) : applyReset s = powerDue (seqReq
    { s with rst := { s.rst with resetPend := none } } 0x0102 (fun s => offRequest { s with rst := { s.rst with fullPend := true } })) := by
  simp only [applyReset, hr]

/-- The shutdown of a full off request leaves the charger off (R27). -/
theorem startFull_charger : (startFull s).saf.charger = false := by
  have hd : (startFull s).saf.disch = true := startFull_parts.1
  have hw (v : State) (h : DischHolds v.saf) (n : Nat) : DischHolds (walk n v).saf := (walk_keeps n).2.2 h
  have h0 : DischHolds (startFull s).saf := by
    refine hw _ ?_ _
    show DischHolds (shutdownStores (assertDisch s 5)).saf
    rw [shutdownStores_seq.2]
    exact assertDisch_holds s 5
  exact h0 hd

/-- A pulse on NRST that R77 leaves open is ignored or acts, as a free bit has it (log entry 6). -/
theorem execNrstLow_between {ns : Nat} (hv : s.rst.vaoGood = true) (h1 : 200 ≤ ns) (h2 : ns ≤ 1000) (hp : s.pwr.st ≠ .hibernate) :
    ∃ t, exec (.nrstLow ns) s = .next t ∧ (t = (drawBit s).2 ∨ MainDomainReset (joinCause s 0x03) t) := by
  have hex : exec (.nrstLow ns) s = if !(drawBit s).1 then .next (drawBit s).2 else
      .next (mainReset (reedReset (drawBit s).2) 0x03) := by
    show execNrstLow ns s = _
    simp only [execNrstLow, hv, Bool.not_true, Bool.false_eq_true, false_or, if_neg (Nat.not_lt.2 h1), if_neg (Nat.not_lt.2 h2)]
    rfl
  rw [hex]
  cases (drawBit s).1 with
  | false => exact ⟨_, rfl, .inl rfl⟩
  | true => exact ⟨_, rfl, .inr (mainReset_mainDomainReset (s := reedReset (drawBit s).2) 0x03 hp)⟩

/-- Settles O12: every cause by what a reset of the main domain leaves; a full-scope reset by Clove's start on a state that is as at
reset but for what the spec keeps, made once the rails are down. -/
theorem resetsHoldMainDomain : Obligations.ResetsHoldMainDomain := by
  unfold Obligations.ResetsHoldMainDomain
  refine ⟨fun ns s hv h hp => ?_, fun s hw hp => ?_, fun s hv hg hp => ?_, fun s hm hp hc => ?_, fun s hr hp => execSysResetApply_core hp hr,
    fun ns s hv h1 h2 hp => ?_, fun s hr hd hp => ?_, fun s hr hp => ?_, fun s hf => ⟨fun hp => ?_, fun hp hd => ?_⟩⟩
  · exact ⟨_, execNrstLow_long hv h, joinCause_reedReset (s := s) 0x03 ▸ mainReset_mainDomainReset 0x03 hp, mainReset_reed hp⟩
  · exact ⟨_, congrArg Host.Outcome.next (if_pos hw), mainReset_mainDomainReset _ hp⟩
  · have hh : s.pwr.st ≠ .hibernate := by rcases hp with h | h <;> rw [h] <;> decide
    refine ⟨_, ?_, mainReset_mainDomainReset (s := { s with rst := { s.rst with clockHold := true } }) 0x05 hh, mainReset_clockHold hh⟩
    show execClockFail s = _
    rcases hp with h | h <;> simp [execClockFail, hv, hg, h]
  · have hh : s.pwr.st ≠ .hibernate := by rcases hp with h | h <;> rw [h] <;> decide
    refine ⟨_, ?_, mainReset_mainDomainReset 0x08 hh⟩
    show execCoreDebugReset s = _
    rcases hp with h | h <;> simp [execCoreDebugReset, hm, h, hc]
  · exact execNrstLow_between hv h1 h2 hp
  · obtain ⟨f, h1, h2, h3⟩ := offRequest_down (s := { s with rst := { s.rst with resetPend := none, fullPend := true } }) hp
    obtain ⟨q, hq⟩ : ∃ q, seqReq { s with rst := { s.rst with resetPend := none } } 0x0102
        (fun s => offRequest { s with rst := { s.rst with fullPend := true } }) =
        { s with seq := f s.seq, rst := { s.rst with resetPend := none, fullPend := true, raSeq := q } } := by
      rw [seqReq, h1]
      exact ⟨_, rfl⟩
    have hfull := powerDue_fullReset (s := { s with seq := f s.seq
                                                    rst := { s.rst with resetPend := none, fullPend := true, raSeq := q } }) rfl
      (by show (f s.seq).ph = .off ∨ (f s.seq).ph = .minOff ∨ (f s.seq).ph = .faultOff; rw [h2]; exact hp) (h3.trans hd)
    refine ⟨_, congrArg Host.Outcome.next ((applyReset_full hr).trans ((congrArg powerDue hq).trans hfull)), ?_⟩
    exact fullReset_fullScope (s := { s with seq := f s.seq
                                             rst := { s.rst with resetPend := none, fullPend := true, raSeq := q } })
  · have hoff : offRequest { s with rst := { s.rst with resetPend := none, fullPend := true } } =
        startFull { s with rst := { s.rst with resetPend := none, fullPend := true } } := by
      rcases hp with h | h <;> simp only [offRequest, h]
    obtain ⟨q, hq⟩ : ∃ q, seqReq { s with rst := { s.rst with resetPend := none } } 0x0102
        (fun s => offRequest { s with rst := { s.rst with fullPend := true } }) =
        { startFull { s with rst := { s.rst with resetPend := none, fullPend := true } } with
          rst := { s.rst with resetPend := none, fullPend := true, raSeq := q } } := by
      have hr : (startFull { s with rst := { s.rst with resetPend := none, fullPend := true } }).rst =
        { s.rst with resetPend := none, fullPend := true } := by simp
      rw [seqReq, hoff, hr]
      exact ⟨_, rfl⟩
    obtain ⟨p1, p2, p3⟩ := startFull_parts (s := { s with rst := { s.rst with resetPend := none, fullPend := true } })
    refine ⟨_, congrArg Host.Outcome.next ((applyReset_full hr).trans (congrArg powerDue hq)), rfl, rfl, rfl, p1, ?_, ?_, p3⟩
    · exact (congrArg (fun r : BitVec 16 => r.toNat.testBit 5) p2).trans ((testBit_or_pow _ (by decide)).trans (by simp))
    · exact startFull_charger
  · have hpart : partialDue s = s := if_pos (.inl (by rw [hp]; decide))
    simp only [powerDue, hpart, hp, true_or, if_true]
  · rw [powerDue_fullReset hf hp hd]
    exact fullReset_fullScope

end Sys2Proof.Machine
end

section
/-! PROOF of O17. A transaction that backs off keeps the hub running (R462, R476). -/

namespace Sys2Proof.Machine

/-! ### An entry while a transaction backs off -/

/-- A transaction that has lost arbitration once and waits to be tried again. -/
def backedOff : BusTx := ⟨10, zeros 32, false, 0, 1, false⟩

/-- A wake from HIBERNATE that has found no VIO, while a transaction backs off. -/
def backedOffWake : State := { State.reset with
  rst := { State.reset.rst with hibWake := true }
  pwr := { State.reset.pwr with st := .run }
  hub := { State.reset.hub with running := true, busI2c := [backedOff] } }

/-- The hub that is asked to stop keeps the transaction that backs off, and runs on for it (R462, R476). -/
theorem backedOffWake_runsOn : ∃ t, exec .pwrVioWaitExpiry backedOffWake = .next t ∧ t.hub.running = true := ⟨_, rfl, rfl⟩

/-- Refutes O17: the hub that stops for HIBERNATE runs on while a transaction that has lost arbitration backs off, though no transaction has
started and none has ended. -/
theorem not_lowPowerEntries : ¬ Obligations.LowPowerEntries := by
  unfold Obligations.LowPowerEntries
  rintro ⟨-, -, -, -, -, -, -, hwake, -⟩
  obtain ⟨t, ht, -, -, -, -, hoff, -⟩ := hwake backedOffWake rfl rfl rfl rfl
  obtain ⟨u, hu, hrun⟩ := backedOffWake_runsOn
  rw [Host.Outcome.next.inj (hu.symm.trans ht), hoff (by decide)] at hrun
  exact Bool.false_ne_true hrun

end Sys2Proof.Machine
end

section
/-! PROOF of O14. A disabled motor whose _EN stands high (R412 to R414). -/

namespace Sys2Proof.Machine

variable {s : State}

/-! ### What a boundary leaves of the faulted motors -/

/-- The faults, the disabled motors, and which of these have their _EN high: no move raises a disabled motor's. -/
def faulted (m : Motion) : BitVec 3 × BitVec 3 × BitVec 3 := (m.flt, m.disabled, m.en &&& m.disabled)

theorem faulted_raised (m : Motion) (b : BitVec 3) : faulted { m with en := m.en ||| (b &&& ~~~ m.disabled) } = faulted m := by
  have h : ∀ e d b : BitVec 3, (e ||| (b &&& ~~~ d)) &&& d = e &&& d := by decide
  exact congrArg (fun x => (m.flt, m.disabled, x)) (h m.en m.disabled b)

@[simp] theorem raiseEn_faulted (b : BitVec 3) : faulted (raiseEn s b).motion = faulted s.motion := faulted_raised _ _

@[simp] theorem wakeDoze_faulted : faulted (wakeDoze s).motion = faulted s.motion := by
  by_cases h : s.pwr.st = .doze
  · have hn : s.pwr.st ≠ .run := by rw [h]; decide
    simp only [wakeDoze, if_pos h, enterPstate, if_neg hn, logEvent_frame, if_true]
    exact faulted_raised s.motion (busyMotors s.motion)
  · simp [wakeDoze, h]

@[simp] theorem feedStart_faulted (u : FeedUse) (r : Nat) : faulted (feedStart s u r).motion = faulted s.motion :=
  raiseEn_faulted (s := s) (feedMotor s u)

@[simp] theorem auxFromHere_faulted (v n : Nat) : faulted (auxFromHere s v n).motion = faulted s.motion := rfl

@[simp] theorem auxStart_faulted (u : FeedUse) (n : Nat) : faulted (auxStart s u n).motion = faulted s.motion := by
  rw [auxStart, feedStart_faulted, auxFromHere_faulted]
  rfl

@[simp] theorem sledTo_faulted (p : Nat) : faulted (sledTo s p).motion = faulted s.motion := by
  by_cases h : s.motion.sledPos = some p
  · simp only [sledTo, h, if_true]
    rfl
  · simp only [sledTo, h, if_false]
    exact raiseEn_faulted (s := s) 4

@[simp] theorem uncap_faulted : faulted (uncap s).motion = faulted s.motion := by
  unfold uncap
  split
  · rfl
  · extract_lets l
    rw [sledTo_faulted]
    rfl

@[simp] theorem sledGoes_faulted (l : List Nat) : faulted (sledGoes s l).motion = faulted s.motion := raiseEn_faulted _

@[simp] theorem beginScan_faulted (a : Action) : faulted (beginScan s a).motion = faulted s.motion := by
  unfold beginScan
  rw [sledGoes_faulted]
  exact uncap_faulted

@[simp] theorem beginService_faulted (a : Action) : faulted (beginService s a).motion = faulted s.motion := by
  unfold beginService
  extract_lets r m v
  rw [sledGoes_faulted]
  show faulted v.motion = _
  simp only [v]
  split
  · rfl
  · exact uncap_faulted

@[simp] theorem startCal_faulted (a : Action) : faulted (startCal s a).motion = faulted s.motion := by
  unfold startCal
  extract_lets code sel p f c v
  have hv : v.motion = s.motion := by simp [v]
  (repeat' split) <;> simp [refuseCal, dropTrial, deriveTrip, hv]

@[simp] theorem startAction_faulted (a : Action) : faulted (startAction s a).motion = faulted s.motion := by
  simp only [startAction]
  (repeat' split) <;> simp
  rfl

@[simp] theorem autoSpit_faulted : faulted (autoSpit s).motion = faulted s.motion := startAction_faulted _

@[simp] theorem autoAction_faulted (o : Half) (p : List Byte) : faulted (autoAction s o p).motion = faulted s.motion :=
  startAction_faulted _

@[simp] theorem showHead_faulted : faulted (showHead s).motion = faulted s.motion := by
  unfold showHead
  split <;> simp

@[simp] theorem clearPaper_faulted : faulted (clearPaper s).motion = faulted s.motion := by
  unfold clearPaper
  (repeat' split)
  · exact auxStart_faulted _ _
  · exact auxStart_faulted _ _
  · rfl

@[simp] theorem endFiring_faulted (j : Job) : faulted (endFiring s j).motion = faulted s.motion := by
  have hm : (setJobState (modJob s j.id (fun j => { j with bands := [] })) j.id .cutting 0).motion = s.motion := by simp
  unfold endFiring
  generalize setJobState (modJob s j.id (fun j => { j with bands := [] })) j.id .cutting 0 = u at hm
  rw [← hm]
  exact faulted_raised u.motion 1

@[simp] theorem startTicket_faulted (j : Job) : faulted (startTicket s j).motion = faulted s.motion := by
  unfold startTicket
  extract_lets p u v t0 m w t
  have hu : faulted u.motion = faulted s.motion := by simp [u]
  have hv : faulted v.motion = faulted s.motion := by
    simp only [v]
    split
    · exact uncap_faulted.trans hu
    · exact hu
  have hw : faulted w.motion = faulted s.motion := hv
  clear_value w
  split
  · exact autoSpit_faulted.trans hv
  · split
    · split
      · simpa using hw
      · rw [endFiring_faulted]
        simpa using hw
    · split
      · simpa using hw
      · extract_lets x y z
        have hx : faulted x.motion = faulted w.motion := rfl
        have hy : faulted y.motion = faulted s.motion := (feedStart_faulted (s := fromHere x) _ _).trans (hx.trans hw)
        simpa [z] using hy

@[simp] theorem boundary_faulted : faulted (boundary s).motion = faulted s.motion := by
  simp only [boundary]
  (repeat' split) <;> simp

theorem schedule_faulted : faulted (schedule s).motion = faulted s.motion := by
  have hb (k : Nat) (u : State) : faulted (boundaries k u).motion = faulted u.motion := by
    induction k generalizing u with
    | zero => rfl
    | succ k ih => exact (ih _).trans boundary_faulted
  exact hb _ s

/-! ### A disabled motor whose _EN stands high -/

/-- The first motor's driver has faulted and is disabled, yet its _EN stands high, as the part wakes from NAP. -/
def enAstray : State := { State.reset with
  rst := { State.reset.rst with main := .waking }
  pwr := { State.reset.pwr with st := .doze }
  motion := { State.reset.motion with en := 1, flt := 1, disabled := 1 } }

/-- Warm-ready disables the motors that are not disabled yet, and leaves the others as they are. -/
theorem warmReady_enAstray : ∃ u, exec (.warmReady 0) enAstray = .next (schedule u) ∧ faulted u.motion = (1, 1, 1) := by
  show ∃ u, execWarmReady 0 enAstray = .next (schedule u) ∧ _
  have hm : enAstray.motion.flt = 1 ∧ enAstray.motion.disabled = 1 ∧ faulted enAstray.motion = (1, 1, 1) := ⟨rfl, rfl, rfl⟩
  unfold execWarmReady
  rw [if_neg (by decide)]
  extract_lets r p a b c d e f
  refine ⟨_, rfl, ?_⟩
  have ha : a.motion = enAstray.motion := by rw [show a = phyGate _ from if_pos rfl]; rfl
  have hd : (startSeqWrite (eraseReported 8 d)).motion = enAstray.motion := by simp [d, c, b, ha]
  have he : e.motion = enAstray.motion := by
    have hnone : (List.range 3).filter (fun m => (1 : BitVec 3).toNat.testBit m && !(1 : BitVec 3).toNat.testBit m) = [] := by decide
    simp only [e, findFaults, hd, hm.1, hm.2.1, hnone, List.foldl_nil]
  have hf : faulted f.motion = faulted e.motion := by
    simp only [f]
    split
    · rfl
    · exact wakeDoze_faulted
  rw [show (usbAttach f).motion = f.motion by simp, hf, he]
  exact hm.2.2

/-- Refutes O14: warm-ready finds a faulted motor that is disabled already, and leaves its _EN, which nothing after it takes down. -/
theorem not_mainDomainReleasesAndCeholeComesUp : ¬ Obligations.MainDomainReleasesAndCeholeComesUp := by
  unfold Obligations.MainDomainReleasesAndCeholeComesUp
  rintro ⟨-, -, -, -, -, -, -, hwarm⟩
  obtain ⟨u, hu, -, -, -, -, -, -, -, hmotors⟩ := hwarm 0 enAstray rfl rfl
  obtain ⟨v, hv, hf⟩ := warmReady_enAstray
  have hsch : schedule u = schedule v := Host.Outcome.next.inj (hu.symm.trans hv)
  have huf : faulted u.motion = (1, 1, 1) := by rw [← schedule_faulted, hsch, schedule_faulted, hf]
  simp only [faulted, Prod.mk.injEq] at huf
  obtain ⟨hflt, hdis, hen⟩ := huf
  have hlow : u.motion.en.toNat.testBit 0 = false := (hmotors 0 (by rw [hflt]; rfl)).2
  rw [hdis] at hen
  have hbit : ∀ e : BitVec 3, e &&& 1 = 1 → e.toNat.testBit 0 = true := by decide
  rw [hbit _ hen] at hlow
  exact Bool.noConfusion hlow

end Sys2Proof.Machine
end
